-- ==== Sys2Proof/Word.lean ====
section
/-! DEFINITION. The word types of the model: bytes of a frame, a journal entry or a BLOB object. -/

namespace Sys2Proof

/-- One byte of a frame, of a journal entry or of a BLOB object (R11, R312). -/
abbrev Byte := BitVec 8

/-- A 16-byte key or address (R343, R335). -/
abbrev Bytes := List Byte

end Sys2Proof
end

