-- ==== Sys2Proof/Syntax.lean ====
section
/-! DEFINITION. The commands of the block: one constructor per row of spec/opcode_table.json, in the table's order.
The first operand `t` of every command is the instant of the happening, in quarter-nanoseconds (log entry 2). -/

namespace Sys2Proof

/-- Who makes a write or a read: the session (0xFFFF for the firmware on its own account), and the store requester of
R328. -/
structure By where
  sid : Nat
  rq : Nat
deriving DecidableEq, Repr

/-- What the header of an image says of it (R508): firmware version, security version, key index. -/
structure FwImg where
  version : Nat
  sec : Nat
  key : Nat
deriving DecidableEq, Repr

/-- What a contributing device has from its host for the start sequence and the reference run of a cascade axis, whose own
start objects it does not use (R79, R225): the cascade axis; the phase of a reference run (0 none, 1 Align, 2 Ramp, 3 failed,
4 Blend); the host's A_ALIGN_ANGLE, A_ALIGN_CURRENT, A_ALIGN_TIME, A_RAMP_ACCEL, A_RAMP_CURRENT and A_HO_BLEND; the direction of
the ramp and the speed it heads for in 0.1 Hz. -/
structure HostStart where
  axis : Nat
  refPhase : Nat
  alignAngle : Nat
  alignCurrent : Nat
  alignTime : Nat
  accel : Nat
  rampCurrent : Nat
  blend : Nat
  dir : Int
  target : Int
deriving DecidableEq, Repr

/-- Whether a run passes its residue check, and its twin where one runs (R182, R183). -/
structure Residue where
  lane : Bool
  twin : Bool
deriving DecidableEq, Repr

/-- An encoder input and the filters that have accepted the change: bit 0 the input's own, bits 1 and 2 those of safety channels A
and B, which have filters of their own at ENC0 (R214, R222, R256). -/
structure EncIn where
  enc : Fin 2
  who : BitVec 3
deriving DecidableEq, Repr

/-- A CYCLE frame, with what the hosts give for their start sequences and reference runs, and the DV_SERIAL of the master that
sends it (R79, R389, R396). -/
structure CycleIn where
  bytes : Bytes
  starts : List HostStart
  serial : Nat
deriving DecidableEq, Repr

/-- The control field of a received CAN frame: FDF, BRS, ESI, and the length that its DLC spells, which a remote frame carries
without data (R416, R426). -/
structure CanCtl where
  fdf : Bool
  brs : Bool
  esi : Bool
  len : Nat
deriving DecidableEq, Repr

/-- What ISO 11898-1 adds to an error counter at one error: nothing, 1 or 8 (R422; log entry 21). -/
inductive IsoStep where
  | none
  | one
  | eight
deriving DecidableEq, Repr

/-- A fault of a monitoring cycle that has left another value in one channel's copy of a value of the envelope, and the periods of its
own 200 MHz clock that Tongs B has counted since its last cycle start (R277, R440). -/
structure TongsIn where
  upset : Option (Fin 2 × Fin 24 × BitVec 32)
  ownB : Nat
deriving DecidableEq, Repr

/-- What a rail does at its warning level: it has stayed below it, with its lowest reading in mV, or has recovered from it, for which
the table has no row of its own (R454, R456; log entry 61). -/
inductive RailLevel where
  | below (mv : Nat)
  | recovered
deriving DecidableEq, Repr

/-- The TAP at an instant leaves Test-Logic-Reset or, as `back` says, has come back into it, for which the table has no row of its own
(R466; log entry 23). -/
structure TapIn where
  at_ : Nat
  back : Bool
deriving DecidableEq, Repr

/-- A token of an enumeration, with the addresses that the master holds in NZ_LOST and the serial numbers for which it holds them
(R404, R411). -/
structure EnumIn where
  bytes : Bytes
  held : List (Nat × Nat)
deriving DecidableEq, Repr

/-- A PREPARE, with the commit point 1 or 2 of a transaction whose writes all lie on this device, its sections and its fence domain,
for which the message has no field (R366, R377; log entry 104); another point is the message's own. -/
structure PrepareIn where
  bytes : Bytes
  point : Nat
  secs : Nat
  dom : Nat
deriving DecidableEq, Repr

/-- What the ranking of a takeover rests on: the standby that the new master will name, and the keys of the master-capable
devices by address (R402, R412). -/
structure Ranking where
  next : Nat
  keys : List (Nat × Nat)
deriving DecidableEq, Repr

/-- A COMMAND 0x02, with the hosts' pole pairs by cascade axis (R36, R403). -/
structure PassIn where
  bytes : Bytes
  poles : List (Nat × Nat)
deriving DecidableEq, Repr

/-- What the master judges a newcomer by beside its ANNOUNCE frame: its NZ_OFFSET in ps, and the cascade axes to which it
contributes with pole pairs that differ from the host's (R36, R405). -/
structure Newcomer where
  offset : Int
  barred : List Nat
deriving DecidableEq, Repr

/-- The commands (spec/opcode_table.json). -/
inductive Instr where
  /-- SEQUENCER_EVALUATION (R42): Every 100 ns the sequencer of a section computes θc and advance, and places the next step change. -/
  | sequencerEvaluation (t : Nat) (x : Fin 6)
  /-- STEP_CHANGE (R43): At the placed instant the outgoing switch of the changed leg turns off and the incoming switch takes its state. -/
  | stepChange (t : Nat) (x : Fin 6)
  /-- LOCKED_ROTOR (R56): S_LOCK_TIME passes with detection armed and no step entered, so S_LOCK_STATE is set and S_LOCK_ACTION is taken. -/
  | lockedRotor (t : Nat) (x : Fin 6)
  /-- JOIN_START (R57): A write of S_ENABLE = 1 to a section in state 0 starts the join and checks its status pins and latches. -/
  | joinStart (t : Nat) (b : By) (x : Fin 6)
  /-- LEAVE_START (R58): A write of S_ENABLE = 0 starts the leave ramp, or abandons a join that is waiting. -/
  | leaveStart (t : Nat) (b : By) (x : Fin 6)
  /-- JOIN_ANGLE_VALID (R57): A join waiting at step 2 finds the axis angle source valid and starts the Bellows precharge. -/
  | joinAngleValid (t : Nat) (x : Fin 6)
  /-- PRECHARGE_PULSE (R136): The next low-side precharge pulse is commanded 2 µs after the previous one ends, or when room under S_BLW_MAX_COIN returns. -/
  | prechargePulse (t : Nat) (x : Fin 6)
  /-- PRECHARGE_COMPLETE (R136): All three status pins hold level 0 for 1 µs after the last pulse, so the join proceeds to its next boundary. -/
  | prechargeComplete (t : Nat) (x : Fin 6)
  /-- JOIN_RAMP_END (R57): The share ramp reaches full after S_JOIN_TIME, so the section enters state 2 and 0x34 is journalled. -/
  | joinRampEnd (t : Nat) (x : Fin 6)
  /-- LEAVE_RAMP_END (R58): The leave ramp reaches zero share, and the switches are to turn off at the next boundary. -/
  | leaveRampEnd (t : Nat) (x : Fin 6)
  /-- VOLTAGE_ADC_CONVERSION (R64): A conversion of a switch node or the DC link completes and feeds the comparator, the chopper and the lanes. -/
  | voltageAdcConversion (t : Nat) (x : Fin 6) (ch : Fin 4) (v : BitVec 12)
  /-- FLUX_OBSERVER_UPDATE (R68): Every 1 µs the flux observer integrates the αβ voltages and currents and judges its own validity. -/
  | fluxObserverUpdate (t : Nat) (x : Fin 6)
  /-- FUSION_UPDATE (R71): Every 1 µs the fusion island forms the axis estimate from the section estimates and qualifies or drops sections. -/
  | fusionUpdate (t : Nat) (a : Fin 4)
  /-- CASCADE_FUSION (R76): The host fuses the device estimates for an instant once all have arrived or the cycle ends. -/
  | cascadeFusion (t : Nat) (a : Fin 4)
  /-- ALIGN_END (R81): A_ALIGN_TIME passes, θa takes A_ALIGN_ANGLE and Ramp is decided. -/
  | alignEnd (t : Nat) (a : Fin 4)
  /-- RAMP_HANDOVER_SPEED (R82): The open-loop ramp reaches A_HO_SPEED_UP, holds that speed and Confirm is decided. -/
  | rampHandoverSpeed (t : Nat) (a : Fin 4)
  /-- HANDOVER_CHECK (R83): Every 1 ms in Confirm the host checks speed agreement, and after A_HO_CONFIRM passes it decides Blend. -/
  | handoverCheck (t : Nat) (a : Fin 4)
  /-- HANDOVER_TIMEOUT (R83): A_HO_TIMEOUT passes in Confirm without enough checks, so the stage becomes Failed and 0x07 is journalled. -/
  | handoverTimeout (t : Nat) (a : Fin 4)
  /-- BLEND_END (R83): A_HO_BLEND passes, θa equals the fused angle, Running is decided and 0x08 is journalled. -/
  | blendEnd (t : Nat) (a : Fin 4)
  /-- COAST_RECOVERY (R84): Eight consecutive 1 ms checks find a valid estimate above A_HO_SPEED_DN, and Running resumes. -/
  | coastRecovery (t : Nat) (a : Fin 4)
  /-- COAST_TIME_EXPIRY (R84): A_COAST_TIME passes without recovery, so the stage becomes Idle and stall 0x06 is journalled. -/
  | coastTimeExpiry (t : Nat) (a : Fin 4)
  /-- START_RETRY (R85): A_START_RETRY_DELAY passes after a failure with retries remaining, and the sequence restarts at Align. -/
  | startRetry (t : Nat) (a : Fin 4)
  /-- PERIOD_BOUNDARY (R94): The PWM counter reloads, shadows load, Copen is formed and the chopped switch turn-on is commanded. -/
  | periodBoundary (t : Nat) (xs : BitVec 6)
  /-- LOAD_ALL_REQUEST (R102): A write of S_LOADALL stamps T and sets the pend bits of the named sections in Load-all mode. -/
  | loadAllRequest (t : Nat) (b : By)
  /-- LIVE_VALUE_ARRIVAL (R107): A live compare value from an edge slot arrives, is held and moves, forces or cancels the turn-off edge. -/
  | liveValueArrival (t : Nat) (x : Fin 6) (y : BitVec 32)
  /-- TURN_OFF_EDGE (R95): The scheduled turn-off edge of the chopped switch is issued at its count. -/
  | turnOffEdge (t : Nat) (x : Fin 6)
  /-- TURN_ON_RELEASE (R125): A waiting turn-on is released once a fresh level 0 has held for S_HS_HOLD and the dead time has passed. -/
  | turnOnRelease (t : Nat) (n : Fin 18)
  /-- EDGE_PHASE_END (R116): S_EDGE_TIME passes and the gate pin moves from Edge on or Edge off to its hold state. -/
  | edgePhaseEnd (t : Nat) (n : Fin 18) (high : Bool)
  /-- STATUS_LEVEL_ACCEPTED (R120): A status band holds for 10 ns and becomes the accepted level of the half-bridge. -/
  | statusLevelAccepted (t : Nat) (n : Fin 18) (band : Fin 5)
  /-- HANDSHAKE_TIMEOUT (R121): The accepted level fails to meet the expected level within S_HS_TIMEOUT, and the half-bridge trips. -/
  | handshakeTimeout (t : Nat) (n : Fin 18)
  /-- SWITCH_NODE_TRANSITION (R128): A second comparator crossing completes a measured switch-node transition and records its time. -/
  | switchNodeTransition (t : Nat) (n : Fin 18) (upper : Bool) (above : Bool)
  /-- REFRESH_LOW_RUN (R132): The switch node stays low for S_BLW_MIN_LOW, so the half-bridge counts as refreshed and S_BLW_AGE reads 0. -/
  | refreshLowRun (t : Nat) (n : Fin 18)
  /-- REFRESH_PULSE_END (R133): S_BLW_PULSE passes, the low switch turns off and the high switch turn-on is commanded. -/
  | refreshPulseEnd (t : Nat) (n : Fin 18)
  /-- CURRENT_ADC_CONVERSION (R145): A current conversion completes every 50 ns and is judged against ±Ioc and delivered to the lanes. -/
  | currentAdcConversion (t : Nat) (x : Fin 6) (iu : BitVec 14) (iv : BitVec 14)
  /-- DC_LINK_OVERVOLTAGE (R152): A DC-link crossing of S_DC_OV holds through its 40 ns filter, so all three half-bridges trip and the section is isolated. -/
  | dcLinkOvervoltage (t : Nat) (x : Fin 6)
  /-- VPD_MONITOR_TRIP (R145): VPD falls below its monitor threshold and all 18 half-bridges trip. -/
  | vpdMonitorTrip (t : Nat)
  /-- BRAKE_CHOPPER_PERIOD (R153): A modulated chopper period starts at S_BRK_FREQ and applies the latest duty. -/
  | brakeChopperPeriod (t : Nat) (x : Fin 6)
  /-- FAULT_CLEAR (R154): A write of S_Q_CLEAR clears the section's latches when no cause is present, or journals a refusal. -/
  | faultClear (t : Nat) (b : By) (x : Fin 6)
  /-- UV_AUTOCLEAR (R155): A UVLO-only latch clears after level 0 has held for 1 ms, and 0x07 is journalled. -/
  | uvAutoclear (t : Nat) (n : Fin 18)
  /-- DEVICE_CLEAR (R158): A write of S_DEV_CLEAR clears the device fault when VPD is good and the isolation count allows. -/
  | deviceClear (t : Nat) (b : By)
  /-- SLOT_TIMER (R168): A slot timer reaches a whole multiple of K_TIMER and requests a run. -/
  | slotTimer (t : Nat) (k : Fin 48)
  /-- SLOT_RUN_ISSUE (R170): A lane issues the oldest waiting run by arbitration and latches its inputs and coefficients. -/
  | slotRunIssue (t : Nat) (l : Fin 6)
  /-- SLOT_OUTPUT (R169): A run completes, is checked, saturated and clamped, and its output goes to the sink in force. -/
  | slotOutput (t : Nat) (k : Fin 48) (pass : Residue)
  /-- SLOT_ENABLE (R172): A write of K_ENABLE lets the slot issue from its next trigger or stops further issues. -/
  | slotEnable (t : Nat) (b : By) (k : Fin 48) (on : Bool)
  /-- HISTORY_RESET (R172): A write of K_RESET sets all six histories of the slot to 0. -/
  | historyReset (t : Nat) (b : By) (k : Fin 48)
  /-- HISTORY_PRELOAD (R172): A write of K_PRELOAD sets the output histories to the value and the input histories to 0. -/
  | historyPreload (t : Nat) (b : By) (k : Fin 48) (v : BitVec 32)
  /-- COEFFICIENT_WRITE_APPLIED (R175): A direct write of a banked subindex reaches its lane 24 ns after acceptance and changes the active bank. -/
  | coefficientWriteApplied (t : Nat) (k : Fin 48)
  /-- ROTATION_START (R183): K_ROT_PERIOD passes and the rotation of the next logical lane to the spare begins. -/
  | rotationStart (t : Nat)
  /-- ROTATE_NOW (R183): A write of K_ROTATE_NOW starts a rotation at once. -/
  | rotateNow (t : Nat) (b : By)
  /-- ROTATION_COPY (R183): After a slot's run writes its history, its banks and histories are copied into the spare. -/
  | rotationCopy (t : Nat) (k : Fin 48)
  /-- TWIN_COMPARISON_END (R183): K_TWIN_TIME passes without mismatch and the slots hand over to the spare at their next issue. -/
  | twinComparisonEnd (t : Nat) (mismatch : Option (Fin 48)) (y yt : BitVec 32)
  /-- LANE_SELF_TEST_END (R184): A lane's built-in self-test completes and the lane becomes the spare or is failed. -/
  | laneSelfTestEnd (t : Nat) (p : Fin 7) (pass : Bool)
  /-- LANE_TAKEOVER (R184): The spare completes taking over a failed logical lane and its slots issue again. -/
  | laneTakeover (t : Nat) (l : Fin 6)
  /-- AXIS_UPDATE (R189): Every 1 µs the axis forms its torque source, limits, section weights, shares and current references. -/
  | axisUpdate (t : Nat) (a : Fin 4)
  /-- SNATCH_EVALUATION (R201): Every 10 µs the snatch detector evaluates ΔT over A_SNATCH_WIN. -/
  | snatchEvaluation (t : Nat) (a : Fin 4)
  /-- SNATCH_END (R203): |ΔT| stays below half the threshold for A_SNATCH_HOLD, so the slots flip back and h is restored. -/
  | snatchEnd (t : Nat) (a : Fin 4)
  /-- SNATCH_REARMED (R203): The staged values are rewritten into the inactive banks and the snatch state returns to Armed. -/
  | snatchRearmed (t : Nat) (a : Fin 4)
  /-- SNATCH_ARM (R202): A write of a transaction identifier to A_SNATCH_TX arms that transaction and prepares its banks. -/
  | snatchArm (t : Nat) (b : By) (a : Fin 4) (id : BitVec 16)
  /-- SNATCH_DISCARD (R203): A write of 0xFFFF to A_SNATCH_TX discards the armed transaction and releases its banks. -/
  | snatchDiscard (t : Nat) (b : By) (a : Fin 4)
  /-- TENSION_FEEDBACK (R205): A write of A_TEN_FB delivers the tension error and is judged for the render conditions. -/
  | tensionFeedback (t : Nat) (b : By) (a : Fin 4) (v : BitVec 32)
  /-- TENSION_FEEDBACK_LOST (R207): A_TEN_FB is not written for A_TEN_FB_TIMEOUT, so render ends and the axis level is entered. -/
  | tensionFeedbackLost (t : Nat) (a : Fin 4)
  /-- TEMPERATURE_STALE (R197): S_TEMP is not written for A_TEMP_TIMEOUT, so d_x takes its floor and 0x18 is journalled. -/
  | temperatureStale (t : Nat) (x : Fin 6)
  /-- DEVICE_TORQUE_LOST (R199): No T_d arrives for three cycles, so the device sets T_d to 0 and journals 0x19. -/
  | deviceTorqueLost (t : Nat) (a : Fin 4)
  /-- ENCODER_CHANGE (R214): A filtered change of A or B is accepted, timestamped and moves A_ENC_COUNT. -/
  | encoderChange (t : Nat) (e : EncIn) (a : Bool) (b : Bool)
  /-- INDEX_PULSE (R222): A Z rising edge is accepted and the index error is formed and acted on under A_ENC_IDX_MODE. -/
  | indexPulse (t : Nat) (e : EncIn)
  /-- ENCODER_STATUS_CLEAR (R224): A write of A_ENC_STATUS_CLR clears status bits 1–4 and lets the axis leave the axis level. -/
  | encoderStatusClear (t : Nat) (b : By) (e : Fin 2)
  /-- HOME_SET (R220): A write of A_HOME_SET sets the home offset and moves A_POS_REF by the same amount. -/
  | homeSet (t : Nat) (b : By) (a : Fin 4) (v : BitVec 64)
  /-- REFERENCE_RUN (R225): A write of A_REF_RUN starts Align and Ramp until an index is accepted. -/
  | referenceRun (t : Nat) (b : By) (a : Fin 4)
  /-- REFERENCE_RUN_TIMEOUT (R225): No index is accepted within A_HO_TIMEOUT of Ramp, so the switches turn off and 0x22 is journalled. -/
  | referenceRunTimeout (t : Nat) (a : Fin 4)
  /-- PROFILE_UPDATE (R228): At each A_PROF_PERIOD the profile generator advances reference, speed and acceleration. -/
  | profileUpdate (t : Nat) (a : Fin 4)
  /-- MOVE_START (R227): A write of A_MOVE_START starts, retargets or engages a move in the mode in force. -/
  | moveStart (t : Nat) (b : By) (a : Fin 4)
  /-- STOP (R230): A write of A_STOP stops the axis along A_DMAX from the next profile update. -/
  | stopWrite (t : Nat) (b : By) (a : Fin 4)
  /-- FOLLOWING_ERROR (R229): |q 0| exceeds A_FOLLOW_MAX at 16 consecutive updates, so the axis level is entered. -/
  | followingError (t : Nat) (a : Fin 4)
  /-- MASTER_POSITION_LOST (R233): Three cycles pass without a master sample, so the axis stops and 0x4, 0x06 is journalled. -/
  | masterPositionLost (t : Nat) (a : Fin 4)
  /-- GENERATOR_STEP (R239): At each G_STEP_NS the generator computes and delivers its value and rechecks its permission. -/
  | generatorStep (t : Nat) (g : Fin 4)
  /-- GENERATOR_ARM (R243): A write of G_RUN = 1 checks the waveform and permission and arms the generator. -/
  | generatorArm (t : Nat) (b : By) (g : Fin 4)
  /-- GENERATOR_STOP (R243): A write of G_RUN = 0 stops the run at the next step. -/
  | generatorStop (t : Nat) (b : By) (g : Fin 4)
  /-- INJECTION_DONE (R241): The duration D ends, so the run becomes done or a chirp repeats. -/
  | injectionDone (t : Nat) (g : Fin 4)
  /-- CAPTURE_CLAIM (R246): A write of C_CLAIM = 1 gives the session the capture unit and generators. -/
  | captureClaim (t : Nat) (b : By)
  /-- CAPTURE_RELEASE (R246): The owner writes C_CLAIM = 0, ending the claim and aborting runs and captures. -/
  | captureRelease (t : Nat) (b : By)
  /-- CAPTURE_TICK (R247): At each C_PERIOD every enabled channel holds its latest value and the trigger is judged. -/
  | captureTick (t : Nat)
  /-- CAPTURE_ARM (R249): A write of C_ARM checks the quota, discards the buffer and starts pre-trigger recording. -/
  | captureArm (t : Nat) (b : By)
  /-- CAPTURE_DATA_READ (R250): A read of C_DATA returns buffer bytes from C_READ_OFFSET against the capture quota. -/
  | captureDataRead (t : Nat) (b : By)
  /-- MONITORING_CYCLE (R255): Every 50 µs each Tongs channel latches its measurements and requests and judges every function and check. -/
  | monitoringCycle (t : Nat) (fresh : BitVec 2) (pass : BitVec 2) (c : TongsIn)
  /-- CHANNEL_EXCHANGE (R255): One channel's cycle results reach the other channel, which adopts any reaction decided. -/
  | channelExchange (t : Nat) (c : Fin 2)
  /-- STO_INPUT_ACCEPTED (R259): An STO input level holds for SF_STO_FILTER and requests or withdraws STO. -/
  | stoInputAccepted (t : Nat) (c : Fin 2) (high : Bool)
  /-- STO_DISCREPANCY (R259): The two STO inputs differ for SF_STO_DISC_TIME and the axes enter the Safe state. -/
  | stoDiscrepancy (t : Nat)
  /-- SBC_DELAY_EXPIRY (R266): SF_SBC_DELAY passes after SBC and STO follows. -/
  | sbcDelayExpiry (t : Nat) (a : Fin 4)
  /-- BRAKE_OPEN_WRITE (R261): A write of SF_BRAKE_OPEN asks both channels to release the brake of SF_MBK_AXIS. -/
  | brakeOpenWrite (t : Nat) (b : By) (on : Bool)
  /-- LOCAL_WORD_WRITE (R263): A write of SF_REQ_LOCAL adds or withdraws local safety requests and acknowledgements. -/
  | localWordWrite (t : Nat) (b : By) (a : Fin 4) (w : BitVec 16)
  /-- COMMISSIONING_OPEN (R296): A write of SF_COMMISSION = 1 by a Safety Officer opens commissioning and puts every axis in state 0. -/
  | commissioningOpen (t : Nat) (b : By)
  /-- COMMISSIONING_ABANDON (R297): A write of SF_COMMISSION = 0 discards the edits and reloads the stored configuration. -/
  | commissioningAbandon (t : Nat) (b : By)
  /-- SEAL (R295): A write of SF_CFG_SEAL = 1 runs the seal checks and starts serialisation in both channels. -/
  | seal (t : Nat) (b : By)
  /-- UNSEAL (R295): A write of SF_CFG_SEAL = 0 in Sealed returns to Editing. -/
  | unseal (t : Nat) (b : By)
  /-- CHECK_VALUE_COMPUTED (R295): Both channels have serialised the image, so SF_CRC_A and SF_CRC_B are set and the state is Sealed. -/
  | checkValueComputed (t : Nat) (badA badB : Option (BitVec 32))
  /-- CRC_CONFIRM (R299): A write of SF_CRC_CONFIRM matching both check values starts confirmation. -/
  | crcConfirm (t : Nat) (b : By) (v : BitVec 32)
  /-- CONFIGURATION_STORED (R299): The MRAM image is written, the channels load the configuration and the axes leave state 0. -/
  | configurationStored (t : Nat)
  /-- CONTROL_TELEGRAM (R303): A control telegram copy arrives on a field port and each channel validates and sequences it. -/
  | controlTelegram (t : Nat) (p : Fin 2) (bs : Bytes)
  /-- STATUS_TELEGRAM (R302): At each SF_TG_CYCLE each channel sends its status telegram copy. -/
  | statusTelegram (t : Nat)
  /-- TELEGRAM_WATCHDOG (R306): No paired telegram for SF_TG_WATCHDOG enters the Safe state with SF_TG_REACTION. -/
  | telegramWatchdog (t : Nat)
  /-- SINGLE_NETWORK_TIMEOUT (R306): One port delivers no valid copy for SF_TG_GRACE while the other does. -/
  | singleNetworkTimeout (t : Nat)
  /-- OBJECT_WRITE (R321): A write to an object with no row of its own is checked and accepted or refused. -/
  | objectWrite (t : Nat) (b : By) (dev : BitVec 8) (key : BitVec 24) (bs : Bytes)
  /-- READ (R325): A read record returns one whole snapshot of the object. -/
  | readRecord (t : Nat) (b : By) (dev : BitVec 8) (key : BitVec 24)
  /-- DESCRIBE (R316): A describe request returns the 32-byte descriptor of one object. -/
  | describeRecord (t : Nat) (b : By) (dev : BitVec 8) (key : BitVec 24)
  /-- SUBSCRIBE (R338): A subscribe record registers an object for NOTIFY publishing at a period. -/
  | subscribeRecord (t : Nat) (b : By) (dev : BitVec 8) (key : BitVec 24) (bs : Bytes)
  /-- UNSUBSCRIBE (R338): An unsubscribe record removes a subscription. -/
  | unsubscribeRecord (t : Nat) (b : By) (dev : BitVec 8) (key : BitVec 24)
  /-- NOTIFY (R338): At each subscription period the Ethernet engine publishes subscribed objects in a NOTIFY frame. -/
  | notifyFrame (t : Nat) (sid : Nat)
  /-- OPEN (R340): An OPEN frame from a client is judged and a session identifier assigned. -/
  | openFrame (t : Nat) (p : Fin 3) (src bs : Bytes)
  /-- CONFIRM (R340): A CONFIRM tagged with the session key completes the opening. -/
  | confirmFrame (t : Nat) (p : Fin 3) (src bs : Bytes)
  /-- OPENING_TIMEOUT (R340): No CONFIRM arrives within 100 ms and the pending identifier is freed. -/
  | openingTimeout (t : Nat) (sid : Nat)
  /-- REQUEST (R339): An authenticated REQUEST frame is sequenced, charged against quotas and queued as one APP request. -/
  | requestFrame (t : Nat) (p : Fin 3) (src bs : Bytes)
  /-- REQUEST_SERVED (R348): The firmware takes a queued request and executes its records in frame order. -/
  | requestServed (t : Nat) (c : Fin 2)
  /-- KEEPALIVE (R337): A KEEPALIVE frame resets the idle timer and is answered. -/
  | keepaliveFrame (t : Nat) (p : Fin 3) (src bs : Bytes)
  /-- CLOSE (R353): A CLOSE frame ends the session with its transactions, claim and routes. -/
  | closeFrame (t : Nat) (p : Fin 3) (src bs : Bytes)
  /-- SESSION_IDLE_TIMEOUT (R353): No authenticated frame arrives for the idle limit and the session is lost. -/
  | sessionIdleTimeout (t : Nat) (sid : Nat)
  /-- CLOSE_SELECTED_SESSION (R353): A write of SS_V_CLOSE ends the session named by SS_SEL. -/
  | closeSelectedSession (t : Nat) (b : By)
  /-- IDENTIFIER_HOLD_END (R346): A freed session identifier becomes reassignable after 1 s. -/
  | identifierHoldEnd (t : Nat)
  /-- LOCK_TAKE (R351): An SS_LOCK write with operation 1 takes or renews a section or axis lock. -/
  | lockTake (t : Nat) (b : By) (w : BitVec 28)
  /-- LOCK_RELEASE (R351): An SS_LOCK write with operation 2 releases a held lock. -/
  | lockRelease (t : Nat) (b : By) (w : BitVec 28)
  /-- LOCK_LEASE_EXPIRY (R352): A lease expires, the lock is released and the holder's covering transactions abort. -/
  | lockLeaseExpiry (t : Nat) (i : Fin 10)
  /-- KEY_WRITE (R343): A host-port session writes a 16-byte key into a key slot. -/
  | keyWrite (t : Nat) (b : By) (k : Fin 64) (bs : Bytes)
  /-- KEY_SLOT_ENABLE (R343): A write of SS_KEY_EN enables a slot, or disables it and loses its sessions. -/
  | keySlotEnable (t : Nat) (b : By) (k : Fin 64) (on : Bool)
  /-- HOST_FRAME (R356): A host SPI frame with header, N words and check word is accepted or discarded. -/
  | hostFrame (t : Nat) (ws : List (BitVec 32))
  /-- HOST_DESELECT (R355): HS_CS_N rises, ending the select period, discarding any partial word and retiring a sent output frame.`good`
  counts the valid words before the first invalid one. -/
  | hostDeselect (t : Nat) (good part bad : Nat)
  /-- SDO_TRANSFER (R357): A CiA 301 SDO request or segment is served for the controller's reserved session. -/
  | sdoTransfer (t : Nat) (b : Fin 2) (bs : Bytes)
  /-- SDO_SEGMENT_TIMEOUT (R357): More than 100 ms passes between segments and the transfer aborts. -/
  | sdoSegmentTimeout (t : Nat) (b : Fin 2)
  /-- ETHERNET_FRAME (R334): An Ethernet frame arrives on a field port and is accepted or dropped. -/
  | ethernetFrame (t : Nat) (p : Fin 2) (bs : Bytes)
  /-- NEIGHBOUR_SOLICITATION (R335): A Neighbour Discovery message is served on a field port. -/
  | neighbourSolicitation (t : Nat) (p : Fin 2) (src target : Bytes)
  /-- ECHO_REQUEST (R335): An ICMPv6 echo request is answered. -/
  | echoRequest (t : Nat) (p : Fin 2) (src dst bs : Bytes)
  /-- FIELD_PORT_LINK_CHANGE (R334): The SGMII autonegotiation word changes the link state of a field port. -/
  | fieldPortLinkChange (t : Nat) (p : Fin 2) (link : Bool) (speed : Nat) (full : Bool)
  /-- TX_OPEN (R362): A write of TX_OPEN opens a transaction in a free proofing slot. -/
  | txOpen (t : Nat) (b : By)
  /-- TX_CUR (R363): A write of TX_CUR selects or deselects the transaction being staged. -/
  | txCur (t : Nat) (b : By) (id : BitVec 16)
  /-- TX_COMMIT (R366): A write of TX_COMMIT begins preparation of the current transaction. -/
  | txCommit (t : Nat) (b : By)
  /-- PREPARATION_COMPLETE (R370): The transaction engine finishes lock, clip, state and bank checks and prepares the banks. -/
  | preparationComplete (t : Nat) (id : Nat)
  /-- COMMIT_INSTANT (R371): At T each staged value takes effect at its island, WO events happen and slots flip. -/
  | commitInstant (t : Nat) (id : Nat)
  /-- WRITE_BACK_COMPLETE (R371): The last committed value is written into the image and the transaction is Committed. -/
  | writeBackComplete (t : Nat) (id : Nat)
  /-- TX_ABORT (R373): A write of TX_ABORT aborts the current transaction with code 0x01. -/
  | txAbort (t : Nat) (b : By)
  /-- TX_SEL (R373): A write of TX_SEL selects the transaction whose state and result are reported. -/
  | txSel (t : Nat) (b : By) (id : BitVec 16)
  /-- PREPARE (R378): A participant receives PREPARE, prepares its part and votes. -/
  | prepareMsg (t : Nat) (p : Fin 2) (c : PrepareIn)
  /-- VOTE (R378): The coordinator receives a VOTE, aborting on an abort vote or deciding when all have voted commit. -/
  | voteMsg (t : Nat) (p : Fin 2) (bs : Bytes)
  /-- DECIDE (R378): A participant receives DECIDE and applies its part at T, or at once if late. -/
  | decideMsg (t : Nat) (p : Fin 2) (bs : Bytes)
  /-- DONE (R378): The coordinator receives DONE and enters Committed when all have answered. -/
  | doneMsg (t : Nat) (p : Fin 2) (bs : Bytes)
  /-- QUERY (R379): A device receives QUERY from a new master and reports its transaction state. -/
  | queryMsg (t : Nat) (p : Fin 2) (bs : Bytes)
  /-- STATE (R379): A new master receives STATE and rebroadcasts any decision it carries. -/
  | stateMsg (t : Nat) (p : Fin 2) (bs : Bytes)
  /-- PREPARE_TIMEOUT (R378): TX_PREP_TIMEOUT passes with votes missing and the transaction aborts with 0x0C. -/
  | prepareTimeout (t : Nat) (id : Nat)
  /-- PARTICIPANT_DECISION_TIMEOUT (R379): A prepared participant without a decision aborts after twice TX_PREP_TIMEOUT. -/
  | participantDecisionTimeout (t : Nat) (id : Nat)
  /-- FENCE (R381): A write of TX_FENCE issues a fence in a domain and holds later writes of that domain. -/
  | fenceWrite (t : Nat) (b : By) (f : Fin 16)
  /-- FENCE_ACCEPTED (R381): Every earlier write of the domain is accepted or refused, so the store accepts the fence. -/
  | fenceAccepted (t : Nat) (f : Fin 16)
  /-- FENCE_COMPLETION (R381): Earlier writes have taken effect and waiting transactions are applied, and held writes are released. -/
  | fenceCompletion (t : Nat) (f : Fin 16)
  /-- CYCLE_START (R395): At Tj the values of cycle j take effect and the master freezes the next frame and sends AXIS. -/
  | cycleStart (t : Nat)
  /-- CYCLE_FRAME_SEND (R395): At Tj − Lc the master sends the CYCLE frame of cycle j. -/
  | cycleFrameSend (t : Nat)
  /-- CYCLE_FRAME (R396): A device receives a CYCLE frame and corrects its timebase from it. -/
  | cycleFrame (t : Nat) (p : Fin 2) (c : CycleIn)
  /-- CYCLE_MISSED (R400): No CYCLE frame by Tj + Wl, so the cycle counts missed and values are kept. -/
  | cycleMissed (t : Nat)
  /-- DEVICE_FRAME_SEND (R395): At Tj + 1 µs every device broadcasts its DEVICE frame. -/
  | deviceFrameSend (t : Nat)
  /-- DEVICE_FRAME (R398): A DEVICE frame carrying counts, weights and estimates is received. -/
  | deviceFrame (t : Nat) (p : Fin 2) (bs : Bytes)
  /-- AXIS_FRAME (R399): A contributing device receives the cascade estimate and sets its correction Δ. -/
  | axisFrame (t : Nat) (p : Fin 2) (bs : Bytes)
  /-- MPOS_FRAME (R399): A master-position sample is received for application at the next cycle start. -/
  | mposFrame (t : Nat) (p : Fin 2) (bs : Bytes)
  /-- CASCADE_RESET_COMMAND (R408): COMMAND 0x01 is forwarded and the device resets. -/
  | cascadeResetCommand (t : Nat) (p : Fin 2) (bs : Bytes)
  /-- PASS_COMPLETE_COMMAND (R403): COMMAND 0x02 delivers the new enumeration, addresses and Tstart. -/
  | passCompleteCommand (t : Nat) (p : Fin 2) (c : PassIn)
  /-- SNAPSHOT_VOID_COMMAND (R407): COMMAND 0x03 voids the snapshot on every device. -/
  | snapshotVoidCommand (t : Nat) (p : Fin 2) (bs : Bytes)
  /-- CYCLE_CHANGE_COMMAND (R394): COMMAND 0x04 announces a new cycle taking effect at Tc. -/
  | cycleChangeCommand (t : Nat) (p : Fin 2) (bs : Bytes)
  /-- PLAIN_BARRIER (R406): A plain barrier token is held until earlier writes are settled, then forwarded. -/
  | plainBarrier (t : Nat) (p : Fin 2) (bs : Bytes)
  /-- VOTE_BARRIER (R406): A vote token collects each participant's vote until ready or the deadline. -/
  | voteBarrier (t : Nat) (p : Fin 2) (bs : Bytes)
  /-- QUERY_BARRIER (R412): A query token collects transaction state and the reach of a takeover. -/
  | queryBarrier (t : Nat) (p : Fin 2) (bs : Bytes)
  /-- SNAPSHOT_BARRIER (R407): A snapshot token arms each device to latch the named objects at Ts. -/
  | snapshotBarrier (t : Nat) (p : Fin 2) (bs : Bytes)
  /-- ENUMERATION_BARRIER (R404): An enumeration token lets a device take an address and send ANNOUNCE. -/
  | enumerationBarrier (t : Nat) (p : Fin 2) (e : EnumIn)
  /-- BARRIER_TIMEOUT (R406): A token not returned within the barrier time plus 2 µs is restarted with a new sequence. -/
  | barrierTimeout (t : Nat) (q : Nat)
  /-- ANNOUNCE_FRAME (R403): The master receives ANNOUNCE and checks the newcomer. -/
  | announceFrame (t : Nat) (p : Fin 2) (bs : Bytes) (n : Newcomer)
  /-- ELECT_FRAME (R402): An ELECT key is received and forwarded only when lower than all forwarded. -/
  | electFrame (t : Nat) (p : Fin 2) (bs : Bytes)
  /-- LINK_FRAME (R410): A LINK frame reports a link change and the ring is treated as open or closed. -/
  | linkFrame (t : Nat) (p : Fin 2) (bs : Bytes)
  /-- SYNC_EXCHANGE (R401): Every 1 ms the ends of an up link exchange SYNC to measure its delay. -/
  | syncExchange (t : Nat) (p : Fin 2)
  /-- SYNC_FRAME (R401): A SYNC frame from a neighbour is received with its timestamps. -/
  | syncFrame (t : Nat) (p : Fin 2) (bs : Bytes)
  /-- ROUTED_REQUEST (R347): A REQUEST frame from the master is executed on a proxy session. -/
  | routedRequest (t : Nat) (p : Fin 2) (bs : Bytes)
  /-- ROUTED_RESPONSE (R347): A RESPONSE frame from a follower is returned to the originating session. -/
  | routedResponse (t : Nat) (p : Fin 2) (bs : Bytes)
  /-- LINK_UP (R389): A training link passes 1 ms without a code violation and comes up. -/
  | linkUp (t : Nat) (p : Fin 2)
  /-- LINK_DOWN (R389): Loss of signal, alignment or symbols, or code violations take a link down. -/
  | linkDown (t : Nat) (p : Fin 2) (n : Nat)
  /-- ELECTION_WINDOW_CLOSE (R402): The election window closes and the lowest key becomes master. -/
  | electionWindowClose (t : Nat)
  /-- JOIN_PASS_TIMER (R403): Every 1 s while a device stays outside, the master runs a join pass. -/
  | joinPassTimer (t : Nat)
  /-- BARRIER_GO (R406): A write of NZ_BARRIER_GO on the master starts a plain barrier. -/
  | barrierGo (t : Nat) (b : By)
  /-- SNAP_GO (R407): A write of NZ_SNAP_GO on the master starts a snapshot. -/
  | snapGo (t : Nat) (b : By)
  /-- SNAPSHOT_LATCH (R407): At Ts each device latches the named objects. -/
  | snapshotLatch (t : Nat)
  /-- CASCADE_RESET (R408): A write of NZ_CASC_RESET on the master broadcasts COMMAND 0x01. -/
  | cascadeReset (t : Nat) (b : By)
  /-- CYCLE_WRITE (R394): A write of NZ_CYCLE on the master schedules a cycle change at Tc. -/
  | cycleWrite (t : Nat) (b : By) (v : BitVec 16)
  /-- DEVICE_LOST (R411): Three missing DEVICE frames or both links down declare a device lost. -/
  | deviceLost (t : Nat) (d : Nat)
  /-- MASTER_STEP_DOWN (R411): A master hearing no majority for three cycles becomes a follower. -/
  | masterStepDown (t : Nat)
  /-- TAKEOVER (R412): After its count of missed cycles a master-capable device starts a Query barrier to take over. -/
  | takeover (t : Nat) (r : Nat) (k : Ranking)
  /-- CAN_FRAME_TAKEN (R424): A received CAN frame is taken and routed to a queue entry or lost. -/
  | canFrameTaken (t : Nat) (b : Fin 2) (w : Nat) (c : CanCtl) (bs : Bytes) (sof : Nat)
  /-- CAN_FRAME_SENT (R427): A frame is sent successfully and its entry returns with status 2. -/
  | canFrameSent (t : Nat) (b : Fin 2) (q : Option (Fin 64)) (sof tdc : Nat)
  /-- ARBITRATION_LOST (R427): A transmit frame loses arbitration and is retried or returned one-shot failed. -/
  | arbitrationLost (t : Nat) (b : Fin 2) (q : Option (Fin 64))
  /-- CAN_BUS_ERROR (R422): A detected bus error updates the error counters. -/
  | canBusError (t : Nat) (b : Fin 2) (q : Option (Fin 64)) (tx : Bool) (n : IsoStep)
  /-- PROTOCOL_EXCEPTION (R422): A recessive res bit makes the controller integrate again without an error frame. -/
  | protocolException (t : Nat) (b : Fin 2)
  /-- BUS_INTEGRATION_COMPLETE (R420): Eleven recessive bits let the controller join the bus. -/
  | busIntegrationComplete (t : Nat) (b : Fin 2)
  /-- CAN_MODE_WRITE (R420): A write of CB_MODE requests a mode change. -/
  | canModeWrite (t : Nat) (b : By) (c : Fin 2) (m : BitVec 8)
  /-- MODE_CHANGE_AT_IDLE (R420): At the next bus idle the requested CAN mode takes effect. -/
  | modeChangeAtIdle (t : Nat) (b : Fin 2)
  /-- RECOVER (R423): A write of CB_RECOVER starts bus-off recovery. -/
  | recover (t : Nat) (b : By) (c : Fin 2)
  /-- BUS_OFF_RECOVERED (R423): 128 idle sequences end recovery and the session reopens pre-operational. -/
  | busOffRecovered (t : Nat) (b : Fin 2)
  /-- QUEUE_ACK (R425): A write of CB_Q_ACK gives a queue entry to hardware. -/
  | queueAck (t : Nat) (b : By) (c : Fin 2) (q : Fin 64)
  /-- QUEUE_ABORT (R428): A write of CB_Q_ABORT returns a transmit entry aborted. -/
  | queueAbort (t : Nat) (b : By) (c : Fin 2) (q : Fin 64)
  /-- NMT_START (R429): NMT command 0x01 moves the node to operational. -/
  | nmtStart (t : Nat) (b : Fin 2) (node : Nat)
  /-- NMT_STOP (R429): NMT command 0x02 moves the node to stopped. -/
  | nmtStop (t : Nat) (b : Fin 2) (node : Nat)
  /-- NMT_PRE_OPERATIONAL (R429): NMT command 0x80 moves the node to pre-operational and sends boot-up. -/
  | nmtPreOperational (t : Nat) (b : Fin 2) (node : Nat)
  /-- NMT_RESET_NODE (R429): NMT command 0x81 moves the node to pre-operational without resetting the device. -/
  | nmtResetNode (t : Nat) (b : Fin 2) (node : Nat)
  /-- NMT_RESET_COMMUNICATION (R429): NMT command 0x82 moves the node to pre-operational. -/
  | nmtResetCommunication (t : Nat) (b : Fin 2) (node : Nat)
  /-- CAN_SYNC (R431): A SYNC frame applies held RPDOs and sends synchronous TPDOs. -/
  | canSync (t : Nat) (b : Fin 2)
  /-- RPDO (R431): A received RPDO writes its mapped objects or holds them for SYNC. -/
  | rpdo (t : Nat) (b : Fin 2) (i : Fin 4) (bs : Bytes)
  /-- TPDO_EVENT (R431): CB_PDO_EVENT passes and an event-driven TPDO is sent. -/
  | tpdoEvent (t : Nat) (b : Fin 2) (i : Fin 4)
  /-- REFERENCE_LOSS (R450): Loss of the reference puts the PLLs in holdover and journals 0x5, 0x05. -/
  | referenceLoss (t : Nat)
  /-- REFERENCE_RETURN (R450): The reference returns in holdover and the PLLs relock without a phase step. -/
  | referenceReturn (t : Nat)
  /-- HOLDOVER_EXPIRY (R450): TB_HOLDOVER passes without the reference and every section is isolated. -/
  | holdoverExpiry (t : Nat)
  /-- TIMEBASE_SET (R442): A write of TB_SET steps the timebase when allowed. -/
  | timebaseSet (t : Nat) (b : By) (v : BitVec 64)
  /-- JOURNAL_ENTRY (R447): An island's entry arrives at the journal queue or is dropped when full. -/
  | journalEntry (t : Nat) (i : Nat)
  /-- JOURNAL_WRITE (R447): A queued entry is written to the MRAM ring and JL_NEXT passes it. -/
  | journalWrite (t : Nat)
  /-- CLOCK_FAULT (R449): An island clock misses four periods or drifts beyond ±2 %, and the fault outcome follows. -/
  | clockFault (t : Nat) (i : Fin 64)
  /-- HANDSHAKE_FAULT (R449): A crossing request stays unacknowledged for 1 µs, and the fault outcome follows. -/
  | handshakeFault (t : Nat) (i : Fin 64)
  /-- RAIL_WARNING (R456): A rail stays below its warning level for 1 µs, raising a warning and requesting Derate. -/
  | railWarning (t : Nat) (r : Fin 5) (l : RailLevel)
  /-- DERATE_END (R457): Every rail stays above its warning level for PW_DERATE_HOLD and Normal returns. -/
  | derateEnd (t : Nat)
  /-- MAIN_FAILURE (R458): A main rail below its reset level forces the gate pins off and starts the Hearth hand-over. -/
  | mainFailure (t : Nat) (r : Fin 4) (mv : Nat)
  /-- HEARTH_HANDOVER_DONE (R459): The switch to VBAK completes and Hearth enters Backup. -/
  | hearthHandoverDone (t : Nat)
  /-- RETURN_START (R459): The dwell has passed and the good condition holds, so the switch back to VIO33 starts. -/
  | returnStart (t : Nat) (good : Nat)
  /-- RETURN_COMPLETE (R459): The switch back completes and the domains wake under Damper. -/
  | returnComplete (t : Nat)
  /-- VBAK_LOST (R460): VBAK falls below its available level in H0 and is journalled. -/
  | vbakLost (t : Nat) (mv : Nat)
  /-- VBAK_RESTORED (R460): VBAK recovers and 0xB, 0x06 is journalled. -/
  | vbakRestored (t : Nat) (mv : Nat)
  /-- RESET_N (R455): RESET_N held low resets every domain except Hearth. -/
  | resetN (t : Nat)
  /-- LEAVING_RESET (R455): The main rails have been good for PW_GOOD_TIME with RESET_N high, so the Atlet leaves reset. -/
  | leavingReset (t : Nat) (good : Nat)
  /-- DAMPER_TICK (R467): Every 20 ns Damper admits queued wake-ups within the count and current limits. -/
  | damperTick (t : Nat)
  /-- DOMAIN_ON (R467): An admitted domain reports on and its island starts running. -/
  | domainOn (t : Nat) (d : Fin 132)
  /-- DOMAIN_WAKE_FAILED (R468): A domain is not on within 1 µs of admission and is treated as an island fault. -/
  | domainWakeFailed (t : Nat) (d : Fin 132) (own : Fin 64)
  /-- SRAM_SINGLE_BIT_ERROR (R469): A single-bit SRAM error is corrected in line and counted. -/
  | sramSingleBitError (t : Nat) (m : Fin 16)
  /-- SRAM_DOUBLE_BIT_ERROR (R469): A double-bit error faults the owning island or aborts the touched transactions. -/
  | sramDoubleBitError (t : Nat) (m : Fin 16) (proofing : Bool) (ids : List Nat) (own : Fin 64)
  /-- MODE_WRITE (R491): A write of A_MODE changes the axis mode at the next axis update unless refused. -/
  | modeWrite (t : Nat) (b : By) (a : Fin 4) (m : BitVec 8)
  /-- CRASH_STOP_REQUEST (R493): A write of bit 0 of A_EMERG_REQ enters or leaves Crash-stop. -/
  | crashStopRequest (t : Nat) (b : By) (a : Fin 4) (on : Bool)
  /-- HOLD_REQUEST (R493): A write of bit 1 of A_EMERG_REQ enters or leaves Hold. -/
  | holdRequest (t : Nat) (b : By) (a : Fin 4) (on : Bool)
  /-- MANUAL_DUTY_TARGET (R500): A write of A_MD_DUTY retargets the Manual-duty slew. -/
  | manualDutyTarget (t : Nat) (b : By) (a : Fin 4) (v : BitVec 16)
  /-- LOCKSTEP_MISMATCH (R506): A core pair's lockstep outputs differ, so it stops and the other pair serves alone. -/
  | lockstepMismatch (t : Nat) (i : Fin 2) (granted : Bool)
  /-- PAIR_RESTART_COMPLETE (R506): A stopped core pair restarts from the running image and returns to service. -/
  | pairRestartComplete (t : Nat) (i : Fin 2)
  /-- WATCHDOG_RESTART (R506): No queued record is taken for 10 ms, so both pairs restart. -/
  | watchdogRestart (t : Nat)
  /-- RESET_SEQUENCE (R510): After a reset the device wakes domains, locks PLLs, reads MRAM, self-tests and boots. -/
  | resetSequence (t : Nat) (bad : List Nat) (agree testA testB : Bool)
  /-- BANK_LOADED (R511): The boot port loads and checks a bank, falling back or serving boot ROM only. -/
  | bankLoaded (t : Nat) (v0 v1 : Option FwImg) (rec : Option (Fin 2 × Nat)) (set : Option (Nat × List (Nat × Bytes)))
  /-- PARAM_SAVE (R512): A write of FW_PARAM_SAVE starts saving the parameter set to flash. -/
  | paramSave (t : Nat) (b : By) (v : Nat)
  /-- PARAM_SAVE_COMPLETE (R512): The set's header is programmed and 0x87 is journalled. -/
  | paramSaveComplete (t : Nat)
  /-- PARAM_ERASE (R513): A write of FW_PARAM_ERASE erases both parameter areas. -/
  | paramErase (t : Nat) (b : By) (v : Nat)
  /-- IMAGE_DATA (R514): A write of FW_IMG_DATA places a block at FW_IMG_OFFSET. -/
  | imageData (t : Nat) (b : By) (bs : Bytes)
  /-- IMAGE_OFFSET (R514): A write of FW_IMG_OFFSET = 0 starts the image afresh. -/
  | imageOffset (t : Nat) (b : By) (v : Nat)
  /-- IMAGE_VERIFY (R514): A write of FW_IMG_VERIFY checks the SRAM copy and starts programming the other bank. -/
  | imageVerify (t : Nat) (b : By) (v : Nat)
  /-- IMAGE_PROGRAMMED (R514): Programming and read-back end with the image valid or invalid. -/
  | imageProgrammed (t : Nat) (ok : Bool)
  /-- HAND_OVER (R516): At the first quiet instant the pairs finish their records and the new image starts. -/
  | handOver (t : Nat)
  /-- HAND_OVER_END (R516): The new image serves its first record and the trial begins. -/
  | handOverEnd (t : Nat) (pause : Nat) (good : Bool)
  /-- QUIET_TIMEOUT (R515): No quiet instant comes within FW_QUIET_TIMEOUT and the activation is abandoned. -/
  | quietTimeout (t : Nat)
  /-- TRIAL_END (R517): FW_TRIAL_TIME passes and the boot record is programmed with the new bank. -/
  | trialEnd (t : Nat)
  /-- SECURITY_COMMIT (R519): A write of FW_SEC_COMMIT blows fuses up to the running security version. -/
  | securityCommit (t : Nat) (b : By) (v : Nat)
  /-- KEY_REVOKE (R519): A write of FW_KEY_REVOKE blows the revocation fuse of each key named. -/
  | keyRevoke (t : Nat) (b : By) (v : Nat)
  /-- ADC_SELF_TEST (R520): Every FW_ST_PERIOD reference conversions are substituted and checked. -/
  | adcSelfTest (t : Nat) (x : Fin 6) (z0 h0 z1 h1 v : Int)
  /-- SECTION_SERVICE (R522): A write of S_SERVICE holds or releases a section for repair. -/
  | sectionService (t : Nat) (b : By) (x : Fin 6) (v : Nat)
  /-- COMMA_ALIGNMENT_GAINED (R389): A NazLink receiver gains comma alignment and its link starts training, with NZ_LINK reading 1. -/
  | commaAlignmentGained (t : Nat) (p : Fin 2)
  /-- VPD_GOOD (R117): VPD rises above its monitor threshold, so gate pins leave High impedance for Hold off and bit 5 of PW_RAIL_STATUS clears. -/
  | vpdGood (t : Nat)
  /-- REFERENCE_RUN_COMPLETE (R225): A_HO_BLEND passes after the first index of a reference run, so A_POS_REF and the profile speed are set, the axis stops and A_REF_STATE reads 2 with 0x21. -/
  | referenceRunComplete (t : Nat) (a : Fin 4)
  /-- TAP_LEAVING_TEST_LOGIC_RESET (R466): The JTAG TAP leaves Test-Logic-Reset and the JTAG test domain is queued for wake-up. -/
  | tapLeavingTestLogicReset (t : TapIn)
  /-- HEARTH_POWER_LOST (R460): VBAK falls below its available level or is removed in H1–H3, so Hearth loses power with the retained timebase and supply record. -/
  | hearthPowerLost (t : Nat)
deriving DecidableEq, Repr

end Sys2Proof
end

