-- ==== Sys2Proof/Decode.lean ====
section
/-! DEFINITION. The commands that words of the opcode table spell: the table gives no row any bits, so none. -/

namespace Sys2Proof

/-- The command that a word spells: spec/opcode_table.json gives its rows no bits. -/
def decodeTableWord (_nbits _w : Nat) : Option Instr := none

end Sys2Proof
end

