-- ==== Sys2Proof/Config.lean ====
section
/-! DEFINITION. What one device fixes and the spec leaves open: constants with no body, so that no proof
can see a value of them (log entries 4, 6 to 9 and 25). -/

namespace Sys2Proof.Config

/-- A free value: applied to the state's counter, a fresh value each time (log entry 6). -/
opaque freeValue : Nat → BitVec 64

/-- The serial number of the device, fixed at manufacture (R333, R558; log entry 4). -/
opaque serial : BitVec 64

/-- Whether a value that the spec gives as a real number, and that falls between two values of its object,
is stored as the upper of the two: the spec states no rounding there (log entry 7). -/
opaque roundsUp : Rat → Bool

/-- Volts per voltage-ADC code and amperes per current-ADC code of section x: board dividers and shunts,
not given by the spec (R68, R127; log entry 8). -/
opaque voltsPerCode : Nat → Rat

/-- See `voltsPerCode`. -/
opaque ampsPerCode : Nat → Rat

/-- What bits [5:0] of a fault code hold for a detail that does not fit them (R17; R186, R251, R452, R525 and others use
details above 0x3F; log entry 9). -/
opaque wideDetail : Nat → BitVec 6

/-- Whether an ECDSA P-256 signature (r, then s, big-endian) over a SHA-256 digest verifies with the Spenos public key of an
index: the four keys are in device ROM and the spec does not give them (R508, R509; log entry 25). -/
opaque signatureValid : Nat → Bytes → Bytes → Bool

end Sys2Proof.Config
end

