-- ==== Sys2Proof/Machine/Catalog.lean ====
section
/-! DEFINITION. The object catalogue: every object of the dictionary under its own name and address, with
type, access class, default, range, write mask and descriptor flags (the object tables of the rules named at
each index, R312–R317, R333, R527–R541, R556–R558). A key is index·256 + subindex. -/

namespace Sys2Proof.Machine

/-- The types of R312. -/
inductive Ty where
  | bool | u8 | u16 | u32 | u64 | i8 | i16 | i32 | i64 | q | str | blob
deriving DecidableEq, Repr

/-- The access classes of R313. -/
inductive Acc where
  | ro | rw | wo | rwt | sfy | svc
deriving DecidableEq, Repr

/-- One row of an object table: subindices lo to hi (an array when they differ, whose default rises by `dstep`),
type, access, default, range members, bits defined (bit form), multiple, write mask, and the flags of R316. -/
structure ObjRow where
  lo : Nat
  hi : Nat
  ty : Ty
  acc : Acc
  dflt : Int
  dstep : Int
  ranges : List (Int × Int)
  bits : Option Nat
  mult : Nat
  mask : Nat
  live : Bool
  shadowed : Bool
  versioned : Bool
  retained : Bool
  stored : Bool
deriving DecidableEq, Repr

/-- A row of one subindex with a plain range. -/
def row (sub : Nat) (ty : Ty) (acc : Acc) (d lo hi : Int) (mask : Nat) : ObjRow :=
  ⟨sub, sub, ty, acc, d, 0, [(lo, hi)], none, 1, mask, decide (acc = .ro), false, false, false, false⟩

namespace ObjRow
/-- A further member of a list range. -/
def or (r : ObjRow) (lo hi : Int) : ObjRow := { r with ranges := r.ranges ++ [(lo, hi)] }
/-- An array of subindices up to `hi`, whose default rises by `d`. -/
def upto (r : ObjRow) (hi : Nat) (d : Int) : ObjRow := { r with hi := hi, dstep := d }
/-- A bit form, of a BLOB that of each U32 in it (R316, R320, R557). -/
def bitForm (r : ObjRow) (b : Nat) : ObjRow := { r with bits := some b }
/-- A range of multiples. -/
def every (r : ObjRow) (m : Nat) : ObjRow := { r with mult := m }
/-- Live, though software writes it: a queue entry (R425). -/
def alive (r : ObjRow) : ObjRow := { r with live := true }
/-- Held, though RO (R323). -/
def held (r : ObjRow) : ObjRow := { r with live := false }
/-- Shadowed (R326). -/
def shadow (r : ObjRow) : ObjRow := { r with shadowed := true }
/-- Covered by a version subindex (R327). -/
def ver (r : ObjRow) : ObjRow := { r with versioned := true }
/-- Retained by Hearth. -/
def ret (r : ObjRow) : ObjRow := { r with retained := true }
/-- Part of the parameter set (R512). -/
def sto (r : ObjRow) : ObjRow := { r with stored := true }
end ObjRow

namespace Obj
/-- The rows at index 0x1000 (R333). -/
def rows1000 : List ObjRow := [
  (row 0x01 .u32 .ro 343696 343696 343696 0).held,
  ((row 0x02 .str .ro 0 8 8 0).held).ver,
  ((row 0x03 .str .ro 0 11 11 0).held).ver,
  (row 0x04 .u8 .ro 177 177 177 0).held,
  (row 0x05 .u64 .ro 0 0 18446744073709551615 0).held,
  (row 0x06 .u8 .ro 0 0 255 0).held,
  (row 0x07 .u16 .ro 1024 1024 1024 0).held,
  (row 0x08 .u32 .ro 0 0 4294967295 0).held]

/-- The rows at index 0x1040 (R113). -/
def rows1040 : List ObjRow := [
  (row 0x01 .u8 .rw 63 0 63 4).bitForm 0x3F,
  row 0x02 .bool .wo 0 0 1 4,
  (row 0x03 .u8 .ro 0 0 63 0).bitForm 0x3F]

/-- The rows at index 0x1041 (R141). -/
def rows1041 : List ObjRow := [
  row 0x01 .u8 .rw 2 1 18 4,
  row 0x02 .u8 .ro 0 0 18 0,
  row 0x03 .u32 .ro 0 0 4294967295 0]

/-- The rows at index 0x1042 (R161). -/
def rows1042 : List ObjRow := [
  row 0x01 .u8 .rw 6 1 6 4,
  (row 0x02 .u8 .ro 0 0 3 0).bitForm 0x3,
  row 0x03 .bool .wo 0 0 1 4]

/-- The rows at index 0x1050 (R333). -/
def rows1050 : List ObjRow := [
  ((row 0x01 .u32 .ro 0 0 4294967295 0).upto 0x0E 0).held,
  (row 0x0F .u32 .ro 0 0 4294967295 0).held,
  (row 0x10 .u32 .ro 0 0 4294967295 0).held,
  row 0x11 .u16 .rw 0 0 14 4]

/-- The rows at index 0x1100 (R453). -/
def rows1100 : List ObjRow := [
  (row 0x01 .u64 .ro 0 0 18446744073709551615 0).ret,
  row 0x02 .u8 .ro 0 0 3 0,
  row 0x03 .u64 .wo 0 0 18446744073709551615 4,
  (row 0x04 .i64 .rw 0 (-9223372036854775808) 9223372036854775807 4).ret,
  row 0x05 .u32 .ro 0 0 4294967295 0,
  row 0x06 .u16 .rw 100 1 10000 4,
  row 0x07 .i64 .ro 0 (-9223372036854775808) 9223372036854775807 0]

/-- The rows at index 0x1110 (R453). -/
def rows1110 : List ObjRow := [
  row 0x01 .u32 .ro 0 0 4294967295 0,
  row 0x02 .u32 .ro 0 0 4294967295 0,
  row 0x03 .u32 .rw 0 0 4294967295 30,
  (row 0x04 .blob .ro 0 0 32 0).ver,
  row 0x05 .u32 .ro 0 0 4294967295 0,
  row 0x06 .u16 .ro 7936 7936 7936 0,
  row 0x07 .u16 .ro 0 0 256 0,
  row 0x08 .u32 .ro 0 0 4294967295 0]

/-- The rows at index 0x1120 (R453). -/
def rows1120 : List ObjRow := [
  (row 0x01 .u8 .ro 0 0 3 0).upto 0x40 0]

/-- The rows at index 0x1121 (R453). -/
def rows1121 : List ObjRow := [
  (row 0x01 .u32 .ro 0 0 4294967295 0).upto 0x40 0]

/-- The rows at index 0x1200 (R360). -/
def rows1200 : List ObjRow := [
  row 0x01 .u16 .ro 0 0 2047 0,
  (row 0x02 .u8 .ro 0 0 31 0).bitForm 0x1F,
  (row 0x03 .u8 .ro 0 0 63 0).or 255 255,
  row 0x04 .u8 .ro 0 0 15 0,
  row 0x05 .u32 .ro 0 0 10000 0,
  row 0x06 .u32 .ro 0 0 524288 0,
  row 0x07 .u8 .ro 0 0 255 0,
  row 0x08 .u8 .ro 0 0 10 0,
  row 0x09 .u32 .ro 0 0 4294967295 0,
  row 0x0A .u32 .ro 0 0 4294967295 0]

/-- The rows at index 0x1201 (R360). -/
def rows1201 : List ObjRow := [
  row 0x01 .u32 .wo 0 0 4294967295 6,
  (row 0x02 .u16 .rw 65535 0 2047 30).or 65535 65535]

/-- The rows at index 0x1202 (R360). -/
def rows1202 : List ObjRow := [
  ((row 0x01 .u16 .ro 65535 0 2047 0).or 65535 65535).upto 0x0A 0]

/-- The rows at index 0x1203 (R360). -/
def rows1203 : List ObjRow := [
  (row 0x01 .u64 .ro 0 0 18446744073709551615 0).upto 0x0A 0]

/-- The rows at index 0x1204 and its instances (R360). -/
def rows1204 : List ObjRow := [
  row 0x01 .u8 .ro 0 0 1 0,
  ((row 0x02 .blob .rw 0 16 16 20).ver).sto,
  (row 0x03 .u8 .rw 0 0 128 20).sto,
  (row 0x04 .u16 .rw 0 0 4094 20).sto,
  (row 0x05 .u8 .rw 0 0 31 20).sto,
  row 0x06 .u32 .ro 0 0 4294967295 0,
  row 0x07 .u32 .ro 0 0 4294967295 0,
  row 0x08 .u32 .ro 0 0 4294967295 0,
  row 0x09 .u32 .ro 0 0 4294967295 0,
  row 0x0A .blob .ro 0 16 16 0]

/-- The rows at index 0x1206 (R360). -/
def rows1206 : List ObjRow := [
  row 0x01 .u32 .ro 0 0 4294967295 0,
  row 0x02 .u32 .ro 0 0 4294967295 0,
  row 0x03 .u32 .ro 0 0 4294967295 0,
  row 0x04 .u32 .ro 0 0 4294967295 0,
  row 0x05 .bool .ro 0 0 1 0]

/-- The rows at index 0x1207 (R360). -/
def rows1207 : List ObjRow := [
  row 0x01 .u16 .ro 0 0 2048 0,
  row 0x02 .u32 .ro 0 0 150000 0,
  row 0x03 .u16 .ro 0 0 8192 0,
  row 0x04 .u32 .ro 0 0 4294967295 0]

/-- The rows at index 0x1208 (R360). -/
def rows1208 : List ObjRow := [
  (((row 0x01 .u8 .rw 1 0 31 20).upto 0x02 0).bitForm 0x1F).sto,
  ((row 0x03 .u8 .rw 0 0 15 20).upto 0x04 0).sto]

/-- The rows at index 0x1211 (R360). -/
def rows1211 : List ObjRow := [
  row 0x01 .u16 .ro 0 0 2047 0,
  (row 0x02 .u8 .ro 0 0 31 0).bitForm 0x1F,
  (row 0x03 .u8 .ro 0 0 63 0).or 255 255,
  row 0x04 .u8 .ro 0 0 15 0,
  row 0x05 .u32 .ro 0 0 10000 0,
  row 0x06 .u32 .ro 0 0 524288 0,
  row 0x07 .u8 .ro 0 0 255 0,
  row 0x08 .u8 .ro 0 0 10 0,
  row 0x09 .u32 .ro 0 0 4294967295 0,
  row 0x0A .u32 .ro 0 0 4294967295 0,
  row 0x0B .bool .wo 0 0 1 20,
  row 0x0C .u32 .ro 0 0 4294967295 0]

/-- The rows at index 0x1220: profile 0 leaves reset with defaults of its own (R361). -/
def rows1220p0 : List ObjRow := [
  (row 0x01 .u32 .rw 10000 0 150000 20).sto,
  (row 0x02 .u16 .rw 1000 1 10000 20).sto,
  (row 0x03 .u32 .rw 65536 0 524288 20).sto,
  (row 0x04 .u8 .rw 16 0 255 20).sto,
  (row 0x05 .u8 .rw 10 0 10 20).sto,
  (row 0x06 .u32 .rw 25000000 0 4294967295 20).sto,
  (row 0x07 .bool .rw 0 0 1 20).sto,
  (row 0x08 .u16 .rw 5000 100 60000 20).sto]

/-- The rows at index 0x1221 and its instances (R361). -/
def rows1220 : List ObjRow := [
  (row 0x01 .u32 .rw 100 0 150000 20).sto,
  (row 0x02 .u16 .rw 20 1 10000 20).sto,
  (row 0x03 .u32 .rw 0 0 524288 20).sto,
  (row 0x04 .u8 .rw 0 0 255 20).sto,
  (row 0x05 .u8 .rw 0 0 10 20).sto,
  (row 0x06 .u32 .rw 0 0 4294967295 20).sto,
  (row 0x07 .bool .rw 0 0 1 20).sto,
  (row 0x08 .u16 .rw 5000 100 60000 20).sto]

/-- The rows at index 0x1230 and its instances (R361). -/
def rows1230 : List ObjRow := [
  (row 0x01 .blob .wo 0 16 16 28).ret,
  (row 0x02 .bool .rw 0 0 1 28).ret,
  ((row 0x03 .u8 .rw 1 0 31 28).bitForm 0x1F).ret,
  (row 0x04 .u8 .rw 0 0 15 28).ret,
  ((row 0x05 .u8 .rw 7 0 7 28).bitForm 0x7).ret,
  (row 0x06 .u16 .rw 16 1 2048 28).ret,
  row 0x07 .bool .ro 0 0 1 0]

/-- The rows at index 0x1300 (R387). -/
def rows1300 : List ObjRow := [
  row 0x01 .bool .wo 0 0 1 30,
  row 0x02 .u16 .rw 65535 0 65535 30,
  row 0x03 .u16 .rw 1 0 65535 30,
  row 0x04 .u8 .rw 0 0 3 30,
  (row 0x05 .u8 .rw 0 0 63 30).bitForm 0x3F,
  row 0x06 .u8 .rw 0 0 15 30,
  row 0x07 .u64 .rw 0 0 18446744073709551615 30,
  row 0x08 .bool .wo 0 0 1 30,
  row 0x09 .bool .wo 0 0 1 30]

/-- The rows at index 0x1301 (R387). -/
def rows1301 : List ObjRow := [
  row 0x01 .u16 .rw 65535 0 65535 30,
  (row 0x02 .u8 .ro 0 0 7 0).held,
  (row 0x03 .u8 .ro 0 0 14 0).held,
  (row 0x04 .u64 .ro 0 0 18446744073709551615 0).held,
  (row 0x05 .u8 .ro 0 0 64 0).held,
  (row 0x06 .u32 .ro 0 0 66624 0).held,
  ((row 0x07 .u16 .ro 65535 0 2047 0).or 65535 65535).held,
  (row 0x08 .u16 .ro 0 0 256 0).held,
  (row 0x09 .u32 .ro 0 0 4294967295 0).held]

/-- The rows at index 0x1304 (R387). -/
def rows1304 : List ObjRow := [
  (row 0x01 .u16 .ro 0 0 256 0).held,
  (row 0x02 .u32 .ro 0 0 524288 0).held,
  (row 0x03 .u32 .ro 0 0 4294967295 0).held,
  (row 0x04 .u32 .ro 0 0 4294967295 0).held,
  (row 0x05 .u16 .rw 10 5 1000 20).sto,
  (row 0x06 .u32 .ro 0 0 4294967295 0).held]

/-- The rows at index 0x1310 (R387). -/
def rows1310 : List ObjRow := [
  (row 0x01 .bool .wo 0 0 1 30).upto 0x10 0]

/-- The rows at index 0x1311 (R387). -/
def rows1311 : List ObjRow := [
  ((row 0x01 .u32 .ro 0 0 4294967295 0).upto 0x10 0).held]

/-- The rows at index 0x1312 (R387). -/
def rows1312 : List ObjRow := [
  ((row 0x01 .u64 .ro 0 0 18446744073709551615 0).upto 0x10 0).held]

/-- The rows at index 0x1313 (R387). -/
def rows1313 : List ObjRow := [
  (row 0x01 .u16 .rw 65535 0 65535 20).sto]

/-- The rows at index 0x1400 (R415). -/
def rows1400 : List ObjRow := [
  row 0x01 .u8 .ro 0 0 2 0,
  row 0x02 .u8 .ro 0 0 4 0,
  (row 0x03 .bool .rw 0 0 1 4).ret,
  (row 0x04 .u16 .rw 32768 0 65535 4).ret,
  ((row 0x05 .u16 .rw 65535 1 255 4).or 65535 65535).ret,
  ((row 0x06 .u16 .ro 65535 0 255 0).or 65535 65535).ret,
  (row 0x07 .u16 .rw 250 10 1000 4).sto,
  row 0x08 .u16 .ro 1 1 256 0,
  row 0x09 .u16 .ro 0 0 65535 0,
  row 0x0A .u16 .ro 0 0 255 0,
  (row 0x0B .u16 .ro 65535 0 255 0).or 65535 65535,
  row 0x0C .u8 .ro 0 0 2 0,
  row 0x0D .bool .wo 0 0 1 4,
  row 0x0E .u32 .ro 0 0 4294967295 0,
  row 0x0F .u32 .ro 0 0 4294967295 0]

/-- The rows at index 0x1401 (R415). -/
def rows1401 : List ObjRow := [
  (row 0x01 .blob .ro 0 32 32 0).ver,
  (row 0x02 .blob .ro 0 32 32 0).ver,
  (row 0x03 .blob .ro 0 1 256 0).ver,
  row 0x04 .u32 .ro 0 0 4294967295 0]

/-- The rows at index 0x1402 and its instances (R415). -/
def rows1402 : List ObjRow := [
  row 0x01 .u8 .ro 0 0 3 0,
  row 0x02 .u32 .ro 0 0 4294967295 0,
  row 0x03 .u32 .ro 0 0 4294967295 0,
  row 0x04 .u32 .ro 0 0 4294967295 0,
  row 0x05 .u32 .ro 0 0 4294967295 0]

/-- The rows at index 0x1404 (R415). -/
def rows1404 : List ObjRow := [
  row 0x01 .bool .ro 0 0 1 0,
  row 0x02 .i32 .ro 0 (-2147483648) 2147483647 0,
  row 0x03 .i32 .ro 0 (-200000) 200000 0]

/-- The rows at index 0x1405 (R415). -/
def rows1405 : List ObjRow := [
  (((row 0x01 .blob .rw 0 32 32 4).bitForm 0xFFFFFF).ver).sto,
  (row 0x02 .u64 .rw 0 0 18446744073709551615 4).sto,
  row 0x03 .bool .wo 0 0 1 4,
  row 0x04 .u8 .ro 0 0 3 0,
  row 0x05 .u64 .ro 0 0 18446744073709551615 0,
  (row 0x06 .blob .ro 0 64 64 0).ver,
  row 0x07 .u32 .ro 0 0 4294967295 0]

/-- The rows at index 0x1406 (R415). -/
def rows1406 : List ObjRow := [
  row 0x01 .bool .wo 0 0 1 4,
  row 0x02 .u64 .ro 0 0 18446744073709551615 0,
  row 0x03 .u32 .ro 0 0 4294967295 0]

/-- The rows at index 0x1500 and its instances (R434). -/
def rows1500 : List ObjRow := [
  (row 0x01 .u8 .rw 0 0 2 4).sto,
  (row 0x02 .u8 .rw 127 1 127 4).sto,
  (row 0x03 .u16 .rw 1 1 256 4).sto,
  (row 0x04 .u16 .rw 127 2 256 4).sto,
  (row 0x05 .u8 .rw 32 1 128 4).sto,
  (row 0x06 .u8 .rw 32 1 128 4).sto,
  (row 0x07 .u8 .rw 1 1 32 4).sto,
  (row 0x08 .u8 .rw 31 1 32 4).sto,
  (row 0x09 .u8 .rw 8 1 16 4).sto,
  (row 0x0A .u8 .rw 8 1 16 4).sto,
  (row 0x0B .bool .rw 1 0 1 4).sto,
  (row 0x0C .u8 .rw 16 0 127 4).sto,
  (row 0x0D .bool .rw 0 0 1 4).sto,
  row 0x0E .bool .wo 0 0 1 4,
  (row 0x10 .bool .rw 0 0 1 4).sto]

/-- The rows at index 0x1501 and its instances (R434). -/
def rows1501 : List ObjRow := [
  row 0x01 .u8 .ro 0 0 5 0,
  row 0x02 .u16 .ro 0 0 256 0,
  row 0x03 .u8 .ro 0 0 255 0,
  row 0x04 .u32 .ro 0 0 4294967295 0,
  row 0x05 .u32 .ro 0 0 4294967295 0,
  row 0x06 .u32 .ro 0 0 4294967295 0,
  row 0x07 .u32 .ro 0 0 4294967295 0,
  row 0x08 .u32 .ro 0 0 4294967295 0,
  row 0x09 .u8 .ro 0 0 127 0,
  row 0x0A .u32 .ro 0 0 4294967295 0,
  ((row 0x0B .u8 .ro 127 4 4 0).or 5 5).or 127 127,
  row 0x0C .u32 .ro 0 0 4294967295 0]

/-- The rows at index 0x1540 and its instances (R435). -/
def rows1540 : List ObjRow := [
  row 0x01 .u8 .ro 0 0 1 0,
  row 0x02 .bool .wo 0 0 1 4,
  (((row 0x03 .u8 .rw 0 0 1 4).ver).sto).alive,
  ((((row 0x04 .u32 .rw 0 0 2147483647 4).bitForm 0x7FFFFFFF).ver).sto).alive,
  ((((row 0x05 .u32 .rw 0 0 2147483647 4).bitForm 0x7FFFFFFF).ver).sto).alive,
  ((((row 0x06 .u8 .rw 0 0 15 4).bitForm 0xF).ver).sto).alive,
  ((((((((((row 0x07 .u8 .rw 0 0 8 4).or 12 12).or 16 16).or 20 20).or 24 24).or 32 32).or 48 48).or 64 64).ver).sto).alive,
  (((row 0x08 .blob .rw 0 0 64 4).ver).sto).alive,
  (row 0x09 .u64 .ro 0 0 18446744073709551615 0).ver,
  row 0x0A .u8 .ro 0 0 5 0,
  row 0x0B .bool .wo 0 0 1 4]

/-- The rows at index 0x15C0 and its instances (R436). -/
def rows15C0 : List ObjRow := [
  ((row 0x01 .u32 .rwt 2147483648 0 3221225471 4).bitForm 0xBFFFFFFF).sto,
  (((row 0x02 .u8 .rwt 254 1 240 4).or 254 254).or 255 255).sto,
  (row 0x03 .u16 .rwt 0 0 65535 4).sto,
  (row 0x05 .u16 .rwt 0 0 65535 4).sto,
  ((row 0x06 .u8 .rwt 0 0 3 4).bitForm 0x3).sto,
  (row 0x07 .u8 .rwt 0 0 16 4).sto,
  ((row 0x10 .u32 .rwt 0 0 4294967295 4).upto 0x1F 0).sto]

/-- The rows at index 0x1600 (R472). -/
def rows1600 : List ObjRow := [
  row 0x01 .u8 .ro 0 0 1 0,
  (row 0x02 .u8 .ro 0 0 127 0).bitForm 0x7F,
  (row 0x03 .u8 .rw 50 0 100 4).sto,
  (row 0x04 .u16 .rw 1000 10 60000 4).sto,
  (row 0x05 .u16 .rw 200 200 10000 4).ret,
  (row 0x06 .u32 .rw 1000 100 100000 4).ret,
  (row 0x07 .u32 .ro 0 0 4294967295 0).ret,
  row 0x08 .u64 .ro 0 0 18446744073709551615 0,
  row 0x09 .u64 .ro 0 0 18446744073709551615 0,
  row 0x0A .u32 .ro 0 0 4294967295 0]

/-- The rows at index 0x1601 (R472). -/
def rows1601 : List ObjRow := [
  (row 0x01 .u16 .ro 0 0 6000 0).upto 0x06 0]

/-- The rows at index 0x1610 (R472). -/
def rows1610 : List ObjRow := [
  (row 0x01 .u8 .ro 0 0 4 0).upto 0x84 0]

/-- The rows at index 0x1611 (R472). -/
def rows1611 : List ObjRow := [
  row 0x01 .u8 .ro 0 0 132 0,
  row 0x02 .u32 .ro 0 0 4294967295 0,
  row 0x03 .u32 .ro 0 0 4294967295 0,
  row 0x04 .u8 .rw 0 0 132 4]

/-- The rows at index 0x1612 (R472). -/
def rows1612 : List ObjRow := [
  row 0x01 .u32 .ro 0 0 4294967295 0,
  row 0x02 .u32 .ro 0 0 4294967295 0]

/-- The rows at index 0x1700 (R526). -/
def rows1700 : List ObjRow := [
  row 0x01 .u8 .ro 0 0 1 0,
  row 0x02 .u32 .ro 0 0 4294967295 0,
  row 0x03 .u32 .ro 0 0 32 0,
  row 0x04 .u8 .ro 0 0 32 0,
  (row 0x05 .u8 .ro 255 0 1 0).or 255 255,
  row 0x06 .u8 .ro 0 0 3 0,
  (row 0x07 .u8 .ro 3 0 3 0).bitForm 0x3,
  row 0x08 .u32 .ro 0 0 4294967295 0,
  row 0x09 .u32 .ro 0 0 4294967295 0,
  (row 0x0A .u8 .ro 0 0 15 0).bitForm 0xF,
  row 0x0B .bool .wo 0 0 1 16,
  (row 0x0C .u8 .wo 0 0 15 16).bitForm 0xF]

/-- The rows at index 0x1701 (R526). -/
def rows1701 : List ObjRow := [
  row 0x01 .u32 .rw 0 0 983040 16,
  row 0x02 .blob .wo 0 1 1024 16,
  row 0x03 .bool .wo 0 0 1 16,
  row 0x04 .u8 .ro 0 0 5 0,
  row 0x05 .u8 .ro 0 0 9 0,
  row 0x06 .u32 .ro 0 0 4294967295 0,
  row 0x07 .bool .rwt 0 0 1 16,
  (row 0x08 .u16 .rw 1000 10 60000 16).sto,
  (row 0x09 .u16 .rw 10000 100 60000 16).sto,
  row 0x0A .u8 .ro 0 0 7 0,
  row 0x0C .u16 .ro 0 0 12000 0]

/-- The rows at index 0x1702 (R526). -/
def rows1702 : List ObjRow := [
  row 0x01 .bool .wo 0 0 1 16,
  row 0x02 .u8 .ro 0 0 4 0,
  row 0x03 .u32 .ro 0 0 200000 0,
  row 0x04 .u16 .ro 0 0 65535 0,
  row 0x05 .bool .wo 0 0 1 16]

/-- The rows at index 0x1703 (R526). -/
def rows1703 : List ObjRow := [
  (row 0x01 .u32 .rw 1000 10 3600000 16).sto,
  (row 0x02 .u16 .rw 16 1 1024 16).sto,
  (row 0x03 .u16 .rw 164 1 8191 16).sto,
  (row 0x04 .u16 .rw 82 1 4095 16).sto,
  row 0x05 .u32 .ro 0 0 4294967295 0,
  row 0x06 .u32 .ro 0 0 4294967295 0]

/-- The rows at index 0x2001 and its instances (R37). -/
def rows2001 : List ObjRow := [
  ((row 0x01 .u8 .rwt 255 0 3 4).or 255 255).sto,
  (row 0x02 .u16 .rwt 0 0 35999 4).sto,
  (row 0x03 .u16 .rwt 1000 1 65535 4).sto,
  row 0x04 .u8 .ro 0 0 4 0,
  ((row 0x05 .u16 .rwt 65535 0 1535 4).or 65535 65535).sto]

/-- The rows at index 0x2002 and its instances (R63). -/
def rows2002 : List ObjRow := [
  row 0x01 .bool .rw 0 0 1 4,
  (row 0x02 .u8 .rwt 0 0 2 4).sto,
  (row 0x03 .i16 .rwt 0 (-3000) 3000 4).sto,
  (row 0x04 .u16 .rwt 50 0 200 4).sto,
  ((row 0x05 .u8 .ro 255 0 7 0).or 254 254).or 255 255,
  (row 0x06 .u16 .rwt 400 150 2000 4).sto,
  (row 0x07 .u16 .rw 500 10 10000 4).sto,
  (row 0x08 .u8 .rw 50 10 100 4).sto,
  (row 0x09 .u8 .rw 1 0 2 4).sto,
  (row 0x0A .u8 .rw 20 0 100 4).sto,
  (row 0x0B .bool .rwt 0 0 1 4).sto,
  (row 0x0C .u16 .rwt 12000 6000 18000 4).sto,
  (row 0x0D .u8 .rwt 33 0 100 4).sto,
  (row 0x0E .u16 .rw 200 1 10000 4).sto]

/-- The rows at index 0x2003 and its instances (R63). -/
def rows2003 : List ObjRow := [
  row 0x01 .u32 .ro 0 0 4294967295 0,
  row 0x02 .u32 .ro 0 0 4294967295 0,
  row 0x03 .u32 .ro 0 0 4294967295 0,
  row 0x04 .u32 .ro 0 0 4294967295 0,
  row 0x05 .bool .ro 0 0 1 0,
  (row 0x06 .u8 .ro 255 0 2 0).or 255 255]

/-- The rows at index 0x2004 and its instances (R113). -/
def rows2004 : List ObjRow := [
  ((row 0x01 .u16 .rw 40000 500 65535 4).shadow).sto,
  ((row 0x02 .u8 .rw 0 0 3 4).shadow).sto,
  ((row 0x03 .u16 .rw 9500 0 10000 4).shadow).sto,
  ((row 0x04 .u16 .rw 0 0 65535 4).shadow).sto,
  ((row 0x05 .u16 .rw 200 10 2000 4).shadow).sto,
  ((row 0x06 .u32 .rw 0 0 524279 4).shadow).sto,
  ((row 0x07 .bool .rw 0 0 1 4).shadow).sto,
  (((row 0x08 .u8 .rw 7 0 7 4).bitForm 0x7).shadow).sto,
  row 0x09 .u8 .ro 1 0 1 0,
  row 0x0A .u32 .ro 0 0 4294967295 0,
  row 0x0B .u32 .ro 0 0 4294967295 0,
  row 0x0C .u32 .ro 0 0 4294967295 0,
  row 0x0D .u32 .ro 0 0 4294967295 0,
  row 0x0E .u32 .ro 0 0 4294967295 0,
  row 0x0F .u16 .ro 0 0 65535 0,
  row 0x10 .q .ro 0 (-2147483648) 2147483647 0]

/-- The rows at index 0x2005 and its instances (R63). -/
def rows2005 : List ObjRow := [
  ((row 0x01 .u16 .rwt 0 0 65535 4).upto 0x10 400).sto]

/-- The rows at index 0x2006 and its instances (R63). -/
def rows2006 : List ObjRow := [
  ((row 0x01 .u16 .rwt 0 0 3000 4).upto 0x10 0).sto]

/-- The rows at index 0x2007 and its instances (R139). -/
def rows2007 : List ObjRow := [
  (row 0x01 .u16 .rwt 500 100 1000 4).sto,
  (row 0x02 .u16 .rw 20 0 200 4).sto,
  (row 0x03 .u16 .rw 1000 50 5000 4).sto,
  (row 0x04 .u16 .rw 500 50 2000 4).sto,
  (row 0x05 .bool .rw 1 0 1 4).sto,
  (row 0x06 .u16 .rw 60 20 400 4).sto,
  (row 0x07 .u16 .rw 80 20 400 4).sto,
  (row 0x08 .u8 .rw 5 0 50 4).sto,
  (row 0x09 .u8 .rw 32 0 63 4).sto,
  (row 0x0A .u32 .rw 2000 50 50000 4).sto,
  (row 0x0B .u16 .rw 1000 200 10000 4).sto,
  (row 0x0C .u16 .rw 300 100 5000 4).sto,
  (row 0x0D .u8 .rw 20 1 255 4).sto]

/-- The rows at index 0x2008 and its instances (R140, R161). -/
def rows2008 : List ObjRow := [
  (row 0x01 .u8 .rw 32 0 63 4).sto,
  (row 0x02 .u8 .rw 32 0 63 4).sto,
  (row 0x03 .u8 .rw 32 0 63 4).sto,
  (row 0x04 .u8 .rw 32 0 63 4).sto,
  row 0x05 .u16 .ro 65535 0 65535 0,
  row 0x06 .u16 .ro 65535 0 65535 0,
  row 0x07 .u16 .ro 65535 0 65535 0,
  row 0x08 .u16 .ro 65535 0 65535 0,
  row 0x09 .u8 .ro 3 0 3 0,
  row 0x0A .u32 .ro 0 0 4294967295 0,
  row 0x0B .u32 .ro 0 0 4294967295 0,
  row 0x0C .u32 .ro 0 0 4294967295 0,
  row 0x0D .u32 .ro 0 0 4294967295 0,
  row 0x0E .u32 .ro 0 0 4294967295 0,
  row 0x0F .u32 .ro 0 0 4294967295 0,
  (row 0x10 .u8 .ro 0 0 255 0).bitForm 0xFF,
  row 0x11 .u32 .ro 0 0 4294967295 0]

/-- The rows at index 0x200B and its instances (R161). -/
def rows200B : List ObjRow := [
  (row 0x01 .u16 .rwt 1000 100 1000 4).sto,
  (row 0x02 .u8 .rw 1 1 4 4).sto,
  (row 0x03 .u8 .rw 8 0 63 4).sto,
  (row 0x04 .bool .rw 0 0 1 4).sto,
  row 0x05 .bool .wo 0 0 1 4,
  (row 0x06 .u16 .rwt 4000 0 4095 4).sto]

/-- The rows at index 0x200C and its instances (R161). -/
def rows200C : List ObjRow := [
  (row 0x01 .u8 .ro 0 0 7 0).bitForm 0x7,
  row 0x02 .u16 .ro 0 0 65535 0,
  row 0x03 .u32 .ro 0 0 4294967295 0,
  row 0x04 .u16 .ro 0 0 4095 0]

/-- The rows at index 0x200D and its instances (R161). -/
def rows200D : List ObjRow := [
  (row 0x01 .u8 .rw 0 0 2 4).sto,
  (row 0x02 .u16 .rwt 3900 0 4095 4).sto,
  (row 0x03 .u16 .rwt 3800 0 4095 4).sto,
  (row 0x04 .u16 .rw 2000 100 50000 4).sto,
  row 0x05 .u16 .ro 0 0 10000 0,
  row 0x06 .u32 .ro 0 0 4294967295 0]

/-- The rows at index 0x200E and its instances (R212). -/
def rows200E : List ObjRow := [
  row 0x01 .i16 .rw 250 (-550) 2000 4,
  row 0x02 .bool .ro 0 0 1 0,
  row 0x03 .u32 .ro 0 0 4294967295 0,
  row 0x04 .u32 .ro 0 0 1000000 0,
  row 0x05 .q .ro 0 (-2147483648) 2147483647 0,
  row 0x06 .q .ro 0 (-2147483648) 2147483647 0,
  row 0x07 .q .ro 0 (-2147483648) 2147483647 0,
  (row 0x08 .u8 .rw 4 0 255 4).sto,
  row 0x09 .u32 .ro 0 0 4294967295 0]

/-- The rows at index 0x200F and its instances (R526). -/
def rows200F : List ObjRow := [
  (row 0x01 .bool .rw 0 0 1 4).sto]

/-- The rows at index 0x3001 and its instances (R91). -/
def rows3001 : List ObjRow := [
  (row 0x01 .bool .rw 1 0 1 4).sto,
  (row 0x02 .u16 .rw 8 0 255 4).sto,
  (row 0x03 .u8 .rw 2 1 8 4).sto,
  (row 0x04 .u16 .rw 300 0 2000 4).sto,
  (row 0x05 .u16 .rw 300 0 2000 4).sto,
  (row 0x06 .u16 .rw 20 1 1000 4).sto]

/-- The rows at index 0x3002 and its instances (R91). -/
def rows3002 : List ObjRow := [
  (row 0x01 .u32 .rwt 10000 1 10000000 4).sto,
  (row 0x02 .u32 .rwt 100000 1 100000000 4).sto,
  (row 0x03 .u32 .rwt 500000 1 100000000 4).sto,
  (row 0x04 .u8 .rw 20 5 50 4).sto,
  (row 0x05 .u16 .rw 30 1 1000 4).sto,
  (row 0x06 .u16 .rw 100 1 10000 4).sto]

/-- The rows at index 0x3003 and its instances (R91). -/
def rows3003 : List ObjRow := [
  row 0x01 .u8 .ro 0 0 3 0,
  row 0x02 .u16 .ro 0 0 35999 0,
  row 0x03 .i32 .ro 0 (-2147483648) 2147483647 0,
  row 0x04 .u8 .ro 0 0 30 0,
  row 0x05 .u32 .ro 0 0 4294967295 0,
  row 0x06 .u32 .ro 0 0 4294967295 0,
  row 0x07 .i16 .ro 0 (-18000) 17999 0]

/-- The rows at index 0x3800 and its instances (R92). -/
def rows3800 : List ObjRow := [
  (row 0x01 .u16 .rwt 300 10 3000 4).sto,
  (row 0x02 .u8 .rwt 4 1 255 4).sto,
  (row 0x03 .u8 .rwt 16 1 255 4).sto,
  (row 0x04 .u16 .rwt 2 1 1536 4).sto,
  (row 0x05 .u8 .rw 0 0 1 4).sto,
  (row 0x06 .bool .rwt 1 0 1 4).sto,
  (row 0x07 .u8 .rwt 3 0 15 4).sto,
  (row 0x08 .u8 .rwt 1 0 15 4).sto,
  (row 0x09 .q .rwt 107374182 0 2147483647 4).sto]

/-- The rows at index 0x3801 and its instances (R92). -/
def rows3801 : List ObjRow := [
  row 0x01 .u16 .ro 0 0 35999 0,
  row 0x02 .i32 .ro 0 (-2147483648) 2147483647 0,
  row 0x03 .bool .ro 0 0 1 0,
  row 0x04 .u16 .ro 0 0 6 0,
  row 0x05 .u16 .ro 0 0 256 0,
  row 0x06 .i16 .ro 0 (-18000) 17999 0]

/-- The rows at index 0x4000 (R187). -/
def rows4000 : List ObjRow := [
  ((row 0x01 .u32 .rw 60 0 0 4).or 10 86400).sto,
  (row 0x02 .u16 .rw 1000 100 60000 4).sto,
  row 0x03 .u32 .ro 0 0 4294967295 0,
  row 0x04 .bool .ro 1 0 1 0,
  row 0x05 .bool .wo 0 0 1 4,
  row 0x06 .u32 .ro 0 0 4294967295 0]

/-- The rows at index 0x4001 (R187). -/
def rows4001 : List ObjRow := [
  (row 0x01 .u8 .ro 0 0 4 0).upto 0x06 0,
  row 0x07 .u8 .ro 1 0 4 0]

/-- The rows at index 0x4002 (R187). -/
def rows4002 : List ObjRow := [
  ((row 0x01 .u8 .ro 0 0 6 0).or 255 255).upto 0x06 1]

/-- The rows at index 0x4100 and its instances (R188). -/
def rows4100 : List ObjRow := [
  (row 0x01 .bool .rw 0 0 1 4).sto,
  ((row 0x02 .u8 .rwt 2 2 3 4).ver).sto,
  ((row 0x03 .i32 .rw 0 (-2147483648) 2147483647 4).ver).sto,
  ((row 0x04 .i32 .rw 0 (-2147483648) 2147483647 4).ver).sto,
  ((row 0x05 .i32 .rw 0 (-2147483648) 2147483647 4).ver).sto,
  ((row 0x06 .i32 .rw 0 (-2147483648) 2147483647 4).ver).sto,
  ((row 0x07 .i32 .rw 0 (-2147483648) 2147483647 4).ver).sto,
  ((row 0x08 .i32 .rw 0 (-2147483648) 2147483647 4).ver).sto,
  ((row 0x09 .i32 .rw 0 (-2147483648) 2147483647 4).ver).sto,
  (((row 0x0A .u8 .rw 31 0 31 4).upto 0x10 0).ver).sto,
  ((row 0x11 .i32 .rw (-2147483648) (-2147483648) 2147483647 4).ver).sto,
  ((row 0x12 .i32 .rw 2147483647 (-2147483648) 2147483647 4).ver).sto,
  (((row 0x13 .u16 .rwt 0 0 65535 4).upto 0x16 0).ver).sto,
  (((row 0x17 .u8 .rwt 0 0 255 4).bitForm 0xFF).ver).sto,
  ((row 0x18 .u8 .rwt 0 0 4 4).ver).sto,
  ((row 0x19 .u32 .rwt 1000000 1000 100000000 4).ver).sto,
  ((row 0x1A .u16 .rwt 0 0 65535 4).ver).sto,
  row 0x1B .i32 .rw 0 (-2147483648) 2147483647 4,
  row 0x1C .i32 .wo 0 (-2147483648) 2147483647 4,
  row 0x1D .bool .wo 0 0 1 4,
  row 0x1E .i32 .ro 0 (-2147483648) 2147483647 0,
  row 0x1F .i32 .ro 0 (-2147483648) 2147483647 0,
  row 0x20 .u32 .ro 0 0 4294967295 0,
  row 0x21 .u32 .ro 0 0 4294967295 0,
  row 0x22 .u32 .ro 0 0 4294967295 0,
  row 0x23 .u32 .ro 0 0 4294967295 0,
  (row 0x24 .u32 .ro 0 0 4294967295 0).held,
  row 0x25 .u8 .ro 0 0 1 0,
  row 0x26 .u16 .ro 0 0 65535 0,
  row 0x27 .u16 .rw 0 0 65535 4]

/-- The rows at index 0x5001 and its instances (R37). -/
def rows5001 : List ObjRow := [
  (row 0x01 .u8 .ro 0 0 63 0).bitForm 0x3F,
  (row 0x02 .u16 .rwt 1 1 1024 4).sto,
  ((row 0x03 .u8 .rwt 255 0 3 4).or 255 255).sto,
  row 0x04 .u16 .ro 0 0 1536 0]

/-- The rows at index 0x5002 and its instances (R502). -/
def rows5002 : List ObjRow := [
  (row 0x01 .u8 .rw 0 0 6 6).sto,
  row 0x02 .u8 .ro 0 0 5 0,
  (row 0x03 .u8 .rw 0 0 3 6).bitForm 0x3,
  (row 0x04 .u8 .ro 0 0 15 0).bitForm 0xF,
  (row 0x05 .u32 .rw 1000000 1 1000000 6).sto,
  (row 0x06 .u8 .rw 100 0 100 6).sto,
  ((row 0x07 .u8 .rw 255 0 3 6).or 255 255).sto,
  row 0x08 .i16 .rw 0 (-10000) 10000 6,
  (row 0x09 .u16 .rw 100 1 10000 6).sto,
  row 0x0A .i16 .ro 0 (-10000) 10000 0]

/-- The rows at index 0x5003 and its instances (R63). -/
def rows5003 : List ObjRow := [
  (row 0x01 .u16 .rw 10 1 1000 6).sto,
  (row 0x02 .i8 .ro 1 (-1) (-1) 0).or 1 1,
  row 0x03 .bool .ro 0 0 1 0]

/-- The rows at index 0x500B and its instances (R161). -/
def rows500B : List ObjRow := [
  (row 0x01 .u16 .rwt 1 1 1536 4).sto,
  (row 0x02 .u8 .rw 1 0 2 6).sto,
  row 0x03 .bool .ro 0 0 1 0]

/-- The rows at index 0x5010 and its instances (R211). -/
def rows5010 : List ObjRow := [
  row 0x01 .u8 .ro 0 0 7 0,
  row 0x02 .i32 .rw 0 (-2147483648) 2147483647 6,
  (row 0x03 .u8 .rwt 0 0 2 4).sto,
  row 0x04 .i32 .ro 0 (-2147483648) 2147483647 0,
  (row 0x05 .u16 .rw 100 0 500 6).sto,
  row 0x06 .i32 .ro 0 0 2147483647 0,
  row 0x07 .u32 .ro 0 0 4294967295 0,
  row 0x08 .i32 .ro 2147483647 0 2147483647 0,
  (row 0x09 .q .rw 53687091 0 429496730 6).sto,
  (row 0x0A .u32 .rwt 10000 1 1000000 4).sto,
  (row 0x0B .u32 .rwt 10000 1 1000000 4).sto,
  (row 0x0C .i16 .rwt 800 (-550) 2000 4).sto,
  (row 0x0D .i16 .rwt 1100 (-550) 2000 4).sto,
  (row 0x0E .u8 .rwt 20 0 100 4).sto,
  (row 0x0F .u16 .rw 1000 10 60000 6).sto,
  row 0x10 .u32 .ro 0 0 4294967295 0,
  row 0x11 .i32 .ro 0 (-2147483648) 2147483647 0]

/-- The rows at index 0x5011 and its instances (R211). -/
def rows5011 : List ObjRow := [
  (row 0x01 .bool .rw 0 0 1 6).sto,
  (row 0x02 .i32 .rw 65536 1 2147483647 6).sto,
  (row 0x03 .u16 .rw 100 10 10000 6).sto,
  (row 0x04 .u8 .rw 2 1 255 6).sto,
  (row 0x05 .u16 .rw 200 1 60000 6).sto,
  (row 0x06 .u16 .rw 65535 0 65535 6).sto,
  row 0x07 .u8 .ro 0 0 4 0,
  row 0x08 .u32 .ro 0 0 4294967295 0]

/-- The rows at index 0x5012 and its instances (R211). -/
def rows5012 : List ObjRow := [
  (row 0x01 .bool .rwt 0 0 1 4).sto,
  ((row 0x02 .i8 .rwt 1 (-1) (-1) 4).or 1 1).sto,
  (row 0x03 .u32 .rw 4294967295 0 4294967295 6).sto,
  (row 0x04 .u16 .rw 20 1 10000 6).sto,
  (row 0x05 .u32 .rw 0 0 4294967295 6).sto,
  (row 0x06 .u32 .rw 100 1 1000000 6).sto,
  (row 0x07 .u32 .rw 0 0 4294967295 6).sto,
  (row 0x08 .u16 .rw 100 1 60000 6).sto,
  (row 0x09 .u32 .rw 50 1 1000000 6).sto,
  (row 0x0A .u64 .rw 18446744073709551615 0 18446744073709551615 6).sto,
  (row 0x0B .u8 .rw 0 0 1 6).sto,
  row 0x0C .u8 .ro 0 0 4 0,
  row 0x0D .i64 .ro 0 (-9223372036854775808) 9223372036854775807 0,
  (row 0x0E .u32 .rw 0 0 4294967295 6).sto,
  row 0x0F .u32 .rw 0 0 4294967295 6,
  (row 0x10 .u16 .rw 50 1 10000 6).sto]

/-- The rows at index 0x5020 and its instances (R93). -/
def rows5020 : List ObjRow := [
  (row 0x01 .u8 .rwt 0 0 1 4).sto,
  (row 0x02 .u8 .ro 255 0 7 0).or 255 255,
  (row 0x03 .u8 .rw 30 0 100 6).sto,
  (row 0x04 .u16 .rw 500 10 10000 6).sto,
  (row 0x05 .u16 .rw 0 0 35999 6).sto,
  (row 0x06 .u32 .rw 100 1 100000 6).sto,
  (row 0x07 .u8 .rw 50 0 100 6).sto,
  (row 0x08 .u16 .rwt 50 2 10000 4).sto,
  (row 0x09 .u16 .rwt 30 1 9999 4).sto,
  (row 0x0A .u8 .rw 20 1 255 6).sto,
  (row 0x0B .u16 .rw 5 1 1000 6).sto,
  (row 0x0C .u16 .rw 20 1 1000 6).sto,
  (row 0x0D .u16 .rw 2000 10 60000 6).sto,
  (row 0x0E .u16 .rw 500 1 60000 6).sto,
  (row 0x0F .u8 .rw 3 0 255 6).sto,
  (row 0x10 .u16 .rw 1000 0 60000 6).sto]

/-- The rows at index 0x5030 and its instances (R238). -/
def rows5030 : List ObjRow := [
  (row 0x01 .u16 .rwt 100 10 1000 4).sto,
  (row 0x02 .u32 .rwt 1 1 4294967295 4).sto,
  (row 0x03 .u32 .rwt 1 1 4294967295 4).sto,
  row 0x04 .i64 .ro 0 (-9223372036854775808) 9223372036854775807 0,
  row 0x05 .i64 .ro 0 (-9223372036854775808) 9223372036854775807 0,
  row 0x06 .i64 .rw 0 (-9223372036854775808) 9223372036854775807 6,
  row 0x07 .i32 .rw 0 (-2147483648) 2147483647 6,
  (row 0x08 .u32 .rw 65536 1 4294967295 6).sto,
  (row 0x09 .u32 .rw 65536 1 4294967295 6).sto,
  (row 0x0A .u32 .rw 65536 1 4294967295 6).sto,
  (row 0x0B .u32 .rw 655360 1 4294967295 6).sto,
  row 0x0C .bool .wo 0 0 1 6,
  row 0x0D .bool .wo 0 0 1 6,
  row 0x0E .u8 .ro 0 0 6 0,
  row 0x0F .i32 .ro 0 (-2147483648) 2147483647 0,
  row 0x10 .i32 .ro 0 (-2147483648) 2147483647 0,
  (row 0x11 .u32 .rw 256 0 4294967295 6).sto,
  (row 0x12 .u32 .rw 4294967295 0 4294967295 6).sto,
  row 0x13 .i64 .wo 0 (-9223372036854775808) 9223372036854775807 6,
  row 0x14 .bool .wo 0 0 1 6,
  row 0x15 .u8 .ro 0 0 3 0,
  (row 0x16 .u32 .rw 262144 1 4294967295 6).sto]

/-- The rows at index 0x5031 and its instances (R238). -/
def rows5031 : List ObjRow := [
  (((row 0x01 .u8 .rwt 255 0 0 4).or 16 19).or 255 255).sto,
  (row 0x02 .i32 .rwt 1 (-2147483648) 2147483647 4).sto,
  (row 0x03 .u32 .rwt 1 1 4294967295 4).sto,
  (row 0x04 .i32 .rwt 0 (-2147483648) 2147483647 4).sto,
  (row 0x05 .u32 .rwt 0 0 4294967295 4).sto,
  (row 0x06 .i64 .rwt 0 (-9223372036854775808) 9223372036854775807 4).sto,
  ((row 0x07 .i8 .rwt 1 (-1) (-1) 4).or 1 1).sto,
  (row 0x08 .u32 .rwt 0 0 4294967295 4).sto,
  row 0x09 .u8 .ro 0 0 3 0,
  (row 0x0A .u32 .rw 0 0 4294967295 6).sto,
  row 0x0B .i64 .ro 0 (-9223372036854775808) 9223372036854775807 0,
  row 0x0C .i32 .ro 0 (-2147483648) 2147483647 0,
  row 0x0D .u8 .ro 0 0 3 0]

/-- The rows at index 0x5800 and its instances (R237). -/
def rows5800 : List ObjRow := [
  (row 0x01 .u32 .rwt 16384 4 1073741824 4).sto,
  ((row 0x02 .i8 .rwt 1 (-1) (-1) 4).or 1 1).sto,
  (row 0x03 .u8 .rw 5 0 20 4).sto,
  ((row 0x04 .u8 .rwt 255 0 3 4).or 255 255).sto,
  row 0x05 .i64 .ro 0 (-9223372036854775808) 9223372036854775807 0,
  row 0x06 .i32 .ro 0 (-2147483648) 2147483647 0,
  (row 0x07 .u16 .rw 100 10 10000 4).sto,
  (row 0x08 .u8 .rw 1 0 2 4).sto,
  (row 0x09 .u16 .rw 4 0 32767 4).sto,
  (row 0x0A .u32 .rw 256 1 536870912 4).sto,
  row 0x0B .i64 .ro 0 (-9223372036854775808) 9223372036854775807 0,
  row 0x0C .i32 .ro 0 (-2147483648) 2147483647 0,
  row 0x0D .u32 .ro 0 0 4294967295 0,
  (row 0x0E .u8 .ro 0 0 31 0).bitForm 0x1F,
  row 0x0F .u32 .ro 0 0 4294967295 0,
  (row 0x10 .u16 .rwt 0 0 35999 4).sto,
  ((row 0x11 .u8 .rwt 255 0 3 4).or 255 255).sto,
  row 0x12 .bool .wo 0 0 1 4,
  (row 0x13 .u16 .ro 65535 0 35999 0).or 65535 65535]

/-- The rows at index 0x6000 (R287). -/
def rows6000 : List ObjRow := [
  (row 0x01 .u8 .ro 0 0 3 0).bitForm 0x3,
  (row 0x02 .u8 .ro 3 0 3 0).bitForm 0x3,
  (row 0x03 .u8 .ro 0 0 15 0).bitForm 0xF,
  row 0x04 .u32 .ro 0 0 4294967295 0,
  row 0x05 .u16 .ro 0 0 65535 0]

/-- The rows at index 0x6001 (R287). -/
def rows6001 : List ObjRow := [
  ((row 0x01 .u8 .sfy 15 0 15 8).bitForm 0xF).ret,
  (row 0x02 .u16 .sfy 100 1 1000 8).ret,
  (row 0x03 .u16 .sfy 10 1 1000 8).ret,
  ((row 0x04 .u8 .sfy 15 0 15 8).bitForm 0xF).ret,
  ((row 0x05 .u8 .sfy 255 0 3 8).or 255 255).ret,
  (row 0x06 .u16 .sfy 4 0 1024 8).ret,
  (row 0x07 .u16 .sfy 20 1 10000 8).ret,
  (row 0x08 .u8 .sfy 2 1 20 8).ret,
  (row 0x09 .bool .sfy 0 0 1 8).ret,
  ((row 0x0A .u8 .sfy 255 0 3 8).or 255 255).ret,
  (row 0x0B .u32 .sfy 16384 4 1073741824 8).ret,
  (row 0x0C .u16 .sfy 1 1 1024 8).ret,
  (row 0x0D .u16 .sfy 8 0 32767 8).ret,
  (row 0x0E .u16 .sfy 50 1 10000 8).ret,
  (row 0x0F .u16 .sfy 50 1 10000 8).ret,
  (row 0x10 .u16 .sfy 20 1 1000 8).ret,
  (row 0x11 .u16 .sfy 3000 100 36000 8).ret]

/-- The rows at index 0x6002 (R287). -/
def rows6002 : List ObjRow := [
  row 0x01 .bool .rw 0 0 1 10]

/-- The rows at index 0x6003 (R310). -/
def rows6003 : List ObjRow := [
  (row 0x01 .bool .sfy 0 0 1 8).ret,
  (row 0x02 .u16 .sfy 1 1 65534 8).ret,
  (row 0x03 .u16 .sfy 65534 1 65534 8).ret,
  ((row 0x04 .u8 .sfy 15 0 15 8).bitForm 0xF).ret,
  ((row 0x05 .u32 .sfy 1000 250 100000 8).every 50).ret,
  (row 0x06 .u16 .sfy 20 1 999 8).ret,
  (row 0x07 .u16 .sfy 100 1 1000 8).ret,
  (row 0x08 .u8 .sfy 1 0 1 8).ret]

/-- The rows at index 0x6004 (R311). -/
def rows6004 : List ObjRow := [
  row 0x01 .u8 .ro 0 0 5 0,
  row 0x02 .bool .rw 0 0 1 8,
  row 0x03 .bool .rw 0 0 1 8,
  row 0x04 .u32 .ro 0 0 4294967295 0,
  row 0x05 .u32 .ro 0 0 4294967295 0,
  row 0x06 .u32 .wo 0 0 4294967295 8,
  row 0x07 .u32 .ro 0 0 4294967295 0,
  row 0x08 .u8 .ro 0 0 11 0,
  row 0x09 .u32 .ro 0 0 4294967295 0,
  row 0x0A .u16 .ro 65535 0 65535 0]

/-- The rows at index 0x6005 (R311). -/
def rows6005 : List ObjRow := [
  (row 0x01 .u8 .ro 0 0 15 0).bitForm 0xF,
  row 0x02 .u32 .ro 0 0 4294967295 0,
  row 0x03 .u32 .ro 0 0 4294967295 0,
  row 0x04 .u32 .ro 0 0 4294967295 0,
  row 0x05 .u32 .ro 0 0 4294967295 0,
  row 0x06 .u32 .ro 0 0 4294967295 0,
  row 0x07 .u32 .ro 0 0 4294967295 0]

/-- The rows at index 0x6100 and its instances (R288). -/
def rows6100 : List ObjRow := [
  ((row 0x01 .u8 .sfy 0 0 63 8).bitForm 0x3F).ret,
  (row 0x02 .bool .sfy 0 0 1 8).ret,
  (row 0x05 .u16 .sfy 5 1 1000 8).ret,
  (row 0x06 .u32 .sfy 1000 1 10000000 8).ret,
  (row 0x07 .u16 .sfy 20 0 10000 8).ret,
  (row 0x08 .u16 .sfy 100 0 10000 8).ret,
  (row 0x09 .u16 .sfy 5000 10 60000 8).ret,
  (row 0x0A .u16 .sfy 0 0 10000 8).ret,
  (row 0x0B .u32 .sfy 64 0 1073741824 8).ret,
  (row 0x0C .u8 .sfy 0 0 1 8).ret,
  (row 0x12 .u16 .sfy 500 0 60000 8).ret]

/-- The rows at index 0x6101 and its instances (R284, R288). -/
def rows6101 : List ObjRow := [
  ((row 0x01 .u32 .sfy 100 1 1000000 8).upto 0x04 0).ret,
  (row 0x05 .i64 .sfy (-9223372036854775808) (-9223372036854775808) 9223372036854775807 8).ret,
  (row 0x06 .i64 .sfy 9223372036854775807 (-9223372036854775808) 9223372036854775807 8).ret,
  (row 0x07 .i64 .sfy 0 (-9223372036854775808) 9223372036854775807 8).ret,
  (row 0x08 .u32 .sfy 64 0 1073741824 8).ret,
  (row 0x09 .u16 .sfy 20 1 10000 8).ret,
  (row 0x0A .u32 .sfy 10000 1 1000000 8).ret]

/-- The rows at index 0x6102 and its instances (R288). -/
def rows6102 : List ObjRow := [
  row 0x01 .u8 .ro 0 0 3 0,
  (row 0x02 .u16 .ro 641 0 8191 0).bitForm 0x1FFF,
  (row 0x03 .u16 .ro 0 0 8191 0).bitForm 0x1FFF,
  (row 0x04 .u16 .rw 0 0 8191 10).bitForm 0x1FFF,
  row 0x05 .i32 .ro 0 (-2147483648) 2147483647 0,
  row 0x06 .i32 .ro 0 (-2147483648) 2147483647 0,
  row 0x07 .i64 .ro 0 (-9223372036854775808) 9223372036854775807 0,
  row 0x08 .i64 .ro 0 (-9223372036854775808) 9223372036854775807 0,
  row 0x0A .u16 .ro 0 0 65535 0,
  row 0x0B .i64 .ro 0 (-9223372036854775808) 9223372036854775807 0]

/-- The rows at index 0x6200 and its instances (R284). -/
def rows6200 : List ObjRow := [
  (row 0x01 .u16 .sfy 8191 1 8191 8).ret,
  (row 0x02 .u16 .sfy 10000 0 10000 8).ret]

/-- The rows at index 0x6210 (R284). -/
def rows6210 : List ObjRow := [
  (row 0x01 .u32 .sfy 2000 2000 200000 8).ret,
  (row 0x02 .u32 .sfy 200000 2000 200000 8).ret,
  (row 0x03 .u8 .sfy 0 0 63 8).ret,
  (row 0x04 .u8 .sfy 63 0 63 8).ret,
  (row 0x05 .u16 .sfy 20 20 400 8).ret,
  (row 0x06 .u16 .sfy 400 20 400 8).ret,
  (row 0x07 .u32 .sfy 50000 50 50000 8).ret,
  (row 0x08 .u8 .sfy 1 0 6 8).ret]

/-- The rows at index 0x7000 and its instances (R252). -/
def rows7000 : List ObjRow := [
  row 0x01 .bool .rw 0 0 1 4,
  (row 0x02 .u8 .rw 0 0 4 4).sto,
  (row 0x03 .q .rw 0 0 2147483647 4).sto,
  ((row 0x04 .u32 .rw 1000 50 1000000000 4).every 50).sto,
  (row 0x05 .u8 .rw 10 7 31 4).sto,
  (row 0x06 .u32 .rw 1 0 4294967295 4).sto,
  (row 0x07 .u32 .rw 100000 0 500000000 4).sto,
  (row 0x08 .u32 .rw 1000000 0 500000000 4).sto,
  (row 0x09 .u32 .rw 0 0 4294967295 4).sto,
  (row 0x0A .u64 .rw 0 0 18446744073709551615 4).sto,
  ((row 0x0B .u8 .rw 255 0 47 4).or 255 255).sto,
  (row 0x0C .u8 .rw 0 0 1 4).sto,
  row 0x0D .u8 .ro 0 0 4 0,
  row 0x0E .q .ro 0 (-2147483648) 2147483647 0,
  row 0x0F .u32 .ro 0 0 4294967295 0,
  (row 0x10 .bool .rw 0 0 1 4).sto]

/-- The rows at index 0x7010 (R253). -/
def rows7010 : List ObjRow := [
  row 0x01 .bool .rw 0 0 1 4,
  row 0x02 .u16 .ro 65535 0 65535 0,
  (row 0x03 .u32 .rw 0 0 4294967295 4).sto,
  ((row 0x04 .u32 .rw 1000 50 1000000000 4).every 50).sto,
  (row 0x05 .u16 .rw 1 1 65535 4).sto,
  (row 0x06 .u8 .rw 0 0 1 4).sto,
  (row 0x07 .u8 .rw 0 0 3 4).sto,
  (row 0x08 .u8 .rw 0 0 31 4).sto,
  (row 0x09 .u8 .rw 0 0 4 4).sto,
  (row 0x0A .i32 .rw 0 (-2147483648) 2147483647 4).sto,
  (row 0x0B .u64 .rw 0 0 18446744073709551615 4).sto,
  (row 0x0C .u32 .rw 0 0 131071 4).sto,
  row 0x0D .bool .wo 0 0 1 4,
  row 0x0E .u8 .ro 0 0 5 0,
  (row 0x0F .u32 .ro 0 0 0 0).or 7943 131072,
  row 0x10 .u32 .ro 0 0 131072 0,
  row 0x11 .u32 .ro 0 0 131071 0,
  row 0x12 .u64 .ro 0 0 18446744073709551615 0]

/-- The rows at index 0x7011 (R253). -/
def rows7011 : List ObjRow := [
  row 0x01 .u32 .ro 0 0 4294967295 0,
  (row 0x02 .u32 .rw 0 0 1048575 4).sto,
  (row 0x03 .blob .ro 0 0 1024 0).ver]

/-- The rows at index 0x7020 and its instances (R253). -/
def rows7020 : List ObjRow := [
  (row 0x01 .u16 .rw 0 0 65535 4).sto,
  ((row 0x02 .u32 .rw 0 0 16777215 4).bitForm 0xFFFFFF).sto]

/-- The rows at index 0x7F00 and its instances (R284). -/
def rows7F00 : List ObjRow := [
  row 0x01 .u16 .ro 8191 1 8191 0,
  row 0x02 .u16 .ro 10000 0 10000 0]

/-- The rows at index 0x7F10 (R284). -/
def rows7F10 : List ObjRow := [
  row 0x01 .u32 .ro 2000 2000 200000 0,
  row 0x02 .u32 .ro 200000 2000 200000 0,
  row 0x03 .u8 .ro 0 0 63 0,
  row 0x04 .u8 .ro 63 0 63 0,
  row 0x05 .u16 .ro 20 20 400 0,
  row 0x06 .u16 .ro 400 20 400 0,
  row 0x07 .u32 .ro 50000 50 50000 0,
  row 0x08 .u8 .ro 1 0 6 0]

/-- The rows at index 0x7F20 and its instances (R284). -/
def rows7F20 : List ObjRow := [
  row 0x01 .u32 .ro 10000 1 1000000 0]

/-- The rows at index 0x7F30 (R284). -/
def rows7F30 : List ObjRow := [
  row 0x01 .u32 .ro 0 0 4294967295 0]

end Obj

/-- A block of instances: index base + stride·i for i below count. -/
structure Block where
  base : Nat
  stride : Nat
  count : Nat
  rows : List ObjRow
deriving DecidableEq, Repr

/-- The listed indices (R535–R541). -/
def Catalog.blocks : List Block := [
  ⟨0x1000, 0x0, 1, Obj.rows1000⟩,
  ⟨0x1040, 0x0, 1, Obj.rows1040⟩,
  ⟨0x1041, 0x0, 1, Obj.rows1041⟩,
  ⟨0x1042, 0x0, 1, Obj.rows1042⟩,
  ⟨0x1050, 0x0, 1, Obj.rows1050⟩,
  ⟨0x1100, 0x0, 1, Obj.rows1100⟩,
  ⟨0x1110, 0x0, 1, Obj.rows1110⟩,
  ⟨0x1120, 0x0, 1, Obj.rows1120⟩,
  ⟨0x1121, 0x0, 1, Obj.rows1121⟩,
  ⟨0x1200, 0x0, 1, Obj.rows1200⟩,
  ⟨0x1201, 0x0, 1, Obj.rows1201⟩,
  ⟨0x1202, 0x0, 1, Obj.rows1202⟩,
  ⟨0x1203, 0x0, 1, Obj.rows1203⟩,
  ⟨0x1204, 0x1, 2, Obj.rows1204⟩,
  ⟨0x1206, 0x0, 1, Obj.rows1206⟩,
  ⟨0x1207, 0x0, 1, Obj.rows1207⟩,
  ⟨0x1208, 0x0, 1, Obj.rows1208⟩,
  ⟨0x1211, 0x0, 1, Obj.rows1211⟩,
  ⟨0x1220, 0x0, 1, Obj.rows1220p0⟩,
  ⟨0x1221, 0x1, 15, Obj.rows1220⟩,
  ⟨0x1230, 0x1, 64, Obj.rows1230⟩,
  ⟨0x1300, 0x0, 1, Obj.rows1300⟩,
  ⟨0x1301, 0x0, 1, Obj.rows1301⟩,
  ⟨0x1304, 0x0, 1, Obj.rows1304⟩,
  ⟨0x1310, 0x0, 1, Obj.rows1310⟩,
  ⟨0x1311, 0x0, 1, Obj.rows1311⟩,
  ⟨0x1312, 0x0, 1, Obj.rows1312⟩,
  ⟨0x1313, 0x0, 1, Obj.rows1313⟩,
  ⟨0x1400, 0x0, 1, Obj.rows1400⟩,
  ⟨0x1401, 0x0, 1, Obj.rows1401⟩,
  ⟨0x1402, 0x1, 2, Obj.rows1402⟩,
  ⟨0x1404, 0x0, 1, Obj.rows1404⟩,
  ⟨0x1405, 0x0, 1, Obj.rows1405⟩,
  ⟨0x1406, 0x0, 1, Obj.rows1406⟩,
  ⟨0x1500, 0x10, 2, Obj.rows1500⟩,
  ⟨0x1501, 0x10, 2, Obj.rows1501⟩,
  ⟨0x1540, 0x1, 128, Obj.rows1540⟩,
  ⟨0x15C0, 0x1, 8, Obj.rows15C0⟩,
  ⟨0x15D0, 0x1, 8, Obj.rows15C0⟩,
  ⟨0x1600, 0x0, 1, Obj.rows1600⟩,
  ⟨0x1601, 0x0, 1, Obj.rows1601⟩,
  ⟨0x1610, 0x0, 1, Obj.rows1610⟩,
  ⟨0x1611, 0x0, 1, Obj.rows1611⟩,
  ⟨0x1612, 0x0, 1, Obj.rows1612⟩,
  ⟨0x1700, 0x0, 1, Obj.rows1700⟩,
  ⟨0x1701, 0x0, 1, Obj.rows1701⟩,
  ⟨0x1702, 0x0, 1, Obj.rows1702⟩,
  ⟨0x1703, 0x0, 1, Obj.rows1703⟩,
  ⟨0x2001, 0x100, 6, Obj.rows2001⟩,
  ⟨0x2002, 0x100, 6, Obj.rows2002⟩,
  ⟨0x2003, 0x100, 6, Obj.rows2003⟩,
  ⟨0x2004, 0x100, 6, Obj.rows2004⟩,
  ⟨0x2005, 0x100, 6, Obj.rows2005⟩,
  ⟨0x2006, 0x100, 6, Obj.rows2006⟩,
  ⟨0x2007, 0x100, 6, Obj.rows2007⟩,
  ⟨0x2008, 0x100, 6, Obj.rows2008⟩,
  ⟨0x2009, 0x100, 6, Obj.rows2008⟩,
  ⟨0x200A, 0x100, 6, Obj.rows2008⟩,
  ⟨0x200B, 0x100, 6, Obj.rows200B⟩,
  ⟨0x200C, 0x100, 6, Obj.rows200C⟩,
  ⟨0x200D, 0x100, 6, Obj.rows200D⟩,
  ⟨0x200E, 0x100, 6, Obj.rows200E⟩,
  ⟨0x200F, 0x100, 6, Obj.rows200F⟩,
  ⟨0x3001, 0x100, 6, Obj.rows3001⟩,
  ⟨0x3002, 0x100, 6, Obj.rows3002⟩,
  ⟨0x3003, 0x100, 6, Obj.rows3003⟩,
  ⟨0x3800, 0x10, 4, Obj.rows3800⟩,
  ⟨0x3801, 0x10, 4, Obj.rows3801⟩,
  ⟨0x4000, 0x0, 1, Obj.rows4000⟩,
  ⟨0x4001, 0x0, 1, Obj.rows4001⟩,
  ⟨0x4002, 0x0, 1, Obj.rows4002⟩,
  ⟨0x4100, 0x1, 48, Obj.rows4100⟩,
  ⟨0x5001, 0x100, 4, Obj.rows5001⟩,
  ⟨0x5002, 0x100, 4, Obj.rows5002⟩,
  ⟨0x5003, 0x100, 4, Obj.rows5003⟩,
  ⟨0x500B, 0x100, 4, Obj.rows500B⟩,
  ⟨0x5010, 0x100, 4, Obj.rows5010⟩,
  ⟨0x5011, 0x100, 4, Obj.rows5011⟩,
  ⟨0x5012, 0x100, 4, Obj.rows5012⟩,
  ⟨0x5020, 0x100, 4, Obj.rows5020⟩,
  ⟨0x5030, 0x100, 4, Obj.rows5030⟩,
  ⟨0x5031, 0x100, 4, Obj.rows5031⟩,
  ⟨0x5800, 0x10, 2, Obj.rows5800⟩,
  ⟨0x6000, 0x0, 1, Obj.rows6000⟩,
  ⟨0x6001, 0x0, 1, Obj.rows6001⟩,
  ⟨0x6002, 0x0, 1, Obj.rows6002⟩,
  ⟨0x6003, 0x0, 1, Obj.rows6003⟩,
  ⟨0x6004, 0x0, 1, Obj.rows6004⟩,
  ⟨0x6005, 0x0, 1, Obj.rows6005⟩,
  ⟨0x6100, 0x10, 4, Obj.rows6100⟩,
  ⟨0x6101, 0x10, 4, Obj.rows6101⟩,
  ⟨0x6102, 0x10, 4, Obj.rows6102⟩,
  ⟨0x6200, 0x1, 6, Obj.rows6200⟩,
  ⟨0x6210, 0x0, 1, Obj.rows6210⟩,
  ⟨0x7000, 0x1, 4, Obj.rows7000⟩,
  ⟨0x7010, 0x0, 1, Obj.rows7010⟩,
  ⟨0x7011, 0x0, 1, Obj.rows7011⟩,
  ⟨0x7020, 0x1, 32, Obj.rows7020⟩,
  ⟨0x7F00, 0x1, 6, Obj.rows7F00⟩,
  ⟨0x7F10, 0x0, 1, Obj.rows7F10⟩,
  ⟨0x7F20, 0x1, 4, Obj.rows7F20⟩,
  ⟨0x7F30, 0x0, 1, Obj.rows7F30⟩]

/-- The instance number of an index within a block, when it lies in it. -/
def Block.has (b : Block) (idx : Nat) : Bool :=
  decide (b.base ≤ idx) && (if b.stride = 0 then decide (idx = b.base)
    else decide ((idx - b.base) % b.stride = 0) && decide ((idx - b.base) / b.stride < b.count))

/-- The rows of a listed index (R529). -/
def Catalog.rows (idx : Nat) : Option (List ObjRow) :=
  (Catalog.blocks.find? (·.has idx)).map (·.rows)

/-- The instance blocks of R527, whose unlisted indices are reserved (R528). -/
def Catalog.instanceBlock (idx : Nat) : Bool :=
  (decide (0x2000 ≤ idx) && decide (idx < 0x2600) && decide (idx % 0x100 < 0x20)) ||
  (decide (0x3000 ≤ idx) && decide (idx < 0x3600) && decide (idx % 0x100 < 0x08)) ||
  (decide (0x3800 ≤ idx) && decide (idx < 0x3840)) ||
  (decide (0x5000 ≤ idx) && decide (idx < 0x5400) && decide (idx % 0x100 < 0x40)) ||
  (decide (0x5800 ≤ idx) && decide (idx < 0x5820) && decide (idx % 0x10 < 0x08)) ||
  (decide (0x6100 ≤ idx) && decide (idx < 0x6140))

/-- Whether an index is defined (R318, R528). -/
def Catalog.indexDefined (idx : Nat) : Bool :=
  (Catalog.rows idx).isSome || Catalog.instanceBlock idx

/-- The row of subindex 00 of a defined index: the highest subindex defined there, RO and held (R317, R528,
R529). -/
def Catalog.row0 (idx : Nat) : ObjRow :=
  let top := match Catalog.rows idx with
    | some rs => rs.foldl (fun m r => max m r.hi) 0
    | none => 0
  (row 0 .u8 .ro top top top 0).held

/-- The row of an object, when it is defined. -/
def Catalog.find (key : Nat) : Option ObjRow :=
  let idx := key / 256
  let sub := key % 256
  if sub = 0 then (if Catalog.indexDefined idx then some (Catalog.row0 idx) else none)
  else (Catalog.rows idx).bind (fun rs => rs.find? (fun r => decide (r.lo ≤ sub) && decide (sub ≤ r.hi)))

/-- The value an object takes at reset (R322, the Default column of its table). -/
def Catalog.default (key : Nat) : Int :=
  match Catalog.find key with
  | some r => r.dflt + r.dstep * ((key % 256 - r.lo : Nat) : Int)
  | none => 0

namespace Obj

/-- `1000:01` (R333): Spenos vendor number -/
abbrev DV_VENDOR  : Nat := 0x100001
/-- `1000:02` (R333): Product name -/
abbrev DV_PRODUCT  : Nat := 0x100002
/-- `1000:03` (R333): Ordering code (R1) -/
abbrev DV_ORDER_CODE  : Nat := 0x100003
/-- `1000:04` (R333): Silicon stepping, B1 (R1) -/
abbrev DV_STEPPING  : Nat := 0x100004
/-- `1000:05` (R333): Serial number -/
abbrev DV_SERIAL  : Nat := 0x100005
/-- `1000:06` (R333): Device address d -/
abbrev DV_ADDRESS  : Nat := 0x100006
/-- `1000:07` (R333): Defined indices (R318) -/
abbrev DV_INDEX_COUNT  : Nat := 0x100007
/-- `1000:08` (R333): Version of subindices 02–03 (R327) -/
abbrev DV_ID_VER  : Nat := 0x100008
/-- `1040:01` (R113): Sections named by a load-all, bit x for section x; bits [7:6] reserved -/
abbrev S_LOADALL_MASK  : Nat := 0x104001
/-- `1040:02` (R113): Load-all request (R102); a write of 0 has no effect -/
abbrev S_LOADALL  : Nat := 0x104002
/-- `1040:03` (R113): Sections with a load-all pending (R102) -/
abbrev S_LOADALL_PEND  : Nat := 0x104003
/-- `1041:01` (R141): Active refresh limit (R134) -/
abbrev S_BLW_MAX_COIN  : Nat := 0x104101
/-- `1041:02` (R141): Refreshes active now (R134) -/
abbrev S_BLW_ACTIVE  : Nat := 0x104102
/-- `1041:03` (R141): Refreshes deferred (R134) -/
abbrev S_BLW_DEFERRED  : Nat := 0x104103
/-- `1042:01` (R161): Isolated sections for a device fault (R156) -/
abbrev S_DEV_ISO_LIMIT  : Nat := 0x104201
/-- `1042:02` (R161): Device fault causes (R158); bits [7:2] reserved -/
abbrev S_DEV_FAULT  : Nat := 0x104202
/-- `1042:03` (R161): Device clear (R158); 0 has no effect -/
abbrev S_DEV_CLEAR  : Nat := 0x104203
/-- `1050:01` (R333): Grants to requesters 0–13 (R328) -/
abbrev ST_GRANTS  (i : Nat) : Nat := 0x105001 + i
/-- `1050:0F` (R333): Cycles with a transfer -/
abbrev ST_BUSY  : Nat := 0x10500F
/-- `1050:10` (R333): Withdrawals (R330) -/
abbrev ST_DEAD_CYCLES  : Nat := 0x105010
/-- `1050:11` (R333): Longest wait from request to grant, in cycles; only 0 may be written -/
abbrev ST_MAX_WAIT  : Nat := 0x105011
/-- `1100:01` (R453): Timebase, ns; live (R441) -/
abbrev TB_NOW  : Nat := 0x110001
/-- `1100:02` (R453): 0 no reference, 1 locking, 2 locked, 3 holdover -/
abbrev TB_REF_STATE  : Nat := 0x110002
/-- `1100:03` (R453): Step the timebase (R442) -/
abbrev TB_SET  : Nat := 0x110003
/-- `1100:04` (R453): UTC minus timebase, ns; retained by Hearth -/
abbrev TB_UTC_OFFSET  : Nat := 0x110004
/-- `1100:05` (R453): Steps taken -/
abbrev TB_STEPS  : Nat := 0x110005
/-- `1100:06` (R453): Holdover limit, ms (R450) -/
abbrev TB_HOLDOVER  : Nat := 0x110006
/-- `1100:07` (R453): Size of the last step, ns -/
abbrev TB_LAST_STEP  : Nat := 0x110007
/-- `1110:01` (R453): Oldest sequence held -/
abbrev JL_FIRST  : Nat := 0x111001
/-- `1110:02` (R453): Next sequence to be written -/
abbrev JL_NEXT  : Nat := 0x111002
/-- `1110:03` (R453): Sequence to read -/
abbrev JL_SEL  : Nat := 0x111003
/-- `1110:04` (R453): Selected entry (R447) -/
abbrev JL_ENTRY  : Nat := 0x111004
/-- `1110:05` (R453): Entries dropped -/
abbrev JL_DROPPED  : Nat := 0x111005
/-- `1110:06` (R453): Entries in the ring -/
abbrev JL_CAPACITY  : Nat := 0x111006
/-- `1110:07` (R453): Entries queued -/
abbrev JL_QUEUE  : Nat := 0x111007
/-- `1110:08` (R453): Version of JL_ENTRY (R327) -/
abbrev JL_VER  : Nat := 0x111008
/-- `1120:01` (R453): State of islands 0–63 (R448) -/
abbrev IS_STATE  (i : Nat) : Nat := 0x112001 + i
/-- `1121:01` (R453): Faults of islands 0–63 -/
abbrev IS_FAULTS  (i : Nat) : Nat := 0x112101 + i
/-- `1200:01` (R360): Own identifier -/
abbrev SS_ID  : Nat := 0x120001
/-- `1200:02` (R360): Own roles (R314) -/
abbrev SS_ROLES  : Nat := 0x120002
/-- `1200:03` (R360): Own key slot; 0xFF for reserved sessions and proxies -/
abbrev SS_KEY_SLOT  : Nat := 0x120003
/-- `1200:04` (R360): Own profile -/
abbrev SS_PROFILE  : Nat := 0x120004
/-- `1200:05` (R360): Tokens in the bucket (R348) -/
abbrev SS_TOKENS  : Nat := 0x120005
/-- `1200:06` (R360): Proofing bytes of the session's transactions in state 1, headers included; a transaction leaves the count when its commit begins (R365) -/
abbrev SS_USE_STAGE  : Nat := 0x120006
/-- `1200:07` (R360): Transactions of the session in state 1; a transaction leaves the count when its commit begins (R365) -/
abbrev SS_USE_TX  : Nat := 0x120007
/-- `1200:08` (R360): Held locks -/
abbrev SS_USE_LOCKS  : Nat := 0x120008
/-- `1200:09` (R360): Fill rate of the armed capture, bytes/s -/
abbrev SS_USE_CAPTURE  : Nat := 0x120009
/-- `1200:0A` (R360): Records refused with 0x0E -/
abbrev SS_REFUSED  : Nat := 0x12000A
/-- `1201:01` (R360): Lock request -/
abbrev SS_LOCK  : Nat := 0x120101
/-- `1201:02` (R360): Session shown at 0x1211 -/
abbrev SS_SEL  : Nat := 0x120102
/-- `1202:01` (R360): Holder per target (R351) -/
abbrev SS_LOCK_OWNER  (i : Nat) : Nat := 0x120201 + i
/-- `1203:01` (R360): Expiry per target, timebase ns -/
abbrev SS_LOCK_EXPIRY  (i : Nat) : Nat := 0x120301 + i
/-- `1204:01` (R360): Link up (R334) -/
abbrev NP_LINK (p : Nat) : Nat := 0x120401 + 0x100 * p
/-- `1204:02` (R360): Global address -/
abbrev NP_ADDR (p : Nat) : Nat := 0x120402 + 0x100 * p
/-- `1204:03` (R360): Prefix length; 0 no global address -/
abbrev NP_PREFIX (p : Nat) : Nat := 0x120403 + 0x100 * p
/-- `1204:04` (R360): VID; 0 untagged only -/
abbrev NP_VLAN (p : Nat) : Nat := 0x120404 + 0x100 * p
/-- `1204:05` (R360): MDIO PHY address -/
abbrev NP_PHY_ADDR (p : Nat) : Nat := 0x120405 + 0x100 * p
/-- `1204:06` (R360): Frames accepted -/
abbrev NP_RX (p : Nat) : Nat := 0x120406 + 0x100 * p
/-- `1204:07` (R360): Frames dropped -/
abbrev NP_DROPPED (p : Nat) : Nat := 0x120407 + 0x100 * p
/-- `1204:08` (R360): Tag failures (R342) -/
abbrev NP_TAG_FAIL (p : Nat) : Nat := 0x120408 + 0x100 * p
/-- `1204:09` (R360): Version of NP_ADDR (R327) -/
abbrev NP_ADDR_VER (p : Nat) : Nat := 0x120409 + 0x100 * p
/-- `1204:0A` (R360): Link-local address -/
abbrev NP_LL_ADDR (p : Nat) : Nat := 0x12040A + 0x100 * p
/-- `1206:01` (R360): Host frames accepted -/
abbrev HP_FRAMES  : Nat := 0x120601
/-- `1206:02` (R360): Words ended by select (R355) -/
abbrev HP_DESELECT_ERR  : Nat := 0x120602
/-- `1206:03` (R360): Words with a wrong edge count -/
abbrev HP_EDGE_ERR  : Nat := 0x120603
/-- `1206:04` (R360): Host frames discarded (R356) -/
abbrev HP_FRAME_ERR  : Nat := 0x120604
/-- `1206:05` (R360): A key slot is enabled (R345) -/
abbrev HP_PROVISIONED  : Nat := 0x120605
/-- `1207:01` (R360): Sessions held, pending openings included -/
abbrev SS_COUNT  : Nat := 0x120701
/-- `1207:02` (R360): Σr (R348) -/
abbrev SS_GUAR_SUM  : Nat := 0x120702
/-- `1207:03` (R360): Routing entries (R347) -/
abbrev SS_ROUTES  : Nat := 0x120703
/-- `1207:04` (R360): OPENs answered with REFUSE (R560) -/
abbrev SS_OPEN_REFUSED  : Nat := 0x120704
/-- `1208:01` (R360): Roles of CB0, CB1 sessions -/
abbrev SS_CAN_ROLES  (i : Nat) : Nat := 0x120801 + i
/-- `1208:03` (R360): Profiles of CB0, CB1 sessions -/
abbrev SS_CAN_PROFILE  (i : Nat) : Nat := 0x120803 + i
/-- `1211:01` (R360): as 1200:01 of the session that SS_SEL names -/
abbrev SS_V_ID  : Nat := 0x121101
/-- `1211:02` (R360): as 1200:02 of the session that SS_SEL names -/
abbrev SS_V_ROLES  : Nat := 0x121102
/-- `1211:03` (R360): as 1200:03 of the session that SS_SEL names -/
abbrev SS_V_KEY_SLOT  : Nat := 0x121103
/-- `1211:04` (R360): as 1200:04 of the session that SS_SEL names -/
abbrev SS_V_PROFILE  : Nat := 0x121104
/-- `1211:05` (R360): as 1200:05 of the session that SS_SEL names -/
abbrev SS_V_TOKENS  : Nat := 0x121105
/-- `1211:06` (R360): as 1200:06 of the session that SS_SEL names -/
abbrev SS_V_USE_STAGE  : Nat := 0x121106
/-- `1211:07` (R360): as 1200:07 of the session that SS_SEL names -/
abbrev SS_V_USE_TX  : Nat := 0x121107
/-- `1211:08` (R360): as 1200:08 of the session that SS_SEL names -/
abbrev SS_V_USE_LOCKS  : Nat := 0x121108
/-- `1211:09` (R360): as 1200:09 of the session that SS_SEL names -/
abbrev SS_V_USE_CAPTURE  : Nat := 0x121109
/-- `1211:0A` (R360): as 1200:0A of the session that SS_SEL names -/
abbrev SS_V_REFUSED  : Nat := 0x12110A
/-- `1211:0B` (R360): Close the selected session; 0 has no effect -/
abbrev SS_V_CLOSE  : Nat := 0x12110B
/-- `1211:0C` (R360): Time since its last frame, ms -/
abbrev SS_V_AGE  : Nat := 0x12110C
/-- `1220:01` (R361): Guaranteed records per second -/
abbrev SS_Q_RATE (j : Nat) : Nat := 0x122001 + 0x100 * j
/-- `1220:02` (R361): Burst -/
abbrev SS_Q_BURST (j : Nat) : Nat := 0x122002 + 0x100 * j
/-- `1220:03` (R361): Staging bytes -/
abbrev SS_Q_STAGE (j : Nat) : Nat := 0x122003 + 0x100 * j
/-- `1220:04` (R361): Open transactions -/
abbrev SS_Q_TX (j : Nat) : Nat := 0x122004 + 0x100 * j
/-- `1220:05` (R361): Held locks -/
abbrev SS_Q_LOCKS (j : Nat) : Nat := 0x122005 + 0x100 * j
/-- `1220:06` (R361): Capture bandwidth, bytes/s -/
abbrev SS_Q_CAPTURE (j : Nat) : Nat := 0x122006 + 0x100 * j
/-- `1220:07` (R361): Hard cut (R349) -/
abbrev SS_Q_HARD (j : Nat) : Nat := 0x122007 + 0x100 * j
/-- `1220:08` (R361): Idle limit, ms -/
abbrev SS_Q_IDLE (j : Nat) : Nat := 0x122008 + 0x100 * j
/-- `1230:01` (R361): Key (R343) -/
abbrev SS_KEY (k : Nat) : Nat := 0x123001 + 0x100 * k
/-- `1230:02` (R361): Slot enabled -/
abbrev SS_KEY_EN (k : Nat) : Nat := 0x123002 + 0x100 * k
/-- `1230:03` (R361): Roles granted -/
abbrev SS_KEY_ROLES (k : Nat) : Nat := 0x123003 + 0x100 * k
/-- `1230:04` (R361): Profile of its sessions -/
abbrev SS_KEY_PROFILE (k : Nat) : Nat := 0x123004 + 0x100 * k
/-- `1230:05` (R361): Ports usable -/
abbrev SS_KEY_PORTS (k : Nat) : Nat := 0x123005 + 0x100 * k
/-- `1230:06` (R361): Concurrent sessions -/
abbrev SS_KEY_MAX (k : Nat) : Nat := 0x123006 + 0x100 * k
/-- `1230:07` (R361): A key has been written -/
abbrev SS_KEY_SET (k : Nat) : Nat := 0x123007 + 0x100 * k
/-- `1300:01` (R387): Open a transaction (R362); 0 has no effect -/
abbrev TX_OPEN  : Nat := 0x130001
/-- `1300:02` (R387): Transaction being staged (R363) -/
abbrev TX_CUR  : Nat := 0x130002
/-- `1300:03` (R387): Fence domains of the session (R380) -/
abbrev TX_DOMAINS  : Nat := 0x130003
/-- `1300:04` (R387): Commit point (R366) -/
abbrev TX_POINT  : Nat := 0x130004
/-- `1300:05` (R387): Sections of point 1; bits [7:6] reserved -/
abbrev TX_SECTIONS  : Nat := 0x130005
/-- `1300:06` (R387): Domain of point 2 -/
abbrev TX_FENCE_DOM  : Nat := 0x130006
/-- `1300:07` (R387): Commit instant of point 3, timebase ns -/
abbrev TX_TIME  : Nat := 0x130007
/-- `1300:08` (R387): Begin the commit (R366); 0 has no effect -/
abbrev TX_COMMIT  : Nat := 0x130008
/-- `1300:09` (R387): Abort (R373); 0 has no effect -/
abbrev TX_ABORT  : Nat := 0x130009
/-- `1301:01` (R387): Transaction reported (R373) -/
abbrev TX_SEL  : Nat := 0x130101
/-- `1301:02` (R387): State (R373) -/
abbrev TX_STATE  : Nat := 0x130102
/-- `1301:03` (R387): Result (R374) -/
abbrev TX_RESULT  : Nat := 0x130103
/-- `1301:04` (R387): T, once fixed -/
abbrev TX_COMMIT_T  : Nat := 0x130104
/-- `1301:05` (R387): Objects staged on this device -/
abbrev TX_WRITES  : Nat := 0x130105
/-- `1301:06` (R387): Proofing bytes (R365) -/
abbrev TX_BYTES  : Nat := 0x130106
/-- `1301:07` (R387): Owning session -/
abbrev TX_OWNER  : Nat := 0x130107
/-- `1301:08` (R387): Participant devices (R376) -/
abbrev TX_PARTICIPANTS  : Nat := 0x130108
/-- `1301:09` (R387): First failing global address -/
abbrev TX_FAIL_ADDR  : Nat := 0x130109
/-- `1304:01` (R387): Transactions in states 1–3 and 7 -/
abbrev TX_OPEN_COUNT  : Nat := 0x130401
/-- `1304:02` (R387): Proofing bytes in use -/
abbrev TX_PROOF_USED  : Nat := 0x130402
/-- `1304:03` (R387): Commits -/
abbrev TX_COMMITS  : Nat := 0x130403
/-- `1304:04` (R387): Aborts -/
abbrev TX_ABORTS  : Nat := 0x130404
/-- `1304:05` (R387): Prepare timeout, ms (R378) -/
abbrev TX_PREP_TIMEOUT  : Nat := 0x130405
/-- `1304:06` (R387): Lmin, ns (R378) -/
abbrev TX_LMIN  : Nat := 0x130406
/-- `1310:01` (R387): Fence in domain f = subindex − 1; 0 has no effect -/
abbrev TX_FENCE  (i : Nat) : Nat := 0x131001 + i
/-- `1311:01` (R387): Fences completed -/
abbrev TX_FENCE_COUNT  (i : Nat) : Nat := 0x131101 + i
/-- `1312:01` (R387): Last completion, timebase ns -/
abbrev TX_FENCE_DONE  (i : Nat) : Nat := 0x131201 + i
/-- `1313:01` (R387): Domains of NazLink cyclic data -/
abbrev TX_NZ_DOMAINS  : Nat := 0x131301
/-- `1400:01` (R415): 0 Standalone, 1 Master, 2 Follower -/
abbrev NZ_ROLE  : Nat := 0x140001
/-- `1400:02` (R415): 0 no link, 1 electing, 2 enumerating, 3 running, 4 master cycles missed -/
abbrev NZ_STATE  : Nat := 0x140002
/-- `1400:03` (R415): Master-capable from the next election; retained -/
abbrev NZ_MASTER_CAP  : Nat := 0x140003
/-- `1400:04` (R415): Election priority; retained -/
abbrev NZ_PRIORITY  : Nat := 0x140004
/-- `1400:05` (R415): Requested address; retained -/
abbrev NZ_ADDR_REQ  : Nat := 0x140005
/-- `1400:06` (R415): Address at the last pass; retained -/
abbrev NZ_ADDR_LAST  : Nat := 0x140006
/-- `1400:07` (R415): Cycle, µs (R394) -/
abbrev NZ_CYCLE  : Nat := 0x140007
/-- `1400:08` (R415): N -/
abbrev NZ_COUNT  : Nat := 0x140008
/-- `1400:09` (R415): Enumeration generation -/
abbrev NZ_GEN  : Nat := 0x140009
/-- `1400:0A` (R415): Master address -/
abbrev NZ_MASTER  : Nat := 0x14000A
/-- `1400:0B` (R415): Standby address -/
abbrev NZ_STANDBY  : Nat := 0x14000B
/-- `1400:0C` (R415): 0 single device, 1 closed, 2 open -/
abbrev NZ_RING  : Nat := 0x14000C
/-- `1400:0D` (R415): Cascade reset (R408); 0 has no effect -/
abbrev NZ_CASC_RESET  : Nat := 0x14000D
/-- `1400:0E` (R415): Cycles missed (R400) -/
abbrev NZ_MISSED  : Nat := 0x14000E
/-- `1400:0F` (R415): Late CYCLE frames -/
abbrev NZ_LATE  : Nat := 0x14000F
/-- `1401:01` (R415): Addresses present, bit d -/
abbrev NZ_PRESENT  : Nat := 0x140101
/-- `1401:02` (R415): Addresses held for lost devices (R411) -/
abbrev NZ_LOST  : Nat := 0x140102
/-- `1401:03` (R415): Addresses in downstream order from the master -/
abbrev NZ_ORDER  : Nat := 0x140103
/-- `1401:04` (R415): Version of 01–03 (R327) -/
abbrev NZ_MAP_VER  : Nat := 0x140104
/-- `1402:01` (R415): Link state of NZU, NZD (R389) -/
abbrev NZ_LINK (u : Nat) : Nat := 0x140201 + 0x100 * u
/-- `1402:02` (R415): Link delay, ps -/
abbrev NZ_LINK_DELAY (u : Nat) : Nat := 0x140202 + 0x100 * u
/-- `1402:03` (R415): Code violations -/
abbrev NZ_CODE_ERR (u : Nat) : Nat := 0x140203 + 0x100 * u
/-- `1402:04` (R415): Frames aborted -/
abbrev NZ_CRC_ERR (u : Nat) : Nat := 0x140204 + 0x100 * u
/-- `1402:05` (R415): Times down -/
abbrev NZ_LINK_DOWNS (u : Nat) : Nat := 0x140205 + 0x100 * u
/-- `1404:01` (R415): Timebase in sync (R401) -/
abbrev NZ_SYNC  : Nat := 0x140401
/-- `1404:02` (R415): Offset, ps -/
abbrev NZ_OFFSET  : Nat := 0x140402
/-- `1404:03` (R415): Rate correction, ppb -/
abbrev NZ_RATE  : Nat := 0x140403
/-- `1405:01` (R415): U32 × 8 local addresses; 0 unused -/
abbrev NZ_SNAP_OBJ  : Nat := 0x140501
/-- `1405:02` (R415): Requested instant, timebase ns -/
abbrev NZ_SNAP_TIME  : Nat := 0x140502
/-- `1405:03` (R415): Start a snapshot; 0 has no effect -/
abbrev NZ_SNAP_GO  : Nat := 0x140503
/-- `1405:04` (R415): 0 idle, 1 armed, 2 taken, 3 void -/
abbrev NZ_SNAP_STATE  : Nat := 0x140504
/-- `1405:05` (R415): Ts -/
abbrev NZ_SNAP_T  : Nat := 0x140505
/-- `1405:06` (R415): U64 × 8 values -/
abbrev NZ_SNAP_VAL  : Nat := 0x140506
/-- `1405:07` (R415): Version (R407) -/
abbrev NZ_SNAP_VER  : Nat := 0x140507
/-- `1406:01` (R415): Plain barrier; 0 has no effect -/
abbrev NZ_BARRIER_GO  : Nat := 0x140601
/-- `1406:02` (R415): Completion instant -/
abbrev NZ_BARRIER_DONE  : Nat := 0x140602
/-- `1406:03` (R415): Barriers completed -/
abbrev NZ_BARRIERS  : Nat := 0x140603
/-- `1500:01` (R434): Mode (R420) -/
abbrev CB_MODE (b : Nat) : Nat := 0x150001 + 0x1000 * b
/-- `1500:02` (R434): CiA 301 node -/
abbrev CB_NODE_ID (b : Nat) : Nat := 0x150002 + 0x1000 * b
/-- `1500:03` (R434): Nominal prescaler (R418) -/
abbrev CB_NBRP (b : Nat) : Nat := 0x150003 + 0x1000 * b
/-- `1500:04` (R434): Nominal segment 1, tq -/
abbrev CB_NTSEG1 (b : Nat) : Nat := 0x150004 + 0x1000 * b
/-- `1500:05` (R434): Nominal segment 2, tq -/
abbrev CB_NTSEG2 (b : Nat) : Nat := 0x150005 + 0x1000 * b
/-- `1500:06` (R434): Nominal jump width, tq -/
abbrev CB_NSJW (b : Nat) : Nat := 0x150006 + 0x1000 * b
/-- `1500:07` (R434): Data prescaler -/
abbrev CB_DBRP (b : Nat) : Nat := 0x150007 + 0x1000 * b
/-- `1500:08` (R434): Data segment 1, tq -/
abbrev CB_DTSEG1 (b : Nat) : Nat := 0x150008 + 0x1000 * b
/-- `1500:09` (R434): Data segment 2, tq -/
abbrev CB_DTSEG2 (b : Nat) : Nat := 0x150009 + 0x1000 * b
/-- `1500:0A` (R434): Data jump width, tq -/
abbrev CB_DSJW (b : Nat) : Nat := 0x15000A + 0x1000 * b
/-- `1500:0B` (R434): Delay compensation -/
abbrev CB_TDC_EN (b : Nat) : Nat := 0x15000B + 0x1000 * b
/-- `1500:0C` (R434): Secondary sample offset, clock periods -/
abbrev CB_TDC_OFFSET (b : Nat) : Nat := 0x15000C + 0x1000 * b
/-- `1500:0D` (R434): Recover without a write (R423) -/
abbrev CB_AUTO_RECOVER (b : Nat) : Nat := 0x15000D + 0x1000 * b
/-- `1500:0E` (R434): Start recovery; 0 has no effect -/
abbrev CB_RECOVER (b : Nat) : Nat := 0x15000E + 0x1000 * b
/-- `1500:10` (R434): Operational after integration (R429) -/
abbrev CB_NMT_AUTO (b : Nat) : Nat := 0x150010 + 0x1000 * b
/-- `1501:01` (R434): Controller state (R422) -/
abbrev CB_STATE (b : Nat) : Nat := 0x150101 + 0x1000 * b
/-- `1501:02` (R434): Transmit error counter -/
abbrev CB_TEC (b : Nat) : Nat := 0x150102 + 0x1000 * b
/-- `1501:03` (R434): Receive error counter -/
abbrev CB_REC (b : Nat) : Nat := 0x150103 + 0x1000 * b
/-- `1501:04` (R434): Frames with no entry -/
abbrev CB_RX_LOST (b : Nat) : Nat := 0x150104 + 0x1000 * b
/-- `1501:05` (R434): Frames sent -/
abbrev CB_TX_DONE (b : Nat) : Nat := 0x150105 + 0x1000 * b
/-- `1501:06` (R434): Frames taken -/
abbrev CB_RX_DONE (b : Nat) : Nat := 0x150106 + 0x1000 * b
/-- `1501:07` (R434): Errors detected -/
abbrev CB_ERRORS (b : Nat) : Nat := 0x150107 + 0x1000 * b
/-- `1501:08` (R434): Bus-off entries -/
abbrev CB_BUSOFF_COUNT (b : Nat) : Nat := 0x150108 + 0x1000 * b
/-- `1501:09` (R434): Measured delay, clock periods -/
abbrev CB_TDC_MEAS (b : Nat) : Nat := 0x150109 + 0x1000 * b
/-- `1501:0A` (R434): RPDOs discarded (R431) -/
abbrev CB_PDO_LOST (b : Nat) : Nat := 0x15010A + 0x1000 * b
/-- `1501:0B` (R434): NMT state -/
abbrev CB_NMT_STATE (b : Nat) : Nat := 0x15010B + 0x1000 * b
/-- `1501:0C` (R434): Protocol exceptions -/
abbrev CB_PEXC (b : Nat) : Nat := 0x15010C + 0x1000 * b
/-- `1540:01` (R435): 0 software, 1 hardware (R425) -/
abbrev CB_Q_OWNER (b e : Nat) : Nat := 0x154001 + 0x4000 * b + 0x100 * e
/-- `1540:02` (R435): Give to hardware; 0 has no effect -/
abbrev CB_Q_ACK (b e : Nat) : Nat := 0x154002 + 0x4000 * b + 0x100 * e
/-- `1540:03` (R435): 0 receive, 1 transmit -/
abbrev CB_Q_DIR (b e : Nat) : Nat := 0x154003 + 0x4000 * b + 0x100 * e
/-- `1540:04` (R435): Frame word (R426); bit 31 reserved -/
abbrev CB_Q_ID (b e : Nat) : Nat := 0x154004 + 0x4000 * b + 0x100 * e
/-- `1540:05` (R435): Acceptance mask; bit 31 reserved -/
abbrev CB_Q_MASK (b e : Nat) : Nat := 0x154005 + 0x4000 * b + 0x100 * e
/-- `1540:06` (R435): 0 FDF, 1 BRS, 2 ESI (received only), 3 one-shot; bits [7:4] reserved -/
abbrev CB_Q_FLAGS (b e : Nat) : Nat := 0x154006 + 0x4000 * b + 0x100 * e
/-- `1540:07` (R435): Data bytes -/
abbrev CB_Q_LEN (b e : Nat) : Nat := 0x154007 + 0x4000 * b + 0x100 * e
/-- `1540:08` (R435): Data -/
abbrev CB_Q_DATA (b e : Nat) : Nat := 0x154008 + 0x4000 * b + 0x100 * e
/-- `1540:09` (R435): Start of frame, timebase ns -/
abbrev CB_Q_STAMP (b e : Nat) : Nat := 0x154009 + 0x4000 * b + 0x100 * e
/-- `1540:0A` (R435): 0 none, 1 received, 2 sent, 3 aborted, 4 bus-off, 5 one-shot failed -/
abbrev CB_Q_STATUS (b e : Nat) : Nat := 0x15400A + 0x4000 * b + 0x100 * e
/-- `1540:0B` (R435): Abort (R428); 0 has no effect -/
abbrev CB_Q_ABORT (b e : Nat) : Nat := 0x15400B + 0x4000 * b + 0x100 * e
/-- `15C0:01` (R436): Identifier [28:0], IDE bit 29, invalid bit 31 -/
abbrev CB_PDO_COBID (b i : Nat) : Nat := 0x15C001 + 0x1000 * b + 0x100 * i
/-- `15C0:02` (R436): Transmission type (R431) -/
abbrev CB_PDO_TYPE (b i : Nat) : Nat := 0x15C002 + 0x1000 * b + 0x100 * i
/-- `15C0:03` (R436): Inhibit, 100 µs; TPDO only -/
abbrev CB_PDO_INHIBIT (b i : Nat) : Nat := 0x15C003 + 0x1000 * b + 0x100 * i
/-- `15C0:05` (R436): Event time, ms; 0 never -/
abbrev CB_PDO_EVENT (b i : Nat) : Nat := 0x15C005 + 0x1000 * b + 0x100 * i
/-- `15C0:06` (R436): TPDO FDF bit 0, BRS bit 1; bits [7:2] reserved -/
abbrev CB_PDO_FD (b i : Nat) : Nat := 0x15C006 + 0x1000 * b + 0x100 * i
/-- `15C0:07` (R436): Mapping entries in use -/
abbrev CB_PDO_NMAP (b i : Nat) : Nat := 0x15C007 + 0x1000 * b + 0x100 * i
/-- `15C0:10` (R436): Mapping entries -/
abbrev CB_PDO_MAP (b i : Nat) (j : Nat) : Nat := 0x15C010 + 0x1000 * b + 0x100 * i + j
/-- `1600:01` (R472): 0 Normal, 1 Derate (R457) -/
abbrev PW_STATE  : Nat := 0x160001
/-- `1600:02` (R472): Below warning: bit 0 VCORE, 1 VDDA, 2 VIO18, 3 VIO33, 4 VPD; bit 5 VPD below monitor threshold; bit 6 VBAK not available; bit 7 reserved -/
abbrev PW_RAIL_STATUS  : Nat := 0x160002
/-- `1600:03` (R472): Derate factor f, % -/
abbrev PW_DERATE_TORQUE  : Nat := 0x160003
/-- `1600:04` (R472): Derate hold, ms -/
abbrev PW_DERATE_HOLD  : Nat := 0x160004
/-- `1600:05` (R472): Backup dwell, µs; retained -/
abbrev PW_DWELL  : Nat := 0x160005
/-- `1600:06` (R472): Good time before leaving reset or returning, µs; retained -/
abbrev PW_GOOD_TIME  : Nat := 0x160006
/-- `1600:07` (R472): Hand-overs to VBAK; retained -/
abbrev PW_BACKUPS  : Nat := 0x160007
/-- `1600:08` (R472): Count at the last H2 entry, ns -/
abbrev PW_LAST_BACKUP  : Nat := 0x160008
/-- `1600:09` (R472): Count at the last return, ns -/
abbrev PW_LAST_RETURN  : Nat := 0x160009
/-- `1600:0A` (R472): Warnings raised -/
abbrev PW_WARNINGS  : Nat := 0x16000A
/-- `1601:01` (R472): VCORE, VDDA, VIO18, VIO33, VPD, VBAK, mV, updated every 100 µs -/
abbrev PW_V  (i : Nat) : Nat := 0x160101 + i
/-- `1610:01` (R472): State of domains 0–131 (R466) -/
abbrev PW_DOM_STATE  (i : Nat) : Nat := 0x161001 + i
/-- `1611:01` (R472): Wake-ups queued -/
abbrev PW_DAMP_QUEUE  : Nat := 0x161101
/-- `1611:02` (R472): Wake-ups admitted -/
abbrev PW_DAMP_WAKES  : Nat := 0x161102
/-- `1611:03` (R472): Ticks held by the current limit (R467) -/
abbrev PW_DAMP_HOLDS  : Nat := 0x161103
/-- `1611:04` (R472): Greatest queue length; only 0 may be written -/
abbrev PW_DAMP_MAX_Q  : Nat := 0x161104
/-- `1612:01` (R472): Single-bit errors corrected -/
abbrev PW_SRAM_CORR  : Nat := 0x161201
/-- `1612:02` (R472): Double-bit errors -/
abbrev PW_SRAM_UNCORR  : Nat := 0x161202
/-- `1700:01` (R526): Bank running (R511) -/
abbrev FW_ACTIVE  : Nat := 0x170001
/-- `1700:02` (R526): Version running -/
abbrev FW_VERSION  : Nat := 0x170002
/-- `1700:03` (R526): Security version running -/
abbrev FW_SEC_VERSION  : Nat := 0x170003
/-- `1700:04` (R526): Fuses blown (R519) -/
abbrev FW_SEC_MIN  : Nat := 0x170004
/-- `1700:05` (R526): Preferred bank; 0xFF no valid record -/
abbrev FW_BOOT_BANK  : Nat := 0x170005
/-- `1700:06` (R526): 0 boot ROM only, 1 running, 2 hand-over, 3 trial -/
abbrev FW_STATE  : Nat := 0x170006
/-- `1700:07` (R526): Pairs in service; bits [7:2] reserved -/
abbrev FW_PAIRS  : Nat := 0x170007
/-- `1700:08` (R526): Watchdog restarts (R506) -/
abbrev FW_RESTARTS  : Nat := 0x170008
/-- `1700:09` (R526): Lockstep mismatches -/
abbrev FW_LOCKSTEP_ERR  : Nat := 0x170009
/-- `1700:0A` (R526): Revoked keys; bits [7:4] reserved -/
abbrev FW_KEY_STATE  : Nat := 0x17000A
/-- `1700:0B` (R526): Raise FW_SEC_MIN (R519); 0 has no effect -/
abbrev FW_SEC_COMMIT  : Nat := 0x17000B
/-- `1700:0C` (R526): Revoke keys (R519) -/
abbrev FW_KEY_REVOKE  : Nat := 0x17000C
/-- `1701:01` (R526): Next image byte (R514) -/
abbrev FW_IMG_OFFSET  : Nat := 0x170101
/-- `1701:02` (R526): Image block -/
abbrev FW_IMG_DATA  : Nat := 0x170102
/-- `1701:03` (R526): Check and program; 0 has no effect -/
abbrev FW_IMG_VERIFY  : Nat := 0x170103
/-- `1701:04` (R526): Image state (R514) -/
abbrev FW_IMG_STATE  : Nat := 0x170104
/-- `1701:05` (R526): First failing check (R509) -/
abbrev FW_IMG_RESULT  : Nat := 0x170105
/-- `1701:06` (R526): Version of the loaded image -/
abbrev FW_IMG_VERSION  : Nat := 0x170106
/-- `1701:07` (R526): Activation; reads 1 while armed (R515) -/
abbrev FW_ACTIVATE  : Nat := 0x170107
/-- `1701:08` (R526): Quiet-instant limit, ms -/
abbrev FW_QUIET_TIMEOUT  : Nat := 0x170108
/-- `1701:09` (R526): Trial, ms (R517) -/
abbrev FW_TRIAL_TIME  : Nat := 0x170109
/-- `1701:0A` (R526): 0 idle, 1 staged, 2 armed, 3 hand-over, 4 trial, 5 confirmed, 6 reverted, 7 abandoned -/
abbrev FW_UPD_STATE  : Nat := 0x17010A
/-- `1701:0C` (R526): Last pause, µs -/
abbrev FW_PAUSE_LAST  : Nat := 0x17010C
/-- `1702:01` (R526): Save the set (R512); 0 has no effect -/
abbrev FW_PARAM_SAVE  : Nat := 0x170201
/-- `1702:02` (R526): 0 none, 1 restored, 2 refused, 3 saving, 4 saved -/
abbrev FW_PARAM_STATE  : Nat := 0x170202
/-- `1702:03` (R526): Generation of the newest set -/
abbrev FW_PARAM_GEN  : Nat := 0x170203
/-- `1702:04` (R526): Records skipped at restore -/
abbrev FW_PARAM_FAILS  : Nat := 0x170204
/-- `1702:05` (R526): Erase both areas; 0 has no effect -/
abbrev FW_PARAM_ERASE  : Nat := 0x170205
/-- `1703:01` (R526): ADC reference period, ms -/
abbrev FW_ST_PERIOD  : Nat := 0x170301
/-- `1703:02` (R526): Reference tolerance, codes -/
abbrev FW_ST_REF_TOL  : Nat := 0x170302
/-- `1703:03` (R526): Current-sum tolerance, current-ADC codes -/
abbrev FW_ST_SUM_TOL  : Nat := 0x170303
/-- `1703:04` (R526): Switch-node tolerance, voltage-ADC codes -/
abbrev FW_ST_VSW_TOL  : Nat := 0x170304
/-- `1703:05` (R526): Reference rounds passed -/
abbrev FW_ST_PASSES  : Nat := 0x170305
/-- `1703:06` (R526): Checks failed (R521) -/
abbrev FW_ST_FAILS  : Nat := 0x170306
/-- `2001:01` (R37): Local axis of section x, or unassigned (R29) -/
abbrev S_AXIS (x : Nat) : Nat := 0x200101 + 0x10000 * x
/-- `2001:02` (R37): Stagger in units of 0.01 °e (R24) -/
abbrev S_STAGGER (x : Nat) : Nat := 0x200102 + 0x10000 * x
/-- `2001:03` (R37): Declared section rating in units of 0.1 kW, used by rating-weighted load share -/
abbrev S_RATING (x : Nat) : Nat := 0x200103 + 0x10000 * x
/-- `2001:04` (R37): Section state (R23) -/
abbrev S_STATE (x : Nat) : Nat := 0x200104 + 0x10000 * x
/-- `2001:05` (R37): Physical segment number on the machine, carried in journal entries for this section; 0xFFFF means not declared -/
abbrev S_SEGMENT (x : Nat) : Nat := 0x200105 + 0x10000 * x
/-- `2002:01` (R63): Join or leave (R57, R58) -/
abbrev S_ENABLE (x : Nat) : Nat := 0x200201 + 0x10000 * x
/-- `2002:02` (R63): Chopping mode (R45) -/
abbrev S_CHOP_MODE (x : Nat) : Nat := 0x200202 + 0x10000 * x
/-- `2002:03` (R63): Deliberate offset, 0.01 °e (R53) -/
abbrev S_EOFFSET (x : Nat) : Nat := 0x200203 + 0x10000 * x
/-- `2002:04` (R63): Step hysteresis, 0.01 °e (R41) -/
abbrev S_COMM_HYST (x : Nat) : Nat := 0x200204 + 0x10000 * x
/-- `2002:05` (R63): Step in force; 0xFF when the state is 0 or 4 -/
abbrev S_STEP (x : Nat) : Nat := 0x200205 + 0x10000 * x
/-- `2002:06` (R63): Minimum on-time for a valid sample, ns (R49) -/
abbrev S_TMIN_SAMPLE (x : Nat) : Nat := 0x200206 + 0x10000 * x
/-- `2002:07` (R63): Locked-rotor window, ms (R55) -/
abbrev S_LOCK_TIME (x : Nat) : Nat := 0x200207 + 0x10000 * x
/-- `2002:08` (R63): Arming current, % of Anvil limit (R55) -/
abbrev S_LOCK_CURRENT (x : Nat) : Nat := 0x200208 + 0x10000 * x
/-- `2002:09` (R63): Locked-rotor action (R56) -/
abbrev S_LOCK_ACTION (x : Nat) : Nat := 0x200209 + 0x10000 * x
/-- `2002:0A` (R63): Current limit for action 1, % of Anvil limit -/
abbrev S_LOCK_LIMIT (x : Nat) : Nat := 0x20020A + 0x10000 * x
/-- `2002:0B` (R63): Degraded running permitted (R59) -/
abbrev S_DEGRADE_EN (x : Nat) : Nat := 0x20020B + 0x10000 * x
/-- `2002:0C` (R63): Degraded window width, 0.01 °e (R60) -/
abbrev S_DEG_WIDTH (x : Nat) : Nat := 0x20020C + 0x10000 * x
/-- `2002:0D` (R63): Degraded rating, % of S_RATING (R61) -/
abbrev S_DEG_RATING (x : Nat) : Nat := 0x20020D + 0x10000 * x
/-- `2002:0E` (R63): Join and leave ramp, ms (R57, R58) -/
abbrev S_JOIN_TIME (x : Nat) : Nat := 0x20020E + 0x10000 * x
/-- `2003:01` (R63): Steps entered, wrapping -/
abbrev S_COMM_COUNT (x : Nat) : Nat := 0x200301 + 0x10000 * x
/-- `2003:02` (R63): Steps skipped (R41) -/
abbrev S_SKIP_COUNT (x : Nat) : Nat := 0x200302 + 0x10000 * x
/-- `2003:03` (R63): Pulses suppressed (R49) -/
abbrev S_PULSE_SUPPRESS (x : Nat) : Nat := 0x200303 + 0x10000 * x
/-- `2003:04` (R63): On-times raised (R49) -/
abbrev S_TMIN_RAISE (x : Nat) : Nat := 0x200304 + 0x10000 * x
/-- `2003:05` (R63): Locked rotor declared (R56) -/
abbrev S_LOCK_STATE (x : Nat) : Nat := 0x200305 + 0x10000 * x
/-- `2003:06` (R63): Lost phase in state 3 -/
abbrev S_DEG_PHASE (x : Nat) : Nat := 0x200306 + 0x10000 * x
/-- `2004:01` (R113): Period in counter ticks (R94, R96) -/
abbrev S_PERIOD (x : Nat) : Nat := 0x200401 + 0x10000 * x
/-- `2004:02` (R113): Prescaler code (R94) -/
abbrev S_PRESCALE (x : Nat) : Nat := 0x200402 + 0x10000 * x
/-- `2004:03` (R113): Duty ceiling, 0.01 % (R97) -/
abbrev S_DUTY_MAX (x : Nat) : Nat := 0x200403 + 0x10000 * x
/-- `2004:04` (R113): Compare used when live compare is not in force, counter ticks (R106) -/
abbrev S_DUTY (x : Nat) : Nat := 0x200404 + 0x10000 * x
/-- `2004:05` (R113): Minimum dead time, ns; its use is defined in Gate Pins, Boosters, Temper and Bellows -/
abbrev S_DEADTIME (x : Nat) : Nat := 0x200405 + 0x10000 * x
/-- `2004:06` (R113): Reload alignment, base ticks; taken modulo S_PERIOD × P (R98) -/
abbrev S_PHASE (x : Nat) : Nat := 0x200406 + 0x10000 * x
/-- `2004:07` (R113): Live compare accepted (R106) -/
abbrev S_LIVE_EN (x : Nat) : Nat := 0x200407 + 0x10000 * x
/-- `2004:08` (R113): Half-bridge enable, bit p for phase p; a disabled half-bridge is held off, and steps that use it drive no current; bits [7:3] reserved -/
abbrev S_CHAN_CFG (x : Nat) : Nat := 0x200408 + 0x10000 * x
/-- `2004:09` (R113): 0 Load-all, 1 Shadow (R100) -/
abbrev S_LOAD_MODE (x : Nat) : Nat := 0x200409 + 0x10000 * x
/-- `2004:0A` (R113): Live values held for the next period (R107) -/
abbrev S_LIVE_LATE (x : Nat) : Nat := 0x20040A + 0x10000 * x
/-- `2004:0B` (R113): Forced turn-off edges (R107) -/
abbrev S_LIVE_FORCED (x : Nat) : Nat := 0x20040B + 0x10000 * x
/-- `2004:0C` (R113): Edges held at Cmin (R107, R562) -/
abbrev S_TMIN_HOLD (x : Nat) : Nat := 0x20040C + 0x10000 * x
/-- `2004:0D` (R113): Turn-ons withdrawn at reload (R108) -/
abbrev S_LATE_RELEASE (x : Nat) : Nat := 0x20040D + 0x10000 * x
/-- `2004:0E` (R113): Period pairs refused at load (R96) -/
abbrev S_LOAD_REFUSED (x : Nat) : Nat := 0x20040E + 0x10000 * x
/-- `2004:0F` (R113): Turn-off count in force, counter ticks -/
abbrev S_CMP_ACTIVE (x : Nat) : Nat := 0x20040F + 0x10000 * x
/-- `2004:10` (R113): Held live value (R105) -/
abbrev S_LIVE_HELD (x : Nat) : Nat := 0x200410 + 0x10000 * x
/-- `2005:01` (R63): Advance breakpoints, 0.1 Hz electrical (R47) -/
abbrev S_ADV_SPEED (x : Nat) (i : Nat) : Nat := 0x200501 + 0x10000 * x + i
/-- `2006:01` (R63): Advance angles, 0.01 °e (R47) -/
abbrev S_ADV_ANGLE (x : Nat) (i : Nat) : Nat := 0x200601 + 0x10000 * x + i
/-- `2007:01` (R139): Declared booster gain G (R118) -/
abbrev S_BOOST_GAIN (x : Nat) : Nat := 0x200701 + 0x10000 * x
/-- `2007:02` (R139): Handshake hold, ns (R125) -/
abbrev S_HS_HOLD (x : Nat) : Nat := 0x200702 + 0x10000 * x
/-- `2007:03` (R139): Status confirmation timeout, ns (R121) -/
abbrev S_HS_TIMEOUT (x : Nat) : Nat := 0x200703 + 0x10000 * x
/-- `2007:04` (R139): Edge phase duration, ns (R116) -/
abbrev S_EDGE_TIME (x : Nat) : Nat := 0x200704 + 0x10000 * x
/-- `2007:05` (R139): Temper running (R131) -/
abbrev S_TMP_EN (x : Nat) : Nat := 0x200705 + 0x10000 * x
/-- `2007:06` (R139): Turn-on transition target, ns (R129) -/
abbrev S_TMP_TGT_ON (x : Nat) : Nat := 0x200706 + 0x10000 * x
/-- `2007:07` (R139): Turn-off transition target, ns (R129) -/
abbrev S_TMP_TGT_OFF (x : Nat) : Nat := 0x200707 + 0x10000 * x
/-- `2007:08` (R139): Temper dead band, ns (R129) -/
abbrev S_TMP_TOL (x : Nat) : Nat := 0x200708 + 0x10000 * x
/-- `2007:09` (R139): Code at reset and after state 4 (R131) -/
abbrev S_TMP_INIT (x : Nat) : Nat := 0x200709 + 0x10000 * x
/-- `2007:0A` (R139): Refresh interval, µs (R132) -/
abbrev S_BLW_HOLD (x : Nat) : Nat := 0x20070A + 0x10000 * x
/-- `2007:0B` (R139): Refresh pulse, ns (R133) -/
abbrev S_BLW_PULSE (x : Nat) : Nat := 0x20070B + 0x10000 * x
/-- `2007:0C` (R139): Low time that counts as a refresh, ns (R132) -/
abbrev S_BLW_MIN_LOW (x : Nat) : Nat := 0x20070C + 0x10000 * x
/-- `2007:0D` (R139): Precharge pulses per half-bridge (R136) -/
abbrev S_BLW_PRE_N (x : Nat) : Nat := 0x20070D + 0x10000 * x
/-- `2008:01` (R140): High turn-on code (R129, R131) -/
abbrev S_TMP_CODE_HON (n : Nat) : Nat := 0x200801 + 0x10000 * (n / 3) + 0x100 * (n % 3)
/-- `2008:02` (R140): High turn-off code -/
abbrev S_TMP_CODE_HOFF (n : Nat) : Nat := 0x200802 + 0x10000 * (n / 3) + 0x100 * (n % 3)
/-- `2008:03` (R140): Low turn-on code -/
abbrev S_TMP_CODE_LON (n : Nat) : Nat := 0x200803 + 0x10000 * (n / 3) + 0x100 * (n % 3)
/-- `2008:04` (R140): Low turn-off code -/
abbrev S_TMP_CODE_LOFF (n : Nat) : Nat := 0x200804 + 0x10000 * (n / 3) + 0x100 * (n % 3)
/-- `2008:05` (R140): Last high turn-on transition, 0.1 ns; 0xFFFF none (R128) -/
abbrev S_TSW_HON (n : Nat) : Nat := 0x200805 + 0x10000 * (n / 3) + 0x100 * (n % 3)
/-- `2008:06` (R140): Last high turn-off transition, 0.1 ns -/
abbrev S_TSW_HOFF (n : Nat) : Nat := 0x200806 + 0x10000 * (n / 3) + 0x100 * (n % 3)
/-- `2008:07` (R140): Last low turn-on transition, 0.1 ns -/
abbrev S_TSW_LON (n : Nat) : Nat := 0x200807 + 0x10000 * (n / 3) + 0x100 * (n % 3)
/-- `2008:08` (R140): Last low turn-off transition, 0.1 ns -/
abbrev S_TSW_LOFF (n : Nat) : Nat := 0x200808 + 0x10000 * (n / 3) + 0x100 * (n % 3)
/-- `2008:09` (R140): Accepted status level (R120) -/
abbrev S_HSS_LEVEL (n : Nat) : Nat := 0x200809 + 0x10000 * (n / 3) + 0x100 * (n % 3)
/-- `2008:0A` (R140): G × I(c) of the last edge, µA (R118) -/
abbrev S_GATE_I (n : Nat) : Nat := 0x20080A + 0x10000 * (n / 3) + 0x100 * (n % 3)
/-- `2008:0B` (R140): Transitions outside the Anvil window (R130) -/
abbrev S_TMP_OUTSIDE (n : Nat) : Nat := 0x20080B + 0x10000 * (n / 3) + 0x100 * (n % 3)
/-- `2008:0C` (R140): Refreshes granted (R134) -/
abbrev S_BLW_COUNT (n : Nat) : Nat := 0x20080C + 0x10000 * (n / 3) + 0x100 * (n % 3)
/-- `2008:0D` (R140): Refreshes forced beyond the limit (R134) -/
abbrev S_BLW_FORCED (n : Nat) : Nat := 0x20080D + 0x10000 * (n / 3) + 0x100 * (n % 3)
/-- `2008:0E` (R140): Time since last refresh, µs, saturating (R132) -/
abbrev S_BLW_AGE (n : Nat) : Nat := 0x20080E + 0x10000 * (n / 3) + 0x100 * (n % 3)
/-- `2008:0F` (R140): Over-range status readings (R119) -/
abbrev S_HSS_OVR (n : Nat) : Nat := 0x20080F + 0x10000 * (n / 3) + 0x100 * (n % 3)
/-- `2008:10` (R161): Cause bits of R145 -/
abbrev S_Q_CAUSE (n : Nat) : Nat := 0x200810 + 0x10000 * (n / 3) + 0x100 * (n % 3)
/-- `2008:11` (R161): Trips of the half-bridge -/
abbrev S_Q_COUNT (n : Nat) : Nat := 0x200811 + 0x10000 * (n / 3) + 0x100 * (n % 3)
/-- `200B:01` (R161): Ioc, 0.1 % of the Anvil section current limit (R145) -/
abbrev S_OC_LIMIT (x : Nat) : Nat := 0x200B01 + 0x10000 * x
/-- `200B:02` (R161): Confirming conversions (R145) -/
abbrev S_OC_CONFIRM (x : Nat) : Nat := 0x200B02 + 0x10000 * x
/-- `200B:03` (R161): Turn-off code after desaturation (R148) -/
abbrev S_Q_SOFT_CODE (x : Nat) : Nat := 0x200B03 + 0x10000 * x
/-- `200B:04` (R161): UVLO autoclear (R155) -/
abbrev S_UV_AUTOCLEAR (x : Nat) : Nat := 0x200B04 + 0x10000 * x
/-- `200B:05` (R161): Clear request (R154); 0 has no effect -/
abbrev S_Q_CLEAR (x : Nat) : Nat := 0x200B05 + 0x10000 * x
/-- `200B:06` (R161): Overvoltage threshold, voltage-ADC codes (R152) -/
abbrev S_DC_OV (x : Nat) : Nat := 0x200B06 + 0x10000 * x
/-- `200C:01` (R161): Latched half-bridges, bit p for phase p; bits [7:3] reserved -/
abbrev S_Q_LATCH (x : Nat) : Nat := 0x200C01 + 0x10000 * x
/-- `200C:02` (R161): Last fault code of classes 0x2–0x3 for the section -/
abbrev S_Q_LAST (x : Nat) : Nat := 0x200C02 + 0x10000 * x
/-- `200C:03` (R161): Trips in the section -/
abbrev S_Q_TRIPS (x : Nat) : Nat := 0x200C03 + 0x10000 * x
/-- `200C:04` (R161): Latest DC-link sample -/
abbrev S_DC_LINK (x : Nat) : Nat := 0x200C04 + 0x10000 * x
/-- `200D:01` (R161): Brake chopper mode (R153) -/
abbrev S_BRK_MODE (x : Nat) : Nat := 0x200D01 + 0x10000 * x
/-- `200D:02` (R161): Brake on level, codes -/
abbrev S_BRK_ON (x : Nat) : Nat := 0x200D02 + 0x10000 * x
/-- `200D:03` (R161): Brake off level, codes -/
abbrev S_BRK_OFF (x : Nat) : Nat := 0x200D03 + 0x10000 * x
/-- `200D:04` (R161): Modulated chopper frequency, Hz -/
abbrev S_BRK_FREQ (x : Nat) : Nat := 0x200D04 + 0x10000 * x
/-- `200D:05` (R161): Duty in force, 0.01 % -/
abbrev S_BRK_DUTY (x : Nat) : Nat := 0x200D05 + 0x10000 * x
/-- `200D:06` (R161): Accumulated on-time, ms, saturating -/
abbrev S_BRK_TIME (x : Nat) : Nat := 0x200D06 + 0x10000 * x
/-- `200E:01` (R212): Section temperature, 0.1 °C (R197) -/
abbrev S_TEMP (x : Nat) : Nat := 0x200E01 + 0x10000 * x
/-- `200E:02` (R212): Temperature older than A_TEMP_TIMEOUT -/
abbrev S_TEMP_STALE (x : Nat) : Nat := 0x200E02 + 0x10000 * x
/-- `200E:03` (R212): w_x (R197) -/
abbrev S_WEIGHT (x : Nat) : Nat := 0x200E03 + 0x10000 * x
/-- `200E:04` (R212): σ_x, parts per million -/
abbrev S_SHARE (x : Nat) : Nat := 0x200E04 + 0x10000 * x
/-- `200E:05` (R212): r_x, signed (R198) -/
abbrev S_REF (x : Nat) : Nat := 0x200E05 + 0x10000 * x
/-- `200E:06` (R212): t′_x (R198) -/
abbrev S_TRIM (x : Nat) : Nat := 0x200E06 + 0x10000 * x
/-- `200E:07` (R212): ε_x (R198) -/
abbrev S_SHARE_ERR (x : Nat) : Nat := 0x200E07 + 0x10000 * x
/-- `200E:08` (R212): Periods without a pulse before a kick; 0 off (R193) -/
abbrev S_ABSENT_MAX (x : Nat) : Nat := 0x200E08 + 0x10000 * x
/-- `200E:09` (R212): Kicks (R193) -/
abbrev S_ABSENT_KICK (x : Nat) : Nat := 0x200E09 + 0x10000 * x
/-- `200F:01` (R526): Section held for repair (R522) -/
abbrev S_SERVICE (x : Nat) : Nat := 0x200F01 + 0x10000 * x
/-- `3001:01` (R91): Comparator enabled (R66) -/
abbrev S_BEMF_EN (x : Nat) : Nat := 0x300101 + 0x10000 * x
/-- `3001:02` (R91): Crossing hysteresis, voltage-ADC codes (R66) -/
abbrev S_BEMF_HYST (x : Nat) : Nat := 0x300102 + 0x10000 * x
/-- `3001:03` (R91): Confirming samples (R66) -/
abbrev S_BEMF_CONFIRM (x : Nat) : Nat := 0x300103 + 0x10000 * x
/-- `3001:04` (R91): Blank after a switch edge, ns (R65) -/
abbrev S_BEMF_EDGE_BLANK (x : Nat) : Nat := 0x300104 + 0x10000 * x
/-- `3001:05` (R91): Minimum blank after a step, 0.01 °e (R65) -/
abbrev S_BEMF_DEMAG_MIN (x : Nat) : Nat := 0x300105 + 0x10000 * x
/-- `3001:06` (R91): Comparator speed floor, 0.1 Hz (R66) -/
abbrev S_BEMF_MIN_FE (x : Nat) : Nat := 0x300106 + 0x10000 * x
/-- `3002:01` (R91): Phase resistance, µΩ (R68) -/
abbrev S_OBS_R (x : Nat) : Nat := 0x300201 + 0x10000 * x
/-- `3002:02` (R91): Phase inductance, nH (R68) -/
abbrev S_OBS_L (x : Nat) : Nat := 0x300202 + 0x10000 * x
/-- `3002:03` (R91): Flux linkage amplitude, µWb (R68) -/
abbrev S_OBS_PSI (x : Nat) : Nat := 0x300203 + 0x10000 * x
/-- `3002:04` (R91): Flux tolerance, % (R68) -/
abbrev S_OBS_PSI_TOL (x : Nat) : Nat := 0x300204 + 0x10000 * x
/-- `3002:05` (R91): Flux observer speed floor, 0.1 Hz (R68) -/
abbrev S_OBS_MIN_FE (x : Nat) : Nat := 0x300205 + 0x10000 * x
/-- `3002:06` (R91): Integrator leak time constant, ms (R68) -/
abbrev S_OBS_DRIFT (x : Nat) : Nat := 0x300206 + 0x10000 * x
/-- `3003:01` (R91): Fusion state (R70) -/
abbrev S_FUS_STATE (x : Nat) : Nat := 0x300301 + 0x10000 * x
/-- `3003:02` (R91): Axis-referred estimate, 0.01 °e (R69) -/
abbrev S_EST_ANGLE (x : Nat) : Nat := 0x300302 + 0x10000 * x
/-- `3003:03` (R91): Section speed estimate, 0.1 Hz -/
abbrev S_EST_FE (x : Nat) : Nat := 0x300303 + 0x10000 * x
/-- `3003:04` (R91): Weight w (R69) -/
abbrev S_EST_WEIGHT (x : Nat) : Nat := 0x300304 + 0x10000 * x
/-- `3003:05` (R91): Crossings accepted, wrapping -/
abbrev S_BEMF_EVENTS (x : Nat) : Nat := 0x300305 + 0x10000 * x
/-- `3003:06` (R91): Moves to Dropped, wrapping -/
abbrev S_FUS_DROPS (x : Nat) : Nat := 0x300306 + 0x10000 * x
/-- `3003:07` (R91): Disagreement with the axis estimate, 0.01 °e (R72) -/
abbrev S_EST_ERR (x : Nat) : Nat := 0x300307 + 0x10000 * x
/-- `3800:01` (R92): Agreement window, 0.01 °e (R72) -/
abbrev A_FUS_WINDOW (a : Nat) : Nat := 0x380001 + 0x1000 * a
/-- `3800:02` (R92): Disagreements to drop (R72) -/
abbrev A_FUS_DROP_COUNT (a : Nat) : Nat := 0x380002 + 0x1000 * a
/-- `3800:03` (R92): Agreements to qualify or readmit (R72) -/
abbrev A_FUS_READMIT_COUNT (a : Nat) : Nat := 0x380003 + 0x1000 * a
/-- `3800:04` (R92): Fused sections for a valid estimate (R71) -/
abbrev A_FUS_MIN_SECTIONS (a : Nat) : Nat := 0x380004 + 0x1000 * a
/-- `3800:05` (R92): 0 flag only; 1 flag and leave (R73) -/
abbrev A_FUS_DROP_ACTION (a : Nat) : Nat := 0x380005 + 0x1000 * a
/-- `3800:06` (R92): Contribute to cascade fusion (R75) -/
abbrev A_FUS_CASC_EN (a : Nat) : Nat := 0x380006 + 0x1000 * a
/-- `3800:07` (R92): Comparator weight (R69) -/
abbrev A_FUS_W_BEMF (a : Nat) : Nat := 0x380007 + 0x1000 * a
/-- `3800:08` (R92): Flux observer weight (R69) -/
abbrev A_FUS_W_FLUX (a : Nat) : Nat := 0x380008 + 0x1000 * a
/-- `3800:09` (R92): Angle correction gain, 0.05 by default (R71) -/
abbrev A_FUS_KTHETA (a : Nat) : Nat := 0x380009 + 0x1000 * a
/-- `3801:01` (R92): Axis estimate, 0.01 °e -/
abbrev A_FUS_ANGLE (a : Nat) : Nat := 0x380101 + 0x1000 * a
/-- `3801:02` (R92): Axis speed estimate, 0.1 Hz -/
abbrev A_FUS_FE (a : Nat) : Nat := 0x380102 + 0x1000 * a
/-- `3801:03` (R92): Estimate valid (R71) -/
abbrev A_FUS_VALID (a : Nat) : Nat := 0x380103 + 0x1000 * a
/-- `3801:04` (R92): Fused sections with weight (R71) -/
abbrev A_FUS_COUNT (a : Nat) : Nat := 0x380104 + 0x1000 * a
/-- `3801:05` (R92): Devices dropped (host) or 1 when this device is dropped (R76) -/
abbrev A_FUS_DEV_DROPPED (a : Nat) : Nat := 0x380105 + 0x1000 * a
/-- `3801:06` (R92): Cascade correction Δ, 0.01 °e (R77) -/
abbrev A_FUS_CORR (a : Nat) : Nat := 0x380106 + 0x1000 * a
/-- `4000:01` (R187): Rotation period, s; 0 stops rotation (R183) -/
abbrev K_ROT_PERIOD  : Nat := 0x400001
/-- `4000:02` (R187): Twin comparison time, µs (R183) -/
abbrev K_TWIN_TIME  : Nat := 0x400002
/-- `4000:03` (R187): Runs withheld (R182) -/
abbrev K_RESIDUE_FAULTS  : Nat := 0x400003
/-- `4000:04` (R187): A spare lane remains (R184) -/
abbrev K_SPARE_AVAIL  : Nat := 0x400004
/-- `4000:05` (R187): Start a rotation (R183); 0 has no effect -/
abbrev K_ROTATE_NOW  : Nat := 0x400005
/-- `4000:06` (R187): Mismatches judged transient (R184) -/
abbrev K_TWIN_MISMATCH  : Nat := 0x400006
/-- `4001:01` (R187): State of P0–P6 (R183) -/
abbrev K_LANE_STATE  (i : Nat) : Nat := 0x400101 + i
/-- `4002:01` (R187): Physical lane of logical lane ℓ; 0xFF none (R162) -/
abbrev K_LANE_MAP  (i : Nat) : Nat := 0x400201 + i
/-- `4100:01` (R188): Slot runs (R172) -/
abbrev K_ENABLE (k : Nat) : Nat := 0x410001 + 0x100 * k
/-- `4100:02` (R188): Form (R163) -/
abbrev K_ORDER (k : Nat) : Nat := 0x410002 + 0x100 * k
/-- `4100:03` (R188): b0 (R163) -/
abbrev K_B0 (k : Nat) : Nat := 0x410003 + 0x100 * k
/-- `4100:04` (R188): b1 -/
abbrev K_B1 (k : Nat) : Nat := 0x410004 + 0x100 * k
/-- `4100:05` (R188): b2 -/
abbrev K_B2 (k : Nat) : Nat := 0x410005 + 0x100 * k
/-- `4100:06` (R188): b3 -/
abbrev K_B3 (k : Nat) : Nat := 0x410006 + 0x100 * k
/-- `4100:07` (R188): a1 -/
abbrev K_A1 (k : Nat) : Nat := 0x410007 + 0x100 * k
/-- `4100:08` (R188): a2 -/
abbrev K_A2 (k : Nat) : Nat := 0x410008 + 0x100 * k
/-- `4100:09` (R188): a3 -/
abbrev K_A3 (k : Nat) : Nat := 0x410009 + 0x100 * k
/-- `4100:0A` (R188): Shifts of b0, b1, b2, b3, a1, a2, a3 in that order (R164) -/
abbrev K_SH (k : Nat) (i : Nat) : Nat := 0x41000A + 0x100 * k + i
/-- `4100:11` (R188): Lower clamp (R164, R177) -/
abbrev K_MIN (k : Nat) : Nat := 0x410011 + 0x100 * k
/-- `4100:12` (R188): Upper clamp (R164, R177) -/
abbrev K_MAX (k : Nat) : Nat := 0x410012 + 0x100 * k
/-- `4100:13` (R188): Input selectors -/
abbrev K_IN (k : Nat) (i : Nat) : Nat := 0x410013 + 0x100 * k + i
/-- `4100:17` (R188): Signs, two bits per input (R167) -/
abbrev K_IN_SIGN (k : Nat) : Nat := 0x410017 + 0x100 * k
/-- `4100:18` (R188): Trigger (R168) -/
abbrev K_TRIG (k : Nat) : Nat := 0x410018 + 0x100 * k
/-- `4100:19` (R188): Timer period, ns (R168) -/
abbrev K_TIMER (k : Nat) : Nat := 0x410019 + 0x100 * k
/-- `4100:1A` (R188): Output sink -/
abbrev K_SINK (k : Nat) : Nat := 0x41001A + 0x100 * k
/-- `4100:1B` (R188): Reference value (R167) -/
abbrev K_REF (k : Nat) : Nat := 0x41001B + 0x100 * k
/-- `4100:1C` (R188): History preload (R172) -/
abbrev K_PRELOAD (k : Nat) : Nat := 0x41001C + 0x100 * k
/-- `4100:1D` (R188): History reset (R172); 0 has no effect -/
abbrev K_RESET (k : Nat) : Nat := 0x41001D + 0x100 * k
/-- `4100:1E` (R188): Last output -/
abbrev K_Y (k : Nat) : Nat := 0x41001E + 0x100 * k
/-- `4100:1F` (R188): Last input sum -/
abbrev K_X (k : Nat) : Nat := 0x41001F + 0x100 * k
/-- `4100:20` (R188): Runs completed -/
abbrev K_RUNS (k : Nat) : Nat := 0x410020 + 0x100 * k
/-- `4100:21` (R188): Runs saturated (R164) -/
abbrev K_SAT_COUNT (k : Nat) : Nat := 0x410021 + 0x100 * k
/-- `4100:22` (R188): Runs clamped (R164) -/
abbrev K_CLAMP_COUNT (k : Nat) : Nat := 0x410022 + 0x100 * k
/-- `4100:23` (R188): Requests replaced (R170) -/
abbrev K_OVERRUN (k : Nat) : Nat := 0x410023 + 0x100 * k
/-- `4100:24` (R188): Set version (R181) -/
abbrev K_SET_VER (k : Nat) : Nat := 0x410024 + 0x100 * k
/-- `4100:25` (R188): Active bank (R178) -/
abbrev K_BANK (k : Nat) : Nat := 0x410025 + 0x100 * k
/-- `4100:26` (R188): Last slot delay, ns (R174) -/
abbrev K_LAST_DELAY (k : Nat) : Nat := 0x410026 + 0x100 * k
/-- `4100:27` (R188): Greatest slot delay, ns; only 0 may be written (R174) -/
abbrev K_MAX_DELAY (k : Nat) : Nat := 0x410027 + 0x100 * k
/-- `5001:01` (R37): Sections assigned to axis a (R29); bits [7:6] reserved -/
abbrev A_SECTIONS (a : Nat) : Nat := 0x500101 + 0x10000 * a
/-- `5001:02` (R37): Pole pairs of the shaft (R30) -/
abbrev A_POLE_PAIRS (a : Nat) : Nat := 0x500102 + 0x10000 * a
/-- `5001:03` (R37): Cascade axis contributed to, or local only (R32) -/
abbrev A_CASCADE_AXIS (a : Nat) : Nat := 0x500103 + 0x10000 * a
/-- `5001:04` (R37): Counted sections (R35) -/
abbrev A_CASCADE_SECTIONS (a : Nat) : Nat := 0x500104 + 0x10000 * a
/-- `5002:01` (R502): Axis mode (R488, R491) -/
abbrev A_MODE (a : Nat) : Nat := 0x500201 + 0x10000 * a
/-- `5002:02` (R502): Mode that Tuning acts as (R492) -/
abbrev A_TUNE_BASE (a : Nat) : Nat := 0x500202 + 0x10000 * a
/-- `5002:03` (R502): Bit 0 Crash-stop, bit 1 Hold; bits [7:2] reserved -/
abbrev A_EMERG_REQ (a : Nat) : Nat := 0x500203 + 0x10000 * a
/-- `5002:04` (R502): Crash-stop, Limp, Hold, Render in bits 0–3; bits [7:4] reserved -/
abbrev A_EMERG_STATE (a : Nat) : Nat := 0x500204 + 0x10000 * a
/-- `5002:05` (R502): Limp speed clip, 0.1 Hz electrical -/
abbrev A_LIMP_SPEED (a : Nat) : Nat := 0x500205 + 0x10000 * a
/-- `5002:06` (R502): Limp torque and duty factor, % -/
abbrev A_LIMP_TORQUE (a : Nat) : Nat := 0x500206 + 0x10000 * a
/-- `5002:07` (R502): SLS set requested in Limp; 0xFF none -/
abbrev A_LIMP_SLS (a : Nat) : Nat := 0x500207 + 0x10000 * a
/-- `5002:08` (R502): Manual-duty target, 0.01 % -/
abbrev A_MD_DUTY (a : Nat) : Nat := 0x500208 + 0x10000 * a
/-- `5002:09` (R502): Slew rate, 0.01 % per ms -/
abbrev A_MD_SLEW (a : Nat) : Nat := 0x500209 + 0x10000 * a
/-- `5002:0A` (R502): Present duty, 0.01 % -/
abbrev A_MD_NOW (a : Nat) : Nat := 0x50020A + 0x10000 * a
/-- `5003:01` (R63): Reversal threshold, 0.1 Hz electrical (R51) -/
abbrev A_REV_SPEED (a : Nat) : Nat := 0x500301 + 0x10000 * a
/-- `5003:02` (R63): Direction latch (R51) -/
abbrev A_DIR (a : Nat) : Nat := 0x500302 + 0x10000 * a
/-- `5003:03` (R63): Reversal waiting (R51) -/
abbrev A_REV_PENDING (a : Nat) : Nat := 0x500303 + 0x10000 * a
/-- `500B:01` (R161): Axis escalation threshold (R156) -/
abbrev A_MIN_SECTIONS (a : Nat) : Nat := 0x500B01 + 0x10000 * a
/-- `500B:02` (R161): Axis reaction (R157) -/
abbrev A_FAULT_REACTION (a : Nat) : Nat := 0x500B02 + 0x10000 * a
/-- `500B:03` (R161): Axis level entered (R157) -/
abbrev A_FAULT_STATE (a : Nat) : Nat := 0x500B03 + 0x10000 * a
/-- `5010:01` (R211): Torque source (R194) -/
abbrev A_TORQUE_SRC (a : Nat) : Nat := 0x501001 + 0x10000 * a
/-- `5010:02` (R211): Torque demand in Torque mode, Q16.16 -/
abbrev A_TORQUE_DEM (a : Nat) : Nat := 0x501002 + 0x10000 * a
/-- `5010:03` (R211): Share policy (R197) -/
abbrev A_SHARE_POLICY (a : Nat) : Nat := 0x501003 + 0x10000 * a
/-- `5010:04` (R211): Torque in force, Q16.16 (R196) -/
abbrev A_TORQUE_CMD (a : Nat) : Nat := 0x501004 + 0x10000 * a
/-- `5010:05` (R211): Headroom h, 0.1 % (R196) -/
abbrev A_HEADROOM (a : Nat) : Nat := 0x501005 + 0x10000 * a
/-- `5010:06` (R211): Torque limit, Q16.16 (R196) -/
abbrev A_TLIM (a : Nat) : Nat := 0x501006 + 0x10000 * a
/-- `5010:07` (R211): Updates limited (R196) -/
abbrev A_TLIM_COUNT (a : Nat) : Nat := 0x501007 + 0x10000 * a
/-- `5010:08` (R211): L in force, Q16.16 (R196) -/
abbrev A_REGEN_LIM (a : Nat) : Nat := 0x501008 + 0x10000 * a
/-- `5010:09` (R211): Trim bound, 0.025 by default (R191) -/
abbrev A_TRIM_MAX (a : Nat) : Nat := 0x501009 + 0x10000 * a
/-- `5010:0A` (R211): Speed full scale, 0.1 Hz electrical -/
abbrev A_SPEED_FS (a : Nat) : Nat := 0x50100A + 0x10000 * a
/-- `5010:0B` (R211): Tension full scale, 0.1 kN -/
abbrev A_TEN_FS (a : Nat) : Nat := 0x50100B + 0x10000 * a
/-- `5010:0C` (R211): Derate start, 0.1 °C (R197) -/
abbrev A_DERATE_T0 (a : Nat) : Nat := 0x50100C + 0x10000 * a
/-- `5010:0D` (R211): Full derate, 0.1 °C -/
abbrev A_DERATE_T1 (a : Nat) : Nat := 0x50100D + 0x10000 * a
/-- `5010:0E` (R211): Derate floor m, % -/
abbrev A_DERATE_MIN (a : Nat) : Nat := 0x50100E + 0x10000 * a
/-- `5010:0F` (R211): Temperature age limit, ms -/
abbrev A_TEMP_TIMEOUT (a : Nat) : Nat := 0x50100F + 0x10000 * a
/-- `5010:10` (R211): W of the device; ΣW on the host -/
abbrev A_DEV_WEIGHT (a : Nat) : Nat := 0x501010 + 0x10000 * a
/-- `5010:11` (R211): T_d in force, Q16.16 (R199) -/
abbrev A_DEV_TORQUE (a : Nat) : Nat := 0x501011 + 0x10000 * a
/-- `5011:01` (R211): Detector enabled (R201) -/
abbrev A_SNATCH_EN (a : Nat) : Nat := 0x501101 + 0x10000 * a
/-- `5011:02` (R211): Threshold, Q16.16 -/
abbrev A_SNATCH_DT (a : Nat) : Nat := 0x501102 + 0x10000 * a
/-- `5011:03` (R211): Window, µs -/
abbrev A_SNATCH_WIN (a : Nat) : Nat := 0x501103 + 0x10000 * a
/-- `5011:04` (R211): Confirming evaluations -/
abbrev A_SNATCH_CONFIRM (a : Nat) : Nat := 0x501104 + 0x10000 * a
/-- `5011:05` (R211): End hold, ms -/
abbrev A_SNATCH_HOLD (a : Nat) : Nat := 0x501105 + 0x10000 * a
/-- `5011:06` (R211): Armed transaction (R202) -/
abbrev A_SNATCH_TX (a : Nat) : Nat := 0x501106 + 0x10000 * a
/-- `5011:07` (R211): Snatch state (R203) -/
abbrev A_SNATCH_STATE (a : Nat) : Nat := 0x501107 + 0x10000 * a
/-- `5011:08` (R211): Firings -/
abbrev A_SNATCH_COUNT (a : Nat) : Nat := 0x501108 + 0x10000 * a
/-- `5012:01` (R211): Render permitted (R208) -/
abbrev A_RENDER_EN (a : Nat) : Nat := 0x501201 + 0x10000 * a
/-- `5012:02` (R211): Hauling torque sign H -/
abbrev A_HAUL_DIR (a : Nat) : Nat := 0x501202 + 0x10000 * a
/-- `5012:03` (R211): Render entry tension, 0.1 kN -/
abbrev A_RENDER_LIMIT (a : Nat) : Nat := 0x501203 + 0x10000 * a
/-- `5012:04` (R211): Entry confirmation, ms -/
abbrev A_RENDER_CONFIRM (a : Nat) : Nat := 0x501204 + 0x10000 * a
/-- `5012:05` (R211): Tension held while rendering, 0.1 kN -/
abbrev A_RENDER_TENSION (a : Nat) : Nat := 0x501205 + 0x10000 * a
/-- `5012:06` (R211): Pay-out speed limit, 0.1 Hz electrical -/
abbrev A_RENDER_SPEED (a : Nat) : Nat := 0x501206 + 0x10000 * a
/-- `5012:07` (R211): Recovery tension, 0.1 kN -/
abbrev A_RECOVER_TENSION (a : Nat) : Nat := 0x501207 + 0x10000 * a
/-- `5012:08` (R211): Recovery delay, ms -/
abbrev A_RECOVER_DELAY (a : Nat) : Nat := 0x501208 + 0x10000 * a
/-- `5012:09` (R211): Haul-back speed, 0.1 Hz electrical -/
abbrev A_RECOVER_SPEED (a : Nat) : Nat := 0x501209 + 0x10000 * a
/-- `5012:0A` (R211): Length limit, Q32.32 position units -/
abbrev A_RENDER_MAX_LEN (a : Nat) : Nat := 0x50120A + 0x10000 * a
/-- `5012:0B` (R211): 0 end hold, 1 continue (R205) -/
abbrev A_RENDER_END (a : Nat) : Nat := 0x50120B + 0x10000 * a
/-- `5012:0C` (R211): Render state (R205) -/
abbrev A_RENDER_STATE (a : Nat) : Nat := 0x50120C + 0x10000 * a
/-- `5012:0D` (R211): Rendered length, Q32.32 -/
abbrev A_RENDER_LEN (a : Nat) : Nat := 0x50120D + 0x10000 * a
/-- `5012:0E` (R211): Tension reference, 0.1 kN -/
abbrev A_TEN_REF (a : Nat) : Nat := 0x50120E + 0x10000 * a
/-- `5012:0F` (R211): Measured tension, 0.1 kN -/
abbrev A_TEN_FB (a : Nat) : Nat := 0x50120F + 0x10000 * a
/-- `5012:10` (R211): Tension feedback age limit, ms (R207) -/
abbrev A_TEN_FB_TIMEOUT (a : Nat) : Nat := 0x501210 + 0x10000 * a
/-- `5020:01` (R93): 0 Encoder, 1 Sensorless (R78) -/
abbrev A_START_MODE (a : Nat) : Nat := 0x502001 + 0x10000 * a
/-- `5020:02` (R93): Start stage (R79) -/
abbrev A_START_STAGE (a : Nat) : Nat := 0x502002 + 0x10000 * a
/-- `5020:03` (R93): Align current, % of Anvil limit (R81) -/
abbrev A_ALIGN_CURRENT (a : Nat) : Nat := 0x502003 + 0x10000 * a
/-- `5020:04` (R93): Align time, ms (R81) -/
abbrev A_ALIGN_TIME (a : Nat) : Nat := 0x502004 + 0x10000 * a
/-- `5020:05` (R93): Align angle, 0.01 °e (R81) -/
abbrev A_ALIGN_ANGLE (a : Nat) : Nat := 0x502005 + 0x10000 * a
/-- `5020:06` (R93): Ramp acceleration, 0.1 Hz/s (R82) -/
abbrev A_RAMP_ACCEL (a : Nat) : Nat := 0x502006 + 0x10000 * a
/-- `5020:07` (R93): Ramp current, % of Anvil limit (R82) -/
abbrev A_RAMP_CURRENT (a : Nat) : Nat := 0x502007 + 0x10000 * a
/-- `5020:08` (R93): Handover speed (R79) -/
abbrev A_HO_SPEED_UP (a : Nat) : Nat := 0x502008 + 0x10000 * a
/-- `5020:09` (R93): Handback speed (R84) -/
abbrev A_HO_SPEED_DN (a : Nat) : Nat := 0x502009 + 0x10000 * a
/-- `5020:0A` (R93): Passing checks for handover (R83) -/
abbrev A_HO_CONFIRM (a : Nat) : Nat := 0x50200A + 0x10000 * a
/-- `5020:0B` (R93): Speed agreement for a check (R83) -/
abbrev A_HO_SPEED_TOL (a : Nat) : Nat := 0x50200B + 0x10000 * a
/-- `5020:0C` (R93): Blend time, ms (R83) -/
abbrev A_HO_BLEND (a : Nat) : Nat := 0x50200C + 0x10000 * a
/-- `5020:0D` (R93): Confirm time limit, ms (R83) -/
abbrev A_HO_TIMEOUT (a : Nat) : Nat := 0x50200D + 0x10000 * a
/-- `5020:0E` (R93): Coast time limit, ms (R84) -/
abbrev A_COAST_TIME (a : Nat) : Nat := 0x50200E + 0x10000 * a
/-- `5020:0F` (R93): Retries after failure (R85) -/
abbrev A_START_RETRIES (a : Nat) : Nat := 0x50200F + 0x10000 * a
/-- `5020:10` (R93): Delay before a retry, ms (R85) -/
abbrev A_START_RETRY_DELAY (a : Nat) : Nat := 0x502010 + 0x10000 * a
/-- `5030:01` (R238): Update period, µs (R226) -/
abbrev A_PROF_PERIOD (a : Nat) : Nat := 0x503001 + 0x10000 * a
/-- `5030:02` (R238): Units per count, numerator (R220) -/
abbrev A_UNIT_NUM (a : Nat) : Nat := 0x503002 + 0x10000 * a
/-- `5030:03` (R238): Units per count, denominator -/
abbrev A_UNIT_DEN (a : Nat) : Nat := 0x503003 + 0x10000 * a
/-- `5030:04` (R238): Actual position, Q32.32 -/
abbrev A_POS_ACT (a : Nat) : Nat := 0x503004 + 0x10000 * a
/-- `5030:05` (R238): Reference position, Q32.32 -/
abbrev A_POS_REF (a : Nat) : Nat := 0x503005 + 0x10000 * a
/-- `5030:06` (R238): Target, Q32.32 (R227) -/
abbrev A_TARGET_POS (a : Nat) : Nat := 0x503006 + 0x10000 * a
/-- `5030:07` (R238): Target speed (R227) -/
abbrev A_TARGET_SPEED (a : Nat) : Nat := 0x503007 + 0x10000 * a
/-- `5030:08` (R238): Speed limit -/
abbrev A_VMAX (a : Nat) : Nat := 0x503008 + 0x10000 * a
/-- `5030:09` (R238): Acceleration limit -/
abbrev A_AMAX (a : Nat) : Nat := 0x503009 + 0x10000 * a
/-- `5030:0A` (R238): Deceleration limit -/
abbrev A_DMAX (a : Nat) : Nat := 0x50300A + 0x10000 * a
/-- `5030:0B` (R238): Jerk limit -/
abbrev A_JMAX (a : Nat) : Nat := 0x50300B + 0x10000 * a
/-- `5030:0C` (R238): Start, retarget or engage; 0 has no effect -/
abbrev A_MOVE_START (a : Nat) : Nat := 0x50300C + 0x10000 * a
/-- `5030:0D` (R238): Stop (R230); 0 has no effect -/
abbrev A_STOP (a : Nat) : Nat := 0x50300D + 0x10000 * a
/-- `5030:0E` (R238): Profile state (R227) -/
abbrev A_PROF_STATE (a : Nat) : Nat := 0x50300E + 0x10000 * a
/-- `5030:0F` (R238): Reference speed -/
abbrev A_PROF_SPEED (a : Nat) : Nat := 0x50300F + 0x10000 * a
/-- `5030:10` (R238): Reference acceleration -/
abbrev A_PROF_ACCEL (a : Nat) : Nat := 0x503010 + 0x10000 * a
/-- `5030:11` (R238): Snap window, Q16.16 units (R228) -/
abbrev A_POS_WINDOW (a : Nat) : Nat := 0x503011 + 0x10000 * a
/-- `5030:12` (R238): Following-error limit, Q16.16 units (R229) -/
abbrev A_FOLLOW_MAX (a : Nat) : Nat := 0x503012 + 0x10000 * a
/-- `5030:13` (R238): Set actual position, Q32.32 (R220) -/
abbrev A_HOME_SET (a : Nat) : Nat := 0x503013 + 0x10000 * a
/-- `5030:14` (R238): Start a reference run (R225); 0 has no effect -/
abbrev A_REF_RUN (a : Nat) : Nat := 0x503014 + 0x10000 * a
/-- `5030:15` (R238): Referencing state (R225) -/
abbrev A_REF_STATE (a : Nat) : Nat := 0x503015 + 0x10000 * a
/-- `5030:16` (R238): Deceleration on master loss (R230) -/
abbrev A_QSTOP_DEC (a : Nat) : Nat := 0x503016 + 0x10000 * a
/-- `5031:01` (R238): Master source (R231) -/
abbrev A_GEAR_SRC (a : Nat) : Nat := 0x503101 + 0x10000 * a
/-- `5031:02` (R238): Ratio numerator (R232) -/
abbrev A_GEAR_NUM (a : Nat) : Nat := 0x503102 + 0x10000 * a
/-- `5031:03` (R238): Ratio denominator -/
abbrev A_GEAR_DEN (a : Nat) : Nat := 0x503103 + 0x10000 * a
/-- `5031:04` (R238): Next numerator (R234) -/
abbrev A_GEAR_NEXT_NUM (a : Nat) : Nat := 0x503104 + 0x10000 * a
/-- `5031:05` (R238): Next denominator; 0 none armed -/
abbrev A_GEAR_NEXT_DEN (a : Nat) : Nat := 0x503105 + 0x10000 * a
/-- `5031:06` (R238): Change position Mc, master counts -/
abbrev A_GEAR_CHANGE_POS (a : Nat) : Nat := 0x503106 + 0x10000 * a
/-- `5031:07` (R238): Approach direction D -/
abbrev A_GEAR_CHANGE_DIR (a : Nat) : Nat := 0x503107 + 0x10000 * a
/-- `5031:08` (R238): Blend B, master counts -/
abbrev A_GEAR_BLEND (a : Nat) : Nat := 0x503108 + 0x10000 * a
/-- `5031:09` (R238): Gearing state (R234) -/
abbrev A_GEAR_STATE (a : Nat) : Nat := 0x503109 + 0x10000 * a
/-- `5031:0A` (R238): Master speed allowed at engagement, counts/s -/
abbrev A_GEAR_ENGAGE_SPEED (a : Nat) : Nat := 0x50310A + 0x10000 * a
/-- `5031:0B` (R238): M, master counts -/
abbrev A_MASTER_POS (a : Nat) : Nat := 0x50310B + 0x10000 * a
/-- `5031:0C` (R238): vM, counts/s -/
abbrev A_MASTER_SPEED (a : Nat) : Nat := 0x50310C + 0x10000 * a
/-- `5031:0D` (R238): Cycles without a master sample -/
abbrev A_MASTER_AGE (a : Nat) : Nat := 0x50310D + 0x10000 * a
/-- `5800:01` (R237): Counts per mechanical revolution (R218) -/
abbrev A_ENC_CPR (e : Nat) : Nat := 0x580001 + 0x1000 * e
/-- `5800:02` (R237): Count direction (R214) -/
abbrev A_ENC_POLARITY (e : Nat) : Nat := 0x580002 + 0x1000 * e
/-- `5800:03` (R237): Input filter, ns (R214) -/
abbrev A_ENC_FILTER (e : Nat) : Nat := 0x580003 + 0x1000 * e
/-- `5800:04` (R237): Axis served (R217) -/
abbrev A_ENC_AXIS (e : Nat) : Nat := 0x580004 + 0x1000 * e
/-- `5800:05` (R237): Count (R214) -/
abbrev A_ENC_COUNT (e : Nat) : Nat := 0x580005 + 0x1000 * e
/-- `5800:06` (R237): Counts per second (R216) -/
abbrev A_ENC_SPEED (e : Nat) : Nat := 0x580006 + 0x1000 * e
/-- `5800:07` (R237): Speed window, µs (R216) -/
abbrev A_ENC_SPEED_WIN (e : Nat) : Nat := 0x580007 + 0x1000 * e
/-- `5800:08` (R237): Index mode (R222) -/
abbrev A_ENC_IDX_MODE (e : Nat) : Nat := 0x580008 + 0x1000 * e
/-- `5800:09` (R237): Index tolerance, counts -/
abbrev A_ENC_IDX_TOL (e : Nat) : Nat := 0x580009 + 0x1000 * e
/-- `5800:0A` (R237): Gross index error, counts -/
abbrev A_ENC_IDX_GROSS (e : Nat) : Nat := 0x58000A + 0x1000 * e
/-- `5800:0B` (R237): Count at referencing (R221) -/
abbrev A_ENC_IDX_REF (e : Nat) : Nat := 0x58000B + 0x1000 * e
/-- `5800:0C` (R237): Last index error, counts -/
abbrev A_ENC_IDX_ERR (e : Nat) : Nat := 0x58000C + 0x1000 * e
/-- `5800:0D` (R237): Index errors flagged -/
abbrev A_ENC_IDX_FLAGS (e : Nat) : Nat := 0x58000D + 0x1000 * e
/-- `5800:0E` (R237): 0 referenced, 1 index flagged, 2 index missing, 3 illegal transition, 4 fault; bits [7:5] reserved -/
abbrev A_ENC_STATUS (e : Nat) : Nat := 0x58000E + 0x1000 * e
/-- `5800:0F` (R237): Illegal transitions (R215) -/
abbrev A_ENC_ILLEGAL (e : Nat) : Nat := 0x58000F + 0x1000 * e
/-- `5800:10` (R237): θa at the index, 0.01 °e (R218) -/
abbrev A_ENC_COMM_OFFSET (e : Nat) : Nat := 0x580010 + 0x1000 * e
/-- `5800:11` (R237): Master channel published (R233) -/
abbrev A_ENC_PUB_CH (e : Nat) : Nat := 0x580011 + 0x1000 * e
/-- `5800:12` (R237): Clear bits 1–4 (R224); 0 has no effect -/
abbrev A_ENC_STATUS_CLR (e : Nat) : Nat := 0x580012 + 0x1000 * e
/-- `5800:13` (R237): Measured offset (R219) -/
abbrev A_ENC_COMM_MEAS (e : Nat) : Nat := 0x580013 + 0x1000 * e
/-- `6000:01` (R287): Self-test fault: bit 0 A, bit 1 B; bits [7:2] reserved -/
abbrev SF_CH_FAULT  : Nat := 0x600001
/-- `6000:02` (R287): Accepted levels: bit 0 STO_A, bit 1 STO_B; bits [7:2] reserved -/
abbrev SF_STO_IN  : Nat := 0x600002
/-- `6000:03` (R287): SOUT_A, SOUT_B, MBK_A, MBK_B in bits 0–3; bits [7:4] reserved -/
abbrev SF_OUTPUTS  : Nat := 0x600003
/-- `6000:04` (R287): Discrepancies decided -/
abbrev SF_XC_COUNT  : Nat := 0x600004
/-- `6000:05` (R287): Last class 0x8 code -/
abbrev SF_LAST_CODE  : Nat := 0x600005
/-- `6001:01` (R287): Axes stopped by the STO inputs -/
abbrev SF_STO_AXES  : Nat := 0x600101
/-- `6001:02` (R287): Input filter, µs -/
abbrev SF_STO_FILTER  : Nat := 0x600102
/-- `6001:03` (R287): Input discrepancy time, ms -/
abbrev SF_STO_DISC_TIME  : Nat := 0x600103
/-- `6001:04` (R287): Axes followed by SOUT -/
abbrev SF_SOUT_AXES  : Nat := 0x600104
/-- `6001:05` (R287): Axis of the brake outputs -/
abbrev SF_MBK_AXIS  : Nat := 0x600105
/-- `6001:06` (R287): Count tolerance between channels -/
abbrev SF_XC_POS_TOL  : Nat := 0x600106
/-- `6001:07` (R287): Speed tolerance between channels, 0.1 Hz -/
abbrev SF_XC_SPD_TOL  : Nat := 0x600107
/-- `6001:08` (R287): Cycles of difference to decide -/
abbrev SF_XC_TIME  : Nat := 0x600108
/-- `6001:09` (R287): Acknowledge from the local word -/
abbrev SF_LOCAL_ACK_EN  : Nat := 0x600109
/-- `6001:0A` (R287): Axis served by ENC0 -/
abbrev SF_ENC_AXIS  : Nat := 0x60010A
/-- `6001:0B` (R287): Counts per revolution -/
abbrev SF_ENC_CPR  : Nat := 0x60010B
/-- `6001:0C` (R287): Pole pairs of the encoder axis -/
abbrev SF_ENC_POLE_PAIRS  : Nat := 0x60010C
/-- `6001:0D` (R287): Index tolerance, counts -/
abbrev SF_IDX_TOL  : Nat := 0x60010D
/-- `6001:0E` (R287): Observer comparison floor, 0.1 Hz -/
abbrev SF_OBS_MIN_FE  : Nat := 0x60010E
/-- `6001:0F` (R287): Observer speed tolerance, 0.1 Hz -/
abbrev SF_OBS_SPD_TOL  : Nat := 0x60010F
/-- `6001:10` (R287): Observer window, ms -/
abbrev SF_OBS_TIME  : Nat := 0x600110
/-- `6001:11` (R287): Observer travel tolerance, 0.01 °e -/
abbrev SF_OBS_TRAVEL_TOL  : Nat := 0x600111
/-- `6002:01` (R287): Brake release request (R261) -/
abbrev SF_BRAKE_OPEN  : Nat := 0x600201
/-- `6003:01` (R310): Safe telegrams used -/
abbrev SF_TG_ENABLE  : Nat := 0x600301
/-- `6003:02` (R310): Safe address of the device -/
abbrev SF_TG_ADDR  : Nat := 0x600302
/-- `6003:03` (R310): Safe address of the controller -/
abbrev SF_TG_PEER  : Nat := 0x600303
/-- `6003:04` (R310): Axes controlled by telegram; bits [7:4] reserved -/
abbrev SF_TG_AXES  : Nat := 0x600304
/-- `6003:05` (R310): Status telegram period, µs -/
abbrev SF_TG_CYCLE  : Nat := 0x600305
/-- `6003:06` (R310): Single-network grace, ms -/
abbrev SF_TG_GRACE  : Nat := 0x600306
/-- `6003:07` (R310): Watchdog, ms -/
abbrev SF_TG_WATCHDOG  : Nat := 0x600307
/-- `6003:08` (R310): 0 STO, 1 SS1 (R306) -/
abbrev SF_TG_REACTION  : Nat := 0x600308
/-- `6004:01` (R311): Configuration state (R295) -/
abbrev SF_CFG_STATE  : Nat := 0x600401
/-- `6004:02` (R311): Open or abandon commissioning (R296) -/
abbrev SF_COMMISSION  : Nat := 0x600402
/-- `6004:03` (R311): Seal or unseal (R295) -/
abbrev SF_CFG_SEAL  : Nat := 0x600403
/-- `6004:04` (R311): Check value computed by channel A -/
abbrev SF_CRC_A  : Nat := 0x600404
/-- `6004:05` (R311): Check value computed by channel B -/
abbrev SF_CRC_B  : Nat := 0x600405
/-- `6004:06` (R311): Written-back check value (R295) -/
abbrev SF_CRC_CONFIRM  : Nat := 0x600406
/-- `6004:07` (R311): Check value in force (R299) -/
abbrev SF_CRC_CONFIRMED  : Nat := 0x600407
/-- `6004:08` (R311): Last refusal (R298) -/
abbrev SF_CFG_RESULT  : Nat := 0x600408
/-- `6004:09` (R311): Confirmations since manufacture -/
abbrev SF_CFG_GEN  : Nat := 0x600409
/-- `6004:0A` (R311): Owning session; 0xFFFF none -/
abbrev SF_CFG_OWNER  : Nat := 0x60040A
/-- `6005:01` (R311): Bit 0 FP0 timeout, bit 1 FP1 timeout, bit 2 paired since confirmation, bit 3 watchdog expired; bits [7:4] reserved -/
abbrev SF_TG_STATE  : Nat := 0x600501
/-- `6005:02` (R311): Last paired control sequence -/
abbrev SF_TG_SEQ_RX  : Nat := 0x600502
/-- `6005:03` (R311): Last status sequence sent -/
abbrev SF_TG_SEQ_TX  : Nat := 0x600503
/-- `6005:04` (R311): Invalid copies on FP0 -/
abbrev SF_TG_BAD0  : Nat := 0x600504
/-- `6005:05` (R311): Invalid copies on FP1 -/
abbrev SF_TG_BAD1  : Nat := 0x600505
/-- `6005:06` (R311): Duplicates discarded -/
abbrev SF_TG_DUP  : Nat := 0x600506
/-- `6005:07` (R311): Mismatches (R304) -/
abbrev SF_TG_MISMATCH  : Nat := 0x600507
/-- `6100:01` (R288): Sections of the axis -/
abbrev SF_SECTIONS (a : Nat) : Nat := 0x610001 + 0x1000 * a
/-- `6100:02` (R288): Hoisting axis (R273) -/
abbrev SF_HOIST (a : Nat) : Nat := 0x610002 + 0x1000 * a
/-- `6100:05` (R288): Standstill, 0.1 Hz -/
abbrev SF_STANDSTILL (a : Nat) : Nat := 0x610005 + 0x1000 * a
/-- `6100:06` (R288): Ramp, 0.1 Hz/s -/
abbrev SF_SS1_DECEL (a : Nat) : Nat := 0x610006 + 0x1000 * a
/-- `6100:07` (R288): Envelope delay, ms -/
abbrev SF_SS1_DELAY (a : Nat) : Nat := 0x610007 + 0x1000 * a
/-- `6100:08` (R288): Envelope tolerance, 0.1 Hz -/
abbrev SF_SS1_TOL (a : Nat) : Nat := 0x610008 + 0x1000 * a
/-- `6100:09` (R288): SS1 time limit, ms -/
abbrev SF_SS1_TMAX (a : Nat) : Nat := 0x610009 + 0x1000 * a
/-- `6100:0A` (R288): Brake-to-STO delay, ms -/
abbrev SF_SBC_DELAY (a : Nat) : Nat := 0x61000A + 0x1000 * a
/-- `6100:0B` (R288): SOS window, counts -/
abbrev SF_SOS_WIN (a : Nat) : Nat := 0x61000B + 0x1000 * a
/-- `6100:0C` (R288): 0 STO, 1 SS1 -/
abbrev SF_VIOL_REACTION (a : Nat) : Nat := 0x61000C + 0x1000 * a
/-- `6100:12` (R288): SLS judging delay, ms -/
abbrev SF_SLS_DELAY (a : Nat) : Nat := 0x610012 + 0x1000 * a
/-- `6101:01` (R288): SLS limits, 0.1 Hz -/
abbrev SF_SLS_LIM (a : Nat) (i : Nat) : Nat := 0x610101 + 0x1000 * a + i
/-- `6101:05` (R288): SLP lower limit, counts -/
abbrev SF_SLP_MIN (a : Nat) : Nat := 0x610105 + 0x1000 * a
/-- `6101:06` (R288): SLP upper limit, counts -/
abbrev SF_SLP_MAX (a : Nat) : Nat := 0x610106 + 0x1000 * a
/-- `6101:07` (R288): Position at safe home, counts -/
abbrev SF_HOME_POS (a : Nat) : Nat := 0x610107 + 0x1000 * a
/-- `6101:08` (R288): SDI tolerance, counts or 0.01 °e -/
abbrev SF_SDI_TOL (a : Nat) : Nat := 0x610108 + 0x1000 * a
/-- `6101:09` (R288): Reference-run speed bound, 0.1 Hz -/
abbrev SF_REFRUN_SPEED (a : Nat) : Nat := 0x610109 + 0x1000 * a
/-- `6101:0A` (R284): Axis speed ceiling, 0.1 Hz electrical -/
abbrev SF_ANV_FE_MAX (a : Nat) : Nat := 0x61010A + 0x1000 * a
/-- `6102:01` (R288): Safety state (R265) -/
abbrev SF_STATE (a : Nat) : Nat := 0x610201 + 0x1000 * a
/-- `6102:02` (R288): Status word (R264) -/
abbrev SF_STATUS (a : Nat) : Nat := 0x610202 + 0x1000 * a
/-- `6102:03` (R288): Accepted safe control word (R263) -/
abbrev SF_REQ_SAFE (a : Nat) : Nat := 0x610203 + 0x1000 * a
/-- `6102:04` (R288): Local word (R263) -/
abbrev SF_REQ_LOCAL (a : Nat) : Nat := 0x610204 + 0x1000 * a
/-- `6102:05` (R288): Channel A speed, 0.1 Hz -/
abbrev SF_SPEED_A (a : Nat) : Nat := 0x610205 + 0x1000 * a
/-- `6102:06` (R288): Channel B speed, 0.1 Hz -/
abbrev SF_SPEED_B (a : Nat) : Nat := 0x610206 + 0x1000 * a
/-- `6102:07` (R288): Channel A position, counts -/
abbrev SF_POS_A (a : Nat) : Nat := 0x610207 + 0x1000 * a
/-- `6102:08` (R288): Channel B position, counts -/
abbrev SF_POS_B (a : Nat) : Nat := 0x610208 + 0x1000 * a
/-- `6102:0A` (R288): Code of the cause of the Safe state -/
abbrev SF_CAUSE (a : Nat) : Nat := 0x61020A + 0x1000 * a
/-- `6102:0B` (R288): Position held by SOS (R267) -/
abbrev SF_SOS_POS (a : Nat) : Nat := 0x61020B + 0x1000 * a
/-- `6200:01` (R284): Section current limit, current-ADC codes -/
abbrev SF_ANV_ILIM (x : Nat) : Nat := 0x620001 + 0x100 * x
/-- `6200:02` (R284): Duty ceiling, 0.01 % -/
abbrev SF_ANV_DUTY_MAX (x : Nat) : Nat := 0x620002 + 0x100 * x
/-- `6210:01` (R284): Lowest PWM frequency, Hz -/
abbrev SF_ANV_FPWM_MIN  : Nat := 0x621001
/-- `6210:02` (R284): Highest PWM frequency, Hz -/
abbrev SF_ANV_FPWM_MAX  : Nat := 0x621002
/-- `6210:03` (R284): Lowest strength code -/
abbrev SF_ANV_CODE_LO  : Nat := 0x621003
/-- `6210:04` (R284): Highest strength code -/
abbrev SF_ANV_CODE_HI  : Nat := 0x621004
/-- `6210:05` (R284): Switching-time window low, ns -/
abbrev SF_ANV_TSW_LO  : Nat := 0x621005
/-- `6210:06` (R284): Switching-time window high, ns -/
abbrev SF_ANV_TSW_HI  : Nat := 0x621006
/-- `6210:07` (R284): Maximum refresh interval, µs -/
abbrev SF_ANV_BLW_MAX  : Nat := 0x621007
/-- `6210:08` (R284): Sections in state 3 per device -/
abbrev SF_ANV_DEG_MAX  : Nat := 0x621008
/-- `7000:01` (R252): Arm or stop (R243) -/
abbrev G_RUN (g : Nat) : Nat := 0x700001 + 0x100 * g
/-- `7000:02` (R252): Waveform (R241) -/
abbrev G_TYPE (g : Nat) : Nat := 0x700002 + 0x100 * g
/-- `7000:03` (R252): Amplitude A -/
abbrev G_AMPL (g : Nat) : Nat := 0x700003 + 0x100 * g
/-- `7000:04` (R252): Step period, ns (R239) -/
abbrev G_STEP_NS (g : Nat) : Nat := 0x700004 + 0x100 * g
/-- `7000:05` (R252): PRBS length L (R242) -/
abbrev G_PRBS_LEN (g : Nat) : Nat := 0x700005 + 0x100 * g
/-- `7000:06` (R252): PRBS seed (R242) -/
abbrev G_SEED (g : Nat) : Nat := 0x700006 + 0x100 * g
/-- `7000:07` (R252): Start or dwell frequency, 0.01 Hz -/
abbrev G_F0 (g : Nat) : Nat := 0x700007 + 0x100 * g
/-- `7000:08` (R252): End frequency, 0.01 Hz -/
abbrev G_F1 (g : Nat) : Nat := 0x700008 + 0x100 * g
/-- `7000:09` (R252): Duration D, µs; 0 no end (R241) -/
abbrev G_DURATION (g : Nat) : Nat := 0x700009 + 0x100 * g
/-- `7000:0A` (R252): Start instant, timebase ns (R243) -/
abbrev G_START (g : Nat) : Nat := 0x70000A + 0x100 * g
/-- `7000:0B` (R252): Target slot; 0xFF source only (R240) -/
abbrev G_TARGET (g : Nat) : Nat := 0x70000B + 0x100 * g
/-- `7000:0C` (R252): 0 input sum, 1 output (R240) -/
abbrev G_POINT (g : Nat) : Nat := 0x70000C + 0x100 * g
/-- `7000:0D` (R252): Generator state (R243) -/
abbrev G_STATE (g : Nat) : Nat := 0x70000D + 0x100 * g
/-- `7000:0E` (R252): Present value (R239) -/
abbrev G_VALUE (g : Nat) : Nat := 0x70000E + 0x100 * g
/-- `7000:0F` (R252): Steps of the present or last run -/
abbrev G_STEPS (g : Nat) : Nat := 0x70000F + 0x100 * g
/-- `7000:10` (R252): Chirp repeats at its end (R241) -/
abbrev G_REPEAT (g : Nat) : Nat := 0x700010 + 0x100 * g
/-- `7010:01` (R253): Claim (R246) -/
abbrev C_CLAIM  : Nat := 0x701001
/-- `7010:02` (R253): Owning session; 0xFFFF none -/
abbrev C_OWNER  : Nat := 0x701002
/-- `7010:03` (R253): Enabled channels, bit c (R247) -/
abbrev C_CHANNELS  : Nat := 0x701003
/-- `7010:04` (R253): Tick period, ns -/
abbrev C_PERIOD  : Nat := 0x701004
/-- `7010:05` (R253): Ticks per record (R248) -/
abbrev C_DECIM  : Nat := 0x701005
/-- `7010:06` (R253): 0 pick, 1 mean -/
abbrev C_DECIM_MODE  : Nat := 0x701006
/-- `7010:07` (R253): Trigger source (R249) -/
abbrev C_TRIG_SRC  : Nat := 0x701007
/-- `7010:08` (R253): Trigger channel, or generator 0–3 -/
abbrev C_TRIG_CH  : Nat := 0x701008
/-- `7010:09` (R253): Trigger condition -/
abbrev C_TRIG_COND  : Nat := 0x701009
/-- `7010:0A` (R253): Trigger level -/
abbrev C_TRIG_LEVEL  : Nat := 0x70100A
/-- `7010:0B` (R253): Trigger instant, timebase ns -/
abbrev C_TRIG_TIME  : Nat := 0x70100B
/-- `7010:0C` (R253): Pre-trigger records -/
abbrev C_PRE  : Nat := 0x70100C
/-- `7010:0D` (R253): Arm (R249); 0 has no effect -/
abbrev C_ARM  : Nat := 0x70100D
/-- `7010:0E` (R253): Capture state (R249) -/
abbrev C_STATE  : Nat := 0x70100E
/-- `7010:0F` (R253): Records per buffer; 0 with no channel enabled (R248) -/
abbrev C_DEPTH  : Nat := 0x70100F
/-- `7010:10` (R253): Records held -/
abbrev C_RECORDS  : Nat := 0x701010
/-- `7010:11` (R253): Index of the trigger record -/
abbrev C_TRIG_REC  : Nat := 0x701011
/-- `7010:12` (R253): Trigger tick, timebase ns -/
abbrev C_TRIG_STAMP  : Nat := 0x701012
/-- `7011:01` (R253): Buffer version (R250) -/
abbrev C_VERSION  : Nat := 0x701101
/-- `7011:02` (R253): Read offset, bytes -/
abbrev C_READ_OFFSET  : Nat := 0x701102
/-- `7011:03` (R253): Buffer bytes (R250) -/
abbrev C_DATA  : Nat := 0x701103
/-- `7020:01` (R253): Channel source (R247) -/
abbrev C_CH_SRC (c : Nat) : Nat := 0x702001 + 0x100 * c
/-- `7020:02` (R253): Object for kind 0x8 -/
abbrev C_CH_OBJ (c : Nat) : Nat := 0x702002 + 0x100 * c
/-- `7F00:01` (R284): value in force -/
abbrev SF_ANV_ILIM_IN (x : Nat) : Nat := 0x7F0001 + 0x100 * x
/-- `7F00:02` (R284): value in force -/
abbrev SF_ANV_DUTY_MAX_IN (x : Nat) : Nat := 0x7F0002 + 0x100 * x
/-- `7F10:01` (R284): value in force -/
abbrev SF_ANV_FPWM_MIN_IN  : Nat := 0x7F1001
/-- `7F10:02` (R284): value in force -/
abbrev SF_ANV_FPWM_MAX_IN  : Nat := 0x7F1002
/-- `7F10:03` (R284): value in force -/
abbrev SF_ANV_CODE_LO_IN  : Nat := 0x7F1003
/-- `7F10:04` (R284): value in force -/
abbrev SF_ANV_CODE_HI_IN  : Nat := 0x7F1004
/-- `7F10:05` (R284): value in force -/
abbrev SF_ANV_TSW_LO_IN  : Nat := 0x7F1005
/-- `7F10:06` (R284): value in force -/
abbrev SF_ANV_TSW_HI_IN  : Nat := 0x7F1006
/-- `7F10:07` (R284): value in force -/
abbrev SF_ANV_BLW_MAX_IN  : Nat := 0x7F1007
/-- `7F10:08` (R284): value in force -/
abbrev SF_ANV_DEG_MAX_IN  : Nat := 0x7F1008
/-- `7F20:01` (R284): value in force -/
abbrev SF_ANV_FE_MAX_IN (a : Nat) : Nat := 0x7F2001 + 0x100 * a
/-- `7F30:01` (R284): Clips journalled, wrapping -/
abbrev SF_ANV_CLIPS  : Nat := 0x7F3001
end Obj

end Sys2Proof.Machine
end

