-- ==== Sys2Proof/Machine/State.lean ====
section
/-! DEFINITION. The state of the machine as plain data, its reset value, and the closed reasons for a stop. -/

namespace Sys2Proof.Machine

/-- One journal entry (R18) before it is laid out: the timebase ns at the event, class, source island, detail,
source address, device address and data. -/
structure Entry where
  stamp : Nat
  cls : Nat
  isl : Nat
  detail : Nat
  src : Nat
  dev : Nat
  data : Bytes
deriving DecidableEq, Repr

/-- The states of a gate pin (R116). -/
inductive PinState where
  | edgeOn | holdOn | edgeOff | holdOff | highZ
deriving DecidableEq, Repr

/-- One gate pin and its switch: pin state, strength code of the last edge, instant of that edge, whether the
switch is commanded on (from release to issue, R121), and the instant of the last issued turn-off (R125). -/
structure GatePin where
  st : PinState
  code : Nat
  edgeAt : Nat
  on : Bool
  offAt : Option Nat
deriving DecidableEq, Repr

/-- A turn-on that waits for its release (R125): the switch (high or low), tc, tconf once a fresh level 0 has
been accepted, and the dead time in force at tc (ns). -/
structure Wait where
  high : Bool
  tc : Nat
  tconf : Option Nat
  dead : Nat
deriving DecidableEq, Repr

/-- The steps of a granted refresh (R133) or of a precharge pulse (R136). -/
inductive Refresh where
  | idle
  | lowCommanded
  | pulse (released : Nat)
deriving DecidableEq, Repr

/-- Hidden state of half-bridge n (R116–R136, R145). Times are in quarter-nanoseconds of `State.now`. -/
structure Hb where
  /-- The gate enables of Tongs channels A and B (R257). -/
  enA : Bool
  enB : Bool
  hi : GatePin
  lo : GatePin
  wait : Option Wait
  /-- Changes of the expected level that the accepted level has not met, oldest first: the level and the instant of the release
  or issue (R121). -/
  expects : List (Nat × Nat)
  /-- The status band last accepted (0–3 of R119, 4 over-range). -/
  band : Nat
  /-- Instant at which the level now accepted was accepted. -/
  lvlAt : Nat
  above10 : Bool
  above90 : Bool
  lowAt : Option Nat
  refreshed : Bool
  /-- The instant S_BLW_AGE counts from. -/
  ageFrom : Nat
  /-- Kind (0 high on, 1 high off, 2 low on, 3 low off) and instant of the last measurable edge. -/
  lastEdge : Option (Nat × Nat)
  /-- First threshold crossing of a transition under way: 90 % threshold or 10 %, its base tick, and the edge kind it
  is attributed to (R128). -/
  cross : Option (Bool × Nat × Nat)
  /-- Last 0x3A entry (once per second, R130). -/
  last3A : Option Nat
  refresh : Refresh
  /-- The refresh is a pulse of the precharge (R136). -/
  refreshPre : Bool
  /-- Phase current at the last conversion, and consecutive conversions beyond ±Ioc. -/
  cur : Int
  oc : Nat
  /-- Base tick of the last trip: causes that arrive in one tick make one trip (R150). -/
  tripAt : Option Nat
  /-- Consecutive switch-node samples that disagree with the accepted level (R520). -/
  vswBad : Nat
deriving DecidableEq, Repr

/-- Where a join stands (R57): none, waiting for the angle, in precharge, waiting for the boundary, in its ramp. -/
inductive Join where
  | none | angle | precharge | boundary | ramp
deriving DecidableEq, Repr

/-- A share ramp (R57, R58): rising or falling, the share it started from, and when. -/
structure Ramp where
  up : Bool
  start : Rat
  at_ : Nat
deriving DecidableEq, Repr

/-- The precharge of a section (R136): phase of the half-bridge in turn, pulses left for it, whether a pulse is
active, when the last pulse was turned off, and whether all pulses are done. -/
structure Precharge where
  phase : Nat
  left : Nat
  active : Bool
  lastOff : Option Nat
deriving DecidableEq, Repr

/-- The PWM counter and its values in force (R94–R108). -/
structure Pwm where
  period : Nat
  presc : Nat
  dutyMax : Nat
  duty : Nat
  dead : Nat
  phase : Nat
  liveEn : Bool
  chan : Nat
  /-- Shadow writes of 2x04 not yet loaded, oldest first: subindex, value, base tick of arrival (R100, R104). -/
  written : List (Nat × Int × Nat)
  /-- Values of a transaction committed at this section's next boundary, loaded there in either load mode: subindex, value,
  base tick of T (R103, R372). -/
  forced : List (Nat × Int × Nat)
  /-- Tick at which the period opened (R98, R99). -/
  reloadAt : Option Nat
  /-- The period has a pulse; the chopped switch is inside its on-time. -/
  hasPulse : Bool
  onTime : Bool
  /-- The half-bridge and switch whose turn-on opens the period, while its release is awaited. -/
  relPending : Option (Fin 18 × Bool)
  /-- That turn-on is step 4 of a refresh: the turn-off edge counts from its release (R133). -/
  fromRel : Bool
  offIssued : Bool
  /-- Count of the release, once it has occurred (R107). -/
  relCount : Option Nat
  /-- Base ticks from the reload to the scheduled turn-off edge, from the release while `fromRel` awaits it; none when
  cancelled or absent (R107). -/
  offEdge : Option Nat
  /-- The boundary at or after which a requested load-all loads (R102). -/
  laDue : Option Nat
  /-- The sample of the period is absent (R49, R99, R108, R110). -/
  absent : Bool
  /-- Consecutive periods without a pulse (R193). -/
  absentRun : Nat
  /-- Live compare has been in force with |r_x| > 0 throughout the period so far (R193). -/
  kickable : Bool
deriving DecidableEq, Repr

/-- The comparator of one phase: the side on which the step started, confirming samples so far, instant of the first, whether
the step has had its crossing, and whether a round has been discarded since the last one judged (R65, R66). -/
structure PhaseCmp where
  startPos : Option Bool
  run : Nat
  firstAt : Nat
  declared : Bool
  gap : Bool
deriving DecidableEq, Repr

/-- The back-EMF comparator of a section (R64–R67). -/
structure Bemf where
  /-- The latest switch-node samples of the three phases and their instants. -/
  v : Vector Nat 3
  vAt : Vector Nat 3
  /-- The sample lies outside the edge blank (R65). -/
  vOk : Vector Bool 3
  cmp : Vector PhaseCmp 3
  /-- Instant of the last step change and the section angle there, whether the floating node has left its rail since, the
  rail (high). -/
  stepAt : Nat
  stepAng : Rat
  leftRail : Bool
  clampHigh : Bool
  /-- The last two events: section angle in 0.01°, instant. -/
  ev1 : Option (Nat × Nat)
  ev2 : Option (Nat × Nat)
  /-- Last switch edge of the section. -/
  edgeAt : Option Nat
deriving DecidableEq, Repr

/-- The flux observer of a section (R68): ψα and √3·ψβ in Wb, flux angles of the last updates, sums of the
samples of the running update. -/
structure Flux where
  psiA : Rat
  psiB : Rat
  /-- The integrals of v − R·i, without the L·i term. -/
  intA : Rat
  intB : Rat
  angles : List Rat
  valid : Bool
  vsum : Vector Int 3
  vcnt : Vector Nat 3
deriving DecidableEq, Repr

/-- Hidden state of section x. -/
structure Sec where
  thetaC : Rat
  /-- Sign of the torque demand sampled at the last boundary (R40): true for positive. -/
  pos : Bool
  /-- The placed step change: step and instant (R42). -/
  placed : Option (Nat × Nat)
  /-- S_CHOP_MODE in force (R46). -/
  chop : Nat
  /-- Start of the locked-rotor window while armed (R55). -/
  lockAt : Option Nat
  /-- The current limit of S_LOCK_ACTION 1 is in force (R56). -/
  lockLimit : Bool
  join : Join
  ramp : Option Ramp
  /-- The leave ramp has reached zero; the switches turn off at the next boundary (R58). -/
  offDue : Bool
  /-- A degraded entry waits for the next boundary: the lost phase (R59). -/
  degDue : Option Nat
  precharge : Option Precharge
  pwm : Pwm
  bemf : Bemf
  flux : Flux
  /-- Consecutive updates of agreement and disagreement (R72). -/
  agree : Nat
  disagree : Nat
  /-- θs (0.01°) and fs (0.1 Hz) presented to fusion (R69). -/
  thetaS : Rat
  fS : Rat
  /-- Accepted pair-current conversions of the running axis update: sum, count; the last mean (R198). -/
  pairSum : Int
  pairCnt : Nat
  pairMean : Rat
  /-- Pair current of the latest conversion (R55) and of the latest accepted one (R167). -/
  pairCur : Int
  pairAcc : Int
  /-- Signed section reference r_x in parts of the Anvil limit (R198). -/
  ref : Rat
  /-- Last write of S_TEMP (R197). -/
  tempAt : Nat
  /-- Counted in load share since the last boundary; the part of its policy weight that an isolated section carries until its
  next boundary (R151). -/
  sharing : Bool
  isoPart : Rat
  /-- BRKx: output, duty computed, the running chopper period's start, and instant accounted up to (R153). -/
  brk : Bool
  brkDuty : Nat
  brkStart : Nat
  brkAcct : Nat
  brkFrac : Nat
  /-- The end of the on-time of a modulated period. -/
  brkEnd : Option Nat
  /-- Comparator crossings, newest first: instant and sign (R256). -/
  xings : List (Nat × Int)
  /-- Consecutive conversions whose current sum fails (R520). -/
  sumBad : Nat
  /-- The section is isolated by an island fault or holdover expiry and R154 refuses its clear (R449). -/
  islandHeld : Bool
deriving DecidableEq, Repr

/-- The start sequence of an axis (R79–R86) and the reference run, which uses its Align and Ramp (R225). -/
structure Start where
  /-- Instant the stage in force began. -/
  at_ : Nat
  theta0 : Rat
  f0 : Rat
  /-- Ramp direction and the signed speed the ramp moves towards (R82, R84). -/
  dir : Int
  tgt : Rat
  /-- A stage decided by the host and the cycle starts left until it takes effect (R79). -/
  decided : Option (Nat × Nat)
  checks : Nat
  coast : Nat
  fails : Nat
  /-- Reference run: 0 none, 1 Align, 2 Ramp, 4 Blend (the stage R100 and R194 treat it as). -/
  refPhase : Nat
  refAt : Nat
  /-- On the host of a cascade axis, a phase decided and the cycle starts left until it takes effect (R79, R225). -/
  refDue : Option (Nat × Nat)
deriving DecidableEq, Repr

/-- The latest cascade estimate (R76, R77): angle, speed, instant (timebase ns), validity, cycles since. -/
structure Casc where
  theta : Rat
  fe : Rat
  t : Nat
  valid : Bool
  age : Nat
  /-- The correction Δ in force (R77). -/
  corr : Rat
deriving DecidableEq, Repr

/-- A device's contribution as the host holds it for cascade fusion and distribution (R76, R199, R398). -/
structure DevFus where
  d : Nat
  theta : Rat
  fe : Rat
  w : Nat
  count : Nat
  t : Nat
  fresh : Bool
  /-- Fusion state 1–3 and its run counters. -/
  st : Nat
  agree : Nat
  disagree : Nat
  err : Rat
  /-- W, wmax and counted sections for torque distribution. -/
  W : Nat
  wmax : Nat
  fault : Bool
deriving DecidableEq, Repr

/-- The gearing state of an axis (R231–R234). -/
structure Gear where
  engaged : Bool
  m0 : Int
  p0 : Int
  m : Int
  vM : Int
  /-- Last master sample: position, speed, instant (ns); cycles without one. -/
  lastM : Int
  lastV : Int
  lastT : Nat
  missed : Nat
  /-- Mc (R234), and whether u > 0 held when the change was committed. -/
  mc : Int
  late : Bool
  /-- 0x20 journalled in this engagement; Mc of the armed change is known; 0x1E journalled; an engagement is asked. -/
  j20 : Bool
  have_ : Bool
  j1E : Bool
  ask : Bool
deriving DecidableEq, Repr

/-- What Tongs holds over axis a, as the axis and its gates see it (R257, R266–R269): STO held by either
channel, a stop function in progress with its start speed, instant and whether it has no torque source, SOS in
force, the SLS clip in 0.1 Hz. -/
structure SafeAx where
  sto : Bool
  stopFn : Bool
  v0 : Rat
  t0 : Nat
  noTorque : Bool
  sos : Bool
  slsClip : Option Nat
  /-- The host replaces q 1 for a device of its cascade axis that stops (R276). -/
  casc : Bool
deriving DecidableEq, Repr

/-- Hidden state of local axis a. -/
structure Axis where
  safe : SafeAx
  /-- Axis estimate in 0.01° and 0.1 Hz, and the instant of the last update (R71). -/
  fusAngle : Rat
  fusFe : Rat
  fusAt : Nat
  start : Start
  casc : Casc
  /-- On the host, the cascade estimate last fused, sent in the next cycle (R76); own estimates at the latest cycle
  starts, newest first: instant (ns), angle (R75, R77). -/
  cascOut : Casc
  locals : List (Nat × Rat)
  devs : List DevFus
  /-- Latest values of axis inputs 0, 1, 2 and 10–15, whether input 2 has been written since enabled (R191). -/
  in0 : Int
  in1 : Int
  in2 : Int
  in2By : Option Nat
  trims : Vector Int 6
  /-- Latest values of the axis signals q = 0–15 (R190). -/
  sig : Vector Int 16
  /-- Tsrc of the last update and history for the snatch window, newest first (R201). -/
  tsrc : Int
  hist : List Int
  snatchRun : Nat
  snatchActive : Bool
  snatchLowAt : Option Nat
  snatchDT : Int
  /-- Render: position at entry, starts of the running entry and recover conditions, 0x17 journalled with
  A_RENDER_END = 1 (R205). -/
  rendPos : Int
  rendAbove : Option Nat
  rendBelow : Option Nat
  rend17 : Bool
  tenAt : Nat
  /-- R207 has made Tsrc input 0 with speed reference 0. -/
  tenLost : Bool
  /-- Cycles without T_d, its loss journalled (R199), headroom received from the host in 0.1 %. -/
  tdMissed : Nat
  tdLost : Bool
  hostH : Nat
  /-- Profile: speed and acceleration with full precision, home offset, internal count of a Sensorless axis,
  a stop under way, updates of following error (R220–R230). -/
  vel : Rat
  acc : Rat
  posRef : Rat
  /-- The targets taken by the last A_MOVE_START: Q32.32 position and Q16.16 speed (R227). -/
  tPos : Int
  tSpd : Int
  poff : Int
  icount : Rat
  stopping : Bool
  stopDec : Nat
  followRun : Nat
  /-- Consecutive updates at or below half the following-error limit (R229); the profile follows the measured speed in
  state 3 (R230); last 0x7, 0x06 entry (R282). -/
  calmRun : Nat
  follow : Bool
  /-- The profile is to follow the measured speed from its next update on (R230). -/
  followAsk : Bool
  /-- The stop that ends a reference run takes effect at the next profile update (R225, R230). -/
  refStop : Bool
  last06 : Option Nat
  /-- Staged values of the transaction armed by A_SNATCH_TX: slot, subindex, value (R202). -/
  armed : List (Fin 48 × Nat × Int)
  gear : Gear
  /-- Causes of the axis level now in force (bit 0 count, 1 lost compensator, 2 tension, 3 encoder,
  4 master position, 5 following error) and the count of sections last judged (R156). -/
  level : Nat
  lastCount : Nat
  /-- A new demand is needed after a controlled stop (R157). -/
  needDemand : Bool
  /-- On the host of a cascade axis, the reaction decided and not yet in a frame (R159). -/
  reactDue : Option Nat
  /-- The reaction taken at the last entry of the axis level (R157, R159). -/
  reactIn : Nat
  /-- Manual-duty slew position in 0.01 % with its fraction (R500); mode to take effect at the next update. -/
  mdNow : Rat
  modeDue : Option Nat
  /-- Torque in force at the start of Blend in Torque mode (R195). -/
  blendT0 : Int
  /-- Sum and count for A_ENC_COMM_MEAS: the last 1,024 offsets (R219). -/
  comm : List Int
deriving DecidableEq, Repr

/-- Hidden state of encoder e (R214–R224). -/
structure Enc where
  a : Bool
  b : Bool
  z : Bool
  /-- Direction and instants of accepted changes inside the speed window, newest first: instant, count after. -/
  changes : List (Nat × Int)
  lastDir : Int
  lastAt : Option Nat
  lastTick : Option Nat
  /-- Illegal transitions since, with the count travel at each (R215). -/
  illegalAt : List Int
  travel : Int
  sinceZ : Int
  last1D : Option Nat
  j1C : Bool
  /-- The axes whose level a fault of this encoder has entered and not yet left (R224). -/
  struck : List (Fin 4)
deriving DecidableEq, Repr

/-- A change of all six histories of a slot (R172): a reset, or a preload with the value of y[n−1] to y[n−3]. -/
inductive HistOp where
  | reset
  | preload (v : Int)
deriving DecidableEq, Repr

/-- The histories of a slot, newest first (R163, R165). -/
structure Hist where
  x1 : Int
  x2 : Int
  x3 : Int
  y1 : Int
  y2 : Int
  y3 : Int
deriving DecidableEq, Repr

/-- A run in flight (R168, R170): instants of its trigger value's arrival and of its issue, the coefficient set and the
input sum latched at issue, A_TLIM as it stood there (R192), and a history change that comes before it (R172). -/
structure Run where
  arrived : Nat
  issued : Nat
  set : Vector Int 25
  x : Int
  tlim : Option Int
  pre : Option HistOp
  /-- The physical lane that computes the run (R162, R182, R183). -/
  lane : Nat
  /-- Issued within 100 ns after a direct write to its slot was applied: no twin comparison (R183). -/
  apart : Bool
  /-- The sum of the generators at point 1, latched at issue (R240). -/
  inj : Option Int
deriving DecidableEq, Repr

/-- A compensator slot (R163–R181): its two banks of subindices 0x02–0x1A, the subindices that a prepared transaction
stages, histories, a history change waiting for the next issue, the waiting
request (instant it is aged from, its latest arrival, value of the trigger input), the last issue, runs in flight. -/
structure Slot where
  active : Vector Int 25
  inactive : Vector Int 25
  prepared : Option (List Nat)
  hist : Hist
  histOp : Option HistOp
  request : Option (Nat × Nat × Option Int)
  /-- Chained trigger values on their way to the lane: instant of their arrival and value (R174). -/
  inbound : List (Nat × Option Int)
  lastIssue : Option Nat
  /-- Lane cycle of the last applied direct writes with both banks as they stood before them (R175). -/
  before : Option (Nat × Vector Int 25 × Vector Int 25)
  /-- When the last direct write was applied (R183). -/
  wroteAt : Option Nat
  /-- When the last run wrote its history (R183). -/
  outAt : Option Nat
  runs : List Run
deriving DecidableEq, Repr

/-- A rotation under way (R183): logical lane, spare, slots copied, start of the twin comparison. -/
structure Rotation where
  logical : Nat
  spare : Nat
  copied : List Nat
  twinAt : Option Nat
  /-- Slots that ran since the twin comparison started, and those of them with a compared run. -/
  ran : List Nat
  compared : List Nat
  /-- Whether the comparison has ended, so that each slot hands over at its next issue, and the slots that did. -/
  handing : Bool
  moved : List Nat
deriving DecidableEq, Repr

/-- What the lanes hold beyond their objects (R170, R182–R184): next logical lane to rotate, when the last rotation
started, the rotation under way, the logical lane whose twin mismatched while its spare tests itself, whether that
mismatch awaits its count, the logical lanes held during a takeover, the lane cycle of the last issue per logical
lane, and the last residue fault per physical lane. -/
structure Lanes where
  next : Nat
  rotAt : Nat
  rot : Option Rotation
  mismatched : Option Nat
  mismatchDue : Bool
  held : List Nat
  cycle : Vector (Option Nat) 6
  residueAt : Vector (Option Nat) 7
  /-- Direct writes on their way to each logical lane in store acceptance order: slot, subindex, value, acceptance (R175). -/
  coming : Vector (List (Nat × Nat × Int × Nat)) 6
  /-- The physical lane that a logical lane without one had last (R185). -/
  gone : Vector Nat 6
deriving DecidableEq, Repr


/-- What a test-signal generator holds beyond its objects (R239–R243): the PRBS register, the instant and the timebase
ns of the first step of the run, the timebase instant from which t counts (none until the next step of a repeating chirp), and
whether a write of 0 waits for the next step. -/
structure Gen where
  reg : Nat
  first : Option Nat
  firstTb : Nat
  sweep : Option Nat
  stop : Bool
deriving DecidableEq, Repr

/-- The capture unit (R247–R250): values held at the last tick, channels with an arrival since the last record, sums of
the held values and ticks since then, whether a tick has been taken since the arm, the instant of the arm, the records
(header and values, newest first), post-trigger records left, pre-trigger records held at the trigger, and how the
records of an aborted capture stand in the ring. -/
structure Cap where
  held : Vector Int 32
  got : BitVec 32
  sum : Vector Int 32
  ticks : Nat
  ticked : Bool
  armed : Nat
  recs : List (List Int)
  post : Nat
  pre : Nat
  rot : Nat
  /-- The session that armed it (R250). -/
  by_ : Nat
deriving DecidableEq, Repr


/-- What one safety channel holds of axis a (R254–R279): the safety state, the requests it has latched in the layout of
R263 (bits 0–3 and 7–9), the speed and position it has measured, and the functions it runs. -/
structure ChAx where
  st : Nat
  req : Nat
  /-- STO is asked by a word, not by the channel's own input (R262). -/
  wordSto : Bool
  /-- The accepted safe control word; the local word, A_MODE, A_EMERG_REQ and the input-0 sink it has last read (R254). -/
  safeWord : Nat
  loc : Nat
  md : Nat
  emerg : Nat
  sink0 : Bool
  /-- Bit 10 of the safe word and of the local word at the last cycle, bit 11 of the safe word (R263, R270). -/
  ackSafe : Bool
  ackLoc : Bool
  homeBit : Bool
  /-- Measured speed in 0.1 Hz, none while unknown; channel position; observer travel in 0.01° and last angle. -/
  v : Option Rat
  pos : Int
  trav : Rat
  ang : Int
  /-- Stop function: 0 none, 1 SS1, 2 SS2, 3 SOS, 4 stop ended and its STO or brake delay in force; start speed
  (signed) and instant. -/
  fn : Nat
  v0 : Rat
  t0 : Nat
  sto : Bool
  sbc : Bool
  sbcAt : Option Nat
  sosPos : Int
  /-- SLS limit selected and limit judged, the instant from which the selection is judged. -/
  sls : Option Nat
  slsJ : Option Nat
  slsDue : Nat
  /-- SDI: position at the selection, greatest and least position since. -/
  sdi : Option (Int × Int × Int)
  /-- Detail of the cause of the Safe state and island of the channel that decided it, its reaction (0 STO, 1 SS1), when, and whether it is
  still present. -/
  cause : Nat
  isl : Nat
  react : Nat
  causeAt : Nat
  gone : Bool
  /-- A speed at or below standstill, and one above it, has been measured since the cause (R279). -/
  still : Bool
  fast : Bool
  /-- Its STO may be released (R258). -/
  free : Bool
deriving DecidableEq, Repr

/-- What a channel keeps of a field port (R303, R306): last accepted sequence (none before the first), instant of the
last valid copy and of the first one after a silence, a declared timeout, a sequence fault not yet judged, accepted copies (sequence, bytes 0–23). -/
structure TgPort where
  sp : Option Nat
  lastAt : Nat
  runAt : Nat
  timeout : Bool
  seqFault : Bool
  copies : List (Nat × Bytes)
deriving DecidableEq, Repr

/-- A safety channel (R254): its STO input, its decoder of ENC0, its comparison counters, its outputs, its telegram
receiver, and the results of the other channel as last exchanged. -/
structure Chan where
  stoIn : Bool
  a : Bool
  b : Bool
  count : Int
  /-- The channel's own copy of the safety configuration in force: the values that are no default (R254, R299). -/
  conf : List (Nat × Int)
  /-- Counts at this and the last four cycle starts, newest first. -/
  counts : List Int
  zRef : Option Int
  zLast : Option Int
  sinceZ : Int
  travel : Int
  illegalAt : List Int
  /-- The index error of the last Z edge, and whether it lies beyond SF_IDX_TOL (R277). -/
  idxErr : Int
  idxBad : Bool
  missing : Bool
  illegal : Bool
  /-- Safe home set, and what it adds to the count (R270). -/
  home : Bool
  homeOff : Int
  brakeOpen : Bool
  sout : Bool
  mbk : Bool
  axes : Vector ChAx 4
  nPos : Nat
  nSpd : Nat
  nReq : Nat
  /-- Start of a speed difference, counts and travels of the observer window newest first, start of an invalid
  observer, bit 12 of the status (R277). -/
  diffAt : Option Nat
  win : List (Nat × Int × Rat)
  invalidAt : Option Nat
  unavail : Bool
  /-- The timebase at the last cycle start, in quarter-nanoseconds (R440). -/
  startAt : Option Nat
  selfBad : Bool
  anvilBad : Bool
  ports : Vector TgPort 2
  pairedAt : Option Nat
  pairedSeq : Nat
  /-- Sequence number of a mismatched pair not yet judged (R304). -/
  mismatch : Option Nat
  wdog : Bool
  /-- The other channel's axes, count and latched SF_BRAKE_OPEN at the last exchange (R255). -/
  peer : Vector ChAx 4
  peerCount : Int
  peerBrake : Bool
deriving DecidableEq, Repr

/-- A requester that asks for the parameter-store port: its number, the transfers it still wants, the cycles it has waited
(R328, R329). -/
structure Asking where
  rq : Nat
  left : Nat
  waited : Nat
deriving DecidableEq, Repr

/-- The arbiter of the parameter-store port: the requester last granted, and those that ask (R329). -/
structure Port where
  last : Nat
  asking : List Asking
deriving DecidableEq, Repr

/-- A safety configuration stored in MRAM: generation, check value and the values that are no default (R299). -/
structure Image where
  gen : Nat
  crc : Nat
  vals : List (Nat × Int)
deriving DecidableEq, Repr


/-- A session, or an opening that awaits its CONFIRM (R340–R353): identifier, port (0 FP0, 1 FP1, 2 host, 3 CB0, 4 CB1,
5 proxy), key slot, roles, profile, since when the opening is pending, session key, highest sequence accepted, last
sequence sent, cached responses (sequence, frames), instant of the last authenticated frame. -/
structure Session where
  id : Nat
  port : Nat
  slot : Option Nat
  roles : Nat
  profile : Nat
  opening : Option Nat
  key : Bytes
  shigh : Nat
  sent : Nat
  cache : List (Nat × List Bytes)
  lastAt : Nat
  /-- Tokens at an instant (R348), and records refused with 0x0E. -/
  tokens : Rat
  tokAt : Nat
  refused : Nat
  /-- Source address and UDP port of the latest authenticated frame (R335). -/
  addr : Bytes
  /-- Subscriptions: global address, period in µs and record tag (R338). -/
  subs : List (Nat × Nat × Nat)
  /-- Session-relative objects: TX_CUR, TX_DOMAINS, TX_SEL, SS_SEL, JL_SEL. -/
  txCur : Nat
  domains : Nat
  txSel : Nat
  sel : Nat
  jlSel : Nat
  /-- The originating session of a proxy on the master (R347). -/
  origin : Option Nat
  /-- Bytes of C_DATA read within the last second: instant, bytes (R250). -/
  capReads : List (Nat × Nat)
deriving DecidableEq, Repr

/-- A lock (R351): holder, instant of the take, expiry. -/
structure Lock where
  owner : Nat
  taken : Nat
  expiry : Nat
deriving DecidableEq, Repr

/-- A record of a REQUEST (R338): operation, tag, device, key, value, and a result already decided. -/
structure Rec where
  op : Nat
  tag : Nat
  dev : Nat
  key : Nat
  val : Bytes
  code : Option Nat
deriving DecidableEq, Repr

/-- An APP request that waits for the firmware (R339, R348): session, sequence of its frame, stamp and fence domains
(R380), records, and whether it is served in the guaranteed order. -/
structure AppReq where
  sid : Nat
  seq : Nat
  stamp : Nat
  doms : Nat
  recs : List Rec
  guaranteed : Bool
deriving DecidableEq, Repr

/-- A request whose response still misses routed records (R347): session, sequence, response records in frame order, and
the devices that have not answered. -/
structure Flight where
  sid : Nat
  seq : Nat
  resp : List (Option Bytes)
  recs : List Rec
  waiting : List Nat
deriving DecidableEq, Repr

/-- A transaction (R362–R379): identifier, state, result, commit point and its parameters, owner, staged objects in
staging order, other devices that take part, T in timebase ns, first failing address. -/
structure Tx where
  id : Nat
  st : Nat
  result : Nat
  point : Nat
  secs : Nat
  dom : Nat
  time : Nat
  owner : Nat
  staged : List (Nat × Bytes)
  parts : List (Nat × Nat)
  T : Option Nat
  fail : Nat
  /-- Stamp and fence domains of its TX_COMMIT record (R382). -/
  stamp : Nat
  doms : Nat
  /-- Instants: opened, left the states 1–3 and 7, TX_COMMIT accepted, preparation ended. -/
  opened : Nat
  left : Nat
  commitAt : Nat
  /-- Its place in the order in which the TX_COMMIT writes, or PREPAREs, were accepted (R368, R372). -/
  order : Nat
  prepAt : Option Nat
  /-- A participant: the coordinator's serial number and identifier (R376). -/
  coord : Option (Nat × Nat)
  /-- Votes and DONEs received (device, code); instant of PREPARE or of the own VOTE; decided. -/
  votes : List (Nat × Nat)
  dones : List (Nat × Nat)
  asked : Option Nat
  decided : Bool
  /-- Values in force since T whose image has not been written: what a read still returns (R326). -/
  old : List (Nat × Bytes)
  applied : Bool
  /-- The write-back is complete; a participant learned its decision after T. -/
  written : Bool
  late : Bool
deriving DecidableEq, Repr

/-- A fence (R381): domain, stamp, issuing session, instant of its acceptance. -/
structure Fence where
  dom : Nat
  stamp : Nat
  sid : Nat
  accepted : Option Nat
deriving DecidableEq, Repr

/-- A write that a fence holds, or a record behind it in its frame (R339, R381): its stamp, fence domains, who made it, its
operation and tag, global address and value, and the place of its result: sequence of its frame and record number (none
for a write that came alone). -/
structure Held where
  stamp : Nat
  doms : Nat
  who : By
  op : Nat
  tag : Nat
  addr : Nat
  val : Bytes
  place : Option (Nat × Nat)
deriving DecidableEq, Repr


/-- The supply side (R454–R471): Hearth source 0–3 for H0–H3, whether the device is held in reset, how far the reset
sequence has come (0 not run, 1 steps 1–4 done, 2 ended), whether dictionary service is open, start of the dwell, last
warning or recovery of a rail, VBAK available, whether Hearth has lost power, instant up to which Hearth's count has been advanced, the supply
event record, newest first, with events dropped, wake-ups of class 3 held in Derate, and the latest admissions (domain,
instant). -/
structure Power where
  source : Nat
  held : Bool
  stage : Nat
  service : Bool
  dwellFrom : Nat
  warnedAt : Nat
  vbak : Bool
  lost : Bool
  countAt : Nat
  supply : List Entry
  dropped : Nat
  waiting : List Nat
  wakes : List (Nat × Nat)
  /-- The instant at which the device left reset (R476). -/
  outAt : Nat
  /-- RESET_N is low (R455). -/
  resetLow : Bool
  /-- Islands whose function a fault of their memory or domain has stopped (R449, R468, R469). -/
  stopped : List Nat
deriving DecidableEq, Repr

/-- Firmware (R504–R522): the SRAM copy of an image being written, the image running, the one it replaces while it is held
for revert (with its bank), the image found valid (with its header), the instant a pair last took a record, the T of an
armed activation, what a hand-over under way is (1 update, 2 revert, 3 restart), the start of the trial, the generation of
the boot record and of the newest parameter set, a set being saved, and the last ADC reference round of each section. -/
structure Fw where
  img : Bytes
  running : Option FwImg
  held : Option FwImg
  ready : Option FwImg
  takenAt : Nat
  armedAt : Option Nat
  handing : Nat
  trialFrom : Nat
  bootGen : Nat
  saving : Bool
  rounds : Vector (Option Nat) 6
deriving DecidableEq, Repr


/-- A frame of the CiA 301 engine waiting to be sent (R427): identifier word, flags FDF and BRS, data, and since when it waits. -/
structure EngFrame where
  word : Nat
  flags : Nat
  data : Bytes
  at_ : Nat
deriving DecidableEq, Repr

/-- An SDO transfer under way (R357): key, whether the client downloads, the toggle expected, the size announced, bytes so
far, instant of the last segment. -/
structure Sdo where
  key : Nat
  down : Bool
  toggle : Bool
  size : Nat
  data : Bytes
  at_ : Nat
deriving DecidableEq, Repr

/-- A CAN FD controller (R416–R431): mode in force, a mode asked for that waits for bus idle or recovery, whether a
Restricted receiver or an integration waits for recessive bits is CB_STATE 1; entries whose abort waits for the frame
on the bus, engine frames, last entries of details 0x73 and 0x74, the SDO transfer, RPDO data held for SYNC, SYNC
counts and last sending of the TPDOs; since when hardware owns its entries, and the last instant at which a frame on the bus ended
(R427). -/
structure Can where
  mode : Nat
  asked : Option Nat
  aborting : List Nat
  engine : List EngFrame
  last73 : Option Nat
  last74 : Option Nat
  sdo : Option Sdo
  held : List (Nat × Bytes)
  syncs : List (Nat × Nat)
  sentAt : List (Nat × Nat)
  eventAt : List (Nat × Nat)
  ackAt : List (Nat × Nat)
  busAt : Nat
deriving DecidableEq, Repr


/-- A NazLink port (R388, R389, R401): since when it has comma alignment without a code violation, what the LINK frame of
the other end said (serial of its master, generation, address), the link delays of the last exchanges in 1/256 ns,
newest first, and the sequence of the last exchange begun. -/
structure NazPort where
  aligned : Option Nat
  other : Option (Nat × Nat × Nat)
  delays : List Rat
  exchange : Nat
deriving DecidableEq, Repr

/-- A device as its ANNOUNCE describes it (R392, R403): address, serial, priority, master-capable, every section in state
0 or 4, master-position channels published, address asked for, where the ANNOUNCE came in and after how many hops. -/
structure Member where
  addr : Nat
  serial : Nat
  prio : Nat
  cap : Bool
  idle : Bool
  chans : Nat
  req : Nat
  port : Nat
  hops : Nat
  /-- Its NZ_OFFSET in ps as the master judges it (R405; log entry 20). -/
  off : Int
  /-- The cascade axes into which its axes are refused (R36; log entry 57). -/
  barred : List Nat
deriving DecidableEq, Repr

/-- A pass that this master runs (R403–R405): join pass, announcements of this attempt, reserved map, the map of
addresses taken once the token has returned, refused newcomers, whether the token has turned to the upstream side. -/
structure Pass where
  join : Bool
  ann : List Member
  reserved : Nat
  taken : Option Nat
  upstream : Bool
deriving DecidableEq, Repr

/-- A barrier token that this device started (R406): kind, sequence, payload as sent, returns still missing, the merged
payload of those that have come back, when it left. -/
structure Token where
  kind : Nat
  seq : Nat
  payload : Bytes
  missing : Nat
  merged : Option Bytes
  since : Nat
deriving DecidableEq, Repr

/-- A token held for its condition (R406): the port it came in by, the frame, when it came. -/
structure HeldToken where
  port : Nat
  frame : Bytes
  at_ : Nat
deriving DecidableEq, Repr

/-- NazLink cyclic data that a fence holds (R380, R381): its stamp, its fence domains, the kind, the source and the payload of its
frame. -/
structure HeldFrame where
  stamp : Nat
  doms : Nat
  kind : Nat
  src : Nat
  payload : Bytes
deriving DecidableEq, Repr

/-- NazLink (R388–R412). -/
structure Naz where
  ports : Vector NazPort 2
  /-- Next sequence number per kind, last sequence accepted per source and kind (source·256 + kind), barrier sequences
  merged with their initiator and kind, newest first. -/
  seqs : List (Nat × Nat)
  seen : List (Nat × Nat)
  mergedSeq : List (Nat × Nat)
  /-- The port by which the last frame of each device came; broadcasts of devices without an address, newest first: kind,
  sequence, port (2: sent by this device), payload (R390). -/
  via : List (Nat × Nat)
  anon : List (Nat × Nat × Nat × Bytes)
  barrierSeq : Nat
  /-- The device holds an address in the present generation, under the master of this serial number. -/
  addressed : Bool
  masterSerial : Nat
  /-- The capability to be master in force: NZ_MASTER_CAP at the last election, lost on joining with R34 broken (R36, R402). -/
  cap : Bool
  /-- The address taken in the running pass (R404); the next standby as a device that takes over names it (R412). -/
  took : Option Nat
  nextStandby : Nat
  /-- The keys of the master-capable devices by address, as the takeover ranks by them (R412; log entry 57). -/
  keys : List (Nat × Nat)
  /-- A Query barrier for a takeover is out (R412); undecided transactions that devices have reported to a new master
(serial and identifier of their coordinator), and whether its barrier has found that no device holds a decision (R379). -/
  takingOver : Bool
  reports : List (Nat × Nat)
  noDecision : Bool
  /-- Decisions that devices have reported to it (serial, identifier, T), the outcomes it has resolved, and the address of the master
  before it (R379). -/
  decisions : List (Nat × Nat × Nat)
  resolved : List (Nat × Nat)
  formerMaster : Nat
  /-- The election: when it began, the lowest key forwarded, when the last lower key was seen (R402). -/
  electFrom : Option Nat
  lowest : Option Nat
  lowerAt : Nat
  /-- The pass, the members this device knows as master, newcomers that stay outside, when the last join pass began. -/
  pass : Option Pass
  members : List Member
  outside : Bool
  joinAt : Nat
  /-- Tstart of a new enumeration, a timebase step due at the first CYCLE frame after it (R403–R405). -/
  startT : Option Nat
  /-- 1 after a full pass; 2 after a join, when the step is due only beyond 1 µs with every section in state 0 or 4 (R404, R405). -/
  stepDue : Nat
  /-- The cycle in force in µs, an announced change: Tc and the new cycle (R394). -/
  cyc : Nat
  change : Option (Nat × Nat)
  /-- The last cycle starts processed, newest first (timebase ns). -/
  starts : List Nat
  /-- On the master, the frozen content of the frame of the next cycle; the frame received for a cycle: Tj, payload
  (R395). -/
  frozen : Option Bytes
  rx : Option (Nat × Bytes)
  /-- When the store accepted the values of `rx`; the cyclic data that fences hold (R381). -/
  rxAt : Nat
  fenced : List HeldFrame
  /-- The last cycle whose values have been applied or that has been counted missed; host blocks last received. -/
  applied : Option Nat
  blocks : List Bytes
  /-- DEVICE frames: device, Tj, payload; the own W per cycle: Tj, axis, W; angle and speed of each axis at the last
  cycle start (R397, R398). -/
  devFrames : List (Nat × Nat × Bytes)
  ownW : List (Nat × Nat × Nat)
  sample : List (Nat × Int × Int)
  /-- Consecutive cycles missed, cycles without a frame per device, ports reported down (device, port), cycles with a
  minority (R400, R411). -/
  missedRun : Nat
  missing : List (Nat × Nat)
  downs : List (Nat × Nat)
  minority : Nat
  /-- The ring was enumerated as a line, at a break that this device cannot name (R388); the serial numbers for which NZ_LOST
  holds addresses, by address (R411). -/
  line : Bool
  lostSerials : List (Nat × Nat)
  /-- The ring counts as closed from the next cycle start (R410). -/
  closing : Bool
  /-- Runs of offsets within 2 ns and beyond 4 ns (R401). -/
  syncRun : Nat
  offRun : Nat
  /-- Tokens started, tokens held. -/
  tokens : List Token
  held : List HeldToken
  /-- COMMAND frames still to be repeated: sequence, payload, copies left (R392). -/
  repeats : List (Nat × Bytes × Nat)
  /-- Master-position samples received: channel, Tj, count, speed (R399). -/
  mpos : List (Nat × Nat × Int × Int)
  /-- The cycle of the last sample heard of each channel that another device publishes (R233). -/
  heard : List (Nat × Nat)
  /-- The armed snapshot: Ts and the objects (R407). -/
  snap : Option (Nat × List Nat)
  /-- The host's pole pairs by cascade axis, as far as they are known (R36; log entry 57). -/
  hostPoles : List (Nat × Nat)
  /-- What the hosts last gave for their start sequences and reference runs (R79, R225; log entry 89). -/
  hostStarts : List HostStart
deriving DecidableEq, Repr

/-- What a command sends out of the block. -/
inductive Out where
  /-- A live value leaves its lane for the live compare of section x (R169, R173). -/
  | live (x : Nat) (y : Int)
  /-- A safe status telegram copy leaves a field port, with its hop limit (R302, R335). -/
  | telegram (port : Nat) (bs : Bytes) (hop : Nat)
  /-- The result of a request for one object: result code of R321 and value. -/
  | result (code : Nat) (value : Bytes)
  /-- An APP frame leaves a port for an address, with its hop limit (R335, R336). -/
  | app (port : Nat) (dst : Bytes) (bs : Bytes) (hop : Nat)
  /-- A NazLink frame leaves a port, ended by the end delimiter or by the abort delimiter (R390, R391). -/
  | naz (port : Nat) (bs : Bytes) (ok : Bool)
  /-- The boot flash is programmed at an address, or sectors from an address on are erased (R507, R512–R517). -/
  | flash (addr : Nat) (bs : Bytes)
  | flashErase (addr len : Nat)
  /-- A Neighbour Advertisement for a target leaves a port, solicited or not, with its hop limit (R335). -/
  | advert (port : Nat) (dst target : Bytes) (solicited : Bool) (hop : Nat)
  /-- A Neighbour Solicitation for a target leaves a port, with its source and its hop limit (R335). -/
  | solicit (port : Nat) (src dst target : Bytes) (hop : Nat)
  /-- An ICMPv6 echo reply leaves a port with its hop limit and its data (R335). -/
  | echo (port : Nat) (dst bs : Bytes) (hop : Nat)
deriving DecidableEq, Repr

/-- The machine: every object's value (unlisted objects hold their reset value), hidden state, what the last
command sent out, and the commands that wait. -/
structure State where
  /-- Quarter-nanoseconds since the model's reset (the model's own; log entry 2). -/
  now : Nat
  /-- Timebase minus `now`, in quarter-nanoseconds (R441, R442). -/
  tbOff : Int
  /-- What the rate correction has added below one quarter-nanosecond, in 10⁻⁹ of it (R401). -/
  tbFrac : Int
  /-- Objects of 64 bits or fewer whose value differs from their default, by rising key. -/
  dict : List (Nat × Int)
  /-- STR and BLOB objects that are not empty, by rising key. -/
  blobs : List (Nat × Bytes)
  /-- The port of the parameter store (R329). -/
  port : Port
  secs : Vector Sec 6
  hbs : Vector Hb 18
  axes : Vector Axis 4
  encs : Vector Enc 2
  /-- The compensator slots and their lanes (R162–R184). -/
  slots : Vector Slot 48
  lanes : Lanes
  /-- The four generators and the capture unit (R239–R250). -/
  gens : Vector Gen 4
  cap : Cap
  /-- The safety channels A and B (R254), since when the STO inputs differ, a discrepancy not yet cleared (R259),
  whether an axis has left state 0 since reset (R260). -/
  tongs : Vector Chan 2
  discAt : Option Nat
  disc : Bool
  leftZero : Bool
  /-- The Safe-state latch of each axis: cause and the island of the channel that decided it (R296, R461). -/
  latch : Vector (Option (Nat × Nat)) 4
  /-- The configuration images in MRAM, newest first, the configuration under confirmation (check value and values), and
  whether the axes leave state 0 at the next channel cycle (R299). -/
  images : List Image
  confirming : Option (Nat × List (Nat × Int))
  cfgDue : Bool
  /-- Commissioning has been abandoned and the channels read the stored configuration back (R297). -/
  rereading : Bool
  /-- The journal queue, entries dropped since it was full, and the ring in MRAM, newest first (R447). -/
  jq : List Entry
  jdrop : Nat
  /-- The instant of the last arrival at the journal queue, and how many entries arrived at that edge (R443). -/
  jarr : Nat × Nat
  ring : List Entry
  /-- Start of the holdover (R450). -/
  holdAt : Option Nat
  /-- Sessions by rising identifier, freed identifiers with the instant they were freed (R346), locks of sections 0–5 and
  axes 0–3, the best-effort bucket at an instant (R348), queued requests, requests in flight, routes (session,
  device). -/
  sessions : List Session
  freed : List (Nat × Nat)
  locks : Vector (Option Lock) 10
  best : Rat
  bestAt : Nat
  queue : List AppReq
  flights : List Flight
  routes : List (Nat × Nat)
  /-- Pending host output frames as words, oldest first (R356); OPEN frames of the running second per port: start of the
  second and count (R342); last entries of details 0x06, 0x07 per port and 0x08 with what was left out (R358). -/
  hostOut : List (List Nat)
  opens : Vector (Nat × Nat) 3
  last06 : Vector (Option Nat × Nat) 3
  last07 : Vector (Option Nat × Nat) 3
  last08 : Option Nat × Nat
  /-- Transactions, reuse counts of proofing slots taken since reset (R362), fences, held writes. -/
  txs : List Tx
  txUse : List (Nat × Nat)
  fences : List Fence
  heldW : List Held
  /-- NazLink (R388–R412). -/
  naz : Naz
  /-- The CAN FD controllers CB0 and CB1 (R416–R436). -/
  can : Vector Can 2
  /-- Supplies, domains and Hearth (R454–R471), firmware (R504–R522). -/
  power : Power
  fw : Fw
  /-- Journal entries raised by islands and not yet at the journal queue (R443, R447). -/
  raised : List Entry
  outs : List Out
  /-- The counter a free value is applied to (the model's own; log entry 6). -/
  freeCtr : Nat
  pending : List Instr
deriving DecidableEq, Repr


def NazPort.reset : NazPort := ⟨none, none, [], 0⟩

/-- NazLink right after reset: no link, no address, the default cycle (R415; log entry 5). -/
def Naz.reset : Naz :=
  { ports := Vector.replicate 2 NazPort.reset, seqs := [], seen := [], mergedSeq := [], via := [], anon := [], barrierSeq := 0, addressed := false,
    masterSerial := 0, cap := false, took := none, nextStandby := 0xFFFF, keys := [], takingOver := false, reports := [], noDecision := false, decisions := [], resolved := [], formerMaster := 0xFFFF, electFrom := none, lowest := none, lowerAt := 0, pass := none, members := [], outside := false,
    joinAt := 0, startT := none, stepDue := 0, cyc := 250, change := none, starts := [], frozen := none, rx := none, rxAt := 0, fenced := [],
    applied := none, blocks := [], devFrames := [], ownW := [], sample := [], missedRun := 0, missing := [], downs := [],
    minority := 0, line := false, lostSerials := [], closing := false, syncRun := 0, offRun := 0, tokens := [], held := [], repeats := [], mpos := [], heard := [],
    snap := none, hostPoles := [], hostStarts := [] }


/-- A CAN controller right after reset: Off (R434; log entry 5). -/
def Can.reset : Can := ⟨0, none, [], [], none, none, none, [], [], [], [], [], 0⟩


/-- The supply side right after reset: on the main rails, service open (log entry 23), VBAK available (log entry 5). -/
def Power.reset : Power := ⟨0, false, 0, true, 0, 0, true, false, 0, [], 0, [], [], 0, false, []⟩

/-- Firmware right after reset (R526; log entry 5). -/
def Fw.reset : Fw := ⟨[], none, none, none, 0, none, 0, 0, 0, false, Vector.replicate 6 none⟩

/-- The banked defaults of R188 for subindices 0x02–0x1A. -/
def Slot.defaults : Vector Int 25 :=
  #v[2, 0, 0, 0, 0, 0, 0, 0, 31, 31, 31, 31, 31, 31, 31, -2147483648, 2147483647, 0, 0, 0, 0, 0, 0, 1000000, 0]

/-- A slot right after reset. -/
def Slot.reset : Slot :=
  { active := Slot.defaults, inactive := Slot.defaults, prepared := none, hist := ⟨0, 0, 0, 0, 0, 0⟩, histOp := none,
    request := none, inbound := [], lastIssue := none, before := none, wroteAt := none, outAt := none, runs := [] }

/-- The lanes right after reset (R162). -/
def Lanes.reset : Lanes :=
  { next := 0, rotAt := 0, rot := none, mismatched := none, mismatchDue := false, held := [],
    cycle := Vector.replicate 6 none, residueAt := Vector.replicate 7 none,
    coming := Vector.replicate 6 [], gone := Vector.replicate 6 0xFF }


/-- A generator right after reset (R252; log entry 5). -/
def Gen.reset : Gen := ⟨0, none, 0, none, false⟩

/-- The capture unit right after reset: an empty buffer (R253; log entry 5). -/
def Cap.reset : Cap :=
  { held := Vector.replicate 32 0, got := 0, sum := Vector.replicate 32 0, ticks := 0, ticked := false, armed := 0,
    recs := [], post := 0, pre := 0, rot := 0, by_ := 0xFFFF }


/-- An axis of a safety channel right after reset: Unconfirmed, STO and SBC held (R265, R288; log entry 5). -/
def ChAx.reset : ChAx :=
  { st := 0, req := 0, wordSto := false, safeWord := 0, loc := 0, md := 0, emerg := 0, sink0 := false, ackSafe := false, ackLoc := false,
    homeBit := false, v := none, pos := 0, trav := 0, ang := 0, fn := 0, v0 := 0, t0 := 0, sto := true, sbc := true,
    sbcAt := none, sosPos := 0, sls := none, slsJ := none, slsDue := 0, sdi := none, cause := 0, isl := 0, react := 0,
    causeAt := 0, gone := false, still := false, fast := false, free := false }

def TgPort.reset : TgPort := ⟨none, 0, 0, false, false, []⟩

/-- A safety channel right after reset: its STO input accepted high (R287; log entry 5). -/
def Chan.reset : Chan :=
  { stoIn := true, a := false, b := false, count := 0, conf := [], counts := [], zRef := none, zLast := none, sinceZ := 0,
    travel := 0, illegalAt := [], idxErr := 0, idxBad := false, missing := false, illegal := false, home := false,
    homeOff := 0, brakeOpen := false, sout := false, mbk := false, axes := Vector.replicate 4 ChAx.reset, nPos := 0, nSpd := 0,
    nReq := 0, diffAt := none, win := [], invalidAt := none, unavail := false, startAt := none, selfBad := false, anvilBad := false,
    ports := Vector.replicate 2 TgPort.reset, pairedAt := none, pairedSeq := 0, mismatch := none, wdog := false,
    peer := Vector.replicate 4 ChAx.reset, peerCount := 0, peerBrake := false }


/-- A gate pin right after reset: high impedance, switch off (R116, R455). -/
def GatePin.reset : GatePin := ⟨.highZ, 0, 0, false, none⟩

/-- A half-bridge right after reset: level 3 (R141), its switch node low since then (R132), everything idle (log entry 5). -/
def Hb.reset : Hb :=
  { enA := false, enB := false, hi := GatePin.reset, lo := GatePin.reset, wait := none, expects := [], band := 3, lvlAt := 0,
    above10 := false, above90 := false, lowAt := some 0, refreshed := false, ageFrom := 0, lastEdge := none,
    cross := none, last3A := none, refresh := .idle, refreshPre := false, cur := 0, oc := 0,
    tripAt := none, vswBad := 0 }

/-- The PWM values in force right after reset are the defaults of R113. -/
def Pwm.reset : Pwm :=
  { period := 40000, presc := 0, dutyMax := 9500, duty := 0, dead := 200, phase := 0, liveEn := false, chan := 7,
    written := [], forced := [], reloadAt := none, hasPulse := false, onTime := false, relPending := none, fromRel := false,
    offIssued := false, relCount := none, offEdge := none, laDue := none, absent := true, absentRun := 0, kickable := false }

def PhaseCmp.reset : PhaseCmp := ⟨none, 0, 0, false, false⟩

def Bemf.reset : Bemf :=
  { v := Vector.replicate 3 0, vAt := Vector.replicate 3 0, vOk := Vector.replicate 3 true, cmp := Vector.replicate 3 PhaseCmp.reset, stepAt := 0, stepAng := 0,
    leftRail := false, clampHigh := false, ev1 := none, ev2 := none, edgeAt := none }

def Flux.reset : Flux :=
  { psiA := 0, psiB := 0, intA := 0, intB := 0, angles := [], valid := false, vsum := Vector.replicate 3 0,
    vcnt := Vector.replicate 3 0 }

/-- A section right after reset: state 0, nothing placed, no join (log entry 5). -/
def Sec.reset : Sec :=
  { thetaC := 0, pos := true, placed := none, chop := 0, lockAt := none, lockLimit := false, join := .none,
    ramp := none, offDue := false, degDue := none, precharge := none, pwm := Pwm.reset, bemf := Bemf.reset,
    flux := Flux.reset, agree := 0, disagree := 0, thetaS := 0, fS := 0, pairSum := 0, pairCnt := 0, pairMean := 0,
    pairCur := 0, pairAcc := 0, ref := 0, tempAt := 0, sharing := false, isoPart := 0, brk := false, brkDuty := 0, brkStart := 0, brkAcct := 0,
    brkFrac := 0, brkEnd := none, xings := [], sumBad := 0, islandHeld := false }

def Start.reset : Start :=
  { at_ := 0, theta0 := 0, f0 := 0, dir := 1, tgt := 0, decided := none, checks := 0, coast := 0, fails := 0, refPhase := 0,
    refAt := 0, refDue := none }

def Casc.reset : Casc := ⟨0, 0, 0, false, 0, 0⟩

def Gear.reset : Gear :=
  { engaged := false, m0 := 0, p0 := 0, m := 0, vM := 0, lastM := 0, lastV := 0, lastT := 0, missed := 0, mc := 0,
    late := false, j20 := false, have_ := false, j1E := false, ask := false }

/-- An axis right after reset (log entry 5). -/
def Axis.reset : Axis :=
  { safe := ⟨false, false, 0, 0, false, false, none, false⟩, fusAngle := 0, fusFe := 0, fusAt := 0, start := Start.reset, casc := Casc.reset, cascOut := Casc.reset, locals := [], devs := [], in0 := 0, in1 := 0,
    in2 := 0, in2By := none, trims := Vector.replicate 6 0, sig := Vector.replicate 16 0, tsrc := 0, hist := [], snatchRun := 0,
    snatchActive := false, snatchLowAt := none, snatchDT := 0, rendPos := 0, rendAbove := none, rendBelow := none,
    rend17 := false, tenAt := 0, tenLost := false, tdMissed := 0, tdLost := false, hostH := 0, vel := 0, acc := 0,
    posRef := 0, tPos := 0, tSpd := 0, poff := 0, icount := 0, stopping := false, stopDec := 0, followRun := 0, calmRun := 0, follow := false, followAsk := false, refStop := false, last06 := none, armed := [], gear := Gear.reset,
    level := 0, lastCount := 0, needDemand := false, reactDue := none, reactIn := 0, mdNow := 0, modeDue := none, blendT0 := 0, comm := [] }

/-- An encoder right after reset: not referenced, levels low (log entry 5). -/
def Enc.reset : Enc :=
  { a := false, b := false, z := false, changes := [], lastDir := 1, lastAt := none, lastTick := none,
    illegalAt := [], travel := 0, sinceZ := 0, last1D := none, j1C := false, struck := [] }

/-- The unauthenticated host session of a device on which no key slot is enabled, with all five roles, quota profile 0 and a
full bucket (R345, R361). -/
def Session.hostReset : Session :=
  { id := 0x07FF, port := 2, slot := none, roles := 31, profile := 0, opening := none, key := [], shigh := 0, sent := 0,
    cache := [], lastAt := 0, tokens := 1000, tokAt := 0, refused := 0, addr := [], subs := [], txCur := 0xFFFF,
    domains := 1, txSel := 0xFFFF, sel := 0xFFFF, jlSel := 0, origin := none, capReads := [] }

/-- IS_STATE of the islands whose domains R466 keeps off at reset: the observers of sections that no axis has, the CAN FD controllers
in mode 0, capture/injection, and the JTAG test in Test-Logic-Reset. -/
def offAtReset : List (Nat × Int) := [31, 32, 33, 34, 35, 36, 44, 45, 53, 63].map (fun i => (Obj.IS_STATE i, 3))

/-- The machine right after reset: every object at its default (R322), nothing waiting. The device is not provisioned, so
the unauthenticated host session is there and counted (R345, R346, R348). -/
def State.reset : State :=
  { now := 0, tbOff := 0, tbFrac := 0, dict := offAtReset ++ [(Obj.SS_COUNT, 1), (Obj.SS_GUAR_SUM, 10000)], blobs := [], port := { last := 13, asking := [] }, secs := Vector.replicate 6 Sec.reset,
    hbs := Vector.replicate 18 Hb.reset, axes := Vector.replicate 4 Axis.reset,
    encs := Vector.replicate 2 Enc.reset,
    slots := Vector.replicate 48 Slot.reset, lanes := Lanes.reset,
    gens := Vector.replicate 4 Gen.reset, cap := Cap.reset,
    tongs := Vector.replicate 2 Chan.reset, discAt := none, disc := false, leftZero := false,
    latch := Vector.replicate 4 none,
    images := [], confirming := none, cfgDue := false, rereading := false,
    jq := [], jdrop := 0, jarr := (0, 0), ring := [], holdAt := none,
    sessions := [Session.hostReset], freed := [], locks := Vector.replicate 10 none, best := 1000, bestAt := 0, queue := [], flights := [],
    routes := [], hostOut := [], opens := Vector.replicate 3 (0, 0), last06 := Vector.replicate 3 (none, 0),
    last07 := Vector.replicate 3 (none, 0), last08 := (none, 0), txs := [], txUse := [], fences := [], heldW := [],
    naz := Naz.reset,
    can := Vector.replicate 2 Can.reset,
    power := Power.reset, fw := Fw.reset,
    raised := [], outs := [], freeCtr := 0, pending := [] }

/-- Why the machine stops with a fault. No command of this block does: the spec gives every command an effect. -/
inductive Fault where
  /-- Raised by nothing (safe): a place for a stop that a later repair may need. -/
  | noEffect (what : String)
deriving DecidableEq, Repr

/-- Why a command has no meaning in the model. -/
inductive Refusal where
  /-- Raised by exec for a command that is not modelled yet (safe). -/
  | notModelled (mnemonic : String)
deriving DecidableEq, Repr

end Sys2Proof.Machine
end

