-- ==== Sys2Proof/Machine/Ops.lean ====
section
/-! DEFINITION. The named operations over the state that every meaning uses: objects, records of instances,
time, the journal, outputs and free values. -/

namespace Sys2Proof.Machine
open Obj

/-! ### Canonical association lists -/

/-- The value listed at a key. -/
def AL.find {α : Type} : List (Nat × α) → Nat → Option α
  | [], _ => none
  | (k', v) :: r, k => if k' = k then some v else AL.find r k

/-- Without the entry of a key. -/
def AL.erase {α : Type} : List (Nat × α) → Nat → List (Nat × α)
  | [], _ => []
  | (k', v) :: r, k => if k' = k then AL.erase r k else (k', v) :: AL.erase r k

/-- With a key's value, at its place in rising order. -/
def AL.insert {α : Type} : List (Nat × α) → Nat → α → List (Nat × α)
  | [], k, v => [(k, v)]
  | (k', v') :: r, k, v =>
    if k < k' then (k, v) :: (k', v') :: r
    else if k = k' then (k, v) :: r else (k', v') :: AL.insert r k v

/-- Writing a value: the value that an unlisted key reads as removes the entry. -/
def AL.put {α : Type} [DecidableEq α] (l : List (Nat × α)) (k : Nat) (d v : α) : List (Nat × α) :=
  if v = d then AL.erase l k else AL.insert l k v

/-- Keys strictly rising. -/
def AL.rising {α : Type} : List (Nat × α) → Bool
  | [] => true
  | [_] => true
  | (a, _) :: (b, w) :: r => decide (a < b) && AL.rising ((b, w) :: r)

/-- The canonical form of the object store: keys strictly rising and no entry at its default. -/
def Dict.wf (d : List (Nat × Int)) : Bool :=
  AL.rising d && d.all (fun e => decide (e.2 ≠ Catalog.default e.1))

/-- The canonical form of the BLOB store. -/
def Blobs.wf (d : List (Nat × Bytes)) : Bool :=
  AL.rising d && d.all (fun e => decide (e.2 ≠ []))

/-! ### Objects -/

/-- The value an object holds (R322: its default while nothing has changed it). -/
def State.get (s : State) (k : Nat) : Int := (AL.find s.dict k).getD (Catalog.default k)

/-- The value of an object of the safety configuration in safety channel c's own copy (R254, R299). -/
def State.cfgOf (s : State) (c : Fin 2) (k : Nat) : Int := (AL.find (s.tongs.get c).conf k).getD (Catalog.default k)

/-- The value in force where the spec names no channel: that of channel A (log entry 44). -/
def State.cfg (s : State) (k : Nat) : Int := s.cfgOf 0 k

/-- The same as a natural number. -/
def State.nat (s : State) (k : Nat) : Nat := (s.get k).toNat

/-- The same as a flag. -/
def State.flag (s : State) (k : Nat) : Bool := decide (s.get k ≠ 0)

/-- Setting an object. -/
def State.set (s : State) (k : Nat) (v : Int) : State := { s with dict := AL.put s.dict k (Catalog.default k) v }

/-- Setting a BOOL object. -/
def State.setFlag (s : State) (k : Nat) (b : Bool) : State := s.set k (if b then 1 else 0)

/-- A wrapping U32 counter moves by n (the tables' "wrap from 0xFFFF_FFFF to 0"). -/
def State.addCount (s : State) (k n : Nat) : State := s.set k ((s.get k + n) % 4294967296)

/-- A wrapping U32 counter moves by one. -/
def State.inc (s : State) (k : Nat) : State := s.addCount k 1

/-- Setting bits of a bit-form object. -/
def State.orBits (s : State) (k m : Nat) : State := s.set k ((s.nat k ||| m : Nat) : Int)

/-- Clearing bits of a bit-form object. -/
def State.clearBits (s : State) (k m : Nat) : State := s.set k ((s.nat k - (s.nat k &&& m) : Nat) : Int)

/-- A BLOB or STR object's content. -/
def State.blob (s : State) (k : Nat) : Bytes := (AL.find s.blobs k).getD []

/-- Setting a BLOB or STR object. -/
def State.setBlob (s : State) (k : Nat) (v : Bytes) : State := { s with blobs := AL.put s.blobs k [] v }

/-! ### Instances (R4) -/

/-- Half-bridge of section x and phase p. -/
def hbOf (x : Fin 6) (p : Fin 3) : Fin 18 := ⟨3 * x.val + p.val, by omega⟩

/-- The section of half-bridge n. -/
def secOf (n : Fin 18) : Fin 6 := ⟨n.val / 3, by omega⟩

/-- The phase of half-bridge n. -/
def phaseOf (n : Fin 18) : Fin 3 := ⟨n.val % 3, by omega⟩

def allSecs : List (Fin 6) := List.finRange 6
def allHbs : List (Fin 18) := List.finRange 18
def allAxes : List (Fin 4) := List.finRange 4
def phases : List (Fin 3) := [0, 1, 2]

def State.sec (s : State) (x : Fin 6) : Sec := s.secs.get x
def State.hb (s : State) (n : Fin 18) : Hb := s.hbs.get n
def State.ax (s : State) (a : Fin 4) : Axis := s.axes.get a
def State.enc (s : State) (e : Fin 2) : Enc := s.encs.get e

/-- The record of section x is changed by f. -/
def State.modSec (s : State) (x : Fin 6) (f : Sec → Sec) : State :=
  { s with secs := s.secs.set x.val (f (s.sec x)) x.isLt }

/-- The record of half-bridge n is changed by f. -/
def State.modHb (s : State) (n : Fin 18) (f : Hb → Hb) : State :=
  { s with hbs := s.hbs.set n.val (f (s.hb n)) n.isLt }

/-- The record of axis a is changed by f. -/
def State.modAx (s : State) (a : Fin 4) (f : Axis → Axis) : State :=
  { s with axes := s.axes.set a.val (f (s.ax a)) a.isLt }

/-- The record of encoder e is changed by f. -/
def State.modEnc (s : State) (e : Fin 2) (f : Enc → Enc) : State :=
  { s with encs := s.encs.set e.val (f (s.enc e)) e.isLt }

/-- The PWM record of section x is changed by f. -/
def State.modPwm (s : State) (x : Fin 6) (f : Pwm → Pwm) : State :=
  s.modSec x (fun c => { c with pwm := f c.pwm })

/-- A state changed once for every member of a list. -/
def State.each {β : Type} (s : State) (l : List β) (f : β → State → State) : State :=
  l.foldl (fun s b => f b s) s

/-- The local axis of section x, or none (R29). -/
def axisOf (s : State) (x : Fin 6) : Option (Fin 4) :=
  if h : s.nat (S_AXIS x) < 4 then some ⟨s.nat (S_AXIS x), h⟩ else none

/-- The sections assigned to axis a (R29). -/
def secsOf (s : State) (a : Fin 4) : List (Fin 6) :=
  allSecs.filter (fun x => decide (s.nat (S_AXIS x) = a.val))

/-! ### Time -/

/-- Nanoseconds, microseconds and milliseconds in quarter-nanoseconds. -/
def ns (n : Nat) : Nat := 4 * n
def us (n : Nat) : Nat := 4000 * n
def ms (n : Nat) : Nat := 4000000 * n

/-- The timebase in quarter-nanoseconds (R439). -/
def State.tb (s : State) : Nat := ((s.now : Int) + s.tbOff).toNat

/-- A count of quarter-nanoseconds as TB_NOW reads it: the whole periods of 1.25 ns in it, in nanoseconds rounded down (R439, R441,
R451). -/
def nsOf (q : Nat) : Nat := 5 * (q / 5) / 4

/-- The timebase in whole nanoseconds, rounded down (R441, R446). -/
def State.tbNs (s : State) : Nat := nsOf s.tb

/-- What the timebase read, or will read, at an instant under its present offset (R446). -/
def State.stampOf (s : State) (t : Nat) : Nat := nsOf ((t : Int) + s.tbOff).toNat

/-- The base tick of 1.25 ns (R98, R439). -/
def State.tick (s : State) : Nat := s.tb / 5

/-- A command at instant t begins: time passes to t, the timebase with its rate correction (R401), and the outputs of the
command before are gone. -/
def State.at_ (s : State) (t : Nat) : State :=
  let acc : Int := s.tbFrac + ((t - s.now : Nat) : Int) * s.get NZ_RATE
  { s with now := max s.now t, tbOff := s.tbOff + acc / 1000000000, tbFrac := acc % 1000000000, outs := [] }

/-- The state as an instant t that has passed would find it, for what the rules compute from the shared timebase (R79). -/
def State.asOf (s : State) (t : Nat) : State := { s with now := t }

/-- The instant of `now` at which the timebase reads T ns. -/
def State.atTb (s : State) (T : Nat) : Nat := (4 * (T : Int) - s.tbOff).toNat

/-- Something leaves the block. -/
def State.emit (s : State) (o : Out) : State := { s with outs := s.outs ++ [o] }

/-! ### Values the spec leaves open -/

/-- A free value of 64 bits; the counter advances (log entry 6). -/
def State.free (s : State) : Nat × State :=
  ((Config.freeValue s.freeCtr).toNat, { s with freeCtr := s.freeCtr + 1 })

/-- A real number stored in an object of whole units: itself when whole, else one of its two neighbours, the
spec stating neither (log entry 7). -/
def rnd (r : Rat) : Int := if r.den = 1 then r.num else if Config.roundsUp r then r.floor + 1 else r.floor

/-! ### The journal (R17, R18, R447) -/

/-- An island raises a journal entry; it reaches the journal queue by JOURNAL_ENTRY. -/
def State.journal (s : State) (cls isl detail src : Nat) (data : Bytes) : State :=
  { s with raised := s.raised ++ [⟨s.tbNs, cls, isl, detail, src, s.nat DV_ADDRESS, data⟩] }

/-- The fault code of a class, source and detail: bits [15:12], [11:6] and [5:0] (R17; log entry 9 for what the low six bits
hold of a detail above 0x3F). -/
def faultCode (cls isl detail : Nat) : Nat :=
  cls * 4096 + isl * 64 + (if detail < 64 then detail else (Config.wideDetail detail).toNat)

end Sys2Proof.Machine
end

