-- ==== Sys2Proof/Machine/Operands.lean ====
section
/-! DEFINITION. The operand forms: byte orders, bit fields, saturation, fixed point, angles and check values, and
the conversions of the PWM compare. -/

namespace Sys2Proof.Machine
open Obj

/-! ### Bytes (R11) -/

/-- n bytes, least significant first (R11). -/
def le (n : Nat) (v : Int) : Bytes := (List.range n).map (fun i => BitVec.ofInt 8 (v / (256 ^ i : Nat)))

/-- n bytes, most significant first (frames and serialisations whose chapter says so). -/
def be (n : Nat) (v : Int) : Bytes := (le n v).reverse

/-- The number that bytes, least significant first, spell. -/
def ofLe : Bytes → Nat
  | [] => 0
  | b :: r => b.toNat + 256 * ofLe r

/-- The number that bytes, most significant first, spell. -/
def ofBe (bs : Bytes) : Nat := ofLe bs.reverse

/-- Exactly n bytes: cut or padded with 0x00. -/
def padTo (n : Nat) (bs : Bytes) : Bytes := bs.take n ++ List.replicate (n - bs.length) 0

/-- n reserved bytes (R10). -/
def zeros (n : Nat) : Bytes := List.replicate n 0

/-- A field of n bytes from an offset. -/
def fieldAt (bs : Bytes) (off n : Nat) : Bytes := (bs.drop off).take n

/-! ### Numbers -/

/-- Bits [hi:lo] of a number (R9). -/
def bitsOf (v hi lo : Nat) : Nat := v / 2 ^ lo % 2 ^ (hi - lo + 1)

/-- Bit i of a number. -/
def bitOf (v i : Nat) : Bool := decide (v / 2 ^ i % 2 = 1)

/-- A number of n bits read as two's complement. -/
def signExt (n : Nat) (v : Nat) : Int := if v % 2 ^ n < 2 ^ (n - 1) then (v % 2 ^ n : Nat) else (v % 2 ^ n : Nat) - (2 ^ n : Nat)

/-- Held within lo to hi. -/
def clampI (lo hi v : Int) : Int := max lo (min hi v)

/-- Held within lo to hi. -/
def clampR (lo hi v : Rat) : Rat := max lo (min hi v)

/-- Saturated to a signed width. -/
def satI (n : Nat) (v : Int) : Int := clampI (-(2 ^ (n - 1) : Nat)) ((2 ^ (n - 1) : Nat) - 1) v

/-- The sign of a number. -/
def sgnI (v : Int) : Int := if v < 0 then -1 else if v = 0 then 0 else 1

/-- The sign of a real number. -/
def sgnR (v : Rat) : Int := if v < 0 then -1 else if v = 0 then 0 else 1

def absR (v : Rat) : Rat := if v < 0 then -v else v

/-- Upward quotient. -/
def ceilDiv (a b : Nat) : Nat := (a + b - 1) / b

/-! ### Angles in 0.01° (R14) -/

/-- Modulo 360 °e. -/
def modAng (r : Rat) : Rat := r - 36000 * ((r / 36000).floor : Int)

/-- Wrapped to ±180 °e, −180 included. -/
def wrapAng (r : Rat) : Rat := modAng (r + 18000) - 18000

/-- The angle travelled in dt quarter-nanoseconds at fe in 0.1 Hz: 3,600 units of 0.01° per second for each unit
of speed. -/
def angleIn (fe : Rat) (dt : Int) : Rat := fe * 3600 * dt / 4000000000

/-- The angle as its object shows it, within 0 to 35,999. -/
def angObj (r : Rat) : Int := rnd (modAng r) % 36000

/-! ### The PWM compare (R94, R97, R105, R107) -/

/-- Base ticks per counter tick of a prescaler code (R94). -/
def presP (code : Nat) : Nat := 2 ^ code

/-- The pair (S_PERIOD, S_PRESCALE) lies in the ranges of R94. -/
def pairAllowed (period presc : Nat) : Bool :=
  match presc with
  | 0 => decide (4000 ≤ period) && decide (period ≤ 65535)
  | 1 => decide (2000 ≤ period) && decide (period ≤ 65535)
  | 2 => decide (1000 ≤ period) && decide (period ≤ 65535)
  | 3 => decide (500 ≤ period) && decide (period ≤ 50000)
  | _ => false

/-- The count at a base tick (R98). -/
def countAt (period presc phase tick : Nat) : Nat :=
  (((tick : Int) - phase) % ((period * presP presc : Nat) : Int)).toNat / presP presc

/-- A base tick is a reload (R98). -/
def isReload (period presc phase tick : Nat) : Bool :=
  decide (((tick : Int) - phase) % ((period * presP presc : Nat) : Int) = 0)

/-- Conversion of a live value to a compare (R105). -/
def liveCompare (y : Int) (period : Nat) : Nat :=
  if y ≤ 0 then 0 else ((y * period + 1073741824) / 2147483648).toNat

/-- Greatest applied on-time in counter ticks (R97). -/
def dMax (deff period : Nat) : Nat := deff * period / 10000

/-- A time in ns as counter ticks, rounded up (R107). -/
def ticksUp (nsec presc : Nat) : Nat := ceilDiv (4 * nsec) (5 * presP presc)

/-- The smallest live value whose conversion is at least n counter ticks (R193). -/
def leastLive (n period : Nat) : Int :=
  if n = 0 then 0 else ((n : Int) * 2147483648 - 1073741824 + (period : Int) - 1) / (period : Int)

/-! ### CRC-32C (Castagnoli), reflected polynomial 0x82F63B78, as R18's and R292's neighbours use it -/

/-- One bit of the reflected CRC. -/
def crcBit (poly c : Nat) : Nat := if c % 2 = 1 then (c / 2) ^^^ poly else c / 2

/-- One byte of the reflected CRC. -/
def crcByte (poly c : Nat) (b : Byte) : Nat :=
  (List.range 8).foldl (fun c _ => crcBit poly c) (c ^^^ b.toNat)

/-- CRC-32C of a byte string: initial value and final exclusive-or 0xFFFF_FFFF. -/
def crc32c (bs : Bytes) : Nat := (bs.foldl (crcByte 0x82F63B78) 0xFFFFFFFF) ^^^ 0xFFFFFFFF

/-! ### Values of objects (R312) -/

/-- Bytes of a value; 0 for STR and BLOB. -/
def Ty.size : Ty → Nat
  | .bool => 1
  | .u8 => 1
  | .u16 => 2
  | .u32 => 4
  | .u64 => 8
  | .i8 => 1
  | .i16 => 2
  | .i32 => 4
  | .i64 => 8
  | .q => 4
  | .str => 0
  | .blob => 0

end Sys2Proof.Machine
end

