-- ==== Sys2Proof/Machine/Port.lean ====
section
/-! DEFINITION. The parameter-store port: the round-robin arbiter, the transfers it grants, and a withdrawal (R328–R330,
R333). -/

namespace Sys2Proof.Machine
open Obj

/-- The place of a requester in a search that starts one above the last one granted and wraps from 13 to 0 (R329). -/
def turnOf (last rq : Nat) : Nat := (rq + 13 - last) % 14

/-- The requester that the search grants: the first that asks (R329). -/
def nextGrant (p : Port) : Option Asking :=
  p.asking.foldl (fun b a => match b with
    | some g => if turnOf p.last a.rq < turnOf p.last g.rq then some a else some g
    | none => some a) none

/-- A grant counts, and its wait, from the request to the cycle granted, enters the longest (R330, R333; log entry 27). -/
def State.countGrant (s : State) (rq wait : Nat) : State :=
  let s := s.inc (ST_GRANTS rq)
  if s.nat ST_MAX_WAIT < min 14 wait then s.set ST_MAX_WAIT (min 14 wait : Nat) else s

/-- The asking set after a cycle that rq was granted: one transfer less for it, one cycle more waited by the others (R329). -/
def Port.granted (p : Port) (rq : Nat) : Port :=
  { last := rq,
    asking := p.asking.filterMap (fun a =>
      if a.rq ≠ rq then some { a with waited := a.waited + 1 }
      else if a.left ≤ 1 then none else some { a with left := a.left - 1, waited := 0 }) }

/-- One cycle of the port: the transfer of the requester granted, if any asks (R328, R329). -/
def State.portCycle (s : State) : State :=
  match nextGrant s.port with
  | none => s
  | some g =>
    let s := (s.countGrant g.rq (g.waited + 1)).inc ST_BUSY
    { s with port := s.port.granted g.rq }

/-- Requesters that ask at once for some transfers each are served until none asks (R329). -/
def State.servePort (s : State) (l : List (Nat × Nat)) : State :=
  let l := l.filter (fun e => decide (e.1 < 14 ∧ 0 < e.2))
  let s : State := { s with port := { s.port with asking := s.port.asking ++ l.map (fun e => ({ rq := e.1, left := e.2, waited := 0 } : Asking)) } }
  s.each (List.range (s.port.asking.map (fun (a : Asking) => a.left)).sum) (fun _ s => s.portCycle)

/-- The transfers of a value of n bytes: ⌈n/8⌉, at least one (R328). -/
def transfersOf (n : Nat) : Nat := max 1 (ceilDiv n 8)

/-- Requester rq alone asks for the transfers of a value of n bytes: it is granted every cycle until it has them (R329). -/
def State.transfers (s : State) (rq n : Nat) : State :=
  if 14 ≤ rq then s
  else
    let s := ((s.countGrant rq 1).addCount (ST_GRANTS rq) (transfersOf n - 1)).addCount ST_BUSY (transfersOf n)
    { s with port := { s.port with last := rq } }

/-- Requester rq has been granted a cycle and withdraws before it: the cycle is its turn and stays empty (R330). -/
def State.withdrawGrant (s : State) (rq : Nat) : State :=
  let s := (s.countGrant rq 1).inc ST_DEAD_CYCLES
  { s with port := { s.port with last := rq } }

end Sys2Proof.Machine
end

