-- ==== Sys2Proof/Machine/Angle.lean ====
section
/-! DEFINITION. Modes, angle sources and speeds of an axis: which encoder or estimate gives θa and fe, the start
ramp, and the speed reference. -/

namespace Sys2Proof.Machine
open Obj

/-! ### Modes (R488, R492) -/

/-- The mode the axis acts in: A_TUNE_BASE while in Tuning (R492). 0 Torque, 1 Speed, 2 Position, 3 Geared,
4 Tension, 5 Manual-duty. -/
def mode (s : State) (a : Fin 4) : Nat := if s.nat (A_MODE a) = 6 then s.nat (A_TUNE_BASE a) else s.nat (A_MODE a)

/-- The axis is Sensorless (R78). -/
def sensorless (s : State) (a : Fin 4) : Bool := decide (s.nat (A_START_MODE a) = 1)

/-- A contributing device of a cascade axis: its host runs the start sequence and the reference run (R79, R225). -/
def follows (s : State) (a : Fin 4) : Bool :=
  decide (s.nat (A_CASCADE_AXIS a) ≠ 0xFF) && !(decide (s.nat NZ_ROLE ≠ 2) && decide (s.nat (A_CASCADE_AXIS a) = a.val))

/-- The stages of a start sequence govern the axis: it is Sensorless, or the host to which it contributes is (R78, R79). -/
def sequenced (s : State) (a : Fin 4) : Bool :=
  if follows s a then decide (s.nat (A_START_STAGE a) ≠ 0xFF) else sensorless s a

/-- What the host of axis a last gave (R79; log entry 89). -/
def hostStart (s : State) (a : Fin 4) : HostStart :=
  (s.naz.hostStarts.find? (fun h => decide (h.axis = s.nat (A_CASCADE_AXIS a)))).getD ⟨s.nat (A_CASCADE_AXIS a), 0, 0, 0, 0, 0, 0, 0, 1, 0⟩

/-- A start object in force: the device's own, or on a contributing device the host's (R79). -/
def startObj (s : State) (a : Fin 4) (own : Nat) (f : HostStart → Nat) : Rat :=
  if follows s a then (f (hostStart s a) : Nat) else s.get own

/-- The stage that R100 and R194 read: the reference run counts as stage 1, 2 or 4 (R225). -/
def stage (s : State) (a : Fin 4) : Nat :=
  let r := (s.ax a).start.refPhase
  if r ≠ 0 then r else s.nat (A_START_STAGE a)

/-- The axis is hoisting in the safety configuration (R273). -/
def hoisting (s : State) (a : Fin 4) : Bool := decide (s.cfg (SF_HOIST a) ≠ 0)

/-- The device hosts the torque of axis a: a local axis, or the cascade axis of the same number on a Master or a
Standalone device (R33, R488). -/
def isHost (s : State) (a : Fin 4) : Bool :=
  decide (s.nat (A_CASCADE_AXIS a) = 0xFF) ||
    (decide (s.nat NZ_ROLE ≠ 2) && decide (s.nat (A_CASCADE_AXIS a) = a.val))

/-- Axis a is free for the cascade axis of its number: local only, with no section assigned. R34 does not define the word:
the model's choice (log entry 83). -/
def freeAxis (s : State) (a : Fin 4) : Bool := decide (s.nat (A_CASCADE_AXIS a) = 0xFF) && (secsOf s a).isEmpty

/-- A Master or Standalone device can host cascade axis a in its local axis a, which is free or set to it (R33, R34). -/
def canHost (s : State) (a : Fin 4) : Bool :=
  decide (s.nat NZ_ROLE ≠ 2) && (decide (s.nat (A_CASCADE_AXIS a) = a.val) || freeAxis s a)

/-- The cascade axis that local axis a takes part in, 0xFF for none: the one it contributes to, or the one of its own number
where the device hosts it in a free axis for the devices that contribute to it (R32, R33). -/
def cascadeOf (s : State) (a : Fin 4) : Nat :=
  if s.nat (A_CASCADE_AXIS a) ≠ 0xFF then s.nat (A_CASCADE_AXIS a)
  else if canHost s a && !(s.ax a).devs.isEmpty then a.val else 0xFF

/-- Axis a takes part in a cascade axis. -/
def onCascade (s : State) (a : Fin 4) : Bool := decide (cascadeOf s a ≠ 0xFF)

/-- The host's pole-pair count for the cascade axis of axis a is known and differs: the axis is refused into it (R36; log entry
57). -/
def polesRefused (s : State) (a : Fin 4) : Bool :=
  match AL.find s.naz.hostPoles (s.nat (A_CASCADE_AXIS a)) with
  | some n => decide (n ≠ s.nat (A_POLE_PAIRS a)) && !isHost s a
  | none => false

/-- Axis a contributes its sections to a cascade axis (R32, R36). -/
def contributes (s : State) (a : Fin 4) : Bool := decide (s.nat (A_CASCADE_AXIS a) ≠ 0xFF) && !polesRefused s a

/-! ### Counted sections (R23, R35) -/

/-- The share fraction λ of section x reached by its ramp: rising at the rate of a full join, falling from its start to 0 over
S_JOIN_TIME (R57, R58, R197). -/
def shareFraction (s : State) (x : Fin 6) : Rat :=
  let st := s.nat (S_STATE x)
  match (s.sec x).ramp with
  | some r =>
    let d : Rat := ((s.now - r.at_ : Nat) : Rat) / (ms (s.nat (S_JOIN_TIME x)) : Nat)
    if r.up then min 1 (r.start + d) else max 0 (r.start * (1 - d))
  | none => if st = 2 ∨ st = 3 then 1 else 0

/-- Section x is counted: state 1 with a share above 0, state 2 or state 3 (R23). -/
def counted (s : State) (x : Fin 6) : Bool :=
  let st := s.nat (S_STATE x)
  decide (st = 2) || decide (st = 3) || (decide (st = 1) && decide (0 < shareFraction s x))

/-- The counted sections of axis a on this device. -/
def countedSecs (s : State) (a : Fin 4) : List (Fin 6) := (secsOf s a).filter (counted s)

/-- This device's counted sections of the cascade axis that it hosts in axis a: of every local axis that contributes to it
(R34, R35). -/
def ownSections (s : State) (a : Fin 4) : Nat :=
  ((allAxes.filter (fun b => decide (b = a) || (contributes s b && decide (s.nat (A_CASCADE_AXIS b) = a.val)))).map
    (fun b => (countedSecs s b).length)).sum

/-- A_CASCADE_SECTIONS (R35): on the host the counted sections of the cascade axis on all devices, else this device's own. -/
def cascadeSections (s : State) (a : Fin 4) : Nat :=
  if isHost s a && onCascade s a then
    ownSections s a + (((s.ax a).devs.filter (fun d => !d.fault && decide (d.d ≠ s.nat DV_ADDRESS))).map (·.count)).sum
  else (countedSecs s a).length

/-! ### Encoders (R216–R218) -/

/-- The encoder that serves axis a (R217). -/
def encoderOf (s : State) (a : Fin 4) : Option (Fin 2) :=
  if s.nat (A_ENC_AXIS 0) = a.val then some 0 else if s.nat (A_ENC_AXIS 1) = a.val then some 1 else none

/-- Encoder e is referenced (R221). -/
def referenced (s : State) (e : Fin 2) : Bool := bitOf (s.nat (A_ENC_STATUS e)) 0

/-- θa of a referenced encoder on an axis, in 0.01° (R218). -/
def encoderAngle (s : State) (e : Fin 2) (a : Fin 4) : Int :=
  let cpr := s.get (A_ENC_CPR e)
  let r := (s.get (A_ENC_COUNT e) - s.get (A_ENC_IDX_REF e)) % cpr
  (s.get (A_ENC_COMM_OFFSET e) + 36000 * s.get (A_POLE_PAIRS a) * r / cpr) % 36000

/-- Electrical speed from an encoder, in 0.1 Hz (R218). -/
def encoderFe (s : State) (e : Fin 2) (a : Fin 4) : Rat :=
  (s.get (A_ENC_SPEED e) : Rat) * s.get (A_POLE_PAIRS a) * 10 / s.get (A_ENC_CPR e)

/-! ### The start ramp (R82, R84) -/

/-- Seconds since the stage began. -/
def stageSeconds (s : State) (a : Fin 4) : Rat := ((s.now - (s.ax a).start.at_ : Nat) : Rat) / 4000000000

/-- Ramp speed in 0.1 Hz after t seconds: from f0 towards its target at A_RAMP_ACCEL (R82). -/
def rampSpeedAfter (s : State) (a : Fin 4) (t : Rat) : Rat :=
  let st := (s.ax a).start
  let al := startObj s a (A_RAMP_ACCEL a) (·.accel)
  if st.f0 ≤ st.tgt then min st.tgt (st.f0 + al * t) else max st.tgt (st.f0 - al * t)

/-- Ramp speed now. -/
def rampSpeed (s : State) (a : Fin 4) : Rat := rampSpeedAfter s a (stageSeconds s a)

/-- Ramp angle now: θ0 + 360·(f0·t + ½·α·t²) until the target speed is reached, then at that speed (R82). -/
def rampAngle (s : State) (a : Fin 4) : Rat :=
  let st := (s.ax a).start
  let t := stageSeconds s a
  let al := startObj s a (A_RAMP_ACCEL a) (·.accel)
  let t1 := absR (st.tgt - st.f0) / al
  let al' := if st.f0 ≤ st.tgt then al else -al
  let tr := min t t1
  modAng (st.theta0 + 3600 * (st.f0 * tr + al' * tr * tr / 2 + st.tgt * (t - tr)))

/-! ### The estimate of the axis -/

/-- A valid cascade estimate has been received within the last three cycles (R77). -/
def cascadeFresh (s : State) (a : Fin 4) : Bool :=
  onCascade s a && (s.ax a).casc.valid && decide ((s.ax a).casc.age ≤ 3)

/-- θa from the observer: A_FUS_ANGLE extrapolated at A_FUS_FE plus the correction Δ, or the cascade estimate
when the local one is invalid (R71, R77). -/
def fusedAngle (s : State) (a : Fin 4) : Rat :=
  let x := s.ax a
  if !s.flag (A_FUS_VALID a) && cascadeFresh s a then
    modAng (x.casc.theta + angleIn x.casc.fe ((s.tb : Int) - 4 * x.casc.t))
  else modAng (x.fusAngle + (if onCascade s a then x.casc.corr else 0) + angleIn x.fusFe ((s.now : Int) - x.fusAt))

/-- The estimate of the axis is valid: the local one or, on a cascade axis, a fresh cascade estimate. -/
def estimateValid (s : State) (a : Fin 4) : Bool := s.flag (A_FUS_VALID a) || cascadeFresh s a

/-- Speed of the estimate in 0.1 Hz. -/
def estimateFe (s : State) (a : Fin 4) : Rat :=
  if cascadeFresh s a then (s.ax a).casc.fe else (s.ax a).fusFe

/-- The weight λ of Blend (R83). -/
def blendFraction (s : State) (a : Fin 4) : Rat :=
  min 1 (stageSeconds s a * 1000 / startObj s a (A_HO_BLEND a) (·.blend))

/-- The blend of the ramp angle into another (R83, R225). -/
def blendAngle (s : State) (a : Fin 4) (target : Rat) : Rat :=
  modAng (rampAngle s a + blendFraction s a * wrapAng (target - rampAngle s a))

/-- θa outside every start stage: the observer's on a Sensorless axis and on a contributing device (R77), else the encoder's
(R218). -/
def runningAngle (s : State) (a : Fin 4) : Rat :=
  if sensorless s a || follows s a then fusedAngle s a
  else match encoderOf s a with
    | some e => encoderAngle s e a
    | none => 0

/-- The axis reference angle θa now, in 0.01° (R42, R77, R79, R218, R225). -/
def thetaA (s : State) (a : Fin 4) : Rat :=
  let align : Rat := modAng (startObj s a (A_ALIGN_ANGLE a) (·.alignAngle) - 9000)
  match (s.ax a).start.refPhase with
  | 1 => align
  | 2 => rampAngle s a
  | 4 => blendAngle s a (runningAngle s a)
  | _ =>
    if !sequenced s a || decide (mode s a = 5) then runningAngle s a
    else match s.nat (A_START_STAGE a) with
      | 1 => align
      | 2 => rampAngle s a
      | 3 => rampAngle s a
      | 4 => blendAngle s a (runningAngle s a)
      | _ => runningAngle s a

/-- The electrical speed outside every start stage, in 0.1 Hz. -/
def runningFe (s : State) (a : Fin 4) : Rat :=
  if sensorless s a || follows s a then estimateFe s a
  else match encoderOf s a with
    | some e => encoderFe s e a
    | none => 0

/-- The axis electrical speed fe in 0.1 Hz (R42, R190, R218). -/
def feOf (s : State) (a : Fin 4) : Rat :=
  match (s.ax a).start.refPhase with
  | 1 => 0
  | 2 => rampSpeed s a
  | _ =>
    if !sequenced s a || decide (mode s a = 5) then runningFe s a
    else match s.nat (A_START_STAGE a) with
      | 1 => 0
      | 2 => rampSpeed s a
      | 3 => rampSpeed s a
      | _ => runningFe s a

/-- The angle source outside every start stage is valid. -/
def runningValid (s : State) (a : Fin 4) : Bool :=
  if sensorless s a || follows s a then estimateValid s a
  else match encoderOf s a with
    | some e => referenced s e
    | none => false

/-- The angle source of the axis is valid under R42 (R77, R79, R217, R218, R225). -/
def angleValid (s : State) (a : Fin 4) : Bool :=
  if (s.ax a).start.refPhase ≠ 0 then true
  else if !sequenced s a || decide (mode s a = 5) then runningValid s a
  else
    let st := s.nat (A_START_STAGE a)
    if 1 ≤ st ∧ st ≤ 4 then true else if st = 5 ∨ st = 6 then runningValid s a else false

/-- The section angle θx (R24). -/
def thetaX (s : State) (x : Fin 6) (a : Fin 4) : Rat := modAng (thetaA s a - s.get (S_STAGGER x))

/-! ### Speed reference (R190, R226) -/

/-- Electrical speed in 0.1 Hz of a profile speed in position units per second (R226). -/
def unitsToFe (s : State) (a : Fin 4) (v : Rat) : Rat :=
  let cps := v * s.get (A_UNIT_DEN a) / s.get (A_UNIT_NUM a)
  let pp : Rat := s.get (A_POLE_PAIRS a)
  let cpr : Rat := if sensorless s a then 36000 * pp else
    match encoderOf s a with
    | some e => s.get (A_ENC_CPR e)
    | none => 1
  cps * pp * 10 / cpr

/-- Position units per second of an electrical speed in 0.1 Hz: the converse of `unitsToFe`. -/
def feToUnits (s : State) (a : Fin 4) (f : Rat) : Rat :=
  let pp : Rat := s.get (A_POLE_PAIRS a)
  let cpr : Rat := if sensorless s a then 36000 * pp else
    match encoderOf s a with
    | some e => s.get (A_ENC_CPR e)
    | none => 1
  f * cpr * s.get (A_UNIT_NUM a) / (pp * 10 * s.get (A_UNIT_DEN a))

/-- The speed reference q 1 before any clip: the profile speed, or the render, recover or lost-tension speed
(R190, R206, R207). -/
def speedRefRaw (s : State) (a : Fin 4) : Rat :=
  let h : Rat := s.get (A_HAUL_DIR a)
  if (s.ax a).tenLost then 0
  else match s.nat (A_RENDER_STATE a) with
    | 2 => -h * s.get (A_RENDER_SPEED a)
    | 3 => h * s.get (A_RECOVER_SPEED a)
    | 4 => 0
    | _ => unitsToFe s a (s.ax a).vel

/-- The speed ramp of a stop function: sign(v0)·max(0, |v0| − SF_SS1_DECEL·t) (R266). -/
def stopRamp (s : State) (a : Fin 4) : Rat :=
  let f := (s.ax a).safe
  let t : Rat := ((s.now - f.t0 : Nat) : Rat) / 4000000000
  (sgnR f.v0 : Rat) * max 0 (absR f.v0 - s.cfg (SF_SS1_DECEL a) * t)

/-- A speed reference within the limit of Limp, which the modes Speed, Position and Tension take on an axis of no cascade (R493,
R494, R498). -/
def limpClip (s : State) (a : Fin 4) (r : Rat) : Rat :=
  if bitOf (s.nat (A_EMERG_STATE a)) 1 && decide (mode s a = 1 ∨ mode s a = 2 ∨ mode s a = 4) && isHost s a && !onCascade s a then
    clampR (-(s.get (A_LIMP_SPEED a) : Rat)) (s.get (A_LIMP_SPEED a)) r
  else r

/-- The speed reference before the Anvil ceiling: the stop ramp, which replaces the clip by SLS, or the reference clipped by SLS,
which leaves the geared reference alone; either within Limp (R266, R268, R272, R490, R493, R494). -/
def speedAsked (s : State) (a : Fin 4) : Rat :=
  if (s.ax a).safe.stopFn then limpClip s a (stopRamp s a)
  else
    let r := speedRefRaw s a
    limpClip s a (match (s.ax a).safe.slsClip with
      | some l => if mode s a = 3 then r else clampR (-(l : Rat)) l r
      | none => r)

/-- The speed reference q 1 in 0.1 Hz as it arrives: clipped to the Anvil ceiling (R269, R282). -/
def speedRef (s : State) (a : Fin 4) : Rat :=
  clampR (-(s.get (SF_ANV_FE_MAX_IN a) : Rat)) (s.get (SF_ANV_FE_MAX_IN a)) (speedAsked s a)

/-- The travel the axis is asked for (R51): its sign is the direction asked. -/
def demandedTravel (s : State) (a : Fin 4) : Rat :=
  if s.nat (A_RENDER_STATE a) = 2 ∨ s.nat (A_RENDER_STATE a) = 3 then speedRef s a
  else match mode s a with
    | 1 => speedRef s a
    | 2 => speedRef s a
    | 3 => ((s.ax a).gear.vM : Rat) * s.get (A_GEAR_NUM a) / s.get (A_GEAR_DEN a)
    | 5 => s.get (A_MD_DUTY a)
    | _ => 0

/-- The Anvil section current limit in force, in current-ADC codes (R281). -/
def anvilI (s : State) (x : Fin 6) : Nat := s.nat (SF_ANV_ILIM_IN x)

end Sys2Proof.Machine
end

