-- ==== Sys2Proof/Machine/Flags.lean ====
section
/-! DEFINITION. Status words and journal data: result codes, cause bits, and the data fields that each chapter
gives its journal entries. -/

namespace Sys2Proof.Machine
open Obj

/-! ### Access results (R321, R282) -/

def rcOk : Nat := 0x00
def rcNoIndex : Nat := 0x01
def rcNoSub : Nat := 0x02
def rcReadOnly : Nat := 0x03
def rcRole : Nat := 0x05
def rcRange : Nat := 0x06
def rcLength : Nat := 0x07
def rcTxOnly : Nat := 0x08
def rcSafety : Nat := 0x09
def rcService : Nat := 0x0A
def rcLocked : Nat := 0x0B
def rcRule : Nat := 0x0C
def rcNoDevice : Nat := 0x0D
def rcQuota : Nat := 0x0E
def rcClipped : Nat := 0x10
def rcNoRoute : Nat := 0x11

/-! ### Cause bits of S_Q_CAUSE (R145) -/

def causeOcPos : Nat := 0x01
def causeOcNeg : Nat := 0x02
def causeDesatHigh : Nat := 0x04
def causeDesatLow : Nat := 0x08
def causeUvlo : Nat := 0x10
def causeTimeout : Nat := 0x20
def causeDcOv : Nat := 0x40
def causeVpd : Nat := 0x80

/-! ### Expected level (R121) -/

/-- 1 with the low switch commanded on, 2 with the high switch, 0 with both off (R121). -/
def expectedLevel (h : Hb) : Nat := if h.lo.on then 1 else if h.hi.on then 2 else 0

/-! ### Journal entries of the power path -/

/-- The electrical speed of the axis of section x, or 0 when it is unassigned. -/
def secFe (s : State) (x : Fin 6) : Rat :=
  match axisOf s x with
  | some a => feOf s a
  | none => 0

/-- Sequencer entries (R62). -/
def State.jSeq (s : State) (x : Fin 6) (detail : Nat) : State :=
  s.journal 1 x.val detail (0x2001 + 0x100 * x.val)
    (le 2 (s.get (S_SEGMENT x)) ++ le 2 (angObj (s.sec x).thetaC) ++ le 4 (rnd (secFe s x)) ++
     le 1 (s.get (S_STEP x)) ++ le 1 (s.get (S_STATE x)) ++ le 1 (s.get (S_DEG_PHASE x)) ++ zeros 7)

/-- PWM entries (R112): the half-bridge of 0x39, the refused pair of 0x38. -/
def State.jPwm (s : State) (x : Fin 6) (detail hbn refPeriod refPresc : Nat) : State :=
  s.journal 1 x.val detail (0x2004 + 0x100 * x.val)
    (le 2 (s.get (S_SEGMENT x)) ++ le 2 (s.sec x).pwm.period ++ le 1 (s.sec x).pwm.presc ++ le 1 hbn ++
     le 2 refPeriod ++ le 1 refPresc ++ zeros 9)

/-- The strength-code object of an edge kind (R129): 0 high on, 1 high off, 2 low on, 3 low off. -/
def codeKey (n : Fin 18) (kind : Nat) : Nat := S_TMP_CODE_HON n + kind

/-- The last-transition object of an edge kind (R128). -/
def tswKey (n : Fin 18) (kind : Nat) : Nat := S_TSW_HON n + kind

/-- S_BLW_AGE now, in µs, saturating (R132). -/
def blwAge (s : State) (n : Fin 18) : Nat :=
  if (s.hb n).refreshed then 0 else min 0xFFFFFFFF ((s.now - (s.hb n).ageFrom) / 4000)

/-- Gate-interface entries (R138): edge kind or 0xFF, measured transition in 0.1 ns or 0xFFFF. -/
def State.jGate (s : State) (n : Fin 18) (detail kind tsw : Nat) : State :=
  let x := secOf n
  s.journal 1 x.val detail (0x2008 + 0x100 * x.val + (phaseOf n).val)
    (le 2 (s.get (S_SEGMENT x)) ++ le 1 n.val ++ le 1 kind ++
     le 1 (if kind < 4 then s.get (codeKey n kind) else 0xFF) ++ le 1 (s.hb n).band ++ le 2 tsw ++
     le 4 (blwAge s n) ++ le 1 (s.get S_BLW_ACTIVE) ++ zeros 5)

/-- Sections of the device in state 4. -/
def isolatedCount (s : State) : Nat := (allSecs.filter (fun x => decide (s.nat (S_STATE x) = 4))).length

/-- Counted sections of an axis as its journal entries give them (R35). -/
def countOf (s : State) (a : Option (Fin 4)) : Nat :=
  match a with
  | some a => if onCascade s a && isHost s a then cascadeSections s a else (countedSecs s a).length
  | none => 0

/-- Data of the class 0x2–0x6 entries (R144), in the state after the event; `pair` is the commanded pair at the trip. In an entry
that names no half-bridge or no section, for which R144 gives no value at offsets 4, 5, 8, 10, 11 and 16, they hold 0: the
model's choice (log entry 88). -/
def quenchData (s : State) (x : Option (Fin 6)) (n : Option (Fin 18)) (a : Option (Fin 4)) (before pair : Nat) : Bytes :=
  le 2 (match x with | some x => s.get (S_SEGMENT x) | none => 0xFFFF) ++
  le 1 (match n with | some n => n.val | none => 0xFF) ++
  le 1 (match n with | some n => s.get (S_Q_CAUSE n) | none => 0) ++
  le 1 pair ++
  le 1 (match n with | some n => s.get (S_HSS_LEVEL n) | none => 0) ++
  le 2 (match n with | some n => (s.hb n).cur | none => 0) ++
  le 2 (match x with | some x => s.get (S_DC_LINK x) | none => 0) ++
  le 1 before ++
  le 1 (match x with | some x => s.get (S_STATE x) | none => 0) ++
  le 1 (isolatedCount s) ++
  le 1 (match a with | some a => a.val | none => 0xFF) ++
  le 2 (countOf s a) ++
  le 1 (match n with
    | some n => (if (s.hb n).above10 then 1 else 0) + (if (s.hb n).above90 then 2 else 0)
    | none => 0) ++ zeros 1

/-- A class 0x2 or 0x3 entry of section x under a source island, with its data; S_Q_LAST takes its code (R161). -/
def State.jSecData (s : State) (isl cls detail src : Nat) (x : Fin 6) (data : Bytes) : State :=
  (s.journal cls isl detail src data).set (S_Q_LAST x) (faultCode cls isl detail)

/-- The same with the data of R144 in the present state. -/
def State.jSectionAt (s : State) (isl cls detail src : Nat) (x : Fin 6) (n : Option (Fin 18)) (before : Nat) : State :=
  s.jSecData isl cls detail src x (quenchData s (some x) n (axisOf s x) before
    (match n with | some n => expectedLevel (s.hb n) | none => 0))

/-- A class 0x2 or 0x3 entry of section x under its own island. -/
def State.jSection (s : State) (cls detail src : Nat) (x : Fin 6) (n : Option (Fin 18)) (before : Nat) : State :=
  s.jSectionAt x.val cls detail src x n before

/-- The island numbers of R437 used as sources. -/
def islObserver (x : Fin 6) : Nat := 31 + x.val
def islFusion : Nat := 37
def islTongsA : Nat := 38
def islTongsB : Nat := 39
def islNaz (p : Fin 2) : Nat := 46 + p.val
def islStore : Nat := 48
def islJournal : Nat := 49
def islMram : Nat := 50
def islEncoder : Nat := 51
def islProfile : Nat := 52
def islCapture : Nat := 53
def islHost : Nat := 54
def islBoot : Nat := 55
def islCrypto : Nat := 56
def islPower : Nat := 57
def islAnvil : Nat := 58
def islTimebase : Nat := 61
def islSelfTest : Nat := 62

/-- A class 0x4 entry of axis a under a source island (R143, R144). -/
def State.jAxisAt (s : State) (isl : Nat) (a : Fin 4) (detail : Nat) : State :=
  s.journal 4 isl detail (0x500B + 0x100 * a.val) (quenchData s none none (some a) 0 0)

/-- A class 0x4 entry of axis a under the fusion island. -/
def State.jAxis (s : State) (a : Fin 4) (detail : Nat) : State := s.jAxisAt islFusion a detail

/-- A class 0x5 entry of R143 under the power manager. -/
def State.jDevice (s : State) (detail : Nat) : State :=
  s.journal 5 islPower detail 0x1042 (quenchData s none none none 0 0)

/-- Observer and fusion entries (R90): a section event when x is given, else an axis event. -/
def State.jFus (s : State) (a : Option (Fin 4)) (x : Option (Fin 6)) (dev : Nat) (err : Int) (detail : Nat) : State :=
  let ak : Nat := match a with | some a => a.val | none => 0
  let src := match x with | some x => 0x3003 + 0x100 * x.val | none => 0x3801 + 0x10 * ak
  let isl := match x with | some x => islObserver x | none => islFusion
  s.journal 1 isl detail src
    (le 2 (match x with | some x => s.get (S_SEGMENT x) | none => 0xFFFF) ++ le 2 (s.get (A_FUS_ANGLE ak)) ++
     le 4 (s.get (A_FUS_FE ak)) ++ le 2 err ++ le 1 (match x with | some x => x.val | none => dev) ++
     le 1 (s.get (A_START_STAGE ak)) ++ le 2 (s.get (A_FUS_COUNT ak)) ++ zeros 4)

/-- Load-share, snatch, render and tension entries (R210). -/
def State.jLoad (s : State) (cls detail src : Nat) (a : Fin 4) : State :=
  s.journal cls islProfile detail src
    (le 1 a.val ++ le 1 (s.get (A_SNATCH_STATE a)) ++ le 1 (s.get (A_RENDER_STATE a)) ++ le 1 (s.get (A_TORQUE_SRC a)) ++
     le 4 (s.get (A_TORQUE_CMD a)) ++ le 4 (s.ax a).snatchDT ++ le 4 (s.get (A_TEN_FB a)) ++ le 2 (countOf s (some a)))

/-- q 0 in Q16.16 of the position unit, from the Q32.32 reference and actual position (R190). -/
def posError (s : State) (a : Fin 4) : Int := satI 32 ((s.get (A_POS_REF a) - s.get (A_POS_ACT a)) / 65536)

/-- Encoder, profile and gearing entries (R235). -/
def State.jMotion (s : State) (cls isl detail src : Nat) (a : Option (Fin 4)) (e : Option (Fin 2)) (v : Int) : State :=
  let ak : Nat := match a with | some a => a.val | none => 0
  s.journal cls isl detail src
    (le 1 (match a with | some a => a.val | none => 0xFF) ++ le 1 (match e with | some e => e.val | none => 0xFF) ++
     le 1 (s.get (A_PROF_STATE ak)) ++ le 1 (s.get (A_GEAR_STATE ak)) ++
     le 8 (match e with | some e => s.get (A_ENC_COUNT e) | none => s.get (A_MASTER_POS ak)) ++ le 4 v ++ zeros 2)

/-- Mode entries (R503): the mode before the event. -/
def State.jMode (s : State) (a : Fin 4) (detail before : Nat) : State :=
  s.journal 1 islProfile detail (0x5002 + 0x100 * a.val)
    (le 1 a.val ++ le 1 (s.get (A_MODE a)) ++ le 1 before ++ le 1 (s.get (A_EMERG_STATE a)) ++ le 1 (s.get (SF_STATE a)) ++
     le 1 (s.get (A_START_STAGE a)) ++ le 1 (s.get PW_STATE) ++ zeros 1 ++ le 4 (rnd (feOf s a)) ++
     le 2 (s.get (A_MD_NOW a)) ++ zeros 4)

/-- Timebase, journal and island entries (R452). -/
def State.jClock (s : State) (cls isl detail src island : Nat) (step : Int) (dropped : Nat) : State :=
  s.journal cls isl detail src
    (le 1 island ++ le 1 (if island < 64 then s.get (IS_STATE island) else 0) ++ le 1 (s.get TB_REF_STATE) ++ zeros 1 ++
     le 8 step ++ le 4 dropped ++ zeros 2)

/-- An Anvil clip (R282, R283): source island, detail, the object's key (or 0x7F20 + a, 01 for q 1), requester,
requested and applied value, key of the readback object. -/
def State.jClip (s : State) (isl detail key requester : Nat) (asked applied : Int) (readback : Nat) : State :=
  (s.journal 7 isl detail (key / 256)
    (le 1 (key % 256) ++ le 1 requester ++ le 4 asked ++ le 4 applied ++ le 2 (readback / 256) ++
     le 1 (readback % 256) ++ zeros 5)).inc SF_ANV_CLIPS

end Sys2Proof.Machine
end

