-- ==== Sys2Proof/Machine/Domains.lean ====
section
/-! DEFINITION. Power domains: their numbers, classes and current steps, the Damper queue, and the islands they power
(R465–R467). -/

namespace Sys2Proof.Machine
open Obj

/-! ### The domains (R465) -/

def allDomains : List Nat := List.range 132

/-- The Damper class of a domain. -/
def domClass (d : Nat) : Nat :=
  if d < 54 then 0 else if d < 79 then 1 else if d < 95 then 2 else if d < 101 then 0 else if d < 108 then 1
  else if d < 110 then 0 else if d < 121 then 2 else if d < 123 then 1 else if d = 123 then 3 else if d < 127 then 2
  else if d = 127 then 0 else if d = 128 then 1 else if d = 129 then 0 else 3

/-- The declared VCORE step of a wake-up, in mA. -/
def domStep (d : Nat) : Nat :=
  if d < 36 then 2 else if d < 54 then 3 else if d < 72 then 12 else if d < 79 then 60 else if d < 95 then 15
  else if d < 101 then 40 else if d < 110 then 20 else if d < 112 then 150 else if d < 114 then 30 else if d < 116 then 5
  else if d < 119 then 40 else if d = 119 then 5 else if d = 120 then 10 else if d < 124 then 20 else if d = 124 then 10
  else if d = 125 then 5 else if d = 126 then 30 else if d = 127 then 5 else if d < 130 then 20 else if d = 130 then 10 else 5

/-- The island that a domain powers. -/
def domIsland (d : Nat) : Option Nat :=
  if d < 54 then none else if d < 66 then some (13 + (d - 54)) else if d < 72 then some (25 + (d - 66))
  else if d < 79 then some (6 + (d - 72)) else if d < 95 then none else if d < 101 then some (d - 95)
  else if d < 107 then some (31 + (d - 101)) else if d < 127 then some (37 + (d - 107))
  else if d = 127 then some 58 else if d = 128 then some 59 else if d = 129 then some 61 else some (d - 68)

/-- Wake-ups in the order of the queue: by class, then by number (R467). -/
def wakeOrder : List Nat := ((List.range 4).map (fun c => allDomains.filter (fun d => decide (domClass d = c)))).flatten

/-- The wake-ups queued. -/
def queued (s : State) : List Nat := wakeOrder.filter (fun d => decide (s.nat (PW_DOM_STATE d) = 1))

def State.modPower (s : State) (f : Power → Power) : State := { s with power := f s.power }

/-- The main rails have power and nothing holds the device in reset. -/
def deviceUp (s : State) : Bool := decide (s.power.source = 0) && !s.power.held

/-- PW_DAMP_QUEUE and PW_DAMP_MAX_Q follow the queue. -/
def State.syncQueue (s : State) : State :=
  let n := (queued s).length
  (s.set PW_DAMP_QUEUE n).set PW_DAMP_MAX_Q (max n (s.nat PW_DAMP_MAX_Q) : Nat)

/-- A domain that is off is queued for its wake-up; in Derate class 3 is held outside the queue (R457, R466). -/
def State.queueDomain (s : State) (d : Nat) : State :=
  if s.nat (PW_DOM_STATE d) ≠ 0 then s
  else if domClass d = 3 ∧ s.nat PW_STATE = 1 then
    s.modPower (fun p => { p with waiting := if d ∈ p.waiting then p.waiting else p.waiting ++ [d] })
  else (s.set (PW_DOM_STATE d) 1).syncQueue

/-- A domain whose island is powered down is queued (R466). -/
def State.wake (s : State) (d : Nat) : State :=
  match domIsland d with
  | some i => if s.nat (IS_STATE i) = 3 then s.queueDomain d else s
  | none => s.queueDomain d

/-- Wake-ups of class 3 that Derate finds in the queue are held outside it (R457). -/
def State.holdBack (s : State) : State :=
  (s.each ((queued s).filter (fun d => decide (domClass d = 3))) (fun d s =>
    (s.set (PW_DOM_STATE d) 0).modPower (fun p => { p with waiting := p.waiting ++ [d] }))).syncQueue

/-- A domain that R466 keeps off goes off, and its island is powered down. -/
def State.sleep (s : State) (d : Nat) : State :=
  if s.nat (PW_DOM_STATE d) = 4 then s
  else
    let s := ((s.set (PW_DOM_STATE d) 0).modPower (fun p => { p with waiting := p.waiting.filter (· ≠ d) })).syncQueue
    match domIsland d with
    | some i => if s.nat (IS_STATE i) = 0 then s.set (IS_STATE i) 3 else s
    | none => s

/-- What R466 keeps off: observers of unassigned sections, capture with its banks, a CAN controller in mode 0, a failed
lane, the JTAG test. -/
def keptOff (s : State) (d : Nat) : Bool :=
  if 101 ≤ d ∧ d < 107 then decide (s.nat (S_AXIS (d - 101)) = 0xFF)
  else if d = 123 ∨ (92 ≤ d ∧ d < 95) then decide (s.nat C_CLAIM = 0) && decide (s.nat C_STATE = 0)
  else if d = 114 ∨ d = 115 then decide (s.nat (CB_MODE (d - 114)) = 0)
  else if 72 ≤ d ∧ d < 79 then decide (s.nat (K_LANE_STATE (d - 72)) = 4)
  else decide (d = 131)

/-- How domain d stands. The state after the model's reset stands for every domain on that R466 does not keep off (log entry
23). -/
def domState (s : State) (d : Nat) : Nat :=
  let v := s.nat (PW_DOM_STATE d)
  if v = 0 ∧ s.power.stage = 0 ∧ s.power.service = true ∧ keptOff s d = false ∧ d ∉ s.power.waiting then 3 else v

end Sys2Proof.Machine
end

