-- ==== Sys2Proof/Machine/Gate.lean ====
section
/-! DEFINITION. Gate pins and the commands to them: the switch pattern of the step table, issuing a turn-off,
commanding a turn-on and withdrawing it (R39–R46, R60, R115–R126). -/

namespace Sys2Proof.Machine
open Obj

/-! ### The step table (R39, R40, R60) -/

/-- The role of a phase in a step. -/
inductive Leg where
  | high | low | float
deriving DecidableEq, Repr

/-- High and low phase of steps 0–5 for positive torque (R39). -/
def stepLegs (k : Nat) : Option (Fin 3 × Fin 3) :=
  match k with
  | 0 => some (0, 1)
  | 1 => some (0, 2)
  | 2 => some (1, 2)
  | 3 => some (1, 0)
  | 4 => some (2, 0)
  | 5 => some (2, 1)
  | _ => none

/-- The pair (a, b) that remains when a phase is lost (R60). -/
def degPair (lost : Nat) : Fin 3 × Fin 3 :=
  match lost with
  | 0 => (1, 2)
  | 1 => (2, 0)
  | _ => (0, 1)

/-- High and low phase in force: the step, the lost phase of state 3 (steps 6 and 7), the torque sign. -/
def legsOf (step lost : Nat) (pos : Bool) : Option (Fin 3 × Fin 3) :=
  let l := match step with
    | 6 => some (degPair lost)
    | 7 => some ((degPair lost).2, (degPair lost).1)
    | k => stepLegs k
  if pos then l else l.map (fun p => (p.2, p.1))

/-- The role of a phase (R39, R40, R60). -/
def legOf (step lost : Nat) (pos : Bool) (p : Fin 3) : Leg :=
  match legsOf step lost pos with
  | some (h, l) => if p = h then .high else if p = l then .low else .float
  | none => .float

/-- The chopped switch of a chop mode (R45): phase and whether it is the high switch. -/
def choppedOf (step lost : Nat) (pos : Bool) (chop : Nat) : Option (Fin 3 × Bool) :=
  (legsOf step lost pos).map (fun p => if chop = 1 then (p.2, false) else (p.1, true))

/-- The states a leg's switches take under a chop mode (R45): high on, low on. -/
def legSwitches (leg : Leg) (chop : Nat) (onTime : Bool) : Bool × Bool :=
  match leg with
  | .high => if chop = 1 then (true, false) else if chop = 2 then (onTime, !onTime) else (onTime, false)
  | .low => if chop = 1 then (false, onTime) else (false, true)
  | .float => (false, false)

/-- The chopped switch of section x now. -/
def chopped (s : State) (x : Fin 6) : Option (Fin 18 × Bool) :=
  let c := s.sec x
  (choppedOf (s.nat (S_STEP x)) (s.nat (S_DEG_PHASE x)) c.pos c.chop).map (fun p => (hbOf x p.1, p.2))

/-- The step the table gives at θc: floor(((θc − 30°) mod 360°)/60°) (R39). -/
def stepAt (theta : Rat) : Nat := ((modAng (theta - 3000)) / 6000).floor.toNat

/-- Positive and negative window centres for a lost phase, in 0.01° (R60). -/
def degCentre (lost : Nat) : Nat × Nat :=
  match lost with
  | 0 => (18000, 0)
  | 1 => (30000, 12000)
  | _ => (6000, 24000)

/-- The degraded window at θc: 6, 7 or 0xFE; each window includes its lower edge and excludes its upper (R60). -/
def degWindow (theta : Rat) (lost width : Nat) : Nat :=
  let ins (c : Nat) : Bool := decide (modAng (theta - c + (width : Rat) / 2) < width)
  if ins (degCentre lost).1 then 6 else if ins (degCentre lost).2 then 7 else 0xFE

/-! ### May a section drive? -/

/-- The switches of the section may be on: its state, start stage, reversal and safety permit it
(R45, R52, R79, R80, R225, R257, R495). -/
def mayDrive (s : State) (x : Fin 6) : Bool :=
  let st := s.nat (S_STATE x)
  (decide (st = 1) || decide (st = 2) || decide (st = 3)) &&
  match axisOf s x with
  | none => false
  | some a =>
    let sg := s.nat (A_START_STAGE a)
    let seqOff := sequenced s a && decide (mode s a ≠ 5) && decide ((s.ax a).start.refPhase = 0) &&
      (decide (sg = 0) || decide (sg = 6) || decide (sg = 7) || (decide (1 ≤ sg ∧ sg ≤ 4) && (s.ax a).safe.stopFn))
    let mdOff := decide (mode s a = 5) && (s.flag (A_REV_PENDING a) || (sensorless s a && !estimateValid s a))
    let refOff := decide (s.nat (A_REF_STATE a) = 3)
    !seqOff && !mdOff && !refOff && !(s.ax a).safe.sto

/-- Half-bridge n is latched by Quench (R148). -/
def latched (s : State) (n : Fin 18) : Bool := bitOf (s.nat (S_Q_LATCH (secOf n))) (phaseOf n).val

/-- A turn-on of half-bridge n can be released: not latched, enabled in S_CHAN_CFG, both gate enables closed, pins
driven (R44, R113, R116, R257). -/
def gateReady (s : State) (n : Fin 18) : Bool :=
  !latched s n && bitOf (s.sec (secOf n)).pwm.chan (phaseOf n).val && (s.hb n).enA && (s.hb n).enB &&
    decide ((s.hb n).hi.st ≠ .highZ) && decide ((s.hb n).lo.st ≠ .highZ)

/-! ### Edges -/

/-- The edge current I(c) = 0.25 mA · 2^(c / 10.5) to the nearest µA: the greatest m with m − ½ below it, told by its
21st power, 250²¹ · 4^c (R115, R118). -/
def edgeMicroAmps (c : Nat) : Nat :=
  (List.range 15).foldl (fun m i =>
    let k := m + 2 ^ (14 - i)
    if (2 * k - 1) ^ 21 < 500 ^ 21 * 4 ^ c then k else m) 0

/-- The pin record of a switch. -/
def Hb.pin (h : Hb) (high : Bool) : GatePin := if high then h.hi else h.lo

def Hb.setPin (h : Hb) (high : Bool) (p : GatePin) : Hb := if high then { h with hi := p } else { h with lo := p }

/-- The expected level changes: its own timeout runs until the accepted level meets it, after the changes before it (R121; log
entry 16). -/
def State.expect (s : State) (n : Fin 18) : State :=
  s.modHb n (fun h =>
    let met := decide (h.expects = []) && decide (s.nat (S_HSS_LEVEL n) = expectedLevel h)
    { h with expects := if met then [] else h.expects ++ [(expectedLevel h, s.now)] })

/-- The edge current of the last edge is reported (R118), and the comparator's edge blank starts (R65). -/
def State.noteEdge (s : State) (n : Fin 18) (code : Nat) : State :=
  (s.set (S_GATE_I n) (s.get (S_BOOST_GAIN (secOf n)) * edgeMicroAmps code)).modSec (secOf n)
    (fun c => { c with bemf := { c.bemf with edgeAt := some s.now } })

/-- The turn-off of a switch is issued with a strength code; a Quench edge is not measured (R116, R121, R148). -/
def State.issueOff (s : State) (n : Fin 18) (high : Bool) (code : Nat) (measured : Bool) : State :=
  if ((s.hb n).pin high).on then
    let s := s.modHb n (fun h =>
      { h.setPin high ⟨.edgeOff, code, s.now, false, some s.now⟩ with
        lastEdge := if measured then some (if high then 1 else 3, s.now) else none })
    (s.noteEdge n code).expect n
  else s

/-- A turn-on that waits for a switch is withdrawn: nothing was released (R126). -/
def State.cancelOn (s : State) (n : Fin 18) (high : Bool) : State :=
  s.modHb n (fun h => match h.wait with
    | some w => if w.high = high then { h with wait := none } else h
    | none => h)

/-- The turn-on of a switch is commanded now; its release follows R125. -/
def State.commandOn (s : State) (n : Fin 18) (high : Bool) : State :=
  if ((s.hb n).pin high).on || !gateReady s n then s
  else match (s.hb n).wait with
    | some w => if w.high = high then s else
        s.modHb n (fun h => { h with wait := some ⟨high, s.now, none, (s.sec (secOf n)).pwm.dead⟩ })
    | none => s.modHb n (fun h => { h with wait := some ⟨high, s.now, none, (s.sec (secOf n)).pwm.dead⟩ })

/-- A switch is to be off: issued with its Temper code, or its waiting turn-on withdrawn. -/
def State.toOff (s : State) (n : Fin 18) (high : Bool) : State :=
  (s.cancelOn n high).issueOff n high (s.nat (codeKey n (if high then 1 else 3))) true

/-- The switch states the sequencer asks of half-bridge n; one disabled in S_CHAN_CFG is held off (R113). -/
def desired (s : State) (n : Fin 18) : Bool × Bool :=
  let x := secOf n
  let c := s.sec x
  if mayDrive s x && bitOf c.pwm.chan (phaseOf n).val then
    legSwitches (legOf (s.nat (S_STEP x)) (s.nat (S_DEG_PHASE x)) c.pos (phaseOf n)) c.chop c.pwm.onTime
  else (false, false)

/-- Half-bridge n is driven to what the sequencer asks; a refresh under way keeps the low switch, and its end
decides whether step 4 is still wanted (R133, R135). -/
def State.driveHb (s : State) (n : Fin 18) : State :=
  let d := desired s n
  match (s.hb n).refresh with
  | .idle =>
    let s := if d.1 then s else s.toOff n true
    let s := if d.2 then s else s.toOff n false
    if d.1 then s.commandOn n true else if d.2 then s.commandOn n false else s
  | _ => s

/-- The on-time of a section that may no longer drive is over: the turn-on of a period occurs at the reload alone (R109), and a
turn-on not yet released is none that R108 counts. -/
def State.cutOnTime (s : State) (x : Fin 6) : State :=
  if mayDrive s x then s
  else s.modPwm x (fun p =>
    { p with onTime := false, offIssued := p.offIssued || p.onTime, relPending := none, absent := p.absent || p.relPending.isSome })

/-- The three half-bridges of section x are driven. -/
def State.drive (s : State) (x : Fin 6) : State := s.each phases (fun p s => s.driveHb (hbOf x p)) |>.cutOnTime x

/-- Every switch of section x turns off, but for the low switch of a refresh, which completes (R58, R135, R149). -/
def State.allOff (s : State) (x : Fin 6) : State :=
  s.each phases (fun p s =>
    let s := s.toOff (hbOf x p) true
    if (s.hb (hbOf x p)).refresh = .idle then s.toOff (hbOf x p) false else s)

end Sys2Proof.Machine
end

