-- ==== Sys2Proof/Machine/Section.lean ====
section
/-! DEFINITION. Section states, joining and leaving, the axis level, and Bellows pulses (R23, R29, R57–R61, R74,
R132–R136, R156, R157). -/

namespace Sys2Proof.Machine
open Obj

/-! ### The axis level (R156, R157) -/

/-- Causes of the axis level. -/
def lvCount : Nat := 1
def lvCompensator : Nat := 2
def lvTension : Nat := 4
def lvEncoder : Nat := 8
def lvMaster : Nat := 16
def lvFollow : Nat := 32

/-- A stop of the profile is asked, with a deceleration in Q16.16 units; the greater of two governs (R230). -/
def State.requestStop (s : State) (a : Fin 4) (dec : Nat) : State :=
  s.modAx a (fun x => { x with stopping := true, stopDec := if x.stopping then max x.stopDec dec else dec, gear := { x.gear with ask := false } })

/-- Tongs takes the axis (SS1 of A_FAULT_REACTION 2, Crash-stop, Hold): from the next profile update on the profile follows
the measured speed (R230). -/
def State.followStop (s : State) (a : Fin 4) : State :=
  s.modAx a (fun x => { x with followAsk := true, gear := { x.gear with ask := false } })

/-- The axis level is entered for a cause: A_FAULT_STATE reads 1 and a reaction is taken (R157); with code 2 Tongs finds the
SS1 request in A_FAULT_STATE. -/
def State.enterLevelBy (s : State) (a : Fin 4) (bit reaction : Nat) : State :=
  if (s.ax a).level &&& bit ≠ 0 then s
  else
    let s := (s.modAx a (fun x => { x with level := x.level ||| bit, reactIn := reaction })).set (A_FAULT_STATE a) 1
    if reaction = 1 then
      (s.requestStop a (s.nat (A_DMAX a))).modAx a (fun x => { x with needDemand := true })
    else if reaction = 2 then s.followStop a
    else s

/-- The axis level is entered with the axis's own A_FAULT_REACTION (R157). -/
def State.enterLevel (s : State) (a : Fin 4) (bit : Nat) : State := s.enterLevelBy a bit (s.nat (A_FAULT_REACTION a))

/-- A cause of the axis level is gone; with none left A_FAULT_STATE reads 0. -/
def State.leaveLevel (s : State) (a : Fin 4) (bit : Nat) : State :=
  let s := s.modAx a (fun x => { x with level := x.level - (x.level &&& bit) })
  if (s.ax a).level = 0 then (s.set (A_FAULT_STATE a) 0).modAx a (fun x => { x with needDemand := false })
  else s.set (A_FAULT_STATE a) 1

/-- The counted sections of an axis are judged against A_MIN_SECTIONS (R156, R159), a local axis by this device, a cascade
axis by its host alone: the level is entered when the count drops from A_MIN_SECTIONS or more to less. -/
def State.checkAxis (s : State) (a : Fin 4) : State :=
  if !isHost s a then s
  else
    let n := countOf s (some a)
    let m := s.nat (A_MIN_SECTIONS a)
    let before := (s.ax a).lastCount
    let s := s.modAx a (fun x => { x with lastCount := n })
    if m ≤ n then (if (s.ax a).level &&& lvCount ≠ 0 then (s.jAxis a 0x02).leaveLevel a lvCount else s)
    else if m ≤ before then
      if onCascade s a then
        (s.journal 6 islFusion 0x02 (0x500B + 0x100 * a.val) (quenchData s none none (some a) 0 0)).modAx a
          (fun x => { x with reactDue := some (s.nat (A_FAULT_REACTION a)) })
      else (s.jAxis a 0x01).enterLevel a lvCount
    else s

/-- A_SECTIONS and A_CASCADE_SECTIONS follow the assignments and states (R29, R35). On an axis that is local only, of which R35
does not speak, A_CASCADE_SECTIONS reads 0: the model's choice (log entry 83). -/
def State.countsOf (s : State) (a : Fin 4) : State :=
  let s := s.set (A_SECTIONS a) ((secsOf s a).foldl (fun m x => m + 2 ^ x.val) 0 : Nat)
  s.set (A_CASCADE_SECTIONS a) (if onCascade s a then cascadeSections s a else 0 : Nat)

/-- The counts of every axis, then the axis level of every axis. -/
def State.recount (s : State) : State :=
  s.each allAxes (fun a s => (s.countsOf a).checkAxis a)

/-! ### Section states -/

/-- The state of a section changes (R23): the step reads 0xFF in states 0 and 4, the fusion state follows R74. -/
def State.setSecState (s : State) (x : Fin 6) (v : Nat) : State :=
  let old := s.nat (S_STATE x)
  let s := s.set (S_STATE x) v
  let s := if v = 3 then s else s.set (S_DEG_PHASE x) 0xFF
  let s := if v = 0 ∨ v = 4 then
      ((s.set (S_STEP x) 0xFF).set (S_FUS_STATE x) 0).modSec x (fun c =>
        { c with placed := none, lockAt := none, lockLimit := false, ramp := none, join := .none, offDue := false,
                 degDue := none, precharge := none })
    else if old = 0 then
      (s.set (S_FUS_STATE x) 1).modSec x (fun c => { c with agree := 0, disagree := 0 })
    else s
  if v = 0 ∧ s.nat (S_LOCK_ACTION x) = 2 then s.set (S_LOCK_STATE x) 0 else s

/-- Entering a step (R41, R43, R55, R56, R65, R66): counted, the lock window restarts, the comparator restarts, and
the switches take the pattern of the new step inside the running on-time (R109); where that makes a latched half-bridge the
chopped one, the sample of the period is absent (R110). -/
def State.enterStep (s : State) (x : Fin 6) (k : Nat) : State :=
  let old := legsOf (s.nat (S_STEP x)) (s.nat (S_DEG_PHASE x)) (s.sec x).pos
  let float := (phases.find? (fun p => decide (legOf k (s.nat (S_DEG_PHASE x)) (s.sec x).pos p = .float))).getD 0
  let clampHigh := match old with
    | some o => decide (o.2 = float)
    | none => false
  let s := (s.set (S_STEP x) k).inc (S_COMM_COUNT x)
  let s := if s.nat (S_LOCK_ACTION x) = 2 then s else s.set (S_LOCK_STATE x) 0
  let th : Rat := match axisOf s x with
    | some a => thetaX s x a
    | none => 0
  let s := s.modSec x (fun c =>
    { c with
      placed := none, lockLimit := false, lockAt := c.lockAt.map (fun _ => s.now),
      bemf := { c.bemf with cmp := Vector.replicate 3 PhaseCmp.reset, stepAt := s.now, stepAng := th, leftRail := false,
                            clampHigh := clampHigh } })
  let s := s.drive x
  let s := if (chopped s x).any (fun q => latched s q.1) then
      s.modPwm x (fun p => { p with absent := p.absent || p.onTime }) else s
  match (s.sec x).pwm.relPending, chopped s x with
  | some _, some q => s.modPwm x (fun p => { p with relPending := some q })
  | _, _ => s

/-! ### Joining and leaving (R57, R58, R561) -/

/-- A refresh is no longer active. -/
def State.refreshDone (s : State) (n : Fin 18) : State :=
  let s := s.set S_BLW_ACTIVE (max 0 (s.get S_BLW_ACTIVE - 1))
  s.modHb n (fun h => { h with refresh := .idle, refreshPre := false })

/-- What waits on half-bridge n is over: its refresh, a turn-on not yet released, and the release that its period waits for,
which leaves the sample absent and is not late (R110, R135, R148, R257). -/
def State.endWaits (s : State) (n : Fin 18) : State :=
  let s := if (s.hb n).refresh = .idle then s else s.refreshDone n
  (s.modHb n (fun h => { h with wait := none })).modPwm (secOf n) (fun p =>
    { p with relPending := p.relPending.filter (fun q => decide (q.1 ≠ n)),
             absent := p.absent || p.relPending.any (fun q => decide (q.1 = n)) })

/-- A precharge pulse of half-bridge n that has not been released is withdrawn (R57). -/
def State.dropPulse (s : State) (n : Fin 18) : State :=
  if (s.hb n).refresh = .lowCommanded ∧ (s.hb n).refreshPre then (s.cancelOn n false).refreshDone n else s

/-- A join fails or is abandoned: S_ENABLE is left at 0, the state returns to 0 and 0x35 is journalled (R57, R561). A
precharge pulse already released completes (R136). The entry shows the step after the event, 0xFF (R62; the model's choice,
log entry 84). -/
def State.joinFail (s : State) (x : Fin 6) : State :=
  let s := s.set (S_ENABLE x) 0
  let s := if s.nat (S_STATE x) = 0 then
      (s.each phases (fun p s => s.dropPulse (hbOf x p))).modSec x (fun c =>
        { c with join := .none, precharge := none, ramp := none })
    else (s.allOff x).setSecState x 0
  (s.jSeq x 0x35).recount

/-- Step 1 of a join: all three status pins at level 0, no Quench latch (R57), and no device fault, whose reaction stays in
force until it is cleared (R156, R158). -/
def joinReady (s : State) (x : Fin 6) : Bool :=
  phases.all (fun p => decide (s.nat (S_HSS_LEVEL (hbOf x p)) = 0)) && decide (s.nat (S_Q_LATCH x) = 0) &&
    decide (s.nat S_DEV_FAULT = 0)

/-- A write of 1 to S_ENABLE (R36, R57, R58, R522, R561): an unassigned section, a section in state 4, one held for repair or
one of an axis refused into its cascade axis leaves S_ENABLE at 0; in state 0 the join starts with step 1; during a leave ramp
the share ramps back up, without the failure of step 5 where the leave began in state 1 (the model's choice, log entry 84). -/
def State.enableOne (s : State) (x : Fin 6) : State :=
  let st := s.nat (S_STATE x)
  if (axisOf s x).isNone || decide (st = 4) then s.set (S_ENABLE x) 0
  else if st = 0 then
    if s.flag (S_SERVICE x) || (axisOf s x).any (polesRefused s) then s.set (S_ENABLE x) 0
    else if (s.sec x).join ≠ .none then s.set (S_ENABLE x) 1
    else if joinReady s x then (s.set (S_ENABLE x) 1).modSec x (fun c => { c with join := .angle })
    else s.joinFail x
  else
    let lam := shareFraction s x
    match (s.sec x).ramp with
    | some r =>
      if r.up then s.set (S_ENABLE x) 1
      else (s.set (S_ENABLE x) 1).modSec x (fun c => { c with ramp := some ⟨true, lam, s.now⟩, offDue := false })
    | none => s.set (S_ENABLE x) 1

/-- A write of 0 to S_ENABLE (R57, R58): a waiting join is abandoned, also one that waits for the boundary of step 4, of which
R57 does not speak (the model's choice, log entry 84); a running section ramps its share to 0. -/
def State.enableZero (s : State) (x : Fin 6) : State :=
  let st := s.nat (S_STATE x)
  if st = 0 then (if (s.sec x).join ≠ .none then s.joinFail x else s.set (S_ENABLE x) 0)
  else if st = 4 then s.set (S_ENABLE x) 0
  else
    let lam := shareFraction s x
    let s := s.set (S_ENABLE x) 0
    match (s.sec x).ramp with
    | some r => if r.up then s.modSec x (fun c => { c with ramp := some ⟨false, lam, s.now⟩, join := .none }) else s
    | none => s.modSec x (fun c => { c with ramp := some ⟨false, lam, s.now⟩, join := .none })

/-! ### Bellows pulses (R133, R134, R136) -/

/-- Room for one more active refresh (R134). -/
def coinRoom (s : State) : Bool := decide (s.nat S_BLW_ACTIVE < s.nat S_BLW_MAX_COIN)

/-- A refresh becomes active and is counted (R134). A low switch that is already on needs no release: its pulse runs from here
(R133 gives no other instant; log entry 85). -/
def State.refreshBegin (s : State) (n : Fin 18) (pre : Bool) : State :=
  let s := (s.addCount S_BLW_ACTIVE 1).inc (S_BLW_COUNT n)
  let s := s.modHb n (fun h => { h with refresh := if h.lo.on then .pulse s.now else .lowCommanded, refreshPre := pre })
  s.commandOn n false

/-- The next pulse of the precharge of section x is commanded when its time has come and room is left (R134, R136). -/
def State.prechargePulse (s : State) (x : Fin 6) : State :=
  match (s.sec x).precharge with
  | some p =>
    if h : p.phase < 3 then
      let due := match p.lastOff with
        | some t => decide (t + us 2 ≤ s.now)
        | none => true
      let n := hbOf x ⟨p.phase, h⟩
      if !p.active && decide (0 < p.left) && due && coinRoom s && gateReady s n then
        (s.modSec x (fun c => { c with precharge := some { p with active := true } })).refreshBegin n true
      else s
    else s
  | none => s

/-- A pin that does not meet the expected level as the precharge starts is timed by R121 (R136). -/
def State.watchLevel (s : State) (n : Fin 18) : State :=
  if s.nat (S_HSS_LEVEL n) ≠ expectedLevel (s.hb n) ∧ (s.hb n).expects = [] then
    s.modHb n (fun h => { h with expects := [(expectedLevel h, s.now)] })
  else s

/-- The precharge of a section starts with its first pulse (R57, R136). -/
def State.startPrecharge (s : State) (x : Fin 6) : State :=
  ((s.each phases (fun p s => s.watchLevel (hbOf x p))).modSec x (fun c =>
    { c with join := .precharge, precharge := some ⟨0, s.nat (S_BLW_PRE_N x), false, none⟩ })).prechargePulse x

/-- A precharge pulse of half-bridge n has ended: the next one, or the next half-bridge, is in turn (R136). -/
def State.prechargeNext (s : State) (n : Fin 18) : State :=
  let x := secOf n
  s.modSec x (fun c => { c with precharge := c.precharge.map (fun p =>
    if p.left ≤ 1 then ⟨p.phase + 1, if p.phase + 1 < 3 then s.nat (S_BLW_PRE_N x) else 0, false, some s.now⟩
    else ⟨p.phase, p.left - 1, false, some s.now⟩) })

end Sys2Proof.Machine
end

