-- ==== Sys2Proof/Machine/Quench.lean ====
section
/-! DEFINITION. The Quench reaction and its escalation from half-bridge to device (R142–R159). -/

namespace Sys2Proof.Machine
open Obj

/-- The Anvil strength-code bound applied to a code (R130, R148). -/
def anvilCode (s : State) (c : Nat) : Nat :=
  max (s.nat SF_ANV_CODE_LO_IN) (min c (s.nat SF_ANV_CODE_HI_IN))

/-- Both switches of half-bridge n are turned off by Quench: a desaturated switch with the soft code, the other with
its Temper code; waits, the timeout and a refresh end (R110, R126, R135, R148). -/
def State.quenchHb (s : State) (n : Fin 18) (cause : Nat) : State :=
  let soft := anvilCode s (s.nat (S_Q_SOFT_CODE (secOf n)))
  let codeH := if cause &&& causeDesatHigh ≠ 0 then soft else s.nat (codeKey n 1)
  let codeL := if cause &&& causeDesatLow ≠ 0 then soft else s.nat (codeKey n 3)
  let chops := (chopped s (secOf n)).any (fun q => decide (q.1 = n))
  let s := (((s.endWaits n).issueOff n true codeH false).issueOff n false codeL false).modHb n (fun h => { h with expects := [] })
  s.modPwm (secOf n) (fun p => { p with absent := p.absent || (chops && p.onTime) })

/-- Half-bridge n has tripped in this base tick already (R150). -/
def trippedNow (s : State) (n : Fin 18) : Bool := decide ((s.hb n).tripAt = some s.tick)

/-- A trip on half-bridge n: quenched, latched with its cause, counted (R145, R148); a further cause of the same tick sets
its bit alone (R150). -/
def State.tripHb (s : State) (n : Fin 18) (cause : Nat) : State :=
  let x := secOf n
  let again := trippedNow s n
  let s := s.quenchHb n cause
  let s := (s.orBits (S_Q_LATCH x) (2 ^ (phaseOf n).val)).orBits (S_Q_CAUSE n) cause
  if again then s
  else ((s.modHb n (fun h => { h with tripAt := some s.tick })).inc (S_Q_COUNT n)).inc (S_Q_TRIPS x)

/-- The part of its policy weight that section x carries: its share fraction, at the degraded rating in state 3 (R61, R197). -/
def weightPart (s : State) (x : Fin 6) : Rat :=
  shareFraction s x * (if s.nat (S_STATE x) = 3 then (s.get (S_DEG_RATING x) : Rat) / 100 else 1)

/-- Isolation of a section without its entry: every half-bridge quenched, state 4, S_ENABLE 0 (R149); what it carries stays
until its next boundary (R151). -/
def State.isolateQuiet (s : State) (x : Fin 6) : State :=
  let s := if s.nat (S_STATE x) = 4 then s else s.modSec x (fun c => { c with isoPart := if c.sharing then weightPart s x else 0 })
  let s := s.each phases (fun p s => s.quenchHb (hbOf x p) 0)
  (s.set (S_ENABLE x) 0).setSecState x 4

/-- Isolation of a section with one class 0x3 entry (R149). -/
def State.isolateCore (s : State) (isl : Nat) (x : Fin 6) (detail : Nat) : State :=
  let before := s.nat (S_STATE x)
  (s.isolateQuiet x).jSectionAt isl 3 detail (0x200C + 0x100 * x.val) x none before

/-- A device fault: all half-bridges quenched, every running section isolated, a join under way failed, the cause bit set
(R57, R158). A VPD fault that itself isolates S_DEV_ISO_LIMIT sections or more sets bit 0 alone, with no entry 0x5, 0x02: the
model's choice (log entry 87). -/
def State.deviceFault (s : State) (bit detail : Nat) : State :=
  let s := s.each allHbs (fun n s => s.quenchHb n 0)
  let s := s.each allSecs (fun x s =>
    if 1 ≤ s.nat (S_STATE x) ∧ s.nat (S_STATE x) ≤ 3 then s.isolateCore x.val x 0x01
    else if s.nat (S_STATE x) = 0 ∧ (s.sec x).join ≠ .none then s.joinFail x
    else s)
  ((s.orBits S_DEV_FAULT bit).jDevice detail).recount

/-- The device level: sections in state 4 reach S_DEV_ISO_LIMIT (R156, R158). -/
def State.checkDevice (s : State) : State :=
  if s.nat S_DEV_ISO_LIMIT ≤ isolatedCount s ∧ s.nat S_DEV_FAULT &&& 2 = 0 then s.deviceFault 2 0x02 else s

/-- Isolation, journalled under a source island, and what climbs from it (R149, R151, R156). -/
def State.isolateAt (s : State) (isl : Nat) (x : Fin 6) (detail : Nat) : State :=
  if s.nat (S_STATE x) = 4 then s else ((s.isolateCore isl x detail).recount).checkDevice

/-- Isolation under the section's own island. -/
def State.isolate (s : State) (x : Fin 6) (detail : Nat) : State := s.isolateAt x.val x detail

/-- Section x is isolated by an island fault or at holdover expiry, and R154 refuses its clear (R449). -/
def State.isolateOne (s : State) (x : Fin 6) (isl detail src island : Nat) : State :=
  let s := s.modSec x (fun c => { c with islandHeld := true })
  if s.nat (S_STATE x) = 4 then s
  else (((s.isolateQuiet x).recount).jClock 3 isl detail src island 0 0).set (S_Q_LAST x) (faultCode 3 isl detail)

/-- The sections of a list are isolated so, each with its own entry, and R156 then decides the device level (R449, R450). -/
def State.isolateHeld (s : State) (l : List (Fin 6)) (isl detail src island : Nat) : State :=
  (s.each l (fun x s => s.isolateOne x isl detail src island)).checkDevice

/-- FW_UPD_STATE as it reads: 1 from the staging of FW_ACTIVATE until T (R526; log entry 64). -/
def updState (s : State) : Nat :=
  let n := s.nat FW_UPD_STATE
  if 2 ≤ n ∧ n ≤ 4 then n
  else if s.txs.any (fun t => decide (1 ≤ t.st ∧ t.st ≤ 3) && !t.applied && t.staged.any (fun w => decide (w.1 = FW_ACTIVATE))) then 1
  else n

/-- A boot, update or self-test entry (R525). -/
def State.jFw (s : State) (cls isl detail src bank row island version value n : Nat) : State :=
  s.journal cls isl detail src
    (le 1 bank ++ le 1 (updState s) ++ le 1 row ++ le 1 island ++ le 4 version ++ le 4 value ++ le 2 n ++ zeros 4)

/-- A check of R520 fails on an ADC of section x: counted, journalled, and the outcome of an island fault (R521). -/
def State.selfTestFail (s : State) (x : Fin 6) (check island value : Nat) : State :=
  ((s.inc FW_ST_FAILS).jFw 5 islSelfTest 0x82 0x1703 0xFF check island 0 value 0).isolateHeld [x] islSelfTest 0x06 0x1120 island

/-- The conditions of R59 for a degraded entry of a section in state 1 or 2. A degraded entry that another section awaits counts
against SF_ANV_DEG_MAX like a section in state 3: R59 counts sections in state 3, and R149 decides at the trip (the model's
choice, log entry 87). -/
def mayDegrade (s : State) (x : Fin 6) : Bool :=
  s.flag (S_DEGRADE_EN x) && decide (s.nat (S_STATE x) = 1 ∨ s.nat (S_STATE x) = 2) &&
    decide ((allSecs.filter (fun y => decide (y ≠ x) && (decide (s.nat (S_STATE y) = 3) || (s.sec y).degDue.isSome))).length + 1 ≤
      s.nat SF_ANV_DEG_MAX_IN)

/-- The section outcome at a trip that covers k half-bridges of section x, the phase p among them (R149). In state 0 a join that
waits fails, of which R149 does not speak outside the precharge: the model's choice (log entry 87). -/
def State.sectionOutcome (s : State) (x : Fin 6) (k : Nat) (p : Fin 3) (detail : Nat) : State :=
  let st := s.nat (S_STATE x)
  if st = 0 then (if (s.sec x).join ≠ .none then s.joinFail x else s)
  else if st = 4 then s
  else if 2 ≤ k then s.isolate x detail
  else if st = 3 ∨ (s.sec x).degDue.isSome then s.isolate x detail
  else if mayDegrade s x then s.modSec x (fun c => { c with degDue := some p.val })
  else s.isolate x detail

/-- Journal detail of a class 0x2 trip (R143). -/
def causeDetail (cause : Nat) : Nat :=
  if cause &&& causeDesatHigh ≠ 0 then 0x03 else if cause &&& causeDesatLow ≠ 0 then 0x04
  else if cause &&& causeOcPos ≠ 0 then 0x01 else if cause &&& causeOcNeg ≠ 0 then 0x02
  else if cause &&& causeTimeout ≠ 0 then 0x06 else 0x05

/-- Half-bridges of section x trip with a cause each: latched, journalled one class 0x2 entry each, and the section
outcome follows (R145, R149); causes of one tick on one half-bridge are one trip (R150). The entries show the pair commanded
before the trip and the states after its outcome (R144). -/
def State.trip (s : State) (x : Fin 6) (l : List (Fin 3 × Nat)) : State :=
  let before := s
  let fresh := l.filter (fun pc => !trippedNow s (hbOf x pc.1))
  let s := s.each l (fun pc s => s.tripHb (hbOf x pc.1) pc.2)
  match fresh with
  | [] => s
  | (p0, _) :: _ =>
    let after := s.sectionOutcome x l.length p0 0x01
    let s := s.each fresh (fun pc s =>
      let n := hbOf x pc.1
      s.jSecData x.val 2 (causeDetail pc.2) (0x2008 + 0x100 * x.val + pc.1.val) x
        (quenchData after (some x) (some n) (axisOf after x) (before.nat (S_STATE x)) (expectedLevel (before.hb n))))
    s.sectionOutcome x l.length p0 0x01

/-- DC-link overvoltage of section x: all three half-bridges trip; detail 0x3, 0x02 once (R149, R152). -/
def State.tripOvervoltage (s : State) (x : Fin 6) : State :=
  let st := s.nat (S_STATE x)
  let s := s.each phases (fun p s => s.tripHb (hbOf x p) causeDcOv)
  if st = 0 ∨ st = 4 then
    let s := s.jSection 3 0x02 (0x200C + 0x100 * x.val) x none st
    if (s.sec x).join ≠ .none then s.joinFail x else s
  else s.isolate x 0x02

/-- VPD below its monitor threshold: all 18 half-bridges trip and the device fault follows (R145, R158). -/
def State.tripVpd (s : State) : State :=
  (s.each allHbs (fun n s => s.tripHb n causeVpd)).deviceFault 1 0x01

/-! ### Clearing (R154, R155, R158) -/

/-- |current| lies beyond ±Ioc of section x: S_OC_LIMIT thousandths of the Anvil section limit (R145). -/
def beyondIoc (s : State) (x : Fin 6) (i : Int) : Bool :=
  decide ((s.nat (S_OC_LIMIT x) * anvilI s x : Nat) < i.natAbs * 1000)

/-- Level 0 has been accepted on n for a time in µs. -/
def levelZeroFor (s : State) (n : Fin 18) (t : Nat) : Bool :=
  decide (s.nat (S_HSS_LEVEL n) = 0) && decide ((s.hb n).lvlAt + us t ≤ s.now)

/-- The live compare of section x is the sink of a slot whose logical lane has no physical lane (R185). -/
def compensatorLost (s : State) (x : Fin 6) : Bool :=
  (List.range 48).any (fun k => decide (s.nat (K_SINK k) = 0x1000 + x.val) &&
    decide (s.nat (K_LANE_MAP (k / 8)) = 0xFF))

/-- No cause is present for a clear of section x (R154, R185, R449). -/
def noCause (s : State) (x : Fin 6) : Bool :=
  phases.all (fun p => !latched s (hbOf x p) || levelZeroFor s (hbOf x p) 1) &&
  decide (s.nat (S_DC_LINK x) < s.nat (S_BRK_OFF x)) &&
  phases.all (fun p => !beyondIoc s x (s.hb (hbOf x p)).cur) &&
  decide (s.nat S_DEV_FAULT = 0) && !(s.sec x).islandHeld && !compensatorLost s x

/-- The four Temper codes take S_TMP_INIT, clipped with its entry where that lies outside the Anvil codes (R131, R154, R282,
R283). -/
def State.initCodes (s : State) (n : Fin 18) : State :=
  s.each [0, 1, 2, 3] (fun k s =>
    let v := s.get (S_TMP_INIT (secOf n))
    let c : Int := anvilCode s v.toNat
    let s := s.set (codeKey n k) c
    if c = v then s
    else s.jClip (secOf n).val 0x03 (codeKey n k) 0xFF v c (if v < c then SF_ANV_CODE_LO_IN else SF_ANV_CODE_HI_IN))

/-- A section in state 4 moves to state 0; its boosters may have been replaced, so every code takes S_TMP_INIT
(R131, R154). -/
def State.leaveIsolated (s : State) (x : Fin 6) : State :=
  if s.nat (S_STATE x) = 4 then (s.each phases (fun p s => s.initCodes (hbOf x p))).setSecState x 0 else s

/-- S_Q_CLEAR written 1 (R154). -/
def State.clearSection (s : State) (x : Fin 6) : State :=
  let st := s.nat (S_STATE x)
  let src := 0x200C + 0x100 * x.val
  if (st = 0 ∨ st = 4) ∧ noCause s x then
    let s := s.each phases (fun p s =>
      let n := hbOf x p
      let s := if latched s n then s.initCodes n else s
      s.set (S_Q_CAUSE n) 0)
    let s := (s.set (S_Q_LATCH x) 0).leaveIsolated x
    s.jSection 3 0x03 src x none st
  else s.jSection 3 0x04 src x none st

/-- A UVLO-only latch clears by itself (R155). -/
def State.autoClear (s : State) (n : Fin 18) : State :=
  let x := secOf n
  if s.flag (S_UV_AUTOCLEAR x) ∧ latched s n ∧ s.nat (S_Q_CAUSE n) = causeUvlo ∧ levelZeroFor s n 1000 then
    let st := s.nat (S_STATE x)
    let s := (s.clearBits (S_Q_LATCH x) (2 ^ (phaseOf n).val)).set (S_Q_CAUSE n) 0
    let s := if s.nat (S_Q_LATCH x) = 0 ∧ !(s.sec x).islandHeld then s.leaveIsolated x else s
    s.jSection 2 0x07 (0x2008 + 0x100 * x.val + (phaseOf n).val) x (some n) st
  else s

/-- S_DEV_CLEAR written 1 (R158): it succeeds when VPD is good and fewer than S_DEV_ISO_LIMIT sections would remain in
state 4. -/
def State.clearDevice (s : State) : State :=
  let only7 (x : Fin 6) : Bool :=
    phases.all (fun p => !latched s (hbOf x p) || decide (s.nat (S_Q_CAUSE (hbOf x p)) &&& 0x7F = 0))
  let remain := (allSecs.filter (fun (x : Fin 6) => decide (s.nat (S_STATE x) = 4) && !(only7 x && !(s.sec x).islandHeld))).length
  if bitOf (s.nat PW_RAIL_STATUS) 5 = false ∧ remain < s.nat S_DEV_ISO_LIMIT then
    let s := s.set S_DEV_FAULT 0
    let s := s.each allHbs (fun n s =>
      let s := s.clearBits (S_Q_CAUSE n) causeVpd
      if s.nat (S_Q_CAUSE n) = 0 then s.clearBits (S_Q_LATCH (secOf n)) (2 ^ (phaseOf n).val) else s)
    let s := s.each allSecs (fun x s =>
      if s.nat (S_Q_LATCH x) = 0 ∧ !(s.sec x).islandHeld then s.leaveIsolated x else s)
    (s.jDevice 0x03).recount
  else s

end Sys2Proof.Machine
end

