-- ==== Sys2Proof/Machine/Share.lean ====
section
/-! DEFINITION. Load share on the device: weights, the torque in force, and the section current references
(R195–R200), and what a meaning answers with. -/

namespace Sys2Proof.Machine
open Obj

/-! ### Weights (R197) -/

/-- The derate factor d_x of policy 2, held within m to 1; m while S_TEMP is stale (R197). -/
def derate (s : State) (a : Fin 4) (x : Fin 6) : Rat :=
  let m : Rat := (s.get (A_DERATE_MIN a) : Rat) / 100
  if s.flag (S_TEMP_STALE x) then m
  else
    let t0 : Rat := s.get (A_DERATE_T0 a)
    let t1 : Rat := s.get (A_DERATE_T1 a)
    clampR m 1 (1 - (1 - m) * (s.get (S_TEMP x) - t0) / (t1 - t0))

/-- The weight that the sharing policy gives section x, the degraded rating apart (R197). -/
def policyWeight (s : State) (a : Fin 4) (x : Fin 6) : Rat :=
  match s.nat (A_SHARE_POLICY a) with
  | 0 => 1000
  | 1 => s.get (S_RATING x)
  | _ => (s.get (S_RATING x) : Rat) * derate s a x

/-- w_x = base_x · λ_x, with the degraded rating of R61 in state 3; an isolated section keeps what it carried until its next
boundary (R151, R197). -/
def weight (s : State) (a : Fin 4) (x : Fin 6) : Rat :=
  policyWeight s a x * (if s.nat (S_STATE x) = 4 then (s.sec x).isoPart else weightPart s x)

/-- The sections of axis a that carry share since their last boundary (R151, R197). -/
def sharers (s : State) (a : Fin 4) : List (Fin 6) := (secsOf s a).filter (fun x => (s.sec x).sharing)

/-- W and wmax of the device (R196, R197). -/
def weightSum (s : State) (a : Fin 4) : Rat := ((sharers s a).map (weight s a)).sum

def weightMax (s : State) (a : Fin 4) : Rat := ((sharers s a).map (weight s a)).foldl max 0

/-- σ_x (R197). -/
def share (s : State) (a : Fin 4) (x : Fin 6) : Rat :=
  if (s.sec x).sharing then weight s a x / weightSum s a else 0

/-! ### Torque in force (R196, R199, R493) -/

/-- h as it stands on the device that leads the axis: A_HEADROOM · 0.001, 0 while the snatch detector is active, in End hold
or in Crash-stop (R196, R206, R493). -/
def headroomNow (s : State) (a : Fin 4) : Rat :=
  if bitOf (s.nat (A_EMERG_STATE a)) 0 || (s.ax a).snatchActive || decide (s.nat (A_RENDER_STATE a) = 4) then 0
  else (s.get (A_HEADROOM a) : Rat) / 1000

/-- h that the sections of this device keep to: on a cascade axis the host's of the last cycle, which the host too applies
from the start of the next (R199); 0 in Crash-stop (R493). -/
def headroom (s : State) (a : Fin 4) : Rat :=
  if onCascade s a then (if bitOf (s.nat (A_EMERG_STATE a)) 0 then 0 else ((s.ax a).hostH : Rat) / 1000) else headroomNow s a

/-- h of which A_TLIM is formed: a contributing device takes the host's as its own (R196, R199). -/
def headroomLim (s : State) (a : Fin 4) : Rat := if isHost s a then headroomNow s a else headroom s a

/-- f of Derate: PW_DERATE_TORQUE / 100 while PW_STATE is 1 (R457). -/
def derateF (s : State) : Rat := if s.nat PW_STATE = 1 then (s.get PW_DERATE_TORQUE : Rat) / 100 else 1

/-- The factor of Limp and of Derate on the torque limits (R457, R493, R499). -/
def limitFactor (s : State) (a : Fin 4) : Rat :=
  let l : Rat := if bitOf (s.nat (A_EMERG_STATE a)) 1 then (s.get (A_LIMP_TORQUE a) : Rat) / 100 else 1
  l * derateF s

/-- The torque the sections of this device carry, in parts of the Anvil section limit: A_TORQUE_CMD, on the host of a cascade
axis T_d; on a cascade axis limited to (1 − h)·W_d/wmax,d of the sections counted now (R196, R199). -/
def torqueHere (s : State) (a : Fin 4) : Rat :=
  if onCascade s a then
    let t : Rat := (s.get (if isHost s a then A_DEV_TORQUE a else A_TORQUE_CMD a) : Rat) / 65536
    let wm := weightMax s a
    let l := if wm = 0 then 0 else (1 - headroom s a) * weightSum s a / wm * limitFactor s a
    clampR (-l) l t
  else (s.get (A_TORQUE_CMD a) : Rat) / 65536

/-! ### Section references (R198) -/

/-- The current of the start stages in parts of the Anvil limit: in Align a linear rise over the first 20 % of
A_ALIGN_TIME, positive; in Ramp and Confirm A_RAMP_CURRENT with the sign of the ramp direction (R81, R82, R194). -/
def startRef (s : State) (a : Fin 4) : Rat :=
  if stage s a = 1 then
    let full := startObj s a (A_ALIGN_CURRENT a) (·.alignCurrent) / 100
    full * min 1 (stageSeconds s a * 1000 / (startObj s a (A_ALIGN_TIME a) (·.alignTime) / 5))
  else startObj s a (A_RAMP_CURRENT a) (·.rampCurrent) / 100 * (s.ax a).start.dir

/-- Σt over the counted sections (R198). -/
def trimSum (s : State) (a : Fin 4) : Rat :=
  ((sharers s a).map (fun x => (((s.ax a).trims.get x : Int) : Rat) / 2147483648)).sum

/-- r_x before the limit of a locked rotor (R194, R198); in Derate its bound is (1 − h)·f (R457). At T = 0 with a positive
centred trim it is 0, 0 having no sign: the model's choice (log entry 101). -/
def refOf (s : State) (a : Fin 4) (x : Fin 6) : Rat :=
  if !(s.sec x).sharing then 0
  else match s.nat (A_TORQUE_SRC a) with
    | 0 => 0
    | 1 => startRef s a
    | _ =>
      let t := torqueHere s a
      let trim := (((s.ax a).trims.get x : Int) : Rat) / 2147483648 - share s a x * trimSum s a
      (sgnR t : Rat) * clampR 0 ((1 - headroom s a) * derateF s) (absR t * share s a x + trim)

/-- r_x: with S_LOCK_ACTION 1 in force, |r_x| stays within S_LOCK_LIMIT (R56). -/
def refLimited (s : State) (a : Fin 4) (x : Fin 6) : Rat :=
  let r := refOf s a x
  if (s.sec x).lockLimit then
    let l : Rat := (s.get (S_LOCK_LIMIT x) : Rat) / 100
    clampR (-l) l r
  else r

/-- The references of every section of axis a are formed (R198). -/
def State.reshare (s : State) (a : Fin 4) : State :=
  (secsOf s a).foldl (fun s x => s.modSec x (fun c => { c with ref := refLimited s a x })) s

/-! ### The end of every command -/

/-- A render state of 2, 3 or 4 (R493). -/
def rendering (s : State) (a : Fin 4) : Bool := decide (2 ≤ s.nat (A_RENDER_STATE a)) && decide (s.nat (A_RENDER_STATE a) ≤ 4)

/-- Bit 3 of A_EMERG_STATE shows the render state (R493). -/
def State.renderBit (s : State) (a : Fin 4) : State :=
  let e := s.nat (A_EMERG_STATE a) % 8
  s.set (A_EMERG_STATE a) (if rendering s a then e + 8 else e : Nat)

/-- A_SECTIONS, A_CASCADE_SECTIONS and bit 3 of A_EMERG_STATE always show the assignments and states in force (R29, R35,
R493). -/
def State.settle (s : State) : State := s.each allAxes (fun a s => (s.countsOf a).renderBit a)

/-- The outcome of a command: every command of this block has a next state. -/
abbrev Res := Host.Outcome State Fault Refusal

/-- What a meaning answers with. -/
def done (s : State) : Res := .next s.settle

/-- An island runs: IS_STATE 0, and no fault of its memory or domain has stopped it (R448, R449, R468, R469). -/
def runs (s : State) (isl : Nat) : Bool := decide (s.nat (IS_STATE isl) = 0) && decide (isl ∉ s.power.stopped)

/-- A happening on an island: it has its effect while the island runs, and none otherwise. -/
def runOn (isl : Nat) (s : State) (f : State → State) : Res := done (if runs s isl then f s else s)

/-- A happening of a unit of several islands: it has its effect unless the unit is powered down (IS_STATE 3). -/
def runPowered (isl : Nat) (s : State) (f : State → State) : Res := done (if s.nat (IS_STATE isl) = 3 then s else f s)

end Sys2Proof.Machine
end

