-- ==== Sys2Proof/Machine/Commutation.lean ====
section
/-! DEFINITION. The commands of the six-step sequencer, the locked rotor, and joining and leaving (R38–R62, R561). -/

namespace Sys2Proof.Machine
open Obj


/-! ### The sequencer (R38–R42, R47, R51, R55) -/

/-- Breakpoint and angle i of the advance table. -/
def advPoint (s : State) (x : Fin 6) (i : Nat) : Int × Int := (s.get (S_ADV_SPEED x i), s.get (S_ADV_ANGLE x i))

/-- The phase advance θadv at |fe|, truncated to 0.01° (R47). -/
def advance (s : State) (x : Fin 6) (f : Rat) : Int :=
  let below := (List.range 16).filter (fun i => decide (((advPoint s x i).1 : Rat) ≤ f))
  match below.getLast? with
  | none => (advPoint s x 0).2
  | some i =>
    if i = 15 then (advPoint s x 15).2
    else
      let p := advPoint s x i
      let q := advPoint s x (i + 1)
      ((p.2 : Rat) + ((q.2 - p.2 : Int) : Rat) * (f - p.1) / ((q.1 - p.1 : Int) : Rat)).floor

/-- The advance in force: forced to 0 in Align, Ramp and Confirm (R81, R82, R225). -/
def advanceNow (s : State) (x : Fin 6) (a : Fin 4) : Int :=
  let st := stage s a
  if (sequenced s a ∨ (s.ax a).start.refPhase ≠ 0) ∧ 1 ≤ st ∧ st ≤ 3 then 0 else advance s x (absR (feOf s a))

/-- The commutation angle θc (R38). -/
def thetaCNow (s : State) (x : Fin 6) (a : Fin 4) : Rat :=
  modAng (thetaX s x a + s.get (S_EOFFSET x) + (s.get (A_DIR a) * advanceNow s x a : Int))

/-- The step that θc gives in the section's state (R39, R60). -/
def targetStep (s : State) (x : Fin 6) (theta : Rat) : Nat :=
  if s.nat (S_STATE x) = 3 then degWindow theta (s.nat (S_DEG_PHASE x)) (s.nat (S_DEG_WIDTH x)) else stepAt theta

/-- θc lies outside the step in force by more than S_COMM_HYST (R41, R60). -/
def pastBoundary (s : State) (x : Fin 6) (theta : Rat) : Bool :=
  let h : Rat := s.get (S_COMM_HYST x)
  let cur := s.nat (S_STEP x)
  let w : Rat := s.get (S_DEG_WIDTH x)
  let c := degCentre (s.nat (S_DEG_PHASE x))
  let off (centre : Rat) (half : Rat) : Bool := decide (half + h < absR (wrapAng (theta - centre)))
  if cur < 6 then off (6000 + 6000 * cur : Nat) 3000
  else if cur = 6 then off c.1 (w / 2)
  else if cur = 7 then off c.2 (w / 2)
  else decide (absR (wrapAng (theta - c.1)) < w / 2 - h) || decide (absR (wrapAng (theta - c.2)) < w / 2 - h)

/-- The boundaries by which the step in force is left in the direction of travel, each with the step beyond it (R39, R60). -/
def exits (s : State) (x : Fin 6) (forward : Bool) : List (Rat × Nat) :=
  let cur := s.nat (S_STEP x)
  let lost := s.nat (S_DEG_PHASE x)
  let w := s.nat (S_DEG_WIDTH x)
  let half : Rat := (w : Rat) / 2
  let c := degCentre lost
  let out (centre : Nat) : Rat × Nat :=
    if forward then (centre + half, degWindow (centre + half + 1 / 2) lost w)
    else (centre - half, degWindow (centre - half - 1 / 2) lost w)
  let into (centre k : Nat) : Rat × Nat := (if forward then centre - half else centre + half, k)
  if cur < 6 then
    [if forward then (((9000 + 6000 * cur : Nat) : Rat), (cur + 1) % 6) else (((3000 + 6000 * cur : Nat) : Rat), (cur + 5) % 6)]
  else if cur = 6 then [out c.1]
  else if cur = 7 then [out c.2]
  else if cur = 0xFE then [into c.1 6, into c.2 7]
  else []

/-- Angle left to a boundary in the direction of travel; a boundary passed by no more than the hysteresis h is still ahead, by
a negative angle. -/
def toBoundary (theta h edge : Rat) (forward : Bool) : Rat :=
  (if forward then modAng (edge - theta + h) else modAng (theta - edge + h)) - h

/-- Rounded to the nearest base tick of 1.25 ns, in quarter-nanoseconds (R42). -/
def toTick (r : Rat) : Nat := 5 * ((r / 5 + 1 / 2).floor.toNat)

/-- The step change that R42 predicts from θc and fe: the step beyond the next boundary of the step in force, when θc passes
that boundary by S_COMM_HYST. -/
def predict (s : State) (x : Fin 6) (theta fe : Rat) : Option (Nat × Nat) :=
  let fwd := decide (0 < fe)
  let h : Rat := s.get (S_COMM_HYST x)
  let next := (exits s x fwd).foldl (fun (m : Option (Rat × Nat)) e =>
    let d := toBoundary theta h e.1 fwd
    match m with
    | some b => if d < b.1 then some (d, e.2) else m
    | none => some (d, e.2)) none
  match next with
  | some (d, k) =>
    if fe = 0 then none else some (k, toTick ((s.now : Rat) + (d + h) * 4000000000 / (absR fe * 3600)))
  | none => none

/-- Steps i and j are neighbours (R41). -/
def adjacent (i j : Nat) : Bool := decide ((i + 1) % 6 = j) || decide ((j + 1) % 6 = i)

/-- Direction latch and waiting reversal of an axis (R51, R52). No frame carries the host's latch to a contributing device, so
that the latch of a contributor follows the travel demanded of its own mode: the model's choice (log entry 84). -/
def State.dirUpdate (s : State) (a : Fin 4) : State :=
  let d := sgnR (demandedTravel s a)
  if d ≠ 0 ∧ d ≠ s.get (A_DIR a) then
    if absR (feOf s a) < s.get (A_REV_SPEED a) then
      let s := (s.set (A_DIR a) d).set (A_REV_PENDING a) 0
      s.each (secsOf s a) (fun x s => s.drive x)
    else if s.flag (A_REV_PENDING a) then s
    else
      let s := s.set (A_REV_PENDING a) 1
      s.each (secsOf s a) (fun x s =>
        let s := s.drive x
        if 1 ≤ s.nat (S_STATE x) ∧ s.nat (S_STATE x) ≤ 3 then s.jSeq x 0x32 else s)
  else if s.flag (A_REV_PENDING a) then
    let s := s.set (A_REV_PENDING a) 0
    s.each (secsOf s a) (fun x s => s.drive x)
  else s

/-- Locked-rotor detection is armed (R55, R87). -/
def lockArmed (s : State) (x : Fin 6) (a : Fin 4) : Bool :=
  let st := s.nat (S_STATE x)
  let m := s.nat (A_MODE a)
  decide (1 ≤ st ∧ st ≤ 3) &&
  ((decide (m = 1 ∨ m = 2 ∨ m = 3) && decide ((s.get (A_REV_SPEED a) : Rat) ≤ absR (speedRef s a))) || decide (m = 5)) &&
  decide (s.nat (S_LOCK_CURRENT x) * anvilI s x < (s.sec x).pairCur.natAbs * 100) &&
  !bitOf (s.nat (A_EMERG_STATE a)) 2 &&
  (!sequenced s a || decide (s.nat (A_START_STAGE a) = 5))

/-- One 100 ns evaluation of the sequencer of section x (R38–R42, R47, R51, R52, R55, R60); a join
whose angle source is lost during its ramp fails (R57 step 5). -/
def State.evaluate (s : State) (x : Fin 6) : State :=
  match axisOf s x with
  | none => s
  | some a =>
    let s := s.dirUpdate a
    let th := thetaCNow s x a
    let s := s.modSec x (fun c => { c with thetaC := th })
    let s := if (s.sec x).join = .ramp ∧ !angleValid s a then s.joinFail x else s
    let st := s.nat (S_STATE x)
    if st = 0 ∨ st = 4 then s
    else
      let s := s.modSec x (fun c =>
        { c with lockAt := if lockArmed s x a then some (c.lockAt.getD s.now) else none })
      let cur := s.nat (S_STEP x)
      let tgt := targetStep s x th
      if tgt ≠ cur ∧ pastBoundary s x th then
        if st ≠ 3 ∧ cur < 6 ∧ !adjacent tgt cur then
          ((s.inc (S_SKIP_COUNT x)).jSeq x 0x31).enterStep x tgt
        else s.modSec x (fun c => { c with placed := some (tgt, s.now) })
      else s.modSec x (fun c => { c with placed := predict s x th (feOf s a) })

/-- SEQUENCER_EVALUATION. -/
def execSequencerEvaluation (t : Nat) (x : Fin 6) (s : State) : Res :=
  runOn x.val (s.at_ t) (fun s => s.evaluate x)

/-- The placed step change takes place (R43, R44). -/
def State.stepChange (s : State) (x : Fin 6) : State :=
  match (s.sec x).placed with
  | some (k, at_) => if at_ ≤ s.now then s.enterStep x k else s
  | none => s

/-- STEP_CHANGE. -/
def execStepChange (t : Nat) (x : Fin 6) (s : State) : Res :=
  runOn x.val (s.at_ t) (fun s => s.stepChange x)

/-- A locked rotor is declared once the window has run S_LOCK_TIME (R55, R56). -/
def State.lockedRotor (s : State) (x : Fin 6) : State :=
  match (s.sec x).lockAt with
  | some t0 =>
    if t0 + ms (s.nat (S_LOCK_TIME x)) ≤ s.now ∧ !s.flag (S_LOCK_STATE x) then
      let s := (s.set (S_LOCK_STATE x) 1).jSeq x 0x30
      match s.nat (S_LOCK_ACTION x) with
      | 1 =>
        let s := s.modSec x (fun c => { c with lockLimit := true })
        match axisOf s x with
        | some a => s.reshare a
        | none => s
      | 2 => s.enableZero x
      | _ => s
    else s
  | none => s

/-- LOCKED_ROTOR. -/
def execLockedRotor (t : Nat) (x : Fin 6) (s : State) : Res :=
  runOn x.val (s.at_ t) (fun s => s.lockedRotor x)

/-! ### Joining and leaving (R57, R58) -/

/-- A join that waits at step 2 finds the angle source valid, with the observer island on, and starts its
precharge (R57, R466). -/
def State.joinAngleValid (s : State) (x : Fin 6) : State :=
  match axisOf s x with
  | some a =>
    if (s.sec x).join = .angle ∧ angleValid s a ∧ s.nat (IS_STATE (islObserver x)) ≠ 3 then s.startPrecharge x else s
  | none => s

/-- JOIN_ANGLE_VALID. -/
def execJoinAngleValid (t : Nat) (x : Fin 6) (s : State) : Res :=
  runOn x.val (s.at_ t) (fun s => s.joinAngleValid x)

/-- PRECHARGE_PULSE. -/
def execPrechargePulse (t : Nat) (x : Fin 6) (s : State) : Res :=
  runOn x.val (s.at_ t) (fun s => s.prechargePulse x)

/-- The precharge is complete: all pulses done, 1 µs since the last, all three pins at level 0 for 1 µs (R136). -/
def State.prechargeComplete (s : State) (x : Fin 6) : State :=
  match (s.sec x).precharge with
  | some p =>
    if 3 ≤ p.phase ∧ (p.lastOff.getD s.now) + us 1 ≤ s.now ∧ phases.all (fun q => levelZeroFor s (hbOf x q) 1) then
      s.modSec x (fun c => { c with join := .boundary, precharge := none })
    else s
  | none => s

/-- PRECHARGE_COMPLETE. -/
def execPrechargeComplete (t : Nat) (x : Fin 6) (s : State) : Res :=
  runOn x.val (s.at_ t) (fun s => s.prechargeComplete x)

/-- The rising ramp reaches full: state 2 with 0x34, or state 3 kept after a degraded entry (R57, R58, R149). A section whose
leave began in state 1 and was enabled again goes to state 2 with 0x34 here: the model's choice (log entry 84). -/
def State.joinRampEnd (s : State) (x : Fin 6) : State :=
  match (s.sec x).ramp with
  | some r =>
    if r.up ∧ shareFraction s x = 1 then
      let s := s.modSec x (fun c => { c with ramp := none, join := .none })
      if s.nat (S_STATE x) = 1 then (((s.setSecState x 2).jSeq x 0x34)).recount else s.recount
    else s
  | none => s

/-- JOIN_RAMP_END. -/
def execJoinRampEnd (t : Nat) (x : Fin 6) (s : State) : Res :=
  runOn x.val (s.at_ t) (fun s => s.joinRampEnd x)

/-- The falling ramp reaches zero: the switches are to turn off at the next boundary (R58). -/
def State.leaveRampEnd (s : State) (x : Fin 6) : State :=
  match (s.sec x).ramp with
  | some r => if !r.up ∧ shareFraction s x = 0 then s.modSec x (fun c => { c with offDue := true }) else s
  | none => s

/-- LEAVE_RAMP_END. -/
def execLeaveRampEnd (t : Nat) (x : Fin 6) (s : State) : Res :=
  runOn x.val (s.at_ t) (fun s => s.leaveRampEnd x)

end Sys2Proof.Machine
end

