-- ==== Sys2Proof/Machine/Pwm.lean ====
section
/-! DEFINITION. The section PWM: period boundary, loads, live compare and the turn-off edge (R94–R113, R562), with
what else falls at a boundary: joins, leaves, degraded entries, shares, the kick and Bellows grants. -/

namespace Sys2Proof.Machine
open Obj

/-! ### Loads (R96, R99–R104) -/

/-- One shadow value comes into force. -/
def Pwm.load (p : Pwm) (sub : Nat) (v : Int) : Pwm :=
  match sub with
  | 1 => { p with period := v.toNat }
  | 2 => { p with presc := v.toNat }
  | 3 => { p with dutyMax := v.toNat }
  | 4 => { p with duty := v.toNat }
  | 5 => { p with dead := v.toNat }
  | 6 => { p with phase := v.toNat }
  | 7 => { p with liveEn := decide (v ≠ 0) }
  | 8 => { p with chan := v.toNat }
  | _ => p

/-- The counter ticks of the Anvil frequency range at a prescaler: least and greatest period (R96, R282). -/
def anvilPeriods (s : State) (presc : Nat) : Nat × Nat :=
  (ceilDiv 800000000 (presP presc * s.nat SF_ANV_FPWM_MAX_IN), 800000000 / (presP presc * s.nat SF_ANV_FPWM_MIN_IN))

/-- A set of values loads at a boundary of section x: a refused pair keeps both values in force, a pair beyond the
Anvil range has its period clipped, everything else takes effect (R96, R99). With an Anvil maximum below the frequency of a
full counter, the nearest Anvil bound at prescaler 0 lies above 65,535; R96 does not say what is loaded there: the model puts the bound
in force (the model's choice, log entry 99). -/
def State.loadValues (s : State) (x : Fin 6) (vs : List (Nat × Int)) : State :=
  let p := (s.sec x).pwm
  let q := vs.foldl (fun p v => p.load v.1 v.2) p
  if pairAllowed q.period q.presc then
    let b := anvilPeriods s q.presc
    let n := max b.1 (min q.period b.2)
    let s := s.modPwm x (fun _ => { q with period := n })
    if n = q.period then s
    else s.jClip x.val 0x02 (S_PERIOD x) 0xFF q.period n
      (if q.period < n then SF_ANV_FPWM_MAX_IN else SF_ANV_FPWM_MIN_IN)
  else
    let s := s.modPwm x (fun _ => { q with period := p.period, presc := p.presc })
    (s.inc (S_LOAD_REFUSED x)).jPwm x 0x38 0xFF q.period q.presc

/-- A shadow write that a committed value supersedes: of the same object, and accepted before T (R372). -/
def superseded (p : Pwm) (w : Nat × Int × Nat) : Bool := p.forced.any (fun f => decide (f.1 = w.1) && decide (w.2.2 < f.2.2))

/-- The loads of a boundary at the present tick: the values of a commit at this boundary, which supersede every write of the
same object accepted before T, and the shadows written before the tick, those accepted since T last, when the load mode in
force loads them (R101–R104, R372). -/
def State.loads (s : State) (x : Fin 6) : State :=
  let p := (s.sec x).pwm
  let la := match p.laDue with
    | some d => decide (d ≤ s.now)
    | none => false
  let take := decide (s.nat (S_LOAD_MODE x) = 1) || la
  let left := p.written.filter (fun w => !superseded p w)
  let due := if take then left.filter (fun w => decide (w.2.2 < s.tick)) else []
  let vs := (p.forced ++ due).map (fun w => (w.1, w.2.1))
  let s := s.modPwm x (fun p =>
    { p with written := if take then left.filter (fun w => !decide (w.2.2 < s.tick)) else left,
             forced := [], laDue := if la then none else p.laDue })
  let s := if la then s.clearBits S_LOADALL_PEND (2 ^ x.val) else s
  if vs = [] then s else s.loadValues x vs

/-- The load mode of the next period (R100). -/
def loadModeOf (s : State) (x : Fin 6) : Nat :=
  let st := s.nat (S_STATE x)
  if st = 0 ∨ st = 4 ∨ st = 1 then 1
  else match axisOf s x with
    | none => 1
    | some a =>
      let g := stage s a
      let m := s.nat (A_MODE a)
      if (1 ≤ g ∧ g ≤ 4) ∨ m = 6 ∨ m = 5 then 1 else 0

/-! ### The opening compare (R97, R105, R106, R49) -/

/-- Dmax in counter ticks (R97). -/
def dMaxOf (s : State) (x : Fin 6) : Nat :=
  let p := (s.sec x).pwm
  dMax (min p.dutyMax (s.nat (SF_ANV_DUTY_MAX_IN x))) p.period

/-- A live value as a compare limited to Dmax (R105). -/
def convLive (s : State) (x : Fin 6) (y : Int) : Nat := min (liveCompare y (s.sec x).pwm.period) (dMaxOf s x)

/-- tmin: S_TMIN_SAMPLE in counter ticks, rounded up (R107). -/
def tminTicks (s : State) (x : Fin 6) : Nat := ticksUp (s.nat (S_TMIN_SAMPLE x)) (s.sec x).pwm.presc

/-- The axis of section x is in Manual-duty (R106). -/
def manualDuty (s : State) (x : Fin 6) : Bool :=
  match axisOf s x with
  | some a => decide (mode s a = 5)
  | none => false

/-- Live compare is in force (R106). -/
def liveInForce (s : State) (x : Fin 6) : Bool := (s.sec x).pwm.liveEn && !manualDuty s x

/-- Copen (R106). -/
def openCompare (s : State) (x : Fin 6) : Nat :=
  if liveInForce s x then convLive s x (s.get (S_LIVE_HELD x)) else min (s.sec x).pwm.duty (dMaxOf s x)

/-- A locked-rotor limit is in force, no current loop governs (live compare is not in force, as in Manual-duty) and the
conducting-pair current of the latest conversion reaches the limit: the chopped switch stays off (R56 gives the limit and not
what holds a duty to it: log entry 86). -/
def lockHolds (s : State) (x : Fin 6) : Bool :=
  (s.sec x).lockLimit && !liveInForce s x &&
    decide (s.nat (S_LOCK_LIMIT x) * anvilI s x ≤ (s.sec x).pairCur.natAbs * 100)

/-- What R49 makes of a demanded on-time in counter ticks: taken, raised to S_TMIN_SAMPLE, suppressed, or none. -/
inductive OnTime where
  | taken | raised | suppressed | zero
deriving DecidableEq, Repr

/-- The row of R49 for an on-time of c counter ticks of P base ticks of 1.25 ns and S_TMIN_SAMPLE in ns. -/
def onTimeRow (c presc tmin : Nat) : OnTime :=
  if c = 0 then .zero
  else if 4 * tmin ≤ 5 * (c * presP presc) then .taken
  else if 4 * tmin ≤ 10 * (c * presP presc) then .raised
  else .suppressed

/-- The opening compare after R49, with its counter. -/
def State.openPeriod (s : State) (x : Fin 6) : Nat × State :=
  let c := openCompare s x
  match onTimeRow c (s.sec x).pwm.presc (s.nat (S_TMIN_SAMPLE x)) with
  | .taken => (c, s)
  | .raised => (tminTicks s x, s.inc (S_TMIN_RAISE x))
  | .suppressed => (0, s.inc (S_PULSE_SUPPRESS x))
  | .zero => (0, s)

/-! ### The turn-off edge (R107, R108, R562) -/

/-- Base ticks since the reload. -/
def sinceReload (s : State) (x : Fin 6) : Nat :=
  let p := (s.sec x).pwm
  (((s.tick : Int) - p.phase) % ((p.period * presP p.presc : Nat) : Int)).toNat

/-- A turn-off edge is placed, in base ticks from the reload: once the release is known it is held at Cmin, counted
each time, and it never falls after the reload (R107, R108, R562). -/
def State.placeOff (s : State) (x : Fin 6) (edge : Nat) : State :=
  let p := (s.sec x).pwm
  let P := presP p.presc
  let full := p.period * P
  match p.relCount with
  | some r =>
    let cmin := (r + tminTicks s x) * P
    let s := if edge < cmin then s.inc (S_TMIN_HOLD x) else s
    let e := min (max edge cmin) full
    (s.modPwm x (fun p => { p with offEdge := some e })).set (S_CMP_ACTIVE x) (e / P : Nat)
  | none =>
    let e := min edge full
    (s.modPwm x (fun p => { p with offEdge := some e })).set (S_CMP_ACTIVE x) (e / P : Nat)

/-- The base tick from which the counts of the turn-off edge run: the reload, or the release of step 4 of a refresh (R133). -/
def edgeOrigin (s : State) (x : Fin 6) : Nat :=
  let p := (s.sec x).pwm
  if p.fromRel then (match p.relCount with
    | some r => r * presP p.presc
    | none => sinceReload s x)
  else 0

/-- A live value arrives at section x (R105, R107). While live compare is not in force it is held and does nothing else: R107
makes no such test, and R106 lets S_DUTY place the edge (the model's choice, log entry 85). -/
def State.live (s : State) (x : Fin 6) (y : Int) : State :=
  let s := s.set (S_LIVE_HELD x) y
  let p := (s.sec x).pwm
  if !liveInForce s x || !p.hasPulse then s
  else if p.offIssued then s.inc (S_LIVE_LATE x)
  else
    let c := convLive s x y
    let o := edgeOrigin s x
    let waits := p.fromRel && p.relCount.isNone
    let count := (sinceReload s x - o) / presP p.presc
    if c = p.period then (s.modPwm x (fun p => { p with offEdge := none })).set (S_CMP_ACTIVE x) c
    else if count < c then s.placeOff x ((if waits then 0 else o) + c * presP p.presc)
    else (s.inc (S_LIVE_FORCED x)).placeOff x (if waits then 0 else sinceReload s x + 1)

/-- The scheduled turn-off edge is due: the turn-on of the period no longer waits and the count has been reached. -/
def offDueNow (s : State) (x : Fin 6) : Bool :=
  let p := (s.sec x).pwm
  p.hasPulse && !p.offIssued && p.relPending.isNone &&
    match p.offEdge with
    | some e => decide (e ≤ sinceReload s x)
    | none => false

/-- The on-time ends: the chopped switch turns off and, in complementary mode, its partner is commanded on (R45, R95). -/
def State.endOnTime (s : State) (x : Fin 6) : State :=
  (s.modPwm x (fun p => { p with onTime := false, offIssued := true })).drive x

/-- TURN_OFF_EDGE. -/
def execTurnOffEdge (t : Nat) (x : Fin 6) (s : State) : Res :=
  runOn x.val (s.at_ t) (fun s => if offDueNow s x then s.endOnTime x else s)

/-! ### The period boundary -/

/-- What the end of the old period leaves: a turn-off edge not yet issued falls in the reload tick (R108). -/
def State.closePeriod (s : State) (x : Fin 6) : State :=
  let p := (s.sec x).pwm
  if p.hasPulse && !p.offIssued && p.relPending.isNone && p.offEdge.isSome then s.endOnTime x else s

/-- A turn-on not released by the reload is withdrawn (R108). -/
def State.withdraw (s : State) (x : Fin 6) : State :=
  match (s.sec x).pwm.relPending with
  | some (n, high) =>
    let s := (s.cancelOn n high).modPwm x (fun p => { p with relPending := none, absent := true, onTime := false })
    (s.inc (S_LATE_RELEASE x)).jPwm x 0x39 n.val 0 0xFF
  | none => s

/-- The sign of the torque demand at the boundary, positive in Align; zero keeps the sign of the period before (R40, R81,
R500). -/
def State.sampleSign (s : State) (x : Fin 6) : State :=
  let v : Int := match axisOf s x with
    | some a => if mode s a = 5 then sgnI (s.get (A_MD_NOW a)) else if stage s a = 1 then 1 else sgnR (s.sec x).ref
    | none => 0
  if v = 0 then s else s.modSec x (fun c => { c with pos := decide (0 < v) })

/-- State changes that fall at the boundary: a degraded entry whose conditions still hold, the end of a leave, the start of a
join's ramp (R57–R59, R149). The entry 0x33 shows the step just entered (R62; the model's choice, log entry 84). -/
def State.boundaryState (s : State) (x : Fin 6) : State :=
  let c := s.sec x
  match c.degDue with
  | some p =>
    if !mayDegrade s x then s.isolate x 0x01
    else
      let s := (s.setSecState x 3).set (S_DEG_PHASE x) p
      let s := s.modSec x (fun c => { c with degDue := none, join := .none, placed := none })
      let s := (s.enterStep x (degWindow (s.sec x).thetaC p (s.nat (S_DEG_WIDTH x)))).jSeq x 0x33
      if c.offDue then ((s.allOff x).setSecState x 0).recount else s.recount
  | none =>
    if c.offDue then ((s.allOff x).setSecState x 0).recount
    else if c.join = .boundary ∧ (axisOf s x).isSome then
      let s := s.setSecState x 1
      let s := s.modSec x (fun c => { c with join := .ramp, ramp := some ⟨true, 0, s.now⟩ })
      s.enterStep x (stepAt (s.sec x).thetaC)
    else s

/-- Membership of the counted set changes at the boundary, and the shares move with it (R151, R197). -/
def State.boundaryShare (s : State) (x : Fin 6) (deg : Bool) : State :=
  let now := counted s x
  if now ≠ (s.sec x).sharing ∨ deg then
    let s := s.modSec x (fun c => { c with sharing := now, isoPart := 0 })
    match axisOf s x with
    | some a => s.reshare a
    | none => s
  else s

/-- Live compare is in force and |r_x| > 0 (R193). -/
def canKick (s : State) (x : Fin 6) : Bool := liveInForce s x && decide ((s.sec x).ref ≠ 0)

/-- The chain of absent pulses is counted and broken: `counts` says that the period that ends had no pulse and met both
conditions throughout (R193). -/
def State.kick (s : State) (x : Fin 6) (counts : Bool) : State :=
  if !counts then s.modPwm x (fun p => { p with absentRun := 0 })
  else
    let run := (s.sec x).pwm.absentRun + 1
    let m := s.nat (S_ABSENT_MAX x)
    if m ≠ 0 ∧ m ≤ run then
      ((s.set (S_LIVE_HELD x) (leastLive (tminTicks s x) (s.sec x).pwm.period)).inc (S_ABSENT_KICK x)).modPwm x
        (fun p => { p with absentRun := 0 })
    else s.modPwm x (fun p => { p with absentRun := run })

/-- The new period opens: whole or partial, with or without a pulse (R95, R99, R106). -/
def State.openNew (s : State) (x : Fin 6) : State :=
  let whole := decide (sinceReload s x = 0)
  let can := whole && mayDrive s x && !lockHolds s x && (chopped s x).isSome
  let (c, s) := if can then s.openPeriod x else (0, s)
  let s := s.modPwm x (fun p =>
    { p with hasPulse := decide (0 < c), onTime := decide (0 < c), offIssued := false,
             relCount := none, relPending := none, fromRel := false,
             offEdge := if 0 < c ∧ c < p.period then some (c * presP p.presc) else none,
             absent := decide (c = 0), kickable := canKick s x, reloadAt := some s.tick })
  s.set (S_CMP_ACTIVE x) c

/-- One section's boundary up to its opening compare (R96–R108, R193, R500). -/
def State.boundary (s : State) (x : Fin 6) : State :=
  let had := (s.sec x).pwm.hasPulse && (s.sec x).pwm.relCount.isSome
  let counts := !had && (s.sec x).pwm.kickable && canKick s x
  let deg := (s.sec x).degDue.isSome
  let s := ((s.closePeriod x).loads x).withdraw x
  let s := s.sampleSign x
  let s := s.modSec x (fun c => { c with chop := s.nat (S_CHOP_MODE x) })
  let s := (s.boundaryState x).boundaryShare x deg
  let s := s.set (S_LOAD_MODE x) (loadModeOf s x)
  let s := match axisOf s x with
    | some a =>
      if mode s a = 5 ∧ counted s x then
        let d := (s.get (A_MD_NOW a)).natAbs * (s.sec x).pwm.period / 10000
        (s.set (S_DUTY x) d).modPwm x (fun p => { p with duty := d })
      else s
    | none => s
  (s.kick x counts).openNew x

/-! ### Bellows at the boundary (R132–R134) -/

/-- The high switch of half-bridge n is to conduct in the period that opens (R132). -/
def highConducts (s : State) (n : Fin 18) : Bool := (desired s n).1 && gateReady s n

/-- A refresh is required for n at the boundary of its section (R132). One whose refresh is still under way needs none, and
counts as no deferral, of which R132 does not speak: the model's choice (log entry 99). -/
def refreshRequired (s : State) (n : Fin 18) : Bool :=
  decide ((s.hb n).refresh = .idle) && highConducts s n && decide (s.nat (S_BLW_HOLD (secOf n)) ≤ blwAge s n)

/-- The half-bridge of greatest age in a list, the lowest number among equals (R134). -/
def oldest (s : State) (l : List (Fin 18)) : Option (Fin 18) :=
  l.foldl (fun m n => match m with
    | none => some n
    | some k => if blwAge s k < blwAge s n then some n else some k) none

/-- A refresh is granted at the boundary: step 1 turns the high switch off, step 2 the low switch on (R133). -/
def State.grantRefresh (s : State) (n : Fin 18) : State := (s.toOff n true).refreshBegin n false

/-- Required refreshes compete in order of age: granted while room is left, forced beyond the limit at the Anvil
maximum interval, else deferred to their next boundary (R134). -/
def State.compete (s : State) (fuel : Nat) (l : List (Fin 18)) : State :=
  match fuel with
  | 0 => s
  | fuel + 1 =>
    match oldest s l with
    | none => s
    | some n =>
      let rest := l.filter (fun m => decide (m ≠ n))
      let s :=
        if coinRoom s then s.grantRefresh n
        else if s.nat SF_ANV_BLW_MAX_IN ≤ blwAge s n then
          ((s.grantRefresh n).inc (S_BLW_FORCED n)).jGate n 0x3B 0xFF 0xFFFF
        else s.inc S_BLW_DEFERRED
      s.compete fuel rest

/-- The switches follow the new period, and the turn-on that opens it is noted while its release is awaited
(R95, R97, R108, R133). -/
def State.startPeriod (s : State) (x : Fin 6) : State :=
  let s := s.drive x
  match chopped s x with
  | some (n, high) =>
    if !(s.sec x).pwm.hasPulse then s
    else if ((s.hb n).pin high).on then
      let s := s.modPwm x (fun p => { p with relCount := some 0 })
      match (s.sec x).pwm.offEdge with
      | some e => s.placeOff x e
      | none => s
    else if ((s.hb n).wait.map (·.high) = some high) ∨ ((s.hb n).refresh ≠ .idle ∧ high) then
      s.modPwm x (fun p => { p with relPending := some (n, high), fromRel := decide ((s.hb n).refresh ≠ .idle) })
    else s.modPwm x (fun p => { p with absent := true, onTime := false })
  | none => s

/-- The sections named whose counters reload in this base tick and have not been served in it (R98). -/
def reloading (s : State) (xs : BitVec 6) : List (Fin 6) :=
  allSecs.filter (fun x =>
    let p := (s.sec x).pwm
    xs.getLsbD x.val && isReload p.period p.presc p.phase s.tick && decide (p.reloadAt ≠ some s.tick))

/-- The boundaries of one base tick: each section's own effects, then the refreshes that compete, then the switches. -/
def State.boundaries (s : State) (xs : BitVec 6) : State :=
  let l := reloading s xs
  let s := s.each l (fun x s => s.boundary x)
  let need := allHbs.filter (fun n => decide (secOf n ∈ l) && refreshRequired s n)
  let s := s.compete 18 need
  s.each l (fun x s => s.startPeriod x)

/-- PERIOD_BOUNDARY: of the sections named whose counters reload at this tick. -/
def execPeriodBoundary (t : Nat) (xs : BitVec 6) (s : State) : Res :=
  let s := s.at_ t
  let run : Nat := allSecs.foldl (fun m x => if runs s x.val then m + 2 ^ x.val else m) 0
  done (s.boundaries (xs &&& BitVec.ofNat 6 run))

/-- LIVE_VALUE_ARRIVAL: in a reload tick the reload completes first (R107). -/
def execLiveValueArrival (t : Nat) (x : Fin 6) (y : BitVec 32) (s : State) : Res :=
  runOn x.val (s.at_ t) (fun s => (s.boundaries (1#6 <<< x.val)).live x y.toInt)

/-! ### Load-all (R102, R104) -/

/-- A load-all request accepted at timebase instant T, in quarter-nanoseconds of `now`: the named sections in
Load-all mode get a due instant 32 ns later, unless one is already pending. -/
def State.loadAll (s : State) (at_ : Nat) : State :=
  s.each allSecs (fun x s =>
    if bitOf (s.nat S_LOADALL_MASK) x.val ∧ s.nat (S_LOAD_MODE x) = 0 ∧ (s.sec x).pwm.laDue = none then
      (s.modPwm x (fun p => { p with laDue := some (at_ + ns 32) })).orBits S_LOADALL_PEND (2 ^ x.val)
    else s)

end Sys2Proof.Machine
end

