-- ==== Sys2Proof/Machine/GateEvents.lean ====
section
/-! DEFINITION. Commands at the gate pins, status pins and switch-node comparators: release, edge phases, accepted
levels, handshake timeout, measured transitions with Temper, and Bellows (R116–R136, R145–R147). -/

namespace Sys2Proof.Machine
open Obj

/-- The base tick of an instant of `now`. -/
def State.tickOf (s : State) (t : Nat) : Nat := ((t : Int) + s.tbOff).toNat / 5

/-! ### Release of a turn-on (R125) -/

/-- The waiting turn-on of half-bridge n may be released now (R125, R126, R150). -/
def releasable (s : State) (n : Fin 18) (w : Wait) : Bool :=
  let h := s.hb n
  gateReady s n && decide (s.nat (S_HSS_LEVEL n) = 0) &&
  (match w.tconf with
    | some c => decide (c + ns (s.nat (S_HS_HOLD (secOf n))) ≤ s.now)
    | none => false) &&
  (match (h.pin (!w.high)).offAt with
    | some o => decide (o + ns w.dead ≤ s.now)
    | none => true) &&
  !(h.pin (!w.high)).on

/-- The released turn-on is the one that opens the period: its count is known, and the turn-off edge is held at Cmin
(R107, R108, R562); after a refresh it counts from here (R133). -/
def State.notePeriodRelease (s : State) (n : Fin 18) (high : Bool) : State :=
  let x := secOf n
  let p := (s.sec x).pwm
  if p.relPending = some (n, high) then
    let c := sinceReload s x / presP p.presc
    let s := s.modPwm x (fun p => { p with relPending := none, relCount := some c })
    match p.offEdge with
    | some e => s.placeOff x (e + if p.fromRel then sinceReload s x else 0)
    | none => s
  else s

/-- A waiting turn-on is released (R116, R121, R125, R129). -/
def State.release (s : State) (n : Fin 18) : State :=
  match (s.hb n).wait with
  | some w =>
    if releasable s n w then
      let kind := if w.high then 0 else 2
      let code := s.nat (codeKey n kind)
      let s := s.modHb n (fun h =>
        { h.setPin w.high ⟨.edgeOn, code, s.now, true, (h.pin w.high).offAt⟩ with
          wait := none, lastEdge := some (kind, s.now),
          refresh := if h.refresh = .lowCommanded ∧ !w.high then .pulse s.now else h.refresh })
      ((s.noteEdge n code).expect n).notePeriodRelease n w.high
    else s
  | none => s

/-- TURN_ON_RELEASE. -/
def execTurnOnRelease (t : Nat) (n : Fin 18) (s : State) : Res :=
  runOn (secOf n).val (s.at_ t) (fun s => s.release n)

/-- The edge phase of a pin ends in its hold state (R116). -/
def State.edgeEnd (s : State) (n : Fin 18) (high : Bool) : State :=
  let p := (s.hb n).pin high
  if p.edgeAt + ns (s.nat (S_EDGE_TIME (secOf n))) ≤ s.now then
    match p.st with
    | .edgeOn => s.modHb n (fun h => h.setPin high { p with st := .holdOn })
    | .edgeOff => s.modHb n (fun h => h.setPin high { p with st := .holdOff })
    | _ => s
  else s

/-- EDGE_PHASE_END. -/
def execEdgePhaseEnd (t : Nat) (n : Fin 18) (high : Bool) (s : State) : Res :=
  runOn (secOf n).val (s.at_ t) (fun s => s.edgeEnd n high)

/-! ### Status levels (R119–R121, R145–R147) -/

/-- Level 3 on half-bridge n resolved as desaturation or UVLO (R146). -/
def resolveLevel3 (s : State) (n : Fin 18) : Nat :=
  let h := s.hb n
  if s.nat (S_DC_LINK (secOf n)) * 10 < 4095 then causeUvlo
  else if h.hi.on ∧ !h.above90 then causeDesatHigh
  else if h.lo.on ∧ h.above10 then causeDesatLow
  else causeUvlo

/-- Level 3 accepted on n trips except where R147 takes no trip; during a precharge it fails the join on every pin (R136). -/
def State.level3 (s : State) (n : Fin 18) : State :=
  let x := secOf n
  if s.nat (S_STATE x) = 0 ∧ (s.sec x).join ≠ .precharge then s
  else if !bitOf (s.sec x).pwm.chan (phaseOf n).val then
    (if s.nat (S_STATE x) = 0 then s.joinFail x else s)
  else s.trip x [(phaseOf n, resolveLevel3 s n)]

/-- A band of R119 (0–3, 4 over-range) has held for 10 ns and is accepted (R120). -/
def State.acceptBand (s : State) (n : Fin 18) (band : Fin 5) : State :=
  let lvl := if band.val = 4 then 3 else band.val
  let changed := decide (s.nat (S_HSS_LEVEL n) ≠ lvl)
  let s := s.set (S_HSS_LEVEL n) lvl
  let s := s.modHb n (fun h =>
    { h with
      band := band.val
      lvlAt := if changed then s.now else h.lvlAt
      expects := h.expects.dropWhile (fun e => decide (e.1 = lvl))
      wait := h.wait.map (fun w =>
        if lvl ≠ 0 then { w with tconf := none }
        else if w.tconf.isNone ∧ s.tickOf w.tc < s.tick then { w with tconf := some s.now } else w) })
  let s := if band.val = 4 then (s.inc (S_HSS_OVR n)).jGate n 0x3C 0xFF 0xFFFF else s
  if lvl = 3 then s.level3 n
  else if (s.sec (secOf n)).join = .precharge ∧ expectedLevel (s.hb n) = 0 then s.watchLevel n
  else s

/-- STATUS_LEVEL_ACCEPTED: band 0–3 as R119, 4 over-range. -/
def execStatusLevelAccepted (t : Nat) (n : Fin 18) (band : Fin 5) (s : State) : Res :=
  runOn (secOf n).val (s.at_ t) (fun s => s.acceptBand n band)

/-- A change of the expected level has not been met within S_HS_TIMEOUT: the half-bridge trips (R121, R145). -/
def State.handshakeTimeout (s : State) (n : Fin 18) : State :=
  let x := secOf n
  match (s.hb n).expects with
  | e :: _ => if e.2 + ns (s.nat (S_HS_TIMEOUT x)) ≤ s.now then s.trip x [(phaseOf n, causeTimeout)] else s
  | [] => s

/-- HANDSHAKE_TIMEOUT. -/
def execHandshakeTimeout (t : Nat) (n : Fin 18) (s : State) : Res :=
  runOn (secOf n).val (s.at_ t) (fun s => s.handshakeTimeout n)

/-! ### Switch-node transitions and Temper (R127–R130) -/

/-- Temper on a measured transition of kind k and t in 0.1 ns (R129, R130). -/
def State.temper (s : State) (n : Fin 18) (k : Nat) (t : Rat) : State :=
  let x := secOf n
  let s := s.set (tswKey n k) (rnd t)
  let outside := decide (t < 10 * s.get SF_ANV_TSW_LO_IN) || decide (10 * (s.get SF_ANV_TSW_HI_IN : Rat) < t)
  let s := if outside then
      let s := s.inc (S_TMP_OUTSIDE n)
      let quiet := match (s.hb n).last3A with
        | some l => decide (s.now < l + 4000000000)
        | none => false
      if quiet then s
      else (s.jGate n 0x3A k (rnd t).toNat).modHb n (fun h => { h with last3A := some s.now })
    else s
  if s.flag (S_TMP_EN x) then
    let tgt : Rat := 10 * s.get (if k = 0 ∨ k = 2 then S_TMP_TGT_ON x else S_TMP_TGT_OFF x)
    let tol : Rat := 10 * s.get (S_TMP_TOL x)
    let c := s.get (codeKey n k)
    let c := if tgt + tol < t then c + 1 else if t < tgt - tol then c - 1 else c
    s.set (codeKey n k) (max (s.get SF_ANV_CODE_LO_IN) (min c (s.get SF_ANV_CODE_HI_IN)))
  else s

/-- A comparator of VSWn crosses: the 90 % or the 10 % threshold, to above or to below. The low run of Bellows follows
the 10 % threshold (R132); two crossings make a measured transition (R128). -/
def State.crossing (s : State) (n : Fin 18) (upper above : Bool) : State :=
  let s := s.modHb n (fun h =>
    if upper then { h with above90 := above }
    else if above then
      { h with above10 := true, lowAt := none, refreshed := false, ageFrom := if h.refreshed then s.now else h.ageFrom }
    else { h with above10 := false, lowAt := some s.now })
  if s.nat (S_DC_LINK (secOf n)) * 10 < 4095 then s.modHb n (fun h => { h with cross := none })
  else
    let first := match (s.hb n).lastEdge with
      | some (k, te) => if s.now ≤ te + us 2 then some (upper, s.tick, k) else none
      | none => none
    match (s.hb n).cross with
    | some (u, tk, k) =>
      if u ≠ upper ∧ (s.tick - tk) * 5 ≤ us 1 then
        (s.temper n k (((s.tick - tk : Nat) : Rat) * 25 / 2)).modHb n (fun h => { h with cross := none })
      else s.modHb n (fun h => { h with cross := first })
    | none => s.modHb n (fun h => { h with cross := first })

/-- SWITCH_NODE_TRANSITION: one comparator crossing of VSWn. -/
def execSwitchNodeTransition (t : Nat) (n : Fin 18) (upper above : Bool) (s : State) : Res :=
  runOn (secOf n).val (s.at_ t) (fun s => s.crossing n upper above)

/-! ### Bellows (R132, R133) -/

/-- The switch node has stayed low for S_BLW_MIN_LOW: the half-bridge is refreshed (R132). -/
def State.lowRun (s : State) (n : Fin 18) : State :=
  match (s.hb n).lowAt with
  | some l =>
    if l + ns (s.nat (S_BLW_MIN_LOW (secOf n))) ≤ s.now ∧ !(s.hb n).above10 then
      s.modHb n (fun h => { h with refreshed := true })
    else s
  | none => s

/-- REFRESH_LOW_RUN. -/
def execRefreshLowRun (t : Nat) (n : Fin 18) (s : State) : Res :=
  runOn (secOf n).val (s.at_ t) (fun s => s.lowRun n)

/-- S_BLW_PULSE has passed since the release of the low switch: it turns off, the refresh ends, and the high switch is
commanded on where it is still to conduct, or the precharge goes on (R133, R135, R136). -/
def State.pulseEnd (s : State) (n : Fin 18) : State :=
  match (s.hb n).refresh with
  | .pulse r =>
    if r + ns (s.nat (S_BLW_PULSE (secOf n))) ≤ s.now then
      let pre := (s.hb n).refreshPre
      let s := (s.toOff n false).refreshDone n
      if pre then s.prechargeNext n else s.driveHb n
    else s
  | _ => s

/-- REFRESH_PULSE_END. -/
def execRefreshPulseEnd (t : Nat) (n : Fin 18) (s : State) : Res :=
  runOn (secOf n).val (s.at_ t) (fun s => s.pulseEnd n)

end Sys2Proof.Machine
end

