-- ==== Sys2Proof/Machine/Crucible.lean ====
section
/-! DEFINITION. The Crucible compensator engine: slots, their arithmetic, triggers and sinks, arbitration, banks,
direct coefficient writes, lane faults and rotation (R162–R188, R192). -/

namespace Sys2Proof.Machine
open Obj

def allSlots : List (Fin 48) := List.finRange 48

def State.slot (s : State) (k : Fin 48) : Slot := s.slots.get k

/-- The record of slot k is changed by f. -/
def State.modSlot (s : State) (k : Fin 48) (f : Slot → Slot) : State :=
  { s with slots := s.slots.set k.val (f (s.slot k)) k.isLt }

/-- The value of banked subindex 0x02–0x1A in a bank (R178). -/
def bankAt (b : Vector Int 25) (sub : Nat) : Int := if h : sub - 2 < 25 then b[sub - 2] else 0

/-- A bank with one subindex changed. -/
def bankPut (b : Vector Int 25) (sub : Nat) (v : Int) : Vector Int 25 :=
  if h : sub - 2 < 25 then b.set (sub - 2) v else b

/-- The logical lane of slot k (R162). -/
def laneOf (k : Fin 48) : Fin 6 := ⟨k.val / 8, by omega⟩

/-- The physical lane that serves a logical lane, 0xFF none (R162). -/
def physOf (s : State) (l : Nat) : Nat := s.nat (K_LANE_MAP l)

/-- A slot whose sink is a live compare in its active bank (R169). -/
def edgeSlot (s : State) (k : Fin 48) : Bool := decide (bankAt (s.slot k).active 0x1A / 4096 = 1)

/-! ### The arithmetic of a run (R163–R165, R192) -/

/-- The accumulator before step 4: each product shifted right on its own (floor), summed, saturated to 64 bits; a third
term counts only with K_ORDER 3. -/
def accumulate (b : Vector Int 25) (x : Int) (h : Hist) : Int :=
  let third : Int := if bankAt b 0x02 = 3 then 1 else 0
  let term (i : Nat) (v : Int) : Int := bankAt b (0x03 + i) * v / (2 ^ (bankAt b (0x0A + i)).toNat : Nat)
  satI 64 (term 0 x + term 1 h.x1 + term 2 h.x2 + third * term 3 h.x3 +
    term 4 h.y1 + term 5 h.y2 + third * term 6 h.y3)

/-- Step 5 with the torque limit of R192 where the sink is axis input 0 or 1. -/
def clampOut (lo hi : Int) (tlim : Option Int) (v : Int) : Int :=
  match tlim with
  | none => clampI lo hi v
  | some t =>
    if t < lo then t else if hi < -t then -t else clampI (max lo (-t)) (min hi t) v

/-- Result of a run, whether step 4 changed it, and whether step 5 did (R164). -/
def slotResult (b : Vector Int 25) (x : Int) (h : Hist) (tlim : Option Int) : Int × Bool × Bool :=
  let acc := accumulate b x h
  let v := satI 32 acc
  let y := clampOut (bankAt b 0x11) (bankAt b 0x12) tlim v
  (y, decide (v ≠ acc), decide (y ≠ v))

/-- The histories after a run. -/
def Hist.push (h : Hist) (x y : Int) : Hist := ⟨x, h.x1, h.x2, y, h.y1, h.y2⟩

/-- The histories after a reset or preload (R172). -/
def HistOp.apply : HistOp → Hist
  | .reset => ⟨0, 0, 0, 0, 0, 0⟩
  | .preload v => ⟨0, 0, 0, v, v, v⟩

/-! ### Sources and requests (R167, R168, R170) -/

/-- Latest value of a source (R167). -/
def sourceValue (s : State) (sel : Int) : Int :=
  let i := (sel % 4096).toNat
  match sel / 4096 with
  | 1 => s.get (K_Y i)
  | 2 => if h : i < 6 then (s.sec ⟨i, h⟩).pairAcc * 262144 else 0
  | 3 => if h : i < 18 then (s.hb ⟨i, h⟩).cur * 262144 else 0
  | 4 => s.get (S_DC_LINK i) * 524288
  | 5 => if h : i / 16 < 4 then (s.ax ⟨i / 16, h⟩).sig.get ⟨i % 16, Nat.mod_lt _ (by decide)⟩ else 0
  | 6 => s.get (K_REF i)
  | 7 => s.get (G_VALUE i)
  | _ => 0

/-- A run of slot k is requested by a value that reaches its lane at an instant; one that still waits is replaced, keeps
its age, and counts (R170). -/
def State.requestAt (s : State) (k : Fin 48) (at_ : Nat) (v : Option Int) : State :=
  match (s.slot k).request with
  | some (age, _, _) => (s.modSlot k (fun c => { c with request := some (age, at_, v) })).inc (K_OVERRUN k)
  | none => s.modSlot k (fun c => { c with request := some (at_, at_, v) })

/-- The chained trigger values that have reached the lane of slot k become its request (R174). -/
def State.takeInbound (s : State) (k : Fin 48) : State :=
  let l := (s.slot k).inbound
  let here (e : Nat × Option Int) : Bool := decide (e.1 ≤ s.now)
  if l.any here then
    State.each (s.modSlot k (fun c => { c with inbound := l.filter (fun e => !here e) })) (l.filter here) (fun e s => s.requestAt k e.1 e.2)
  else s

/-- A run of slot k is requested now (R168). -/
def State.requestRun (s : State) (k : Fin 48) (v : Option Int) : State := (s.takeInbound k).requestAt k s.now v

/-- Slot k is enabled and triggered by a source. -/
def triggered (s : State) (sel : Nat) (k : Fin 48) : Bool :=
  let b := (s.slot k).active
  let tr := bankAt b 0x18
  s.flag (K_ENABLE k) && decide (0 ≤ tr ∧ tr < 4 ∧ bankAt b (0x13 + tr.toNat) = sel)

/-- The capture channels of a source note that its value has arrived (R247). -/
def State.noteArrival (s : State) (sel : Nat) : State :=
  let m := (List.range 32).foldl (fun (m : BitVec 32) c => if s.nat (C_CH_SRC c) = sel then m ||| (1 <<< c) else m) 0
  { s with cap := { s.cap with got := s.cap.got ||| m } }

/-- A value of a source arrives: the capture channels of that source note it, and every enabled slot it triggers is
requested (R168, R247). -/
def State.arrive (s : State) (sel : Nat) (v : Int) : State :=
  (s.noteArrival sel).each allSlots (fun k s => if triggered s sel k then s.requestRun k (some v) else s)

/-- The output of slot j arrives: at slots of its own logical lane one lane cycle later, at those of another after 10 ns
to 14 ns, where the instant is a free value (R174; log entry 92). -/
def State.chain (s : State) (j : Fin 48) (v : Int) : State :=
  let (f, s) := s.free
  (s.noteArrival (0x1000 + j.val)).each allSlots (fun k s =>
    if triggered s (0x1000 + j.val) k then
      let d := if laneOf k = laneOf j then ns 2 else ns 10 + f % (ns 4 + 1)
      (s.takeInbound k).modSlot k (fun c => { c with inbound := c.inbound ++ [(s.now + d, some v)] })
    else s)

/-- The slot timer requests a run at each whole multiple of K_TIMER (R168). -/
def State.slotTimer (s : State) (k : Fin 48) : State :=
  let b := (s.slot k).active
  if s.flag (K_ENABLE k) ∧ bankAt b 0x18 = 4 ∧ (s.tb : Int) % (4 * bankAt b 0x19) = 0 then s.requestRun k none else s

/-- SLOT_TIMER. -/
def execSlotTimer (t : Nat) (k : Fin 48) (s : State) : Res := done ((s.at_ t).slotTimer k)

/-! ### Issue (R168, R170) -/

def allGens : List (Fin 4) := List.finRange 4

/-- The sum of the values of the running generators that inject at a point of slot k; none without one (R240). -/
def injection (s : State) (k : Fin 48) (point : Nat) : Option Int :=
  match allGens.filter (fun g => decide (s.nat (G_STATE g) = 2 ∧ s.nat (G_TARGET g) = k.val ∧ s.nat (G_POINT g) = point)) with
  | [] => none
  | l => some ((l.map (fun g => s.get (G_VALUE g))).sum)

/-- The input sum of slot k with the trigger input's arriving value and the injection at point 0 (R167, R168, R240). -/
def inputSum (s : State) (k : Fin 48) (v : Option Int) : Int :=
  let b := (s.slot k).active
  let sg := (bankAt b 0x17).toNat
  satI 32 (((List.range 4).map (fun i =>
    let x := match v with
      | some v => if bankAt b 0x18 = i then v else sourceValue s (bankAt b (0x13 + i))
      | none => sourceValue s (bankAt b (0x13 + i))
    match bitsOf sg (2 * i + 1) (2 * i) with
    | 1 => x
    | 2 => -x
    | _ => 0)).sum + (injection s k 0).getD 0)

/-- A_TLIM for a run whose sink is axis input 0 or 1 (R192). -/
def runLimit (s : State) (k : Fin 48) : Option Int :=
  let sink := bankAt (s.slot k).active 0x1A
  if sink / 4096 = 2 ∧ sink % 16 < 2 then some (s.get (A_TLIM (sink % 4096 / 16).toNat)) else none

/-- The physical lane that a run of slot k issues on: the spare once the slot has handed over (R162, R183). -/
def laneFor (s : State) (k : Fin 48) : Nat :=
  match s.lanes.rot with
  | some r => if r.logical = (laneOf k).val ∧ k.val ∈ r.moved then r.spare else physOf s (laneOf k).val
  | none => physOf s (laneOf k).val

/-- The coefficient set for an issue in a lane cycle: a direct write applied in that cycle counts from the next issue
(R175). -/
def setAt (c : Slot) (cyc : Nat) : Vector Int 25 :=
  match c.before with
  | some (n, b, _) => if n = cyc then b else c.active
  | none => c.active

/-- A lane state changes; K_SPARE_AVAIL follows (R184). -/
def State.setLane (s : State) (p v : Nat) : State :=
  let s := s.set (K_LANE_STATE p) v
  let s := if v = 4 then s.sleep (72 + p) else s
  s.setFlag K_SPARE_AVAIL ((List.range 7).any (fun i => decide (s.nat (K_LANE_STATE i) = 1 ∨ s.nat (K_LANE_STATE i) = 2)))

/-- A logical lane is handed to another physical lane; the one released tests itself (R183, R184). -/
def State.handLane (s : State) (l q : Nat) : State :=
  let p := physOf s l
  ((s.set (K_LANE_MAP l) q).setLane q 0).setLane p 3

/-- The hand-over ends once every enabled slot that ran in the comparison has handed over (R183; log entry 91). -/
def State.handIfOver (s : State) : State :=
  match s.lanes.rot with
  | some r =>
    if r.handing && r.ran.all (fun k => decide (k ∈ r.moved) || !s.flag (K_ENABLE k)) then
      ({ s with lanes := { s.lanes with rot := none } }).handLane r.logical r.spare
    else s
  | none => s

/-- Slot k hands over at its issue, once the comparison of its logical lane has ended (R183). -/
def State.handSlot (s : State) (k : Fin 48) : State :=
  match s.lanes.rot with
  | some r =>
    if r.handing ∧ r.logical = (laneOf k).val ∧ k.val ∉ r.moved then
      { s with lanes := { s.lanes with rot := some { r with moved := k.val :: r.moved } } }
    else s
  | none => s

/-- Slot k has a request that its lane may issue now: 40 ns since its last issue (R170). -/
def mayIssue (s : State) (k : Fin 48) : Bool :=
  s.flag (K_ENABLE k) && (s.slot k).request.isSome &&
    match (s.slot k).lastIssue with
    | some l => decide (l + ns 40 ≤ s.now)
    | none => true

/-- Of two slots, the one issued first: edge slots before ordinary ones, then the older request, then the lower number
(R170). -/
def issuesBefore (s : State) (i j : Fin 48) : Bool :=
  let age (k : Fin 48) : Nat := match (s.slot k).request with
    | some (a, _, _) => a
    | none => 0
  if edgeSlot s i ≠ edgeSlot s j then edgeSlot s i
  else if age i ≠ age j then decide (age i < age j) else decide (i < j)

/-- The slot that a logical lane issues now. -/
def nextIssue (s : State) (l : Fin 6) : Option (Fin 48) :=
  (allSlots.filter (fun k => decide (laneOf k = l) && mayIssue s k)).foldl (fun m k => match m with
    | none => some k
    | some j => if issuesBefore s k j then some k else some j) none

/-- A run of slot k issues in a lane cycle: inputs and set in force are latched (R168, R170). -/
def State.issueRun (s : State) (k : Fin 48) (cyc arrived : Nat) (v : Option Int) : State :=
  let x := inputSum s k v
  let lim := runLimit s k
  let inj := injection s k 1
  let s := s.handSlot k
  let apart := match (s.slot k).wroteAt with
    | some w => decide (s.now ≤ w + ns 100)
    | none => false
  (s.modSlot k (fun c =>
    { c with request := none, lastIssue := some s.now, histOp := none,
             runs := c.runs ++ [⟨arrived, s.now, setAt c cyc, x, lim, c.histOp, laneFor s k, apart, inj⟩] })).handIfOver

/-- Logical lane l issues one run in its lane cycle of 2 ns (R168, R170). -/
def State.issue (s : State) (l : Fin 6) : State :=
  let cyc := s.tbNs / 2
  if physOf s l.val = 0xFF ∨ l.val ∈ s.lanes.held ∨ s.lanes.cycle.get l = some cyc then s
  else
    let s := s.each (allSlots.filter (fun k => decide (laneOf k = l))) (fun k s => s.takeInbound k)
    match nextIssue s l with
    | none => s
    | some k =>
      match (s.slot k).request with
      | none => s
      | some (_, arrived, v) =>
        State.issueRun { s with lanes := { s.lanes with cycle := s.lanes.cycle.set l.val (some cyc) l.isLt } } k cyc arrived v

/-- SLOT_RUN_ISSUE. -/
def execSlotRunIssue (t : Nat) (l : Fin 6) (s : State) : Res := done ((s.at_ t).issue l)

/-! ### Lane faults (R182–R186) -/

/-- A Crucible entry (R186): class, detail, physical lane of the event, logical lane, slot, other lane, outputs of the lane in service and of the twin. -/
def State.jLane (s : State) (cls detail phys logical : Nat) (k : Option (Fin 48)) (other : Nat) (y yt : Int) : State :=
  s.journal cls (6 + phys) detail (match k with | some k => 0x4100 + k.val | none => 0x4000)
    (le 1 logical ++ le 1 phys ++ le 1 (match k with | some k => k.val | none => 0xFF) ++ le 1 other ++
     le 4 (match k with | some k => s.get (K_RUNS k) | none => 0) ++ le 4 y ++ le 4 yt ++ zeros 2)

/-- The spare, in state 1 or 2. -/
def spareLane (s : State) : Option Nat :=
  (List.range 7).find? (fun i => decide (s.nat (K_LANE_STATE i) = 1 ∨ s.nat (K_LANE_STATE i) = 2))

def State.gen (s : State) (g : Fin 4) : Gen := s.gens.get g

/-- The record of generator g is changed by f. -/
def State.modGen (s : State) (g : Fin 4) (f : Gen → Gen) : State :=
  { s with gens := s.gens.set g.val (f (s.gen g)) g.isLt }

/-- An injection or capture entry (R251). -/
def State.jTune (s : State) (detail : Nat) (g : Option (Fin 4)) (cause : Nat) : State :=
  s.journal 1 islCapture detail (match g with | some g => 0x7000 + g.val | none => 0x7010)
    (match g with
      | some g => le 1 g.val ++ le 1 (s.get (G_STATE g)) ++ le 1 (s.get (G_TARGET g)) ++ le 1 cause ++
          le 8 (s.gen g).firstTb ++ le 4 (s.get (G_STEPS g)) ++ le 2 (s.get C_OWNER)
      | none => le 1 0xFF ++ le 1 (s.get C_STATE) ++ le 1 0xFF ++ le 1 cause ++ le 8 (s.get C_TRIG_STAMP) ++
          le 4 (s.get C_RECORDS) ++ le 2 (s.get C_OWNER))

/-- The run of generator g ends in a state, with its entry; the value is 0 outside state 2 (R239, R243). -/
def State.endGen (s : State) (g : Fin 4) (st detail cause : Nat) : State :=
  (((s.set (G_STATE g) st).set (G_VALUE g) 0).modGen g (fun c => { c with stop := false })).jTune detail (some g) cause

/-- Generator g is armed or running. -/
def genBusy (s : State) (g : Fin 4) : Bool := decide (s.nat (G_STATE g) = 1 ∨ s.nat (G_STATE g) = 2)

/-- The slots of a logical lane. -/
def slotsOfLane (l : Nat) : List (Fin 48) := allSlots.filter (fun k => decide ((laneOf k).val = l))

/-- What the sink of slot k feeds has lost its compensator, under the island of the physical lane that is gone: a section is
isolated, an axis enters its level (R185). -/
def State.loseSink (s : State) (p : Nat) (k : Fin 48) : State :=
  let sink := bankAt (s.slot k).active 0x1A
  if sink / 4096 = 1 then
    (if h : (sink % 4096).toNat < 6 then
      s.isolateAt (6 + p) ⟨_, h⟩ 0x05 else s)
  else if sink / 4096 = 2 then
    (if h : (sink % 4096 / 16).toNat < 4 then
      let a : Fin 4 := ⟨_, h⟩
      if (s.ax a).level &&& lvCompensator ≠ 0 then s else (s.jAxisAt (6 + p) a 0x03).enterLevel a lvCompensator
    else s)
  else s

/-- A logical lane loses its physical lane: its slots stop, a generator that targets one aborts (R245), the sections they
drive are isolated, the axes they feed enter the axis level (R185). -/
def State.loseLane (s : State) (l p : Nat) : State :=
  let s := (s.set (K_LANE_MAP l) 0xFF).jLane 5 0x44 p l none 0xFF 0 0
  let s := { s with lanes := { s.lanes with
    gone := s.lanes.gone.setIfInBounds l p
    mismatched := if s.lanes.mismatched = some l then none else s.lanes.mismatched } }
  let s := s.each (slotsOfLane l) (fun k s => s.modSlot k (fun c => { c with request := none, inbound := [], runs := [] }))
  let s := s.each allGens (fun g s =>
    if genBusy s g ∧ s.nat (G_TARGET g) ≠ 0xFF ∧ s.nat (G_TARGET g) / 8 = l then s.endGen g 4 0x52 4 else s)
  s.each (slotsOfLane l) (fun k s => s.loseSink p k)

/-- The runs of slot k in flight on physical lane p are lost with it: the histories are those of the last checked run,
with a reset or preload that had already taken effect (R172, R184). -/
def State.dropRuns (s : State) (p : Nat) (k : Fin 48) : State :=
  s.modSlot k (fun c =>
    let lost := c.runs.filter (fun r => decide (r.lane = p))
    let kept := c.runs.filter (fun r => decide (r.lane ≠ p))
    match lost.foldl (fun m r => r.pre.or m) none with
    | none => { c with runs := kept }
    | some op =>
      -- an older run still in flight on the other lane writes its history first
      if kept ≠ [] ∧ c.runs.head? = kept.head? then { c with runs := kept, histOp := c.histOp.or (some op) }
      else { c with runs := kept, hist := op.apply })

/-- A rotation or the test after a mismatch ends with its spare (R184). -/
def State.loseSpare (s : State) (p : Nat) : State :=
  let gone := match s.lanes.rot with
    | some r => decide (r.spare = p)
    | none => false
  { s with lanes := { s.lanes with
      rot := if gone then none else s.lanes.rot
      mismatched := if s.nat (K_LANE_STATE p) = 3 then none else s.lanes.mismatched
      mismatchDue := s.lanes.mismatchDue && s.nat (K_LANE_STATE p) ≠ 3 } }

/-- A physical lane fails (R182, R184). -/
def State.failLane (s : State) (p : Nat) : State :=
  match (List.range 6).find? (fun l => decide (physOf s l = p)) with
  | none =>
    let s := s.each allSlots (fun k s => s.dropRuns p k)
    ((s.loseSpare p).setLane p 4).jLane 5 0x41 p 0xFF none 0xFF 0 0
  | some l =>
    let s := s.setLane p 4
    match spareLane s with
    | some q =>
      let s := { s with lanes := { s.lanes with rot := none, held := l :: s.lanes.held } }
      let s := s.each (slotsOfLane l) (fun k s => s.dropRuns p k)
      ((s.set (K_LANE_MAP l) q).setLane q 0).jLane 5 0x41 p l none q 0 0
    | none => s.loseLane l p

/-- LANE_TAKEOVER: the spare has taken a failed logical lane over, and its slots issue again (R184). -/
def execLaneTakeover (t : Nat) (l : Fin 6) (s : State) : Res :=
  let s := s.at_ t
  done { s with lanes := { s.lanes with held := s.lanes.held.filter (fun m => decide (m ≠ l.val)) } }

/-- A run of slot k on physical lane p fails its residue check: the output is withheld and counted; a second failure of
the physical lane within 1 ms fails the lane (R182). -/
def State.residueFault (s : State) (k : Fin 48) (p : Nat) : State :=
  let l := (laneOf k).val
  let s := (s.inc K_RESIDUE_FAULTS).jLane 5 0x40 p l (some k) 0xFF 0 0
  if h : p < 7 then
    let again := match s.lanes.residueAt[p] with
      | some at_ => decide (s.now ≤ at_ + ms 1)
      | none => false
    let s := { s with lanes := { s.lanes with residueAt := s.lanes.residueAt.set p (some s.now) } }
    if again then s.failLane p else s
  else s

/-! ### Output (R164, R165, R169, R170, R174, R191) -/

/-- An axis input is written by slot k; inputs 10–15 are clipped to ±A_TRIM_MAX, a negative input 2 counts as 0 (R191). -/
def State.axisInput (s : State) (k : Fin 48) (a : Fin 4) (q : Nat) (y : Int) : State :=
  s.modAx a (fun c =>
    match q with
    | 0 => { c with in0 := y }
    | 1 => { c with in1 := y }
    | 2 => { c with in2 := max 0 y, in2By := some k.val }
    | q => if h : 10 ≤ q ∧ q < 16 then
        { c with trims := c.trims.set (q - 10) (clampI (-(s.get (A_TRIM_MAX a))) (s.get (A_TRIM_MAX a)) y) (by omega) }
      else c)

/-- A slot without a physical lane feeds axis a (R185). -/
def axisInputLost (s : State) (a : Fin 4) : Bool :=
  allSlots.any (fun k =>
    let sink := bankAt (s.slot k).active 0x1A
    decide (sink / 4096 = 2 ∧ sink % 4096 / 16 = a.val) && decide (physOf s (laneOf k).val = 0xFF))

/-- An output goes to the sink of the active bank as the bank stands (R169); an axis whose lost input runs again leaves
that cause of its level (R185). -/
def State.deliver (s : State) (k : Fin 48) (y : Int) : State :=
  let sink := bankAt (s.slot k).active 0x1A
  let i := (sink % 4096).toNat
  match sink / 4096 with
  | 1 => s.emit (.live i y)
  | 2 => if h : i / 16 < 4 then
      let s := s.axisInput k ⟨i / 16, h⟩ (i % 16) y
      if (s.ax ⟨i / 16, h⟩).level &&& lvCompensator ≠ 0 ∧ !axisInputLost s ⟨i / 16, h⟩ then
        s.leaveLevel ⟨i / 16, h⟩ lvCompensator
      else s
    else s
  | _ => s

/-- A run of slot k that passed its check writes its history, its output and its delay, and the output goes on (R164, R165,
R169, R174, R240). -/
def State.completeRun (s : State) (k : Fin 48) (r : Run) (h : Hist) : State :=
  let (y, sat, cl) := slotResult r.set r.x h r.tlim
  let s := s.modSlot k (fun c => { c with hist := h.push r.x y, outAt := some s.now })
  let s := (s.set (K_X k) r.x).inc (K_RUNS k)
  let s := if sat then s.inc (K_SAT_COUNT k) else s
  let s := if cl then s.inc (K_CLAMP_COUNT k) else s
  let y := match r.inj with
    | some v => clampI (bankAt r.set 0x11) (bankAt r.set 0x12) (satI 32 (y + v))
    | none => y
  let s := s.set (K_Y k) y
  let d : Int := min 65535 (rnd (((s.now - r.arrived : Nat) : Rat) / 4))
  let s := (s.set (K_LAST_DELAY k) d).set (K_MAX_DELAY k) (max d (s.get (K_MAX_DELAY k)))
  (s.deliver k y).chain k y

/-- Slot k was run by both lanes in the twin comparison; its run is compared unless one output was withheld or a direct
write is too recent (R183). -/
def State.twinRun (s : State) (k : Fin 48) (r : Run) (compared : Bool) : State :=
  match s.lanes.rot with
  | some o =>
    let stepTwo := match o.twinAt with
      | some at_ => decide (at_ ≤ r.issued) && !o.handing
      | none => false
    if decide (o.logical = (laneOf k).val) && stepTwo then
      { s with lanes := { s.lanes with rot := some { o with
          ran := k.val :: o.ran.erase k.val
          compared := if compared then k.val :: o.compared.erase k.val else o.compared } } }
    else s
  | none => s

/-- The physical lane of the spare where it ran the same trigger as a run of slot k in service (R183). -/
def twinLane (s : State) (k : Fin 48) (r : Run) : Option Nat :=
  match s.lanes.rot with
  | some o => match o.twinAt with
    | some at_ => if o.logical = (laneOf k).val ∧ at_ ≤ r.issued ∧ !o.handing then some o.spare else none
    | none => none
  | none => none

/-- The oldest run of slot k completes 50 ns after its issue; with a failed residue check its output is withheld and the
histories keep the values from before it (R164, R165, R170, R182). A twin run that fails its own check is counted the same
way. -/
def State.slotOutput (s : State) (k : Fin 48) (pass twinPass : Bool) : State :=
  match (s.slot k).runs with
  | [] => s
  | r :: rest =>
    if r.issued + ns 50 ≤ s.now then
      let h := match r.pre with
        | some op => op.apply
        | none => (s.slot k).hist
      let twin := twinLane s k r
      let s := s.modSlot k (fun c => { c with runs := rest, hist := h })
      let s := s.twinRun k r (pass && twinPass && !r.apart)
      let s := if pass then s.completeRun k r h else s.residueFault k r.lane
      match twin with
      | some q => if twinPass then s else s.residueFault k q
      | none => s
    else s

/-- SLOT_OUTPUT: with whether the run, and its twin where one runs, passes its residue check. -/
def execSlotOutput (t : Nat) (k : Fin 48) (pass : Residue) (s : State) : Res :=
  done ((s.at_ t).slotOutput k pass.lane pass.twin)

/-! ### Histories, banks and direct writes (R172, R175, R178–R181) -/

/-- A direct write of K_RESET or K_PRELOAD: after any run in flight has written its history and before the next issue
(R172). -/
def State.histDirect (s : State) (k : Fin 48) (op : HistOp) : State :=
  s.modSlot k (fun c => if c.runs = [] then { c with hist := op.apply, histOp := none } else { c with histOp := some op })

/-- The inactive bank takes the active one and the staged values (R178). -/
def State.prepareSlot (s : State) (k : Fin 48) (vs : List (Nat × Int)) : State :=
  s.modSlot k (fun c =>
    { c with inactive := vs.foldl (fun b v => bankPut b v.1 v.2) c.active, prepared := some (vs.map (·.1)) })

/-- A prepared bank is no longer kept. -/
def State.unprepareSlot (s : State) (k : Fin 48) : State := s.modSlot k (fun c => { c with prepared := none })

/-- The trigger input of a bank: K_TRIG and the selector it names. -/
def triggerOf (b : Vector Int 25) : Int × Int := (bankAt b 0x18, bankAt b (0x13 + (bankAt b 0x18).toNat))

/-- The flip: active and inactive bank change places (R180); a waiting request whose trigger changes latches latest values
alone (R168). A sink on a logical lane without a physical lane has lost its compensator (R185). -/
def State.flipSlot (s : State) (k : Fin 48) : State :=
  let old := bankAt (s.slot k).active 0x1A
  let s := (s.modSlot k (fun c =>
    let kept := decide (triggerOf c.active = triggerOf c.inactive)
    { c with active := c.inactive, inactive := c.active,
             before := c.before.map (fun b => (b.1, b.2.2, b.2.1)),
             request := if kept then c.request else c.request.map (fun r => (r.1, r.2.1, none)),
             inbound := if kept then c.inbound else c.inbound.map (fun r => (r.1, none)) })).set (K_BANK k) (1 - s.get (K_BANK k))
  if physOf s (laneOf k).val = 0xFF ∧ bankAt (s.slot k).active 0x1A ≠ old then s.loseSink (s.lanes.gone.get (laneOf k)) k else s

/-- The direct writes on their way to the lane of slot k. -/
def comingTo (s : State) (k : Fin 48) : List (Nat × Nat × Int × Nat) := s.lanes.coming.get (laneOf k)

/-- The direct writes on their way to the lane of slot k are changed. -/
def State.setComing (s : State) (k : Fin 48) (l : List (Nat × Nat × Int × Nat)) : State :=
  { s with lanes := { s.lanes with coming := s.lanes.coming.set (laneOf k).val l (laneOf k).isLt } }

/-- A direct write of a banked subindex leaves the store for the lane in store acceptance order; K_SET_VER moves by 2 at
its acceptance (R175, R181). -/
def State.sendCoef (s : State) (k : Fin 48) (sub : Nat) (v : Int) : State :=
  (s.setComing k (comingTo s k ++ [(k.val, sub, v, s.now)])).addCount (K_SET_VER k) 2

/-- A direct write is applied in a lane cycle: it changes the active bank, and a prepared inactive bank unless the
transaction stages the subindex (R175, R179). It alone starts the 100 ns without comparison of R183; a direct write of K_RESET
or K_PRELOAD, of which R183 does not speak, does not (the model's choice, log entry 100). -/
def Slot.applied (c : Slot) (now cyc sub : Nat) (v : Int) : Slot :=
  let fresh := match c.before with
    | some b => decide (b.1 ≠ cyc)
    | none => true
  { c with
    before := if fresh then some (cyc, c.active, c.inactive) else c.before
    wroteAt := some now
    active := bankPut c.active sub v
    inactive := match c.prepared with
      | some st => if sub ∈ st then c.inactive else bankPut c.inactive sub v
      | none => c.inactive }

/-- The oldest direct write on its way to the lane reaches it, 24 ns ± 2 ns after its acceptance; one to another slot of the
lane comes first if it was accepted first (R175). -/
def State.applyCoef (s : State) (k : Fin 48) : State :=
  match comingTo s k with
  | [] => s
  | (j, sub, v, at_) :: rest =>
    if j = k.val ∧ at_ + ns 22 ≤ s.now then
      (s.setComing k rest).modSlot k (fun c => c.applied s.now (s.tbNs / 2) sub v)
    else s

/-- COEFFICIENT_WRITE_APPLIED. -/
def execCoefficientWriteApplied (t : Nat) (k : Fin 48) (s : State) : Res := done ((s.at_ t).applyCoef k)

/-- The slot's direct writes on their way that a commit overtakes are dropped (R372). -/
def State.overtake (s : State) (k : Fin 48) (subs : List Nat) : State :=
  s.setComing k ((comingTo s k).filter (fun w => !(decide (w.1 = k.val) && subs.contains w.2.1)))

/-- K_SET_VER at a flip: odd for the write-back, unless one is under way (R181). -/
def State.verFlip (s : State) (k : Fin 48) : State := if s.nat (K_SET_VER k) % 2 = 0 then s.addCount (K_SET_VER k) 1 else s

/-! ### Rotation (R183, R184) -/

/-- The rotation of the next logical lane that has a physical one starts: a spare waits, no rotation or mismatch test runs, no Derate (R183,
R184, R457). -/
def State.startRotation (s : State) : State :=
  match (List.range 7).find? (fun i => decide (s.nat (K_LANE_STATE i) = 1)) with
  | some q =>
    if s.lanes.rot.isNone ∧ s.lanes.mismatched.isNone ∧ s.nat PW_STATE ≠ 1 then
      match ((List.range 6).map (fun i => (s.lanes.next + i) % 6)).find? (fun l => decide (physOf s l ≠ 0xFF)) with
      | some l =>
        ({ s with lanes := { s.lanes with rot := some ⟨l, q, [], none, [], [], false, []⟩, next := (l + 1) % 6 } }).setLane q 2
      | none => s
    else s
  | none => s

/-- ROTATION_START: K_ROT_PERIOD has passed (R183). -/
def execRotationStart (t : Nat) (s : State) : Res :=
  runOn islSelfTest (s.at_ t) (fun s => if s.nat K_ROT_PERIOD ≠ 0 ∧ s.lanes.rotAt + 4000000000 * s.nat K_ROT_PERIOD ≤ s.now then
    ({ s with lanes := { s.lanes with rotAt := s.now } }).startRotation else s)

/-- Step 1 for slot k: both banks and the histories are copied in the lane cycle after its run writes its history; with all
eight copied the twin comparison starts (R183). In Derate a rotation in step 1 pauses (R457). -/
def State.rotationCopy (s : State) (k : Fin 48) : State :=
  match s.lanes.rot with
  | some r =>
    if s.nat PW_STATE = 1 then s
    else
    let wrote := match (s.slot k).outAt with
      | some o => decide (s.now ≤ o + ns 4)
      | none => false
    if decide ((laneOf k).val = r.logical ∧ k.val ∉ r.copied) && ((s.slot k).runs.isEmpty || wrote) then
      let c := k.val :: r.copied
      let r := { r with copied := c, twinAt := if c.length = 8 then some s.now else none }
      { s with lanes := { s.lanes with rot := some r } }
    else s
  | none => s

/-- ROTATION_COPY. -/
def execRotationCopy (t : Nat) (k : Fin 48) (s : State) : Res := done ((s.at_ t).rotationCopy k)

/-- The twin comparison ends: with a mismatch of a compared slot at once, else after K_TWIN_TIME with a compared run for
every slot that ran; each of these slots then hands over at its next issue (R183, R184). -/
def State.twinEnd (s : State) (mismatch : Option (Fin 48)) (y yt : Int) : State :=
  match s.lanes.rot with
  | some r =>
    match r.twinAt, mismatch with
    | some _, some k =>
      if !r.handing ∧ k.val ∈ r.compared then
        let s := { s with lanes := { s.lanes with rot := none, mismatched := some r.logical } }
        (s.setLane r.spare 3).jLane 1 0x43 (physOf s r.logical) r.logical mismatch r.spare y yt
      else s
    | some at_, none =>
      if !r.handing ∧ at_ + us (s.nat K_TWIN_TIME) ≤ s.now ∧ r.ran.all (fun k => decide (k ∈ r.compared)) then
        ({ s with lanes := { s.lanes with rot := some { r with handing := true } } }).handIfOver
      else s
    | none, _ => s
  | none => s

/-- TWIN_COMPARISON_END: the slot whose twins have differed, if any, with the outputs of the lane in service and of the
twin. -/
def execTwinComparisonEnd (t : Nat) (mismatch : Option (Fin 48)) (y yt : BitVec 32) (s : State) : Res :=
  runOn islSelfTest (s.at_ t) (fun s => s.twinEnd mismatch y.toInt yt.toInt)

/-- A lane's self-test ends (R184): the spare after a mismatch takes the slots or fails, a released lane becomes the
spare or fails. R186 does not say which entries have no logical and no other lane: 0xFF stands for both in 0x42 and in 0x41 of a released
or spare lane, and for the other lane in every 0x40 (the model's choice, log entry 100). -/
def State.selfTestEnd (s : State) (p : Nat) (pass : Bool) : State :=
  if s.nat (K_LANE_STATE p) ≠ 3 then s
  else match s.lanes.mismatched with
    | some l =>
      let s := { s with lanes := { s.lanes with mismatched := none } }
      if pass then
        ({ s with lanes := { s.lanes with mismatchDue := true } }).handLane l p
      else (s.setLane p 4).jLane 5 0x41 p l none 0xFF 0 0
    | none =>
      let due := s.lanes.mismatchDue
      let s := { s with lanes := { s.lanes with mismatchDue := false } }
      if pass then
        let s := (s.setLane p 1).jLane 1 0x42 p 0xFF none 0xFF 0 0
        if due then s.inc K_TWIN_MISMATCH else s
      else (s.setLane p 4).jLane 5 0x41 p 0xFF none 0xFF 0 0

/-- LANE_SELF_TEST_END. -/
def execLaneSelfTestEnd (t : Nat) (p : Fin 7) (pass : Bool) (s : State) : Res :=
  runOn islSelfTest (s.at_ t) (fun s => s.selfTestEnd p.val pass)

end Sys2Proof.Machine
end

