-- ==== Sys2Proof/Machine/Protect.lean ====
section
/-! DEFINITION. The converters and what they trip: voltage and current conversions, the back-EMF comparator, DC-link and
VPD trips, the brake chopper, and autoclear (R64–R67, R145, R152, R153, R155, R167). -/

namespace Sys2Proof.Machine
open Obj

/-! ### The brake chopper (R153) -/

/-- On-time up to now is added to S_BRK_TIME in whole ms, saturating; a modulated on-time that is over goes low. -/
def State.brakeAccount (s : State) (x : Fin 6) : State :=
  let c := s.sec x
  let stop := match c.brkEnd with
    | some e => min e s.now
    | none => s.now
  let frac := c.brkFrac + (if c.brk then stop - c.brkAcct else 0)
  let on := match c.brkEnd with
    | some e => c.brk && decide (s.now < e)
    | none => c.brk
  (s.modSec x (fun c => { c with brkFrac := frac % ms 1, brkAcct := s.now, brk := on })).set (S_BRK_TIME x)
    (min 0xFFFFFFFF (s.get (S_BRK_TIME x) + (frac / ms 1 : Nat)))

/-- BRKx follows a DC-link sample: hysteretic at once; modulated, the duty is computed for the next chopper period. -/
def State.brakeSample (s : State) (x : Fin 6) (v : Int) : State :=
  let s := s.brakeAccount x
  let on := s.get (S_BRK_ON x)
  let off := s.get (S_BRK_OFF x)
  match s.nat (S_BRK_MODE x) with
  | 1 =>
    let b := if on ≤ v then true else if v < off then false else (s.sec x).brk
    (s.modSec x (fun c => { c with brk := b, brkEnd := none })).set (S_BRK_DUTY x) (if b then 10000 else 0)
  | 2 =>
    let d : Int := if v ≤ off then 0 else if on ≤ v then 10000 else rnd (((v - off) * 10000 : Int) / ((on - off : Int) : Rat))
    s.modSec x (fun c => { c with brkDuty := d.toNat })
  | _ => (s.modSec x (fun c => { c with brk := false, brkEnd := none, brkDuty := 0 })).set (S_BRK_DUTY x) 0

/-- A modulated chopper period starts with the latest duty (R153). -/
def State.brakePeriod (s : State) (x : Fin 6) : State :=
  let f := s.nat (S_BRK_FREQ x)
  if s.nat (S_BRK_MODE x) = 2 ∧ (s.sec x).brkStart + 4000000000 / f ≤ s.now then
    let s := s.brakeAccount x
    let d := (s.sec x).brkDuty
    (s.modSec x (fun c =>
      { c with brkStart := s.now, brk := decide (0 < d), brkEnd := some (s.now + d * 400000 / f) })).set (S_BRK_DUTY x) d
  else s

/-- BRAKE_CHOPPER_PERIOD. -/
def execBrakeChopperPeriod (t : Nat) (x : Fin 6) (s : State) : Res :=
  runOn x.val (s.at_ t) (fun s => s.brakePeriod x)

/-! ### The back-EMF comparator (R64–R67) -/

/-- The section angle of a crossing of phase p (R66). -/
def crossAngle (p : Fin 3) (rising : Bool) : Nat :=
  match p, rising with
  | 0, true => 0
  | 0, false => 18000
  | 1, true => 12000
  | 1, false => 30000
  | 2, true => 24000
  | 2, false => 6000

/-- Sign of travel of a crossing after the one before it, by the order of their angles. -/
def crossSign (prev : Option (Nat × Nat)) (ang : Nat) : Int :=
  match prev with
  | some (a, _) => if wrapAng ((ang : Rat) - a) < 0 then -1 else 1
  | none => 1

/-- Every phase of section x floats and its comparators observe all three: its axis is in Coast (R84), or the switches of a
section in state 1 or 2 are off. -/
def allFloat (s : State) (x : Fin 6) : Bool :=
  (axisOf s x).any (fun a => sequenced s a && decide (s.nat (A_START_STAGE a) = 6)) || (decide (s.nat (S_STATE x) ≠ 3) && !mayDrive s x)

/-- The phases whose comparators observe: every phase while all float, the lost phase in a window of state 3, else the floating
phase of the step (R64, R67, R84). -/
def observed (s : State) (x : Fin 6) : List (Fin 3) :=
  let st := s.nat (S_STATE x)
  let step := s.nat (S_STEP x)
  if st = 0 ∨ st = 4 then []
  else if allFloat s x then phases
  else if st = 3 then
    (if step = 6 ∨ step = 7 then phases.filter (fun p => decide (p.val = s.nat (S_DEG_PHASE x))) else [])
  else phases.filter (fun p => decide (legOf step 0xFF (s.sec x).pos p = .float))

/-- The section angle has advanced by S_BEMF_DEMAG_MIN past the step change (R65). -/
def demagPast (s : State) (x : Fin 6) : Bool :=
  (axisOf s x).any (fun a => decide ((s.get (S_BEMF_DEMAG_MIN x) : Rat) ≤ absR (wrapAng (thetaX s x a - (s.sec x).bemf.stepAng))))

/-- The sample of phase p is one of the step in force and lies outside the edge blank (R65). -/
def sampleOk (s : State) (x : Fin 6) (p : Fin 3) : Bool :=
  let b := (s.sec x).bemf
  b.vOk.get p && decide (b.stepAt ≤ b.vAt.get p)

/-- The round gives a valid d for the observed phases after both blankings of R65: each of its three samples is of this step and
lies outside the edge blank, and while the step drives, the floating node has left its rail and the section angle has moved
on. -/
def roundValid (s : State) (x : Fin 6) : Bool :=
  phases.all (sampleOk s x) && (allFloat s x || ((s.sec x).bemf.leftRail && demagPast s x))

/-- Twice d of R64 for phase p: 2·v_float − (v_high + v_low). -/
def twiceD (s : State) (x : Fin 6) (p : Fin 3) : Int :=
  let v := (s.sec x).bemf.v
  3 * (v.get p : Int) - ((v.get 0 : Int) + v.get 1 + v.get 2)

/-- The comparator of phase p of section x changes. -/
def State.putCmp (s : State) (x : Fin 6) (p : Fin 3) (c : PhaseCmp) : State :=
  s.modSec x (fun sec => { sec with bemf := { sec.bemf with cmp := sec.bemf.cmp.set p.val c p.isLt } })

/-- A round is discarded for phase p (R65). -/
def State.discardSample (s : State) (x : Fin 6) (p : Fin 3) : State := s.putCmp x p { (s.sec x).bemf.cmp.get p with gap := true }

/-- One valid sample of phase p is judged; S_BEMF_CONFIRM of them on the far side declare the crossing (R66). The starting sign
is that of the first valid sample that is not 0, R66 not saying how it is found (the model's choice, log entry 90). A crossing
that discarded rounds hide produces no event in its step (R65; log entry 90). -/
def State.judgeSample (s : State) (x : Fin 6) (p : Fin 3) : State :=
  let b := (s.sec x).bemf
  let c := { b.cmp.get p with gap := false }
  let d := twiceD s x p
  let h := 2 * s.get (S_BEMF_HYST x)
  match c.startPos with
  | none => s.putCmp x p (if d = 0 then c else { c with startPos := some (decide (0 < d)) })
  | some pos =>
    if c.declared ∨ !(if pos then decide (d < -h) else decide (h < d)) then s.putCmp x p { c with run := 0 }
    else if c.run = 0 ∧ (b.cmp.get p).gap then
      s.putCmp x p (if allFloat s x then { c with startPos := some (!pos) } else { c with declared := true })
    else
      let first := if c.run = 0 then b.vAt.get p else c.firstAt
      if s.nat (S_BEMF_CONFIRM x) ≤ c.run + 1 then
        let s := s.putCmp x p (if allFloat s x then { c with run := 0, startPos := some (!pos) } else { c with run := 0, declared := true })
        (s.inc (S_BEMF_EVENTS x)).modSec x (fun sec =>
          { sec with
            xings := (s.now, crossSign sec.bemf.ev1 (crossAngle p (!pos))) :: sec.xings
            bemf := { sec.bemf with ev2 := sec.bemf.ev1, ev1 := some (crossAngle p (!pos), first - 333) } })
      else s.putCmp x p { c with run := c.run + 1, firstAt := first }

/-- The round of the voltage ADC is complete: the comparator judges its samples (R64–R66). -/
def State.bemfRound (s : State) (x : Fin 6) : State :=
  match axisOf s x with
  | none => s
  | some a =>
    let dc := s.nat (S_DC_LINK x)
    let fl := observed s x
    let left := fl.any (fun p =>
      let v := (s.sec x).bemf.v.get p
      sampleOk s x p && if (s.sec x).bemf.clampHigh then decide (20 * v < 19 * dc) else decide (dc < 20 * v))
    let s := if left then s.modSec x (fun c => { c with bemf := { c.bemf with leftRail := true } }) else s
    if s.flag (S_BEMF_EN x) ∧ (s.get (S_BEMF_MIN_FE x) : Rat) ≤ absR (feOf s a) then
      (if roundValid s x then s.each fl (fun p s => s.judgeSample x p) else s.each fl (fun p s => s.discardSample x p))
    else s

/-- One sample of a switch node is checked against the level accepted on its status pin (R520, R521). -/
def State.checkNode (s : State) (x : Fin 6) (p : Fin 3) (v : Nat) : State :=
  let n := hbOf x p
  let lv := s.nat (S_HSS_LEVEL n)
  let blank := ns (s.nat (S_BEMF_EDGE_BLANK x))
  let settled := decide ((s.hb n).lvlAt + us 1 ≤ s.now) && decide ((s.hb n).hi.edgeAt + blank ≤ s.now) &&
    decide ((s.hb n).lo.edgeAt + blank ≤ s.now)
  if s.nat (S_STATE x) = 0 ∨ s.nat (S_STATE x) = 4 ∨ !settled ∨ (lv ≠ 1 ∧ lv ≠ 2) then s
  else
    let d : Nat := if lv = 2 then ((v : Int) - s.get (S_DC_LINK x)).natAbs else v
    let k := if s.nat FW_ST_VSW_TOL < d then (s.hb n).vswBad + 1 else 0
    let s := s.modHb n (fun h => { h with vswBad := k })
    if k = 8 then s.selfTestFail x 4 (25 + x.val) d else s

/-- A conversion of the voltage ADC: channels 0–2 are the switch nodes, 3 the DC link, which ends the round (R64). -/
def State.voltage (s : State) (x : Fin 6) (ch : Fin 4) (v : Nat) : State :=
  if h : ch.val < 3 then
    let clear := match (s.sec x).bemf.edgeAt with
      | some e => decide (e + ns (s.nat (S_BEMF_EDGE_BLANK x)) ≤ s.now)
      | none => true
    (s.modSec x (fun c =>
      { c with
        bemf := { c.bemf with v := c.bemf.v.set ch.val v h, vAt := c.bemf.vAt.set ch.val s.now h,
                              vOk := c.bemf.vOk.set ch.val clear h }
        flux := { c.flux with vsum := c.flux.vsum.set ch.val (c.flux.vsum[ch.val] + v) h,
                              vcnt := c.flux.vcnt.set ch.val (c.flux.vcnt[ch.val] + 1) h } })).checkNode x ⟨ch.val, h⟩ v
  else
    let s := s.set (S_DC_LINK x) v
    ((s.bemfRound x).brakeSample x v).arrive (0x4000 + x.val) ((v : Int) * 524288)

/-- A conversion of a voltage ADC ends on this base tick: they follow one another after 33, 33 and 34 ticks in turn (R439). The model
counts the turns from timebase 0 and lets a conversion end where the next begins (log entry 106). -/
def voltageTick (s : State) : Bool := decide (s.tb % 5 = 0) && [0, 33, 66].contains (s.tick % 100)

/-- VOLTAGE_ADC_CONVERSION: at no other instant does one end. -/
def execVoltageAdcConversion (t : Nat) (x : Fin 6) (ch : Fin 4) (v : BitVec 12) (s : State) : Res :=
  runOn (25 + x.val) (s.at_ t) (fun s => if voltageTick s then s.voltage x ch v.toNat else s)

/-! ### Currents (R145, R167) -/

/-- The pair current: that of the high leg of the step in force, positive into the winding; 0 while no pair conducts. -/
def pairOf (s : State) (x : Fin 6) : Int :=
  match legsOf (s.nat (S_STEP x)) (s.nat (S_DEG_PHASE x)) (s.sec x).pos with
  | some (h, _) => (s.hb (hbOf x h)).cur
  | none => 0

/-- The aperture of the conversion that ends now (its 60 ns of R173) lies wholly inside an on-time that R49 accepts. -/
def pairAccepted (s : State) (x : Fin 6) : Bool :=
  let p := (s.sec x).pwm
  p.hasPulse && p.onTime && !p.absent && mayDrive s x &&
    match chopped s x with
    | some (n, high) => ((s.hb n).pin high).on && decide (((s.hb n).pin high).edgeAt + ns 60 ≤ s.now) && !latched s n
    | none => false

/-- Consecutive conversions beyond ±Ioc are counted, and the confirming one trips every half-bridge whose current lies
beyond (R145). -/
def State.overcurrent (s : State) (x : Fin 6) : State :=
  let s := s.each phases (fun p s => s.modHb (hbOf x p) (fun h =>
    { h with oc := if beyondIoc s x h.cur then h.oc + 1 else 0 }))
  let confirm := s.nat (S_OC_CONFIRM x)
  if phases.any (fun p =>
      let h := s.hb (hbOf x p)
      decide (h.oc = confirm) || (decide (confirm < h.oc) && decide (s.nat (S_Q_CAUSE (hbOf x p)) &&& 3 = 0))) then
    s.trip x ((phases.filter (fun p => beyondIoc s x (s.hb (hbOf x p)).cur)).map (fun p =>
      (p, if 0 ≤ (s.hb (hbOf x p)).cur then causeOcPos else causeOcNeg)))
  else s

/-- In steps 0 and 3, after the blanking of R65, the currents of U and V sum to 0; 16 conversions in a row that do not fail
the check (R520, R521). -/
def State.checkSum (s : State) (x : Fin 6) (sum : Int) : State :=
  let st := s.nat (S_STEP x)
  let b := (s.sec x).bemf
  let past := (match b.edgeAt with
      | some e => decide (e + ns (s.nat (S_BEMF_EDGE_BLANK x)) ≤ s.now)
      | none => true) && demagPast s x
  if s.nat (S_STATE x) = 0 ∨ s.nat (S_STATE x) = 4 ∨ (st ≠ 0 ∧ st ≠ 3) ∨ !past then s
  else
    let k := if s.nat FW_ST_SUM_TOL < sum.natAbs then (s.sec x).sumBad + 1 else 0
    let s := s.modSec x (fun c => { c with sumBad := k })
    if k = 16 then s.selfTestFail x 2 (13 + 2 * x.val) sum.natAbs else s

/-- A conversion pair of the two current ADCs: phase W follows from Kirchhoff's law (R145, R167); its code is neither saturated
nor wrapped where the sum leaves the range of an ADC, and the values reach the lanes at the instant of the command, the 10 ns
of R173 not being added (the model's choices, log entry 100). -/
def State.current (s : State) (x : Fin 6) (iu iv : Int) : State :=
  let s := s.modHb (hbOf x 0) (fun h => { h with cur := iu })
  let s := s.modHb (hbOf x 1) (fun h => { h with cur := iv })
  let s := s.modHb (hbOf x 2) (fun h => { h with cur := -(iu + iv) })
  let s := (s.overcurrent x).checkSum x (iu + iv)
  let i := pairOf s x
  let s := s.modSec x (fun c => { c with pairCur := i })
  let s := if lockHolds s x && (s.sec x).pwm.onTime then s.endOnTime x else s
  let s := s.each phases (fun p s => s.arrive (0x3000 + (hbOf x p).val) ((s.hb (hbOf x p)).cur * 262144))
  if pairAccepted s x then
    (s.modSec x (fun c => { c with pairAcc := i, pairSum := c.pairSum + i, pairCnt := c.pairCnt + 1 })).arrive
      (0x2000 + x.val) (i * 262144)
  else s

/-- A conversion of the current ADCs ends: 60 ns after a multiple of 50 ns (R173, R439). -/
def currentTick (s : State) : Bool := decide (s.tb % ns 50 = ns 10)

/-- CURRENT_ADC_CONVERSION: the codes of phases U and V. At no other instant does a conversion end. -/
def execCurrentAdcConversion (t : Nat) (x : Fin 6) (iu iv : BitVec 14) (s : State) : Res :=
  runOn (13 + 2 * x.val) (s.at_ t) (fun s => if currentTick s then s.current x iu.toInt iv.toInt else s)

/-! ### Other trips, and autoclear -/

/-- DC_LINK_OVERVOLTAGE: the comparator output has held through its filter (R152). -/
def execDcLinkOvervoltage (t : Nat) (x : Fin 6) (s : State) : Res :=
  runOn (25 + x.val) (s.at_ t) (fun s => s.tripOvervoltage x)

/-- VPD falls below its monitor threshold: all half-bridges trip, bit 5 of PW_RAIL_STATUS is set, and the pins are high
impedance (R116, R145, R158). -/
def State.vpdTrip (s : State) : State :=
  let s := (s.orBits PW_RAIL_STATUS 0x20).tripVpd
  s.each allHbs (fun n s => s.modHb n (fun h => { h with hi := { h.hi with st := .highZ }, lo := { h.lo with st := .highZ } }))

/-- VPD_MONITOR_TRIP: it trips the half-bridges of a device that is out of reset; elsewhere only the bit shows it, and the pins stay
in High impedance (R117, R459). -/
def execVpdMonitorTrip (t : Nat) (s : State) : Res :=
  runOn islPower (s.at_ t) (fun s => if deviceUp s then s.vpdTrip else s.orBits PW_RAIL_STATUS 0x20)

/-- UV_AUTOCLEAR. -/
def execUvAutoclear (t : Nat) (n : Fin 18) (s : State) : Res :=
  runOn (secOf n).val (s.at_ t) (fun s => s.autoClear n)

end Sys2Proof.Machine
end

