-- ==== Sys2Proof/Machine/Reals.lean ====
section
/-! DEFINITION. The real functions that the spec names, as rational sums: argument of a vector, sine, exponential, logarithm and
square root. Each differs from the real number by less than any resolution the spec gives its result (log entry 8). -/

namespace Sys2Proof.Machine

/-- A power sum a₀ + x·(a₁ + x·(a₂ + …)). -/
def horner (x : Rat) (l : List Rat) : Rat := l.foldr (fun a r => a + x * r) 0

/-- A real number kept to 2⁻⁹⁶. -/
def keep96 (r : Rat) : Rat := (r * (2 ^ 96 : Nat)).floor / ((2 ^ 96 : Nat) : Rat)

/-- π to 30 digits. -/
def piR : Rat := 3141592653589793238462643383280 / 1000000000000000000000000000000

/-- arctan t for |t| ≤ 1/2, by its power series. -/
def arctanSmall (t : Rat) : Rat :=
  let u := keep96 (t * t)
  t * horner u ((List.range 40).map (fun k => (if k % 2 = 0 then 1 else -1) / ((2 * k + 1 : Nat) : Rat)))

/-- arctan t for 0 ≤ t ≤ 1: arctan t = arctan ½ + arctan ((t − ½)/(1 + t/2)). -/
def arctanUnit (t : Rat) : Rat :=
  if t ≤ 1 / 2 then arctanSmall (keep96 t) else arctanSmall (1 / 2) + arctanSmall (keep96 ((t - 1 / 2) / (1 + t / 2)))

/-- The argument of the vector (x, y) in radians, within 0 to 2π; 0 for the zero vector. -/
def argument (y x : Rat) : Rat :=
  let ax := absR x
  let ay := absR y
  let first : Rat := if ax = 0 ∧ ay = 0 then 0 else if ay ≤ ax then arctanUnit (ay / ax) else piR / 2 - arctanUnit (ax / ay)
  if 0 ≤ x then (if 0 ≤ y then first else 2 * piR - first) else (if 0 ≤ y then piR - first else piR + first)

/-- An angle in radians in 0.01° (R14). -/
def toCentideg (r : Rat) : Rat := r * 18000 / piR

/-- exp x for |x| ≤ 1, by its power series. -/
def expSmall (x : Rat) : Rat :=
  ((List.range 40).foldl (fun (p : Rat × Rat) (k : Nat) => (p.1 + p.2, keep96 (p.2 * x / ((k + 1 : Nat) : Rat)))) (0, 1)).1

/-- exp x: the series of x/2ⁿ, squared n times. -/
def exp (x : Rat) : Rat :=
  let n := Nat.log2 (absR x).ceil.toNat + 1
  (List.range n).foldl (fun r _ => keep96 (r * r)) (expSmall (keep96 (x / ((2 ^ n : Nat) : Rat))))

/-- ln r for 0 < r ≤ 2: twice the series of the inverse hyperbolic tangent of (r − 1)/(r + 1). -/
def lnSmall (r : Rat) : Rat :=
  let z := keep96 ((r - 1) / (r + 1))
  2 * z * horner (keep96 (z * z)) ((List.range 60).map (fun (k : Nat) => 1 / ((2 * k + 1 : Nat) : Rat)))

/-- ln r for r > 0: r is brought within ½ to 2 by a power of two. -/
def ln (r : Rat) : Rat :=
  if 1 ≤ r then
    let n := Nat.log2 r.floor.toNat
    lnSmall (r / ((2 ^ n : Nat) : Rat)) + n * lnSmall 2
  else
    let n := Nat.log2 (1 / r).floor.toNat
    lnSmall (r * ((2 ^ n : Nat) : Rat)) - n * lnSmall 2

/-- sin of an angle in radians within −π to π, by its power series. -/
def sinSmall (x : Rat) : Rat :=
  x * horner (keep96 (x * x)) ((List.range 30).map (fun (k : Nat) => (if k % 2 = 0 then 1 else -1) / ((Nat.factorial (2 * k + 1) : Nat) : Rat)))

/-- sin of a phase in turns; exact at every quarter turn. -/
def sineTurns (turns : Rat) : Rat :=
  let f := turns - turns.floor
  if f = 0 ∨ f = 1 / 2 then 0 else if f = 1 / 4 then 1 else if f = 3 / 4 then -1
  else sinSmall (keep96 (2 * piR * (if f ≤ 1 / 2 then f else f - 1)))

/-- The square root of a real number r ≥ 0. -/
def root (r : Rat) : Rat := (Nat.sqrt (r * (2 ^ 128 : Nat)).floor.toNat : Nat) / ((2 ^ 64 : Nat) : Rat)

end Sys2Proof.Machine
end

