-- ==== Sys2Proof/Machine/Observer.lean ====
section
/-! DEFINITION. The flux observer, axis and cascade fusion, and the sensorless start sequence (R68–R90). -/

namespace Sys2Proof.Machine
open Obj

/-! ### The flux observer (R68) -/

/-- Mean of the switch-node samples of phase p over the update, in V; the latest sample when it has none. -/
def nodeMean (s : State) (x : Fin 6) (p : Fin 3) : Rat :=
  let f := (s.sec x).flux
  let m : Rat := if f.vcnt.get p = 0 then ((s.sec x).bemf.v.get p : Nat) else ((f.vsum.get p : Int) : Rat) / (f.vcnt.get p : Nat)
  m * Config.voltsPerCode x.val

/-- What the leaking integrator keeps over one update of 1 µs, for its time constant in ms: exp(−1 µs/τ) (R68; log entry 8). -/
def fluxKeep (drift : Nat) : Rat := exp (-(1 / ((1000 * drift : Nat) : Rat)))

/-- One update of the flux observer, 1 µs (R68): α and √3·β components, leak, validity and the angle, the argument of ψαβ plus
90 °e; √3·ψα is the abscissa beside √3·ψβ. -/
def State.fluxUpdate (s : State) (x : Fin 6) : State :=
  let f := (s.sec x).flux
  let u := nodeMean s x 0
  let v := nodeMean s x 1
  let w := nodeMean s x 2
  let i (p : Fin 3) : Rat := ((s.hb (hbOf x p)).cur : Rat) * Config.ampsPerCode x.val
  let r : Rat := (s.get (S_OBS_R x) : Rat) / 1000000
  let l : Rat := (s.get (S_OBS_L x) : Rat) / 1000000000
  let keep := fluxKeep (s.nat (S_OBS_DRIFT x))
  let intA := keep * f.intA + ((u - (u + v + w) / 3) - r * i 0) / 1000000
  let intB := keep * f.intB + ((v - w) - r * (i 1 - i 2)) / 1000000
  let psiA := intA - l * i 0
  let psiB := intB - l * (i 1 - i 2)
  let m2 := psiA * psiA + psiB * psiB / 3
  let psi : Rat := (s.get (S_OBS_PSI x) : Rat) / 1000000
  let tol : Rat := (s.get (S_OBS_PSI_TOL x) : Rat) / 100
  let lo := psi * (1 - tol)
  let hi := psi * (1 + tol)
  let fe : Rat := match axisOf s x with
    | some a => absR (feOf s a)
    | none => 0
  let ok := decide (lo * lo ≤ m2) && decide (m2 ≤ hi * hi) && decide ((s.get (S_OBS_MIN_FE x) : Rat) ≤ fe)
  let ang := modAng (toCentideg (argument psiB (root 3 * psiA)) + 9000)
  s.modSec x (fun c =>
    { c with flux := { psiA := psiA, psiB := psiB, intA := intA, intB := intB, angles := (ang :: c.flux.angles).take 65,
                       valid := ok, vsum := Vector.replicate 3 0, vcnt := Vector.replicate 3 0 } })

/-- FLUX_OBSERVER_UPDATE. -/
def execFluxObserverUpdate (t : Nat) (x : Fin 6) (s : State) : Res :=
  runOn (31 + x.val) (s.at_ t) (fun s => s.fluxUpdate x)

/-- The flux speed in 0.1 Hz: the mean angle change over the last 64 updates of 1 µs (R68). -/
def fluxSpeed (f : Flux) : Rat :=
  let d := (f.angles.zip f.angles.tail).map (fun p => wrapAng (p.1 - p.2))
  if d.length = 0 then 0 else d.sum / d.length * 10000000 / 36000

/-- |ψαβ|² (R68, R198). -/
def fluxMag2 (f : Flux) : Rat := f.psiA * f.psiA + f.psiB * f.psiB / 3

/-! ### What a section presents (R69) -/

/-- Speed in 0.1 Hz from the last two comparator events (R69): 60 °e over their interval, signed by the order of their angles; in
state 3, whose events lie 180 °e apart either way, 180 °e, signed as the fused speed is (log entry 90). -/
def eventSpeed (s : State) (a : Fin 4) (x : Fin 6) : Option Rat :=
  let b := (s.sec x).bemf
  match b.ev1, b.ev2 with
  | some (a1, t1), some (a2, t2) =>
    if t2 < t1 then
      let speed : Rat := (if s.nat (S_STATE x) = 3 then 5 else 5 / 3) * 4000000000 / (t1 - t2 : Nat)
      let back := if s.nat (S_STATE x) = 3 then decide ((s.ax a).fusFe < 0) else decide (wrapAng ((a1 : Rat) - a2) < 0)
      some (if back then -speed else speed)
    else none
  | _, _ => none

/-- The comparator event and its speed, while it is recent: within 120 °e (state 3: 360 °e) of travel at the fused speed (R69). A
section with one crossing so far has no interval to take a speed from, of which R69 does not speak, and counts as without a
recent event: the model's choice (log entry 90). -/
def recentEvent (s : State) (a : Fin 4) (x : Fin 6) : Option (Nat × Nat × Rat) :=
  match (s.sec x).bemf.ev1, eventSpeed s a x with
  | some (ang, t), some f =>
    let lim : Rat := if s.nat (S_STATE x) = 3 then 36000 else 12000
    if absR (angleIn (s.ax a).fusFe ((s.now : Int) - t)) ≤ lim then some (ang, t, f) else none
  | _, _ => none

/-- Section x presents θs, fs and w; S_EST_ANGLE, S_EST_FE and S_EST_WEIGHT follow (R69). -/
def State.present (s : State) (a : Fin 4) (x : Fin 6) : State :=
  let flux := (s.sec x).flux
  let wf := if flux.valid then s.nat (A_FUS_W_FLUX a) else 0
  let e := recentEvent s a x
  let w := (if e.isSome then s.nat (A_FUS_W_BEMF a) else 0) + wf
  let s := s.set (S_EST_WEIGHT x) w
  if w = 0 then s
  else
    let (th, f) : Rat × Rat := match e with
      | some (ang, t, f) => (modAng (ang + angleIn f ((s.now : Int) - t)), f)
      | none => (flux.angles.head?.getD 0, fluxSpeed flux)
    let est := modAng (th + s.get (S_STAGGER x))
    ((s.modSec x (fun c => { c with thetaS := est, fS := f })).set (S_EST_ANGLE x) (angObj est)).set (S_EST_FE x) (rnd f)

/-! ### The start sequence: stages (R79–R86) -/

/-- The start demand of R80: the sign of the travel or torque asked for, 0 for none. -/
def startDemand (s : State) (a : Fin 4) : Int :=
  match mode s a with
  | 0 => sgnI (s.get (A_TORQUE_DEM a))
  | 1 => if (s.get (A_HO_SPEED_UP a) : Rat) ≤ absR (speedRef s a) then sgnR (speedRef s a) else 0
  | 2 => sgnR (speedRef s a)
  | 3 => sgnR (demandedTravel s a)
  | 4 => sgnI (s.ax a).in1
  | _ => 0

/-- The enabled slots whose sink is an axis input (R169). -/
def slotsOfInput (s : State) (a : Fin 4) (q : Nat) : List (Fin 48) :=
  allSlots.filter (fun k => s.flag (K_ENABLE k) && decide (bankAt (s.slot k).active 0x1A = 0x2000 + 16 * a.val + q))

/-- The axis loops take over at the start of Blend from the torque in force (R195). -/
def State.blendPreload (s : State) (a : Fin 4) : State :=
  let n := countOf s (some a)
  let t0 := rnd (startObj s a (A_RAMP_CURRENT a) (·.rampCurrent) / 100 * n * (s.ax a).start.dir * 65536)
  let s := s.modAx a (fun c => { c with blendT0 := t0 })
  let q := if mode s a = 4 then 1 else 0
  if mode s a = 0 then s else s.each (slotsOfInput s a q) (fun k s => s.histDirect k (.preload t0))

/-- A stage takes effect on this device from an instant on, which may have passed (R79), with the journal entry of its change
(R90, which gives offset 8 of the entries 0x05 to 0x09 no value: 0 there is the model's choice, log entry 88); a contributing
device takes the ramp's direction and target from its host. -/
def State.enterStageAt (s : State) (a : Fin 4) (st t0 : Nat) : State :=
  let old := s.nat (A_START_STAGE a)
  let th := thetaA (s.asOf t0) a
  let f := feOf (s.asOf t0) a
  let s := s.set (A_START_STAGE a) st
  let s := s.modAx a (fun c => { c with start := { c.start with at_ := t0, decided := none, checks := 0, coast := 0 } })
  let ramp (s : State) (th f tgt : Rat) : State :=
    s.modAx a (fun c => { c with start := { c.start with theta0 := th, f0 := f, tgt := tgt } })
  let up : Rat := s.get (A_HO_SPEED_UP a)
  let host := hostStart s a
  let s := if follows s a then s.modAx a (fun c => { c with start := { c.start with dir := host.dir } }) else s
  let target : Rat := if follows s a then host.target else (s.ax a).start.dir * up
  let s := match st with
    | 0 => s.modAx a (fun c => { c with start := { c.start with fails := 0 } })
    | 1 => ramp s 0 0 0
    | 2 =>
      if old = 1 then ramp s (startObj s a (A_ALIGN_ANGLE a) (·.alignAngle)) 0 target
      else if follows s a then ramp s th f target
      else
        let d := startDemand s a
        ramp (if d = 0 then s else s.modAx a (fun c => { c with start := { c.start with dir := d } })) th f (d * up)
    | 3 => ramp s th f f
    | 4 => (ramp s th f f).blendPreload a
    | 7 => s.modAx a (fun c => { c with start := { c.start with fails := c.start.fails + 1 } })
    | _ => s
  let s := s.each (secsOf s a) (fun x s => s.drive x)
  match st, old with
  | 0, 6 => s.jFus (some a) none 0xFF 0 0x06
  | 2, 5 => s.jFus (some a) none 0xFF 0 0x09
  | 5, 4 => s.jFus (some a) none 0xFF 0 0x08
  | 6, _ => s.jFus (some a) none 0xFF 0 0x05
  | 7, _ => s.jFus (some a) none 0xFF 0 0x07
  | _, _ => s

/-- A stage takes effect now. -/
def State.enterStage (s : State) (a : Fin 4) (st : Nat) : State := s.enterStageAt a st s.now

/-- A_START_STAGE of an axis whose own start mode governs: 0xFF in Encoder mode, and Idle as Sensorless begins (R79). -/
def State.syncStage (s : State) (a : Fin 4) : State :=
  if follows s a then s
  else if sensorless s a then (if s.nat (A_START_STAGE a) = 0xFF then s.enterStage a 0 else s)
  else if s.nat (A_START_STAGE a) = 0xFF then s
  else
    let s := (s.set (A_START_STAGE a) 0xFF).modAx a (fun c => { c with start := { c.start with decided := none } })
    s.each (secsOf s a) (fun x s => s.drive x)

/-- A stage is decided: at once on a local axis, at the start of the second NazLink cycle after the decision on a cascade
axis (R79). While a stop function runs, a stage of 1 to 4 is stage 0 (R495). -/
def State.decideStage (s : State) (a : Fin 4) (st : Nat) : State :=
  let st := if (s.ax a).safe.stopFn && decide (1 ≤ st ∧ st ≤ 4) then 0 else st
  if !onCascade s a then s.enterStage a st
  else if (s.ax a).start.decided.isSome then s
  else s.modAx a (fun c => { c with start := { c.start with decided := some (st, 2) } })

/-- This device runs the start sequence of axis a in stage st, and no change is on its way (R79); in Manual-duty the sequence is
not run (R80). -/
def inStage (s : State) (a : Fin 4) (st : Nat) : Bool :=
  sensorless s a && isHost s a && decide (mode s a ≠ 5) && decide (s.nat (A_START_STAGE a) = st) && (s.ax a).start.decided.isNone

/-- A time in ms has passed since the stage began. -/
def stagePast (s : State) (a : Fin 4) (t : Nat) : Bool := decide ((s.ax a).start.at_ + ms t ≤ s.now)

/-- The reference run enters its next phase from an instant on, which may have passed: 2 Ramp from A_ALIGN_ANGLE, 4 Blend, 0 end (R225); the blend is that of R83, and on
the host the axis loops take over at its start (R195). -/
def State.refPhaseAt (s : State) (a : Fin 4) (p t0 : Nat) : State :=
  let th := thetaA (s.asOf t0) a
  let f := feOf (s.asOf t0) a
  let from1 := startObj s a (A_ALIGN_ANGLE a) (·.alignAngle)
  let target : Rat := if follows s a then (hostStart s a).target else (s.get (A_DIR a) : Rat) * s.get (A_HO_SPEED_UP a)
  let s := s.modAx a (fun c => { c with start := { c.start with
    refPhase := p, refDue := none, at_ := t0, refAt := if p = 2 then t0 else c.start.refAt,
    theta0 := if p = 2 then from1 else th,
    f0 := if p = 2 then 0 else f,
    dir := if p = 2 then sgnR target else c.start.dir,
    tgt := if p = 2 then target else f } })
  let s := if p = 4 ∧ isHost s a then s.blendPreload a else s
  s.each (secsOf s a) (fun x s => s.drive x)

/-- The same from now on. -/
def State.refPhase (s : State) (a : Fin 4) (p : Nat) : State := s.refPhaseAt a p s.now

/-- A phase of the reference run is decided: at once on a local axis, at the start of the second NazLink cycle after the decision
on a cascade axis (R79, R225). -/
def State.decideRef (s : State) (a : Fin 4) (p : Nat) : State :=
  if !onCascade s a then s.refPhase a p
  else s.modAx a (fun c => { c with start := { c.start with refDue := some (p, 2) } })

/-- ALIGN_END: A_ALIGN_TIME has passed in Align, of a start or of a reference run (R81, R225). -/
def execAlignEnd (t : Nat) (a : Fin 4) (s : State) : Res :=
  runOn islFusion (s.at_ t) (fun s => if stagePast s a (s.nat (A_ALIGN_TIME a)) then
      (if (s.ax a).start.refPhase = 1 ∧ (s.ax a).start.refDue.isNone ∧ isHost s a then s.decideRef a 2
       else if inStage s a 1 then s.decideStage a 2 else s)
    else s)

/-- RAMP_HANDOVER_SPEED: the ramp has reached A_HO_SPEED_UP in the direction it heads for, and Confirm is decided (R82,
R86). -/
def execRampHandoverSpeed (t : Nat) (a : Fin 4) (s : State) : Res :=
  runOn islFusion (s.at_ t) (fun s => if inStage s a 2 ∧ 0 < rampSpeed s a * (s.ax a).start.tgt ∧
      (s.get (A_HO_SPEED_UP a) : Rat) ≤ absR (rampSpeed s a) then s.decideStage a 3 else s)

/-- HANDOVER_CHECK: one check of Confirm; A_HO_CONFIRM consecutive passes decide Blend (R83). -/
def execHandoverCheck (t : Nat) (a : Fin 4) (s : State) : Res :=
  runOn islFusion (s.at_ t) (fun s => if inStage s a 3 then
      let valid := if onCascade s a then cascadeFresh s a else s.flag (A_FUS_VALID a)
      let ok := valid && decide (absR ((s.ax a).fusFe - rampSpeed s a) ≤ s.get (A_HO_SPEED_TOL a))
      let n := if ok then (s.ax a).start.checks + 1 else 0
      let s := s.modAx a (fun c => { c with start := { c.start with checks := n } })
      if s.nat (A_HO_CONFIRM a) ≤ n then s.decideStage a 4 else s
    else s)

/-- HANDOVER_TIMEOUT (R83). -/
def execHandoverTimeout (t : Nat) (a : Fin 4) (s : State) : Res :=
  runOn islFusion (s.at_ t) (fun s => if inStage s a 3 ∧ stagePast s a (s.nat (A_HO_TIMEOUT a)) then s.decideStage a 7 else s)

/-- BLEND_END (R83). -/
def execBlendEnd (t : Nat) (a : Fin 4) (s : State) : Res :=
  runOn islFusion (s.at_ t) (fun s => if inStage s a 4 ∧ stagePast s a (s.nat (A_HO_BLEND a)) then s.decideStage a 5 else s)

/-- COAST_RECOVERY: one 1 ms check in Coast; eight in a row with a valid estimate at A_HO_SPEED_DN or above resume
Running (R84). -/
def execCoastRecovery (t : Nat) (a : Fin 4) (s : State) : Res :=
  runOn islFusion (s.at_ t) (fun s => if inStage s a 6 then
      let ok := s.flag (A_FUS_VALID a) && decide ((s.get (A_HO_SPEED_DN a) : Rat) ≤ absR (s.ax a).fusFe)
      let n := if ok then (s.ax a).start.coast + 1 else 0
      let s := s.modAx a (fun c => { c with start := { c.start with coast := n } })
      if 8 ≤ n then s.decideStage a 5 else s
    else s)

/-- COAST_TIME_EXPIRY (R84). -/
def execCoastTimeExpiry (t : Nat) (a : Fin 4) (s : State) : Res :=
  runOn islFusion (s.at_ t) (fun s => if inStage s a 6 ∧ stagePast s a (s.nat (A_COAST_TIME a)) then s.decideStage a 0 else s)

/-- START_RETRY: the delay after a failure has passed and retries remain (R85). -/
def execStartRetry (t : Nat) (a : Fin 4) (s : State) : Res :=
  runOn islFusion (s.at_ t) (fun s => if inStage s a 7 ∧ (s.ax a).start.fails < s.nat (A_START_RETRIES a) ∧
      stagePast s a (s.nat (A_START_RETRY_DELAY a)) ∧ startDemand s a ≠ 0 ∧ !(s.ax a).safe.stopFn then s.decideStage a 1 else s)

/-- The ramp moves on from where it is at an instant towards a new target speed (R84, R86). -/
def State.retargetAt (s : State) (a : Fin 4) (dir : Int) (tgt : Rat) (t0 : Nat) : State :=
  let th := rampAngle (s.asOf t0) a
  let f := rampSpeed (s.asOf t0) a
  s.modAx a (fun c => { c with start := { c.start with at_ := t0, theta0 := th, f0 := f, dir := dir, tgt := tgt } })

/-- The same from now on. -/
def State.retarget (s : State) (a : Fin 4) (dir : Int) (tgt : Rat) : State := s.retargetAt a dir tgt s.now

/-- What the demand does to the sequence at an axis update: Idle to Align, the ramp's target, Ramp to Idle, Failed to
Idle (R79, R80, R84–R86). -/
def State.startUpdate (s : State) (a : Fin 4) : State :=
  let d := startDemand s a
  let st := (s.ax a).start
  let up : Rat := s.get (A_HO_SPEED_UP a)
  if mode s a = 5 then s
  else if inStage s a 0 ∧ d ≠ 0 ∧ !(s.ax a).safe.stopFn then
    ((s.set (A_DIR a) d).modAx a (fun c => { c with start := { c.start with dir := d } })).decideStage a 1
  else if inStage s a 2 then
    if d = 0 then
      (if rampSpeed s a = 0 ∧ st.tgt = 0 then s.decideStage a 0
       else if st.tgt = 0 then s else s.retarget a st.dir 0)
    else if st.tgt = d * up then s else s.retarget a d (d * up)
  else if inStage s a 3 ∧ d ≠ 0 ∧ d ≠ st.dir then
    s.decideStage a 2
  else if inStage s a 7 ∧ d = 0 then s.decideStage a 0
  else s

/-! ### Axis fusion (R70–R74) -/

/-- Running counters and the fusion state of one member: new state, agreements, disagreements (R72). -/
def qualify (st agree disagree : Nat) (err window : Rat) (drop readmit : Nat) : Nat × Nat × Nat :=
  let ag := if absR err ≤ window / 2 then agree + 1 else 0
  let di := if window < absR err then disagree + 1 else 0
  if (st = 1 ∨ st = 3) ∧ readmit ≤ ag then (2, 0, 0)
  else if (st = 1 ∨ st = 2) ∧ drop ≤ di then (3, 0, 0)
  else (st, ag, di)

/-- S_EST_ERR is written and the section moves between fusion states (R72, R73). -/
def State.qualifySec (s : State) (a : Fin 4) (x : Fin 6) : State :=
  if s.nat (S_EST_WEIGHT x) = 0 then s
  else
    let err := wrapAng ((s.sec x).thetaS - (s.ax a).fusAngle)
    let e := min 17999 (rnd err)
    let s := s.set (S_EST_ERR x) e
    let old := s.nat (S_FUS_STATE x)
    let (st, ag, di) := qualify old (s.sec x).agree (s.sec x).disagree err (s.get (A_FUS_WINDOW a))
      (s.nat (A_FUS_DROP_COUNT a)) (s.nat (A_FUS_READMIT_COUNT a))
    let s := (s.set (S_FUS_STATE x) st).modSec x (fun c => { c with agree := ag, disagree := di })
    if st = 3 ∧ old ≠ 3 then
      let s := (s.inc (S_FUS_DROPS x)).jFus (some a) (some x) 0xFF e 0x01
      if s.flag (A_FUS_DROP_ACTION a) then s.enableZero x else s
    else if st = 2 ∧ old = 3 then s.jFus (some a) (some x) 0xFF e 0x02
    else s

/-- The two conditions that end Running: handback and fusion loss (R84). -/
def State.runningEnds (s : State) (a : Fin 4) : State :=
  if inStage s a 5 then
    if !s.flag (A_FUS_VALID a) then s.decideStage a 6
    else if absR (s.ax a).fusFe < s.get (A_HO_SPEED_DN a) then s.decideStage a 2
    else s
  else s

/-- The measured commutation offset over the last 1,024 valid updates (R219). -/
def State.commMeas (s : State) (a : Fin 4) : State :=
  match encoderOf s a with
  | none => s
  | some e =>
    if s.flag (A_FUS_VALID a) ∧ referenced s e then
      let o := (s.get (A_FUS_ANGLE a) - (encoderAngle s e a - s.get (A_ENC_COMM_OFFSET e))) % 36000
      let l := (o :: (s.ax a).comm).take 1024
      let mean : Rat := (o : Rat) + (l.map (fun v => wrapAng (((v - o : Int)) : Rat))).sum / l.length
      (s.modAx a (fun c => { c with comm := l })).set (A_ENC_COMM_MEAS e) (angObj mean)
    else s.set (A_ENC_COMM_MEAS e) 0xFFFF

/-- A_POS_ACT = Poff + floor(count · A_UNIT_NUM · 2³² / A_UNIT_DEN), from the internal count on a Sensorless axis
(R220). -/
def posOf (s : State) (a : Fin 4) (off : Int) : Int :=
  let c : Int := if sensorless s a then rnd (s.ax a).icount else
    match encoderOf s a with
    | some e => s.get (A_ENC_COUNT e)
    | none => 0
  satI 64 (off + c * s.get (A_UNIT_NUM a) * 4294967296 / s.get (A_UNIT_DEN a))

/-- A_POS_ACT follows the count. -/
def State.posUpdate (s : State) (a : Fin 4) : State := s.set (A_POS_ACT a) (posOf s a (s.ax a).poff)

/-- The weighted means of error and speed over the members of an estimate; none when no weight (R71, R76). -/
def fuse (pred : Rat) (l : List (Nat × Rat × Rat)) : Option (Rat × Rat) :=
  let w : Rat := ((l.map (·.1)).sum : Nat)
  if w = 0 then none
  else some ((l.map (fun m => (m.1 : Rat) * wrapAng (m.2.1 - pred))).sum / w, (l.map (fun m => (m.1 : Rat) * m.2.2)).sum / w)

/-- One fusion update of axis a (R71). -/
def State.fusion (s : State) (a : Fin 4) : State :=
  let members : List (Fin 6) := (secsOf s a).filter (fun x => decide (s.nat (S_FUS_STATE x) ≠ 0))
  let s := s.each (secsOf s a) (fun x s => s.present a x)
  let old := s.get (A_FUS_ANGLE a)
  let pred := modAng ((s.ax a).fusAngle + angleIn (s.ax a).fusFe ((s.now : Int) - (s.ax a).fusAt))
  let sel (st : Nat) : List (Fin 6) := members.filter (fun x => decide (s.nat (S_FUS_STATE x) = st ∧ 0 < s.nat (S_EST_WEIGHT x)))
  let use : List (Fin 6) := if (sel 2).isEmpty then sel 1 else sel 2
  let l := use.map (fun (x : Fin 6) => (s.nat (S_EST_WEIGHT x), (s.sec x).thetaS, (s.sec x).fS))
  let s := match fuse pred l with
    | none =>
      ((s.modAx a (fun c => { c with fusAngle := pred, fusAt := s.now })).set (A_FUS_ANGLE a) (angObj pred)).set (A_FUS_VALID a) 0
    | some (e, f) =>
      let k : Rat := (s.get (A_FUS_KTHETA a) : Rat) / 2147483648
      let th := modAng (pred + k * e)
      let s := s.modAx a (fun c => { c with fusAngle := th, fusFe := f, fusAt := s.now })
      let s := (s.set (A_FUS_ANGLE a) (angObj th)).set (A_FUS_FE a) (rnd f)
      let n := (members.filter (fun (x : Fin 6) => decide (s.nat (S_FUS_STATE x) = 2 ∧ 0 < s.nat (S_EST_WEIGHT x)))).length
      let s := (s.set (A_FUS_COUNT a) n).setFlag (A_FUS_VALID a) (decide (s.nat (A_FUS_MIN_SECTIONS a) ≤ n))
      s.each members (fun x s => s.qualifySec a x)
  let s := s.modAx a (fun c => { c with icount := c.icount + wrapAng ((s.get (A_FUS_ANGLE a) - old : Int) : Rat) })
  let s := if sensorless s a then s.posUpdate a else s
  (s.commMeas a).runningEnds a

/-- FUSION_UPDATE. -/
def execFusionUpdate (t : Nat) (a : Fin 4) (s : State) : Res :=
  runOn islFusion (s.at_ t) (fun s => s.fusion a)

/-! ### Fusion across a cascade (R75–R77) -/

/-- The host fuses the devices' contributions for the start T of the present cycle, once, with gain 1, and qualifies the devices;
a contribution for another instant is left out (R76). -/
def State.cascadeFuse (s : State) (a : Fin 4) : State :=
  let c := (s.ax a).cascOut
  let T := s.naz.starts.headD c.t
  if !(onCascade s a && isHost s a) || decide (T ≤ c.t) then s
  else
    let fresh := (s.ax a).devs.filter (fun d => d.fresh && decide (d.t = T))
    let pred := modAng (c.theta + angleIn c.fe (4 * ((T : Int) - c.t)))
    let sel (st : Nat) := fresh.filter (fun d => decide (d.st = st ∧ 0 < d.w))
    let use := if (sel 2).isEmpty then sel 1 else sel 2
    match fuse pred (use.map (fun d => (d.w, d.theta, d.fe))) with
    | none => s.modAx a (fun c => { c with devs := c.devs.map (fun d => { d with fresh := false }),
                                           cascOut := { c.cascOut with theta := pred, t := T, valid := false } })
    | some (e, f) =>
      let n := ((sel 2).map (·.count)).sum
      let th := modAng (pred + e)
      let judged := (s.ax a).devs.map (fun d =>
        if d.fresh ∧ d.t = T ∧ 0 < d.w then
          let err := wrapAng (d.theta - th)
          let q := qualify d.st d.agree d.disagree err (s.get (A_FUS_WINDOW a)) (s.nat (A_FUS_DROP_COUNT a))
            (s.nat (A_FUS_READMIT_COUNT a))
          (d.st, { d with st := q.1, agree := q.2.1, disagree := q.2.2, err := err, fresh := false })
        else (d.st, { d with fresh := false }))
      let s := judged.foldl (fun s p =>
        if p.2.st = 3 ∧ p.1 ≠ 3 then s.jFus (some a) none p.2.d (min 17999 (rnd p.2.err)) 0x03
        else if p.2.st = 2 ∧ p.1 = 3 then s.jFus (some a) none p.2.d (min 17999 (rnd p.2.err)) 0x04
        else s) s
      let devs := judged.map (·.2)
      let s := s.modAx a (fun c =>
        { c with devs := devs,
                 cascOut := ⟨th, f, T, decide (s.nat (A_FUS_MIN_SECTIONS a) ≤ n), 0, 0⟩ })
      s.set (A_FUS_DEV_DROPPED a) ((devs.filter (fun d => decide (d.st = 3))).length : Nat)

/-- CASCADE_FUSION. -/
def execCascadeFusion (t : Nat) (a : Fin 4) (s : State) : Res :=
  runOn islFusion (s.at_ t) (fun s => s.cascadeFuse a)

/-- A cascade estimate is received: it sets the correction Δ from the own estimate at its instant; a valid one also renews the
validity of the angle source for three cycles (R77). -/
def State.applyCascade (s : State) (a : Fin 4) (th fe : Rat) (T : Nat) (valid : Bool) : State :=
  let own := match AL.find (s.ax a).locals T with
    | some v => v
    | none => modAng ((s.ax a).fusAngle + angleIn (s.ax a).fusFe (4 * (T : Int) - s.tb + s.now - (s.ax a).fusAt))
  let d := wrapAng (th - own)
  (s.modAx a (fun c => { c with casc := ⟨th, fe, T, valid || c.casc.valid, if valid then 0 else c.casc.age, d⟩ })).set (A_FUS_CORR a)
    (min 17999 (rnd d))

end Sys2Proof.Machine
end

