-- ==== Sys2Proof/Machine/Motion.lean ====
section
/-! DEFINITION. Encoders, the reference run, the profile generator, stopping and electronic gearing (R213–R235). -/

namespace Sys2Proof.Machine
open Obj

/-! ### Encoder counts (R214–R216, R223, R224) -/

/-- The axis that encoder e serves (R217). -/
def servedBy (s : State) (e : Fin 2) : Option (Fin 4) :=
  if h : s.nat (A_ENC_AXIS e) < 4 then some ⟨_, h⟩ else none

/-- Place of a level pair in the Gray sequence in which A leads B. -/
def grayIndex (a b : Bool) : Nat :=
  match a, b with
  | false, false => 0
  | true, false => 1
  | true, true => 2
  | false, true => 3

/-- An encoder fault: bit 4, detail 0x4, 0x07, and the axis level of the axis served (R224). -/
def State.encoderFault (s : State) (e : Fin 2) : State :=
  let s := s.orBits (A_ENC_STATUS e) 0x10
  let s := s.jMotion 4 islEncoder 0x07 (0x5800 + 0x10 * e.val) (servedBy s e) (some e) 0
  match servedBy s e with
  | some a => (s.modEnc e (fun c => { c with struck := if a ∈ c.struck then c.struck else a :: c.struck })).enterLevel a lvEncoder
  | none => s

/-- An illegal transition: counted, flagged, journalled at most once per second; three within A_ENC_CPR counts of travel
declare an encoder fault (R215). -/
def State.illegalChange (s : State) (e : Fin 2) : State :=
  let s := (s.inc (A_ENC_ILLEGAL e)).orBits (A_ENC_STATUS e) 0x08
  let quiet := match (s.enc e).last1D with
    | some l => decide (s.now < l + 4000000000)
    | none => false
  let s := if quiet then s else
    (s.jMotion 1 islEncoder 0x1D (0x5800 + 0x10 * e.val) (servedBy s e) (some e) 0).modEnc e
      (fun c => { c with last1D := some s.now })
  let s := s.modEnc e (fun c => { c with
    illegalAt := (c.travel :: c.illegalAt).take 3
    changes := (s.now, s.get (A_ENC_COUNT e)) :: c.changes
    lastAt := some s.now })
  match (s.enc e).illegalAt with
  | [t1, _, t3] => if t1 - t3 ≤ s.get (A_ENC_CPR e) then s.encoderFault e else s
  | _ => s

/-- In modes 1 and 2 a referenced encoder that has travelled more than 1.5 revolutions since the last index has lost it
(R223). -/
def State.indexMissing (s : State) (e : Fin 2) : State :=
  if referenced s e ∧ s.nat (A_ENC_IDX_MODE e) ≠ 0 ∧ 3 * s.get (A_ENC_CPR e) < 2 * ((s.enc e).sinceZ.natAbs : Int) then
    let s := s.orBits (A_ENC_STATUS e) 0x04
    if (s.enc e).j1C then s
    else (s.jMotion 1 islEncoder 0x1C (0x5800 + 0x10 * e.val) (servedBy s e) (some e) (s.get (A_ENC_IDX_ERR e))).modEnc e
      (fun c => { c with j1C := true })
  else s

/-- The count of encoder e moves by d. -/
def State.moveCount (s : State) (e : Fin 2) (d : Int) : State :=
  let s := s.set (A_ENC_COUNT e) (s.get (A_ENC_COUNT e) + d)
  match servedBy s e with
  | some a => if sensorless s a then s else s.posUpdate a
  | none => s

/-- Accepted levels of A and B: one change of the Gray sequence moves the count, two in one tick are illegal (R214,
R215). -/
def State.encoderChange (s : State) (e : Fin 2) (a b : Bool) : State :=
  let c := s.enc e
  let s := s.modEnc e (fun c => { c with a := a, b := b })
  if a = c.a ∧ b = c.b then s
  else if a ≠ c.a ∧ b ≠ c.b then s.illegalChange e
  else
    let fwd := decide ((grayIndex c.a c.b + 1) % 4 = grayIndex a b)
    let d : Int := (if fwd then 1 else -1) * s.get (A_ENC_POLARITY e)
    let s := s.moveCount e d
    let s := s.modEnc e (fun c =>
      { c with changes := (s.now, s.get (A_ENC_COUNT e)) :: c.changes, lastDir := d, lastAt := some s.now,
               travel := c.travel + 1, sinceZ := c.sinceZ + d })
    s.indexMissing e

/-- The longest window that A_ENC_SPEED_WIN can name, in µs (R216): older changes can enter no speed. -/
def longestWin : Nat := 10000

/-- A_ENC_SPEED at an axis update (R216): the count difference over the time difference of the first and last change in
the window, else one count over the time since the last change, 0 after 1 s; a free value where that time is 0. -/
def State.encoderSpeed (s : State) (e : Fin 2) : State :=
  let win := us (s.nat (A_ENC_SPEED_WIN e))
  let inWin := (s.enc e).changes.filter (fun c => decide (s.now ≤ c.1 + win))
  let s := s.modEnc e (fun c => { c with changes := c.changes.filter (fun k => decide (s.now ≤ k.1 + us longestWin)) })
  let one (s : State) : State := match (s.enc e).lastAt with
    | some t =>
      if t + 4000000000 < s.now then s.set (A_ENC_SPEED e) 0
      else if t < s.now then
        s.set (A_ENC_SPEED e) (satI 32 (rnd (((s.enc e).lastDir : Rat) * 4000000000 / (s.now - t : Nat))))
      else let f := s.free; f.2.set (A_ENC_SPEED e) (signExt 32 f.1)
    | none => s.set (A_ENC_SPEED e) 0
  match inWin.head?, inWin.getLast? with
  | some (t1, c1), some (t0, c0) =>
    if t0 < t1 then s.set (A_ENC_SPEED e) (satI 32 (rnd (((c1 - c0 : Int) : Rat) * 4000000000 / (t1 - t0 : Nat))))
    else one s
  | _, _ => one s

/-! ### Index pulses (R221, R222) -/

/-- A_REF_STATE outside a run: 2 for a referenced encoder that serves the axis, 3 after a failed run, else 0 (R225; log entry
94). -/
def State.syncRef (s : State) (a : Fin 4) : State :=
  if s.nat (A_REF_STATE a) = 1 then s
  else match encoderOf s a with
    | some e =>
      if sensorless s a then s.set (A_REF_STATE a) 0
      else if referenced s e then s.set (A_REF_STATE a) 2
      else if s.nat (A_REF_STATE a) = 3 then s else s.set (A_REF_STATE a) 0
    | none => s.set (A_REF_STATE a) 0

/-- The units, the encoders served or the start modes have changed: positions, start stages and referencing states follow (R79,
R217, R220, R225). -/
def State.syncMotion (s : State) : State := s.each allAxes (fun a s => ((s.posUpdate a).syncStage a).syncRef a)

/-- An accepted rising edge of Z: the first references the encoder; a later one is judged by its index error. -/
def State.indexPulse (s : State) (e : Fin 2) : State :=
  let src := 0x5800 + 0x10 * e.val
  let ax := servedBy s e
  let s := s.modEnc e (fun c => { c with sinceZ := 0, j1C := false })
  if !referenced s e then
    let s := (s.set (A_ENC_IDX_REF e) (s.get (A_ENC_COUNT e))).orBits (A_ENC_STATUS e) 0x01
    match ax with
    | some a =>
      if s.nat (A_REF_STATE a) = 1 ∧ isHost s a then s.decideRef a 4
      else if s.nat (A_REF_STATE a) = 1 then s else s.syncRef a
    | none => s
  else
    let s := match ax with
      | some a => if s.nat (A_REF_STATE a) = 3 then s.set (A_REF_STATE a) 2 else s
      | none => s
    let cpr := s.get (A_ENC_CPR e)
    let r := (s.get (A_ENC_COUNT e) - s.get (A_ENC_IDX_REF e)) % cpr
    let ei := if r ≤ (cpr - 1) / 2 then r else r - cpr
    let s := s.set (A_ENC_IDX_ERR e) ei
    let m := s.nat (A_ENC_IDX_MODE e)
    if m = 0 ∨ (ei.natAbs : Int) ≤ s.get (A_ENC_IDX_TOL e) then s
    else if s.get (A_ENC_IDX_GROSS e) < ei.natAbs then s.encoderFault e
    else
      let s := if m = 2 then s.moveCount e (-ei) else s
      let s := (s.orBits (A_ENC_STATUS e) 0x02).inc (A_ENC_IDX_FLAGS e)
      s.jMotion 1 islEncoder (if m = 2 then 0x1B else 0x1A) src ax (some e) ei

/-- A_ENC_STATUS_CLR written 1: bits 1–4 clear, and the axes whose level its faults have entered leave that cause, unless a fault
of the other encoder holds it (R224). -/
def State.clearEncoder (s : State) (e : Fin 2) : State :=
  let l := (s.enc e).struck.filter (fun a => a ∉ (s.enc (1 - e)).struck)
  ((s.clearBits (A_ENC_STATUS e) 0x1E).modEnc e (fun c => { c with struck := [] })).each l (fun a s =>
    if (s.ax a).level &&& lvEncoder ≠ 0 then s.leaveLevel a lvEncoder else s)

/-- A_ENC_AXIS written: the offsets measured so far were of another pair of axis and encoder (R217, R219). -/
def State.assignEncoder (s : State) (e : Fin 2) (v : Int) : State :=
  let drop (s : State) : State := match servedBy s e with
    | some a => s.modAx a (fun c => { c with comm := [] })
    | none => s
  if v = s.get (A_ENC_AXIS e) then s
  else ((drop ((drop s).set (A_ENC_AXIS e) v)).set (A_ENC_COMM_MEAS e) 0xFFFF).syncMotion

/-! ### Position and mode entry (R220, R227) -/

/-- The speed feedback in 0.1 Hz: of the encoder, or in Sensorless of the estimate (R190). -/
def speedFeedback (s : State) (a : Fin 4) : Rat :=
  if sensorless s a then estimateFe s a else
    match encoderOf s a with
    | some e => encoderFe s e a
    | none => 0

/-- A_HOME_SET: the actual position becomes P and the reference, the geared one included, moves by the same amount (R220). -/
def State.setHome (s : State) (a : Fin 4) (p : Int) : State :=
  let d := p - s.get (A_POS_ACT a)
  let s := s.modAx a (fun c => { c with poff := c.poff + d, posRef := c.posRef + d, gear := { c.gear with p0 := c.gear.p0 + d } })
  (s.posUpdate a).set (A_POS_REF a) (satI 64 (s.get (A_POS_REF a) + d))

/-- A number cut towards zero (R226 "truncated"). -/
def truncR (r : Rat) : Int := if r < 0 then -((-r).floor) else r.floor

/-- A real number as Q32.32, in its unit (R226). -/
def q32 (r : Rat) : Rat := (rnd (r * 4294967296) : Rat) / 4294967296

/-- The profile's reference, speed and acceleration are set, each as the Q32.32 that the generator carries; A_POS_REF,
A_PROF_SPEED and A_PROF_ACCEL report them (R226). -/
def State.setProfile (s : State) (a : Fin 4) (p v acc : Rat) : State :=
  let v := q32 v
  let acc := q32 acc
  let s := s.modAx a (fun c => { c with posRef := rnd p, vel := v, acc := acc })
  ((s.set (A_POS_REF a) (satI 64 (rnd p))).set (A_PROF_SPEED a) (satI 32 (truncR (v * 65536)))).set (A_PROF_ACCEL a)
    (satI 32 (truncR (acc * 65536)))

/-- Entering Speed, Position or Geared mode (R227). -/
def State.enterMotion (s : State) (a : Fin 4) : State :=
  let s := s.setProfile a (s.get (A_POS_ACT a)) (feToUnits s a (speedFeedback s a)) 0
  (s.set (A_PROF_STATE a) 0).modAx a (fun c => { c with stopping := false, follow := false })

/-! ### Reference run (R225) -/

/-- A_REF_RUN written 1 on an Encoder axis whose encoder is not referenced: on a cascade axis the host runs it (R225). With the
encoder referenced a failed run has nothing left to do (log entry 94). -/
def State.refRun (s : State) (a : Fin 4) : State :=
  match encoderOf s a with
  | some e =>
    if sensorless s a ∨ !isHost s a ∨ s.nat (A_REF_STATE a) = 1 then s
    else if referenced s e then (if s.nat (A_REF_STATE a) = 3 then s.set (A_REF_STATE a) 2 else s)
    else (s.set (A_REF_STATE a) 1).decideRef a 1
  | none => s

/-- The run fails from an instant on: the switches turn off, state 3, 0x22 (R225). -/
def State.refFail (s : State) (a : Fin 4) (t0 : Nat) : State :=
  ((s.set (A_REF_STATE a) 3).refPhaseAt a 0 t0).jMotion 1 islProfile 0x22 (0x5030 + 0x100 * a.val) (some a) none 0

/-- The run is over from an instant on: reference and speed take the measured ones, the axis stops from its next profile update
on, state 2, 0x21 (R225, R230). -/
def State.refDone (s : State) (a : Fin 4) (t0 : Nat) : State :=
  let s := (s.set (A_REF_STATE a) 2).refPhaseAt a 0 t0
  let s := s.setProfile a (s.get (A_POS_ACT a)) (feToUnits s a (speedFeedback s a)) 0
  (s.modAx a (fun c => { c with refStop := true })).jMotion 1 islProfile 0x21 (0x5030 + 0x100 * a.val) (some a) none 0

/-- What the host has decided of the reference run takes effect: its end (0), its failure (3), or a phase (R79, R225). -/
def State.takeRef (s : State) (a : Fin 4) (p t0 : Nat) : State :=
  match p with
  | 0 => s.refDone a t0
  | 3 => s.refFail a t0
  | p => s.refPhaseAt a p t0

/-- The end of the run is decided: at once on a local axis, else at the start of the second NazLink cycle after it (R79, R225). -/
def State.decideEnd (s : State) (a : Fin 4) (p : Nat) : State :=
  if !onCascade s a then s.takeRef a p s.now
  else s.modAx a (fun c => { c with start := { c.start with refDue := some (p, 2) } })

/-- No index within A_HO_TIMEOUT of the start of Ramp (R225). -/
def State.refTimeout (s : State) (a : Fin 4) : State :=
  let st := (s.ax a).start
  if isHost s a ∧ st.refPhase = 2 ∧ st.refDue.isNone ∧ st.refAt + ms (s.nat (A_HO_TIMEOUT a)) ≤ s.now then s.decideEnd a 3 else s

/-- REFERENCE_RUN_TIMEOUT. -/
def execReferenceRunTimeout (t : Nat) (a : Fin 4) (s : State) : Res :=
  runOn islProfile (s.at_ t) (fun s => s.refTimeout a)

/-- The blend of the run is over (R225). -/
def State.refComplete (s : State) (a : Fin 4) : State :=
  let st := (s.ax a).start
  if isHost s a ∧ st.refPhase = 4 ∧ st.refDue.isNone ∧ st.at_ + ms (s.nat (A_HO_BLEND a)) ≤ s.now then s.decideEnd a 0 else s

/-- REFERENCE_RUN_COMPLETE. -/
def execReferenceRunComplete (t : Nat) (a : Fin 4) (s : State) : Res :=
  runOn islProfile (s.at_ t) (fun s => s.refComplete a)

/-! ### The profile generator (R226–R229) -/

/-- Distance needed to stop (R228). -/
def stopDist (v acc dec j : Rat) : Rat :=
  let ve := absR v + (if sgnR acc = sgnR v then acc * acc / (2 * j) else 0)
  ve * ve / (2 * dec) + ve * dec / (2 * j)

/-- A Q16.16 object in its unit. -/
def q16 (s : State) (k : Nat) : Rat := (s.get k : Rat) / 65536

/-- The speed goal of an update (R228). -/
def speedGoal (s : State) (a : Fin 4) (dec j : Rat) : Rat :=
  let st := s.nat (A_PROF_STATE a)
  let vmax := q16 s (A_VMAX a)
  let x := s.ax a
  if st = 0 ∨ st = 3 ∨ st = 4 then 0
  else if mode s a = 1 then clampR (-vmax) vmax ((x.tSpd : Rat) / 65536)
  else
    let rem : Rat := ((x.tPos : Rat) - x.posRef) / 4294967296
    if x.vel ≠ 0 ∧ sgnR x.vel ≠ sgnR rem then 0
    else if absR rem ≤ stopDist x.vel x.acc dec j then 0
    else (sgnR rem : Rat) * vmax

/-- The time of one update, in s. -/
def profileDt (s : State) (a : Fin 4) : Rat := (s.get (A_PROF_PERIOD a) : Rat) / 1000000

/-- The deceleration in force: of the stop in state 3, else A_DMAX (R228, R230). -/
def profileDec (s : State) (a : Fin 4) : Rat :=
  if s.nat (A_PROF_STATE a) = 3 then ((s.ax a).stopDec : Rat) / 65536 else q16 s (A_DMAX a)

/-- The acceleration of an update: towards its goal within the jerk limit (R228). -/
def nextAcc (s : State) (a : Fin 4) : Rat :=
  let x := s.ax a
  let j := q16 s (A_JMAX a)
  let goal := speedGoal s a (profileDec s a) j
  let dv := goal - x.vel
  let lim := if absR x.vel < absR goal ∧ sgnR goal ≠ -sgnR x.vel then q16 s (A_AMAX a) else profileDec s a
  let ag := if sgnR x.acc = sgnR dv ∧ absR dv ≤ x.acc * x.acc / (2 * j) then 0 else (sgnR dv : Rat) * lim
  x.acc + clampR (-(j * profileDt s a)) (j * profileDt s a) (ag - x.acc)

/-- One update of a limited profile (R228). -/
def State.profileStep (s : State) (a : Fin 4) : State :=
  let st := s.nat (A_PROF_STATE a)
  let x := s.ax a
  let dt := profileDt s a
  let j := q16 s (A_JMAX a)
  let goal := speedGoal s a (profileDec s a) j
  let acc := nextAcc s a
  let p := x.posRef + (x.vel * dt + acc * dt * dt / 2) * 4294967296
  let v := x.vel + acc * dt
  let settled := decide (absR (goal - v) ≤ j * dt * dt) && decide (absR acc ≤ j * dt)
  if st = 1 ∧ mode s a = 2 ∧ absR ((x.tPos : Rat) - p) / 65536 ≤ s.get (A_POS_WINDOW a) ∧
      absR v ≤ j * dt * dt ∧ absR acc ≤ j * dt then
    (s.setProfile a x.tPos 0 0).set (A_PROF_STATE a) 2
  else if st = 1 ∧ mode s a = 1 ∧ settled then (s.setProfile a p goal 0).set (A_PROF_STATE a) 2
  else if (st = 0 ∨ st = 3 ∨ st = 4) ∧ settled then
    let s := s.setProfile a p 0 0
    if st = 3 then (s.set (A_PROF_STATE a) 4).modAx a (fun c => { c with stopping := false }) else s
  else s.setProfile a p v acc

/-- State 3 while Tongs or no torque has the axis: reference and speed follow the measured ones until standstill (with
no torque, until the speed feedback reaches 0), then state 4 (R230). -/
def State.followStep (s : State) (a : Fin 4) : State :=
  let f := speedFeedback s a
  let lim : Rat := if countOf s (some a) = 0 ∨ s.nat S_DEV_FAULT ≠ 0 then 0 else s.cfg (SF_STANDSTILL a)
  if absR f ≤ lim then
    ((s.setProfile a (s.get (A_POS_ACT a)) 0 0).set (A_PROF_STATE a) 4).modAx a
      (fun c => { c with follow := false, stopping := false })
  else s.setProfile a (s.get (A_POS_ACT a)) (feToUnits s a f) 0

/-! ### Gearing (R231–R234) -/

/-- M and vM as they stand now (R231, R233). -/
def masterNow (s : State) (a : Fin 4) : Int × Int :=
  let g := (s.ax a).gear
  let src := s.nat (A_GEAR_SRC a)
  if src = 0 then (s.get (A_ENC_COUNT 1), s.get (A_ENC_SPEED 1))
  else if 0x10 ≤ src ∧ src ≤ 0x13 then
    (rnd ((g.lastM : Rat) + (g.lastV : Rat) * (((s.tbNs : Int) - g.lastT : Int) : Rat) / 1000000000), g.lastV)
  else (g.m, 0)

/-- The mapping of R232 at a master position. -/
def geared (s : State) (a : Fin 4) (m : Int) : Int :=
  let g := (s.ax a).gear
  g.p0 + (m - g.m0) * s.get (A_GEAR_NUM a) * 4294967296 / s.get (A_GEAR_DEN a)

/-- The reference inside and past a blend, with r in position units per master count (R234). -/
def blendRef (pc d : Int) (r0 r1 u b : Rat) : Rat :=
  if u < b then pc + d * (r0 * u + (r1 - r0) * u * u / (2 * b)) * 4294967296
  else pc + d * (r0 * b + (r1 - r0) * b / 2 + r1 * (u - b)) * 4294967296

/-- u > 0 at a master position, with the change objects as they stand (R234). -/
def beyondChange (s : State) (a : Fin 4) (m : Int) : Bool :=
  decide (0 < s.get (A_GEAR_CHANGE_DIR a) * (m - s.get (A_GEAR_CHANGE_POS a)))

/-- A commit has written the objects of the ratio change: an engaged axis reads change armed, or engaged where none is left
armed, and whether u > 0 holds already is judged at it (R234). -/
def State.armChange (s : State) (a : Fin 4) : State :=
  let late := beyondChange s a (masterNow s a).1
  let st := s.nat (A_GEAR_STATE a)
  let s := if s.nat (A_GEAR_NEXT_DEN a) = 0 then (if st = 2 ∨ st = 3 then s.set (A_GEAR_STATE a) 1 else s)
    else if st = 1 then s.set (A_GEAR_STATE a) 2 else s
  s.modAx a (fun c => { c with gear := { c.gear with have_ := false, late := late } })

/-- One geared update (R232, R234). -/
def State.gearStep (s : State) (a : Fin 4) : State :=
  let (m, vM) := masterNow s a
  let s := s.modAx a (fun c => { c with gear := { c.gear with
    m := m, vM := vM,
    m0 := if c.gear.ask then m else c.gear.m0, p0 := if c.gear.ask then s.get (A_POS_REF a) else c.gear.p0,
    have_ := c.gear.have_ && !c.gear.ask, late := if c.gear.ask then beyondChange s a m else c.gear.late,
    engaged := c.gear.engaged || c.gear.ask, j20 := if c.gear.ask then false else c.gear.j20, ask := false } })
  let d := s.get (A_GEAR_CHANGE_DIR a)
  let armed := decide (s.get (A_GEAR_NEXT_DEN a) ≠ 0)
  -- the change position is fixed at the first update after the commit, or after an engagement
  let s := if armed && !(s.ax a).gear.have_ then
      s.modAx a (fun c => { c with gear := { c.gear with
        mc := if c.gear.late then m else s.get (A_GEAR_CHANGE_POS a), have_ := true, j1E := false } })
    else s
  let g := (s.ax a).gear
  let pc := geared s a g.mc
  let r0 : Rat := (s.get (A_GEAR_NUM a) : Rat) / s.get (A_GEAR_DEN a)
  let jg (s : State) (det : Nat) : State := s.jMotion 1 islProfile det (0x5031 + 0x100 * a.val) (some a) none (s.get (A_GEAR_NUM a))
  let u : Rat := ((d * (m - g.mc) : Int) : Rat)
  let s :=
    if !armed ∨ u ≤ 0 then
      let s := s.setProfile a (geared s a m) (vM * r0) 0
      s.set (A_GEAR_STATE a) (if armed then 2 else 1)
    else
      let r1 : Rat := (s.get (A_GEAR_NEXT_NUM a) : Rat) / s.get (A_GEAR_NEXT_DEN a)
      let b : Rat := s.get (A_GEAR_BLEND a)
      let s := s.set (A_GEAR_STATE a) 3
      let s := if g.j1E then s else (jg s 0x1E).modAx a (fun c => { c with gear := { c.gear with j1E := true } })
      let p : Int := (blendRef pc d r0 r1 u b).floor
      if u < b then s.setProfile a p ((r0 + (r1 - r0) * u / b) * vM) ((r1 - r0) * vM * vM / b)
      else
        let s := s.setProfile a p (r1 * vM) 0
        let s := ((s.set (A_GEAR_NUM a) (s.get (A_GEAR_NEXT_NUM a))).set (A_GEAR_DEN a) (s.get (A_GEAR_NEXT_DEN a))).set
          (A_GEAR_NEXT_DEN a) 0
        let s := s.modAx a (fun c => { c with gear := { c.gear with m0 := m, p0 := p, have_ := false } })
        jg (s.set (A_GEAR_STATE a) 1) 0x1F
  if q16 s (A_VMAX a) < absR (s.ax a).vel ∧ !(s.ax a).gear.j20 then
    (jg s 0x20).modAx a (fun c => { c with gear := { c.gear with j20 := true } })
  else s

/-! ### One update of the profile generator -/

/-- The profile enters state 3: a stop in state 5 disengages the gearing and discards an armed ratio change (R230). -/
def State.enterStopping (s : State) (a : Fin 4) : State :=
  let s := if s.nat (A_PROF_STATE a) = 5 then (s.set (A_GEAR_STATE a) 0).set (A_GEAR_NEXT_DEN a) 0 else s
  (s.set (A_PROF_STATE a) 3).modAx a (fun c => { c with gear := { c.gear with engaged := false, ask := false } })

/-- The profile enters state 3 and follows the measured speed (R230). -/
def State.enterFollow (s : State) (a : Fin 4) : State :=
  (s.enterStopping a).modAx a (fun c => { c with follow := true, followAsk := false, refStop := false, stopping := false })

/-- Causes that move the profile to state 3 at this update: Tongs, the stop of a reference run, a stop asked, no counted section, a
device fault (R225, R230). -/
def State.profileCauses (s : State) (a : Fin 4) : State :=
  let st := s.nat (A_PROF_STATE a)
  let lost := decide (countOf s (some a) = 0) || decide (s.nat S_DEV_FAULT ≠ 0)
  if (s.ax a).followAsk then s.enterFollow a
  else if (s.ax a).refStop then
    let s := s.modAx a (fun c => { c with
      refStop := false, stopDec := if st = 3 ∨ c.stopping then max c.stopDec (s.nat (A_DMAX a)) else s.nat (A_DMAX a), stopping := true })
    if st = 3 ∨ st = 6 then s else if lost then s.enterFollow a else s.enterStopping a
  else if st = 1 ∨ st = 2 ∨ st = 5 then
    if lost then s.enterFollow a
    else if (s.ax a).stopping then s.enterStopping a
    else s
  else if st = 3 then (if lost ∧ !(s.ax a).follow then s.enterFollow a else s)
  else s.modAx a (fun c => { c with stopping := false })

/-- The following error is judged after the update (R229). -/
def State.followJudge (s : State) (a : Fin 4) : State :=
  let lim := s.get (A_FOLLOW_MAX a)
  let e : Int := (posError s a).natAbs
  let s := s.modAx a (fun c =>
    { c with followRun := if lim ≠ 0xFFFFFFFF ∧ lim < e then c.followRun + 1 else 0,
             calmRun := if 2 * e ≤ lim then c.calmRun + 1 else 0 })
  if (s.ax a).level &&& lvFollow ≠ 0 ∧ 16 ≤ (s.ax a).calmRun then s.leaveLevel a lvFollow else s

/-- A_PROF_PERIOD has come round: the reference advances and q 0 arrives (R190, R226–R234). -/
def State.profileUpdate (s : State) (a : Fin 4) : State :=
  if !isHost s a ∨ s.tb % us (s.nat (A_PROF_PERIOD a)) ≠ 0 then s
  else
    let s := s.profileCauses a
    let (m, vM) := masterNow s a
    let s := (s.set (A_MASTER_POS a) (satI 64 m)).set (A_MASTER_SPEED a) (satI 32 vM)
    let s := s.modAx a (fun c => { c with gear := { c.gear with m := m, vM := vM } })
    let md := mode s a
    let s := if s.nat (A_PROF_STATE a) = 6 ∨ rendering s a then s
      else if s.nat (A_PROF_STATE a) = 5 ∨ (s.ax a).gear.ask then (s.set (A_PROF_STATE a) 5).gearStep a
      else if s.nat (A_PROF_STATE a) = 3 ∧ (s.ax a).follow then s.followStep a
      else if md = 1 ∨ md = 2 ∨ s.nat (A_PROF_STATE a) = 0 ∨ s.nat (A_PROF_STATE a) = 3 ∨ s.nat (A_PROF_STATE a) = 4 then
        s.profileStep a
      else s
    let q := posError s a
    let s := s.modAx a (fun c => { c with sig := c.sig.set 0 q })
    (s.arrive (0x5000 + 16 * a.val) q).followJudge a

/-- PROFILE_UPDATE. -/
def execProfileUpdate (t : Nat) (a : Fin 4) (s : State) : Res :=
  runOn islProfile (s.at_ t) (fun s => s.profileUpdate a)

/-- |q 0| has exceeded A_FOLLOW_MAX at 16 consecutive updates: the axis level (R229). -/
def State.followingError (s : State) (a : Fin 4) : State :=
  if 16 ≤ (s.ax a).followRun ∧ (s.ax a).level &&& lvFollow = 0 then
    (s.jMotion 4 islProfile 0x05 (0x5030 + 0x100 * a.val) (some a) none (posError s a)).enterLevel a lvFollow
  else s

/-- FOLLOWING_ERROR. -/
def execFollowingError (t : Nat) (a : Fin 4) (s : State) : Res :=
  runOn islProfile (s.at_ t) (fun s => s.followingError a)

/-- Three cycles without a master sample: the master is lost and the axis stops (R230, R233). -/
def State.masterLost (s : State) (a : Fin 4) : State :=
  let src := s.nat (A_GEAR_SRC a)
  if 0x10 ≤ src ∧ src ≤ 0x13 ∧ 3 ≤ (s.ax a).gear.missed ∧ (s.ax a).level &&& lvMaster = 0 then
    let s := (s.set (A_MASTER_AGE a) 3).jMotion 4 islProfile 0x06 (0x5031 + 0x100 * a.val) (some a) none (s.get (A_GEAR_NUM a))
    (s.requestStop a (s.nat (A_QSTOP_DEC a))).enterLevel a lvMaster
  else s

/-- MASTER_POSITION_LOST. -/
def execMasterPositionLost (t : Nat) (a : Fin 4) (s : State) : Res :=
  runOn islProfile (s.at_ t) (fun s => s.masterLost a)

/-! ### Moves and stops written (R227, R230, R232) -/

/-- A_MOVE_START written 1: a move or an engagement; after a controlled stop only once the axis level is left (R157). -/
def State.moveStart (s : State) (a : Fin 4) : State :=
  if (s.ax a).needDemand then s
  else match mode s a with
    | 1 => (s.modAx a (fun c => { c with tSpd := s.get (A_TARGET_SPEED a) })).set (A_PROF_STATE a) 1
    | 2 => (s.modAx a (fun c => { c with tPos := s.get (A_TARGET_POS a) })).set (A_PROF_STATE a) 1
    | 3 => s.modAx a (fun c => { c with gear := { c.gear with ask := true } })
    | _ => s

/-- A_MOVE_START is refused: state 3 or 6, Torque, Tension or Manual-duty, Hold, or an engagement out of its conditions
(R227, R232, R493, R496). -/
def moveRefused (s : State) (a : Fin 4) : Bool :=
  let st := s.nat (A_PROF_STATE a)
  let m := mode s a
  decide (st = 3) || decide (st = 6) || decide (m = 0) || decide (m = 4) || decide (m = 5) ||
    bitOf (s.nat (A_EMERG_STATE a)) 2 ||
    (decide (m = 3) && sensorless s a && decide (s.nat (A_START_STAGE a) ≠ 0)) ||
    (decide (m = 3) && !(decide (st = 0 ∨ st = 2 ∨ st = 4) && decide ((s.ax a).vel = 0) &&
      decide (((masterNow s a).2.natAbs : Int) ≤ s.get (A_GEAR_ENGAGE_SPEED a))))

end Sys2Proof.Machine
end

