-- ==== Sys2Proof/Machine/Tuning.lean ====
section
/-! DEFINITION. The test-signal generators and the capture unit (R239–R253). -/

namespace Sys2Proof.Machine
open Obj

/-! ### Waveforms (R241, R242) -/

/-- The stages whose exclusive OR enters s1 of a PRBS register of length L (R242). -/
def prbsTaps (l : Nat) : List Nat :=
  match l with
  | 7 => [7, 6]
  | 8 => [8, 6, 5, 4]
  | 9 => [9, 5]
  | 10 => [10, 7]
  | 11 => [11, 9]
  | 12 => [12, 6, 4, 1]
  | 13 => [13, 4, 3, 1]
  | 14 => [14, 5, 3, 1]
  | 15 => [15, 14]
  | 16 => [16, 15, 13, 4]
  | 17 => [17, 14]
  | 18 => [18, 11]
  | 19 => [19, 6, 2, 1]
  | 20 => [20, 17]
  | 21 => [21, 19]
  | 22 => [22, 21]
  | 23 => [23, 18]
  | 24 => [24, 23, 22, 17]
  | 25 => [25, 22]
  | 26 => [26, 6, 2, 1]
  | 27 => [27, 5, 2, 1]
  | 28 => [28, 25]
  | 29 => [29, 27]
  | 30 => [30, 6, 4, 1]
  | 31 => [31, 28]
  | _ => []

/-- One step of the register, stage si at bit i − 1: the output bit sL, and the register after (R242). -/
def prbsStep (l reg : Nat) : Bool × Nat :=
  let new := (prbsTaps l).foldl (fun b i => b ^^ bitOf reg (i - 1)) false
  (bitOf reg (l - 1), (2 * reg + new.toNat) % 2 ^ l)

/-- The register at the first step: the low L bits of the seed. -/
def prbsSeed (s : State) (g : Fin 4) : Nat := s.nat (G_SEED g) % 2 ^ s.nat (G_PRBS_LEN g)

/-- The phase in turns after a time t of a sweep over d, both in quarter-nanoseconds, with frequencies in 0.01 Hz: the integral of
the instantaneous frequency (R241). A logarithmic chirp down to 0 has frequency 0 at every t above 0. -/
def genPhase (ty f0 f1 t d : Nat) : Rat :=
  match ty with
  | 1 => ((f0 : Rat) * t + ((f1 : Int) - f0 : Int) * t * t / (2 * d)) / 400000000000
  | 2 =>
    if f0 = f1 then (f0 : Rat) * t / 400000000000
    else if f1 = 0 then 0
    else
      let l := ln ((f1 : Rat) / f0)
      (f0 : Rat) * d / l * (exp (l * ((t : Rat) / d)) - 1) / 400000000000
  | _ => (f0 : Rat) * t / 400000000000

/-- The value of a running step, and the PRBS register after it (R241, R242). -/
def genValue (s : State) (g : Fin 4) : Int × Nat :=
  let a := s.get (G_AMPL g)
  let reg := (s.gen g).reg
  match s.nat (G_TYPE g) with
  | 0 =>
    let (b, r) := prbsStep (s.nat (G_PRBS_LEN g)) reg
    (if b then a else -a, r)
  | 3 => (a, reg)
  | ty =>
    let t := s.tb - (s.gen g).sweep.getD s.tb
    let ph := genPhase ty (s.nat (G_F0 g)) (s.nat (G_F1 g)) t (us (s.nat (G_DURATION g)))
    (clampI (-a) a (rnd (a * sineTurns ph)), reg)

/-! ### Where injection is permitted (R244) -/

/-- An output of slot k counts as an input of slot j: its sign is add or subtract, or it is the trigger. -/
def feeds (s : State) (k j : Fin 48) : Bool :=
  let b := (s.slot j).active
  let sg := (bankAt b 0x17).toNat
  (List.range 4).any (fun i => decide (bankAt b (0x13 + i) = 0x1000 + k.val) &&
    (decide (bitsOf sg (2 * i + 1) (2 * i) = 1 ∨ bitsOf sg (2 * i + 1) (2 * i) = 2) || decide (bankAt b 0x18 = i)))

/-- The slots reached from a set of slots through every chain, within a number of links. -/
def reachSlots (s : State) : Nat → List (Fin 48) → List (Fin 48)
  | 0, l => l
  | n + 1, l =>
    let l' := allSlots.filter (fun j => decide (j ∈ l) || l.any (fun k => feeds s k j))
    if l' = l then l else reachSlots s n l'

/-- The axis that the sink of slot k names: of an axis input, or of a section's live compare. -/
def sinkAxis (s : State) (k : Fin 48) : Option (Fin 4) :=
  let sink := bankAt (s.slot k).active 0x1A
  let i := (sink % 4096).toNat
  if sink / 4096 = 1 then (if h : i < 6 then axisOf s ⟨i, h⟩ else none)
  else if sink / 4096 = 2 then (if h : i / 16 < 4 then some ⟨i / 16, h⟩ else none)
  else none

/-- The axes that slot k belongs to. -/
def slotAxes (s : State) (k : Fin 48) : List (Fin 4) :=
  let r := reachSlots s 48 [k]
  allAxes.filter (fun a => r.any (fun j => decide (sinkAxis s j = some a)))

/-- The abort cause that forbids an injection: 2 an axis not in Tuning, 3 a hoisting axis not in Hold with SOS active. -/
def injectionBar (s : State) (g : Fin 4) : Option Nat :=
  if h : s.nat (G_TARGET g) < 48 then
    let l := slotAxes s ⟨_, h⟩
    if l.any (fun a => decide (s.nat (A_MODE a) ≠ 6)) then some 2
    else if l.any (fun a => hoisting s a && !(bitOf (s.nat (A_EMERG_STATE a)) 2 && (s.ax a).safe.sos)) then some 3
    else none
  else none

/-- The checks of R241, R242 and R244 at a write of 1 to G_RUN. -/
def genMayArm (s : State) (g : Fin 4) : Bool :=
  let ty := s.nat (G_TYPE g)
  !(decide (ty = 1 ∨ ty = 2) && decide (s.get (G_DURATION g) = 0)) && !(decide (ty = 2) && decide (s.get (G_F0 g) = 0)) &&
    !(decide (ty = 0) && decide (prbsSeed s g = 0)) && (injectionBar s g).isNone

/-! ### The run (R239, R241, R243) -/

/-- G_RUN written 1 with its checks passed: armed (R243). -/
def State.armGen (s : State) (g : Fin 4) : State :=
  if genBusy s g then s
  else ((s.set (G_STATE g) 1).set (G_STEPS g) 0).modGen g (fun _ => Gen.reset)

/-- G_RUN written 0: the run stops at the next step. -/
def State.stopGen (s : State) (g : Fin 4) : State :=
  if genBusy s g then s.modGen g (fun c => { c with stop := true }) else s

/-- D has ended: the run becomes done, or a repeating chirp restarts at the next step (R241). -/
def State.injectionDone (s : State) (g : Fin 4) : State :=
  let d := s.nat (G_DURATION g)
  match (s.gen g).sweep with
  | some t0 =>
    if s.nat (G_STATE g) = 2 ∧ d ≠ 0 ∧ t0 + us d ≤ s.tb then
      if s.flag (G_REPEAT g) ∧ (s.nat (G_TYPE g) = 1 ∨ s.nat (G_TYPE g) = 2) then
        s.modGen g (fun c => { c with sweep := none })
      else s.endGen g 3 0x51 0
    else s
  | none => s

/-- INJECTION_DONE. -/
def execInjectionDone (t : Nat) (g : Fin 4) (s : State) : Res :=
  runOn islCapture (s.at_ t) (fun s => s.injectionDone g)

/-- The run starts with this step. -/
def State.startGen (s : State) (g : Fin 4) : State :=
  let s := s.modGen g (fun _ => ⟨prbsSeed s g, some s.now, s.tbNs, some s.tb, false⟩)
  (s.set (G_STATE g) 2).jTune 0x50 (some g) 0

/-- The value of a step of a running generator. -/
def State.runGen (s : State) (g : Fin 4) : State :=
  let s := s.modGen g (fun c => { c with sweep := some (c.sweep.getD s.tb) })
  let (v, r) := genValue s g
  ((s.set (G_VALUE g) v).modGen g (fun c => { c with reg := r })).inc (G_STEPS g)

/-- What a step does with the run: a stop, the permission, the start, the end of D, the value. -/
def State.advanceGen (s : State) (g : Fin 4) : State :=
  if !genBusy s g then s
  else if (s.gen g).stop then s.endGen g 0 0x52 5
  else if s.nat (G_STATE g) = 1 ∧ s.tbNs < s.nat (G_START g) then s
  else match injectionBar s g with
    | some c => s.endGen g 4 0x52 c
    | none =>
      let s := if s.nat (G_STATE g) = 1 then s.startGen g else s.injectionDone g
      if s.nat (G_STATE g) = 2 then s.runGen g else s

/-- One step of generator g, at a whole multiple of G_STEP_NS; its value arrives once (R239). -/
def State.genStep (s : State) (g : Fin 4) : State :=
  if s.tb % ns (s.nat (G_STEP_NS g)) ≠ 0 then s
  else
    let s := s.advanceGen g
    s.arrive (0x7000 + g.val) (s.get (G_VALUE g))

/-- GENERATOR_STEP. -/
def execGeneratorStep (t : Nat) (g : Fin 4) (s : State) : Res :=
  runOn islCapture (s.at_ t) (fun s => s.genStep g)

/-! ### Capture (R247–R250) -/

/-- The enabled channels, in ascending order. -/
def capChannels (s : State) : List Nat := (List.range 32).filter (fun c => bitOf (s.nat C_CHANNELS) c)

/-- C_DEPTH of N enabled channels (R248). -/
def capDepth (n : Nat) : Nat := if n = 0 then 0 else 1048576 / (4 * (n + 1))

/-- The condition of a channel between two ticks (R249). -/
def capCondition (cond : Nat) (prev cur level : Int) : Bool :=
  match cond with
  | 0 => decide (prev < level ∧ level ≤ cur)
  | 1 => decide (level < prev ∧ cur ≤ level)
  | 2 => decide (prev < level ∧ level ≤ cur) || decide (level < prev ∧ cur ≤ level)
  | 3 => decide (level < cur)
  | _ => decide (cur < level)

/-- The trigger holds at this tick, with the values of the tick before and of this one. -/
def capTrigger (s : State) (prev cur : Vector Int 32) : Bool :=
  let ch := s.nat C_TRIG_CH
  match s.nat C_TRIG_SRC with
  | 0 => true
  | 1 =>
    let c : Fin 32 := ⟨ch % 32, Nat.mod_lt _ (by decide)⟩
    let k := s.nat C_TRIG_COND
    decide (s.nat C_STATE = 2) && (decide (3 ≤ k) || s.cap.ticked) && capCondition k (prev.get c) (cur.get c) (s.get C_TRIG_LEVEL)
  | 2 => decide (s.nat C_TRIG_TIME ≤ s.tbNs)
  | _ => if h : ch < 4 then
      match (s.gen ⟨ch, h⟩).first with
      | some f => decide (s.cap.armed ≤ f)
      | none => false
    else false

/-- Waiting begins once C_PRE records are held (R249). -/
def State.capWaiting (s : State) : State :=
  if s.nat C_STATE = 1 ∧ s.nat C_PRE ≤ s.cap.recs.length then s.set C_STATE 2 else s

/-- A record is written: header, then one value per channel (R248). -/
def State.capRecord (s : State) (cur : Vector Int 32) : State :=
  let l := capChannels s
  let n := s.cap.ticks
  let val (c : Nat) : Int :=
    let i : Fin 32 := ⟨c % 32, Nat.mod_lt _ (by decide)⟩
    if s.nat C_DECIM_MODE = 1 then s.cap.sum.get i / n else cur.get i
  let hdr : Int := ((l.filter (fun c => s.cap.got.getLsbD c)).foldl (fun m c => m + 2 ^ c) 0 : Nat)
  let recs := (hdr :: l.map val) :: s.cap.recs
  let recs := if s.nat C_STATE = 3 then recs else recs.take (s.nat C_PRE)
  let s := { s with cap := { s.cap with recs := recs, got := 0, sum := Vector.replicate 32 0, ticks := 0,
                                        post := if s.nat C_STATE = 3 then s.cap.post - 1 else s.cap.post } }
  s.set C_RECORDS recs.length

/-- The capture completes: arranged oldest first, 0x54 (R249, R250). -/
def State.capComplete (s : State) : State :=
  let s := { s with cap := { s.cap with rot := 0 } }
  (((s.set C_STATE 4).set C_TRIG_REC s.cap.pre).inc C_VERSION).jTune 0x54 none 0

/-- A capture that has not completed aborts (R246, R250). -/
def State.capAbort (s : State) (cause : Nat) : State :=
  if 1 ≤ s.nat C_STATE ∧ s.nat C_STATE ≤ 3 then
    let (f, s) := s.free
    let s := { s with cap := { s.cap with rot := f } }
    ((s.set C_STATE 5).inc C_VERSION).jTune 0x55 none cause
  else s

/-- The fill rate of an arm in bytes per second (R250). -/
def capFillRate (s : State) : Rat :=
  (4000000000 * ((capChannels s).length + 1) : Nat) / ((s.nat C_PERIOD * s.nat C_DECIM : Nat) : Rat)

/-- C_ARM written 1 with its checks passed: the buffer is discarded and pre-trigger recording starts (R249, R250). -/
def State.capArm (s : State) : State :=
  let s := { s with cap := { s.cap with got := 0, sum := Vector.replicate 32 0, ticks := 0, ticked := false,
                                        armed := s.now, recs := [], post := 0, pre := 0 } }
  ((((s.set C_STATE 1).set C_RECORDS 0).set C_TRIG_REC 0).set C_TRIG_STAMP 0).inc C_VERSION

/-- The buffer's bytes: a complete capture oldest record first; otherwise the ring as it stands, which no rule
arranges further (R249, R250; log entry 6). -/
def State.capBytes (s : State) : Bytes × State :=
  let recs := s.cap.recs.reverse
  let (f, s) := if 1 ≤ s.nat C_STATE ∧ s.nat C_STATE ≤ 3 then s.free else (s.cap.rot, s)
  let i := f % (recs.length + 1)
  (((recs.drop i ++ recs.take i).map (fun r => (r.map (le 4)).flatten)).flatten, s)

/-- The claim ends: armed or running generators and an unfinished capture abort with cause 1 (R246). -/
def State.claimEnd (s : State) : State :=
  let s := (s.set C_CLAIM 0).set C_OWNER 0xFFFF
  let s := s.each allGens (fun g s => if genBusy s g then s.endGen g 4 0x52 1 else s)
  s.capAbort 1

end Sys2Proof.Machine
end

