-- ==== Sys2Proof/Machine/Loads.lean ====
section
/-! DEFINITION. The axis update: mode changes, emergency modes, render, torque source and limits, shares and signals; the
snatch detector (R189–R212, R488–R503). -/

namespace Sys2Proof.Machine
open Obj

/-! ### Modes (R491, R492) -/

/-- A_RENDER_STATE moves, and with it the profile: Frozen in states 2–4, where reference and targets stand still, and from
there Reached with the held reference (R206, R227). -/
def State.setRender (s : State) (a : Fin 4) (st : Nat) : State :=
  let s := s.set (A_RENDER_STATE a) st
  if 2 ≤ st then
    if s.nat (A_PROF_STATE a) = 6 then s
    else
      let p := s.get (A_POS_REF a)
      ((s.setProfile a p 0 0).set (A_PROF_STATE a) 6).modAx a (fun c => { c with tPos := p, tSpd := 0, follow := false })
  else if s.nat (A_PROF_STATE a) = 6 then s.set (A_PROF_STATE a) 2
  else s

/-- The render ends: state 0 with 0x16 (R205, R493). -/
def State.renderEnd (s : State) (a : Fin 4) : State :=
  if s.nat (A_RENDER_STATE a) = 0 then s
  else (s.setRender a 0).jLoad 1 0x16 (0x5012 + 0x100 * a.val) a

/-- A_MD_NOW and A_MD_DUTY become 0 (R500). -/
def State.clearDuty (s : State) (a : Fin 4) : State :=
  ((s.set (A_MD_DUTY a) 0).set (A_MD_NOW a) 0).modAx a (fun c => { c with mdNow := 0 })

/-- What a change of the mode acted in brings with it: render and gearing end, the profile is entered, the duty starts
or ends at 0 (R205, R227, R230, R500, R501). -/
def State.modeActs (s : State) (a : Fin 4) (old new : Nat) : State :=
  let s := s.renderEnd a
  let s := if old = 3 then
      (s.set (A_GEAR_STATE a) 0).modAx a (fun c => { c with gear := { c.gear with engaged := false, ask := false } })
    else s
  let s := if old = 5 then s.clearDuty a else s
  let s := if new = 5 then
      let s := (s.set (A_MD_NOW a) 0).modAx a (fun c => { c with mdNow := 0 })
      -- the start sequence is not run in Manual-duty (R80)
      if sensorless s a ∧ s.nat (A_START_STAGE a) ≠ 0 then s.enterStage a 0 else s
    else s
  let s := if new = 1 ∨ new = 2 ∨ new = 3 then s.enterMotion a else s
  s.each (secsOf s a) (fun x s => s.drive x)

/-- A mode takes effect (R491, R492), with 0x23 (R503). -/
def State.changeMode (s : State) (a : Fin 4) (m : Nat) : State :=
  let old := s.nat (A_MODE a)
  let acts := mode s a
  if m = old then s
  else
    let s := if m = 6 then (s.set (A_TUNE_BASE a) acts).set (A_MODE a) 6
      else if m = acts then s.set (A_MODE a) m
      else (s.set (A_MODE a) m).modeActs a acts m
    s.jMode a 0x23 old

/-! ### Emergency modes (R493) -/

/-- Crash-stop is entered (R493, R494). -/
def State.enterCrash (s : State) (a : Fin 4) : State :=
  let old := s.nat (A_MODE a)
  let s := (s.orBits (A_EMERG_STATE a) 1).clearDuty a
  let s := if old = 6 then s.set (A_MODE a) (s.get (A_TUNE_BASE a)) else s
  ((s.renderEnd a).followStop a).jMode a 0x24 old

/-- Hold is entered (R493). -/
def State.enterHold (s : State) (a : Fin 4) : State :=
  ((((s.orBits (A_EMERG_STATE a) 4).renderEnd a).followStop a)).jMode a 0x28 (s.nat (A_MODE a))

/-- Crash-stop and Hold follow A_EMERG_REQ; in Unconfirmed a request waits (R493, R497). -/
def State.emergency (s : State) (a : Fin 4) : State :=
  let q := s.nat (A_EMERG_REQ a)
  let e := s.nat (A_EMERG_STATE a)
  let ok := decide (s.nat (SF_STATE a) ≠ 0)
  let s :=
    if bitOf q 0 && !bitOf e 0 then (if ok then s.enterCrash a else s)
    else if !bitOf q 0 && bitOf e 0 then (s.clearBits (A_EMERG_STATE a) 1).jMode a 0x25 (s.nat (A_MODE a))
    else s
  if bitOf q 1 && !bitOf e 2 then (if ok then s.enterHold a else s)
  else if !bitOf q 1 && bitOf e 2 then (s.clearBits (A_EMERG_STATE a) 4).jMode a 0x29 (s.nat (A_MODE a))
  else s

/-- Limp follows its two conditions (R493); on a contributing device the reaction is the host's (R159). -/
def State.limp (s : State) (a : Fin 4) : State :=
  let on := (secsOf s a).any (fun x => decide (s.nat (S_STATE x) = 3)) ||
    (decide (s.nat (A_FAULT_STATE a) = 1) && decide ((if isHost s a then s.nat (A_FAULT_REACTION a) else (s.ax a).reactIn) = 0))
  let is := bitOf (s.nat (A_EMERG_STATE a)) 1
  if on && !is then (s.orBits (A_EMERG_STATE a) 2).jMode a 0x26 (s.nat (A_MODE a))
  else if !on && is then (s.clearBits (A_EMERG_STATE a) 2).jMode a 0x27 (s.nat (A_MODE a))
  else s

/-! ### Render and recover (R205–R207) -/

/-- H of the axis. -/
def haul (s : State) (a : Fin 4) : Int := s.get (A_HAUL_DIR a)

/-- The render state moves, with its entry. -/
def State.toRender (s : State) (a : Fin 4) (st detail : Nat) : State :=
  (s.setRender a st).jLoad 1 detail (0x5012 + 0x100 * a.val) a

/-- The stage of a Sensorless axis and the safety state let a render be entered (R495, R497). -/
def renderAllowed (s : State) (a : Fin 4) : Bool := !sensorless s a || decide (s.nat (A_START_STAGE a) = 5)

/-- Render is entered from Watching or Recover: the profile reference is held at its value (R205, R206). -/
def State.enterRender (s : State) (a : Fin 4) : State :=
  let s := if s.nat (A_RENDER_STATE a) = 1 then
      s.modAx a (fun c => { c with rendPos := s.get (A_POS_ACT a), rend17 := false })
    else s
  s.toRender a 2 0x14

/-- The effective tension reference (R190, R206). -/
def tensionRef (s : State) (a : Fin 4) : Int :=
  if rendering s a then s.get (A_RENDER_TENSION a) else s.get (A_TEN_REF a)

/-- The moves of the render state that a tension condition makes once it has held for its time (R205). -/
def State.renderMoves (s : State) (a : Fin 4) : State :=
  let since (o : Option Nat) (t : Nat) : Bool := match o with
    | some b => decide (b + ms t ≤ s.now)
    | none => false
  let above := since (s.ax a).rendAbove (s.nat (A_RENDER_CONFIRM a))
  let below := since (s.ax a).rendBelow (s.nat (A_RECOVER_DELAY a))
  match s.nat (A_RENDER_STATE a) with
  | 1 => if above && renderAllowed s a then s.enterRender a else s
  | 2 => if below then s.toRender a 3 0x15 else s
  | 3 => if above then s.enterRender a else s
  | 4 => if below then s.toRender a 3 0x15 else s
  | _ => s

/-- A_TEN_FB has been written: the error arrives as q 3, and the render conditions that have held up to this write are judged,
then those with it (R190, R205). -/
def State.tension (s : State) (a : Fin 4) : State :=
  let fb := s.get (A_TEN_FB a)
  let s := (s.renderMoves a).modAx a (fun c =>
    { c with tenAt := s.now, tenLost := false,
             rendAbove := if s.get (A_RENDER_LIMIT a) ≤ fb then some (c.rendAbove.getD s.now) else none,
             rendBelow := if fb < s.get (A_RECOVER_TENSION a) then some (c.rendBelow.getD s.now) else none })
  let s := if (s.ax a).level &&& lvTension ≠ 0 then s.leaveLevel a lvTension else s
  let s := s.renderMoves a
  let q := satI 32 (rnd (((tensionRef s a - fb : Int) : Rat) / s.get (A_TEN_FS a) * 2147483648))
  (s.modAx a (fun c => { c with sig := c.sig.set 3 q })).arrive (0x5003 + 16 * a.val) q

/-- What an axis update does to the render state (R205, R495, R497). -/
def State.render (s : State) (a : Fin 4) : State :=
  let st := s.nat (A_RENDER_STATE a)
  let m := mode s a
  let f := (s.ax a).safe
  if st = 0 then
    if s.flag (A_RENDER_EN a) ∧ (m = 1 ∨ m = 2 ∨ m = 4) ∧ isHost s a ∧ s.nat (A_EMERG_STATE a) &&& 5 = 0 ∧
        (s.nat (SF_STATE a) = 1 ∨ s.nat (SF_STATE a) = 2) ∧ !f.stopFn ∧ !f.sto ∧ !(s.ax a).tenLost then
      s.setRender a 1
    else s
  else if !s.flag (A_RENDER_EN a) then s.renderEnd a
  else if 2 ≤ st ∧ !renderAllowed s a then s.setRender a 1
  else if st = 1 then s
  else
    let len := haul s a * ((s.ax a).rendPos - s.get (A_POS_ACT a))
    let s := s.set (A_RENDER_LEN a) (satI 64 len)
    if st = 2 ∧ s.get (A_RENDER_MAX_LEN a) ≤ len then
      if s.nat (A_RENDER_END a) = 0 then s.toRender a 4 0x17
      else if (s.ax a).rend17 then s
      else (s.toRender a 2 0x17).modAx a (fun c => { c with rend17 := true })
    else if st = 3 ∧ len ≤ 0 then s.toRender a 1 0x16
    else s

/-- TENSION_FEEDBACK_LOST (R207). -/
def execTensionFeedbackLost (t : Nat) (a : Fin 4) (s : State) : Res :=
  runOn islProfile (s.at_ t) (fun s => if (mode s a = 4 ∨ s.nat (A_RENDER_STATE a) ≠ 0) ∧ !(s.ax a).tenLost ∧
      (s.ax a).tenAt + ms (s.nat (A_TEN_FB_TIMEOUT a)) ≤ s.now then
    let s := (s.setRender a 0).modAx a (fun c => { c with tenLost := true })
    (s.jLoad 4 0x04 (0x5012 + 0x100 * a.val) a).enterLevel a lvTension
  else s)

/-! ### Torque source (R194, R490) -/

/-- A_TORQUE_SRC (R194, with the rows of R490 ahead of it). -/
def torqueSource (s : State) (a : Fin 4) : Nat :=
  let f := (s.ax a).safe
  let st := stage s a
  let seq := sequenced s a || decide ((s.ax a).start.refPhase ≠ 0)
  if f.sto ∨ s.nat (SF_STATE a) = 0 then 0
  else if f.stopFn then (if f.noTorque then 0 else 3)
  else if bitOf (s.nat (A_EMERG_STATE a)) 2 && f.sos then 3
  else if mode s a ≠ 5 ∧ seq ∧ (st = 0 ∨ st = 6 ∨ st = 7) then 0
  else if mode s a ≠ 5 ∧ seq ∧ (st = 1 ∨ st = 2 ∨ st = 3) then 1
  else if mode s a = 5 then 0
  else if !isHost s a then 7
  else if (s.ax a).tenLost then 3
  else match s.nat (A_RENDER_STATE a) with
    | 2 => 5
    | 3 => 6
    | 4 => 3
    | _ => match mode s a with
      | 0 => 2
      | 4 => 4
      | _ => 3

/-- Whether input 1 governs in a render state: the greater H·T in Render, the lesser in Recover (R206). -/
def tensionGoverns (s : State) (a : Fin 4) : Bool :=
  let d := haul s a * ((s.ax a).in1 - (s.ax a).in0)
  if s.nat (A_TORQUE_SRC a) = 5 then decide (0 < d) else decide (d < 0)

/-- Tsrc in Q16.16 (R194, R195, R206); a contributing device has no axis input of its own, and what its stop function ramps down
is T_d (R276). -/
def torqueSrc (s : State) (a : Fin 4) : Int :=
  let x := s.ax a
  match s.nat (A_TORQUE_SRC a) with
  | 2 =>
    if stage s a = 4 ∧ (sensorless s a ∨ x.start.refPhase ≠ 0) then
      rnd ((x.blendT0 : Rat) + ((s.get (A_TORQUE_DEM a) - x.blendT0 : Int) : Rat) * blendFraction s a)
    else s.get (A_TORQUE_DEM a)
  | 3 => if isHost s a then x.in0 else s.get (A_DEV_TORQUE a)
  | 4 => x.in1
  | 5 => if tensionGoverns s a then x.in1 else x.in0
  | 6 => if tensionGoverns s a then x.in1 else x.in0
  | 7 => s.get (A_DEV_TORQUE a)
  | _ => 0

/-- The slot of the input that does not govern takes the governing value in the render states; in End hold input 0 governs
(R206). -/
def State.meetPaths (s : State) (a : Fin 4) : State :=
  let src := s.nat (A_TORQUE_SRC a)
  if src = 5 ∨ src = 6 ∨ (src = 3 ∧ s.nat (A_RENDER_STATE a) = 4) then
    let g := decide (src ≠ 3) && tensionGoverns s a
    let v := if g then (s.ax a).in1 else (s.ax a).in0
    s.each (slotsOfInput s a (if g then 0 else 1)) (fun k s => s.histDirect k (.preload v))
  else s

/-! ### Limits (R196, R199, R457, R493) -/

/-- Torque T held within ±l. -/
def limitT (l t : Int) : Int := clampI (-l) l t

/-- W and wmax that A_TLIM is formed from: of the device, or on the host of a cascade axis of all devices as their frames
give them, its own included (R196, R199, R457). -/
def limitWeights (s : State) (a : Fin 4) : Rat × Rat :=
  if isHost s a ∧ onCascade s a then
    let l := (s.ax a).devs.filter (fun d => !d.fault)
    (((l.map (·.W)).sum : Nat), ((l.map (·.wmax)).foldl max 0 : Nat))
  else (weightSum s a, weightMax s a)

/-- A_TLIM in Q16.16 (R196). -/
def torqueLimit (s : State) (a : Fin 4) : Int :=
  let (w, m) := limitWeights s a
  let f : Rat := if onCascade s a && isHost s a then 1 else limitFactor s a
  if m = 0 then 0 else clampI 0 0x7FFFFFFF (rnd ((1 - headroomLim s a) * w / m * f * 65536))

/-- L in force; none while no enabled slot sinks input 2 or none has written it since enabled (R196). -/
def regenLimit (s : State) (a : Fin 4) : Option Int :=
  match (s.ax a).in2By with
  | some j => if (slotsOfInput s a 2).any (fun k => decide (k.val = j)) then some (s.ax a).in2 else none
  | none => none

/-- A_TORQUE_CMD from Tsrc (R196). -/
def State.torque (s : State) (a : Fin 4) : State :=
  let s := s.set (A_TORQUE_SRC a) (torqueSource s a)
  let t := torqueSrc s a
  let s := (s.meetPaths a).modAx a (fun c => { c with tsrc := t })
  let l := regenLimit s a
  let s := s.set (A_REGEN_LIM a) (l.getD 0x7FFFFFFF)
  let regen := decide (t ≠ 0) && decide (sgnI t = -sgnR (speedFeedback s a)) &&
    decide ((s.get (A_REV_SPEED a) : Rat) ≤ absR (feOf s a))
  let t := match l with
    | some v => if regen then limitT v t else t
    | none => t
  let lim := torqueLimit s a
  let s := s.set (A_TLIM a) lim
  let s := if limitT lim t = t then s else s.inc (A_TLIM_COUNT a)
  let s := s.set (A_DEV_WEIGHT a) (min 0xFFFFFFFF (rnd (limitWeights s a).1))
  s.set (A_TORQUE_CMD a) (limitT lim t)

/-! ### Shares and their report (R197, R198) -/

/-- A real number in parts of one as Q1.31. -/
def q31 (r : Rat) : Int := satI 32 (rnd (r * 2147483648))

/-- The mean of the accepted pair-current conversions of the update, or the last such mean (R198). -/
def State.pairMeans (s : State) (a : Fin 4) : State :=
  s.each (secsOf s a) (fun x s => s.modSec x (fun c =>
    { c with pairMean := if c.pairCnt = 0 then c.pairMean else (c.pairSum : Rat) / c.pairCnt, pairSum := 0, pairCnt := 0 }))

/-- P_x in parts of the Anvil limit (R198). -/
def sectionP (s : State) (x : Fin 6) : Rat :=
  let m := if (s.sec x).flux.valid then root (fluxMag2 (s.sec x).flux) / ((s.get (S_OBS_PSI x) : Rat) / 1000000) else 1
  (s.sec x).pairMean / anvilI s x * m

/-- ε_x (R198). -/
def shareError (s : State) (a : Fin 4) (x : Fin 6) : Rat :=
  share s a x * ((sharers s a).map (sectionP s)).sum - sectionP s x

/-- t′_x (R198). -/
def trimOf (s : State) (a : Fin 4) (x : Fin 6) : Rat :=
  (((s.ax a).trims.get x : Int) : Rat) / 2147483648 - share s a x * trimSum s a

/-- The share objects of section x follow, and its signals arrive while it is counted (R190, R212). -/
def State.reportShare (s : State) (a : Fin 4) (x : Fin 6) : State :=
  let on := decide (x ∈ sharers s a)
  let e := if on then q31 (shareError s a x) else 0
  let r := (s.sec x).ref
  let s := (s.set (S_WEIGHT x) (if on then rnd (weight s a x) else 0)).set (S_SHARE x) (rnd (share s a x * 1000000))
  let s := ((s.set (S_REF x) (q31 r)).set (S_TRIM x) (if on then q31 (trimOf s a x) else 0)).set (S_SHARE_ERR x) e
  if on then
    let qr := q31 (absR r)
    let s := s.modAx a (fun c => { c with sig := (c.sig.set (4 + x.val) qr (by omega)).set (10 + x.val) e (by omega) })
    (s.arrive (0x5000 + 16 * a.val + 4 + x.val) qr).arrive (0x5000 + 16 * a.val + 10 + x.val) e
  else s

/-! ### The update (R189) -/

/-- The present duty of Manual-duty moves towards its target (R494, R497, R499, R500). -/
def State.dutySlew (s : State) (a : Fin 4) : State :=
  if mode s a ≠ 5 then s
  else if s.nat (SF_STATE a) = 0 then (s.set (A_MD_NOW a) 0).modAx a (fun c => { c with mdNow := 0 })
  else
    let l := 10000 * limitFactor s a
    let tgt : Rat := if s.flag (A_REV_PENDING a) then 0 else clampR (-l) l (s.get (A_MD_DUTY a))
    let d : Rat := (s.get (A_MD_SLEW a) : Rat) / 1000
    let v := (s.ax a).mdNow + clampR (-d) d (tgt - (s.ax a).mdNow)
    (s.modAx a (fun c => { c with mdNow := v })).set (A_MD_NOW a) (truncR v)

/-- The speeds of the encoders that the update of axis a covers: those that serve it, and with axis 0 those that serve
none (R216). -/
def State.encoderSpeeds (s : State) (a : Fin 4) : State :=
  s.each (List.finRange 2) (fun e s =>
    if servedBy s e = some a ∨ (a = 0 ∧ servedBy s e = none) then s.encoderSpeed e else s)

/-- A speed reference beyond the Anvil ceiling is journalled at most once per second (R282, R283). -/
def State.speedClip (s : State) (a : Fin 4) : State :=
  let r := speedAsked s a
  let quiet := match (s.ax a).last06 with
    | some l => decide (s.now < l + 4000000000)
    | none => false
  if absR r ≤ (s.get (SF_ANV_FE_MAX_IN a) : Rat) ∨ quiet = true then s
  else (s.jClip islProfile 0x06 (SF_ANV_FE_MAX_IN a) 0xFF (rnd r) (rnd (speedRef s a)) (SF_ANV_FE_MAX_IN a)).modAx a
    (fun c => { c with last06 := some s.now })

/-- A period in which live compare is not in force or r_x is 0 does not count towards the kick (R193). -/
def State.judgeKick (s : State) (a : Fin 4) : State :=
  s.each (secsOf s a) (fun x s => if canKick s x then s else s.modPwm x (fun p => { p with kickable := false }))

/-- The snatch detector may run (R201). -/
def snatchRuns (s : State) (a : Fin 4) : Bool :=
  let m := mode s a
  isHost s a && (decide (1 ≤ m ∧ m ≤ 4) || rendering s a) &&
    (decide (s.nat (A_START_STAGE a) = 5) || decide (s.nat (A_START_STAGE a) = 0xFF))

/-- The image of the banked subindices of slot k takes its active bank with the direct writes still on their way to it, and
K_SET_VER becomes even (R181). -/
def State.imageOfSlot (s : State) (k : Fin 48) : State :=
  let b := (comingTo s k).foldl (fun b w => if w.1 = k.val then bankPut b w.2.1 w.2.2.1 else b) (s.slot k).active
  let s := s.each (List.range 25) (fun i s => s.set (0x410002 + 256 * k.val + i) (bankAt b (i + 2)))
  s.addCount (K_SET_VER k) 1

/-- The slots of the armed transaction. -/
def armedSlots (s : State) (a : Fin 4) : List (Fin 48) :=
  allSlots.filter (fun k => (s.ax a).armed.any (fun v => decide (v.1 = k)))

/-- The slots of the armed transaction flip; K_SET_VER is odd until the write-back has written their images (R180, R181, R203). -/
def State.flipArmed (s : State) (a : Fin 4) : State :=
  s.each (armedSlots s a) (fun k s => (s.flipSlot k).verFlip k)

/-- The slots of the armed transaction whose images are behind a flip (R181). -/
def behindSlots (s : State) (a : Fin 4) : List (Fin 48) := (armedSlots s a).filter (fun k => decide (s.nat (K_SET_VER k) % 2 = 1))

/-- The write-back after a snatch flip is complete: the images of its slots stand (R181). -/
def State.snatchWritten (s : State) (a : Fin 4) : State :=
  (s.servePort [(12, 25 * (behindSlots s a).length)]).each (behindSlots s a) (fun k s => s.imageOfSlot k)

/-- The detector ends (R203). -/
def State.snatchEnd (s : State) (a : Fin 4) : State :=
  if !(s.ax a).snatchActive then s
  else
    let s := s.modAx a (fun c => { c with snatchActive := false, snatchLowAt := none, snatchRun := 0 })
    let src := 0x5011 + 0x100 * a.val
    match s.nat (A_SNATCH_STATE a) with
    | 2 => ((s.flipArmed a).set (A_SNATCH_STATE a) 3).jLoad 1 0x11 src a
    | 4 => (s.set (A_SNATCH_STATE a) 0).jLoad 1 0x11 src a
    | _ => s

/-- One update of axis a, at a whole multiple of 1 µs (R189, R490); a mode written in the Safe state acts after the
acknowledgement (R497). -/
def State.axisUpdate (s : State) (a : Fin 4) : State :=
  if s.tb % us 1 ≠ 0 then s
  else
    let s := match (s.ax a).modeDue.filter (fun _ => decide (s.nat (SF_STATE a) ≠ 3)) with
      | some m => (s.changeMode a m).modAx a (fun c => { c with modeDue := none })
      | none => s
    let s := ((s.encoderSpeeds a).emergency a).limp a
    let s := ((s.startUpdate a).render a).renderMoves a
    let s := if snatchRuns s a then s else (s.snatchEnd a).modAx a (fun c => { c with hist := [], snatchRun := 0 })
    let s := (s.dutySlew a).speedClip a
    let s := (((s.torque a).pairMeans a).reshare a).judgeKick a
    let fs : Rat := s.get (A_SPEED_FS a)
    let q1 := q31 (speedRef s a / fs)
    let q2 := q31 (speedFeedback s a / fs)
    let s := s.modAx a (fun c => { c with sig := (c.sig.set 1 q1).set 2 q2 })
    let s := (s.arrive (0x5001 + 16 * a.val) q1).arrive (0x5002 + 16 * a.val) q2
    (s.each (secsOf s a) (fun x s => s.reportShare a x)).checkAxis a

/-- AXIS_UPDATE. -/
def execAxisUpdate (t : Nat) (a : Fin 4) (s : State) : Res :=
  runOn islProfile (s.at_ t) (fun s => s.axisUpdate a)

/-! ### The snatch detector (R201–R203) -/

/-- The detector fires (R203). -/
def State.snatchFire (s : State) (a : Fin 4) : State :=
  let s := (s.inc (A_SNATCH_COUNT a)).modAx a (fun c => { c with snatchActive := true, snatchLowAt := none })
  let src := 0x5011 + 0x100 * a.val
  match s.nat (A_SNATCH_STATE a) with
  | 1 => ((s.flipArmed a).set (A_SNATCH_STATE a) 2).jLoad 1 0x10 src a
  | 0 => (s.set (A_SNATCH_STATE a) 4).jLoad 1 0x12 src a
  | _ => s

/-- One evaluation, each 10 µs, with A_SNATCH_WIN to the nearest multiple of 10 µs, the upper one where it lies halfway (R201
names neither: the model's choice, log entry 101). -/
def State.snatchEval (s : State) (a : Fin 4) : State :=
  if s.tb % us 10 ≠ 0 ∨ !snatchRuns s a then s
  else
    let n := (s.nat (A_SNATCH_WIN a) + 5) / 10
    let t := (s.ax a).tsrc
    let s := s.modAx a (fun c => { c with hist := (t :: c.hist).take (n + 1) })
    match (s.ax a).hist[n]? with
    | none => s
    | some old =>
      let d := t - old
      let th := s.get (A_SNATCH_DT a)
      let s := s.modAx a (fun c =>
        { c with snatchDT := satI 32 d,
                 snatchRun := if th ≤ d.natAbs then c.snatchRun + 1 else 0,
                 snatchLowAt := if c.snatchActive ∧ 2 * (d.natAbs : Int) < th then some (c.snatchLowAt.getD s.now) else none })
      if s.flag (A_SNATCH_EN a) ∧ !(s.ax a).snatchActive ∧ s.nat (A_SNATCH_CONFIRM a) ≤ (s.ax a).snatchRun then
        s.snatchFire a
      else s

/-- SNATCH_EVALUATION. -/
def execSnatchEvaluation (t : Nat) (a : Fin 4) (s : State) : Res :=
  runOn islProfile (s.at_ t) (fun s => s.snatchEval a)

/-- SNATCH_END: |ΔT| has stayed below half the threshold for A_SNATCH_HOLD. -/
def execSnatchEnd (t : Nat) (a : Fin 4) (s : State) : Res :=
  runOn islProfile (s.at_ t) (fun s => match (s.ax a).snatchLowAt with
    | some l => if l + ms (s.nat (A_SNATCH_HOLD a)) ≤ s.now then s.snatchEnd a else s
    | none => s)

/-- The inactive banks of the armed slots take the staged values (R178, R203). -/
def State.prepareArmed (s : State) (a : Fin 4) : State :=
  s.each (armedSlots s a) (fun k s =>
    s.prepareSlot k (((s.ax a).armed.filter (fun v => decide (v.1 = k))).map (·.2)))

/-- SNATCH_REARMED: the staged values stand in the inactive banks again. -/
def execSnatchRearmed (t : Nat) (a : Fin 4) (s : State) : Res :=
  runOn islProfile (s.at_ t) (fun s => if s.nat (A_SNATCH_STATE a) = 3 then (s.prepareArmed a).set (A_SNATCH_STATE a) 1 else s)

/-- A transaction is armed with its staged values (R202, R203). -/
def State.snatchArm (s : State) (a : Fin 4) (vs : List (Fin 48 × Nat × Int)) : State :=
  ((s.modAx a (fun c => { c with armed := vs })).prepareArmed a).set (A_SNATCH_STATE a) 1

/-- The armed transaction is discarded and its banks are released (R203); a write-back still under way is completed first (log
entry 41). -/
def State.snatchDiscard (s : State) (a : Fin 4) : State :=
  let s := s.snatchWritten a
  let s := s.each (armedSlots s a) (fun k s => s.unprepareSlot k)
  (s.modAx a (fun c => { c with armed := [] })).set (A_SNATCH_STATE a) 0

/-! ### Ages (R197, R199) -/

/-- TEMPERATURE_STALE: S_TEMP has not been written for A_TEMP_TIMEOUT (R197). -/
def execTemperatureStale (t : Nat) (x : Fin 6) (s : State) : Res :=
  runOn islProfile (s.at_ t) (fun s => match axisOf s x with
    | some a =>
      if (s.sec x).tempAt + ms (s.nat (A_TEMP_TIMEOUT a)) ≤ s.now ∧ !s.flag (S_TEMP_STALE x) then
        (s.set (S_TEMP_STALE x) 1).jLoad 1 0x18 (0x200E + 0x100 * x.val) a
      else s
    | none => s)

/-- S_TEMP has been written. -/
def State.tempWritten (s : State) (x : Fin 6) : State :=
  (s.modSec x (fun c => { c with tempAt := s.now })).set (S_TEMP_STALE x) 0

/-- DEVICE_TORQUE_LOST: no T_d for three consecutive cycles (R199). -/
def execDeviceTorqueLost (t : Nat) (a : Fin 4) (s : State) : Res :=
  runOn islProfile (s.at_ t) (fun s => if onCascade s a ∧ 3 ≤ (s.ax a).tdMissed ∧ !(s.ax a).tdLost then
    ((s.set (A_DEV_TORQUE a) 0).modAx a (fun c => { c with tdLost := true })).jLoad 1 0x19 (0x5010 + 0x100 * a.val) a
  else s)

end Sys2Proof.Machine
end

