-- ==== Sys2Proof/Machine/Envelope.lean ====
section
/-! DEFINITION. The safety channels' records and their copies of the configuration, and the Anvil envelope that the copies
put in force (R254, R281, R282, R284). -/

namespace Sys2Proof.Machine
open Obj

def chans : List (Fin 2) := [0, 1]

def State.chan (s : State) (c : Fin 2) : Chan := s.tongs.get c

/-- The record of safety channel c is changed by f. -/
def State.modChan (s : State) (c : Fin 2) (f : Chan → Chan) : State :=
  { s with tongs := s.tongs.set c.val (f (s.chan c)) c.isLt }

/-- A value of channel c's copy of the safety configuration, as a natural number. -/
def State.cfgNOf (s : State) (c : Fin 2) (k : Nat) : Nat := (s.cfgOf c k).toNat

/-- The same of the value in force where the spec names no channel. -/
def State.cfgN (s : State) (k : Nat) : Nat := (s.cfg k).toNat

/-- A value of the envelope: its object, its readback, and whether it is a lower bound (R284). -/
structure Bound where
  obj : Nat
  readback : Nat
  lower : Bool
deriving DecidableEq, Repr

/-- The values of the envelope (R284). -/
def anvilBounds : List Bound :=
  (allSecs.map (fun x => [⟨SF_ANV_ILIM x, SF_ANV_ILIM_IN x, false⟩, ⟨SF_ANV_DUTY_MAX x, SF_ANV_DUTY_MAX_IN x, false⟩])).flatten ++
  (List.range 8).map (fun i => ⟨SF_ANV_FPWM_MIN + i, SF_ANV_FPWM_MIN_IN + i, decide (i = 0 ∨ i = 2 ∨ i = 4)⟩) ++
  allAxes.map (fun a => ⟨SF_ANV_FE_MAX a, SF_ANV_FE_MAX_IN a, false⟩)

/-- The more restrictive of the two copies of a value of the envelope (R281). -/
def State.bound (s : State) (b : Bound) : Int :=
  if b.lower then max (s.cfgOf 0 b.obj) (s.cfgOf 1 b.obj) else min (s.cfgOf 0 b.obj) (s.cfgOf 1 b.obj)

/-- The two channels' copies of every value of the envelope agree (R277). -/
def copiesAgree (s : State) : Bool := anvilBounds.all (fun b => decide (s.cfgOf 0 b.obj = s.cfgOf 1 b.obj))

/-- A stored value outside its bounds is clipped, 0x07 (R282): its key, the bounds and their readbacks. -/
def State.fit (s : State) (k : Nat) (lo hi : Int) (klo khi : Nat) : State :=
  let v := s.get k
  let n := max lo (min v hi)
  if n = v then s else (s.set k n).jClip islStore 0x07 k 0xFF v n (if v < n then klo else khi)

/-- A value that waits in the shadows of section x is clipped in the same way. -/
def State.fitShadow (s : State) (x : Fin 6) (sub : Nat) (lo hi : Int) : State :=
  let f (v : Int) : Int := max lo (min v hi)
  s.modPwm x (fun p =>
    { p with written := p.written.map (fun w => if w.1 = sub then (w.1, f w.2.1, w.2.2) else w),
             forced := p.forced.map (fun w => if w.1 = sub then (w.1, f w.2.1, w.2.2) else w) })

/-- The period of section x within the new frequency range; what is clipped waits in its shadow (R282, R96). -/
def State.fitPeriod (s : State) (x : Fin 6) : State :=
  let b := anvilPeriods s (s.nat (S_PRESCALE x))
  let v := s.get (S_PERIOD x)
  let s := s.fit (S_PERIOD x) b.1 b.2 SF_ANV_FPWM_MAX_IN SF_ANV_FPWM_MIN_IN
  if s.get (S_PERIOD x) = v then s
  else s.modPwm x (fun p => { p with written := p.written ++ [(1, s.get (S_PERIOD x), s.tick)] })

/-- The envelope of the two copies comes into force: the readbacks, then every stored value outside it (R281, R282, R130). -/
def State.loadEnvelope (s : State) : State :=
  let s := s.each anvilBounds (fun b s => s.set b.readback (s.bound b))
  s.each allSecs (fun x s =>
    let s := (s.fit (S_DUTY_MAX x) 0 (s.get (SF_ANV_DUTY_MAX_IN x)) 0 (SF_ANV_DUTY_MAX_IN x)).fitShadow x 3 0
      (s.get (SF_ANV_DUTY_MAX_IN x))
    let s := s.fitPeriod x
    let s := s.each phases (fun p s => s.each [0, 1, 2, 3] (fun kind s =>
      s.fit (codeKey (hbOf x p) kind) (s.get SF_ANV_CODE_LO_IN) (s.get SF_ANV_CODE_HI_IN) SF_ANV_CODE_LO_IN SF_ANV_CODE_HI_IN))
    let s := s.each [S_TMP_TGT_ON x, S_TMP_TGT_OFF x] (fun k s =>
      s.fit k (s.get SF_ANV_TSW_LO_IN) (s.get SF_ANV_TSW_HI_IN) SF_ANV_TSW_LO_IN SF_ANV_TSW_HI_IN)
    s.fit (S_BLW_HOLD x) 0 (s.get SF_ANV_BLW_MAX_IN) 0 SF_ANV_BLW_MAX_IN)

/-- A fault leaves another value in channel c's copy of value i of the envelope; the envelope in force follows (R281). -/
def State.upsetCopy (s : State) (c : Fin 2) (i : Fin 24) (v : BitVec 32) : State :=
  match anvilBounds[i.val]? with
  | some b =>
    let w : Nat := match Catalog.find b.obj with
      | some r => v.toNat % 2 ^ (8 * r.ty.size)
      | none => v.toNat
    (s.modChan c (fun k => { k with conf := AL.put k.conf b.obj (Catalog.default b.obj) w })).loadEnvelope
  | none => s

end Sys2Proof.Machine
end

