-- ==== Sys2Proof/Machine/Tongs.lean ====
section
/-! DEFINITION. The safety channels A and B: decoders, measurements, requests, checks, functions, states and outputs
(R254–R279, R286). -/

namespace Sys2Proof.Machine
open Obj

def State.cax (s : State) (c : Fin 2) (a : Fin 4) : ChAx := (s.chan c).axes.get a

/-- What channel c holds of axis a is changed by f. -/
def State.modCax (s : State) (c : Fin 2) (a : Fin 4) (f : ChAx → ChAx) : State :=
  s.modChan c (fun k => { k with axes := k.axes.set a.val (f (k.axes.get a)) a.isLt })

/-- ENC0 serves axis a in channel c's configuration (R256). -/
def encAxis (s : State) (c : Fin 2) (a : Fin 4) : Bool := decide (s.cfgNOf c SF_ENC_AXIS = a.val)

/-- The sections of axis a in channel c's configuration. -/
def safeSecs (s : State) (c : Fin 2) (a : Fin 4) : List (Fin 6) := allSecs.filter (fun x => bitOf (s.cfgNOf c (SF_SECTIONS a)) x.val)

/-! ### Journal (R286) -/

/-- A measurement as an entry shows it. -/
def measured (v : Option Rat) : Int := satI 32 (rnd (v.getD 0))

/-- A class 0x8 entry; SF_LAST_CODE takes its code. -/
def State.jTongs (s : State) (src detail : Nat) (chs : Nat) (data : Bytes) : State :=
  let isl := if chs % 2 = 1 then islTongsA else islTongsB
  (s.journal 8 isl detail src data).set SF_LAST_CODE (faultCode 8 isl detail)

/-- The safety state of axis a: the Safe state of either channel, else that of channel A (R265, R278). -/
def axisState (s : State) (a : Fin 4) : Nat := if (s.cax 1 a).st = 3 then 3 else (s.cax 0 a).st

/-- A function is requested of axis a, or an STO release is pending (R265). -/
def axisBusy (s : State) (a : Fin 4) : Bool :=
  decide ((s.cax 0 a).req ≠ 0 ∨ (s.cax 1 a).req ≠ 0) || (s.cax 0 a).sto || (s.cax 1 a).sto

/-- The safety state of axis a after what it now holds, states 1 and 2 told by the requests (R265, R286). -/
def stateAfter (s : State) (a : Fin 4) : Nat :=
  if axisState s a = 1 ∨ axisState s a = 2 then (if axisBusy s a then 2 else 1) else axisState s a

/-- The status word of axis a in channel c (R264, R274). -/
def statusWord (s : State) (c : Fin 2) (a : Fin 4) : Nat :=
  let x := s.cax c a
  let k := s.chan c
  let b (i : Nat) (v : Bool) : Nat := if v then 2 ^ i else 0
  let refrun := bitOf x.safeWord 12 && (x.st = 1 || x.st = 2) &&
    (match x.sls with | some l => decide (l ≤ s.cfgNOf c (SF_REFRUN_SPEED a)) | none => false)
  b 0 x.sto + b 1 (x.fn = 1 || (x.fn = 4 && !x.sto)) + b 2 (x.fn = 2) + b 3 (x.fn = 3) + b 4 x.sls.isSome + b 5 (bitOf x.req 7) +
    b 6 (x.req &&& 0x300 ≠ 0) + b 7 x.sbc + b 8 (x.st = 3) + b 9 (x.st = 0) + b 10 (k.home && encAxis s c a) + b 11 refrun +
    b 12 (k.unavail && encAxis s c a)

/-- An axis entry: axis, channels, state after the event, reaction (0 none, 1 STO, 2 SS1, 3 SOS), status after it,
measurements and limit. -/
def State.jSafe (s : State) (a : Fin 4) (detail chs reaction : Nat) (ma mb lim : Int) : State :=
  s.jTongs (0x6102 + 0x10 * a.val) detail chs
    (le 1 a.val ++ le 1 chs ++ le 1 (stateAfter s a) ++ le 1 reaction ++ le 2 (statusWord s 0 a) ++ le 4 ma ++ le 4 mb ++ le 4 lim)

/-- A device entry, of no one axis: the rule states no safety state and no status for it, which are free values (R286; log
entry 6). -/
def State.jTongsDevice (s : State) (detail chs : Nat) (ma mb lim : Int) : State :=
  let (f, s) := s.free
  s.jTongs 0x6000 detail chs
    (le 1 0xFF ++ le 1 chs ++ le 1 (f % 256 : Nat) ++ le 1 1 ++ le 2 (f / 256 % 65536 : Nat) ++ le 4 ma ++ le 4 mb ++ le 4 lim)

/-- The speed of axis a in channel c, as entries show it. -/
def speedOf (s : State) (c : Fin 2) (a : Fin 4) : Int := measured (s.cax c a).v

/-- An axis entry with both speeds. -/
def State.jSafeV (s : State) (a : Fin 4) (detail chs reaction : Nat) (lim : Int) : State :=
  s.jSafe a detail chs reaction (speedOf s 0 a) (speedOf s 1 a) lim

/-- The channels of a pair of tests, bit 0 A and bit 1 B (R286). -/
def chansOf (f : Fin 2 → Bool) : Nat := (f 0).toNat + 2 * (f 1).toNat

/-! ### The channel decoders (R256, R277) -/

/-- A change of A or B reaches the decoder of channel c; three illegal transitions within SF_ENC_CPR counts of travel
are an encoder cause (R277). -/
def State.chanDecode (s : State) (c : Fin 2) (a b : Bool) : State :=
  s.modChan c (fun k =>
    if a = k.a ∧ b = k.b then k
    else if a ≠ k.a ∧ b ≠ k.b then
      let l := ((k.travel : Int) :: k.illegalAt).take 3
      { k with a := a, b := b, illegalAt := l,
               illegal := k.illegal || (match l with
                 | [t1, _, t3] => decide (t1 - t3 ≤ s.cfgOf c SF_ENC_CPR)
                 | _ => false) }
    else
      let d : Int := (if (grayIndex k.a k.b + 1) % 4 = grayIndex a b then 1 else -1) * s.get (A_ENC_POLARITY 0)
      let z := k.sinceZ + d
      { k with a := a, b := b, count := k.count + d, travel := k.travel + 1, sinceZ := z,
               missing := k.missing || decide (3 * s.cfgOf c SF_ENC_CPR < 2 * (z.natAbs : Int)) })

/-- The error of an index against its reference, modulo SF_ENC_CPR and taken into half a revolution to either side (R277). -/
def indexError (cpr d : Int) : Int :=
  let r := d % cpr
  if 2 * r ≤ cpr then r else r - cpr

/-- A rising edge of Z reaches channel c (R277): the first is the index reference, a later one is judged against it. -/
def State.chanIndex (s : State) (c : Fin 2) : State :=
  s.modChan c (fun k =>
    let k := { k with sinceZ := 0, zLast := some k.count, missing := false }
    match k.zRef with
    | none => { k with zRef := some k.count, idxErr := 0, idxBad := false }
    | some z =>
      let e := indexError (s.cfgOf c SF_ENC_CPR) (k.count - z)
      { k with idxErr := e, idxBad := decide (s.cfgOf c SF_IDX_TOL < e.natAbs) })

/-- ENCODER_CHANGE: the levels of A and B after a change that some filters have accepted; the safety channels decode ENC0 alone,
with filters of their own (R214, R256). -/
def execEncoderChange (t : Nat) (e : EncIn) (a b : Bool) (s : State) : Res :=
  let s := s.at_ t
  let s := if e.who.getLsbD 0 then s.encoderChange e.enc a b else s
  done (if e.enc = 0 then s.each chans (fun c s => if e.who.getLsbD (1 + c.val) then s.chanDecode c a b else s) else s)

/-- INDEX_PULSE: a rising edge of Z that some filters have accepted (R222, R256). -/
def execIndexPulse (t : Nat) (e : EncIn) (s : State) : Res :=
  let s := s.at_ t
  let s := if e.who.getLsbD 0 then s.indexPulse e.enc else s
  done (if e.enc = 0 then s.each chans (fun c s => if e.who.getLsbD (1 + c.val) then s.chanIndex c else s) else s)

/-! ### Measurements (R256) -/

/-- Encoder speed of channel c: the counts of the last four cycles, 200 µs, from one cycle start to the fourth after it. -/
def encSpeed (s : State) (c : Fin 2) : Rat :=
  let k := s.chan c
  ((k.counts.headD 0 - (k.counts[4]?).getD 0 : Int) : Rat) * s.cfgOf c SF_ENC_POLE_PAIRS * 50000 / s.cfgOf c SF_ENC_CPR

/-- The crossings of the counted sections of axis a within SF_OBS_TIME. -/
def recentCrossings (s : State) (c : Fin 2) (a : Fin 4) : List (Nat × Int) :=
  ((countedSecs s a).map (fun x => (s.sec x).xings.filter (fun k => decide (s.now ≤ k.1 + ms (s.cfgNOf c SF_OBS_TIME))))).flatten

/-- Observer speed of axis a as channel c takes it, none while invalid. -/
def obsSpeed (s : State) (c : Fin 2) (a : Fin 4) : Option Rat :=
  if c = 0 then (if s.flag (A_FUS_VALID a) then some (s.get (A_FUS_FE a)) else none)
  else
    let l := recentCrossings s c a
    let n := (countedSecs s a).length
    if 4 ≤ l.length ∧ 0 < n then
      let sg : Int := if (l.map (·.2)).sum < 0 then -1 else 1
      some (sg * ((l.length : Rat) * 10000 / (6 * n * s.cfgNOf c SF_OBS_TIME)))
    else none

/-- Travel since the last cycle as channel c takes it from the observer, in 0.01°. -/
def obsTravel (s : State) (c : Fin 2) (a : Fin 4) : Rat :=
  if c = 0 then wrapAng ((s.get (A_FUS_ANGLE a) - (s.cax c a).ang : Int) : Rat)
  else
    let n := (countedSecs s a).length
    if n = 0 then 0
    else
      let l := ((countedSecs s a).map (fun x => (s.sec x).xings.filter (fun k => decide (s.now < k.1 + us 50)))).flatten
      6000 * (((l.map (·.2)).sum : Int) : Rat) / n

/-- An enabled slot sinks axis input 0 (R254). -/
def hasSink0 (s : State) (a : Fin 4) : Bool := !(slotsOfInput s a 0).isEmpty

/-- Channel c latches the measurements of axis a and, where its reads have completed, the values of R254. -/
def State.latchAxis (s : State) (c : Fin 2) (fresh : Bool) (a : Fin 4) : State :=
  let v := if encAxis s c a then some (encSpeed s c) else obsSpeed s c a
  let tr := (s.cax c a).trav + obsTravel s c a
  let pos := if encAxis s c a then (s.chan c).count + (s.chan c).homeOff else rnd tr
  s.modCax c a (fun x =>
    { x with
      v := v, trav := tr, pos := pos, ang := s.get (A_FUS_ANGLE a)
      loc := if fresh then s.nat (SF_REQ_LOCAL a) else x.loc
      md := if fresh then mode s a else x.md
      emerg := if fresh then s.nat (A_EMERG_REQ a) else x.emerg
      sink0 := if fresh then hasSink0 s a else x.sink0 })

/-- Channel c latches its values at the cycle start (R255, R256). -/
def State.latch_ (s : State) (c : Fin 2) (fresh pass : Bool) : State :=
  let s := s.modChan c (fun k =>
    { k with counts := (k.count :: k.counts).take 5, brakeOpen := if fresh then s.flag SF_BRAKE_OPEN else k.brakeOpen,
             selfBad := k.selfBad || !pass, anvilBad := !copiesAgree s })
  s.each allAxes (fun a s => s.latchAxis c fresh a)

/-! ### Requests (R262, R263, R275) -/

/-- STO is requested of channel c by its input, accepted high (R259). -/
def stoInput (s : State) (c : Fin 2) (a : Fin 4) : Bool := (s.chan c).stoIn && bitOf (s.cfgNOf c SF_STO_AXES) a.val

/-- The SLS limits requested (R268, R493): of the safe word, the local word, and Limp, which asks
for limits alone in Unconfirmed and in the Safe state (R497). -/
def slsAsked (s : State) (c : Fin 2) (x : ChAx) (a : Fin 4) : List Nat :=
  let word (w : Nat) : List Nat := if bitOf w 4 then [s.cfgNOf c (SF_SLS_LIM a (bitsOf w 6 5))] else []
  word x.safeWord ++ word x.loc ++
    (if bitOf (s.nat (A_EMERG_STATE a)) 1 && decide (x.st = 1 ∨ x.st = 2) && decide (s.nat (A_LIMP_SLS a) < 4) then [s.cfgNOf c (SF_SLS_LIM a (s.nat (A_LIMP_SLS a)))]
     else [])

/-- The requests of axis a that channel c holds, in the layout of R263. -/
def requests (s : State) (c : Fin 2) (a : Fin 4) : Nat :=
  let x := s.cax c a
  let w := x.safeWord ||| x.loc
  let sos := bitOf w 3 || bitOf x.emerg 1
  let ss2 := bitOf w 2
  let enc := encAxis s c a
  let ss1 := bitOf w 1 || bitOf x.emerg 0 || (decide (s.nat (A_FAULT_STATE a) = 1) && decide ((s.ax a).reactIn = 2)) ||
    (!enc && (ss2 || sos))
  (if bitOf w 0 || stoInput s c a then 1 else 0) + (if ss1 then 2 else 0) + (if ss2 && enc then 4 else 0) +
    (if sos && enc then 8 else 0) + (if (slsAsked s c x a).isEmpty then 0 else 16) + (w &&& 0x380)

/-- Channel c takes the requests of axis a; the lowest limit asked is the SLS selection (R268). -/
def State.takeRequests (s : State) (c : Fin 2) (a : Fin 4) : State :=
  let x := s.cax c a
  let sel := (slsAsked s c x a).foldl (fun m l => some (match m with | some k => min k l | none => l)) none
  s.modCax c a (fun x =>
    let same := decide (requests s c a &&& 0x300 = x.req &&& 0x300)
    let x := { x with req := requests s c a, wordSto := bitOf (x.safeWord ||| x.loc) 0, sdi := if same then x.sdi else none }
    let x := match sel, x.sls with
      | none, _ => { x with sls := none, slsJ := none }
      | some l, none => { x with sls := some l, slsJ := none, slsDue := s.now + ms (s.cfgNOf c (SF_SLS_DELAY a)) }
      | some l, some k =>
        if l < k then { x with sls := some l, slsDue := s.now + ms (s.cfgNOf c (SF_SLS_DELAY a)) }
        else if k < l then { x with sls := some l, slsJ := x.slsJ.map (fun _ => l) } else x
    let x := { x with slsJ := if x.slsDue ≤ s.now then x.sls else x.slsJ }
    { x with sdi := if x.req &&& 0x300 = 0 then none
                    else some (match x.sdi with
                      | some (p0, hi, lo) => (p0, max hi x.pos, min lo x.pos)
                      | none => (x.pos, x.pos, x.pos)) })

/-! ### Removing torque (R257, R258) -/

/-- The gate enables of channel c: closed on the sections of an axis for which it holds no STO (R257). -/
def gateEnable (s : State) (c : Fin 2) (x : Fin 6) : Bool :=
  allAxes.any (fun a => decide (x ∈ safeSecs s c a) && !(s.cax c a).sto)

/-- Both enables of half-bridge n follow the channels. Behind an open enable what is on turns off, nothing that waits is
taken as commanded, and a period held back in this way has no pulse and no late release (R257). -/
def State.gate (s : State) (n : Fin 18) : State :=
  let ea := gateEnable s 0 (secOf n)
  let eb := gateEnable s 1 (secOf n)
  let chops := (chopped s (secOf n)).any (fun q => decide (q.1 = n))
  let s := s.modHb n (fun h => { h with enA := ea, enB := eb })
  if ea && eb then s
  else
    let s := ((s.endWaits n).toOff n true).toOff n false
    if chops then s.modPwm (secOf n) (fun p => { p with onTime := false, offIssued := p.offIssued || p.onTime }) else s

/-- Every half-bridge follows the channels (R257). -/
def State.syncGates (s : State) : State := s.each allHbs (fun n s => s.gate n)

/-- What the power path sees of both channels: STO of either, the stop function with the ramp of channel A, SOS, the
lower SLS limit (R257, R266, R268). -/
def State.syncAxis (s : State) (a : Fin 4) : State :=
  let x := s.cax 0 a
  let y := s.cax 1 a
  let run (x : ChAx) : Bool := decide (x.fn = 1 ∨ x.fn = 2 ∨ (x.fn = 4 ∧ x.sto = false))
  let stop := run x || run y
  let was := (s.ax a).safe.stopFn
  let s := s.modAx a (fun c => { c with safe :=
    { c.safe with
      sto := x.sto || y.sto, stopFn := stop || c.safe.casc,
      v0 := if c.safe.casc then c.safe.v0 else if run x then x.v0 else y.v0,
      t0 := if c.safe.casc then c.safe.t0 else if run x then x.t0 else y.t0,
      noTorque := sequenced s a && decide (s.nat (A_START_STAGE a) ≠ 5),
      sos := decide (x.fn = 3 ∧ y.fn = 3),
      slsClip := match x.sls, y.sls with
        | some l, some m => some (min l m)
        | some l, none => some l
        | none, m => m } })
  if was = (s.ax a).safe.stopFn then s else s.each (secsOf s a) (fun x s => s.drive x)

/-- Channel c holds STO for axis a; at the first hold of either channel the sections leave, the duty and the render end
and the brake closes (R258, R261, R497, R500). -/
def State.holdSto (s : State) (c : Fin 2) (a : Fin 4) : State :=
  if (s.cax c a).sto then s
  else
    let first := !(s.cax 0 a).sto && !(s.cax 1 a).sto
    let s := s.modCax c a (fun x => { x with sto := true, sbc := true, free := false })
    if first then
      let s := s.each (safeSecs s c a) (fun x s =>
        if 1 ≤ s.nat (S_STATE x) ∧ s.nat (S_STATE x) ≤ 3 then s.enableZero x
        else if (s.sec x).join ≠ .none then s.joinFail x else s)
      let s := ((s.clearDuty a).renderEnd a)
      let s := if s.cfgNOf c SF_MBK_AXIS = a.val then s.set SF_BRAKE_OPEN 0 else s
      s.syncGates
    else s.syncGates

/-- Sections of the axis are all in state 0 or 4 (R258). -/
def secsIdle (s : State) (c : Fin 2) (a : Fin 4) : Bool :=
  (safeSecs s c a).all (fun x => decide (s.nat (S_STATE x) = 0) || decide (s.nat (S_STATE x) = 4))

/-! ### Stop functions (R266, R267, R272, R275, R495) -/

/-- |v| is known and at or below standstill. -/
def standing (s : State) (c : Fin 2) (a : Fin 4) : Bool :=
  match (s.cax c a).v with
  | some v => decide (absR v ≤ s.cfgOf c (SF_STANDSTILL a))
  | none => false

/-- The function asked of channel c: 9 STO, 1 SS1, 2 SS2, 3 SOS, 0 none (R267, R272); in the Safe state the reaction. -/
def asked (s : State) (c : Fin 2) (a : Fin 4) : Nat :=
  let x := s.cax c a
  if x.st = 0 then 9
  else if x.st = 3 then (if x.react = 1 then 1 else 9)
  else if bitOf x.req 0 then 9
  else if bitOf x.req 1 then 1
  else if bitOf x.req 2 then 2
  else if bitOf x.req 3 then (if x.fn = 3 ∨ (x.fn ≠ 2 ∧ standing s c a) then 3 else 2)
  else 0

/-- What the start of a stop function does to the axis: the profile follows, gearing and render end, a start sequence
in stage 1 to 4 goes to stage 0 (R230, R266, R495, R497). -/
def State.stopBegins (s : State) (a : Fin 4) : State :=
  let s := (s.followStop a).renderEnd a
  if sensorless s a ∧ !follows s a ∧ 1 ≤ s.nat (A_START_STAGE a) ∧ s.nat (A_START_STAGE a) ≤ 4 then s.enterStage a 0 else s

/-- SS1 or SS2 starts in channel c (R266, R267); without a sink of input 0, or in Manual-duty, STO applies at its start. -/
def State.startStop (s : State) (c : Fin 2) (a : Fin 4) (k : Nat) : State :=
  let other := (s.cax (1 - c) a).fn
  let x := s.cax c a
  let s := s.modCax c a (fun x => { x with fn := k, v0 := x.v.getD 0, t0 := s.now })
  let s := if other = 1 ∨ other = 2 ∨ other = 4 then s else s.stopBegins a
  if !x.sink0 ∨ x.md = 5 then (s.modCax c a (fun x => { x with fn := 4 })).holdSto c a else s

/-- A stop function of channel c ends (R266, R267): by standstill SS2 enters SOS; otherwise the brake delay, or STO. -/
def State.endStop (s : State) (c : Fin 2) (a : Fin 4) (still : Bool) : State :=
  let x := s.cax c a
  if x.fn = 2 ∧ still then s.modCax c a (fun x => { x with fn := 3, sosPos := x.pos })
  else if x.fn = 1 ∧ s.cfgNOf c SF_MBK_AXIS = a.val ∧ 0 < s.cfgNOf c (SF_SBC_DELAY a) then
    (s.modCax c a (fun x => { x with fn := 4, sbc := true, sbcAt := some (s.now + ms (s.cfgNOf c (SF_SBC_DELAY a))) })).set SF_BRAKE_OPEN 0
  else (s.modCax c a (fun x => { x with fn := 4 })).holdSto c a

/-- One cycle of the stop functions of channel c on axis a. -/
def State.runStop (s : State) (c : Fin 2) (a : Fin 4) : State :=
  let x := s.cax c a
  let ask := asked s c a
  let s :=
    if ask = 9 then (s.modCax c a (fun x => { x with fn := 0, sbcAt := none })).holdSto c a
    else if ask = 1 ∨ ask = 2 then
      if x.fn = 0 ∨ (x.fn = 3 ∧ ask = 1) then s.startStop c a ask
      else if x.fn = 1 ∨ x.fn = 2 then s.modCax c a (fun x => { x with fn := ask }) else s
    else if ask = 3 then
      if x.fn = 3 ∨ x.fn = 4 then s else s.modCax c a (fun x => { x with fn := 3, sosPos := x.pos })
    else if x.sbcAt.isSome then s
    else s.modCax c a (fun x => { x with fn := 0 })
  let x := s.cax c a
  if x.fn = 1 ∨ x.fn = 2 then
    let still := standing s c a
    if still ∨ x.t0 + ms (s.cfgNOf c (SF_SS1_TMAX a)) ≤ s.now then s.endStop c a still else s
  else s

/-- The entries of the stop functions of axis a, of what has begun or ended between s and u: STO requested, SS1 started, SS1
complete (R266, R286); each names the channels that decided it, and is none where a channel had decided it before (R278). -/
def State.jStops (s u : State) (a : Fin 4) : State :=
  let held := (s.cax 0 a).sto || (s.cax 1 a).sto
  let ran (c : Fin 2) : Bool := decide ((s.cax c a).fn = 1 ∨ (s.cax c a).fn = 4)
  let newSto (c : Fin 2) : Bool := !held && (u.cax c a).sto
  let sto := chansOf (fun c => newSto c && bitOf (u.cax c a).req 0 && decide ((u.cax c a).st = 1 ∨ (u.cax c a).st = 2))
  let ss1 := chansOf (fun c => !ran 0 && !ran 1 && decide (asked u c a = 1) && decide ((u.cax c a).fn = 1 ∨ (u.cax c a).fn = 4))
  let ended := chansOf (fun c => newSto c && decide (asked u c a = 1) && decide ((u.cax c a).fn = 4))
  let u := if sto ≠ 0 then u.jSafeV a 0x01 sto 1 0 else u
  let u := if ss1 ≠ 0 then u.jSafeV a 0x02 ss1 2 0 else u
  if ended ≠ 0 then u.jSafeV a 0x04 ended 1 0 else u

/-- One cycle of the stop functions of axis a in both channels. -/
def State.runStops (s : State) (a : Fin 4) : State := s.jStops (s.each chans (fun c s => s.runStop c a)) a

/-- Channel c has waited SF_SBC_DELAY since SBC on axis a (R266). -/
def sbcOver (s : State) (c : Fin 2) (a : Fin 4) : Bool := (s.cax c a).sbcAt.any (fun due => decide (due ≤ s.now))

/-! ### Checks (R268–R271, R277) -/

/-- A cause found by a channel: detail, reaction, the limit judged, and whether what it judged is a speed. -/
structure Found where
  detail : Nat
  react : Nat
  lim : Int
  bySpeed : Bool
deriving DecidableEq, Repr

/-- The results that the channels compare: requests, SLS selection, state, reaction, and the values read (R254, R277). Each
channel's own STO input is judged by SF_STO_DISC_TIME instead (R259). -/
def compared (x : ChAx) : List Nat :=
  [x.wordSto.toNat, x.req &&& 0x3FE, x.sls.getD 0, x.st, if x.st = 3 then x.react else 0, x.loc, x.md, x.emerg, x.sink0.toNat]

/-- Channel c compares its last results with those exchanged (R254, R255, R277). -/
def State.compare (s : State) (c : Fin 2) : State :=
  let k := s.chan c
  let pos := decide (s.cfgOf c SF_XC_POS_TOL < (k.counts.headD 0 - k.peerCount).natAbs)
  let spd := allAxes.any (fun a => encAxis s c a &&
    decide ((s.cfgOf c SF_XC_SPD_TOL : Rat) < absR ((k.axes.get a).v.getD 0 - (k.peer.get a).v.getD 0)))
  let req := decide (k.brakeOpen ≠ k.peerBrake) || allAxes.any (fun a => decide (compared (k.axes.get a) ≠ compared (k.peer.get a)))
  s.modChan c (fun k =>
    { k with nPos := if pos then k.nPos + 1 else 0, nSpd := if spd then k.nSpd + 1 else 0,
             nReq := if req then k.nReq + 1 else 0 })

/-- The encoder speed of channel c is at or above twice SF_OBS_MIN_FE (R277). -/
def encFast (s : State) (c : Fin 2) : Bool := decide (2 * (s.cfgOf c SF_OBS_MIN_FE : Rat) ≤ absR (encSpeed s c))

/-- The observer of channel c against its encoder: since when the speeds differ, the travel window, an invalid
observer (R277). -/
def State.watchObserver (s : State) (c : Fin 2) : State :=
  match allAxes.find? (encAxis s c) with
  | none => s
  | some a =>
    let o := obsSpeed s c a
    let far := match o with
      | some f => decide ((s.cfgOf c SF_OBS_MIN_FE : Rat) ≤ absR f) && decide ((s.cfgOf c SF_OBS_SPD_TOL : Rat) < absR (f - encSpeed s c))
      | none => false
    let tm := ms (s.cfgNOf c SF_OBS_TIME)
    let trav := (s.cax c a).trav
    s.modChan c (fun k =>
      let inv := if o.isNone then some (k.invalidAt.getD s.now) else none
      { k with
        diffAt := if far then some (k.diffAt.getD s.now) else none
        win := if o.isSome then (s.now, k.counts.headD 0, trav) :: k.win.filter (fun w => decide (s.now ≤ w.1 + tm)) else []
        invalidAt := inv
        unavail := encFast s c && inv.any (fun i => decide (i + tm ≤ s.now)) })

/-- Detail 0x19, once, when bit 12 of the status rises in the first channel (R277). -/
def State.jUnavailable (s u : State) : State :=
  let rose := chansOf (fun c => (u.chan c).unavail && !(s.chan c).unavail)
  match allAxes.find? (encAxis s 0) with
  | some a =>
    if rose ≠ 0 ∧ !(s.chan 0).unavail ∧ !(s.chan 1).unavail then
      u.jSafe a 0x19 rose 0 (measured (some (encSpeed u 0))) (measured (some (encSpeed u 1))) (2 * s.cfg SF_OBS_MIN_FE)
    else u
  | none => u

/-- What the encoder and the observer of channel c have travelled over a whole window of SF_OBS_TIME: counts and 0.01° (R277). -/
def windowTravel (s : State) (c : Fin 2) : Option (Int × Rat) :=
  let k := s.chan c
  match k.win.head?, k.win.getLast? with
  | some (t1, n1, r1), some (t0, n0, r0) => if ms (s.cfgNOf c SF_OBS_TIME) ≤ t1 - t0 then some (n1 - n0, r1 - r0) else none
  | _, _ => none

/-- The travels of encoder and observer differ over a window of SF_OBS_TIME (R277). -/
def travelDiffers (s : State) (c : Fin 2) : Bool :=
  (windowTravel s c).any (fun w => decide ((s.cfgOf c SF_OBS_TRAVEL_TOL : Rat) <
    absR (((w.1 : Int) : Rat) * s.cfgOf c SF_ENC_POLE_PAIRS * 36000 / s.cfgOf c SF_ENC_CPR - w.2)))

/-- The discrepancies of device scope that channel c finds. -/
def deviceFound (s : State) (c : Fin 2) : Option Found :=
  let k := s.chan c
  let n := s.cfgNOf c SF_XC_TIME
  if k.selfBad then some ⟨0x12, 0, 0, false⟩
  else if n ≤ k.nPos then some ⟨0x0B, 0, s.cfgOf c SF_XC_POS_TOL, false⟩
  else if n ≤ k.nSpd then some ⟨0x0C, 0, s.cfgOf c SF_XC_SPD_TOL, true⟩
  else if n ≤ k.nReq then some ⟨0x0D, 0, n, false⟩
  else if k.anvilBad then some ⟨0x13, 0, 0, false⟩
  else none

/-- The discrepancies of the encoder axis that channel c finds. -/
def encoderFound (s : State) (c : Fin 2) : Option Found :=
  let k := s.chan c
  if k.idxBad then some ⟨0x0E, 0, s.cfgOf c SF_IDX_TOL, false⟩
  else if k.illegal then some ⟨0x0F, 0, s.cfgOf c SF_ENC_CPR, false⟩
  else if k.missing then some ⟨0x0F, 0, 3 * s.cfgOf c SF_ENC_CPR / 2, false⟩
  else if k.diffAt.any (fun d => decide (d + ms (s.cfgNOf c SF_OBS_TIME) ≤ s.now)) then some ⟨0x10, 0, s.cfgOf c SF_OBS_SPD_TOL, true⟩
  else if travelDiffers s c then some ⟨0x11, 0, s.cfgOf c SF_OBS_TRAVEL_TOL, false⟩
  else none

/-- |v| is known and above a limit; an unknown speed is not judged (R275). -/
def beyond (s : State) (c : Fin 2) (a : Fin 4) (l : Rat) : Bool := (s.cax c a).v.any (fun v => decide (l < absR v))

/-- E(t) of a stop function of channel c (R266). -/
def envelope (s : State) (c : Fin 2) (a : Fin 4) : Rat :=
  let x := s.cax c a
  let t : Rat := ((s.now - x.t0 : Nat) : Rat) / 4000000000
  let d : Rat := (s.cfgOf c (SF_SS1_DELAY a) : Rat) / 1000
  let e := absR x.v0 + s.cfgOf c (SF_SS1_TOL a)
  max (s.cfgOf c (SF_STANDSTILL a)) (if t < d then e else e - s.cfgOf c (SF_SS1_DECEL a) * (t - d))

/-- The envelope of a stop function in progress is violated in channel c (R266). -/
def envelopeFound (s : State) (c : Fin 2) (a : Fin 4) : Option Found :=
  let x := s.cax c a
  if (x.fn = 1 ∨ x.fn = 2) ∧ beyond s c a (envelope s c a) then some ⟨0x03, 0, rnd (envelope s c a), true⟩ else none

/-- How far SOS has moved from the position it holds (R267). -/
def sosTravel (x : ChAx) : Int := x.pos - x.sosPos

/-- The limit of SLP that the position violates (R270). -/
def slpLimit (s : State) (c : Fin 2) (a : Fin 4) : Option Int :=
  let x := s.cax c a
  if !bitOf x.req 7 then none
  else if x.pos < s.cfgOf c (SF_SLP_MIN a) then some (s.cfgOf c (SF_SLP_MIN a))
  else if s.cfgOf c (SF_SLP_MAX a) < x.pos then some (s.cfgOf c (SF_SLP_MAX a)) else none

/-- SLP is selected without a safe home; only the axis of ENC0 has one (R270). -/
def slpHomeless (s : State) (c : Fin 2) (a : Fin 4) : Bool :=
  bitOf (s.cax c a).req 7 && !((s.chan c).home && encAxis s c a)

/-- The travel that SDI judges: away from the position at the selection, or back from the extreme reached (R271). -/
def sdiTravel (x : ChAx) : Int :=
  match x.sdi with
  | some (p0, hi, lo) => if x.req &&& 0x300 = 0x300 then ((x.pos - p0).natAbs : Int) else if bitOf x.req 8 then hi - x.pos else x.pos - lo
  | none => 0

def sdiViolated (s : State) (c : Fin 2) (a : Fin 4) : Bool := decide (s.cfgOf c (SF_SDI_TOL a) < sdiTravel (s.cax c a))

/-- The violations of axis a that channel c finds: the ceiling, and under no STO, with which the other functions take no action,
the stop functions, SLS, SLP and SDI (R266–R272). -/
def functionFound (s : State) (c : Fin 2) (a : Fin 4) : Option Found :=
  let x := s.cax c a
  let r := s.cfgNOf c (SF_VIOL_REACTION a)
  if beyond s c a (s.get (SF_ANV_FE_MAX_IN a)) then some ⟨0x09, r, s.get (SF_ANV_FE_MAX_IN a), true⟩
  else if bitOf x.req 0 ∨ x.sto then none
  else (envelopeFound s c a).or <|
    if x.fn = 3 ∧ beyond s c a (s.cfgOf c (SF_STANDSTILL a)) then some ⟨0x05, r, s.cfgOf c (SF_STANDSTILL a), true⟩
    else if x.fn = 3 ∧ s.cfgOf c (SF_SOS_WIN a) < (sosTravel x).natAbs then some ⟨0x05, r, s.cfgOf c (SF_SOS_WIN a), false⟩
    else if x.slsJ.any (fun l => beyond s c a (l : Nat)) then some ⟨0x06, r, (x.slsJ.getD 0 : Nat), true⟩
    else if slpHomeless s c a then some ⟨0x18, r, 0, true⟩
    else match slpLimit s c a with
      | some l => some ⟨0x07, r, satI 32 l, false⟩
      | none => if sdiViolated s c a then some ⟨0x08, r, s.cfgOf c (SF_SDI_TOL a), false⟩ else none

/-- The telegram causes that channel c finds (R306). -/
def telegramFound (s : State) (c : Fin 2) : Option Found :=
  let k := s.chan c
  let r := s.cfgNOf c SF_TG_REACTION
  let g := ms (s.cfgNOf c SF_TG_GRACE)
  let silent (p : Fin 2) : Bool := decide ((k.ports.get p).lastAt + g ≤ s.now)
  let alone (p : Fin 2) : Bool := !silent p && decide ((k.ports.get p).runAt + g ≤ s.now)
  if !(s.cfgOf c SF_TG_ENABLE = 1 ∧ s.nat SF_CFG_STATE = 4) then none
  else if k.mismatch.isSome then some ⟨0x23, r, 0, false⟩
  else if (k.ports.get 0).seqFault then some ⟨0x24, r, 0, false⟩
  else if (k.ports.get 1).seqFault then some ⟨0x25, r, 0, false⟩
  else if k.pairedAt.any (fun p => decide (p + ms (s.cfgNOf c SF_TG_WATCHDOG) ≤ s.now)) then some ⟨0x20, r, s.cfgOf c SF_TG_WATCHDOG, false⟩
  else if silent 0 && alone 1 then some ⟨0x21, r, s.cfgOf c SF_TG_GRACE, false⟩
  else if silent 1 && alone 0 then some ⟨0x22, r, s.cfgOf c SF_TG_GRACE, false⟩
  else none

/-- The input discrepancy while it stands, for the axes of SF_STO_AXES (R259, R277). -/
def stoFound (s : State) (c : Fin 2) (a : Fin 4) : Option Found :=
  if s.disc ∧ bitOf (s.cfgNOf c SF_STO_AXES) a.val then some ⟨0x0A, 0, s.cfgOf c SF_STO_DISC_TIME, true⟩ else none

/-- What channel c finds on axis a in states 1 and 2. -/
def found (s : State) (c : Fin 2) (a : Fin 4) : Option Found :=
  (deviceFound s c).or <| (stoFound s c a).or <| (if encAxis s c a then encoderFound s c else none).or <|
    (functionFound s c a).or <| if bitOf (s.cfgNOf c SF_TG_AXES) a.val then telegramFound s c else none

/-- A discrepancy of R277. -/
def discrepancy (d : Nat) : Bool := decide (0x0A ≤ d) && decide (d ≤ 0x13)

/-- Channel c puts axis a in the Safe state for a cause that the channel of island `isl` decided first; the latch keeps the cause
and the island that SF_CAUSE shows, those of channel A where both hold one, and a Manual-duty ends (R265, R277, R278, R306, R461,
R497). -/
def State.toSafe (s : State) (c : Fin 2) (a : Fin 4) (isl : Nat) (f : Found) : State :=
  let s := s.modCax c a (fun x =>
    { x with st := 3, cause := f.detail, isl := isl, react := f.react, causeAt := s.now, gone := false, still := false, fast := false, sbc := true })
  let s := if c = 1 ∧ (s.cax 0 a).st = 3 then s else { s with latch := s.latch.set a.val (some (f.detail, isl)) a.isLt }
  (s.clearDuty a).runStop c a

/-- A telegram entry (R309). -/
def State.jTele (s : State) (src detail chs port sp seq chk axes : Nat) : State :=
  s.jTongs src detail chs
    (le 1 port ++ le 1 chs ++ le 1 (s.get SF_CFG_STATE) ++ le 1 (s.get SF_CFG_RESULT) ++ le 4 seq ++ le 4 sp ++ le 4 chk ++
     le 1 axes ++ zeros 1)

/-- The entry of a telegram cause: one for all axes of SF_TG_AXES, with the sequences of the channel that decided first (R309). -/
def State.jTelegram (s : State) (chs detail : Nat) : State :=
  let c : Fin 2 := if chs % 2 = 1 then 0 else 1
  let p : Nat := if detail = 0x21 ∨ detail = 0x24 then 0 else if detail = 0x22 ∨ detail = 0x25 then 1 else 2
  let k := s.chan c
  let sp := if p < 2 then ((k.ports.get ⟨p % 2, Nat.mod_lt _ (by decide)⟩).sp.getD 0) else k.pairedSeq
  let sq := if detail = 0x23 then k.mismatch.getD 0 else if 0x24 ≤ detail then sp else 0
  s.jTele 0x6003 detail chs p sp sq 0 (s.cfgNOf c SF_TG_AXES)

/-- What channel c has measured of the quantity that a cause judges: a speed, or a position difference in counts; a cause that
judges neither shows 0 (R286; log entry 88). -/
def measureOf (s : State) (c : Fin 2) (a : Fin 4) (f : Found) : Int :=
  let k := s.chan c
  let x := s.cax c a
  if f.bySpeed then speedOf s c a
  else satI 32 (match f.detail with
    | 0x05 => sosTravel x
    | 0x07 => x.pos - f.lim
    | 0x08 => sdiTravel x
    | 0x0B => k.counts.headD 0 - k.peerCount
    | 0x0E => k.idxErr
    | 0x0F => if k.illegal then k.illegalAt.headD 0 - k.illegalAt.getLastD 0 else k.sinceZ
    | 0x11 => ((windowTravel s c).map (·.1)).getD 0
    | _ => 0)

/-- The second measurement of an entry: channel B's, or the observer value that the deciding channel compared (R286). -/
def secondOf (s : State) (a : Fin 4) (chs : Nat) (f : Found) : Int :=
  let c : Fin 2 := if chs % 2 = 1 then 0 else 1
  if f.detail = 0x10 then measured (obsSpeed s c a)
  else if f.detail = 0x11 then measured ((windowTravel s c).map (·.2))
  else measureOf s 1 a f

/-- A discrepancy of device scope: one device entry for all axes (R277, R286). -/
def deviceScope (d : Nat) : Bool := decide (d = 0x0B ∨ d = 0x0C ∨ d = 0x0D ∨ d = 0x12 ∨ d = 0x13)

/-- What the channels have found is given one entry that names both where they agree, else one entry each (R277, R278). -/
def State.jFound (s : State) (fa fb : Option Found) (entry : State → Found → Nat → State) : State :=
  match fa, fb with
  | some f, some g => if f.detail = g.detail then entry s f 3 else entry (entry s f 1) g 2
  | some f, none => entry s f 1
  | none, some g => entry s g 2
  | none, none => s

/-- The entry of axis a for a cause of its own; a cause of the device or of the telegrams has one for all axes. -/
def State.jCause (s : State) (a : Fin 4) (f : Found) (chs : Nat) : State :=
  if deviceScope f.detail || decide (0x20 ≤ f.detail) then s
  else
    let s := s.jSafe a f.detail chs (f.react + 1) (measureOf s 0 a f) (secondOf s a chs f) f.lim
    if discrepancy f.detail then s.inc SF_XC_COUNT else s

/-- What the channels found puts axis a in the Safe state, with its entry and those of the reaction; a cause that the other
channel has decided before has none (R277, R278). -/
def State.judgeWith (s : State) (a : Fin 4) (fa fb : Option Found) : State :=
  let known (c : Fin 2) (f : Found) : Bool := decide ((s.cax c a).st = 3 ∧ (s.cax c a).cause = f.detail)
  let both : Bool := match fa, fb with
    | some f, some g => decide (f.detail = g.detail)
    | _, _ => false
  let u := match fa with
    | some f => s.toSafe 0 a islTongsA f
    | none => s
  let u := match fb with
    | some f => u.toSafe 1 a (if both then islTongsA else islTongsB) f
    | none => u
  let u := u.set (SF_STATE a) (axisState u a)
  let u := u.jFound (fa.filter (fun f => fb.isSome || !known 1 f)) (fb.filter (fun f => fa.isSome || !known 0 f)) (fun u f chs => u.jCause a f chs)
  s.jStops u a

/-- Channel c judges axis a only in states 1 and 2 (R265). -/
def judging (s : State) (c : Fin 2) (a : Fin 4) : Bool := decide ((s.cax c a).st = 1 ∨ (s.cax c a).st = 2)

/-- What channel c decides on axis a: every check in states 1 and 2, and in the Safe state the envelope of the SS1 that is its
reaction, whose violation takes the place of the cause (R265, R266; log entry 95). -/
def decided (s : State) (c : Fin 2) (a : Fin 4) : Option Found :=
  let x := s.cax c a
  if judging s c a then found s c a
  else if x.st = 3 ∧ x.react = 1 ∧ x.fn = 1 then envelopeFound s c a else none

/-- Both channels judge axis a (R277, R278). -/
def State.judge (s : State) (a : Fin 4) : State := s.judgeWith a (decided s 0 a) (decided s 1 a)

/-- The first cause of a kind that channel c decides on any axis. -/
def firstDecided (s : State) (c : Fin 2) (kind : Nat → Bool) : Option Found :=
  (allAxes.filterMap (fun a => if judging s c a then found s c a else none)).find? (fun f => kind f.detail)

/-- The entry of a discrepancy of device scope, counted once (R277, R286). -/
def State.jDiscrepancy (s : State) (f : Found) (chs : Nat) : State :=
  let a := (allAxes.find? (encAxis s 0)).getD 0
  (s.jTongsDevice f.detail chs (measureOf s 0 a f) (measureOf s 1 a f) f.lim).inc SF_XC_COUNT

/-- Both channels judge every axis, after the acknowledgements of this cycle; a cause of the device and one of the telegrams
are one entry each. -/
def State.judgeAxes (s : State) : State :=
  let tele (d : Nat) : Bool := decide (0x20 ≤ d)
  let u := s.each allAxes (fun a s => s.judge a)
  (u.jFound (firstDecided s 0 deviceScope) (firstDecided s 1 deviceScope) (fun u f chs => u.jDiscrepancy f chs)).jFound
    (firstDecided s 0 tele) (firstDecided s 1 tele) (fun u f chs => u.jTelegram chs f.detail)

/-- Channel c adopts from the exchange a Safe state of the other channel, also one whose envelope has since been violated (R266,
R278). -/
def State.adopt (s : State) (c : Fin 2) (a : Fin 4) : State :=
  let x := s.cax c a
  let p := (s.chan c).peer.get a
  if (judging s c a || decide (x.st = 3 ∧ x.react = 1 ∧ p.react = 0)) ∧ p.st = 3 ∧ x.causeAt < p.causeAt then
    s.toSafe c a p.isl ⟨p.cause, p.react, 0, false⟩
  else s

/-! ### Acknowledgement (R279) -/

/-- A cause 0x03 or 0x05 is no longer present in channel c: standstill, and where ENC0 does not serve the axis a standstill once
measured, or SF_SS1_TMAX without a valid speed above it (R279). -/
def stoppedSince (s : State) (c : Fin 2) (a : Fin 4) : Bool :=
  let x := s.cax c a
  if encAxis s c a then standing s c a
  else x.still || (!x.fast && decide (x.causeAt + ms (s.cfgNOf c (SF_SS1_TMAX a)) ≤ s.now))

/-- The cause that axis a holds is no longer present in channel c (R279, R307). -/
def causeGone (s : State) (c : Fin 2) (a : Fin 4) : Bool :=
  let k := s.chan c
  let x := s.cax c a
  match x.cause with
  | 0x12 => !k.selfBad
  | 0x0A => !s.disc
  | 0x0B => decide (k.nPos = 0)
  | 0x0C => decide (k.nSpd = 0)
  | 0x0D => decide (k.nReq = 0)
  | 0x13 => !k.anvilBad
  | 0x0E => !k.idxBad
  | 0x0F => !k.missing && !k.illegal
  | 0x10 => k.diffAt.isNone
  | 0x11 => !travelDiffers s c
  | 0x03 => stoppedSince s c a
  | 0x05 => stoppedSince s c a
  | 0x06 => !x.sls.any (fun l => beyond s c a (l : Nat))
  | 0x09 => !beyond s c a (s.get (SF_ANV_FE_MAX_IN a))
  | 0x07 => (slpLimit s c a).isNone
  | 0x18 => !slpHomeless s c a
  | 0x08 => !sdiViolated s c a
  | _ =>
    k.pairedAt.any (fun p => decide (x.causeAt ≤ p)) &&
      k.ports.all (fun q => decide (s.now < q.lastAt + ms (s.cfgNOf c SF_TG_GRACE)))

/-- A check of the index or of the transitions that has failed is judged in one cycle; a cycle without a failure passes
(R277, R279). -/
def State.forgive (s : State) (c : Fin 2) : State := s.modChan c (fun k => { k with idxBad := false, illegal := false })

/-- A rising bit 10 of the safe word, or of the local word while it is enabled (R263). -/
def ackRises (s : State) (c : Fin 2) (a : Fin 4) : Bool :=
  let x := s.cax c a
  (bitOf x.safeWord 10 && !x.ackSafe) || (s.cfgOf c SF_LOCAL_ACK_EN = 1 && bitOf x.loc 10 && !x.ackLoc)

/-- Axis a leaves the Safe state in both channels on an acknowledgement once the cause is gone in both (R279). -/
def State.acknowledge (s : State) (a : Fin 4) : State :=
  let s := s.each chans (fun c s => s.modCax c a (fun x =>
    { x with still := x.still || standing s c a, fast := x.fast || beyond s c a (s.cfgOf c (SF_STANDSTILL a)) }))
  let s := s.each chans (fun c s => s.modCax c a (fun x => { x with gone := x.st ≠ 3 || causeGone s c a }))
  let ack := ackRises s 0 a || ackRises s 1 a
  let both := decide ((s.cax 0 a).st = 3 ∨ (s.cax 1 a).st = 3) && (s.cax 0 a).gone && (s.cax 1 a).gone
  let s :=
    if ack && both then
      let encoder := chans.any (fun c => decide ((s.cax c a).st = 3 ∧ 0x0E ≤ (s.cax c a).cause ∧ (s.cax c a).cause ≤ 0x11))
      let s := s.each chans (fun c s =>
        let pend := decide ((s.cax 0 a).req ≠ 0 ∨ (s.cax 1 a).req ≠ 0) || (s.cax 0 a).sto || (s.cax 1 a).sto
        let s := s.modCax c a (fun x => if x.st = 0 then x else
          { x with st := if pend then 2 else 1, fn := if x.fn = 4 then 0 else x.fn, cause := 0, sbcAt := none, slsJ := none })
        if encoder ∧ encAxis s c a then
          s.modChan c (fun k => { k with zRef := none, home := false, homeOff := 0, illegalAt := [], illegal := false, sinceZ := 0 })
        else s)
      let s := { s with latch := s.latch.set a.val none a.isLt }
      (s.set (SF_STATE a) (axisState s a)).jSafeV a 0x14 3 0 0
    else s
  s.each chans (fun c s => s.modCax c a (fun x =>
    { x with ackSafe := bitOf x.safeWord 10, ackLoc := bitOf x.loc 10 }))

/-- A safe home is set when bit 11 of the safe word rises while SOS holds and a Z edge has been accepted (R270). -/
def State.safeHome (s : State) (a : Fin 4) : State :=
  let may (c : Fin 2) : Bool :=
    encAxis s c a && bitOf (s.cax c a).safeWord 11 && !(s.cax c a).homeBit && decide ((s.cax c a).fn = 3) && (s.chan c).zLast.isSome
  let set := may 0 && may 1
  let s := s.each chans (fun c s => s.modCax c a (fun x => { x with homeBit := bitOf x.safeWord 11 }))
  if set then
    let s := s.each chans (fun c s => s.modChan c (fun k =>
      { k with home := true, homeOff := s.cfgOf c (SF_HOME_POS a) - k.zLast.getD 0 }))
    let s := s.each chans (fun c s => s.modCax c a (fun x =>
      let p := (s.chan c).count + (s.chan c).homeOff
      { x with sosPos := x.sosPos + (p - x.pos), pos := p,
               sdi := x.sdi.map (fun d => (d.1 + (p - x.pos), d.2.1 + (p - x.pos), d.2.2 + (p - x.pos))) }))
    s.jSafeV a 0x16 3 0 0
  else s

/-! ### States, outputs and status (R258, R260, R261, R264, R265, R274) -/

/-- STO of axis a may be released in channel c (R258). -/
def mayRelease (s : State) (c : Fin 2) (a : Fin 4) : Bool :=
  let x := s.cax c a
  decide (x.st = 1 ∨ x.st = 2) && !bitOf x.req 0 && decide (x.fn ≠ 4) && secsIdle s c a

/-- STO is released once both channels allow it, and states 1 and 2 follow the requests (R258, R265). -/
def State.settleAxis (s : State) (a : Fin 4) : State :=
  let s := s.each chans (fun c s => s.modCax c a (fun x => { x with free := mayRelease s c a }))
  let s := if (s.cax 0 a).free && (s.cax 1 a).free && ((s.cax 0 a).sto || (s.cax 1 a).sto) then
      s.each chans (fun c s => s.modCax c a (fun x => { x with sto := false, sbc := false }))
    else s
  let busy := axisBusy s a
  s.each chans (fun c s => s.modCax c a (fun x =>
    if x.st = 1 ∨ x.st = 2 then { x with st := if busy then 2 else 1, sbc := x.sto || x.sbcAt.isSome } else x))

/-- Bit 11 has fallen during a reference run of a hoisting axis: its switches turn off, state 3, 0x22 (R274). -/
def State.refRunEnds (s : State) (a : Fin 4) : State :=
  if hoisting s a ∧ s.nat (A_REF_STATE a) = 1 ∧ !bitOf (s.nat (SF_STATUS a)) 11 then
    s.refFail a s.now
  else s

/-- The objects of axis a show channel A, and of speed and position both (R264, R288). -/
def State.report (s : State) (a : Fin 4) : State :=
  let x := s.cax 0 a
  let y := s.cax 1 a
  let s := ((s.set (SF_STATE a) (axisState s a)).set (SF_STATUS a) (statusWord s 0 a)).set (SF_REQ_SAFE a) x.safeWord
  let s := (s.set (SF_SPEED_A a) (measured x.v)).set (SF_SPEED_B a) (measured y.v)
  let s := (s.set (SF_POS_A a) x.pos).set (SF_POS_B a) y.pos
  let s := (s.set (SF_SOS_POS a) x.sosPos).set (SF_CAUSE a)
    (if x.st = 3 then faultCode 8 x.isl x.cause else if y.st = 3 then faultCode 8 y.isl y.cause else 0)
  (s.refRunEnds a).syncAxis a

/-- SOUT and MBK of channel c (R260, R261). -/
def State.outputs (s : State) (c : Fin 2) : State :=
  let sout := s.leftZero && allAxes.all (fun a => !(bitOf (s.cfgNOf c SF_SOUT_AXES) a.val && (s.cax c a).sto))
  let mbk := (s.chan c).brakeOpen && s.flag SF_BRAKE_OPEN &&
    (if h : s.cfgNOf c SF_MBK_AXIS < 4 then
      let x := s.cax c ⟨_, h⟩
      !x.sto && !x.sbc && decide (x.st = 1 ∨ x.st = 2)
    else false)
  s.modChan c (fun k => { k with sout := sout, mbk := mbk })

/-- SF_TG_STATE and SF_REQ_SAFE follow channel A (R304, R311). -/
def State.syncTele (s : State) : State :=
  let k := s.chan 0
  let b (i : Nat) (v : Bool) : Nat := if v then 2 ^ i else 0
  let s := s.set SF_TG_STATE (b 0 (k.ports.get 0).timeout + b 1 (k.ports.get 1).timeout + b 2 k.pairedAt.isSome + b 3 k.wdog : Nat)
  s.each allAxes (fun a s => s.set (SF_REQ_SAFE a) (s.cax 0 a).safeWord)

/-- Outputs, gates, objects and status after any change in the channels. -/
def State.syncTongs (s : State) : State :=
  let s := { s with leftZero := s.leftZero || allAxes.any (fun a => decide ((s.cax 0 a).st ≠ 0)) }
  let s := (s.outputs 0).outputs 1
  let b (i : Nat) (v : Bool) : Nat := if v then 2 ^ i else 0
  let s := s.set SF_OUTPUTS (b 0 (s.chan 0).sout + b 1 (s.chan 1).sout + b 2 (s.chan 0).mbk + b 3 (s.chan 1).mbk : Nat)
  let s := s.set SF_CH_FAULT (b 0 (s.chan 0).selfBad + b 1 (s.chan 1).selfBad : Nat)
  (s.syncTele.each allAxes (fun a s => s.report a)).syncGates

/-! ### The commands -/

/-- A port that has stayed silent is declared timed out, and an expired watchdog shows (R303, R306, R311). -/
def State.judged (s : State) (c : Fin 2) : State :=
  match telegramFound s c with
  | some f => s.modChan c (fun k =>
      { k with
        ports := Vector.ofFn (fun p : Fin 2 =>
          let q := k.ports.get p
          { q with timeout := q.timeout || decide (f.detail = 0x21 + p.val), seqFault := false })
        mismatch := none, wdog := k.wdog || decide (f.detail = 0x20) })
  | none => s

/-- Every axis leaves state 0: to state 3 with its latched cause and STO as its reaction, else to state 1 (R296,
R299, R463). -/
def State.leaveUnconfirmed (s : State) : State :=
  let s := s.each allAxes (fun a s => s.each chans (fun c s => s.modCax c a (fun x =>
    match s.latch.get a with
    | some l => { x with st := 3, cause := l.1, isl := l.2, react := 0, causeAt := s.now, gone := false }
    | none => { x with st := 1, fn := 0, cause := 0 })))
  { s with cfgDue := false }

/-- The values that a channel reads of the parameter store in a cycle, one transfer each: SF_BRAKE_OPEN, and SF_REQ_LOCAL, A_MODE,
A_EMERG_REQ and the sink of input 0 of every axis (R254, R328; log entry 27). -/
def storeReads : Nat := 17

/-- Tongs B compares the interval since its last cycle start with its own count of n periods of 5 ns, and a difference of more than
0.5 % is a fault of its clock (R440). What a step adds to the timebase is no part of the interval (R442; log entry 107). -/
def State.ownCount (s : State) (n : Nat) : State :=
  s.modChan 1 (fun k =>
    let far : Bool := match k.startAt with
      | some a => decide (((s.tb : Int) - a).natAbs < 200 * (((s.tb : Int) - a) - ns (5 * n)).natAbs)
      | none => false
    { k with startAt := some s.tb, selfBad := k.selfBad || far })

/-- One monitoring cycle of both channels, at a whole multiple of 50 µs (R255): bit c of `fresh` whether the parameter
reads of channel c have completed, of `pass` its running self-test, and the own count of Tongs B. -/
def State.monitor (s : State) (fresh pass : BitVec 2) (ownB : Nat) : State :=
  if s.tb % us 50 ≠ 0 then s
  else
    let s := s.ownCount ownB
    let s := if s.cfgDue ∧ s.nat SF_CFG_STATE = 4 then s.leaveUnconfirmed else s
    let s := s.servePort ((chans.filter (fun c => fresh.getLsbD c.val)).map (fun c => (6 + c.val, storeReads)))
    let s := s.each chans (fun c s => s.compare c)
    let s := s.each chans (fun c s => s.latch_ c (fresh.getLsbD c.val) (pass.getLsbD c.val))
    let s := s.jUnavailable (s.each chans (fun c s => s.watchObserver c))
    let s := s.each allAxes (fun a s => s.each chans (fun c s => s.adopt c a))
    let s := s.each allAxes (fun a s => s.each chans (fun c s => s.takeRequests c a))
    let s := (s.each allAxes (fun a s => s.acknowledge a)).judgeAxes
    let s := s.each chans (fun c s => (s.judged c).forgive c)
    let s := s.each allAxes (fun a s => (s.runStops a).safeHome a)
    let s := s.each allAxes (fun a s => s.settleAxis a)
    let keep := max (s.cfgNOf 0 SF_OBS_TIME) (s.cfgNOf 1 SF_OBS_TIME)
    let s := s.each allSecs (fun x s => s.modSec x (fun c => { c with xings := c.xings.filter (fun k => decide (s.now ≤ k.1 + ms keep)) }))
    s.syncTongs

/-- MONITORING_CYCLE: with an `upset`, a fault has left another value in one channel's copy of a value of the envelope (R277). -/
def execMonitoringCycle (t : Nat) (fresh pass : BitVec 2) (c : TongsIn) (s : State) : Res :=
  runPowered islTongsA (s.at_ t) (fun s => (match c.upset with
    | some (c, i, v) => s.upsetCopy c i v
    | none => s).monitor fresh pass c.ownB)

/-- CHANNEL_EXCHANGE: the results of channel c reach the other, which adopts any reaction at its next cycle start. -/
def execChannelExchange (t : Nat) (c : Fin 2) (s : State) : Res :=
  runOn (38 + c.val) (s.at_ t) (fun s =>
    let k := s.chan c
    s.modChan (1 - c) (fun o => { o with peer := k.axes, peerCount := k.counts.headD 0, peerBrake := k.brakeOpen }))

/-- The accepted level of the STO input of channel c, and since when the two differ (R259). -/
def State.takeStoInput (s : State) (c : Fin 2) (high : Bool) : State :=
  let s := s.modChan c (fun k => { k with stoIn := high })
  let a := (s.chan 0).stoIn
  let b := (s.chan 1).stoIn
  { s.set SF_STO_IN ((if a then 1 else 0) + (if b then 2 else 0) : Int) with
    discAt := if a = b then none else some (s.discAt.getD s.now), disc := s.disc && !(a && b) }

/-- STO_INPUT_ACCEPTED: a level that has held for SF_STO_FILTER; a high level requests STO at once (R259, R280). -/
def execStoInputAccepted (t : Nat) (c : Fin 2) (high : Bool) (s : State) : Res :=
  let s := (s.at_ t).takeStoInput c high
  let s := if high then s.each (allAxes.filter (fun x => stoInput s c x)) (fun x s =>
      let u := s.modCax c x (fun y => { y with req := y.req ||| 1 })
      if judging u c x then u.jStops (u.runStop c x) x else u)
    else s
  done s.syncTongs

/-- STO_DISCREPANCY: the accepted levels have differed for longer than SF_STO_DISC_TIME; what stands is judged of the axes that
are in states 1 and 2 now, and at every later cycle (R259, R277). -/
def execStoDiscrepancy (t : Nat) (s : State) : Res :=
  runPowered islTongsA (s.at_ t) (fun s => match s.discAt with
    | some d =>
      if d + ms (s.cfgN SF_STO_DISC_TIME) ≤ s.now ∧ !s.disc then
        let s := { s with disc := true }
        (s.each allAxes (fun a s =>
          let f (c : Fin 2) : Option Found := if judging s c a then stoFound s c a else none
          s.judgeWith a (f 0) (f 1))).syncTongs
      else s
    | none => s)

/-- SBC_DELAY_EXPIRY: SF_SBC_DELAY has passed since SBC, and STO follows (R266). -/
def execSbcDelayExpiry (t : Nat) (a : Fin 4) (s : State) : Res :=
  runPowered islTongsA (s.at_ t) (fun s =>
    let held := (s.cax 0 a).sto || (s.cax 1 a).sto
    let due := chansOf (fun c => sbcOver s c a)
    let s := s.each chans (fun c s =>
      if sbcOver s c a then (s.modCax c a (fun x => { x with sbcAt := none })).holdSto c a else s)
    (if due ≠ 0 ∧ !held then s.jSafeV a 0x04 due 1 0 else s).syncTongs)

end Sys2Proof.Machine
end

