-- ==== Sys2Proof/Machine/SafeConfig.lean ====
section
/-! DEFINITION. The safety configuration, its serialisation and check value, commissioning, and the safe telegrams on
both field ports (R281, R282, R289–R307). -/

namespace Sys2Proof.Machine
open Obj

/-! ### The configuration and its serialisation (R289, R291–R294) -/

/-- Keys of the subindices lo to hi at an index. -/
def keysAt (idx lo hi : Nat) : List Nat := (List.range (hi + 1 - lo)).map (fun i => idx * 256 + lo + i)

/-- The 129 objects of the configuration, in the order of their records (R289, R293). -/
def sfyKeys : List Nat :=
  keysAt 0x6001 1 0x11 ++ keysAt 0x6003 1 8 ++
  ((List.range 4).map (fun a =>
    keysAt (0x6100 + 0x10 * a) 1 2 ++ keysAt (0x6100 + 0x10 * a) 5 0x0C ++ keysAt (0x6100 + 0x10 * a) 0x12 0x12 ++
    keysAt (0x6101 + 0x10 * a) 1 0x0A)).flatten ++
  ((List.range 6).map (fun x => keysAt (0x6200 + x) 1 2)).flatten ++ keysAt 0x6210 1 8

/-- Type code and width of a record (R292). -/
def Ty.record : Ty → Nat × Nat
  | .bool => (1, 1)
  | .u8 => (2, 1)
  | .u16 => (3, 2)
  | .u32 => (4, 4)
  | .u64 => (5, 8)
  | .i8 => (6, 1)
  | .i16 => (7, 2)
  | .i32 => (8, 4)
  | .i64 => (9, 8)
  | .q => (8, 4)
  | .str => (0, 0)
  | .blob => (0, 0)

/-- One record of 12 bytes (R292). -/
def recordOf (k : Nat) (v : Int) : Bytes :=
  let r := match Catalog.find k with
    | some o => o.ty.record
    | none => (0, 0)
  le 2 (k / 256 : Nat) ++ le 1 (k % 256 : Nat) ++ le 1 r.1 ++ padTo 8 (le r.2 v)

/-- The byte string of 1,556 bytes that the check value covers (R291). -/
def serialise (f : Nat → Int) : Bytes :=
  le 4 0x534C5441 ++ le 2 1 ++ le 2 129 ++ (sfyKeys.map (fun k => recordOf k (f k))).flatten

/-- The values of the dictionary image that are no default. -/
def editedVals (s : State) : List (Nat × Int) :=
  sfyKeys.filterMap (fun k => if s.get k = Catalog.default k then none else some (k, s.get k))

/-- The value of a configuration object in a list of values. -/
def valIn (vs : List (Nat × Int)) (k : Nat) : Int := (AL.find vs k).getD (Catalog.default k)

/-- The check value of a list of values (R294). -/
def checkValue (vs : List (Nat × Int)) : Nat := crc32c (serialise (valIn vs))

/-- The dictionary image takes a list of values. -/
def State.editTo (s : State) (vs : List (Nat × Int)) : State := s.each sfyKeys (fun k s => s.set k (valIn vs k))

/-! ### Loading a configuration (R299, R304) -/

/-- What the safe word of axis a reads in channel c before the first paired telegram (R304). -/
def firstWord (s : State) (c : Fin 2) (a : Fin 4) : Nat :=
  if s.cfgOf c SF_TG_ENABLE = 1 ∧ bitOf (s.cfgNOf c SF_TG_AXES) a.val then 1 else 0

/-- Each channel loads its own copy of a configuration; the envelope follows, and the telegram receive state starts afresh
(R254, R281, R299, R304). -/
def State.loadConfig (s : State) (vs : List (Nat × Int)) : State :=
  let s := s.each chans (fun c s => s.modChan c (fun k =>
    { k with conf := vs, ports := Vector.replicate 2 TgPort.reset, pairedAt := none, pairedSeq := 0, mismatch := none, wdog := false }))
  let s := s.loadEnvelope
  let s := s.each allAxes (fun a s => s.each chans (fun c s => s.modCax c a (fun x => { x with safeWord := firstWord s c a })))
  { s with cfgDue := true }

/-- The valid image with the highest generation (R299, R300). -/
def bestImage (s : State) : Option Image :=
  s.images.foldl (fun b m => match b with
    | some k => if k.gen < m.gen then some m else some k
    | none => some m) none

/-! ### Commissioning (R295–R298) -/

/-- A configuration entry of R309. -/
def State.jConfig (s : State) (detail chk axes : Nat) : State := s.jTele 0x6004 detail 3 0xFF 0 0 chk axes

/-- Commissioning ends with a configuration state. -/
def State.endCommission (s : State) (st : Int) : State :=
  (((s.set SF_CFG_STATE st).set SF_COMMISSION 0).set SF_CFG_SEAL 0).set SF_CFG_OWNER 0xFFFF

/-- Commissioning may be opened: every section in state 0 or 4 (R296) and none open yet (R295). -/
def mayCommission (s : State) : Bool :=
  (decide (s.nat SF_CFG_STATE = 0) || decide (4 ≤ s.nat SF_CFG_STATE)) &&
    allSecs.all (fun x => decide (s.nat (S_STATE x) = 0) || decide (s.nat (S_STATE x) = 4))

/-- Commissioning opens for a session: every axis enters state 0 (R296). -/
def State.openCommission (s : State) (sid : Nat) : State :=
  let s := ((s.set SF_CFG_STATE 1).set SF_CFG_OWNER sid).set SF_COMMISSION 1
  let s := { s with cfgDue := false }
  let s := s.each allAxes (fun a s => s.each chans (fun c s =>
    (s.modCax c a (fun x => { x with st := 0, cause := 0, fn := 0, sbcAt := none, gone := false, sbc := true })).holdSto c a))
  s.syncTongs.jConfig 0x29 0 0x0F

/-- Commissioning is abandoned and the edits are discarded: with no image stored the state is 0; else the channels read the
stored configuration back into the dictionary image, and the state moves once both have computed its check value (R295, R297). -/
def State.abandonCommission (s : State) : State :=
  if 1 ≤ s.nat SF_CFG_STATE ∧ s.nat SF_CFG_STATE ≤ 3 then
    match bestImage s with
    | none => ((s.editTo []).endCommission 0).jConfig 0x2A 0 0
    | some m => { (s.editTo m.vals).endCommission (s.get SF_CFG_STATE) with rereading := true }
  else s

/-- The channels have read the stored configuration back: where both agree with its check value the state is 4 and the axes
leave state 0 at the next channel cycle, else it is 5 (R297). -/
def State.rereadDone (s : State) (m : Image) (crcA crcB : Nat) : State :=
  let s := { s with rereading := false }
  if crcA = m.crc ∧ crcB = m.crc then
    (((s.loadConfig m.vals).set SF_CRC_CONFIRMED m.crc).set SF_CFG_STATE 4).jConfig 0x2A m.crc 0x0F |>.syncTongs
  else (s.set SF_CFG_STATE 5).jConfig 0x2A m.crc 0

/-- The result code of the first failing check of R298, 0 when all pass. -/
def sealCode (s : State) : Nat :=
  let hoists : List (Fin 4) := allAxes.filter (fun a => s.flag (SF_HOIST a))
  let masks := allAxes.map (fun a => s.nat (SF_SECTIONS a))
  if s.get SF_ANV_FPWM_MAX < s.get SF_ANV_FPWM_MIN ∨ s.get SF_ANV_CODE_HI < s.get SF_ANV_CODE_LO ∨
      s.get SF_ANV_TSW_HI < s.get SF_ANV_TSW_LO then 4
  else if hoists.any (fun a => decide (s.nat (A_CASCADE_AXIS a) ≠ 0xFF) || decide (s.nat SF_ENC_AXIS ≠ a.val) || decide (s.nat (A_ENC_AXIS 0) ≠ a.val) ||
      decide (s.nat SF_MBK_AXIS ≠ a.val)) then 5
  else if hoists.any (fun a => sensorless s a) then 6
  else if s.get SF_TG_WATCHDOG ≤ s.get SF_TG_GRACE ∨ 1000 * s.get SF_TG_WATCHDOG < 2 * s.get SF_TG_CYCLE then 7
  else if s.get SF_TG_ADDR = s.get SF_TG_PEER then 8
  else if allSecs.any (fun x => match axisOf s x with
      | some a => !bitOf (s.nat (SF_SECTIONS a)) x.val
      | none => false) then 10
  else if (List.range 6).any (fun x => decide (1 < (masks.filter (fun m => bitOf m x)).length)) then 11
  else 0

/-- A refusal of R295: its result code, and detail 0x2B with the value written. -/
def State.refuseConfig (s : State) (code chk : Nat) : State := (s.set SF_CFG_RESULT code).jConfig 0x2B chk 0

/-- The configuration is sealed and both channels start to serialise (R295). -/
def State.sealBegin (s : State) : State := (s.set SF_CFG_STATE 2).set SF_CFG_SEAL 1

/-- Sealed returns to Editing (R295). -/
def State.unsealNow (s : State) : State := (s.set SF_CFG_STATE 1).set SF_CFG_SEAL 0

/-- CHECK_VALUE_COMPUTED: both channels have serialised the image, of commissioning or of the configuration read back after it
was abandoned; a faulty channel computes some other value (R295, R297, R298). -/
def execCheckValueComputed (t : Nat) (badA badB : Option (BitVec 32)) (s : State) : Res :=
  runPowered islTongsA (s.at_ t) (fun s =>
    let v (c : Nat) (b : Option (BitVec 32)) : Nat := (b.map BitVec.toNat).getD c
    if s.rereading then
      match bestImage s with
      | some m => s.rereadDone m (v (checkValue m.vals) badA) (v (checkValue m.vals) badB)
      | none => s
    else if s.nat SF_CFG_STATE = 2 then
      let c := crc32c (serialise s.get)
      ((s.set SF_CRC_A (v c badA)).set SF_CRC_B (v c badB)).set SF_CFG_STATE 3
    else s)

/-- The result code of a written check value in state 3: 0 when it confirms; 3 only where the channels' values differ (R295, R298; log
entry 105). -/
def confirmCode (s : State) (v : Int) : Nat :=
  if v ≠ s.get SF_CRC_A ∧ v ≠ s.get SF_CRC_B then (if s.get SF_CRC_A = s.get SF_CRC_B then 1 else 3)
  else (if v = s.get SF_CRC_A then 0 else 1) + (if v = s.get SF_CRC_B then 0 else 2)

/-- Confirmation starts: the image and its check value go to MRAM (R299). -/
def State.confirmBegin (s : State) : State :=
  { s.endCommission 4 with confirming := some (s.nat SF_CRC_A, editedVals s) }

/-- CONFIGURATION_STORED: the image is in MRAM in the older slot; the channels load it, and the axes leave state
0 at the next channel cycle (R299). -/
def execConfigurationStored (t : Nat) (s : State) : Res :=
  runPowered islTongsA (s.at_ t) (fun s => match s.confirming with
    | some (crc, vs) =>
      let gen := s.nat SF_CFG_GEN + 1
      let s := { s with confirming := none, images := ⟨gen, crc, vs⟩ :: (bestImage s).toList }
      let s := ((s.loadConfig vs).set SF_CRC_CONFIRMED crc).set SF_CFG_GEN gen
      (s.jConfig 0x28 crc 0x0F).syncTongs
    | none => s)

/-! ### Safe telegrams (R301–R307) -/

/-- A copy is valid to channel c (R303). -/
def telegramValid (s : State) (c : Fin 2) (bs : Bytes) : Bool :=
  decide (bs.length = 28) && decide (ofLe (fieldAt bs 0 1) = 0x5C) && decide (ofLe (fieldAt bs 1 1) = 1) &&
    decide (ofLe (fieldAt bs 2 2) = s.cfgNOf c SF_TG_ADDR) && decide (ofLe (fieldAt bs 4 2) = s.cfgNOf c SF_TG_PEER) &&
    decide (ofLe (fieldAt bs 20 4) = s.nat SF_CRC_CONFIRMED) && decide (ofLe (fieldAt bs 24 4) = crc32c (bs.take 24))

def TgPort.setIn (k : Chan) (p : Fin 2) (q : TgPort) : Chan := { k with ports := k.ports.set p.val q p.isLt }

/-- A valid copy is sequenced: the port after it, and whether it is accepted, a duplicate or a sequence fault (R303). -/
inductive Sequenced where
  | accepted | duplicate | fault
deriving DecidableEq, Repr

def sequence (q : TgPort) (now grace sq : Nat) : TgPort × Sequenced :=
  let q' := { q with lastAt := now, runAt := if q.lastAt + grace ≤ now then now else q.runAt }
  let take : TgPort × Sequenced := ({ q' with sp := some sq, timeout := false }, .accepted)
  match q.sp with
  | none => take
  | some p =>
    let d := (sq + 4294967296 - p) % 4294967296
    if q.timeout then take
    else if d = 0 then (q', .duplicate)
    else if d ≤ 16 then take
    else ({ q' with sp := some sq, seqFault := true }, .fault)

/-- The control word of axis a in a telegram (R301). -/
def wordIn (bs : Bytes) (a : Fin 4) : Nat := ofLe (fieldAt bs (12 + 2 * a.val) 2) % 8192

/-- Channel c takes the control words of a paired telegram (R304). -/
def State.takeWords (s : State) (c : Fin 2) (bs : Bytes) : State :=
  s.each allAxes (fun a s =>
    if bitOf (s.cfgNOf c SF_TG_AXES) a.val then s.modCax c a (fun x => { x with safeWord := wordIn bs a }) else s)

/-- Stop requests of an unpaired copy are added at once (R305). -/
def State.addStops (s : State) (c : Fin 2) (bs : Bytes) : State :=
  s.each allAxes (fun a s =>
    if bitOf (s.cfgNOf c SF_TG_AXES) a.val then
      s.modCax c a (fun x => { x with safeWord := x.safeWord ||| (wordIn bs a &&& 0xF) })
    else s)

/-- An accepted copy is paired with its twin from the other port, or waits for it (R304, R305). -/
def State.pair (s : State) (c : Fin 2) (p : Fin 2) (sq : Nat) (bs : Bytes) : State :=
  let k := s.chan c
  let o := k.ports.get (1 - p)
  let q := k.ports.get p
  match o.copies.find? (fun e => decide (e.1 = sq)) with
  | some twin =>
    let s := s.modChan c (fun k => TgPort.setIn (TgPort.setIn k p { q with copies := [] }) (1 - p)
      { o with copies := o.copies.takeWhile (fun e => decide (e.1 ≠ sq)) })
    if twin.2 = bs then
      let s := (s.takeWords c bs).modChan c (fun k => { k with pairedAt := some s.now, pairedSeq := sq, wdog := false })
      if c = 0 then s.set SF_TG_SEQ_RX sq else s
    else
      let s := s.modChan c (fun k => { k with mismatch := some sq })
      if c = 0 then s.inc SF_TG_MISMATCH else s
  | none =>
    (s.modChan c (fun k => TgPort.setIn k p { q with copies := (sq, bs) :: q.copies })).addStops c bs

/-- Channel c judges a copy that arrived on port p: without SF_TG_ENABLE it is discarded uncounted; channel A's counts are the
objects (R303, R304). -/
def State.receiveCopy (s : State) (c : Fin 2) (p : Fin 2) (bs : Bytes) : State :=
  if s.cfgOf c SF_TG_ENABLE ≠ 1 then s
  else if !telegramValid s c bs then (if c = 0 then s.inc (if p = 0 then SF_TG_BAD0 else SF_TG_BAD1) else s)
  else
    let sq := ofLe (fieldAt bs 8 4)
    let r := sequence ((s.chan c).ports.get p) s.now (ms (s.cfgNOf c SF_TG_GRACE)) sq
    let s := s.modChan c (fun k => TgPort.setIn k p r.1)
    match r.2 with
    | .accepted => s.pair c p sq (bs.take 24)
    | .duplicate => if c = 0 then s.inc SF_TG_DUP else s
    | .fault => s

/-- CONTROL_TELEGRAM: a datagram for port 50,281 reaches both channels (R303). -/
def execControlTelegram (t : Nat) (p : Fin 2) (bs : Bytes) (s : State) : Res :=
  runOn (42 + p.val) (s.at_ t) (fun s => (s.each chans (fun c s => s.receiveCopy c p bs)).syncTele)

/-- The status telegram that channel c forms (R302). -/
def statusTelegram (s : State) (c : Fin 2) (sq : Nat) : Bytes :=
  let k := s.chan c
  let b (i : Nat) (v : Bool) : Nat := if v then 2 ^ i else 0
  let flags := b 0 (s.chan 0).selfBad + b 1 (s.chan 1).selfBad + b 2 (k.ports.get 0).timeout + b 3 (k.ports.get 1).timeout +
    b 4 (s.nat SF_CFG_STATE ≠ 4)
  let body := le 1 0x5D ++ le 1 1 ++ le 2 (s.cfgOf c SF_TG_PEER) ++ le 2 (s.cfgOf c SF_TG_ADDR) ++ le 2 flags ++ le 4 sq ++
    le 4 k.pairedSeq ++ (allAxes.map (fun a => le 2 (statusWord s c a))).flatten ++
    (allAxes.map (fun a => le 1 (s.cax c a).st)).flatten ++ le 4 (s.get SF_CRC_CONFIRMED)
  body ++ le 4 (crc32c body)

/-- STATUS_TELEGRAM: at a whole multiple of SF_TG_CYCLE, channel A sends the FP0 copy and channel B the FP1 copy (R302). -/
def execStatusTelegram (t : Nat) (s : State) : Res :=
  runPowered islTongsA (s.at_ t) (fun s => if s.cfg SF_TG_ENABLE = 1 ∧ s.tb % us (s.cfgN SF_TG_CYCLE) = 0 then
    let sq := if s.nat SF_TG_SEQ_TX = 0xFFFFFFFF then 1 else s.nat SF_TG_SEQ_TX + 1
    ((s.set SF_TG_SEQ_TX sq).emit (.telegram 0 (statusTelegram s 0 sq) 64)).emit (.telegram 1 (statusTelegram s 1 sq) 64)
  else s)

/-- A telegram cause judged at a channel cycle start for the axes of SF_TG_AXES: one entry (R306, R309). -/
def State.judgeTelegram (s : State) (details : List Nat) : State :=
  if s.tb % us 50 ≠ 0 then s
  else
    let hit (c : Fin 2) : Option Found := (telegramFound s c).filter (fun f => details.contains f.detail)
    let due (c : Fin 2) (a : Fin 4) : Option Found :=
      if judging s c a && bitOf (s.cfgNOf c SF_TG_AXES) a.val then hit c else none
    let first (c : Fin 2) : Option Found := if allAxes.any (fun a => (due c a).isSome) then hit c else none
    let u := s.each allAxes (fun a u => u.judgeWith a (due 0 a) (due 1 a))
    let u := u.jFound (first 0) (first 1) (fun u f chs => u.jTelegram chs f.detail)
    let u := if (hit 0).isSome then u.judged 0 else u
    (if (hit 1).isSome then u.judged 1 else u).syncTongs

/-- TELEGRAM_WATCHDOG: no paired telegram for SF_TG_WATCHDOG (R306). -/
def execTelegramWatchdog (t : Nat) (s : State) : Res :=
  runPowered islTongsA (s.at_ t) (fun s => s.judgeTelegram [0x20])

/-- SINGLE_NETWORK_TIMEOUT: one port silent for SF_TG_GRACE while the other delivers (R306). -/
def execSingleNetworkTimeout (t : Nat) (s : State) : Res :=
  runPowered islTongsA (s.at_ t) (fun s => s.judgeTelegram [0x21, 0x22])

end Sys2Proof.Machine
end

