-- ==== Sys2Proof/Machine/Clock.lean ====
section
/-! DEFINITION. The journal ring, steps of the timebase, and the clock reference (R18, R441–R450). -/

namespace Sys2Proof.Machine
open Obj

/-! ### The journal (R18, R447) -/

/-- The 32 bytes of an entry (R18). -/
def Entry.bytes (e : Entry) : Bytes :=
  le 8 e.stamp ++ le 2 (faultCode e.cls e.isl e.detail) ++ le 2 e.src ++ le 1 e.dev ++ zeros 1 ++ padTo 18 e.data

/-- Entries that the ring holds. -/
def ringSize : Nat := 7936

/-- Entries that the queue holds. -/
def queueSize : Nat := 256

/-- JL_ENTRY for a selected sequence: the entry, or zero bytes outside JL_FIRST to JL_NEXT − 1. -/
def journalAt (s : State) (sel : Nat) : Bytes :=
  let back := (s.nat JL_NEXT + 4294967296 - 1 - sel) % 4294967296
  match s.ring[back]? with
  | some e => e.bytes
  | none => []

/-- JL_QUEUE shows the entries queued. -/
def State.jqSync (s : State) : State := s.set JL_QUEUE s.jq.length

/-- An entry takes its place in the queue: after what is there, but among those that arrived at the same edge in ascending order of
source island (R19, R443). -/
def State.joinQueue (s : State) (e : Entry) : State :=
  let k := if s.jarr.1 = s.now then min s.jarr.2 s.jq.length else 0
  let old := s.jq.take (s.jq.length - k)
  let new := s.jq.drop (s.jq.length - k)
  let before (f : Entry) : Bool := decide (f.isl ≤ e.isl)
  { s with jq := old ++ (new.takeWhile before ++ e :: new.dropWhile before), jarr := (s.now, k + 1) }

/-- JOURNAL_ENTRY: the i-th entry that islands have raised arrives at the queue; when that is full, the last of those that arrive at
this edge is dropped (R443, R447). -/
def execJournalEntry (t : Nat) (i : Nat) (s : State) : Res :=
  runOn islJournal (s.at_ t) (fun s => match s.raised[i]? with
    | none => s
    | some e =>
      let s := ({ s with raised := s.raised.eraseIdx i }).joinQueue e
      if s.jq.length ≤ queueSize then s.jqSync
      else ({ s with jq := s.jq.take queueSize, jarr := (s.now, s.jarr.2 - 1), jdrop := s.jdrop + 1 }).inc JL_DROPPED)

/-- An entry enters the ring: the oldest gives way first, and JL_NEXT passes it last (R447). -/
def State.toRing (s : State) (e : Entry) : State :=
  let s := if ringSize ≤ s.ring.length then s.inc JL_FIRST else s
  (({ s with ring := e :: s.ring.take (ringSize - 1) }).inc JL_NEXT).addCount JL_VER 2

/-- The entry that carries the number dropped joins the queue once room returns (R447, R452). -/
def State.noteDropped (s : State) : State :=
  if 0 < s.jdrop ∧ s.jq.length < queueSize then
    let data := le 1 49 ++ le 1 (s.get (IS_STATE 49)) ++ le 1 (s.get TB_REF_STATE) ++ zeros 1 ++ le 8 0 ++ le 4 s.jdrop ++ zeros 2
    { s with jq := s.jq ++ [⟨s.tbNs, 0, islJournal, 0x01, 0x1110, s.nat DV_ADDRESS, data⟩], jdrop := 0 }
  else s

/-- JOURNAL_WRITE: the head of the queue is written into the MRAM ring, while the MRAM island runs (R449). -/
def execJournalWrite (t : Nat) (s : State) : Res :=
  runOn islJournal (s.at_ t) (fun s => match s.jq with
    | [] => s
    | e :: r => if !runs s islMram then s else (({ s with jq := r }).toRing e).noteDropped.jqSync)

/-! ### Steps of the timebase (R442) -/

/-- Instants kept in quarter-nanoseconds, base ticks or timebase ns move with a step of d quarter-nanoseconds, of so many ticks and of
the ns that TB_LAST_STEP shows, so that what has elapsed is kept. -/
def State.shiftInstants (s : State) (d ticks step : Int) : State :=
  let tk (n : Nat) : Nat := ((n : Int) + ticks).toNat
  let nsAt (n : Nat) : Nat := ((n : Int) + step).toNat
  let s := s.each chans (fun c s => s.modChan c (fun k => { k with startAt := k.startAt.map (fun a => ((a : Int) + d).toNat) }))
  let s := s.each allSecs (fun x s => s.modPwm x (fun p =>
    { p with written := p.written.map (fun w => (w.1, w.2.1, tk w.2.2)), reloadAt := p.reloadAt.map tk }))
  let s := s.each allHbs (fun n s => s.modHb n (fun h => { h with cross := h.cross.map (fun c => (c.1, tk c.2.1, c.2.2)) }))
  let s := s.each [0, 1] (fun e s => s.modEnc e (fun c => { c with lastTick := c.lastTick.map tk }))
  let s := s.each allAxes (fun a s => s.modAx a (fun x =>
    { x with casc := { x.casc with t := nsAt x.casc.t }, cascOut := { x.cascOut with t := nsAt x.cascOut.t },
             locals := x.locals.map (fun l => (nsAt l.1, l.2)), gear := { x.gear with lastT := nsAt x.gear.lastT },
             devs := x.devs.map (fun d => { d with t := nsAt d.t }) }))
  let s := s.each allGens (fun g s => s.modGen g (fun r => { r with firstTb := nsAt r.firstTb, sweep := r.sweep.map (fun t => ((t : Int) + d).toNat) }))
  s.each (List.range 10) (fun i s =>
    if s.nat (SS_LOCK_EXPIRY i) = 0 then s else s.set (SS_LOCK_EXPIRY i) (nsAt (s.nat (SS_LOCK_EXPIRY i))))

/-- A counter takes the count of R98 under a new timebase, and R99 applies: where that is 0 the section reloads in this tick, and its
period boundary is served there; elsewhere a partial period opens. -/
def State.takeCount (s : State) (x : Fin 6) : State :=
  if sinceReload s x = 0 then s else ((s.closePeriod x).openNew x).drive x

/-- The timebase steps to a count of v ns: to the first whole period at which TB_NOW reads v, or v + 1 for a v that it never reads
(R441; log entry 107). Every counter takes the count of R98, what has elapsed is kept, and the step is counted and journalled
(R442). -/
def State.stepTimebase (s : State) (v : Nat) : State :=
  let new : Nat := 5 * ((4 * v + 4) / 5)
  let d : Int := (new : Int) - s.tb
  let step : Int := (nsOf new : Int) - s.tbNs
  let s := ({ s with tbOff := s.tbOff + d }).shiftInstants d ((new / 5 : Nat) - (s.tick : Int)) step
  let s := s.each allSecs (fun x s => s.takeCount x)
  let s := (s.inc TB_STEPS).set TB_LAST_STEP step
  s.jClock 1 islTimebase 0x79 0x1100 0xFF step 0

/-- TB_SET is accepted (R442). -/
def mayStep (s : State) : Bool :=
  decide (s.nat NZ_ROLE = 0) && allSecs.all (fun x => decide (s.nat (S_STATE x) = 0) || decide (s.nat (S_STATE x) = 4))

/-! ### The reference (R449, R450) -/

/-- REFERENCE_LOSS: the PLLs hold their last control words (R450). -/
def execReferenceLoss (t : Nat) (s : State) : Res :=
  runOn islTimebase (s.at_ t) (fun s => if s.nat TB_REF_STATE = 1 ∨ s.nat TB_REF_STATE = 2 then
    ({ s with holdAt := some s.now }.set TB_REF_STATE 3).jClock 5 islTimebase 0x05 0x1100 0xFF 0 0
  else s)

/-- REFERENCE_RETURN: within TB_HOLDOVER the PLLs relock without a phase step (R450). -/
def execReferenceReturn (t : Nat) (s : State) : Res :=
  runOn islTimebase (s.at_ t) (fun s => match s.holdAt with
    | some h =>
      if s.nat TB_REF_STATE = 3 ∧ s.now ≤ h + ms (s.nat TB_HOLDOVER) then
        ({ s with holdAt := none }.set TB_REF_STATE 2).jClock 1 islTimebase 0x78 0x1100 0xFF 0 0
      else s
    | none => s)

/-- HOLDOVER_EXPIRY: TB_HOLDOVER has passed without the reference, and every section is isolated (R450). -/
def execHoldoverExpiry (t : Nat) (s : State) : Res :=
  runOn islTimebase (s.at_ t) (fun s => match s.holdAt with
    | some h =>
      if s.nat TB_REF_STATE = 3 ∧ h + ms (s.nat TB_HOLDOVER) ≤ s.now then
        ({ s with holdAt := none }).isolateHeld allSecs islTimebase 0x07 0x1100 0xFF
      else s
    | none => s)

end Sys2Proof.Machine
end

