-- ==== Sys2Proof/Machine/Crypto.lean ====
section
/-! DEFINITION. AES-CMAC-128, which tags APP frames and derives session keys (R336, R340; the algorithm is that of the
standards the rules name, log entry 10). -/

namespace Sys2Proof.Machine

/-- The AES substitution box, by high and low half of the byte. -/
def sboxRows : List (List Nat) :=
  [[0x63, 0x7C, 0x77, 0x7B, 0xF2, 0x6B, 0x6F, 0xC5, 0x30, 0x01, 0x67, 0x2B, 0xFE, 0xD7, 0xAB, 0x76],
   [0xCA, 0x82, 0xC9, 0x7D, 0xFA, 0x59, 0x47, 0xF0, 0xAD, 0xD4, 0xA2, 0xAF, 0x9C, 0xA4, 0x72, 0xC0],
   [0xB7, 0xFD, 0x93, 0x26, 0x36, 0x3F, 0xF7, 0xCC, 0x34, 0xA5, 0xE5, 0xF1, 0x71, 0xD8, 0x31, 0x15],
   [0x04, 0xC7, 0x23, 0xC3, 0x18, 0x96, 0x05, 0x9A, 0x07, 0x12, 0x80, 0xE2, 0xEB, 0x27, 0xB2, 0x75],
   [0x09, 0x83, 0x2C, 0x1A, 0x1B, 0x6E, 0x5A, 0xA0, 0x52, 0x3B, 0xD6, 0xB3, 0x29, 0xE3, 0x2F, 0x84],
   [0x53, 0xD1, 0x00, 0xED, 0x20, 0xFC, 0xB1, 0x5B, 0x6A, 0xCB, 0xBE, 0x39, 0x4A, 0x4C, 0x58, 0xCF],
   [0xD0, 0xEF, 0xAA, 0xFB, 0x43, 0x4D, 0x33, 0x85, 0x45, 0xF9, 0x02, 0x7F, 0x50, 0x3C, 0x9F, 0xA8],
   [0x51, 0xA3, 0x40, 0x8F, 0x92, 0x9D, 0x38, 0xF5, 0xBC, 0xB6, 0xDA, 0x21, 0x10, 0xFF, 0xF3, 0xD2],
   [0xCD, 0x0C, 0x13, 0xEC, 0x5F, 0x97, 0x44, 0x17, 0xC4, 0xA7, 0x7E, 0x3D, 0x64, 0x5D, 0x19, 0x73],
   [0x60, 0x81, 0x4F, 0xDC, 0x22, 0x2A, 0x90, 0x88, 0x46, 0xEE, 0xB8, 0x14, 0xDE, 0x5E, 0x0B, 0xDB],
   [0xE0, 0x32, 0x3A, 0x0A, 0x49, 0x06, 0x24, 0x5C, 0xC2, 0xD3, 0xAC, 0x62, 0x91, 0x95, 0xE4, 0x79],
   [0xE7, 0xC8, 0x37, 0x6D, 0x8D, 0xD5, 0x4E, 0xA9, 0x6C, 0x56, 0xF4, 0xEA, 0x65, 0x7A, 0xAE, 0x08],
   [0xBA, 0x78, 0x25, 0x2E, 0x1C, 0xA6, 0xB4, 0xC6, 0xE8, 0xDD, 0x74, 0x1F, 0x4B, 0xBD, 0x8B, 0x8A],
   [0x70, 0x3E, 0xB5, 0x66, 0x48, 0x03, 0xF6, 0x0E, 0x61, 0x35, 0x57, 0xB9, 0x86, 0xC1, 0x1D, 0x9E],
   [0xE1, 0xF8, 0x98, 0x11, 0x69, 0xD9, 0x8E, 0x94, 0x9B, 0x1E, 0x87, 0xE9, 0xCE, 0x55, 0x28, 0xDF],
   [0x8C, 0xA1, 0x89, 0x0D, 0xBF, 0xE6, 0x42, 0x68, 0x41, 0x99, 0x2D, 0x0F, 0xB0, 0x54, 0xBB, 0x16]]

def sbox (b : Nat) : Nat := (((sboxRows[b / 16]?).getD [])[b % 16]?).getD 0

/-- Doubling in the field of AES. -/
def xtime (b : Nat) : Nat := if b < 128 then 2 * b else (2 * b - 256) ^^^ 0x1B

def xorL (a b : List Nat) : List Nat := List.zipWith (· ^^^ ·) a b

/-- The next round key of 16 bytes. -/
def nextKey (k : List Nat) (rcon : Nat) : List Nat :=
  let w (i : Nat) : List Nat := (k.drop (4 * i)).take 4
  let g := (((w 3).drop 1 ++ (w 3).take 1).map sbox)
  let g := xorL g [rcon, 0, 0, 0]
  let a := xorL (w 0) g
  let b := xorL (w 1) a
  let c := xorL (w 2) b
  a ++ b ++ c ++ xorL (w 3) c

/-- The rows of the state shift: byte 4c + r comes from column c + r. -/
def shiftRows (s : List Nat) : List Nat :=
  (List.range 16).map (fun i => (s[(i + 4 * (i % 4)) % 16]?).getD 0)

/-- One column mixed. -/
def mixColumn : List Nat → List Nat
  | [a, b, c, d] =>
    [xtime a ^^^ (xtime b ^^^ b) ^^^ c ^^^ d, a ^^^ xtime b ^^^ (xtime c ^^^ c) ^^^ d,
     a ^^^ b ^^^ xtime c ^^^ (xtime d ^^^ d), (xtime a ^^^ a) ^^^ b ^^^ c ^^^ xtime d]
  | l => l

def mixColumns (s : List Nat) : List Nat :=
  mixColumn (s.take 4) ++ mixColumn ((s.drop 4).take 4) ++ mixColumn ((s.drop 8).take 4) ++ mixColumn (s.drop 12)

/-- Rounds 1 to 10, with the round constants left. -/
def aesRounds : List Nat → List Nat → List Nat → List Nat
  | [], s, _ => s
  | rc :: rest, s, k =>
    let k := nextKey k rc
    let s := shiftRows (s.map sbox)
    let s := if rest = [] then s else mixColumns s
    aesRounds rest (xorL s k) k

/-- AES-128 of one block. -/
def aes (key block : List Nat) : List Nat :=
  aesRounds [0x01, 0x02, 0x04, 0x08, 0x10, 0x20, 0x40, 0x80, 0x1B, 0x36] (xorL block key) key

/-- Doubling of a block, most significant byte first, as CMAC subkeys use it. -/
def dbl (b : List Nat) : List Nat :=
  let n := b.foldl (fun n x => 256 * n + x) 0
  let v := if n < 2 ^ 127 then 2 * n else (2 * n - 2 ^ 128) ^^^ 0x87
  (List.range 16).map (fun i => v / 256 ^ (15 - i) % 256)

/-- The CBC chain over whole blocks; `fuel` is at least the number of blocks. -/
def cmacBlocks (key k1 k2 : List Nat) : Nat → List Nat → List Nat → List Nat
  | 0, x, _ => x
  | fuel + 1, x, m =>
    if m.length < 16 then
      aes key (xorL x (xorL (m ++ [0x80] ++ List.replicate (15 - m.length) 0) k2))
    else if m.length = 16 then aes key (xorL x (xorL m k1))
    else cmacBlocks key k1 k2 fuel (aes key (xorL x (m.take 16))) (m.drop 16)

/-- AES-CMAC-128 with a full tag. -/
def cmac (key : Bytes) (m : Bytes) : Bytes :=
  let k := (padTo 16 key).map BitVec.toNat
  let l := aes k (List.replicate 16 0)
  let k1 := dbl l
  (cmacBlocks k k1 (dbl k1) (m.length / 16 + 1) (List.replicate 16 0) (m.map BitVec.toNat)).map (fun n => BitVec.ofNat 8 n)

end Sys2Proof.Machine
end

