-- ==== Sys2Proof/Machine/NazFrame.lean ====
section
/-! DEFINITION. NazLink frames: layout, check, sending, directions, acceptance and forwarding (R388–R393). -/

namespace Sys2Proof.Machine
open Obj

/-! ### Frame kinds (R392) -/

def nkCycle : Nat := 0x01
def nkCommand : Nat := 0x02
def nkBarrier : Nat := 0x03
def nkTx : Nat := 0x04
def nkAnnounce : Nat := 0x05
def nkElect : Nat := 0x06
def nkLink : Nat := 0x07
def nkSync : Nat := 0x08
def nkDevice : Nat := 0x10
def nkAxis : Nat := 0x11
def nkMpos : Nat := 0x12
def nkRequest : Nat := 0x20
def nkResponse : Nat := 0x21

/-- A frame without its CRC (R391). -/
structure NazF where
  kind : Nat
  flags : Nat
  dst : Nat
  src : Nat
  gen : Nat
  seq : Nat
  hop : Nat
  payload : Bytes
deriving DecidableEq, Repr

/-- Header, payload and CRC-32C (R391). -/
def NazF.bytes (f : NazF) : Bytes :=
  let b := le 1 f.kind ++ le 1 f.flags ++ le 2 f.dst ++ le 2 f.src ++ le 2 f.payload.length ++ le 2 f.gen ++ le 2 f.seq ++
    le 1 f.hop ++ zeros 3 ++ f.payload
  b ++ le 4 (crc32c b)

/-- A field of n bytes as a number. -/
def numAt (bs : Bytes) (off n : Nat) : Nat := ofLe (fieldAt bs off n)

/-- A signed field of n bytes. -/
def intAt (bs : Bytes) (off n : Nat) : Int := signExt (8 * n) (numAt bs off n)

/-- The frame that bytes hold; none when its length or its CRC fails (R390, R391). -/
def NazF.parse (bs : Bytes) : Option NazF :=
  let l := numAt bs 6 2
  if bs.length = l + 20 ∧ 20 ≤ bs.length ∧ l ≤ 1232 ∧ numAt bs (l + 16) 4 = crc32c (bs.take (l + 16)) then
    some ⟨numAt bs 0 1, numAt bs 1 1, numAt bs 2 2, numAt bs 4 2, numAt bs 8 2, numAt bs 10 2, numAt bs 12 1, fieldAt bs 16 l⟩
  else none

/-! ### Ports and addresses -/

/-- The ports NZU (0) and NZD (1). -/
def nazPorts : List (Fin 2) := [0, 1]
def otherPort (p : Fin 2) : Fin 2 := if p = 0 then 1 else 0

/-- The link of a port is up (R389). -/
def linkUp (s : State) (p : Fin 2) : Bool := decide (s.nat (NZ_LINK p.val) = 2)

/-- N, as an enumeration has found it (R394). -/
def nazN (s : State) : Nat := s.nat NZ_COUNT

/-- The source address of this device (R391). -/
def nazSelf (s : State) : Nat := if s.naz.addressed then s.nat DV_ADDRESS else 0xFFFE

def State.modNaz (s : State) (f : Naz → Naz) : State := { s with naz := f s.naz }

/-- A port's record changes. -/
def State.modPort (s : State) (p : Fin 2) (f : NazPort → NazPort) : State :=
  s.modNaz (fun n => { n with ports := n.ports.set p.val (f (n.ports.get p)) p.isLt })

/-- The next sequence number of a kind (R391). -/
def State.nextSeq (s : State) (kind : Nat) : Nat × State :=
  let v := (AL.find s.naz.seqs kind).getD 0
  (v, s.modNaz (fun n => { n with seqs := AL.insert n.seqs kind ((v + 1) % 65536) }))

/-- Downstream position of an address on the ring (R390). -/
def posOnRing (s : State) (d : Nat) : Option Nat :=
  let i := (s.blob NZ_ORDER).findIdx (fun b => decide (b.toNat = d))
  if i < (s.blob NZ_ORDER).length then some i else none

/-- Devices that lie downstream of this one before the line ends: the first break of the ring, found from the ports
reported down (R410); where none is, the devices whose frames come from downstream. -/
def downReach (s : State) : Nat :=
  if !linkUp s 1 then 0
  else match posOnRing s (s.nat DV_ADDRESS) with
    | some j =>
      let order := (s.blob NZ_ORDER).map (·.toNat)
      ((List.range (nazN s)).find? (fun k =>
        (s.naz.downs.any (fun e => decide (e = (order.getD ((j + k) % nazN s) 0, 1)))) ||
        (s.naz.downs.any (fun e => decide (e = (order.getD ((j + k + 1) % nazN s) 0, 0)))))).getD
        (if s.naz.line && linkUp s 0 then (order.filter (fun d => decide (AL.find s.naz.via d = some 1))).length else nazN s - 1)
    | none => nazN s - 1

/-- The greater hop count from this device to a line end of an open ring (R409). -/
def lineHops (s : State) : Nat := max (downReach s) (nazN s - 1 - downReach s)

/-- The port a unicast frame leaves by: fewer hops on a closed ring, downstream on a tie; on an open ring the direction
that reaches (R390). -/
def towards (s : State) (d : Nat) : Fin 2 :=
  if !linkUp s 1 then 0
  else if !linkUp s 0 then 1
  else match posOnRing s d, posOnRing s (s.nat DV_ADDRESS) with
    | some i, some j =>
      let down := (i + nazN s - j) % nazN s
      if s.nat NZ_RING = 1 then (if down ≤ nazN s - down then 1 else 0)
      else if down ≤ downReach s then 1 else 0
    | _, _ => 1

/-! ### Sending -/

/-- A frame leaves a port whose link is up; LINK and SYNC cross a foreign link too (R389). -/
def State.out1 (s : State) (p : Fin 2) (f : NazF) : State :=
  if linkUp s p || (decide (s.nat (NZ_LINK p.val) = 3) && (f.kind == nkLink || f.kind == nkSync)) then s.emit (.naz p.val { f with flags := f.flags - f.flags % 2 + p.val }.bytes true) else s

/-- The frame that this device sends with a payload. -/
def ownFrame (s : State) (kind dst seq : Nat) (payload : Bytes) : NazF :=
  ⟨kind, 0, dst, nazSelf s, s.nat NZ_GEN, seq, 0, payload⟩

/-- A broadcast of a device without an address is noted with the port by which it came, or 2 where this device sent it: its
copy from another port is no second frame (R390). -/
def State.noteAnon (s : State) (kind seq port : Nat) (payload : Bytes) : State :=
  s.modNaz (fun n => { n with
    anon := ((kind, seq, port, payload) :: n.anon.filter (fun e => decide (e.1 ≠ kind ∨ e.2.1 ≠ seq ∨ e.2.2.2 ≠ payload))).take 16 })

/-- A frame is the second copy of a broadcast of a device without an address (R390). -/
def secondCopy (s : State) (p : Fin 2) (f : NazF) : Bool :=
  decide (f.src = 0xFFFE ∧ f.dst = 0xFFFF) &&
    s.naz.anon.any (fun e => decide (e.1 = f.kind ∧ e.2.1 = f.seq ∧ e.2.2.2 = f.payload ∧ e.2.2.1 ≠ p.val))

/-- A broadcast with a given sequence leaves as one copy from each port (R390). -/
def State.castSeq (s : State) (kind seq : Nat) (payload : Bytes) : State :=
  let s := if s.naz.addressed then s else s.noteAnon kind seq 2 payload
  s.each [1, 0] (fun (p : Fin 2) s => s.out1 p (ownFrame s kind 0xFFFF seq payload))

/-- A broadcast. -/
def State.cast (s : State) (kind : Nat) (payload : Bytes) : State :=
  let (q, s) := s.nextSeq kind
  s.castSeq kind q payload

/-- A frame to one device. -/
def State.sendTo (s : State) (kind d : Nat) (payload : Bytes) : State :=
  let (q, s) := s.nextSeq kind
  s.out1 (towards s d) (ownFrame s kind d q payload)

/-- A frame out of one port, whoever is there. -/
def State.sendPort (s : State) (p : Fin 2) (kind dst : Nat) (payload : Bytes) : State :=
  let (q, s) := s.nextSeq kind
  s.out1 p (ownFrame s kind dst q payload)

/-- A commit message to one device or to all (R377, R392). -/
def State.sendTx (s : State) (d : Option Nat) (msg : Bytes) : State :=
  match d with
  | some d => s.sendTo nkTx d msg
  | none => s.cast nkTx msg

/-! ### Receiving -/

/-- A sequence follows the last one accepted, wrapping (R391, R392). -/
def seqNew (last : Option Nat) (q : Nat) : Bool :=
  match last with
  | none => true
  | some l => decide (0 < (q + 65536 - l) % 65536) && decide ((q + 65536 - l) % 65536 < 32768)

/-- How many devices a broadcast copy reaches in the direction it travels on a closed ring (R390). -/
def copyHops (s : State) (downstream : Bool) : Nat :=
  if downstream then nazN s / 2 else (nazN s - 1) / 2

/-- The frame is forwarded: not to this device alone, and within the hops of its copy on a closed ring (R390). -/
def forwards (s : State) (p : Fin 2) (f : NazF) : Bool :=
  !(s.naz.addressed && decide (f.dst = s.nat DV_ADDRESS)) && decide (f.src ≠ nazSelf s ∨ f.src = 0xFFFE) &&
    (decide (f.dst ≠ 0xFFFF) || decide (s.nat NZ_RING ≠ 1) || !s.naz.addressed || decide (f.hop + 1 < copyHops s (decide (p = 0))))

/-- The copy that passes on (R390); a CYCLE frame gains the delay of its arrival link and the hop of 64 ns in its path
correction (R401). -/
def passed (s : State) (p : Fin 2) (f : NazF) : NazF :=
  let f := { f with hop := (f.hop + 1) % 256 }
  if f.kind = nkCycle ∧ 20 ≤ f.payload.length then
    let d := (s.naz.ports.get p).delays
    let link : Int := if d.isEmpty then 0 else rnd (d.sum / d.length)
    { f with payload := f.payload.take 16 ++ le 4 (((numAt f.payload 16 4 : Nat) : Int) + link + 64 * 256) ++ f.payload.drop 20 }
  else f

/-- A frame of a kind arrives at a port: a failed check aborts the forwarded copy and is counted; the frame is passed on
unless it is for this device alone; one copy of what is addressed to this device, in the present generation, is
accepted, with the effect k (R389–R392). Frames of kinds that have their own way round the ring are not passed on
here (`own`). -/
def State.receive (s : State) (p : Fin 2) (kind : Nat) (own : Bool) (bs : Bytes) (k : NazF → State → State) : State :=
  let l := s.nat (NZ_LINK p.val)
  if !(decide (l = 2) || (decide (l = 3) && (kind == nkLink || kind == nkSync))) then s
  else match NazF.parse bs with
    | none =>
      let s := s.inc (NZ_CRC_ERR p.val)
      if !own && linkUp s (otherPort p) then s.emit (.naz (otherPort p).val bs false) else s
    | some f =>
      if f.kind ≠ kind ∨ (own = false ∧ secondCopy s p f = true) then s
      else
        let s := if !own && forwards s p f then s.out1 (otherPort p) (passed s p f) else s
        let exempt := kind == nkLink || kind == nkElect || kind == nkSync ||
          (kind == nkBarrier && decide (numAt f.payload 0 1 = 5))
        let mine := decide (f.dst = 0xFFFF) || (s.naz.addressed && decide (f.dst = s.nat DV_ADDRESS)) ||
          (!s.naz.addressed && decide (f.dst = 0xFFFE))
        let key := f.src * 256 + kind
        let fresh := own || decide (f.src = 0xFFFE) || seqNew (AL.find s.naz.seen key) f.seq
        if (exempt || decide (f.gen = s.nat NZ_GEN)) && mine && fresh && !(decide (f.src = nazSelf s) && !own && s.naz.addressed) then
          let s := if own then s
            else if f.src = 0xFFFE then s.noteAnon kind f.seq p.val f.payload
            else s.modNaz (fun n => { n with seen := AL.insert n.seen key f.seq, via := AL.insert n.via f.src p.val })
          k f s
        else s

end Sys2Proof.Machine
end

