-- ==== Sys2Proof/Machine/Tx.lean ====
section
/-! DEFINITION. Transactions: their records, staging cost, identifiers, reports and aborts (R362–R365, R373–R376,
R385). -/

namespace Sys2Proof.Machine
open Obj

/-! ### Records -/

def State.tx (s : State) (id : Nat) : Option Tx := s.txs.find? (fun t => decide (t.id = id))

/-- The transaction with an identifier is changed by f. -/
def State.modTx (s : State) (id : Nat) (f : Tx → Tx) : State :=
  { s with txs := s.txs.map (fun t => if t.id = id then f t else t) }

/-- Counted by the device: states 1, 2, 3 and 7 (R365). -/
def Tx.live (t : Tx) : Bool := decide (t.st = 1 ∨ t.st = 2 ∨ t.st = 3 ∨ t.st = 7)

/-- What a staged object of a value length costs in proofing (R365). -/
def objectCost (len : Nat) : Nat := 16 + 8 * ceilDiv (max len 1) 8

/-- Proofing bytes of a transaction (R365). -/
def Tx.bytes (t : Tx) : Nat := 64 + (t.staged.map (fun w => objectCost w.2.length)).sum

def liveTxs (s : State) : List Tx := s.txs.filter Tx.live

/-- Proofing bytes in use on the device. -/
def proofUsed (s : State) : Nat := ((liveTxs s).map Tx.bytes).sum

/-- Transactions of a session in state 1 (R365). -/
def openOf (s : State) (sid : Nat) : List Tx := s.txs.filter (fun t => decide (t.st = 1 ∧ t.owner = sid))

/-- The device counts follow the records. -/
def State.syncTx (s : State) : State := (s.set TX_OPEN_COUNT (liveTxs s).length).set TX_PROOF_USED (proofUsed s)

/-! ### Identifiers (R362, R373) -/

/-- The reuse count of the next take of a slot (R362). -/
def nextUse (s : State) (slot : Nat) : Nat :=
  match AL.find s.txUse slot with
  | some c => if c = 0xFE then 0 else c + 1
  | none => 0

/-- The record that stands in a proofing slot. -/
def inSlot (s : State) (slot : Nat) : Option Tx := s.txs.find? (fun t => decide (t.id % 256 = slot))

/-- The slot that TX_OPEN takes: one never taken, else the one that left states 1–3 and 7 longest ago (R373). -/
def freeSlot (s : State) : Option Nat :=
  match (List.range 256).find? (fun n => (inSlot s n).isNone) with
  | some n => some n
  | none => ((s.txs.filter (fun t => !t.live)).foldl (fun (m : Option Tx) t => match m with
      | none => some t
      | some u => if t.left < u.left then some t else some u) none).map (fun t => t.id % 256)

/-- A new transaction in a slot. -/
def Tx.fresh (id owner now : Nat) : Tx :=
  { id := id, st := 1, result := 0, point := 0, secs := 0, dom := 0, time := 0, owner := owner, staged := [], parts := [],
    T := none, fail := 0, stamp := 0, doms := 0, opened := now, left := 0, commitAt := 0, order := 0, prepAt := none, coord := none, votes := [], dones := [],
    asked := none, decided := false, old := [], applied := false, written := false, late := false }

/-- A slot is taken for an owner; the identifier (R362). -/
def State.takeSlot (s : State) (slot owner : Nat) (coord : Option (Nat × Nat)) : Nat × State :=
  let use := nextUse s slot
  let id := 256 * use + slot
  let t := { Tx.fresh id owner s.now with coord := coord }
  (id, ({ s with txs := s.txs.filter (fun (u : Tx) => decide (u.id % 256 ≠ slot)) ++ [t], txUse := AL.insert s.txUse slot use }).syncTx)

/-! ### Aborts (R373, R374, R385) -/

/-- A transaction entry (R385). -/
def State.jTx (s : State) (cls detail : Nat) (t : Tx) (code addr : Nat) : State :=
  s.journal cls islStore detail 0x1301
    (le 2 t.id ++ le 1 code ++ le 1 t.point ++ le 2 t.owner ++ le 4 addr ++ le 8 (t.T.getD 0 : Nat))

/-- The class of an abort (R374). -/
def abortClass (code : Nat) : Nat := if code = 0x05 ∨ code = 0x08 ∨ code = 0x0D then 9 else 0xA

/-- The slots whose inactive bank a transaction prepares or holds. -/
def stagedSlots (t : Tx) : List (Fin 48) :=
  allSlots.filter (fun k => t.staged.any (fun w => decide (w.1 / 256 = 0x4100 + k.val) &&
    decide (2 ≤ w.1 % 256) && decide (w.1 % 256 ≤ 0x1A)))

/-- A commit message of R377. -/
def commitMsg (kind code id point objects serial T addr : Nat) : Bytes :=
  le 1 kind ++ le 1 code ++ le 2 id ++ le 1 point ++ zeros 1 ++ le 2 objects ++ le 8 serial ++ le 8 T ++ le 4 addr

/-- The device's own serial number (R333; log entry 4). -/
def serialNo : Nat := Config.serial.toNat

/-- The coordinator of a transaction, as its messages name it: serial number and identifier. -/
def coordOf (t : Tx) : Nat × Nat := t.coord.getD (serialNo, t.id)

/-- The place of a commit that is accepted now (R368, R372). -/
def nextOrder (s : State) : Nat := 1 + (s.txs.map (·.order)).foldl max 0

/-- The commit point as a message carries it: 0 or 3 (R377; log entry 104). -/
def pointField (t : Tx) : Nat := if t.point = 3 then 3 else 0

/-- The count of staged objects in a broadcast to the participants: where they hold equally many, else 0 (R377; log entry 104). -/
def partCount (t : Tx) : Nat :=
  match t.parts with
  | [] => 0
  | q :: l => if l.all (fun r => decide (r.2 = q.2)) then q.2 else 0

/-- The object of a fence domain (R381). -/
def fenceKey (k : Nat) : Option Nat := if k / 256 = 0x1310 ∧ 1 ≤ k % 256 ∧ k % 256 ≤ 16 then some (k % 256 - 1) else none

/-- Fences that are stamped and still wait to be issued, in the firmware queue or behind another fence: domain and stamp (R381). -/
def waitingFences (s : State) : List (Nat × Nat) :=
  (s.queue.map (fun q => q.recs.filterMap (fun r =>
    if r.op = 2 ∧ r.code.isNone ∧ r.dev = s.nat DV_ADDRESS ∧ ofLe r.val = 1 then (fenceKey r.key).map (fun f => (f, q.stamp)) else none))).flatten ++
  s.heldW.filterMap (fun h => if h.op = 2 ∧ ofLe h.val = 1 then (fenceKey (h.addr % 16777216)).map (fun f => (f, h.stamp)) else none)

/-- A fence that is still to be issued was stamped before a stamp, in one of these domains. -/
def fenceWaits (s : State) (stamp doms : Nat) : Bool := (waitingFences s).any (fun f => bitOf doms f.1 && decide (f.2 < stamp))

/-- A transaction aborts with a code and the first failing address: its banks are released, it is counted and
journalled, and a coordinator tells its participants (R373, R374, R379). -/
def State.abortTx (s : State) (id code addr : Nat) : State :=
  match s.tx id with
  | none => s
  | some t =>
    if !t.live then s
    else
      let s := if 2 ≤ t.st ∧ t.st ≤ 3 then s.each (stagedSlots t) (fun k s => s.unprepareSlot k) else s
      let s := (s.modTx id (fun t => { t with st := 5, result := code, fail := addr, left := s.now })).syncTx
      let s := (s.inc TX_ABORTS).jTx (abortClass code) code t code addr
      let s := { s with sessions := s.sessions.map (fun n => if n.txCur = id then { n with txCur := 0xFFFF } else n) }
      if t.coord.isNone ∧ t.parts ≠ [] then
        s.sendTx none (commitMsg 3 code t.id (pointField t) (partCount t) serialNo 0 addr)
      else s

/-- The open transactions of a session that meet a condition abort; how many. -/
def State.abortOpen (s : State) (sid code : Nat) (p : Tx → Bool) : Nat × State :=
  let l := (openOf s sid).filter p
  (l.length, s.each l (fun t s => s.abortTx t.id code 0))

end Sys2Proof.Machine
end

