-- ==== Sys2Proof/Machine/Sessions.lean ====
section
/-! DEFINITION. Sessions: records, tokens and admission, locks and leases, quotas and hard cuts, and the endings
(R340–R353, R358). -/

namespace Sys2Proof.Machine
open Obj

/-! ### Records (R346) -/

def State.session (s : State) (id : Nat) : Option Session := s.sessions.find? (fun n => decide (n.id = id))

/-- The session with an identifier is changed by f. -/
def State.modSession (s : State) (id : Nat) (f : Session → Session) : State :=
  { s with sessions := s.sessions.map (fun n => if n.id = id then f n else n) }

/-- The identifiers of the sessions of CB0, CB1 and the host port (R346). -/
def sidCan (c : Nat) : Nat := 0x07FD + c
def sidHost : Nat := 0x07FF

/-- The guaranteed rate and burst of a profile (R348). -/
def rateOf (s : State) (j : Nat) : Nat := s.nat (SS_Q_RATE j)
def burstOf (s : State) (j : Nat) : Nat := s.nat (SS_Q_BURST j)

/-- Σr over the sessions of the device (R348). -/
def guarSum (s : State) : Nat := (s.sessions.map (fun n => rateOf s n.profile)).sum

/-- SS_COUNT, SS_GUAR_SUM and SS_ROUTES follow the records. -/
def State.syncSessions (s : State) : State :=
  ((s.set SS_COUNT s.sessions.length).set SS_GUAR_SUM (guarSum s)).set SS_ROUTES s.routes.length

/-- A new session record. -/
def Session.fresh (id port : Nat) (slot : Option Nat) (roles profile burst now : Nat) : Session :=
  { id := id, port := port, slot := slot, roles := roles, profile := profile, opening := none, key := [], shigh := 0, sent := 0,
    cache := [], lastAt := now, tokens := burst, tokAt := now, refused := 0, addr := [], subs := [], txCur := 0xFFFF,
    domains := 1, txSel := 0xFFFF, sel := 0xFFFF, jlSel := 0, origin := none, capReads := [] }

/-- A session joins the records, at its place by identifier. -/
def State.addSession (s : State) (n : Session) : State :=
  ({ s with sessions := s.sessions.filter (fun (m : Session) => decide (m.id < n.id)) ++ [n] ++
      s.sessions.filter (fun (m : Session) => decide (n.id < m.id)) }).syncSessions

/-- The lowest identifier that is free and not held back (R346). -/
def freeId (s : State) : Option Nat :=
  (List.range 0x07FD).find? (fun i => (s.session i).isNone && (AL.find s.freed i).isNone)

/-- IDENTIFIER_HOLD_END: identifiers freed for 1 s become reassignable (R346). -/
def execIdentifierHoldEnd (t : Nat) (s : State) : Res :=
  runOn islCrypto (s.at_ t) (fun s => { s with freed := s.freed.filter (fun f => decide (s.now < f.2 + ms 1000)) })

/-! ### Tokens (R348) -/

/-- Tokens of a session now. -/
def tokensNow (s : State) (n : Session) : Rat :=
  min (burstOf s n.profile : Rat) (n.tokens + (rateOf s n.profile : Rat) * ((s.now - n.tokAt : Nat) : Rat) / 4000000000)

/-- Tokens of the best-effort bucket now. -/
def bestNow (s : State) : Rat :=
  min 1000 (s.best + ((200000 - guarSum s : Int) : Rat) * ((s.now - s.bestAt : Nat) : Rat) / 4000000000)

/-- Every bucket is brought to the present instant, before a rate changes (R349). -/
def State.settleTokens (s : State) : State :=
  { s with sessions := s.sessions.map (fun n => { n with tokens := tokensNow s n, tokAt := s.now }),
           best := bestNow s, bestAt := s.now }

/-- Where a record was charged (R348). -/
inductive Charge where
  | guaranteed | best | refused
deriving DecidableEq, Repr

/-- One record of a session takes a token (R348). -/
def State.charge (s : State) (sid : Nat) : Charge × State :=
  match s.session sid with
  | none => (.refused, s)
  | some n =>
    let s := s.settleTokens
    if 1 ≤ tokensNow s n then (.guaranteed, s.modSession sid (fun n => { n with tokens := n.tokens - 1 }))
    else if 1 ≤ s.best then (.best, { s with best := s.best - 1 })
    else (.refused, s)

/-- A record of a session is refused with 0x0E: SS_REFUSED counts it (R360). -/
def State.countRefused (s : State) (sid code : Nat) : State :=
  if code = 0x0E then s.modSession sid (fun n => { n with refused := (n.refused + 1) % 4294967296 }) else s

/-! ### Journal (R358) -/

/-- A session entry: cause, lock target, lease expiry and a count. -/
def State.jSession (s : State) (detail src sid port cause slot profile target expiry n : Nat) : State :=
  s.journal 0xA islCrypto detail src
    (le 2 sid ++ le 1 port ++ le 1 cause ++ le 1 slot ++ le 1 profile ++ le 2 target ++ le 8 expiry ++ le 2 n)

/-- The entry of a session record. -/
def State.jSess (s : State) (detail : Nat) (n : Session) (cause count : Nat) : State :=
  s.jSession detail 0x1200 n.id n.port cause (n.slot.getD 0xFF) n.profile 0xFFFF 0 count

/-! ### Locks (R351, R352) -/

def targets : List (Fin 10) := List.finRange 10

def State.lockAt (s : State) (i : Fin 10) : Option Lock := s.locks.get i

/-- A lock target changes; its owner and expiry are reported. -/
def State.setLock (s : State) (i : Fin 10) (l : Option Lock) : State :=
  let s := { s with locks := s.locks.set i.val l i.isLt }
  match l with
  | some k => (s.set (SS_LOCK_OWNER i) k.owner).set (SS_LOCK_EXPIRY i) (s.stampOf k.expiry)
  | none => (s.set (SS_LOCK_OWNER i) 0xFFFF).set (SS_LOCK_EXPIRY i) 0

/-- The kind and instance of a target, as SS_LOCK and the journal name it. -/
def targetName (i : Fin 10) : Nat := if i.val < 6 then 0x100 + i.val else 0x200 + (i.val - 6)

/-- A target covers an object (R352). -/
def covers (s : State) (i : Fin 10) (key : Nat) : Bool :=
  let idx := key / 256
  if i.val < 6 then decide (idx / 256 = 0x20 + i.val) || decide (idx / 256 = 0x30 + i.val)
  else
    let a := i.val - 6
    decide (idx / 256 = 0x50 + a) || decide (idx / 16 = 0x380 + a) ||
      (if h : 0x4100 ≤ idx ∧ idx < 0x4130 then (slotAxes s ⟨idx - 0x4100, by omega⟩).any (fun b => decide (b.val = a)) else false)

/-- The object stands under another session's lock (check 6 of R321); the device's own writes (session 0xFFFF) are never blocked
(R352). -/
def lockedBy (s : State) (sid key : Nat) : Bool :=
  decide (sid ≠ 0xFFFF) && targets.any (fun i => match s.lockAt i with
    | some l => decide (l.owner ≠ sid) && covers s i key
    | none => false)

/-- Locks that a session holds. -/
def locksOf (s : State) (sid : Nat) : List (Fin 10) :=
  targets.filter (fun i => match s.lockAt i with
    | some l => decide (l.owner = sid)
    | none => false)

/-- The target of an SS_LOCK value, when kind and instance name one. -/
def lockTarget (w : Nat) : Option (Fin 10) :=
  let kind := bitsOf w 27 24
  let i := bitsOf w 23 16
  if h : kind = 1 ∧ i < 6 then some ⟨i, by omega⟩
  else if h : kind = 2 ∧ i < 4 then some ⟨i + 6, by omega⟩ else none

/-- Whether an SS_LOCK value has the layout of R351. -/
def lockValueOk (w : Nat) : Bool :=
  (lockTarget w).isSome && (decide (bitsOf w 31 28 = 2) ||
    (decide (bitsOf w 31 28 = 1) && decide (10 ≤ w % 65536) && decide (w % 65536 ≤ 60000)))

/-- The result code of an SS_LOCK write by a session (R351, R352). -/
def lockCode (s : State) (sid w : Nat) : Nat :=
  match lockTarget w with
  | none => 0x06
  | some i =>
    match s.lockAt i, s.session sid with
    | some l, _ => if l.owner = sid then 0 else if bitsOf w 31 28 = 1 then 0x0B else 0x0C
    | none, some n =>
      if bitsOf w 31 28 = 2 then 0x0C else if s.nat (SS_Q_LOCKS n.profile) ≤ (locksOf s sid).length then 0x0E else 0
    | none, none => 0x0C

/-- An admitted SS_LOCK write takes, renews or releases (R351). -/
def State.applyLock (s : State) (sid w : Nat) : State :=
  match lockTarget w with
  | none => s
  | some i =>
    if bitsOf w 31 28 = 2 then s.setLock i none
    else
      let taken := match s.lockAt i with
        | some l => l.taken
        | none => s.now
      s.setLock i (some ⟨sid, taken, s.now + ms (w % 65536)⟩)

/-- LOCK_LEASE_EXPIRY: the lock of target i is released, and the holder's open transactions that stage a covered object
abort (R352). -/
def execLockLeaseExpiry (t : Nat) (i : Fin 10) (s : State) : Res :=
  runOn islCrypto (s.at_ t) (fun s => match s.lockAt i with
    | some l =>
      if l.expiry ≤ s.now then
        let exp := s.nat (SS_LOCK_EXPIRY i)
        let (n, s) := s.abortOpen l.owner 0x03 (fun t => t.staged.any (fun w => covers s i w.1))
        let s := s.setLock i none
        let r := s.session l.owner
        let port := match r with | some m => m.port | none => 0
        let slot := match r with | some m => m.slot.getD 0xFF | none => 0xFF
        let prof := match r with | some m => m.profile | none => 0xFF
        s.jSession 0x04 0x1202 l.owner port 0 slot prof (targetName i) exp n
      else s
    | none => s)

/-! ### Hard cuts (R349) -/

/-- Staging bytes of the open transactions of a session (R360). -/
def stageUse (s : State) (sid : Nat) : Nat := ((openOf s sid).map Tx.bytes).sum

/-- The youngest open transaction of a session. -/
def youngest (s : State) (sid : Nat) : Option Tx :=
  (openOf s sid).foldl (fun (m : Option Tx) t => match m with
    | some u => if u.opened ≤ t.opened then some t else some u
    | none => some t) none

/-- The youngest open transactions abort until the session's use lies within its quotas; `fuel` bounds their number. -/
def State.cutTx (s : State) (n : Session) : Nat → State
  | 0 => s
  | fuel + 1 =>
    if s.nat (SS_Q_STAGE n.profile) < stageUse s n.id ∨ s.nat (SS_Q_TX n.profile) < (openOf s n.id).length then
      match youngest s n.id with
      | some t => ((s.abortTx t.id 0x04 0).jSess 0x05 n 0 1).cutTx n fuel
      | none => s
    else s

/-- The most recently taken locks are released until their number lies within the quota. -/
def State.cutLocks (s : State) (n : Session) : Nat → State
  | 0 => s
  | fuel + 1 =>
    if s.nat (SS_Q_LOCKS n.profile) < (locksOf s n.id).length then
      let last := (locksOf s n.id).foldl (fun (m : Option (Fin 10 × Nat)) i =>
        let t := match s.lockAt i with | some l => l.taken | none => 0
        match m with
        | some p => if p.2 ≤ t then some (i, t) else some p
        | none => some (i, t)) none
      match last with
      | some p => ((s.setLock p.1 none).jSession 0x05 0x1202 n.id n.port 0 (n.slot.getD 0xFF) n.profile (targetName p.1) 0 1).cutLocks n fuel
      | none => s
    else s

/-- A profile object has been written: tokens above the burst are removed, and a hard cut acts (R349). -/
def State.profileCut (s : State) (j : Nat) : State :=
  let s := s.settleTokens.syncSessions
  if s.flag (SS_Q_HARD j) then
    s.each (s.sessions.filter (fun n => decide (n.profile = j))) (fun n s => (s.cutTx n 256).cutLocks n 10)
  else s

/-! ### Endings (R353) -/

/-- A session ends: its open transactions abort, its claim, commissioning and routes end, its locks stay (R353). On the
master, each device it was routed to is told by a REQUEST without records (R347; log entry 30). -/
def State.endSession (s : State) (id detail cause : Nat) : State :=
  match s.session id with
  | none => s
  | some n =>
    let s := s.settleTokens
    let gone := (s.routes.filter (fun r => decide (r.1 = id))).map (·.2)
    let (k, s) := s.abortOpen id 0x02 (fun _ => true)
    let s := if s.flag C_CLAIM ∧ s.nat C_OWNER = id then s.claimEnd else s
    let s := if s.nat SF_CFG_OWNER = id then s.abandonCommission else s
    let s := { s with sessions := s.sessions.filter (fun m => decide (m.id ≠ id)),
                      routes := s.routes.filter (fun r => decide (r.1 ≠ id)),
                      queue := s.queue.filter (fun q => decide (q.sid ≠ id)),
                      flights := s.flights.filter (fun f => decide (f.sid ≠ id)),
                      freed := if id < 0x07FD then AL.insert s.freed id s.now else s.freed }
    let s := s.syncSessions
    let s := s.each gone (fun d s => s.sendTo nkRequest d (le 2 id ++ zeros 6))
    if n.opening.isSome then s else s.jSess detail n cause k

/-- SESSION_IDLE_TIMEOUT: no authenticated frame for the idle limit of the profile; the unauthenticated host session is
never idle (R345, R353). -/
def execSessionIdleTimeout (t : Nat) (sid : Nat) (s : State) : Res :=
  runOn islCrypto (s.at_ t) (fun s => match s.session sid with
    | some n =>
      if n.opening.isNone ∧ n.port ≤ 2 ∧ !(n.id = sidHost ∧ n.slot.isNone) ∧ n.lastAt + ms (s.nat (SS_Q_IDLE n.profile)) ≤ s.now then
        s.endSession sid 0x03 1
      else s
    | none => s)

/-- OPENING_TIMEOUT: no CONFIRM within 100 ms, and the identifier is freed (R340). -/
def execOpeningTimeout (t : Nat) (sid : Nat) (s : State) : Res :=
  runOn islCrypto (s.at_ t) (fun s => match s.session sid with
    | some n => match n.opening with
      | some a => if a + ms 100 ≤ s.now then s.endSession sid 0x03 1 else s
      | none => s
    | none => s)

/-- A key slot is disabled: every session of it is lost (R343). -/
def State.dropSlot (s : State) (k : Nat) : State :=
  s.each (s.sessions.filter (fun n => decide (n.slot = some k))) (fun n s => s.endSession n.id 0x03 2)

/-- The unauthenticated host session is there, whatever Σr is (R345; log entry 50). -/
def State.hostSession (s : State) : State :=
  if (s.session sidHost).isSome then s else s.settleTokens.addSession (Session.fresh sidHost 2 none 31 0 (burstOf s 0) s.now)

/-- HP_PROVISIONED follows the slots, and while none is enabled the unauthenticated host session exists (R345). -/
def State.provision (s : State) : State :=
  let on := (List.range 64).any (fun k => s.flag (SS_KEY_EN k))
  let s := s.setFlag HP_PROVISIONED on
  if on then s else s.hostSession

/-- Once a slot is enabled and that write has been answered, the unauthenticated host session ends (R345). -/
def State.settleHost (s : State) : State :=
  match s.session sidHost with
  | some n => if s.flag HP_PROVISIONED ∧ n.slot.isNone ∧ s.power.service then s.endSession sidHost 0x02 6 else s
  | none => s

end Sys2Proof.Machine
end

