-- ==== Sys2Proof/Machine/Response.lean ====
section
/-! DEFINITION. What goes back to a requester: APP frames, host output frames, SDO responses, and the responses of requests in
flight (R336–R341, R347, R356, R357). -/

namespace Sys2Proof.Machine
open Obj

/-! ### APP frames (R336, R337, R341, R356) -/

/-- Header and payload of an APP frame. -/
def appHead (ty sid seq : Nat) (pay : Bytes) : Bytes :=
  le 1 0xA5 ++ le 1 0x01 ++ le 1 ty ++ zeros 1 ++ le 2 sid ++ le 2 pay.length ++ le 4 seq ++ pay

/-- An APP frame under a key. -/
def appFrame (key : Bytes) (ty sid seq : Nat) (pay : Bytes) : Bytes :=
  let b := appHead ty sid seq pay
  b ++ cmac key b

/-- The unauthenticated host session (R345): its tags are 16 zero bytes. -/
def Session.bare (n : Session) : Bool := decide (n.id = 0x07FF) && n.slot.isNone

/-- The next sequence number of a direction (R341). -/
def nextSent (n : Nat) : Nat := if n % 4294967296 = 4294967295 then 1 else n % 4294967296 + 1

/-- A host frame's words: header, payload, check (R356). -/
def hostWords (f : Bytes) : List Nat :=
  let n := ceilDiv f.length 4
  let p := padTo (4 * n) f
  [0xA5000000 + n] ++ (List.range n).map (fun i => ofLe (fieldAt p (4 * i) 4)) ++ [crc32c p]

/-- A frame leaves by a session's port: a field port to the session's address, or the host's pending list, which holds at
most 16 (R335, R356). -/
def State.sendFrame (s : State) (port : Nat) (dst f : Bytes) : State :=
  if port < 2 then s.emit (.app port dst f 64)
  else if port = 2 ∧ s.hostOut.length < 16 then { s with hostOut := s.hostOut ++ [hostWords f] }
  else s

/-- The device sends a frame of a session; the frame. -/
def State.sendApp (s : State) (sid ty : Nat) (pay : Bytes) : Bytes × State :=
  match s.session sid with
  | some n =>
    let q := nextSent n.sent
    let f := if n.bare then appHead ty sid q pay ++ zeros 16 else appFrame n.key ty sid q pay
    (f, (s.modSession sid (fun n => { n with sent := q })).sendFrame n.port n.addr f)
  | none => ([], s)

/-- The device sends frames of a session, one payload after the other; the frames. -/
def State.sendParts (s : State) (sid ty : Nat) : List Bytes → List Bytes × State
  | [] => ([], s)
  | pay :: l =>
    let (f, s) := s.sendApp sid ty pay
    let (fs, s) := s.sendParts sid ty l
    (f :: fs, s)

/-- Response records are put into payloads of at most `room` bytes, in order (R336; log entry 77). -/
def packRecords (room : Nat) (l : List Bytes) : List Bytes :=
  l.foldl (fun (m : List Bytes) b => match m.getLast? with
    | some f => if f.length + b.length ≤ room then m.dropLast ++ [f ++ b] else m ++ [b]
    | none => [b]) []

/-! ### The CiA 301 engine sends (R421) -/

def State.cb (s : State) (b : Fin 2) : Can := s.can.get b

/-- The record of controller b is changed by f. -/
def State.modCan (s : State) (b : Fin 2) (f : Can → Can) : State :=
  { s with can := s.can.set b.val (f (s.cb b)) b.isLt }

/-- A frame of the engine is queued; in Restricted mode it sends nothing (R421). -/
def State.engineSend (s : State) (b : Fin 2) (f : EngFrame) : State :=
  if (s.cb b).mode = 1 then s.modCan b (fun c => { c with engine := c.engine ++ [f] }) else s

/-! ### SDO responses (R357; the protocol is that of CiA 301, log entry 10) -/

/-- The abort code of a result (R357). -/
def sdoCode (c : Nat) : Nat :=
  match c with
  | 0x01 => 0x06020000
  | 0x02 => 0x06090011
  | 0x03 => 0x06010002
  | 0x05 => 0x06010000
  | 0x06 => 0x06090030
  | 0x07 => 0x06070010
  | 0x08 => 0x08000020
  | 0x09 => 0x08000020
  | 0x0A => 0x08000020
  | 0x0B => 0x08000022
  | 0x0E => 0x05040005
  | _ => 0x08000000

/-- The engine sends an SDO response. -/
def State.sdoSend (s : State) (b : Fin 2) (bs : Bytes) : State :=
  s.engineSend b ⟨0x580 + s.nat (CB_NODE_ID b), 0, padTo 8 bs, s.now⟩

/-- Index and subindex as an SDO frame carries them. -/
def sdoMux (key : Nat) : Bytes := le 2 (key / 256 : Nat) ++ le 1 (key % 256 : Nat)

/-- A transfer aborts. -/
def State.sdoAbort (s : State) (b : Fin 2) (key code : Nat) : State :=
  (s.modCan b (fun c => { c with sdo := none })).sdoSend b (le 1 0x80 ++ sdoMux key ++ le 4 code)

/-- The served record of a transfer answers the client. -/
def State.sdoReply (s : State) (b : Fin 2) (op key code : Nat) (val : Bytes) : State :=
  if code ≠ 0 ∧ code ≠ rcClipped then s.sdoAbort b key (sdoCode code)
  else if op = 2 then
    match (s.cb b).sdo with
    | some d => (s.modCan b (fun c => { c with sdo := none })).sdoSend b (le 1 (0x20 + (if d.toggle then 0x10 else 0) : Nat))
    | none => s.sdoSend b (le 1 0x60 ++ sdoMux key)
  else if val.length ≤ 4 ∧ 0 < val.length then s.sdoSend b (le 1 (0x43 + 4 * (4 - val.length) : Nat) ++ sdoMux key ++ val)
  else
    (s.modCan b (fun c => { c with sdo := some ⟨key, false, false, val.length, val, s.now⟩ })).sdoSend b
      (le 1 0x41 ++ sdoMux key ++ le 4 val.length)

/-! ### Requests in flight (R338, R339, R347) -/

/-- A response record: the first eight bytes with the length of the value that follows, the result, the value (R338). -/
def respRecord (r : Rec) (code : Nat) (val : Bytes) : Bytes :=
  let b := le 1 r.op ++ le 1 r.tag ++ le 2 val.length ++ le 4 (r.dev * 16777216 + r.key : Nat) ++ le 1 code ++ zeros 3 ++ val
  padTo (4 * ceilDiv b.length 4) b

/-- Every record of a request has its result: the response leaves by its session's port, and is cached (R341, R347). -/
def State.sendFlight (s : State) (f : Flight) : State :=
  if f.resp.any (·.isNone) || !f.waiting.isEmpty then s
  else
    let s := { s with flights := s.flights.filter (fun (g : Flight) => decide (g.sid ≠ f.sid ∨ g.seq ≠ f.seq)) }
    match s.session f.sid with
    | none => s
    | some n =>
      if n.port = 5 then
        s.each (packRecords 1224 (f.resp.map (·.getD []))) (fun b s =>
          s.sendTo nkResponse (s.nat NZ_MASTER) (le 2 (n.origin.getD 0xFFFF) ++ zeros 2 ++ le 4 f.seq ++ b))
      else if n.port = 3 ∨ n.port = 4 then
        match f.recs with
        | r :: _ =>
          let x := (f.resp.head?.getD none).getD []
          s.sdoReply (if n.port = 3 then 0 else 1) r.op r.key (numAt x 8 1) (fieldAt x 12 (numAt x 2 2))
        | [] => s
      else
        let (frs, s) := s.sendParts f.sid 0x11 ((packRecords 1200 (f.resp.map (·.getD []))).map (le 4 f.seq ++ ·))
        s.modSession f.sid (fun n => { n with cache := ((f.seq, frs) :: n.cache).take 8 })

/-- A request is answered; one that has enabled the first key slot ends the unauthenticated host session after that (R345). -/
def State.finishFlight (s : State) (f : Flight) : State :=
  let s := s.sendFlight f
  if f.recs.any (fun r => decide (0x1230 ≤ r.key / 256) && decide (r.key / 256 < 0x1270)) &&
      !s.flights.any (fun g => decide (g.sid = f.sid ∧ g.seq = f.seq)) then s.settleHost
  else s

/-- The flight of a request. -/
def flightOf (s : State) (sid seq : Nat) : Option Flight := s.flights.find? (fun f => decide (f.sid = sid ∧ f.seq = seq))

/-- A flight changes. -/
def State.modFlight (s : State) (sid seq : Nat) (g : Flight → Flight) : State :=
  { s with flights := s.flights.map (fun f => if f.sid = sid ∧ f.seq = seq then g f else f) }

/-- The result of record i of a request, counted where it is 0x0E; the leading record of the master (operation 0x82, log entry 30) is no
record of the session. -/
def State.fill (s : State) (sid seq i code : Nat) (val : Bytes) : State :=
  match flightOf s sid seq with
  | none => s
  | some f => match f.recs[i]? with
    | some r => (s.modFlight sid seq (fun f => { f with resp := f.resp.set i (some (respRecord r code val)) })).countRefused
        (if r.op = 0x82 then 0xFFFF else sid) code
    | none => s

/-- A request whose results are all there is answered. -/
def State.answer (s : State) (sid seq : Nat) : State :=
  match flightOf s sid seq with
  | some f => s.finishFlight f
  | none => s

/-- What a request still has at other devices is lost with its routes, and its records return 0x11 (log entry 50). -/
def State.loseRouted (s : State) (f : Flight) : State :=
  if f.waiting.isEmpty then s
  else
    (s.modFlight f.sid f.seq (fun g => { g with
      resp := (g.resp.zip g.recs).map (fun x => if x.1.isNone ∧ g.waiting.contains x.2.dev then some (respRecord x.2 rcNoRoute []) else x.1),
      waiting := [] })).answer f.sid f.seq

/-- The master has changed: every route is removed and every proxy is lost; transactions of the cascade in state 1 abort
(R347, R379). -/
def State.dropRoutes (s : State) : State :=
  let s := ({ s with routes := [] }).syncSessions
  let s := s.each s.flights (fun f s => s.loseRouted f)
  let s := s.each (s.txs.filter (fun t => decide (t.st = 1) && (t.coord.isSome || !t.parts.isEmpty))) (fun t s => s.abortTx t.id 0x0B 0)
  s.each (s.sessions.filter (fun n => decide (n.port = 5))) (fun n s => s.endSession n.id 0x03 3)

end Sys2Proof.Machine
end

