-- ==== Sys2Proof/Machine/NazLink.lean ====
section
/-! DEFINITION. NazLink: links, election and enumeration, the cycle and its frames, time (R388–R412). -/

namespace Sys2Proof.Machine
open Obj

/-! ### Journal (R414) -/

/-- A NazLink entry. -/
def State.jNaz (s : State) (cls isl detail src dev port reason req : Nat) (off : Int) : State :=
  s.journal cls isl detail src
    (le 2 dev ++ le 1 port ++ le 1 (s.get NZ_RING) ++ le 2 (s.get NZ_GEN) ++ le 2 (s.get NZ_COUNT) ++ le 2 (s.get NZ_MASTER) ++
     le 1 reason ++ zeros 1 ++ le 2 req ++ le 4 off)

/-- A link event of a port. -/
def State.jLink (s : State) (p : Fin 2) (cls detail : Nat) : State :=
  s.jNaz cls (islNaz p) detail (0x1402 + p.val) 0xFFFF p.val 0 0xFFFF 0

/-- A device event. -/
def State.jRing (s : State) (cls detail dev reason req : Nat) : State :=
  s.jNaz cls (islNaz 1) detail 0x1400 dev 0xFF reason req 0

/-! ### Times in ns (R394, R409) -/

def tMin (n : Nat) : Nat := max 10000 (n * 700 + 6000)
def leadC (n : Nat) : Nat := (n - 1) * 64 + 1200
def lateW (n : Nat) : Nat := 3 * (n - 1) * 64 + 1600

/-- The time of a barrier on the present ring. -/
def barrierTime (s : State) : Nat := (if s.nat NZ_RING = 2 then 2 * lineHops s else nazN s) * 64 + 400

/-- The cycle in force, ns. -/
def cycNs (s : State) : Nat := 1000 * s.naz.cyc

/-- This device drives the cycle: the master, or a Standalone device as master of itself (R402). -/
def isMaster (s : State) : Bool := decide (s.nat NZ_ROLE = 1) || (decide (s.nat NZ_ROLE = 0) && s.naz.addressed)

/-! ### Maps of addresses -/

def mapOf (l : List Nat) : Nat := l.foldl (fun m d => m ||| 2 ^ d) 0
def mapBytes (m : Nat) : Bytes := le 32 m

/-- NZ_MAP_VER moves with NZ_PRESENT, NZ_LOST and NZ_ORDER (R327). -/
def State.setMaps (s : State) (present lost : Nat) (order : List Nat) : State :=
  (((s.setBlob NZ_PRESENT (mapBytes present)).setBlob NZ_LOST (mapBytes lost)).setBlob NZ_ORDER
    (order.map (fun d => BitVec.ofNat 8 d))).addCount NZ_MAP_VER 2

def presentMap (s : State) : Nat := ofLe (s.blob NZ_PRESENT)
def lostMap (s : State) : Nat := ofLe (s.blob NZ_LOST)
def orderOf (s : State) : List Nat := (s.blob NZ_ORDER).map (·.toNat)

/-! ### Keys and membership (R36, R402) -/

/-- The key of a priority and a serial number, as one number of 80 bits. -/
def keyOf (prio serial : Nat) : Nat := prio * 2 ^ 64 + serial

def ownKey (s : State) : Nat := keyOf (s.nat NZ_PRIORITY) serialNo

/-- The axis blocks of a DEVICE payload (R398). -/
def deviceBlocks (pay : Bytes) : List Bytes :=
  (List.range (numAt pay 9 1)).map (fun i => fieldAt pay (12 + 24 * i) 24)

/-- The cascade axes that this device knows in use: by its own axes, the hosts' blocks and pole pairs, and DEVICE frames (R32). -/
def usedCascade (s : State) : List Nat :=
  (allAxes.map (fun a => s.nat (A_CASCADE_AXIS a))) ++ s.naz.blocks.map (fun b => numAt b 0 1) ++ s.naz.hostPoles.map (·.1) ++
    (s.naz.devFrames.map (fun e => (deviceBlocks e.2.2).map (fun b => numAt b 0 1))).flatten

/-- R34 holds of this device: a local axis c of a cascade axis c that it knows in use is free (`freeAxis`) or set to c. -/
def hostable (s : State) : Bool :=
  let used := usedCascade s
  allAxes.all (fun c => !(c.val ∈ used) || decide (s.nat (A_CASCADE_AXIS c) = c.val) || freeAxis s c)

/-- Every section is in state 0 or 4. -/
def allIdle (s : State) : Bool := allSecs.all (fun x => decide (s.nat (S_STATE x) = 0 ∨ s.nat (S_STATE x) = 4))

/-- The master-position channels that this device publishes, as bits (R233). -/
def ownChans (s : State) : Nat :=
  [0, 1].foldl (fun m e => if s.nat (A_ENC_PUB_CH e) = 0xFF then m else m ||| 2 ^ s.nat (A_ENC_PUB_CH e)) 0

/-- The master-position channels that other devices publish (R233): those that members joined with or that samples were heard of,
but not those that have carried no sample for three cycles. -/
def takenChans (s : State) : Nat :=
  let T := s.naz.starts.headD 0
  [0, 1, 2, 3].foldl (fun m ch =>
    let on := match s.naz.heard.find? (fun e => decide (e.1 = ch)) with
      | some e => decide (T ≤ e.2 + 3 * cycNs s)
      | none => s.naz.members.any (fun m => decide (m.addr ≠ s.nat DV_ADDRESS) && bitOf m.chans ch)
    if on then m ||| 2 ^ ch else m) 0

/-- A device as it announces itself (R392, R403). -/
def announce (s : State) : Bytes :=
  le 8 serialNo ++ le 2 (s.get NZ_PRIORITY) ++
    le 1 ((if s.naz.cap then 1 else 0) + (if allIdle s then 2 else 0)) ++
    le 1 (ownChans s) ++ le 2 (s.get DV_ADDRESS) ++ le 2 (s.get NZ_ADDR_REQ)

/-! ### Links (R389, R410) -/

/-- The LINK frame of a port: the serial of this device's master, or 0 without one. -/
def State.sendLink (s : State) (p : Fin 2) (event : Nat) : State :=
  s.cast nkLink (le 8 (if s.naz.addressed then s.naz.masterSerial else 0) ++ le 2 (s.get NZ_GEN) ++ le 1 p.val ++ le 1 event ++
    le 2 (nazSelf s))

/-- COMMA_ALIGNMENT_GAINED: the link starts training (R389). -/
def execCommaAlignmentGained (t : Nat) (p : Fin 2) (s : State) : Res :=
  runOn (islNaz p) (s.at_ t) (fun s => if s.nat (NZ_LINK p.val) = 0 then
      (s.set (NZ_LINK p.val) 1).modPort p (fun r => { r with aligned := some s.now, other := none, delays := [] })
    else s)

/-- The lowest key that this device has forwarded or holds itself goes out (R402). -/
def State.flood (s : State) : State :=
  match s.naz.lowest with
  | some k => s.cast nkElect (le 2 (k / 2 ^ 64 : Nat) ++ le 8 (k % 2 ^ 64 : Nat))
  | none => s

/-- An election begins (R402). -/
def State.beginElection (s : State) : State :=
  let own := if s.flag NZ_MASTER_CAP then some (ownKey s) else none
  let s := s.modNaz (fun n => { n with electFrom := some s.now, lowest := own, lowerAt := s.now, addressed := false,
                                       cap := s.flag NZ_MASTER_CAP })
  (s.set NZ_STATE (if linkUp s 0 || linkUp s 1 then 1 else 0)).flood

/-- A token leaves (R406): downstream on a closed ring, by both ports on an open one; an enumeration covers the
downstream side first and takes the place of an abandoned one (R403, R405). -/
def State.startToken (s : State) (kind flags deadline : Nat) (data : Bytes) : State :=
  let q := (s.naz.barrierSeq + 1) % 4294967296
  let pay := le 1 kind ++ le 1 flags ++ le 2 0 ++ le 4 q ++ le 8 deadline ++ data
  let ports : List (Fin 2) :=
    if kind = 5 ∨ s.nat NZ_RING = 1 then (if linkUp s 1 then [1] else if linkUp s 0 then [0] else [])
    else [1, 0].filter (linkUp s)
  let s := s.modNaz (fun n => { n with
    barrierSeq := q,
    tokens := n.tokens.filter (fun (k : Token) => decide (kind ≠ 5 ∨ k.kind ≠ 5)) ++ [⟨kind, q, pay, ports.length, none, s.now⟩] })
  s.each ports (fun p s => s.sendPort p nkBarrier 0xFFFF pay)

/-- A pass starts: its token carries the maps of taken and reserved addresses (R403, R404). -/
def State.startPass (s : State) (join : Bool) (reserved : Nat) : State :=
  let taken := if join then presentMap s ||| 2 ^ s.nat DV_ADDRESS else 1
  let res := if join then reserved ||| lostMap s else reserved
  let s := s.modNaz (fun n => { n with pass := some ⟨join, [], res, none, false⟩, joinAt := s.now })
  (s.modNaz (fun n => { n with line := false })).startToken 5 0 0 (le 1 (if join then 1 else 0 : Nat) ++ zeros 3 ++ mapBytes taken ++ mapBytes res)

/-- A link change during a pass: the attempt is abandoned and restarts with its addresses reserved (R405). -/
def State.restartPass (s : State) : State :=
  match s.naz.pass with
  | some p => (s.jRing 1 0x61 0xFFFF 0 0xFFFF).startPass p.join (p.reserved ||| mapOf (p.ann.map (·.addr)))
  | none => s

/-- A master-capable device that joins with R34 broken joins without that capability, and journals it (R36). -/
def State.judgeCap (s : State) : State :=
  if s.naz.cap && !hostable s then
    (s.modNaz (fun n => { n with cap := false })).jRing 1 0x64 (s.nat DV_ADDRESS) 0 0xFFFF
  else s

/-- An axis that the state before did not refuse is refused into its cascade axis for its pole pairs: journalled, and its
sections leave for state 0 (R36; log entry 57). -/
def State.judgePoles (s before : State) : State :=
  s.each (allAxes.filter (fun a => polesRefused s a && !polesRefused before a)) (fun a s =>
    (s.jRing 1 0x64 (s.nat DV_ADDRESS) 0 0xFFFF).each (secsOf s a) (fun x s => s.enableZero x))

/-- Object k decides which cascade axis an axis is offered to, or with how many pole pairs (R34, R36). -/
def poleKey (k : Nat) : Bool := allAxes.any (fun a => decide (k = A_CASCADE_AXIS a) || decide (k = A_POLE_PAIRS a))

/-- The objects ks were written: a write of a pole key is judged against the state before (R36). -/
def State.judgeWritten (s before : State) (ks : List Nat) : State := if ks.any poleKey then s.judgePoles before else s

/-- The election is over; this device is a master of its own or of the ring (R402). -/
def State.holdAddress0 (s : State) : State :=
  let s := s.modNaz (fun n => { n with electFrom := none, addressed := true, masterSerial := serialNo, seen := [], mergedSeq := [],
                                       cyc := s.nat NZ_CYCLE, change := none, rx := none })
  ((((s.set DV_ADDRESS 0).set NZ_COUNT 1).set NZ_MASTER 0).set NZ_STANDBY 0xFFFF).dropRoutes

/-- ELECTION_WINDOW_CLOSE: 100 µs after the last lower key and no earlier than 10 ms after reset (R402). -/
def execElectionWindowClose (t : Nat) (s : State) : Res :=
  runPowered (islNaz 1) (s.at_ t) (fun s => match s.naz.electFrom with
    | none => s
    | some _ =>
      if s.now < s.power.outAt + ms 10 ∨ s.now < s.naz.lowerAt + us 100 then s
      else if !linkUp s 0 && !linkUp s 1 then
        let s := ((s.holdAddress0.set NZ_ROLE 0).set NZ_STATE 0).set NZ_RING 0
        s.setMaps 1 0 [0]
      else match s.naz.lowest with
        | none => ((s.modNaz (fun n => { n with electFrom := none })).set NZ_STATE 1).jRing 1 0x6A 0xFFFF 0 0xFFFF
        | some k =>
          if k = ownKey s ∧ s.flag NZ_MASTER_CAP then
            let s := ((s.holdAddress0.set NZ_ROLE 1).set NZ_STATE 2).inc NZ_GEN
            ((s.set NZ_GEN (s.get NZ_GEN % 65536)).modNaz (fun n => { n with members := [], downs := [], line := false, lostSerials := [] })).startPass false 0
          else ((s.modNaz (fun n => { n with electFrom := none })).set NZ_ROLE 2).dropRoutes)

/-- An election without a master-capable device repeats on every link change (R402). -/
def State.electAgain (s : State) : State :=
  if s.naz.electFrom.isNone ∧ !s.naz.addressed ∧ s.naz.lowest.isNone then s.beginElection else s

/-- A port reported up again is no longer down; one that was never reported down is the break at which the ring was enumerated as a
line (R388, R410). -/
def State.linkBack (s : State) (d port : Nat) : State :=
  s.modNaz (fun n => { n with downs := n.downs.filter (fun e => decide (e ≠ (d, port))), line := n.line && n.downs.contains (d, port) })

/-- With no break left, the ring counts as closed from the next cycle start (R410). -/
def State.closeRing (s : State) : State :=
  if s.naz.addressed ∧ s.naz.downs.isEmpty ∧ s.naz.line = false ∧ s.nat NZ_RING = 2 then s.modNaz (fun n => { n with closing := true }) else s

/-- LINK_UP: 1 ms of training without a code violation (R389). -/
def execLinkUp (t : Nat) (p : Fin 2) (s : State) : Res :=
  runOn (islNaz p) (s.at_ t) (fun s => match (s.naz.ports.get p).aligned with
    | some a =>
      if s.nat (NZ_LINK p.val) = 1 ∧ a + ms 1 ≤ s.now then
        let s := ((s.set (NZ_LINK p.val) 2).jLink p 1 0x62).sendLink p 1
        let s := (s.linkBack (nazSelf s) p.val).closeRing
        let s := if s.nat NZ_ROLE = 1 ∧ s.naz.addressed ∧ s.nat NZ_STATE = 0 then
            s.set NZ_STATE (if s.naz.pass.isSome || s.naz.startT.isSome then 2 else 3) else s
        let s := if s.naz.electFrom.isSome then (s.set NZ_STATE 1).flood else s.electAgain
        if s.naz.pass.isSome then s.restartPass else s
      else s
    | none => s)

/-- The ring is open from here on (R410). -/
def State.openRing (s : State) : State :=
  if s.naz.addressed ∧ s.nat NZ_RING = 1 then
    let s := (s.set NZ_RING 2).modNaz (fun n => { n with closing := false })
    if s.nat NZ_ROLE = 1 then s.jRing 6 0x05 0xFFFF 0 0xFFFF else s
  else s

/-- The link of a port goes down; n code violations were counted on it (R389, R410). -/
def State.linkDown (s : State) (p : Fin 2) (n : Nat) : State :=
  if s.nat (NZ_LINK p.val) = 0 then s
  else
    let s := s.addCount (NZ_CODE_ERR p.val) n
    let s := (s.set (NZ_LINK p.val) 0).inc (NZ_LINK_DOWNS p.val)
    let s := s.modPort p (fun _ => NazPort.reset)
    let s := s.modNaz (fun m => { m with downs := m.downs.filter (fun e => decide (e ≠ (nazSelf s, p.val))) ++ [(nazSelf s, p.val)] })
    let s := (s.openRing).sendLink p 0
    let s := if !linkUp s 0 && !linkUp s 1 then s.set NZ_STATE 0 else s
    let s := if s.naz.electFrom.isSome then s else s.electAgain
    if s.naz.pass.isSome then s.restartPass else s

/-- LINK_DOWN. -/
def execLinkDown (t : Nat) (p : Fin 2) (n : Nat) (s : State) : Res :=
  runOn (islNaz p) (s.at_ t) (fun s => s.linkDown p n)

/-- A LINK frame: what the neighbour says of its master, and a link change anywhere on the ring (R389, R403, R405, R410). -/
def State.linkFrame (s : State) (p : Fin 2) (f : NazF) : State :=
  let serial := numAt f.payload 0 8
  let gen := numAt f.payload 8 2
  let port := numAt f.payload 10 1
  let up := decide (numAt f.payload 11 1 = 1)
  let addr := numAt f.payload 12 2
  let s := if f.hop = 0 then s.modPort p (fun r => { r with other := some (serial, gen, addr) }) else s
  if f.hop = 0 ∧ s.naz.addressed ∧ addr ≠ 0xFFFE ∧ serial ≠ s.naz.masterSerial then
    if s.nat (NZ_LINK p.val) = 3 then s else (s.set (NZ_LINK p.val) 3).jLink p 1 0x69
  else if s.nat (NZ_LINK p.val) = 3 then s
  else if !s.naz.addressed then (if s.naz.electFrom.isSome then s else s.electAgain)
  else
    let inside := decide (addr ≠ 0xFFFE) && decide (gen = s.nat NZ_GEN)
    let s := if !inside then s
      else if up then (s.linkBack addr port).closeRing
      else (s.modNaz (fun n => { n with downs := n.downs.filter (fun e => decide (e ≠ (addr, port))) ++ [(addr, port)] })).openRing
    if s.nat NZ_ROLE ≠ 1 then s
    else if s.naz.pass.isSome then s.restartPass
    else if up && !inside then (s.modNaz (fun n => { n with outside := true })).startPass true 0
    else s

/-- LINK_FRAME. -/
def execLinkFrame (t : Nat) (p : Fin 2) (bs : Bytes) (s : State) : Res :=
  runOn (islNaz p) (s.at_ t) (fun s => s.receive p nkLink false bs (fun f s => s.linkFrame p f))

/-! ### Election and enumeration (R402–R405) -/

/-- ELECT_FRAME: a key lower than every key forwarded so far is noted and forwarded; a running cascade keeps its master. -/
def execElectFrame (t : Nat) (p : Fin 2) (bs : Bytes) (s : State) : Res :=
  runOn (islNaz p) (s.at_ t) (fun s => s.receive p nkElect true bs (fun f s =>
    let k := keyOf (numAt f.payload 0 2) (numAt f.payload 2 8)
    let lower := match s.naz.lowest with
      | some l => decide (k < l)
      | none => true
    if s.naz.addressed || !lower then s
    else
      let s := s.modNaz (fun n => { n with lowest := some k, lowerAt := s.now,
                                           electFrom := some (n.electFrom.getD s.now) })
      (s.set NZ_STATE 1).out1 (otherPort p) (passed s p f)))

/-- The token goes on, or turns at a line end (R406). -/
def State.passToken (s : State) (p : Fin 2) (f : NazF) : State :=
  let f := { f with hop := (f.hop + 1) % 256 }
  if linkUp s (otherPort p) then s.out1 (otherPort p) f else s.out1 p { f with flags := f.flags ||| 2 }

/-- A device has already merged this token (R406). -/
def mergedAlready (s : State) (f : NazF) : Bool :=
  s.naz.mergedSeq.contains (f.src * 256 + numAt f.payload 0 1, numAt f.payload 4 4)

def State.markMerged (s : State) (f : NazF) : State :=
  s.modNaz (fun n => { n with mergedSeq := ((f.src * 256 + numAt f.payload 0 1, numAt f.payload 4 4) :: n.mergedSeq).take 64 })

/-- The token that this device started and that a frame brings back. -/
def ownToken (s : State) (f : NazF) : Option Token :=
  if f.src = nazSelf s then
    s.naz.tokens.find? (fun k => decide (k.kind = numAt f.payload 0 1 ∧ k.seq = numAt f.payload 4 4))
  else none

/-- The address that a device takes (R404), and whether its requested address was refused; `held` gives the serial numbers for which
the master holds lost addresses. -/
def addressFor (s : State) (join : Bool) (taken reserved : Nat) (held : List (Nat × Nat)) : Option Nat × Bool :=
  let free (d : Nat) : Bool := decide (0 < d ∧ d < 256) && !bitOf taken d && !bitOf reserved d
  let req := s.nat NZ_ADDR_REQ
  let last := s.nat NZ_ADDR_LAST
  let refused := decide (req ≠ 0xFFFF) && !free req
  match s.naz.took.filter (bitOf reserved) with
  | some a => (some a, false)
  | none =>
    if free req then (some req, false)
    else if let some h := held.find? (fun h => decide (join ∧ h.2 = serialNo ∧ 0 < h.1 ∧ h.1 < 256) && bitOf reserved h.1 && !bitOf taken h.1)
      then (some h.1, refused)
    else if !join ∧ free last then (some last, refused)
    else ((List.range 256).find? free, refused)

/-- The serial number of the master under which an address is taken: of the lowest key of the election, or as the
neighbour's LINK frame names it (R389, R402). -/
def masterSerialFor (s : State) (join : Bool) (p : Fin 2) : Nat :=
  match join, s.naz.lowest, (s.naz.ports.get p).other with
  | false, some k, _ => k % 2 ^ 64
  | _, _, some o => o.1
  | _, some k, none => k % 2 ^ 64
  | _, none, none => 0

/-- A device that the enumeration token reaches takes an address and announces itself (R403, R404). -/
def State.enumerate (s : State) (p : Fin 2) (f : NazF) (held : List (Nat × Nat)) : State :=
  let join := decide (numAt f.payload 16 1 = 1)
  let taken := numAt f.payload 20 32
  let reserved := numAt f.payload 52 32
  let outsider := !join || !s.naz.addressed || decide (s.nat NZ_GEN ≠ f.gen) || s.naz.took.isSome
  let s := (s.markMerged f).modNaz (fun n => { n with line := bitOf f.flags 1 })
  if !outsider then
    s.passToken p { f with payload := f.payload.take 2 ++ le 2 (numAt f.payload 2 2 + 1 : Nat) ++ f.payload.drop 4 }
  else
    let pick := addressFor s join taken reserved held
    let s := if pick.2 then s.jRing 1 0x65 0xFFFF 0 (s.nat NZ_ADDR_REQ) else s
    match pick.1 with
    | none => s.passToken p f
    | some a =>
      let ser := masterSerialFor s join p
      let s := (((s.set DV_ADDRESS a).set NZ_GEN f.gen).set NZ_ROLE 2).set NZ_STATE 2
      let s := (s.set NZ_MASTER f.src).modNaz (fun n => { n with
        addressed := true, took := some a, electFrom := none, masterSerial := ser, seen := [],
        downs := if join then n.downs else [], stepDue := if join then 2 else 1 })
      let s := s.judgeCap.sendPort p nkAnnounce f.src (announce s)
      let pay := f.payload.take 2 ++ le 2 (numAt f.payload 2 2 + 1 : Nat) ++ fieldAt f.payload 4 16 ++
        mapBytes (taken ||| 2 ^ a) ++ f.payload.drop 52
      s.passToken p { f with payload := pay }

/-- A newcomer's refusal reason, 0 for none (R405): the new N, the channels already published, the newcomer's offset. -/
def joinReason (s : State) (n chans : Nat) (m : Member) : Nat :=
  if 1000 * s.nat NZ_CYCLE < tMin (n + 1) then 1
  else if m.chans &&& chans ≠ 0 then 2
  else if 1000000 < m.off.natAbs ∧ !m.idle then 3
  else 0

/-- The newcomers judged in hop order: those who join, and those refused with their reasons. -/
def judgeAll (s : State) (n chans : Nat) : List Member → List Member × List (Member × Nat)
  | [] => ([], [])
  | m :: r =>
    let c := joinReason s n chans m
    if c = 0 then
      let q := judgeAll s (n + 1) (chans ||| m.chans) r
      (m :: q.1, q.2)
    else
      let q := judgeAll s n chans r
      (q.1, (m, c) :: q.2)

/-- A newcomer stands at its hop distance downstream or upstream of the master (R403, R413). -/
def insertHop (order : List Nat) (m : Member) : List Nat :=
  if m.port = 1 then order.take (m.hops + 1) ++ [m.addr] ++ order.drop (m.hops + 1)
  else order.take (order.length - m.hops) ++ [m.addr] ++ order.drop (order.length - m.hops)

/-- The first of the members with the lowest key. -/
def lowestKey (l : List Member) : Option Member :=
  l.foldl (fun (b : Option Member) m => match b with
    | some x => if keyOf m.prio m.serial < keyOf x.prio x.serial then some m else b
    | none => some m) none

/-- The cycle start that follows by at least two cycles (R403). -/
def startAfter (s : State) : Nat := ceilDiv (s.tbNs + 2 * cycNs s) (cycNs s) * cycNs s

/-- A COMMAND goes out, and twice more one cycle apart (R392). -/
def State.command (s : State) (code instant : Nat) (data : Bytes) : State :=
  let pay := le 1 code ++ zeros 3 ++ le 8 instant ++ data
  let (q, s) := s.nextSeq nkCommand
  (s.castSeq nkCommand q pay).modNaz (fun n => { n with repeats := n.repeats ++ [(q, pay, 2)] })

/-- The pass is complete on a device (R403): N, master, standby, cycle, ring order and lost map are in force. -/
def State.passComplete (s : State) (pay : Bytes) : State :=
  let n := numAt pay 12 2
  let order := (fieldAt pay 22 n).map (fun (b : Byte) => b.toNat)
  let s := ((s.set NZ_COUNT n).set NZ_MASTER (numAt pay 16 2)).set NZ_STANDBY (numAt pay 18 2)
  let s := s.setMaps (mapOf order) (numAt pay (22 + n) 32) order
  let me := s.nat DV_ADDRESS
  let s := s.modNaz (fun z => { z with took := none, startT := some (numAt pay 4 8), addressed := decide (me ∈ order),
                                       downs := z.downs.filter (fun e => decide (e.1 ∈ order)) })
  let s := s.modNaz (fun z => { z with line := (z.line || !linkUp s 0 || !linkUp s 1) && z.downs.isEmpty })
  let s := if me ∈ order then s.set NZ_ADDR_LAST me else s
  let s := if s.nat NZ_ROLE = 2 then s.modNaz (fun z => { z with cyc := numAt pay 20 2 }) else s
  s.set NZ_RING (if n ≤ 1 then 0 else if s.naz.downs.isEmpty && !s.naz.line then 1 else 2 : Nat)

/-- Where a full pass has found the ring to be a line: behind the last device downstream of the master (R388, R403). -/
def lineEnds (order : List Nat) (members : List Member) : List (Nat × Nat) :=
  let k := (members.filter (fun m => decide (m.port = 1))).length
  [(order.getD k 0, 1), (order.getD ((k + 1) % order.length) 0, 0)]

/-- Every address taken has announced itself: the newcomers are judged and the new enumeration is broadcast (R403,
R405). -/
def State.finishPass (s : State) : State :=
  match s.naz.pass with
  | none => s
  | some p =>
    match p.taken with
    | none => s
    | some taken =>
      let before := if p.join then presentMap s else 1
      let new := (List.range 256).filter (fun d => bitOf taken d && !bitOf before d && decide (d ≠ s.nat DV_ADDRESS))
      if new.all (fun d => p.ann.any (fun m => decide (m.addr = d))) then
        let ann := p.ann.filter (fun m => decide (m.addr ∈ new))
        let old := if p.join then s.naz.members else []
        let s := if p.join then s else s.each allAxes (fun a s => s.modAx a (fun x => { x with devs := [] }))
        let chans := ownChans s ||| (if p.join then takenChans s else 0)
        let (ok, bad) := judgeAll s (old.length + 1) chans ann
        let s := s.each bad (fun b s => s.jRing 1 0x64 b.1.addr b.2 (if b.1.req = 0xFFFF then 0xFFFF else b.1.req))
        let s := s.each (ok.filter (fun m => !m.barred.isEmpty)) (fun m s => s.jRing 1 0x64 m.addr 0 0xFFFF)
        let members := old ++ ok
        let sorted := ok.foldl (fun l m => l.takeWhile (fun x => decide (x.hops ≤ m.hops)) ++ [m] ++
          l.dropWhile (fun x => decide (x.hops ≤ m.hops))) ([] : List Member)
        let base := if p.join then orderOf s else [s.nat DV_ADDRESS]
        let order := sorted.foldl insertHop base
        let standby := match lowestKey (members.filter (·.cap)) with | some m => m.addr | none => 0xFFFF
        let back := ok.filter (fun m => decide ((AL.find s.naz.lostSerials m.addr).getD m.serial = m.serial))
        let lost := if p.join then lostMap s - (lostMap s &&& mapOf (back.map (·.addr))) else 0
        let s := s.modNaz (fun n => { n with pass := none, members := members, outside := !bad.isEmpty,
                                             downs := if !n.line then [] else if p.join then n.downs else lineEnds order members,
                                             lostSerials := n.lostSerials.filter (fun e => bitOf lost e.1),
                                             tokens := n.tokens.filter (fun (k : Token) => decide (k.kind ≠ 5)) })
        let data := le 2 order.length ++ le 2 (s.get NZ_GEN) ++ le 2 (s.get DV_ADDRESS) ++ le 2 standby ++ le 2 s.naz.cyc ++
          order.map (fun d => BitVec.ofNat 8 d) ++ mapBytes lost
        let start := startAfter s
        let s := s.command 2 start data
        ((s.passComplete (le 1 2 ++ zeros 3 ++ le 8 start ++ data)).modNaz (fun n =>
          { n with stepDue := 0, missing := [], minority := 0 })).jRing 1 0x60 0xFFFF 0 0xFFFF
      else s

/-- The enumeration token is back: on an open ring it goes out on the upstream side too (R403). -/
def State.enumBack (s : State) (f : NazF) : State :=
  match s.naz.pass with
  | none => s
  | some p =>
    let s := if bitOf f.flags 1 then s.modNaz (fun n => { n with line := true }) else s
    if f.flags / 2 % 2 = 1 ∧ !p.upstream ∧ linkUp s 0 ∧ linkUp s 1 then
      let s := s.modNaz (fun n => { n with pass := some { p with upstream := true } })
      s.sendPort 0 nkBarrier 0xFFFF f.payload
    else (s.modNaz (fun n => { n with pass := some { p with taken := some (numAt f.payload 20 32) } })).finishPass

/-- ENUMERATION_BARRIER: a token that a line end has reflected shows that the ring is a line (R388, R406). -/
def execEnumerationBarrier (t : Nat) (p : Fin 2) (e : EnumIn) (s : State) : Res :=
  runOn (islNaz p) (s.at_ t) (fun s => s.receive p nkBarrier true e.bytes (fun f s =>
    if numAt f.payload 0 1 ≠ 5 then s
    else if (ownToken s f).isSome then s.enumBack f
    else if s.nat NZ_ROLE = 1 then s
    else if mergedAlready s f then (s.modNaz (fun n => { n with line := n.line || bitOf f.flags 1 })).passToken p f
    else s.enumerate p f e.held))

/-- ANNOUNCE_FRAME: a device has taken an address (R36, R403, R405; log entries 20 and 57). -/
def execAnnounceFrame (t : Nat) (p : Fin 2) (bs : Bytes) (nc : Newcomer) (s : State) : Res :=
  runOn (islNaz p) (s.at_ t) (fun s => s.receive p nkAnnounce false bs (fun f s =>
    match s.naz.pass with
    | some ps =>
      let b := f.payload
      let m : Member := ⟨numAt b 12 2, numAt b 0 8, numAt b 8 2, bitOf (numAt b 10 1) 0, bitOf (numAt b 10 1) 1, numAt b 11 1,
        numAt b 14 2, p.val, f.hop, nc.offset, nc.barred⟩
      (s.modNaz (fun n => { n with pass := some { ps with ann := ps.ann.filter (fun (x : Member) => decide (x.addr ≠ m.addr)) ++ [m] } })).finishPass
    | none => s))

/-- JOIN_PASS_TIMER: every 1 s while a device stays outside (R403). -/
def execJoinPassTimer (t : Nat) (s : State) : Res :=
  runPowered (islNaz 1) (s.at_ t) (fun s => if s.nat NZ_ROLE = 1 ∧ s.naz.outside ∧ s.naz.pass.isNone ∧ s.naz.joinAt + ms 1000 ≤ s.now then s.startPass true 0 else s)

/-- A COMMAND of a code arrives (R392). -/
def State.receiveCommand (s : State) (p : Fin 2) (code : Nat) (bs : Bytes) (k : Bytes → State → State) : State :=
  s.receive p nkCommand false bs (fun f s => if numAt f.payload 0 1 = code then k f.payload s else s)

/-- PASS_COMPLETE_COMMAND: the device has joined; the hosts' pole pairs decide its membership (R36; log entry 57). -/
def execPassCompleteCommand (t : Nat) (p : Fin 2) (c : PassIn) (s : State) : Res :=
  runOn (islNaz p) (s.at_ t) (fun s => s.receiveCommand p 2 c.bytes (fun pay s =>
    let u := (s.passComplete pay).modNaz (fun n => { n with hostPoles := c.poles })
    let u := u.judgePoles s
    if u.naz.addressed then u.judgeCap else u))

/-- CYCLE_CHANGE_COMMAND: the new cycle is in force from Tc (R394). -/
def execCycleChangeCommand (t : Nat) (p : Fin 2) (bs : Bytes) (s : State) : Res :=
  runOn (islNaz p) (s.at_ t) (fun s => s.receiveCommand p 4 bs (fun pay s => s.modNaz (fun n => { n with change := some (numAt pay 4 8, numAt pay 12 2) })))

/-- A cycle is to govern: on the master the change is set for Tc, the first whole multiple of both cycles at least two old
cycles away, in place of a change still to come, and announced (R394; log entry 97). -/
def State.cycleTo (s : State) (v : Nat) : State :=
  if !isMaster s ∨ (v = s.naz.cyc ∧ s.naz.change = none) then s
  else
    let both := 1000 * Nat.lcm s.naz.cyc v
    let tc := ceilDiv (s.tbNs + 2 * cycNs s) both * both
    (s.modNaz (fun n => { n with change := some (tc, v) })).command 4 tc (le 2 v)

/-- NZ_CYCLE is accepted (R394): it governs on the master, and on another device once that is master. -/
def State.cycleWrite (s : State) (v : Nat) : State := (s.set NZ_CYCLE v).cycleTo v

/-! ### The CYCLE frame (R395–R397) -/

/-- Device d is faulted as a DEVICE frame flags it. -/
def frameFault (pay : Bytes) : Bool := bitOf (numAt pay 8 1) 0

/-- The frames of a cycle that the master uses: present devices without a fault (R159, R396). -/
def usedFrames (s : State) (T : Nat) : List (Nat × Nat × Bytes) :=
  s.naz.devFrames.filter (fun e => decide (e.2.1 = T) && !frameFault e.2.2 && bitOf (presentMap s) e.1)

/-- ΣW of a cascade axis over frames (R397). -/
def sumW (l : List (Nat × Nat × Bytes)) (c : Nat) : Nat :=
  (l.map (fun e => ((deviceBlocks e.2.2).filter (fun b => decide (numAt b 0 1 = c))).map (fun b => numAt b 16 4))).flatten.sum

/-- The block of a cascade axis on its host (R397). -/
def axisBlock (s : State) (a : Fin 4) (l : List (Nat × Nat × Bytes)) : Bytes :=
  let st : Nat := match (s.ax a).start.decided with | some d => d.1 | none => s.nat (A_START_STAGE a)
  le 1 a.val ++ le 1 ((if (s.ax a).safe.stopFn then 1 else 0) + (if s.nat (A_FAULT_STATE a) ≠ 0 ∨ (s.ax a).reactDue.isSome then 2 else 0)) ++
  le 1 st ++ le 1 ((s.ax a).reactDue.getD 0xFF) ++ le 4 (s.get (A_TORQUE_CMD a)) ++ le 4 (sumW l a.val) ++
  le 2 (rnd (headroomNow s a * 1000)) ++ le 2 (s.get (A_CASCADE_SECTIONS a)) ++ le 8 (s.get (A_POS_REF a)) ++
  le 4 (s.get (A_PROF_SPEED a)) ++ le 4 (s.get (A_PROF_ACCEL a)) ++ le 1 (s.get (A_PROF_STATE a)) ++
  le 1 (s.get (A_SNATCH_STATE a)) ++ le 1 (s.get (A_RENDER_STATE a)) ++ zeros 5

/-- The cascade axes that this device hosts. -/
def hosted (s : State) : List (Fin 4) := allAxes.filter (fun a => canHost s a && onCascade s a)

/-- The cycle start after T (R394). -/
def nextStart (s : State) (T : Nat) : Nat :=
  match s.naz.change with
  | some (tc, n) => if tc ≤ T then T + 1000 * n else T + cycNs s
  | none => T + cycNs s

/-- NZ_CYCLE in force at a cycle start, as announced (R394, R396). -/
def cycAt (s : State) (T : Nat) : Nat :=
  match s.naz.change with
  | some (tc, n) => if tc ≤ T then n else s.naz.cyc
  | none => s.naz.cyc

/-- The content of the frame of the cycle after T, frozen at T from the DEVICE frames of the cycle before T (R395,
R396). -/
def State.freeze (s : State) (T before : Nat) : State :=
  let l := usedFrames s before
  let Tn := nextStart s T
  let announced := match s.naz.change with
    | some (tc, _) => decide (Tn < tc ∧ tc ≤ Tn + 2 * cycNs s)
    | none => false
  let tc := match s.naz.change with | some (tc, _) => if announced then tc else 0 | none => 0
  let hs := hosted s
  let pay := le 8 Tn ++ le 8 0 ++ le 4 0 ++ le 2 (s.get NZ_COUNT) ++ le 2 (s.get NZ_MASTER) ++ le 2 (s.get NZ_STANDBY) ++
    le 2 ((if s.nat NZ_RING = 2 then 1 else 0) + (if announced then 4 else 0)) ++ le 2 (cycAt s Tn) ++ zeros 2 ++ le 8 tc ++
    mapBytes (mapOf (l.map (·.1))) ++ le 1 hs.length ++ zeros 3 ++ (hs.map (fun a => axisBlock s a l)).flatten
  let s := s.modNaz (fun n => { n with frozen := some pay })
  s.each hs (fun a s => s.modAx a (fun x => { x with reactDue := none }))

/-- Quotient truncated toward zero. -/
def quotTrunc (a : Int) (b : Nat) : Int := if a < 0 then -((-a) / b) else a / b

/-- The own W of an axis in the DEVICE frame of a cycle (R397). -/
def ownWAt (s : State) (T a : Nat) : Nat :=
  match s.naz.ownW.find? (fun e => decide (e.1 = T ∧ e.2.1 = a)) with
  | some e => e.2.2
  | none => 0

/-- A start stage, or a phase of a reference run, reaches a contributing device with its host's values, and a ramp under way
takes a new target, all from the cycle start t0 on (R79, R84, R86, R225). -/
def State.followStart (s : State) (a : Fin 4) (st t0 : Nat) : State :=
  let h := hostStart s a
  let r := (s.ax a).start
  let s := if (st ≤ 7 ∨ st = 0xFF) ∧ s.nat (A_START_STAGE a) ≠ st then s.enterStageAt a st t0
    else if st = 2 ∧ (r.dir ≠ h.dir ∨ r.tgt ≠ h.target) then s.retargetAt a h.dir h.target t0
    else s
  if h.refPhase = 3 then
    (if s.nat (A_REF_STATE a) = 3 then s else (s.set (A_REF_STATE a) 3).refPhaseAt a 0 t0)
  else if (s.ax a).start.refPhase ≠ h.refPhase then
    (s.set (A_REF_STATE a) (if h.refPhase = 0 then 0 else 1)).refPhaseAt a h.refPhase t0
  else s

/-- An axis block takes effect on the local axis that contributes to it: T_d, h, stage and reaction (R79, R159, R199,
R397). `T2` is the start of the cycle two before, `t0` the instant of the cycle start. -/
def State.applyBlock (s : State) (map T2 t0 : Nat) (b : Bytes) : State :=
  s.each (allAxes.filter (fun (a : Fin 4) => decide (cascadeOf s a = numAt b 0 1) && !polesRefused s a)) (fun a s =>
    let sw := numAt b 8 4
    let td := if bitOf map (s.nat DV_ADDRESS) ∧ sw ≠ 0 then quotTrunc (intAt b 4 4 * ownWAt s T2 a.val) sw else 0
    let s := (s.set (A_DEV_TORQUE a) td).modAx a (fun x => { x with tdMissed := 0, tdLost := false, hostH := numAt b 12 2 })
    let st := numAt b 2 1
    let s := if follows s a then s.followStart a st t0
      else if sensorless s a ∧ st ≤ 7 ∧ s.nat (A_START_STAGE a) ≠ st then s.enterStageAt a st t0
      else if (s.ax a).start.decided = some (st, 1) then
        s.modAx a (fun x => { x with start := { x.start with decided := none } })
      else s
    let s := match (s.ax a).start.refDue with
      | some (p, 1) => if isHost s a then s.takeRef a p t0 else s
      | _ => s
    let r := numAt b 3 1
    if r ≠ 0xFF then s.enterLevelBy a lvCount r
    else if !isHost s a ∧ bitOf (numAt b 1 1) 1 = false ∧ (s.ax a).level &&& lvCount ≠ 0 then s.leaveLevel a lvCount
    else s)

/-- The values of a CYCLE frame take effect (R395, R397). -/
def State.applyCycle (s : State) (pay : Bytes) : State :=
  let T := numAt pay 0 8
  let blocks := (List.range (numAt pay 72 1)).map (fun i => fieldAt pay (76 + 40 * i) 40)
  let T2 := (s.naz.starts.dropWhile (fun x => decide (T < x))).getD 2 0
  let s := s.modNaz (fun n => { n with rx := none, applied := some T, missedRun := 0, blocks := blocks,
                                       cyc := if s.nat NZ_ROLE = 2 then numAt pay 28 2 else n.cyc })
  let s := if s.nat NZ_STATE = 4 ∨ s.nat NZ_STATE = 0 ∧ s.nat NZ_ROLE = 2 then s.set NZ_STATE 3 else s
  let s := s.each (allAxes.filter (fun (a : Fin 4) => onCascade s a && !blocks.any (fun b => decide (numAt b 0 1 = s.nat (A_CASCADE_AXIS a)))))
    (fun a s => s.modAx a (fun x => { x with tdMissed := x.tdMissed + 1 }))
  s.each blocks (fun b s => s.applyBlock (numAt pay 40 32) T2 (s.atTb T) b)

/-! ### Master positions (R233, R399) -/

/-- The samples of the cycle before take effect on the axes that select their channels (R233). -/
def State.applyMpos (s : State) (before : Nat) : State :=
  s.each allAxes (fun a s =>
    let src := s.nat (A_GEAR_SRC a)
    if src < 0x10 ∨ 0x13 < src then s
    else match s.naz.mpos.find? (fun m => decide (m.1 = src - 0x10 ∧ m.2.1 = before)) with
      | some m =>
        let s := (s.modAx a (fun x => { x with gear := { x.gear with lastM := m.2.2.1, lastV := m.2.2.2, lastT := before, missed := 0 } })).set
          (A_MASTER_AGE a) 0
        if (s.ax a).level &&& lvMaster ≠ 0 then s.leaveLevel a lvMaster else s
      | none =>
        let s := s.modAx a (fun x => { x with gear := { x.gear with missed := x.gear.missed + 1 } })
        s.set (A_MASTER_AGE a) (min 3 (s.ax a).gear.missed : Nat))

/-- A sample is kept for its cycle. -/
def State.keepMpos (s : State) (ch T : Nat) (m v : Int) : State :=
  s.modNaz (fun n => { n with mpos := ((ch, T, m, v) :: n.mpos.filter (fun e => decide (e.1 ≠ ch ∨ e.2.1 ≠ T))).take 16 })

/-- This device publishes the channels of its encoders at Tj (R233). -/
def State.publishMpos (s : State) (T : Nat) : State :=
  s.each [0, 1] (fun (e : Nat) s =>
    let ch := s.nat (A_ENC_PUB_CH e)
    if ch = 0xFF then s
    else
      let m := s.get (A_ENC_COUNT e)
      let v := s.get (A_ENC_SPEED e)
      (s.cast nkMpos (le 8 T ++ le 1 ch ++ zeros 3 ++ le 8 m ++ le 4 v)).keepMpos ch T m v)

/-! ### Estimates across the cascade (R75–R77, R399) -/

/-- The estimate of a cascade axis goes out, and the host applies it to its own axis (R76, R77). -/
def State.sendAxis (s : State) (a : Fin 4) : State :=
  let c := (s.ax a).cascOut
  let dropped := (s.ax a).devs.filter (fun d => decide (d.st = 3))
  let n := (((s.ax a).devs.filter (fun d => decide (d.st = 2))).map (·.count)).sum
  let s := s.cast nkAxis (le 8 c.t ++ le 1 a.val ++ le 1 (if c.valid then 1 else 0 : Nat) ++ le 2 (angObj c.theta) ++ le 4 (rnd c.fe) ++
    le 2 n ++ le 2 dropped.length ++ mapBytes (mapOf (dropped.map (·.d))))
  s.applyCascade a (angObj c.theta : Int) (rnd c.fe : Int) c.t c.valid

/-- The values of an AXIS frame: a contributing device sets its correction and whether the host has dropped it (R76, R77). -/
def State.applyAxis (s : State) (b : Bytes) : State :=
  s.each (allAxes.filter (fun (a : Fin 4) => contributes s a && decide (s.nat (A_CASCADE_AXIS a) = numAt b 8 1) && !isHost s a)) (fun a s =>
    (s.applyCascade a (numAt b 10 2 : Nat) (intAt b 12 4) (numAt b 0 8) (bitOf (numAt b 9 1) 0)).set (A_FUS_DEV_DROPPED a)
      (if bitOf (numAt b 20 32) (s.nat DV_ADDRESS) then 1 else 0))

/-! ### DEVICE frames (R398) -/

/-- Fusion weight sum of an axis: of the sections that form its estimate, 0 when that is invalid or not sent (R75). -/
def weightFus (s : State) (a : Fin 4) : Nat :=
  if s.flag (A_FUS_VALID a) ∧ s.flag (A_FUS_CASC_EN a) then
    let sel (st : Nat) := (secsOf s a).filter (fun x => decide (s.nat (S_FUS_STATE x) = st))
    (((if (sel 2).isEmpty then sel 1 else sel 2)).map (fun x => s.nat (S_EST_WEIGHT x))).sum
  else 0

/-- W_d as the DEVICE frame reports it, times f while in Derate (R457). -/
def ownWeight (s : State) (a : Fin 4) : Int := rnd (weightSum s a * derateF s)

/-- A channel of this device runs SS1 or SS2 on the axis (R276). -/
def stopRuns (s : State) (a : Fin 4) : Bool :=
  [0, 1].any (fun c => decide ((s.cax c a).fn = 1 ∨ (s.cax c a).fn = 2))

/-- The DEVICE payload of the cycle that began at T (R398). -/
def devicePayload (s : State) (T : Nat) : Bytes :=
  let l := allAxes.filter (contributes s)
  le 8 T ++ le 1 ((if s.nat S_DEV_FAULT ≠ 0 then 1 else 0) + (if s.naz.cap then 2 else 0) + (if s.flag NZ_SYNC then 4 else 0)) ++
  le 1 l.length ++ zeros 2 ++ (l.map (fun (a : Fin 4) =>
    let e := (s.naz.sample.find? (fun e => decide (e.1 = a.val))).getD (a.val, s.get (A_FUS_ANGLE a), s.get (A_FUS_FE a))
    le 1 (s.get (A_CASCADE_AXIS a)) ++
    le 1 ((if s.flag (A_FUS_VALID a) then 1 else 0) + (if stopRuns s a then 2 else 0) + (if s.nat (A_FAULT_STATE a) ≠ 0 then 4 else 0)) ++
    le 2 (countedSecs s a).length ++ le 2 e.2.1 ++ le 2 (s.get (A_FUS_COUNT a)) ++ le 4 e.2.2 ++ le 4 (weightFus s a) ++
    le 4 (ownWeight s a) ++ le 4 (rnd (weightMax s a)))).flatten

/-- A device's contribution to a hosted axis as the host holds it (R76, R199); a device fault that it reports is journalled (R143,
R159); a device that is lost stays faulted until it joins again (R159, R411). -/
def State.contribute (s : State) (a : Fin 4) (d T : Nat) (fault : Bool) (b : Bytes) : State :=
  let old := (s.ax a).devs.find? (fun x => decide (x.d = d))
  let base : DevFus := old.getD ⟨d, 0, 0, 0, 0, 0, false, 1, 0, 0, 0, 0, 0, false⟩
  let gone := !bitOf (presentMap s) d
  let new : DevFus :=
    { base with theta := (numAt b 4 2 : Nat), fe := intAt b 8 4, w := numAt b 12 4, count := numAt b 2 2, t := T,
                fresh := true, W := numAt b 16 4, wmax := numAt b 20 4, fault := fault || gone }
  let put (l : List DevFus) : List DevFus :=
    l.filter (fun y => decide (y.d < d)) ++ [new] ++ l.filter (fun y => decide (d < y.d))
  let s := s.modAx a (fun x => { x with devs := put x.devs })
  let s := if fault && !base.fault then
      s.journal 6 islFusion 0x01 (0x500B + 0x100 * a.val) (quenchData s none none (some a) 0 0) else s
  if bitOf (numAt b 1 1) 1 ∧ !(s.ax a).safe.casc then
    s.modAx a (fun x => { x with safe := { x.safe with casc := true, stopFn := true, v0 := x.cascOut.fe, t0 := s.now } })
  else s

/-- The axis blocks of a device that count for the host: not those of an axis refused into the cascade axis (R36). -/
def blocksOf (s : State) (d : Nat) (pay : Bytes) : List Bytes :=
  let barred := ((s.naz.members.filter (fun m => decide (m.addr = d))).map (·.barred)).flatten
  (deviceBlocks pay).filter (fun b => !barred.contains (numAt b 0 1))

/-- What a DEVICE frame of device d says is held for the axes that this device can host: a device whose frame has no block of a
cascade axis is no contributor to it (R35, R76, R199). -/
def State.holdDevice (s : State) (d : Nat) (pay : Bytes) : State :=
  s.each (allAxes.filter (canHost s)) (fun a s =>
    match (blocksOf s d pay).find? (fun b => decide (a.val = numAt b 0 1)) with
    | some b => s.contribute a d (numAt pay 0 8) (frameFault pay) b
    | none => s.modAx a (fun x => { x with devs := x.devs.filter (fun y => decide (y.d ≠ d)) }))

/-- The values of a DEVICE frame are used by the host (R35, R76, R159, R199, R276). -/
def State.useDevice (s : State) (d : Nat) (pay : Bytes) : State :=
  let s := s.holdDevice d pay
  if (hosted s).isEmpty then s else s.recount

/-- A DEVICE frame of device d, its own included, is held for the cycle that it reports (R411, R412). -/
def State.keepDevice (s : State) (d : Nat) (pay : Bytes) : State :=
  let T := numAt pay 0 8
  s.modNaz (fun n => { n with
    devFrames := n.devFrames.filter (fun e => decide (e.1 ≠ d ∨ e.2.1 ≠ T) && decide (T ≤ e.2.1 + 3 * 1000 * n.cyc)) ++ [(d, T, pay)] })

/-- DEVICE_FRAME_SEND: at Tj + 1 µs the device broadcasts its frame of cycle j (R395). -/
def execDeviceFrameSend (t : Nat) (s : State) : Res :=
  runPowered (islNaz 1) (s.at_ t) (fun s => match s.naz.starts with
    | [] => s
    | T :: _ =>
      if !s.naz.addressed ∨ s.tbNs < T + 1000 ∨ s.naz.devFrames.any (fun e => decide (e.1 = s.nat DV_ADDRESS ∧ e.2.1 = T)) then s
      else
        let pay := devicePayload s T
        let mine := (allAxes.filter (contributes s)).map (fun (a : Fin 4) => (T, a.val, (ownWeight s a).toNat))
        let s := s.modNaz (fun n => { n with ownW := (mine ++ n.ownW).take 16 })
        ((s.cast nkDevice pay).keepDevice (s.nat DV_ADDRESS) pay).useDevice (s.nat DV_ADDRESS) pay)

/-- The process data of a frame goes into the image through NazLink's requester; how many transfers it takes is not stated, a
free number (R328; log entry 27). -/
def State.cyclicData (s : State) : State :=
  let (f, s) := s.free
  s.transfers 4 (8 * (f % 256))

/-! ### Cyclic data and fences (R380, R381) -/

/-- The store accepts the values of a CYCLE frame: they take effect at Tj, or at once when that has passed (R395, R400). -/
def State.takeCycle (s : State) (pay : Bytes) : State :=
  let T := numAt pay 0 8
  if s.tbNs < T then s.modNaz (fun n => { n with rx := some (T, pay), rxAt := s.now })
  else if s.naz.applied ≠ some T then s.applyCycle pay
  else s

/-- The store accepts the data of a frame of one of the four cyclic kinds. -/
def State.acceptCyclic (s : State) (kind src : Nat) (pay : Bytes) : State :=
  (if kind = nkCycle then s.takeCycle pay
  else if kind = nkDevice then s.useDevice src pay
  else if kind = nkAxis then s.applyAxis pay
  else s.keepMpos (numAt pay 8 1) (numAt pay 0 8) (intAt pay 12 8) (intAt pay 20 4)).cyclicData

/-- A fence holds cyclic data of this stamp and these domains: no session makes it, so only a fence stamped before it does. A
faulted store holds nothing, and the values still apply (R449). -/
def fencesCyclic (s : State) (stamp doms : Nat) : Bool :=
  runs s islStore && (fenceWaits s stamp doms || s.fences.any (fun f => bitOf doms f.dom && decide (f.stamp < stamp)))

/-- The cyclic data of a frame reaches the store, which accepts it, or holds it while a fence of a domain of TX_NZ_DOMAINS is
pending (R380, R381; log entry 98). -/
def State.cyclic (s : State) (kind src : Nat) (pay : Bytes) : State :=
  if fencesCyclic s s.tbNs (s.nat TX_NZ_DOMAINS) then
    s.modNaz (fun n => { n with fenced := n.fenced ++ [⟨s.tbNs, s.nat TX_NZ_DOMAINS, kind, src, pay⟩] })
  else s.acceptCyclic kind src pay

/-- MPOS_FRAME. -/
def execMposFrame (t : Nat) (p : Fin 2) (bs : Bytes) (s : State) : Res :=
  runOn (islNaz p) (s.at_ t) (fun s => s.receive p nkMpos false bs (fun f s =>
    let ch := numAt f.payload 8 1
    (s.modNaz (fun n =>
      { n with heard := (ch, numAt f.payload 0 8) :: n.heard.filter (fun e => decide (e.1 ≠ ch)) })).cyclic nkMpos f.src f.payload))

/-- AXIS_FRAME. -/
def execAxisFrame (t : Nat) (p : Fin 2) (bs : Bytes) (s : State) : Res :=
  runOn (islNaz p) (s.at_ t) (fun s => s.receive p nkAxis false bs (fun f s => s.cyclic nkAxis f.src f.payload))

/-- DEVICE_FRAME. -/
def execDeviceFrame (t : Nat) (p : Fin 2) (bs : Bytes) (s : State) : Res :=
  runOn (islNaz p) (s.at_ t) (fun s => s.receive p nkDevice false bs (fun f s =>
    (s.keepDevice f.src f.payload).cyclic nkDevice f.src f.payload))

/-! ### Cycle starts (R394, R395) -/

/-- The announced cycle is in force from Tc. -/
def State.changeCycle (s : State) : State :=
  match s.naz.change with
  | some (tc, n) => if tc ≤ s.tbNs then s.modNaz (fun z => { z with cyc := n, change := none }) else s
  | none => s

/-- On the master, which devices' frames of the cycle before are missing, and whether a minority was heard (R411). -/
def State.countMissing (s : State) (before : Nat) : State :=
  let here (d : Nat) : Bool := s.naz.devFrames.any (fun e => decide (e.1 = d ∧ e.2.1 = before))
  let others := (orderOf s).filter (fun d => decide (d ≠ s.nat DV_ADDRESS) && bitOf (presentMap s) d)
  let heard := 1 + (others.filter here).length
  s.modNaz (fun n => { n with
    missing := (others.filter (fun d => !here d)).map (fun d => (d, (AL.find n.missing d).getD 0 + 1)),
    minority := if nazN s ≤ 1 ∨ nazN s / 2 < heard then 0 else n.minority + 1 })

/-- COMMANDs are repeated one cycle apart (R392), and DECIDE in every cycle until T or the last DONE (R378). -/
def State.repeatFrames (s : State) : State :=
  let s := s.each s.naz.repeats (fun r s => s.castSeq nkCommand r.1 r.2.1)
  let s := s.modNaz (fun n => { n with repeats := (n.repeats.map (fun r => (r.1, r.2.1, r.2.2 - 1))).filter (fun r => decide (0 < r.2.2)) })
  s.each (s.txs.filter (fun (x : Tx) => x.decided && x.coord.isNone && !x.parts.isEmpty && decide (s.tbNs < x.T.getD (s.tbNs + 1)) &&
      x.parts.any (fun q => !x.dones.any (fun d => decide (d.1 = q.1)))))
    (fun x s => s.sendTx none (commitMsg 3 0 x.id (pointField x) (partCount x) serialNo (x.T.getD 0) 0))

/-- A flag of SS1 or SS2 stands in some device's frame of the last cycle (R276). -/
def stopFlagged (s : State) (a : Fin 4) (before : Nat) : Bool :=
  s.naz.devFrames.any (fun e => decide (e.2.1 = before) &&
    (deviceBlocks e.2.2).any (fun b => decide (numAt b 0 1 = a.val) && bitOf (numAt b 1 1) 1))

/-- What a master does at Tj beside applying its own frame (R395). -/
def State.masterCycle (s : State) (T before : Nat) : State :=
  let s := s.countMissing before
  let s := s.each (hosted s) (fun a s =>
    let s := if (s.ax a).safe.casc && !stopFlagged s a before then
        s.modAx a (fun x => { x with safe := { x.safe with casc := false } }) else s
    let s := s.modAx a (fun x => { x with start := { x.start with decided := x.start.decided.map (fun d => (d.1, 1)),
                                                                  refDue := x.start.refDue.map (fun d => (d.1, 1)) } })
    s.sendAxis a)
  (s.freeze T before).repeatFrames

/-- A cycle start Tj of the timebase, once (R77, R79, R199, R233, R395, R410). -/
def State.cycleBegins (s : State) : State :=
  let s := s.changeCycle
  let T := s.tbNs / cycNs s * cycNs s
  (if !s.naz.addressed ∨ s.naz.starts.head? = some T ∨ s.nat (IS_STATE (islNaz 1)) = 3 then s
    else
      let before := s.naz.starts.headD 0
      let s := s.modNaz (fun n => { n with starts := (T :: n.starts).take 4 })
      let s := if isMaster s then match s.naz.startT with
          | some T0 => if T0 ≤ T then
              (s.modNaz (fun n => { n with startT := none })).set NZ_STATE (if s.nat NZ_ROLE = 1 then 3 else 0) else s
          | none => s
        else s
      let s := if s.naz.closing then
          let s := (s.modNaz (fun n => { n with closing := false })).set NZ_RING 1
          if s.nat NZ_ROLE = 1 then s.jRing 1 0x63 0xFFFF 0 0xFFFF else s
        else s
      let s := s.each (allAxes.filter (onCascade s)) (fun a s =>
        s.modAx a (fun x => { x with casc := { x.casc with age := x.casc.age + 1 } }))
      let s := match isMaster s, s.naz.frozen, s.naz.rx with
        | true, some pay, _ => if numAt pay 0 8 = T then s.applyCycle pay else s
        | false, _, some r => if r.1 = T then s.applyCycle r.2 else s
        | _, _, _ => s
      let s := s.applyMpos before
      let s := s.each allAxes (fun a s =>
        let th := modAng ((s.ax a).fusAngle + angleIn (s.ax a).fusFe ((s.now : Int) - (s.ax a).fusAt))
        s.modAx a (fun x => { x with locals := ((T, th) :: x.locals).take 4 }))
      let s := s.modNaz (fun n => { n with sample := allAxes.map (fun a =>
        (a.val, (angObj (((s.ax a).locals.headD (T, 0)).2), s.get (A_FUS_FE a)))) })
      let s := s.publishMpos T
      if isMaster s then s.masterCycle T before else s)

/-- CYCLE_FRAME_SEND: at Tj − Lc the master sends the frame of cycle j, with its departure instant (R395, R396). -/
def execCycleFrameSend (t : Nat) (s : State) : Res :=
  runPowered (islNaz 1) (s.at_ t) (fun s => match s.naz.frozen with
    | some pay =>
      let T := numAt pay 0 8
      if s.nat NZ_ROLE = 1 ∧ T ≤ s.tbNs + leadC (nazN s) ∧ s.tbNs < T then
        s.cast nkCycle (pay.take 8 ++ le 8 (64 * s.tb : Nat) ++ pay.drop 16)
      else s
    | none => s)

/-! ### Receiving CYCLE frames (R396, R400, R401) -/

/-- The mean link delay of a port in 1/256 ns (R401). -/
def linkDelay (s : State) (p : Fin 2) : Rat :=
  let d := (s.naz.ports.get p).delays
  if d.isEmpty then 0 else d.sum / d.length

/-- The timebase is to be set to a reference: after a full pass, or after a join beyond 1 µs of it with every section in state 0 or
4 (R404, R405). -/
def stepAsked (s : State) (ref : Rat) : Bool :=
  decide (s.naz.stepDue = 1) ||
    (decide (s.naz.stepDue = 2) && allIdle s && decide (1000 * 256 < absR (((64 * s.tb : Nat) : Rat) - ref)))

/-- The timebase is set to the reference of a CYCLE frame once, where R404 or R405 asks for it. -/
def State.stepToMaster (s : State) (ref : Rat) (T : Nat) : State :=
  match s.naz.startT with
  | some T0 =>
    if T0 ≤ T then
      let due := stepAsked s ref
      let s := (s.modNaz (fun n => { n with startT := none, stepDue := 0 })).set NZ_STATE 3
      if due then s.stepTimebase (ref / 256).floor.toNat else s
    else s
  | none => s

/-- The offset is reported and corrected by rate: the law of the correction is open and the rate a free value within
±200 ppm; the sync flag follows runs of 16 and 2 cycles (R401). -/
def State.syncJudge (s : State) (off : Rat) : State :=
  let ps := clampI (-2147483648) 2147483647 (rnd (off * 1000 / 256))
  let s := s.set NZ_OFFSET ps
  let (v, s) := s.free
  let s := s.set NZ_RATE (((v % 400001 : Nat) : Int) - 200000)
  let a := absR (off / 256)
  let s := s.modNaz (fun n => { n with syncRun := if a ≤ 2 then n.syncRun + 1 else 0, offRun := if 4 < a then n.offRun + 1 else 0 })
  if 16 ≤ s.naz.syncRun ∧ !s.flag NZ_SYNC then (s.set NZ_SYNC 1).jNaz 1 (islNaz 1) 0x67 0x1400 0xFFFF 0xFF 0 0xFFFF ps
  else if 2 ≤ s.naz.offRun ∧ s.flag NZ_SYNC then (s.set NZ_SYNC 0).jNaz 1 (islNaz 1) 0x66 0x1400 0xFFFF 0xFF 0 0xFFFF ps
  else s

/-- A CYCLE frame has arrived: the timebase, then its values at Tj, or at once when it is late (R400, R401). -/
def State.cycleFrame (s : State) (p : Fin 2) (src : Nat) (pay : Bytes) (serial : Nat) : State :=
  if s.nat NZ_ROLE ≠ 2 then s
  else
    let T := numAt pay 0 8
    let ref : Rat := ((numAt pay 8 8 + numAt pay 16 4 : Nat) : Rat) + linkDelay s p
    let s := s.stepToMaster ref T
    let s := s.syncJudge ((64 * s.tb : Nat) - ref)
    let s := if s.nat NZ_MASTER ≠ numAt pay 22 2 then ((s.set NZ_MASTER (numAt pay 22 2)).modNaz (fun n => { n with masterSerial := serial })).dropRoutes else s
    let s := s.set NZ_STANDBY (numAt pay 24 2)
    if s.tbNs < T then s.cyclic nkCycle src pay
    else if s.tbNs ≤ T + lateW (nazN s) ∧ s.naz.applied ≠ some T then (s.inc NZ_LATE).cyclic nkCycle src pay
    else s

/-- CYCLE_FRAME, with what the hosts give for their start sequences and reference runs, whose values no field of the frame
carries (R79; log entry 89). -/
def execCycleFrame (t : Nat) (p : Fin 2) (c : CycleIn) (s : State) : Res :=
  runOn (islNaz p) (s.at_ t) (fun s => s.receive p nkCycle false c.bytes (fun f s =>
    (s.modNaz (fun n => { n with hostStarts := c.starts })).cycleFrame p f.src f.payload c.serial))

/-- CYCLE_MISSED: no frame of the cycle by Tj + Wl (R400). -/
def execCycleMissed (t : Nat) (s : State) : Res :=
  runPowered (islNaz 1) (s.at_ t) (fun s => match s.naz.starts with
    | [] => s
    | T :: _ =>
      let here := s.naz.fenced.any (fun h => decide (h.kind = nkCycle ∧ numAt h.payload 0 8 = T))
      if s.nat NZ_ROLE = 2 ∧ s.naz.addressed ∧ s.naz.applied ≠ some T ∧ !here ∧ T + lateW (nazN s) ≤ s.tbNs then
        let s := (s.inc NZ_MISSED).set NZ_STATE 4
        let s := s.modNaz (fun n => { n with applied := some T, missedRun := n.missedRun + 1 })
        s.each (allAxes.filter (onCascade s)) (fun a s => s.modAx a (fun x => { x with tdMissed := x.tdMissed + 1 }))
      else s)

/-- MASTER_STEP_DOWN: a master that hears no majority for three cycles becomes a follower (R411). -/
def execMasterStepDown (t : Nat) (s : State) : Res :=
  runPowered (islNaz 1) (s.at_ t) (fun s => if s.nat NZ_ROLE = 1 ∧ 3 ≤ s.naz.minority then
      (((s.set NZ_ROLE 2).set NZ_STATE 4).modNaz (fun n => { n with frozen := none, pass := none, minority := 0, tokens := [], repeats := [] })).each
        allAxes (fun a s => s.modAx a (fun x => { x with devs := [] }))
    else s)

/-! ### Link delay (R401) -/

/-- SYNC_EXCHANGE: an end of an up link begins an exchange. -/
def execSyncExchange (t : Nat) (p : Fin 2) (s : State) : Res :=
  runOn (islNaz p) (s.at_ t) (fun s => if 2 ≤ s.nat (NZ_LINK p.val) then
      let q := ((s.naz.ports.get p).exchange + 1) % 4294967296
      (s.modPort p (fun r => { r with exchange := q })).sendPort p nkSync 0xFFFF
        (zeros 4 ++ le 4 q ++ le 8 (64 * s.tb : Nat) ++ le 8 0 ++ le 8 0)
    else s)

/-- SYNC_FRAME: a request is answered with t2 and t3; an answer gives one delay, and the last 16 their mean. -/
def execSyncFrame (t : Nat) (p : Fin 2) (bs : Bytes) (s : State) : Res :=
  runOn (islNaz p) (s.at_ t) (fun s => s.receive p nkSync true bs (fun f s =>
    let b := f.payload
    if numAt b 0 1 = 0 then
      s.sendPort p nkSync 0xFFFF (le 1 1 ++ zeros 3 ++ fieldAt b 4 12 ++ le 8 (64 * s.tb : Nat) ++ le 8 (64 * s.tb : Nat))
    else if numAt b 4 4 = (s.naz.ports.get p).exchange then
      let d : Rat := (((64 * s.tb : Nat) : Int) - (numAt b 8 8 : Nat) - ((numAt b 24 8 : Nat) - (numAt b 16 8 : Nat) : Int) : Int) / 2
      let s := s.modPort p (fun r => { r with delays := (d :: r.delays).take 16 })
      s.set (NZ_LINK_DELAY p.val) (max 0 (rnd (linkDelay s p * 1000 / 256)) % 4294967296)
    else s))

end Sys2Proof.Machine
end

