-- ==== Sys2Proof/Machine/Can.lean ====
section
/-! DEFINITION. CAN FD controllers: modes, errors, the queue and the NMT states (R416–R429). -/

namespace Sys2Proof.Machine
open Obj

/-- The queue entries of a controller. -/
def entries : List (Fin 64) := List.finRange 64

/-- A controller entry (R433). -/
def State.jCan (s : State) (b : Fin 2) (detail word : Nat) : State :=
  s.journal 0xA (44 + b.val) detail (0x1501 + 0x10 * b.val)
    (le 1 b.val ++ le 1 (s.get (CB_STATE b)) ++ le 2 (s.get (CB_TEC b)) ++ le 1 (s.get (CB_REC b)) ++ le 1 (s.get (CB_MODE b)) ++
     le 4 word ++ le 4 (s.get (CB_RX_LOST b)) ++ zeros 4)

/-- A second has passed since an instant. -/
def secondPast (s : State) (l : Option Nat) : Bool :=
  match l with
  | some t => decide (t + ms 1000 ≤ s.now)
  | none => true

/-- The controller takes part in bus traffic: error active or error passive (R420, R422). -/
def onBus (s : State) (b : Fin 2) : Bool := decide (s.nat (CB_STATE b) = 2 ∨ s.nat (CB_STATE b) = 3)

/-- A transmit entry that hardware owns. -/
def txOwned (s : State) (b : Fin 2) (e : Nat) : Bool := s.flag (CB_Q_OWNER b e) && s.flag (CB_Q_DIR b e)

/-- An entry returns to software with a status, the owner last (R425). -/
def State.giveBack (s : State) (b : Fin 2) (e status : Nat) : State :=
  ((s.set (CB_Q_STATUS b e) status).set (CB_Q_OWNER b e) 0).modCan b (fun c =>
    { c with aborting := c.aborting.filter (· ≠ e), ackAt := AL.erase c.ackAt e })

/-- Every transmit entry that hardware owns returns with a status (R420, R423). -/
def State.giveAll (s : State) (b : Fin 2) (status : Nat) : State :=
  s.each (entries.filter (fun e => txOwned s b e)) (fun e s => s.giveBack b e status)

/-- The levels of CBb_TX and CBb_STB: in mode 0 TX is recessive (high) and STB holds the transceiver in standby (high); in the
others STB is low, and between frames, each of which is one command, TX is recessive too (R417, R481). -/
structure CanPins where
  tx : Bool
  stb : Bool
deriving DecidableEq, Repr

def canPins (s : State) (b : Fin 2) : CanPins := ⟨true, decide ((s.cb b).mode = 0)⟩

/-! ### The reserved session and the NMT state (R357, R423, R429) -/

/-- The reserved session opens with the roles and the profile of its objects, unless Σr would pass the limit of R348. -/
def State.openCanSession (s : State) (b : Fin 2) : State :=
  let j := s.nat (SS_CAN_PROFILE b)
  if (s.session (sidCan b)).isSome ∨ 150000 < guarSum s + rateOf s j then s
  else
    let n := Session.fresh (sidCan b) (3 + b.val) none (s.nat (SS_CAN_ROLES b)) j (burstOf s j) s.now
    (s.settleTokens.addSession n).jSess 0x01 n 0 0

/-- Entry to pre-operational, with the boot-up frame (R429). -/
def State.preOperational (s : State) (b : Fin 2) : State :=
  (s.set (CB_NMT_STATE b) 0x7F).engineSend b ⟨0x700 + s.nat (CB_NODE_ID b), 0, [0], s.now⟩

/-! ### The frame on the bus (R427) -/

/-- The arbitration value of a frame word (R427): a base identifier is followed by 18 zero bits. -/
def arbValue (w : Nat) : Nat := if bitOf w 29 then w % 2 ^ 29 else w % 2 ^ 11 * 2 ^ 18

/-- The least of a list by a value, the first among equals. -/
def firstLeast {α : Type} (f : α → Nat) : List α → Option α
  | [] => none
  | a :: l => match firstLeast f l with
    | some b => if f b < f a then some b else some a
    | none => some a

/-- The engine frame that is offered first: the lowest arbitration value, the oldest among equals. -/
def engineFirst (l : List EngFrame) : Option EngFrame := firstLeast (fun f => arbValue f.word) l

/-- The engine frames that waited at an instant. -/
def engineAt (s : State) (b : Fin 2) (t : Nat) : List EngFrame := (s.cb b).engine.filter (fun f => decide (f.at_ ≤ t))

/-- The transmit entries that hardware owned at an instant. -/
def entriesAt (s : State) (b : Fin 2) (t : Nat) : List (Fin 64) :=
  entries.filter (fun e => txOwned s b e && decide ((AL.find (s.cb b).ackAt e.val).getD 0 ≤ t))

/-- Which of the frames that waited at an instant was offered for arbitration (R427): an entry, or the engine's (`some none`). -/
def offered (s : State) (b : Fin 2) (t : Nat) : Option (Option (Fin 64)) :=
  match engineFirst (engineAt s b t), firstLeast (fun (e : Fin 64) => arbValue (s.nat (CB_Q_ID b e))) (entriesAt s b t) with
  | some f, some e => if arbValue (s.nat (CB_Q_ID b e)) < arbValue f.word then some (some e) else some none
  | some _, none => some none
  | none, some e => some (some e)
  | none, none => none

/-- An entry's frame may be on the bus: only in mode 1, where it was offered when it came or when the bus last fell free, for a frame
on the bus stays there while others come (R421, R427). -/
def mayBeOn (s : State) (b : Fin 2) (e : Fin 64) : Bool :=
  onBus s b && decide ((s.cb b).mode = 1) &&
    (offered s b (max ((AL.find (s.cb b).ackAt e.val).getD 0) (s.cb b).busAt) == some (some e))

/-- The frame on the bus has ended. -/
def State.busFree (s : State) (b : Fin 2) : State := s.modCan b (fun c => { c with busAt := s.now })

/-! ### Modes (R420, R421) -/

/-- A mode is in force. From 0 the controller integrates; to 0 every transmit entry of hardware returns (R420). -/
def State.canMode (s : State) (b : Fin 2) (v : Nat) : State :=
  let old := (s.cb b).mode
  let s := s.modCan b (fun c => { c with mode := v, asked := none })
  if v = 0 then
    (((s.giveAll b 3).set (CB_STATE b) 0).modCan b (fun c => { c with engine := [], sdo := none, held := [] })).sleep (114 + b.val)
  else if old = 0 then s.set (CB_STATE b) 1
  else s

/-- CB_MODE is accepted (R420); while the controller's domain is off it is queued, and the mode waits for it (R466). -/
def State.canModeWrite (s : State) (b : Fin 2) (v : Nat) : State :=
  let s := s.set (CB_MODE b) v
  if s.nat (IS_STATE (44 + b.val)) = 3 then
    if v = 0 then s.modCan b (fun c => { c with asked := none })
    else (s.modCan b (fun c => { c with asked := some v })).wake (114 + b.val)
  else if (s.cb b).mode = v then s.modCan b (fun c => { c with asked := none })
  else if (s.cb b).mode = 0 then s.canMode b v
  else s.modCan b (fun c => { c with asked := some v })

/-- MODE_CHANGE_AT_IDLE: the bus is idle, and a mode asked for takes effect unless the controller is bus-off (R420). -/
def execModeChangeAtIdle (t : Nat) (b : Fin 2) (s : State) : Res :=
  runOn (44 + b.val) (s.at_ t) (fun s => match (s.cb b).asked with
    | some v => if 4 ≤ s.nat (CB_STATE b) then s else s.canMode b v
    | none => s)

/-- CB_STATE becomes 2, or 3 when a counter exceeds 127, and every entry into 3 is journalled (R422). -/
def State.activeOrPassive (s : State) (b : Fin 2) : State :=
  if 127 < s.nat (CB_TEC b) ∨ 127 < s.nat (CB_REC b) then
    if s.nat (CB_STATE b) = 3 then s else (s.set (CB_STATE b) 3).jCan b 0x70 0
  else s.set (CB_STATE b) 2

/-- BUS_INTEGRATION_COMPLETE: eleven recessive bits (R420–R422, R429). -/
def execBusIntegrationComplete (t : Nat) (b : Fin 2) (s : State) : Res :=
  runOn (44 + b.val) (s.at_ t) (fun s => if s.nat (CB_STATE b) = 1 then
      let s := ((s.activeOrPassive b).busFree b).openCanSession b
      if s.flag (CB_NMT_AUTO b) then s.set (CB_NMT_STATE b) 5 else s
    else s)

/-! ### Errors (R422, R423) -/

/-- Bus-off: the entries return, the session is lost and the PDOs stop (R423). -/
def State.busOff (s : State) (b : Fin 2) : State :=
  let s := (((s.set (CB_STATE b) 4).inc (CB_BUSOFF_COUNT b)).jCan b 0x71 0).giveAll b 4
  (s.endSession (sidCan b) 0x03 4).modCan b (fun c => { c with engine := [], sdo := none, held := [] })

/-- CB_STATE follows the counters; entries into states 3 and 4 are journalled, and bus-off returns the entries, loses the
session and stops the PDOs (R422, R423). -/
def State.canState (s : State) (b : Fin 2) : State :=
  let st := s.nat (CB_STATE b)
  if st ≠ 2 ∧ st ≠ 3 then s
  else if 255 < s.nat (CB_TEC b) then
    let s := s.busOff b
    if s.flag (CB_AUTO_RECOVER b) then s.set (CB_STATE b) 5 else s
  else s.activeOrPassive b

/-- An entry whose frame failed on the bus: one-shot or aborted entries return, others are tried again (R427, R428). -/
def State.frameFailed (s : State) (b : Fin 2) (q : Option (Fin 64)) : State :=
  match q with
  | none => s
  | some e =>
    if !txOwned s b e ∨ !mayBeOn s b e then s
    else if e.val ∈ (s.cb b).aborting then s.giveBack b e 3
    else if bitOf (s.nat (CB_Q_FLAGS b e)) 3 then s.giveBack b e 5
    else s

/-- What ISO 11898-1 adds: 8 or nothing to the transmit error counter, 1, 8 or nothing to the receive error counter (log entry
21). -/
def isoStep (tx : Bool) (n : IsoStep) : Nat :=
  match tx, n with
  | _, .none => 0
  | true, _ => 8
  | false, .one => 1
  | false, .eight => 8

/-- CAN_BUS_ERROR: an error is detected, as transmitter or as receiver (R421, R422). -/
def execCanBusError (t : Nat) (b : Fin 2) (q : Option (Fin 64)) (tx : Bool) (n : IsoStep) (s : State) : Res :=
  runOn (44 + b.val) (s.at_ t) (fun s => if !onBus s b then s
    else
      let s := s.inc (CB_ERRORS b)
      if (s.cb b).mode = 2 then s.set (CB_STATE b) 1
      else
        let s := if tx then s.set (CB_TEC b) (min 256 (s.nat (CB_TEC b) + isoStep tx n) : Nat)
                 else s.set (CB_REC b) (min 255 (s.nat (CB_REC b) + isoStep tx n) : Nat)
        ((s.frameFailed b q).busFree b).canState b)

/-- ARBITRATION_LOST (R427). -/
def execArbitrationLost (t : Nat) (b : Fin 2) (q : Option (Fin 64)) (s : State) : Res :=
  runOn (44 + b.val) (s.at_ t) (fun s => if onBus s b ∧ (s.cb b).mode = 1 then s.frameFailed b q else s)

/-- PROTOCOL_EXCEPTION: the controller integrates again (R422). -/
def execProtocolException (t : Nat) (b : Fin 2) (s : State) : Res :=
  runOn (44 + b.val) (s.at_ t) (fun s => if !onBus s b then s
    else
      let s := (s.inc (CB_PEXC b)).set (CB_STATE b) 1
      if secondPast s (s.cb b).last74 then (s.jCan b 0x74 0).modCan b (fun c => { c with last74 := some s.now }) else s)

/-- CB_RECOVER written 1 (R423). -/
def State.canRecover (s : State) (b : Fin 2) : State :=
  if s.nat (CB_STATE b) = 4 then s.set (CB_STATE b) 5 else s

/-- BUS_OFF_RECOVERED: 128 idle sequences have passed (R423); a mode asked for meanwhile takes effect (R420). -/
def execBusOffRecovered (t : Nat) (b : Fin 2) (s : State) : Res :=
  runOn (44 + b.val) (s.at_ t) (fun s => if s.nat (CB_STATE b) = 5 then
      let s := (((s.set (CB_TEC b) 0).set (CB_REC b) 0).set (CB_STATE b) 2).jCan b 0x72 0
      let s := (s.openCanSession b).preOperational b
      match (s.cb b).asked with
      | some v => s.canMode b v
      | none => s
    else s)

/-! ### Frames (R424–R428) -/

/-- The frame word matches a receive entry that hardware owns (R426). -/
def entryMatches (s : State) (b : Fin 2) (w e : Nat) : Bool :=
  s.flag (CB_Q_OWNER b e) && !s.flag (CB_Q_DIR b e) && decide ((w ^^^ s.nat (CB_Q_ID b e)) &&& s.nat (CB_Q_MASK b e) = 0)

/-- A COB-ID word of a valid RPDO: identifier and IDE (R424, R436). -/
def rpdoWord (s : State) (b : Fin 2) (i : Nat) : Option Nat :=
  let c := s.nat (CB_PDO_COBID b i)
  if bitOf c 31 then none else some (c % 2 ^ 30)

/-- The frame is for the CiA 301 engine (R424). -/
def forEngine (s : State) (b : Fin 2) (w : Nat) : Bool :=
  decide (w = 0) || decide (w = 0x080) || decide (w = 0x600 + s.nat (CB_NODE_ID b)) ||
    [0, 1, 2, 3].any (fun i => rpdoWord s b i == some w)

/-- The receive counter after a valid frame, under ISO 11898-1: above 127 it takes a value from 119 to 127, which that
standard leaves to the implementation (log entry 21). -/
def State.recOk (s : State) (b : Fin 2) : State :=
  let r := s.nat (CB_REC b)
  if (s.cb b).mode = 2 then s
  else if 127 < r then
    let (v, s) := s.free
    s.set (CB_REC b) (119 + v % 9 : Nat)
  else s.set (CB_REC b) (r - 1 : Nat)

/-- A frame that R416 and R426 know: an identifier of its format, a data length of the table, more than 8 bytes and BRS and ESI only
with FDF, and a remote frame classical and without data. -/
def canFrameOk (w : Nat) (c : CanCtl) (bs : Bytes) : Bool :=
  decide (w < 2 ^ 31) && (bitOf w 29 || decide (w % 2 ^ 29 < 2 ^ 11)) &&
    decide (c.len ≤ 8 ∨ c.len ∈ [12, 16, 20, 24, 32, 48, 64]) &&
    (c.fdf || (decide (c.len ≤ 8) && !c.brs && !c.esi)) &&
    (if bitOf w 30 then !c.fdf && bs.isEmpty else decide (bs.length = c.len))

/-- CB_Q_FLAGS of a received frame (R426, R435). -/
def ctlFlags (c : CanCtl) : Nat := c.fdf.toNat + 2 * c.brs.toNat + 4 * c.esi.toNat

/-- CAN_FRAME_TAKEN: a frame word with its control field and data, at the instant `sof` of its start-of-frame edge (R424–R426).
What is for the engine follows by the engine's own commands. What is no frame of R416 is not taken. -/
def execCanFrameTaken (t : Nat) (b : Fin 2) (w : Nat) (c : CanCtl) (bs : Bytes) (sof : Nat) (s : State) : Res :=
  runOn (44 + b.val) (s.at_ t) (fun s => if !onBus s b ∨ (s.cb b).mode = 0 ∨ !canFrameOk w c bs then s
    else
      let s := (((s.inc (CB_RX_DONE b)).recOk b).busFree b).canState b
      if forEngine s b w then s
      else match entries.find? (fun e => entryMatches s b w e) with
        | some e =>
          let s := ((s.set (CB_Q_ID b e) w).set (CB_Q_FLAGS b e) (ctlFlags c)).set (CB_Q_LEN b e) c.len
          let s := (s.setBlob (CB_Q_DATA b e) bs).set (CB_Q_STAMP b e) (s.stampOf sof)
          s.giveBack b e 1
        | none =>
          let s := s.inc (CB_RX_LOST b)
          if secondPast s (s.cb b).last73 then (s.jCan b 0x73 w).modCan b (fun c => { c with last73 := some s.now }) else s)

/-- CAN_FRAME_SENT: the frame of entry q, or of the engine, has been sent; `sof` is its start of frame, `tdc` the
transmitter delay measured on it (R418, R427). Only the frame that was offered at `sof` can have been. -/
def execCanFrameSent (t : Nat) (b : Fin 2) (q : Option (Fin 64)) (sof tdc : Nat) (s : State) : Res :=
  runOn (44 + b.val) (s.at_ t) (fun s => if !onBus s b ∨ (s.cb b).mode ≠ 1 ∨ offered s b sof ≠ some q then s
    else
      let s := s.busFree b
      let ok (s : State) (flags : Nat) : State :=
        let s := (s.inc (CB_TX_DONE b)).set (CB_TEC b) (s.nat (CB_TEC b) - 1 : Nat)
        (if s.flag (CB_TDC_EN b) ∧ bitOf flags 1 then s.set (CB_TDC_MEAS b) (min 127 tdc : Nat) else s).canState b
      match q with
      | some e =>
        ok ((s.set (CB_Q_STAMP b e) (s.stampOf sof)).giveBack b e 2) (s.nat (CB_Q_FLAGS b e))
      | none =>
        match engineFirst (engineAt s b sof) with
        | some f => ok (s.modCan b (fun c => { c with engine := c.engine.erase f })) f.flags
        | none => s)

/-- Whether CB_Q_ACK is admitted (R428). -/
def ackOk (s : State) (b : Fin 2) (e : Nat) : Bool :=
  !s.flag (CB_Q_OWNER b e) &&
    !(s.flag (CB_Q_DIR b e) && ((decide (8 < s.nat (CB_Q_LEN b e)) && !bitOf (s.nat (CB_Q_FLAGS b e)) 0) ||
      (bitOf (s.nat (CB_Q_ID b e)) 30 && bitOf (s.nat (CB_Q_FLAGS b e)) 0)))

/-- CB_Q_ACK accepted: hardware owns the entry (R425). -/
def State.qAck (s : State) (b : Fin 2) (e : Nat) : State :=
  ((s.set (CB_Q_OWNER b e) 1).set (CB_Q_STATUS b e) 0).modCan b (fun c => { c with ackAt := AL.insert c.ackAt e s.now })

/-- CB_Q_ABORT accepted (R428): an entry whose frame is on the bus waits for its end, and every other returns at once. No command says
when a frame goes on the bus, so whether one that may be there is there is a free value (log entry 22). -/
def State.qAbort (s : State) (b : Fin 2) (e : Fin 64) : State :=
  if mayBeOn s b e then
    let (v, s) := s.free
    if v % 2 = 1 then s.modCan b (fun c => { c with aborting := if e.val ∈ c.aborting then c.aborting else c.aborting ++ [e.val] })
    else s.giveBack b e 3
  else s.giveBack b e 3

/-! ### NMT (R429) -/

/-- An NMT command acts on this node. -/
def State.nmt (s : State) (b : Fin 2) (node : Nat) (f : State → State) : State :=
  if onBus s b ∧ (node = 0 ∨ node = s.nat (CB_NODE_ID b)) then f s else s

/-- NMT_START. -/
def execNmtStart (t : Nat) (b : Fin 2) (node : Nat) (s : State) : Res :=
  runOn (44 + b.val) (s.at_ t) (fun s => s.nmt b node (fun s => s.set (CB_NMT_STATE b) 5))

/-- NMT_STOP. -/
def execNmtStop (t : Nat) (b : Fin 2) (node : Nat) (s : State) : Res :=
  runOn (44 + b.val) (s.at_ t) (fun s => s.nmt b node (fun s => s.set (CB_NMT_STATE b) 4))

/-- NMT_PRE_OPERATIONAL. -/
def execNmtPreOperational (t : Nat) (b : Fin 2) (node : Nat) (s : State) : Res :=
  runOn (44 + b.val) (s.at_ t) (fun s => s.nmt b node (fun s => s.preOperational b))

/-- NMT_RESET_NODE: the device is not affected. -/
def execNmtResetNode (t : Nat) (b : Fin 2) (node : Nat) (s : State) : Res :=
  runOn (44 + b.val) (s.at_ t) (fun s => s.nmt b node (fun s => s.preOperational b))

/-- NMT_RESET_COMMUNICATION: the device is not affected. -/
def execNmtResetCommunication (t : Nat) (b : Fin 2) (node : Nat) (s : State) : Res :=
  runOn (44 + b.val) (s.at_ t) (fun s => s.nmt b node (fun s => s.preOperational b))

end Sys2Proof.Machine
end

