-- ==== Sys2Proof/Machine/Power.lean ====
section
/-! DEFINITION. Island faults, supplies, Derate, the Hearth hand-over, device resets, Damper, SRAM, and the reset sequence up
to the boot port (R448, R449, R454–R469, R510). -/

namespace Sys2Proof.Machine
open Obj

/-! ### Island faults (R448, R449) -/

/-- A fault of a safety channel: cause 0x12 of device scope, in each channel for every axis that it judges (R277, R449). -/
def State.channelFault (s : State) (c : Fin 2) : State :=
  let s := s.modChan c (fun k => { k with selfBad := true })
  let f : Found := ⟨0x12, 0, 0, false⟩
  let isl := if c = 0 then islTongsA else islTongsB
  let hit := chans.any (fun d => allAxes.any (fun a => judging s d a))
  let s := s.each allAxes (fun a s =>
    let s := s.each chans (fun d s => if judging s d a then s.toSafe d a isl f else s)
    s.set (SF_STATE a) (axisState s a))
  (if hit then (s.jTongsDevice 0x12 (1 + c.val) 0 0 0).inc SF_XC_COUNT else s).syncTongs

/-- The section of an island of the first row of R449. -/
def islSection (n : Nat) : Option (Fin 6) :=
  if h : n < 6 then some ⟨n, h⟩
  else if h : 13 ≤ n ∧ n < 25 then some ⟨(n - 13) / 2, by omega⟩
  else if h : 25 ≤ n ∧ n < 31 then some ⟨n - 25, by omega⟩
  else if h : 31 ≤ n ∧ n < 37 then some ⟨n - 31, by omega⟩
  else none

/-- The function of an island stops until a device reset, though its clock and its handshakes are good (R449, R468, R469). -/
def State.stopIsland (s : State) (n : Nat) : State :=
  s.modPower (fun p => { p with stopped := if n ∈ p.stopped then p.stopped else p.stopped ++ [n] })

/-- The outcome of a fault of island n (R449). Where it is that the function stops, it stops whatever has failed: the island's clock,
its memory or its domain (log entry 60). -/
def State.faultOutcome (s : State) (n : Nat) : State :=
  let j (s : State) : State := s.jClock 5 islSelfTest 0x04 0x1120 n 0 0
  match islSection n with
  | some x => s.isolateHeld [x] islSelfTest 0x06 0x1120 n
  | none =>
    if 6 ≤ n ∧ n ≤ 12 then (if s.nat (K_LANE_STATE (n - 6)) = 4 then s else s.failLane (n - 6))
    else if n = islFusion then
      j (s.each allAxes (fun a s => (s.set (A_FUS_VALID a) 0).runningEnds a))
    else if n = islTongsA then s.channelFault 0
    else if n = islTongsB then s.channelFault 1
    else if n = islTimebase ∨ n = 59 ∨ n = islAnvil ∨ n = islProfile ∨ n = islPower then
      j (s.isolateHeld allSecs islSelfTest 0x06 0x1120 n)
    else if n = islEncoder then j ((s.encoderFault 0).encoderFault 1)
    else if n = 42 then j ((s.set (NP_LINK 0) 0).stopIsland n)
    else if n = 43 then j ((s.set (NP_LINK 1) 0).stopIsland n)
    else if n = 44 then j ((if s.nat (CB_STATE 0) = 0 then s else s.busOff 0).stopIsland n)
    else if n = 45 then j ((if s.nat (CB_STATE 1) = 0 then s else s.busOff 1).stopIsland n)
    else if n = 46 then j ((s.linkDown 0 0).stopIsland n)
    else if n = 47 then j ((s.linkDown 1 0).stopIsland n)
    else if n = islCapture then j (s.claimEnd.stopIsland n)
    else j (s.stopIsland n)

/-- A clock fault (1) or handshake fault (2) of island n, judged while it runs; the clocks of Hearth and JTAG test are not watched
(R448). -/
def State.islandFault (s : State) (n kind : Nat) : State :=
  if (kind = 1 ∧ (n = 60 ∨ n = 63)) ∨ s.nat (IS_STATE n) ≠ 0 then s
  else ((s.set (IS_STATE n) kind).inc (IS_FAULTS n)).faultOutcome n

/-- CLOCK_FAULT. -/
def execClockFault (t : Nat) (i : Fin 64) (s : State) : Res := runOn islSelfTest (s.at_ t) (fun s => s.islandFault i.val 1)

/-- HANDSHAKE_FAULT. -/
def execHandshakeFault (t : Nat) (i : Fin 64) (s : State) : Res := runOn islSelfTest (s.at_ t) (fun s => s.islandFault i.val 2)

/-! ### Entries (R461, R463, R471) -/

/-- The data of a supply entry, with the number dropped. -/
def powerData (s : State) (dom mv rail count dropped : Nat) : Bytes :=
  le 1 (s.get PW_RAIL_STATUS) ++ le 1 s.power.source ++ le 2 dom ++ le 2 mv ++ le 1 rail ++ zeros 1 ++ le 8 count ++ le 2 dropped

/-- A supply entry while the device runs. -/
def State.jPower (s : State) (detail dom mv rail : Nat) : State :=
  s.journal 0xB islPower detail 0x1600 (powerData s dom mv rail 0 0)

/-- A hand-over entry goes into the supply event record, which holds 16 (R461, R463). -/
def State.jHearth (s : State) (detail mv rail count : Nat) : State :=
  s.modPower (fun p =>
    if p.supply.length < 16 then
      { p with supply := ⟨s.tbNs, 0xB, 60, detail, 0x1600, s.nat DV_ADDRESS, powerData s 0xFFFF mv rail count 0⟩ :: p.supply }
    else { p with dropped := p.dropped + 1 })

/-- The number dropped goes into the last entry written (R463). -/
def withDropped (n : Nat) : List Entry → List Entry
  | [] => []
  | e :: r =>
    let f : Entry := { e with data := e.data.take 16 ++ le 2 n }
    f :: r

/-- The record goes to the journal with its own timestamps, oldest first (R463). -/
def State.replaySupply (s : State) : State :=
  let l := (withDropped s.power.dropped s.power.supply).reverse
  ({ s with raised := s.raised ++ l.map (fun (e : Entry) => { e with dev := s.nat DV_ADDRESS }) }).modPower
    (fun p => { p with supply := [], dropped := 0 })

/-! ### Warnings and Derate (R456, R457) -/

/-- RAIL_WARNING: rail r (0 VCORE, 1 VDDA, 2 VIO18, 3 VIO33, 4 VPD) has stayed below its warning level or has recovered, and either
begins the Derate hold anew; its bit is set while it is below (R456, R457, R472). -/
def execRailWarning (t : Nat) (r : Fin 5) (l : RailLevel) (s : State) : Res :=
  runOn islPower (s.at_ t) (fun s => if !deviceUp s then s
    else
      let s := s.modPower (fun p => { p with warnedAt := s.now })
      match l with
      | .below mv => ((((s.orBits PW_RAIL_STATUS (2 ^ r.val)).inc PW_WARNINGS).set PW_STATE 1).holdBack).jPower 0x01 0xFFFF mv r.val
      | .recovered => s.clearBits PW_RAIL_STATUS (2 ^ r.val))

/-- DERATE_END: PW_DERATE_HOLD has passed with every rail recovered; class 3 is queued (R457). -/
def execDerateEnd (t : Nat) (s : State) : Res :=
  runOn islPower (s.at_ t) (fun s =>
    if deviceUp s ∧ s.nat PW_STATE = 1 ∧ s.nat PW_RAIL_STATUS &&& 0x1F = 0 ∧ s.power.warnedAt + ms (s.nat PW_DERATE_HOLD) ≤ s.now then
      let s := s.set PW_STATE 0
      let l := s.power.waiting
      let s := (s.modPower (fun p => { p with waiting := [] })).each l (fun d s => s.queueDomain d)
      s.jPower 0x02 0xFFFF 0 0xFF
    else s)

/-! ### Device resets (R455, R458, R461, R510) -/

/-- What Hearth, MRAM and the fuses keep of the dictionary (R461, R519); of the safety configuration they keep the images, and
the edits are lost (R300, R322). -/
def keptKey (k : Nat) : Bool :=
  (match Catalog.find k with
    | some r => r.retained && decide (r.acc ≠ .sfy)
    | none => false) ||
  (decide (0x1230 ≤ k / 256) && decide (k / 256 ≤ 0x126F)) || [JL_FIRST, JL_NEXT, FW_SEC_MIN, FW_KEY_STATE].contains k

/-- A device reset: every domain off, every object at its default but for what is kept (R322, R455, R461, R510). -/
def State.deviceReset (s : State) : State :=
  let up : State := { State.reset with
    now := s.now, tbOff := s.tbOff, dict := s.dict.filter (fun e => keptKey e.1), blobs := s.blobs.filter (fun e => keptKey e.1),
    hbs := State.reset.hbs.map (fun h => { h with lowAt := some s.now, ageFrom := s.now }),
    sessions := [], images := s.images, latch := s.latch, ring := s.ring, freeCtr := s.freeCtr, pending := s.pending, outs := s.outs,
    power := { s.power with stage := 0, service := false, warnedAt := 0, waiting := [], wakes := [], stopped := [] } }
  let up := up.set PW_RAIL_STATUS (s.nat PW_RAIL_STATUS &&& 0x60 : Nat)
  (up.each ((List.range 64).filter (fun i => decide (i ≠ islPower ∧ i ≠ 60))) (fun i u => u.set (IS_STATE i) 3)).provision

/-- The device leaves reset: the domains that R466 keeps on are queued, the PLLs lock (R455, R467). -/
def State.leaveReset (s : State) : State :=
  let s := s.modPower (fun p => { p with held := false, outAt := s.now })
  let s := (s.clearBits PW_RAIL_STATUS 0x0F).set TB_REF_STATE 1
  (s.each (allDomains.filter (fun d => !keptOff s d)) (fun d s => s.set (PW_DOM_STATE d) 1)).syncQueue

/-- RESET_N is low: every domain but Hearth is reset; in H1–H3 only its level counts, when the return completes (R455, R460). -/
def execResetN (t : Nat) (s : State) : Res :=
  let s := (s.at_ t).modPower (fun p => { p with resetLow := true })
  done (if s.power.source = 0 then (s.deviceReset).modPower (fun p => { p with held := true }) else s)

/-- LEAVING_RESET: the main rails have been good since an instant, and RESET_N is high (R455). In H1–H3 it says no more than that
RESET_N is high again (R460). -/
def execLeavingReset (t : Nat) (good : Nat) (s : State) : Res :=
  let s := (s.at_ t).modPower (fun p => { p with resetLow := false })
  done (if s.power.source = 0 ∧ s.power.held ∧ good + us (s.nat PW_GOOD_TIME) ≤ s.now then s.leaveReset else s)

/-! ### Hearth (R441, R458–R460) -/

/-- Hearth has advanced the count by itself, within 100 ppm: a free value (R441). -/
def State.hearthCount (s : State) : State :=
  let d := (s.now - s.power.countAt) / 10000
  let (v, s) := s.free
  ({ s with tbOff := s.tbOff + ((v % (2 * d + 1) : Nat) : Int) - d }).modPower (fun p => { p with countAt := s.now })

/-- Hearth loses power: the count, the supply record and PW_LAST_BACKUP, which no memory retains, are lost (R460, R464, R472). -/
def State.loseHearth (s : State) : State :=
  ((s.orBits PW_RAIL_STATUS 0x40).set PW_LAST_BACKUP 0).modPower (fun p =>
    { p with source := 0, held := true, lost := true, vbak := false, supply := [], dropped := 0 })

/-- The entry to H2 (R459). -/
def State.enterBackup (s : State) : State :=
  ((s.inc PW_BACKUPS).set PW_LAST_BACKUP s.tbNs).modPower (fun p => { p with source := 2, dwellFrom := s.now })

/-- A main failure: a device reset and the hand-over to VBAK; in H3 the return is abandoned (R458, R460). -/
def State.mainFailure (s : State) (r mv : Nat) : State :=
  match s.power.source with
  | 0 =>
    let s := s.deviceReset.orBits PW_RAIL_STATUS (2 ^ r)
    if s.power.vbak then s.modPower (fun p => { p with source := 1, held := true, countAt := s.now }) else s.loseHearth
  | 3 =>
    let s := s.hearthCount.orBits PW_RAIL_STATUS (2 ^ r)
    s.enterBackup.jHearth 0x0C mv r 0
  | _ => s

/-- MAIN_FAILURE: main rail r with its lowest reading. -/
def execMainFailure (t : Nat) (r : Fin 4) (mv : Nat) (s : State) : Res := done ((s.at_ t).mainFailure r.val mv)

/-- HEARTH_HANDOVER_DONE: H1 completes (R459). -/
def execHearthHandoverDone (t : Nat) (s : State) : Res :=
  let s := s.at_ t
  done (if s.power.source = 1 then
    let s := s.hearthCount.enterBackup
    s.jHearth 0x03 0 0xFF s.tbNs
  else s)

/-- RETURN_START: the dwell has passed and the main rails have been good since an instant (R459). -/
def execReturnStart (t : Nat) (good : Nat) (s : State) : Res :=
  let s := s.at_ t
  done (if s.power.source = 2 ∧ s.power.dwellFrom + us (s.nat PW_DWELL) ≤ s.now ∧ good + us (s.nat PW_GOOD_TIME) ≤ s.now then
    (s.clearBits PW_RAIL_STATUS 0x0F).modPower (fun p => { p with source := 3 })
  else s)

/-- RETURN_COMPLETE: H0, and the domains wake under Damper unless RESET_N is low (R455, R459). -/
def execReturnComplete (t : Nat) (s : State) : Res :=
  let s := s.at_ t
  done (if s.power.source = 3 then
    let s := s.hearthCount.modPower (fun p => { p with source := 0 })
    let s := (s.set PW_LAST_RETURN s.tbNs).jHearth 0x04 0 0xFF s.tbNs
    if s.power.resetLow then s else s.leaveReset
  else s)

/-- VBAK_LOST: VBAK falls below its available level in H0 (R460). -/
def execVbakLost (t : Nat) (mv : Nat) (s : State) : Res :=
  runOn islPower (s.at_ t) (fun s => if s.power.source = 0 ∧ s.power.vbak then
    ((s.orBits PW_RAIL_STATUS 0x40).modPower (fun p => { p with vbak := false })).jPower 0x05 0xFFFF mv 5
  else s)

/-- VBAK_RESTORED (R460). -/
def execVbakRestored (t : Nat) (mv : Nat) (s : State) : Res :=
  runOn islPower (s.at_ t) (fun s => if s.power.source = 0 ∧ !s.power.vbak then
    ((s.clearBits PW_RAIL_STATUS 0x40).modPower (fun p => { p with vbak := true })).jPower 0x06 0xFFFF mv 5
  else s)

/-- HEARTH_POWER_LOST: VBAK is lost in H1–H3 (R460). -/
def execHearthPowerLost (t : Nat) (s : State) : Res :=
  let s := s.at_ t
  done (if s.power.source = 0 then s else s.loseHearth)

/-! ### Damper (R467) -/

/-- The admissions of the last 1 µs. -/
def recentWakes (s : State) : List (Nat × Nat) := s.power.wakes.filter (fun w => decide (s.now < w.2 + us 1))

/-- The loop of R467. -/
def State.damper (s : State) : Nat → State
  | 0 => s
  | k + 1 =>
    match queued s with
    | [] => s
    | d :: _ =>
      let w := recentWakes s
      if 8 ≤ w.length then s
      else if 300 < (w.map (fun e => domStep e.1)).sum + domStep d then s.inc PW_DAMP_HOLDS
      else
        let s := s.modPower (fun p => { p with wakes := (d, s.now) :: w })
        (((s.set (PW_DOM_STATE d) 2).inc PW_DAMP_WAKES).syncQueue).damper k

/-- DAMPER_TICK. -/
def execDamperTick (t : Nat) (s : State) : Res :=
  runOn islPower (s.at_ t) (fun s => if deviceUp s then s.damper 132 else s)

/-- A pin whose pre-driver is on and whose VPD is good leaves High impedance for Hold off (R117). -/
def State.drivePin (s : State) (n : Fin 18) (high : Bool) : State :=
  s.modHb n (fun h => if (h.pin high).st = .highZ then h.setPin high { h.pin high with st := .holdOff } else h)

/-- VPD is above its monitor threshold. -/
def vpdGood (s : State) : Bool := !bitOf (s.nat PW_RAIL_STATUS) 5

/-- A domain is on: its island runs; a pre-driver's pin is driven; a mode waiting for a CAN controller takes effect
(R117, R466, R467). -/
def State.domainUp (s : State) (d : Nat) : State :=
  let s := s.set (PW_DOM_STATE d) 3
  let s := match domIsland d with
    | some i => if s.nat (IS_STATE i) = 3 then s.set (IS_STATE i) 0 else s
    | none => s
  if h : d < 36 then (if vpdGood s then s.drivePin ⟨d / 2, by omega⟩ (decide (d % 2 = 0)) else s)
  else if h : 114 ≤ d ∧ d < 116 then
    let b : Fin 2 := ⟨d - 114, by omega⟩
    match (s.cb b).asked with
    | some v => if (s.cb b).mode = 0 then s.canMode b v else s
    | none => s
  else s

/-- A pre-driver domain is on. -/
def preDriverOn (s : State) (d : Nat) : Bool := decide (domState s d = 3)

/-- VPD_GOOD (R117). -/
def execVpdGood (t : Nat) (s : State) : Res :=
  runOn islPower (s.at_ t) (fun s =>
    let s := s.clearBits PW_RAIL_STATUS 0x20
    if !deviceUp s then s
    else s.each allHbs (fun n s => s.each [true, false] (fun high s =>
      if preDriverOn s (2 * n.val + if high then 0 else 1) then s.drivePin n high else s)))

/-- The island that owns an SRAM bank; for banks 6–12, whose table names a group, the island named (R465, R468). -/
def bankOwner (m : Nat) (own : Nat) : Nat := if m < 6 then islStore else if 13 ≤ m then islCapture else own

/-- The island that a domain's wake failure faults (R468). -/
def wakeFaultIsland (d own : Nat) : Nat :=
  if d < 36 then d / 6 else if d < 54 then (d - 36) / 3
  else if 79 ≤ d ∧ d < 95 then bankOwner (d - 79) own else (domIsland d).getD 62

/-! ### SRAM (R469) -/

/-- The ECC check of the self-test has read the word of an error in the banks of the image (R328; log entry 27). -/
def State.eccRead (s : State) (m : Fin 16) : State := if m.val < 6 then s.transfers 13 8 else s

/-- SRAM_SINGLE_BIT_ERROR in bank m. -/
def execSramSingleBitError (t : Nat) (m : Fin 16) (s : State) : Res :=
  runOn islPower (s.at_ t) (fun s => (s.eccRead m).inc PW_SRAM_CORR)

/-- SRAM_DOUBLE_BIT_ERROR: in proofing (banks 0–5) it aborts the transactions it touches, else it faults the owner of the
bank. -/
def execSramDoubleBitError (t : Nat) (m : Fin 16) (proofing : Bool) (ids : List Nat) (own : Fin 64) (s : State) : Res :=
  runOn islPower (s.at_ t) (fun s =>
    let s := ((s.eccRead m).inc PW_SRAM_UNCORR).jPower 0x0A (79 + m.val) 0 0xFF
    if proofing ∧ m.val < 6 then
      s.each ids (fun i s => match s.tx i with
        | some x => if x.live then s.abortTx i 0x05 0 else s
        | none => s)
    else s.faultOutcome (bankOwner m own))

/-- TAP_LEAVING_TEST_LOGIC_RESET: the JTAG test wakes, or is off again with its TAP back in Test-Logic-Reset (R466). -/
def execTapLeavingTestLogicReset (t : TapIn) (s : State) : Res :=
  runOn islPower (s.at_ t.at_) (fun s => if !deviceUp s then s else if t.back then s.sleep 131 else s.wake 131)

/-! ### The reset sequence, steps 1–4 (R300, R462–R464, R510) -/

/-- A record of MRAM fails its CRC: its default, or a disabled key slot, and 0xB, 0x08 (R462). -/
def State.badRecord (s : State) (k : Nat) : State :=
  let i := k / 256
  let s := if 0x1230 ≤ i ∧ i ≤ 0x126F then s.set (SS_KEY_EN (i - 0x1230)) 0
    else (s.set k (Catalog.default k)).setBlob k []
  s.jPower 0x08 i 0 0xFF

/-- SS_KEY_SET shows the slots whose record holds a key with a valid CRC (R461). -/
def State.keysSet (s : State) (bad : List Nat) : State :=
  s.each (List.range 64) (fun k s =>
    s.setFlag (SS_KEY_SET k) (decide (s.blob (SS_KEY k) ≠ []) && !(bad.any (fun b => decide (b / 256 = 0x1230 + k)))))

/-- The channels read the image with the highest generation; `agree` whether both find its check value. Without one, or where
they do not agree, the defaults stay in force and in the dictionary image (R300, R322). -/
def State.readConfig (s : State) (agree : Bool) : State :=
  match bestImage s with
  | none => (s.editTo []).set SF_CFG_STATE 0
  | some m =>
    let s := s.set SF_CFG_GEN m.gen
    if agree ∧ checkValue m.vals = m.crc then
      (((s.editTo m.vals).loadConfig m.vals).set SF_CFG_STATE 4).set SF_CRC_CONFIRMED m.crc
    else ((s.editTo []).set SF_CFG_STATE 5).jConfig 0x2C m.crc 0

/-- Step 1 of R510 is over: every domain that R466 does not keep off has come on under Damper, or has failed to. -/
def allUp (s : State) : Bool := allDomains.all (fun d => keptOff s d || decide (domState s d = 3 ∨ domState s d = 4))

/-- RESET_SEQUENCE: steps 1–4 of R510, with the MRAM records that fail their CRC, whether the channels agree with the stored
check value, and whether each passes its start-up self-test. -/
def execResetSequence (t : Nat) (bad : List Nat) (agree testA testB : Bool) (s : State) : Res :=
  let s := s.at_ t
  done (if !deviceUp s ∨ s.power.stage ≠ 0 ∨ !allUp s then s
  else
    let on := allDomains.filter (fun d => decide (domState s d = 3))
    let s := s.modPower (fun p => { p with stage := 1, service := false })
    let s := (s.each on (fun d s => s.domainUp d)).beginElection
    let s := s.set TB_REF_STATE 2
    let s := if s.power.lost then
        ({ s with tbOff := -(s.now : Int), tbFrac := 0 }.modPower (fun p => { p with lost := false })).jPower 0x07 0xFFFF 0 0xFF
      else s
    let s := (s.each bad (fun k s => if keptKey k then s.badRecord k else s)).keysSet bad
    let s := s.provision.replaySupply
    let s := s.modChan 0 (fun k => { k with selfBad := !testA })
    let s := s.modChan 1 (fun k => { k with selfBad := !testB })
    (s.readConfig agree).syncTongs)

end Sys2Proof.Machine
end

