-- ==== Sys2Proof/Machine/Dict.lean ====
section
/-! DEFINITION. The object dictionary's access checks: sizes and descriptors, and checks 1 to 9 of R321 (R312–R317, R321,
R328, R343, R351, R556–R558). -/

namespace Sys2Proof.Machine
open Obj

/-! ### Types (R312, R316) -/

/-- Two's complement. -/
def Ty.signed : Ty → Bool
  | .i8 => true
  | .i16 => true
  | .i32 => true
  | .i64 => true
  | .q => true
  | _ => false

/-- Type code. -/
def Ty.code : Ty → Nat
  | .bool => 1
  | .u8 => 2
  | .u16 => 3
  | .u32 => 4
  | .u64 => 5
  | .i8 => 6
  | .i16 => 7
  | .i32 => 8
  | .i64 => 9
  | .q => 10
  | .str => 11
  | .blob => 12

/-- STR or BLOB. -/
def Ty.long (t : Ty) : Bool := decide (t.size = 0)

/-- Access code (R313). -/
def Acc.code : Acc → Nat
  | .ro => 1
  | .rw => 2
  | .wo => 3
  | .rwt => 4
  | .sfy => 5
  | .svc => 6

/-- The number that the bytes of a type spell. -/
def Ty.value (t : Ty) (bs : Bytes) : Int := if t.signed then signExt (8 * t.size) (ofLe bs) else ofLe bs

/-- Least and greatest member of a range, of a STR or BLOB that of its lengths (R316). -/
def ObjRow.least (r : ObjRow) : Int :=
  if r.bits.isSome && !r.ty.long then 0 else (r.ranges.map (·.1)).foldl min ((r.ranges.headD (0, 0)).1)
def ObjRow.greatest (r : ObjRow) : Int :=
  match if r.ty.long then none else r.bits with
  | some b => b
  | none => (r.ranges.map (·.2)).foldl max ((r.ranges.headD (0, 0)).2)

/-- m of the Q objects: A_TRIM_MAX and G_AMPL, and the gain A_FUS_KTHETA, are Q1.31 (R92, R211, R252). -/
def qm (t : Ty) : Nat := if t = .q then 1 else 0

/-- The default of an object on this device (R558). -/
def deviceDefault (k : Nat) : Int := if k = DV_SERIAL then serialNo else Catalog.default k

/-- The descriptor of an object (R316, R528, R529). -/
def descriptor (k : Nat) (r : ObjRow) : Bytes :=
  let f (v : Int) : Bytes := padTo 8 (le (if r.ty.long then 8 else r.ty.size) v)
  let flags : Nat := (if r.live then 1 else 0) + (if r.shadowed then 2 else 0) + (if r.versioned then 4 else 0) +
    (if r.retained then 8 else 0)
  le 2 (k / 256 : Nat) ++ le 1 (k % 256 : Nat) ++ le 1 r.ty.code ++ le 1 r.acc.code ++ le 1 r.mask ++ le 1 (qm r.ty) ++ le 1 flags ++
    f (if r.ty.long then 0 else deviceDefault k) ++ f r.least ++ f r.greatest

/-! ### Instances of an index -/

def secAt (k : Nat) : Option (Fin 6) :=
  let i := k / 65536
  if h : 0x20 ≤ i ∧ i < 0x26 then some ⟨i - 0x20, by omega⟩
  else if h : 0x30 ≤ i ∧ i < 0x36 then some ⟨i - 0x30, by omega⟩ else none

def axAt (k : Nat) : Option (Fin 4) :=
  let i := k / 65536
  if h : 0x50 ≤ i ∧ i < 0x54 then some ⟨i - 0x50, by omega⟩ else none

def slotAt (k : Nat) : Option (Fin 48) :=
  let i := k / 256
  if h : 0x4100 ≤ i ∧ i < 0x4130 then some ⟨i - 0x4100, by omega⟩ else none

def encAt (k : Nat) : Option (Fin 2) :=
  let i := k / 4096
  if h : 0x580 ≤ i ∧ i < 0x582 then some ⟨i - 0x580, by omega⟩ else none

def genAt (k : Nat) : Option (Fin 4) :=
  let i := k / 256
  if h : 0x7000 ≤ i ∧ i < 0x7004 then some ⟨i - 0x7000, by omega⟩ else none

def keySlotAt (k : Nat) : Option (Fin 64) :=
  let i := k / 256
  if h : 0x1230 ≤ i ∧ i < 0x1270 then some ⟨i - 0x1230, by omega⟩ else none

def profAt (k : Nat) : Option (Fin 16) :=
  let i := k / 256
  if h : 0x1220 ≤ i ∧ i < 0x1230 then some ⟨i - 0x1220, by omega⟩ else none

/-- Controller b of an index of 0x1500–0x15FF: its own block, its queue entry, its PDO (R434–R436). -/
def canAt (k : Nat) : Option (Fin 2) :=
  (([0, 1] : List (Fin 2)).find? (fun b =>
    decide (CB_MODE b / 256 = k / 256) || (entries.any (fun (e : Fin 64) => decide (CB_Q_OWNER b e / 256 = k / 256)))))

/-- Queue entry of an index. -/
def entryAt (k : Nat) : Option (Fin 2 × Fin 64) :=
  (([0, 1] : List (Fin 2)).map (fun b => entries.map (fun e => (b, e)))).flatten.find? (fun p =>
    decide (CB_Q_OWNER p.1 p.2 / 256 = k / 256))

/-! ### Who asks (R314, R328) -/

/-- The firmware on its own account. -/
def sidFw : Nat := 0xFFFF

/-- Without a valid bank the boot ROM alone serves, with the Service role (R511). -/
def bootOnly (s : State) : Bool := !s.power.service && decide (s.power.stage = 2)

/-- The roles under which a request is judged: the session's own; the firmware's writes carry every role but the Safety
Officer's (R314; log entry 24). -/
def rolesOf (s : State) (sid : Nat) : Option Nat :=
  if sid = sidFw then some 0x16 else if bootOnly s ∧ sid = sidHost then some 16 else ((s.session sid).bind (fun n => if n.opening.isNone then some n.roles else none))

/-- Some role stands in a mask. -/
def permits (mask roles : Nat) : Bool := decide (mask &&& roles ≠ 0)

/-- Every request waits while the store island is not running, or dictionary service is closed; while it is closed the boot
ROM serves index 0x1000 and 0x1701 to the host session (R505, R510). -/
def served (s : State) (sid key : Nat) : Bool :=
  runs s islStore &&
    (s.power.service || (bootOnly s && decide (sid = sidHost) &&
      (decide (key / 256 = 0x1000) || decide (key / 256 = 0x1701))))

/-- The host session of a request: it exists while no key slot is enabled (R345), and the boot ROM serves it without a valid
bank (R511). -/
def State.ensureHost (s : State) : State := if s.flag HP_PROVISIONED && !bootOnly s then s else s.hostSession

/-! ### Checks 2 to 9 (R321) -/

/-- The transaction that stages the writes of a session (R363). -/
def staging (s : State) (sid : Nat) : Option Tx :=
  match s.session sid with
  | some n => s.txs.find? (fun t => decide (t.id = n.txCur ∧ t.st = 1 ∧ t.owner = sid))
  | none => none

/-- Whether a write of a session to an object is staged (R363). -/
def stages (s : State) (sid key : Nat) : Bool :=
  (staging s sid).isSome && !(decide (0x1200 ≤ key / 256) && decide (key / 256 ≤ 0x13FF))

/-- Check 4 for a write (R313, R290, R364). -/
def classCode (s : State) (sid : Nat) (staged : Bool) (roles : Nat) (r : ObjRow) : Nat :=
  match r.acc with
  | .ro => rcReadOnly
  | .rw => 0
  | .wo => 0
  | .rwt => if staged then 0 else rcTxOnly
  | .sfy => if !staged ∧ s.nat SF_CFG_STATE = 1 ∧ s.nat SF_CFG_OWNER = sid then 0 else rcSafety
  | .svc => if !staged ∧ permits 16 roles then 0 else rcService

/-- A selector of R167. -/
def selectorOk (w : Nat) : Bool :=
  let i := w % 4096
  match w / 4096 with
  | 0 => decide (i = 0)
  | 1 => decide (i < 48)
  | 2 => decide (i < 6)
  | 3 => decide (i < 18)
  | 4 => decide (i < 6)
  | 5 => decide (i < 64)
  | 6 => decide (i < 48)
  | 7 => decide (i < 4)
  | _ => false

/-- A sink of R169 and R191. -/
def sinkOk (w : Nat) : Bool :=
  let i := w % 4096
  match w / 4096 with
  | 0 => decide (i = 0)
  | 1 => decide (i < 6)
  | 2 => decide (i < 64) && (decide (i % 16 < 3) || decide (10 ≤ i % 16))
  | _ => false

/-- An object of a slot (R188). -/
def slotRow (k : Nat) : Bool := decide (0x4100 ≤ k / 256) && decide (k / 256 < 0x4130)

/-- A value lies within the members of a range and is a multiple of its step. -/
def ObjRow.within (r : ObjRow) (v : Int) : Bool :=
  r.ranges.any (fun m => decide (m.1 ≤ v) && decide (v ≤ m.2)) && decide (v % (r.mult : Int) = 0)

/-- Check 9: the range; a bit form is judged by its defined bits alone, and the ranges that the tables give by a rule are
judged by that rule (R316, R557; R253, R351). -/
def inRange (s : State) (k : Nat) (r : ObjRow) (bs : Bytes) : Bool :=
  if r.ty.long then r.ranges.any (fun m => decide (m.1 ≤ bs.length) && decide ((bs.length : Int) ≤ m.2))
  else
    let v := r.ty.value bs
    if k = SS_LOCK then lockValueOk v.toNat
    else if k = C_PRE then decide (v ≤ (s.nat C_DEPTH - 1 : Nat))
    else if 0x7020 ≤ k / 256 ∧ k / 256 < 0x7040 ∧ k % 256 = 1 then selectorOk v.toNat || decide (v / 4096 = 8)
    else if slotRow k ∧ 0x13 ≤ k % 256 ∧ k % 256 ≤ 0x16 then selectorOk v.toNat
    else if slotRow k ∧ k % 256 = 0x1A then sinkOk v.toNat
    else match r.bits with
      | some _ => true
      | none => r.within v

/-- Check 8: the length of the type, and a BOOL is 0 or 1. -/
def lengthOk (r : ObjRow) (bs : Bytes) : Bool :=
  if r.ty.long then decide (bs.length ≤ 1024)
  else decide (bs.length = r.ty.size) && (decide (r.ty ≠ .bool) || decide (ofLe bs ≤ 1))

/-- A value of n U32 with the bits of each outside a mask cleared. -/
def maskWords (m : Nat) (bs : Bytes) : Bytes :=
  (List.range (bs.length / 4)).flatMap (fun i => le 4 ((ofLe (fieldAt bs (4 * i) 4) &&& m : Nat) : Int))

/-- The value with its reserved bits cleared, in a BLOB of U32 those of each (R10, R320, R557). -/
def cleaned (r : ObjRow) (bs : Bytes) : Bytes :=
  match r.bits with
  | some b => if r.ty.long then maskWords b bs else le r.ty.size ((ofLe bs &&& b : Nat) : Int)
  | none => bs

/-- A key-slot object whose slot grants a role that the writer lacks, before the write or after it (R343). -/
def keyBarred (s : State) (roles : Nat) (k : Nat) (bs : Bytes) : Bool :=
  match keySlotAt k with
  | some j =>
    let covers (m : Nat) : Bool := decide (m &&& roles = m)
    !covers (s.nat (SS_KEY_ROLES j)) || (decide (k % 256 = 3 ∧ bs.length = 1) && !covers (ofLe bs &&& 31))
  | none => false

/-- Checks 2 to 6 of R321 for a write of the bytes bs: 0 or the first failing check's code, in order; 0x05 also by R343. -/
def checkHead (s : State) (sid : Nat) (staged : Bool) (k : Nat) (bs : Bytes) : Nat :=
  if !Catalog.indexDefined (k / 256) then rcNoIndex
  else match Catalog.find k, rolesOf s sid with
    | none, _ => rcNoSub
    | some _, none => rcRole
    | some r, some roles =>
      let c := classCode s sid staged roles r
      if c ≠ 0 then c
      else if !permits r.mask roles || keyBarred s roles k bs then rcRole
      else if lockedBy s sid k then rcLocked
      else 0

/-- Checks 8 and 9 of R321. -/
def checkValue9 (s : State) (k : Nat) (bs : Bytes) : Nat :=
  match Catalog.find k with
  | none => rcNoSub
  | some r => if !lengthOk r bs then rcLength else if !inRange s k r bs then rcRange else 0

/-! ### Anvil clips of written values (R282) -/

/-- The bound of an object that Anvil bounds at write: detail, least, greatest, and the readbacks that bound it. -/
def anvilBound (s : State) (k : Nat) : Option (Nat × Int × Int × Nat × Nat) :=
  match secAt k with
  | none => none
  | some x =>
    if k / 65536 < 0x20 ∨ 0x26 ≤ k / 65536 then none
    else match k % 65536 with
      | 0x0403 => some (1, 0, s.get (SF_ANV_DUTY_MAX_IN x), 0, SF_ANV_DUTY_MAX_IN x)
      | 0x0706 => some (4, s.get SF_ANV_TSW_LO_IN, s.get SF_ANV_TSW_HI_IN, SF_ANV_TSW_LO_IN, SF_ANV_TSW_HI_IN)
      | 0x0707 => some (4, s.get SF_ANV_TSW_LO_IN, s.get SF_ANV_TSW_HI_IN, SF_ANV_TSW_LO_IN, SF_ANV_TSW_HI_IN)
      | 0x070A => some (5, 0, s.get SF_ANV_BLW_MAX_IN, 0, SF_ANV_BLW_MAX_IN)
      | m =>
        if 0x0800 ≤ m ∧ m < 0x0B00 ∧ 1 ≤ m % 256 ∧ m % 256 ≤ 4 then
          some (3, s.get SF_ANV_CODE_LO_IN, s.get SF_ANV_CODE_HI_IN, SF_ANV_CODE_LO_IN, SF_ANV_CODE_HI_IN)
        else none

/-- A value within its range is clipped to its Anvil bound and the clip is journalled (R282, R321). -/
def State.clip (s : State) (rq k : Nat) (v : Int) : Int × State :=
  match anvilBound s k with
  | none => (v, s)
  | some (d, lo, hi, klo, khi) =>
    let n := max lo (min v hi)
    if n = v then (v, s) else (n, s.jClip islStore d k rq v n (if v < n then klo else khi))

end Sys2Proof.Machine
end

