-- ==== Sys2Proof/Machine/Rules.lean ====
section
/-! DEFINITION. Check 10 of R321: the relations among objects that a committed state must keep (R31, R36, R48, R88, R126,
R132, R153, R171, R191, R197, R208, R217, R233, R234, R247, R273, R430, R515, R559), and the rules that allow a write of one
object. `s` is the present state and `c` the state with the written values in it. -/

namespace Sys2Proof.Machine
open Obj

/-! ### Slots (R171, R191, R202) -/

/-- The slot whose output triggers an enabled slot. -/
def trigPred (c : State) (k : Fin 48) : Option (Fin 48) :=
  let tr := c.nat (K_TRIG k)
  if c.flag (K_ENABLE k) ∧ tr < 4 then
    let w := c.nat (K_IN k tr)
    if h : w / 4096 = 1 ∧ w % 4096 < 48 then (if c.flag (K_ENABLE (w % 4096)) then some ⟨w % 4096, h.2⟩ else none) else none
  else none

/-- The trigger chain upwards from a slot does not end. -/
def trigLoop (c : State) : Nat → Fin 48 → Bool
  | 0, _ => true
  | n + 1, k => match trigPred c k with
    | some j => trigLoop c n j
    | none => false

/-- A row of R171 or R191 holds of one slot. -/
def slotBad (c : State) (k : Fin 48) : Bool :=
  let tr := c.nat (K_TRIG k)
  let sink := c.nat (K_SINK k)
  (decide (sink ≠ 0) && allSlots.any (fun j => decide (j ≠ k) && decide (c.nat (K_SINK j) = sink))) ||
    (decide (sink / 4096 = 1) &&
      decide (4 < (allSlots.filter (fun j => decide (laneOf j = laneOf k) && decide (c.nat (K_SINK j) / 4096 = 1))).length)) ||
    (c.flag (K_ENABLE k) && decide (tr < 4) && decide (c.nat (K_IN k tr) / 4096 = 0)) ||
    (decide (tr = 4) && decide (c.get (K_TIMER k) < 1000)) ||
    trigLoop c 49 k ||
    [0, 1, 2, 3].any (fun i => !selectorOk (c.nat (K_IN k i)) || decide (c.nat (K_IN_SIGN k) / 4 ^ i % 4 = 3)) ||
    !sinkOk sink || decide (c.get (K_MAX k) < c.get (K_MIN k)) || decide (c.get (K_ORDER k) < 2) || decide (3 < c.get (K_ORDER k))

/-- Some slot breaks R171 in a state. -/
def slotsBad (c : State) : Bool := allSlots.any (slotBad c)

/-- The values of the armed snatch transactions on top (R202). -/
def withArmed (c : State) : State :=
  c.each allAxes (fun a c => c.each (c.ax a).armed (fun w c => c.set (0x410000 + 0x100 * w.1.val + w.2.1) w.2.2))

/-! ### Axes and membership (R31, R36, R88, R197, R208, R217, R233, R234, R273) -/

/-- An assignment of section x moves while it runs (R31). -/
def movesLive (s c : State) (x : Fin 6) : Bool :=
  decide (1 ≤ s.nat (S_STATE x)) && decide (s.nat (S_STATE x) ≤ 3) &&
    [S_AXIS x, S_STAGGER x, S_RATING x, S_SEGMENT x].any (fun k => decide (s.get k ≠ c.get k))

/-- The membership objects of R36. -/
def memberBad (c : State) : Bool :=
  let used := allAxes.map (fun a => c.nat (A_CASCADE_AXIS a))
  (decide (c.nat NZ_ROLE = 1) && allAxes.any (fun a => decide (c.nat (A_CASCADE_AXIS a) ≠ 0xFF) && decide (c.nat (A_CASCADE_AXIS a) ≠ a.val))) ||
    [0, 1, 2, 3].any (fun n => decide (1 < used.count n)) ||
    (c.flag NZ_MASTER_CAP && !hostable c)

/-- The slots that feed an axis input and are enabled (R208). -/
def sunk (c : State) (a : Fin 4) (q : Nat) : Bool :=
  allSlots.any (fun k => c.flag (K_ENABLE k) && decide (c.nat (K_SINK k) = 0x2000 + 16 * a.val + q))

/-- R208 for an axis. -/
def renderBad (c : State) (a : Fin 4) : Bool :=
  c.flag (A_RENDER_EN a) && !(sunk c a 0 && sunk c a 1 && decide (c.get (A_HAUL_DIR a) = 1 ∨ c.get (A_HAUL_DIR a) = -1) &&
    decide (c.get (A_RECOVER_TENSION a) < c.get (A_RENDER_TENSION a)) && decide (c.get (A_RENDER_TENSION a) ≤ c.get (A_RENDER_LIMIT a)) &&
    !hoisting c a)

/-- A published channel that another device of the cascade already publishes (R233). -/
def channelTaken (s c : State) : Bool :=
  let fresh := ownChans c - (ownChans c &&& ownChans s)
  decide (fresh &&& takenChans s ≠ 0)

/-- A confirmed configuration is in force, or was when commissioning opened (R273). -/
def confirmedBefore (c : State) : Bool := !c.images.isEmpty && decide (c.nat SF_CFG_STATE ≠ 5)

/-- R273 for an axis against the confirmed configuration. -/
def hoistBad (c : State) (a : Fin 4) : Bool :=
  confirmedBefore c && hoisting c a && (decide (c.nat (A_CASCADE_AXIS a) ≠ 0xFF) || decide (c.cfg SF_ENC_AXIS ≠ a.val) || decide (c.nat (A_ENC_AXIS 0) ≠ a.val) ||
    decide (c.cfg SF_MBK_AXIS ≠ a.val) || sensorless c a)

/-- A section assigned outside the SF_SECTIONS of the confirmed configuration (R273). -/
def sectionsBad (c : State) (x : Fin 6) : Bool :=
  confirmedBefore c && match axisOf c x with
    | some a => !bitOf (c.cfgN (SF_SECTIONS a)) x.val
    | none => false

/-! ### PDOs (R430) -/

/-- A mapping entry: key and length in bits. -/
def mapEntry (w : Nat) : Nat × Nat := (w / 65536 * 256 + w / 256 % 256, w % 256)

/-- The entries in use of a PDO. -/
def mapOfPdo (c : State) (b : Fin 2) (i : Nat) : List (Nat × Nat) :=
  (List.range (c.nat (CB_PDO_NMAP b i))).map (fun j => mapEntry (c.nat (CB_PDO_MAP b i j)))

/-- The reserved session could write an object (R430): its class and its mask. -/
def canWrites (c : State) (b : Fin 2) (k : Nat) : Bool :=
  match Catalog.find k with
  | some r =>
    let roles := c.nat (SS_CAN_ROLES b)
    decide (classCode c (sidCan b) false roles r = 0) && permits r.mask roles
  | none => false

/-- R430 for one valid PDO. -/
def pdoBad (c : State) (b : Fin 2) (i : Nat) : Bool :=
  !bitOf (c.nat (CB_PDO_COBID b i)) 31 &&
    let m := mapOfPdo c b i
    let bytes := (m.map (fun e => e.2 / 8)).sum
    let w := c.nat (CB_PDO_COBID b i) % 2 ^ 30
    m.any (fun e => match Catalog.find e.1 with
      | some r => r.ty.long || decide (e.2 ≠ 8 * r.ty.size)
      | none => true) ||
    decide ((if bitOf (c.nat (CB_PDO_FD b i)) 0 then 64 else 8) < bytes) ||
    (decide (i < 4) && m.any (fun e => !canWrites c b e.1)) ||
    [0, 1, 2, 3].any (fun j => decide (j ≠ i) && (rpdoWord c b j == some w)) ||
    decide (w = 0 ∨ w = 0x080 ∨ w = 0x600 + c.nat (CB_NODE_ID b))

/-! ### The list of relations -/

/-- A relation: the objects that it is about, and whether the candidate state breaks it. -/
structure Relation where
  about : Nat → Bool
  broken : State → State → Bool

/-- Key of section x at offset·256 + sub. -/
def inSec (k : Nat) (base : Nat) (l : List Nat) : Bool := decide (base ≤ k / 65536) && decide (k / 65536 < base + 6) && l.contains (k % 65536)

/-- Key of axis a at offset·256 + sub. -/
def inAx (k : Nat) (l : List Nat) : Bool := (axAt k).isSome && l.contains (k % 65536)

def relations : List Relation := [
  ⟨fun k => inSec k 0x20 [0x0101, 0x0102, 0x0103, 0x0105], fun s c => allSecs.any (movesLive s c)⟩,
  ⟨fun k => inAx k [0x0103] || decide (k = NZ_MASTER_CAP) || inSec k 0x20 [0x0101], fun _ c => memberBad c⟩,
  ⟨fun k => decide (inSec k 0x20 [0x0500 + k % 256]), fun _ c => allSecs.any (fun x =>
      (List.range 15).any (fun i => decide (c.get (S_ADV_SPEED x (i + 1)) < c.get (S_ADV_SPEED x i))))⟩,
  ⟨fun k => inAx k [0x2008, 0x2009], fun _ c => allAxes.any (fun a => decide (c.get (A_HO_SPEED_UP a) ≤ c.get (A_HO_SPEED_DN a)))⟩,
  ⟨fun k => allAxes.any (fun a => decide (k = A_FUS_W_BEMF a ∨ k = A_FUS_W_FLUX a)), fun _ c =>
      allAxes.any (fun a => decide (c.get (A_FUS_W_BEMF a) = 0 ∧ c.get (A_FUS_W_FLUX a) = 0))⟩,
  ⟨fun k => inSec k 0x20 [0x0702, 0x0703], fun _ c => allSecs.any (fun x => decide (c.get (S_HS_TIMEOUT x) < c.get (S_HS_HOLD x) + 20))⟩,
  ⟨fun k => inSec k 0x20 [0x070B, 0x070C], fun _ c => allSecs.any (fun x => decide (c.get (S_BLW_PULSE x) < c.get (S_BLW_MIN_LOW x)))⟩,
  ⟨fun k => inSec k 0x20 [0x0B06, 0x0D02, 0x0D03], fun _ c => allSecs.any (fun x =>
      decide (c.get (S_BRK_ON x) ≤ c.get (S_BRK_OFF x)) || decide (c.get (S_DC_OV x) ≤ c.get (S_BRK_ON x)))⟩,
  ⟨fun k => (slotAt k).isSome && decide (k % 256 ≤ 0x1A), fun _ c => slotsBad c ||
      (allAxes.any (fun a => decide ((c.ax a).armed ≠ [])) && slotsBad (withArmed c))⟩,
  ⟨fun k => inAx k [0x100C, 0x100D], fun _ c => allAxes.any (fun a => decide (c.get (A_DERATE_T1 a) ≤ c.get (A_DERATE_T0 a)))⟩,
  ⟨fun k => inAx k [0x1201, 0x1202, 0x1203, 0x1205, 0x1207] || ((slotAt k).isSome && (decide (k % 256 = 1) || decide (k % 256 = 0x1A))),
    fun _ c => allAxes.any (renderBad c)⟩,
  ⟨fun k => (encAt k).isSome && decide (k % 4096 = 4), fun _ c =>
      decide (c.get (A_ENC_AXIS 0) ≠ 0xFF) && decide (c.get (A_ENC_AXIS 0) = c.get (A_ENC_AXIS 1))⟩,
  ⟨fun k => (encAt k).isSome && decide (k % 4096 = 0x11), channelTaken⟩,
  ⟨fun k => inAx k [0x3103], fun _ c => allAxes.any (fun a => decide (c.get (A_GEAR_DEN a) = 0))⟩,
  ⟨fun k => inAx k [0x0103, 0x2001] || ((encAt k).isSome && decide (k % 4096 = 4)), fun _ c => allAxes.any (hoistBad c)⟩,
  ⟨fun k => inSec k 0x20 [0x0101], fun _ c => allSecs.any (sectionsBad c)⟩,
  ⟨fun k => (decide (0x15C0 ≤ k / 256) && decide (k / 256 < 0x1600)) || [CB_NODE_ID 0, CB_NODE_ID 1, SS_CAN_ROLES 0, SS_CAN_ROLES 1].contains k, fun _ c =>
      ([0, 1] : List (Fin 2)).any (fun b => (List.range 8).any (pdoBad c b))⟩,
  ⟨fun k => decide (k = C_CHANNELS) || (decide (0x7020 ≤ k / 256) && decide (k / 256 < 0x7040) && decide (k % 256 = 1)), fun _ c =>
      decide (4 < ((capChannels c).filter (fun i => decide (c.nat (C_CH_SRC i) / 4096 = 8))).length)⟩,
  ⟨fun k => decide (k = FW_ACTIVATE), fun s c => c.flag FW_ACTIVATE &&
      (decide (s.nat FW_IMG_STATE ≠ 3) || s.fw.armedAt.isSome)⟩]

/-- The first of the written objects that a broken relation is about. -/
def relationFails (s c : State) (keys : List Nat) : Option Nat :=
  keys.find? (fun k => relations.any (fun r => r.about k && r.broken s c))

/-! ### Single objects (check 10) -/

/-- A code of 0x0C when a condition holds. -/
def barIf (b : Bool) : Nat := if b then rcRule else 0

/-- Bits per clock of the CAN timing objects (R418, R419). -/
def canQuanta (c : State) (b : Fin 2) : Nat × Nat :=
  (c.nat (CB_NBRP b) * (1 + c.nat (CB_NTSEG1 b) + c.nat (CB_NTSEG2 b)), c.nat (CB_DBRP b) * (1 + c.nat (CB_DTSEG1 b) + c.nat (CB_DTSEG2 b)))

/-- The timing of controller b permits a mode other than 0 (R419). -/
def canTimingOk (c : State) (b : Fin 2) : Bool :=
  let q := canQuanta c b
  decide (80 ≤ q.1) && decide (q.2 ≤ q.1) && decide (10 ≤ q.2) && decide (c.get (CB_NSJW b) ≤ c.get (CB_NTSEG2 b)) &&
    decide (c.get (CB_DSJW b) ≤ c.get (CB_DTSEG2 b)) && (decide (80 ≤ q.2) || c.flag (CB_TDC_EN b))

/-- Objects of sections (R106, R131, R258, R501, R522). -/
def admitSection (s c : State) (x : Fin 6) (m : Nat) (v : Int) (staged : Bool) : Nat :=
  match m with
  | 0x0201 => barIf (decide (v = 1) && (c.flag (S_SERVICE x) ||
      allAxes.any (fun a => bitOf (c.cfgN (SF_SECTIONS a)) x.val && ((s.cax 0 a).sto || (s.cax 1 a).sto))))
  | 0x0404 => barIf (!staged && match axisOf s x with
      | some a => decide (mode s a = 5)
      | none => false)
  | 0x0F01 => barIf (decide (v = 1) && decide (s.nat (S_STATE x) ≠ 0) && decide (s.nat (S_STATE x) ≠ 4))
  | _ => barIf (decide (0x0800 ≤ m) && decide (m < 0x0B00) && decide (1 ≤ m % 256) && decide (m % 256 ≤ 4) && c.flag (S_TMP_EN x))

/-- The mode that axis a acts in once a mode write still to take effect has done so: the base of Tuning (R492). -/
def actingSoon (s : State) (a : Fin 4) : Nat :=
  match (s.ax a).modeDue with
  | some 6 => mode s a
  | some m => m
  | none => mode s a

/-- A mode write of R491 (and R36: an idle axis takes no mode but Torque, at zero demand), judged on the committed state c with
the mode in force in s (R370); leaving Tuning for another mode than its base is a change from that base (R492). -/
def modeBarred (s c : State) (a : Fin 4) (v : Int) : Bool :=
  let e := s.nat (A_EMERG_STATE a)
  let running := (secsOf c a).any (fun x => decide (1 ≤ s.nat (S_STATE x)) && decide (s.nat (S_STATE x) ≤ 3))
  let tuning := decide ((s.ax a).modeDue.getD (s.nat (A_MODE a)) = 6)
  bitOf e 0 ||
    (bitOf e 2 && decide (v ≠ 6) && !(decide (s.nat (A_MODE a) = 6) && decide (v = s.get (A_TUNE_BASE a)))) ||
    (decide (v ≠ 0 ∧ v ≠ 6) && onCascade c a && !isHost c a) ||
    (decide (v = 5) && (hoisting c a || onCascade c a || running)) ||
    (decide (actingSoon s a = 5) && running && !(tuning && decide (v = 6))) ||
    (decide (v = 4) && !sunk c a 1) ||
    (decide (v ≠ 0 ∨ c.get (A_TORQUE_DEM a) ≠ 0) && (secsOf c a).isEmpty && !onCascade c a)

/-- A_SNATCH_TX (R202, R203): the open transaction that it names may be armed. It stages nothing on another device. -/
def snatchMayArm (s : State) (id : Nat) : Bool :=
  match s.tx id with
  | some t => decide (t.st = 1) && t.coord.isNone && t.parts.isEmpty && t.staged.all (fun w => (slotAt w.1).isSome && decide (2 ≤ w.1 % 256) && decide (w.1 % 256 ≤ 0x1A)) &&
      !slotsBad (s.each t.staged (fun w c => match Catalog.find w.1 with
        | some r => c.set w.1 (r.ty.value w.2)
        | none => c)) &&
      !(stagedSlots t).any (fun k => (s.slot k).prepared.isSome)
  | none => false

/-- Objects of axes, on the committed state c what that decides (R203, R220, R225, R227, R491, R493, R497). -/
def admitAxis (s c : State) (a : Fin 4) (m : Nat) (v : Int) : Nat :=
  match m with
  | 0x0201 => barIf (modeBarred s c a v)
  | 0x0203 => barIf (bitOf v.toNat 1 && (!sunk c a 0 || decide (mode s a = 5) || decide (s.nat (SF_STATE a) = 0)))
  | 0x300C => barIf (decide (v = 1) && moveRefused s a)
  | 0x3013 => barIf (decide (s.nat (A_PROF_STATE a) = 1) || decide (s.nat (A_PROF_STATE a) = 3))
  | 0x3014 => barIf (decide (v = 1) && hoisting s a && !bitOf (s.nat (SF_STATUS a)) 11)
  | 0x1106 => barIf (match s.nat (A_SNATCH_STATE a) with
      | 0 => decide (v ≠ 0xFFFF) && !snatchMayArm s v.toNat
      | 1 => decide (v ≠ 0xFFFF)
      | _ => true)
  | _ => 0

/-- Generators and the capture unit (R241–R250): a start is judged on the committed state c (R370). -/
def admitTuning (s c : State) (sid k : Nat) (v : Int) : Nat :=
  if s.flag C_CLAIM ∧ s.nat C_OWNER ≠ sid then rcRule
  else match genAt k with
    | some g =>
      if k % 256 = 1 then barIf (decide (v = 1) && !genBusy s g && !genMayArm c g) else barIf (genBusy s g)
    | none =>
      if k = C_ARM ∧ v = 1 then
        if (1 ≤ s.nat C_STATE ∧ s.nat C_STATE ≤ 3) ∨ c.nat C_CHANNELS = 0 then rcRule
        else match s.session (if s.flag C_CLAIM then s.nat C_OWNER else sid) with
          | some n => if (c.nat (SS_Q_CAPTURE n.profile) : Rat) < capFillRate c then rcQuota else 0
          | none => 0
      else 0

/-- Commissioning (R295, R296, R298): only the owner seals and confirms; R295 lets any session that may write SF_COMMISSION
write it 0. -/
def admitCommission (s : State) (sid k : Nat) (v : Int) : Nat :=
  let st := s.nat SF_CFG_STATE
  if k = SF_COMMISSION then
    barIf (decide (v = 1) && !mayCommission s)
  else if k = SF_CFG_SEAL then
    if decide (s.nat SF_CFG_OWNER ≠ sid) || decide (st = 0) || decide (4 ≤ st) then rcRule
    else if v = 1 then barIf (decide (st = 1) && decide (sealCode s ≠ 0)) else barIf (decide (st = 2))
  else barIf (decide (s.nat SF_CFG_OWNER ≠ sid) || decide (st ≠ 3) || decide (confirmCode s v ≠ 0))

/-- A key-slot object (R343): the code of its own rules, the roles apart. -/
def admitKey (s : State) (j : Fin 64) (sid sub : Nat) (v : Int) : Nat :=
  if sub = 1 then barIf (decide (sid ≠ sidHost) && !(s.session sid).any (fun n => decide (n.port = 2)))
  else if sub = 2 then barIf (decide (v = 1) && !s.flag (SS_KEY_SET j))
  else 0

/-- CAN controllers (R419, R428): timing objects, modes, queue entries. -/
def admitCan (s : State) (c : State) (b : Fin 2) (k : Nat) (v : Int) : Nat :=
  match entryAt k with
  | some (_, e) =>
    let own := s.flag (CB_Q_OWNER b e)
    if k % 256 = 2 then barIf (decide (v = 1) && !ackOk c b e)
    else if k % 256 = 0x0B then barIf (decide (v = 1) && !txOwned s b e)
    else barIf own
  | none =>
    let sub := k % 256
    if k = CB_RECOVER b then barIf (decide (v = 1) && decide (s.nat (IS_STATE (44 + b.val)) = 1 ∨ s.nat (IS_STATE (44 + b.val)) = 2))
    else if 2 < sub ∧ sub ≤ 0x0C ∨ sub = 2 then barIf (decide (s.nat (CB_MODE b) ≠ 0))
    else if sub = 1 then barIf (decide (s.nat (CB_MODE b) = 0) && decide (v ≠ 0) && !canTimingOk c b)
    else 0

/-- Firmware objects (R512–R514, R519). -/
def admitFw (s : State) (k : Nat) (v : Int) : Nat :=
  let st := s.nat FW_IMG_STATE
  if k = FW_PARAM_SAVE then barIf (decide (v = 1) && (s.fw.saving || decide (200000 ≤ s.nat FW_PARAM_GEN)))
  else if k = FW_PARAM_ERASE then barIf (decide (v = 1) && s.fw.saving)
  else if k = FW_IMG_OFFSET then barIf (decide (st = 2 ∨ st = 5) || (decide (v ≠ 0) && decide (v ≠ s.get FW_IMG_OFFSET)))
  else if k = FW_IMG_DATA then barIf (decide (st = 2 ∨ st = 5) || decide (983040 < (s.fw.img.length : Int) + v))
  else if k = FW_IMG_VERIFY then barIf (decide (v = 1) && decide (st ≠ 1))
  else if k = FW_SEC_COMMIT then barIf (decide (v = 1) && (decide (s.nat FW_UPD_STATE = 3 ∨ s.nat FW_UPD_STATE = 4) ||
      match s.fw.running with
      | some i => decide (i.sec ≤ s.nat FW_SEC_MIN)
      | none => true))
  else if k = FW_KEY_REVOKE then barIf (match s.fw.running with
      | some i => bitOf v.toNat i.key
      | none => false)
  else 0

/-- NazLink objects (R394, R407). -/
def admitNaz (s : State) (k : Nat) (v : Int) : Nat :=
  if k = NZ_CYCLE then barIf (isMaster s && decide (1000 * v < (tMin (nazN s) : Int)))
  else if k = NZ_SNAP_GO ∨ k = NZ_BARRIER_GO ∨ k = NZ_CASC_RESET then barIf (decide (v = 1) && decide (s.nat NZ_ROLE = 2))
  else 0

/-- Σr with a profile written (R348). -/
def sumWith (s : State) (j : Fin 16) (v : Int) : Nat :=
  (s.sessions.map (fun n => if n.profile = j.val then v.toNat else rateOf s n.profile)).sum

/-- Σr with the profile of one session written (R348). -/
def sumMoved (s : State) (id j : Nat) : Nat := (s.sessions.map (fun n => rateOf s (if n.id = id then j else n.profile))).sum

/-- Session objects (R343, R348, R351, R358, R479). -/
def admitSession (s : State) (sid k : Nat) (v : Int) : Nat :=
  match keySlotAt k, profAt k with
  | some j, _ => admitKey s j sid (k % 256) v
  | none, some j => if k % 256 = 1 then barIf (decide (150000 < sumWith s j v) && decide (guarSum s < sumWith s j v)) else 0
  | none, none =>
    if k = SS_LOCK then lockCode s sid v.toNat
    else if k = SS_CAN_PROFILE 0 ∨ k = SS_CAN_PROFILE 1 then
      let u := sumMoved s (sidCan (if k = SS_CAN_PROFILE 0 then 0 else 1)) v.toNat
      barIf (decide (150000 < u) && decide (guarSum s < u))
    else if k = NP_PHY_ADDR 0 then barIf (decide (v = s.get (NP_PHY_ADDR 1)))
    else if k = NP_PHY_ADDR 1 then barIf (decide (v = s.get (NP_PHY_ADDR 0)))
    else 0

/-- Objects of which only the value 0 may be written (R556). -/
def onlyZero (k : Nat) : Bool := decide (k = ST_MAX_WAIT) || decide (k = PW_DAMP_MAX_Q) || ((slotAt k).isSome && decide (k % 256 = 0x27))

/-- The transaction objects of a session (R362, R363, R365, R373). -/
def admitTx (s : State) (sid k : Nat) (v : Int) : Nat :=
  match s.session sid with
  | none => rcRule
  | some n =>
    let cur := s.txs.find? (fun t => decide (t.id = n.txCur))
    let openTx := match cur with
      | some t => decide (t.st = 1) && decide (t.owner = sid)
      | none => false
    if k = TX_OPEN then
      if v ≠ 1 then 0
      else if s.nat (SS_Q_TX n.profile) ≤ (openOf s sid).length ∨ 256 ≤ (liveTxs s).length then rcQuota
      else 0
    else if k = TX_CUR then
      barIf (decide (v ≠ 0xFFFF) && !s.txs.any (fun t => decide ((t.id : Int) = v) && decide (t.st = 1) && decide (t.owner = sid)))
    else if k = TX_SEL then barIf (decide (v ≠ 0xFFFF) && !s.txs.any (fun t => decide ((t.id : Int) = v)))
    else if (k = TX_COMMIT ∨ k = TX_ABORT) ∧ n.txCur = 0xFFFF then rcRule
    else if k = TX_COMMIT then barIf (decide (v = 1) && match cur with
      | some t => !openTx || (decide (t.point = 1) && decide (t.secs = 0)) ||
          (decide (t.point = 1 ∨ t.point = 2) && !t.parts.isEmpty && (!t.staged.isEmpty || decide (1 < t.parts.length)))
      | none => true)
    else if k = TX_ABORT then barIf (decide (v = 1) && !openTx)
    else if [TX_POINT, TX_SECTIONS, TX_FENCE_DOM, TX_TIME].contains k then barIf (!openTx)
    else 0

/-- Check 10 for one object, relations apart: 0 or the code of the refusal. -/
def ruleCode (s c : State) (sid k : Nat) (v : Int) (staged : Bool) : Nat :=
  if onlyZero k then barIf (decide (v ≠ 0))
  else if 0x20 ≤ k / 65536 ∧ k / 65536 < 0x26 then (match secAt k with
    | some x => admitSection s c x (k % 65536) v staged
    | none => 0)
  else if (axAt k).isSome then (match axAt k with
    | some a => admitAxis s c a (k % 65536) v
    | none => 0)
  else if 0x7000 ≤ k / 256 ∧ k / 256 < 0x7040 then admitTuning s c sid k v
  else if k = SF_COMMISSION ∨ k = SF_CFG_SEAL ∨ k = SF_CRC_CONFIRM then admitCommission s sid k v
  else if k / 65536 = 0x12 then admitSession s sid k v
  else if k / 256 = 0x1300 ∨ k / 256 = 0x1301 then admitTx s sid k v
  else if k / 65536 = 0x14 then admitNaz s k v
  else if k / 65536 = 0x15 then (match canAt k with
    | some b => admitCan s c b k v
    | none => 0)
  else if k / 65536 = 0x17 then admitFw s k v
  else if k = TB_SET then barIf (!mayStep s)
  else 0

end Sys2Proof.Machine
end

