-- ==== Sys2Proof/Machine/Firmware.lean ====
section
/-! DEFINITION. Firmware: SHA-256, images and their checks, live updates, restarts, the security fuses, the parameter set's
layout, and the ADC self-test (R504–R522, R525). -/

namespace Sys2Proof.Machine
open Obj

/-! ### SHA-256 (R508; the algorithm is that of the standard the rule names, log entry 10) -/

/-- The k-th root of x rounded down, when it is below r + 2ⁿ and r is no more than it: its bits from bit n - 1 down. -/
def rootFrom (k x : Nat) : Nat → Nat → Nat
  | 0, r => r
  | n + 1, r => rootFrom k x n (if (r + 2 ^ n) ^ k ≤ x then r + 2 ^ n else r)

/-- The first 32 bits of the fractional part of the k-th root of p. -/
def rootBits (k p : Nat) : Nat := rootFrom k (p * 2 ^ (32 * k)) 37 0 % 4294967296

/-- The primes up to 311, the first 64. -/
def shaPrimes : List Nat := (List.range 312).filter (fun n => [2, 3, 5, 7, 11, 13, 17].contains n || (decide (1 < n) && decide (Nat.gcd n 510510 = 1)))

/-- The round constants come from the cube roots of the primes, the first state from the square roots of the first eight. -/
def shaK : List Nat := shaPrimes.map (rootBits 3)
def shaInit : List Nat := (shaPrimes.take 8).map (rootBits 2)

/-- A 32-bit word turned right by each of some distances, and the results added without carry. -/
def turned (l : List Nat) (x : Nat) : Nat := l.foldl (fun v n => v ^^^ (x / 2 ^ n + x % 2 ^ n * 2 ^ (32 - n))) 0

/-- The message schedule, newest first, extended by n words. -/
def shaSchedule : Nat → List Nat → List Nat
  | 0, w => w
  | n + 1, w =>
    let back (i : Nat) : Nat := w.getD (i - 1) 0
    let old := turned [7, 18] (back 15) ^^^ back 15 / 8
    let new := turned [17, 19] (back 2) ^^^ back 2 / 1024
    shaSchedule n ((new + back 7 + old + back 16) % 4294967296 :: w)

/-- One round on the eight working words, with the sum of its constant and its message word. -/
def shaRound (v : List Nat) (kw : Nat) : List Nat :=
  match v with
  | [a, b, c, d, e, f, g, h] =>
    let x := h + kw + turned [6, 11, 25] e + (g ^^^ (e &&& (f ^^^ g)))
    let y := turned [2, 13, 22] a + ((a &&& b) ||| (c &&& (a ||| b)))
    [(x + y) % 4294967296, a, b, c, (d + x) % 4294967296, e, f, g]
  | l => l

/-- One block of 64 bytes. -/
def shaBlock (h : List Nat) (block : Bytes) : List Nat :=
  let w := (List.range 16).map (fun i => ofBe (fieldAt block (4 * i) 4))
  let sched := (shaSchedule 48 w.reverse).reverse
  List.zipWith (fun a b => (a + b) % 4294967296) h ((List.zipWith (· + ·) shaK sched).foldl shaRound h)

/-- Blocks of a padded message; `fuel` is at least their number. -/
def shaBlocks : Nat → List Nat → Bytes → List Nat
  | 0, h, _ => h
  | n + 1, h, m => if m.length < 64 then h else shaBlocks n (shaBlock h (m.take 64)) (m.drop 64)

/-- SHA-256. -/
def sha256 (m : Bytes) : Bytes :=
  let pad := 0x80 :: zeros ((119 - m.length % 64) % 64)
  let p := m ++ pad ++ be 8 ((8 * m.length : Nat) : Int)
  ((shaBlocks (p.length / 64) shaInit p).map (fun w => be 4 w)).flatten

/-! ### Images (R508, R509, R514) -/

/-- What a header says of its image. -/
def headerOf (img : Bytes) : FwImg := ⟨ofLe (fieldAt img 12 4), ofLe (fieldAt img 16 4), ofLe (fieldAt img 6 2)⟩

/-- The code of the first check of R509 that fails on the SRAM copy, 0 when rows 1 to 7 and 9 pass. -/
def imageCode (s : State) (img : Bytes) : Nat :=
  let len := ofLe (fieldAt img 8 4)
  let h := headerOf img
  if img.take 4 ≠ le 1 0x41 ++ le 1 0x54 ++ le 1 0x4C ++ le 1 0x46 ∨ ofLe (fieldAt img 4 2) ≠ 1 then 1
  else if 4 ≤ h.key ∨ bitOf (s.nat FW_KEY_STATE) h.key then 2
  else if s.nat DV_STEPPING < ofLe (fieldAt img 20 1) then 3
  else if len % 16 ≠ 0 ∨ 982784 < len then 4
  else if sha256 (fieldAt img 256 len) ≠ fieldAt img 32 32 then 5
  else if !Config.signatureValid h.key (sha256 (img.take 128)) (fieldAt img 128 64) then 6
  else if h.sec < s.nat FW_SEC_MIN then 7
  else if img.length < 256 + len then 9
  else 0

def State.modFw (s : State) (f : Fw → Fw) : State := { s with fw := f s.fw }

/-- An update event of R525, for an image. -/
def State.jUpd (s : State) (detail src bank : Nat) (i : Option FwImg) : State :=
  let v := i.getD ⟨0, 0, 0⟩
  s.jFw 1 islBoot detail src bank (s.nat FW_IMG_RESULT) 0xFF v.version v.sec (s.nat FW_PAUSE_LAST)

/-- The bank that FW_ACTIVE does not name. -/
def spareBank (s : State) : Nat := 1 - s.nat FW_ACTIVE

/-- FW_IMG_OFFSET written (R514): 0 starts the image afresh. -/
def State.imgOffset (s : State) (v : Nat) : State :=
  if v ≠ 0 then s
  else ((s.set FW_IMG_OFFSET 0).set FW_IMG_STATE 0).modFw (fun f => { f with img := [], ready := none })

/-- FW_IMG_DATA written: the block lands at FW_IMG_OFFSET, which advances. -/
def State.imgData (s : State) (bs : Bytes) : State :=
  let s := (s.set FW_IMG_STATE 1).modFw (fun f => { f with img := f.img ++ bs, ready := none })
  s.set FW_IMG_OFFSET s.fw.img.length

/-- FW_IMG_VERIFY written 1 in state 1: the SRAM copy is checked, and a valid one goes to the bank that is not running
(R507, R514). -/
def State.imgVerify (s : State) : State :=
  let code := imageCode s s.fw.img
  let s := (s.set FW_IMG_RESULT code).set FW_IMG_VERSION (headerOf s.fw.img).version
  if code = 0 then
    let a := 0x100000 * spareBank s
    let len := 256 + ofLe (fieldAt s.fw.img 8 4)
    ((s.set FW_IMG_STATE 2).emit (.flashErase a (4096 * ceilDiv len 4096))).emit (.flash a (s.fw.img.take len))
  else (s.set FW_IMG_STATE 4).jUpd 0x81 0x1701 (spareBank s) (some (headerOf s.fw.img))

/-- IMAGE_PROGRAMMED: the bank has been programmed and read back; `ok` when it equals the copy (R509, R514). In boot ROM
operation the device then resets (R511). -/
def execImageProgrammed (t : Nat) (ok : Bool) (s : State) : Res :=
  runOn islBoot (s.at_ t) (fun s => if s.nat FW_IMG_STATE ≠ 2 then s
    else
      let i := headerOf s.fw.img
      if ok then
        let boot := decide (s.nat FW_STATE = 0)
        let s := (s.set FW_IMG_STATE 3).modFw (fun f => { f with ready := some i })
        let s := s.jUpd 0x80 0x1701 (spareBank s) (some i)
        if boot ∧ s.power.stage = 2 then s.deviceReset.leaveReset else s
      else ((s.set FW_IMG_RESULT 8).set FW_IMG_STATE 4).jUpd 0x81 0x1701 (spareBank s) (some i))

/-! ### Hand-overs (R506, R515–R517) -/

/-- FW_ACTIVATE commits to 1 with its instant T (R515). -/
def State.activate (s : State) : State :=
  ((s.set FW_ACTIVATE 1).set FW_UPD_STATE 2).modFw (fun f => { f with armedAt := some s.now })

/-- A quiet instant (R515). -/
def quiet (s : State) : Bool :=
  s.txs.all (fun t => decide (t.st ≠ 2)) && decide (s.nat NZ_STATE = 3) && s.naz.pass.isNone && !s.naz.takingOver &&
    decide (s.nat SF_CFG_STATE ≠ 2) && !s.fw.saving && decide (s.nat FW_IMG_STATE ≠ 2) && decide (s.nat PW_STATE = 0)

/-- A hand-over begins: 1 to the new image, 2 back to the old one, 3 + 8·u a restart in FW_UPD_STATE u (R516). -/
def State.handOver (s : State) (kind : Nat) : State :=
  ((s.set FW_UPD_STATE 3).set FW_STATE 2).modFw (fun f => { f with handing := kind })

/-- HAND_OVER: the first quiet instant at or after T. -/
def execHandOver (t : Nat) (s : State) : Res :=
  runOn islBoot (s.at_ t) (fun s => match s.fw.armedAt, s.fw.ready with
    | some a, some _ =>
      if s.nat FW_UPD_STATE = 2 ∧ a ≤ s.now ∧ quiet s then
        ((s.set FW_ACTIVATE 0).modFw (fun f => { f with armedAt := none })).handOver 1
      else s
    | _, _ => s)

/-- QUIET_TIMEOUT: no quiet instant within FW_QUIET_TIMEOUT of T (R515). -/
def execQuietTimeout (t : Nat) (s : State) : Res :=
  runOn islBoot (s.at_ t) (fun s => match s.fw.armedAt with
    | some a =>
      if s.nat FW_UPD_STATE = 2 ∧ a + ms (s.nat FW_QUIET_TIMEOUT) ≤ s.now then
        (((s.set FW_ACTIVATE 0).set FW_UPD_STATE 7).modFw (fun f => { f with armedAt := none })).jUpd 0x85 0x1701 (spareBank s) s.fw.ready
      else s
    | none => s)

/-- The image that runs, with what reports it. -/
def State.runImage (s : State) (bank : Nat) (i : Option FwImg) : State :=
  let v := i.getD ⟨0, 0, 0⟩
  (((s.set FW_ACTIVE bank).set FW_VERSION v.version).set FW_SEC_VERSION v.sec).modFw (fun f => { f with running := i })

/-- HAND_OVER_END: the image serves after a pause in µs; `good` when the start-up check of a new image passes (R516,
R517). -/
def execHandOverEnd (t : Nat) (pause : Nat) (good : Bool) (s : State) : Res :=
  runOn islBoot (s.at_ t) (fun s =>
    let s0 := (s.set FW_PAUSE_LAST (min pause 12000 : Nat)).modFw (fun f => { f with handing := 0, takenAt := s.now })
    match s.fw.handing with
    | 0 => s
    | 1 =>
      let old := s.fw.running
      let s := (s0.runImage (spareBank s0) s0.fw.ready).modFw (fun f => { f with held := old, trialFrom := s.now })
      let s := (((s.set FW_UPD_STATE 4).set FW_STATE 3).set FW_IMG_STATE 5).jUpd 0x82 0x1700 (s.nat FW_ACTIVE) s.fw.running
      if good then s else s.handOver 2
    | 2 =>
      let s := (s0.runImage (spareBank s0) s0.fw.held).modFw (fun f => { f with held := none, ready := none })
      let s := s.jUpd 0x82 0x1700 (s.nat FW_ACTIVE) s.fw.running
      (((s.set FW_UPD_STATE 6).set FW_STATE 1).set FW_IMG_STATE 0).jUpd 0x84 0x1701 (s.nat FW_ACTIVE) s.fw.running
    | k =>
      let s := ((s0.set FW_UPD_STATE (k / 8 : Nat)).set FW_STATE (if k / 8 = 4 then 3 else 1)).set FW_PAIRS 3
      s.jUpd 0x82 0x1700 (s.nat FW_ACTIVE) s.fw.running)

/-- The boot record of R507 for a bank. -/
def bootRecord (bank gen : Nat) : Bytes :=
  let b := le 1 0x41 ++ le 1 0x54 ++ le 1 0x4C ++ le 1 0x42 ++ le 1 bank ++ zeros 3 ++ le 4 gen
  b ++ le 4 (crc32c b)

/-- TRIAL_END: FW_TRIAL_TIME has passed (R517). -/
def execTrialEnd (t : Nat) (s : State) : Res :=
  runOn islBoot (s.at_ t) (fun s =>
    if s.nat FW_UPD_STATE = 4 ∧ s.fw.handing = 0 ∧ s.fw.trialFrom + ms (s.nat FW_TRIAL_TIME) ≤ s.now then
      let bank := s.nat FW_ACTIVE
      let gen := (s.fw.bootGen + 1) % 4294967296
      let s := (s.emit (.flashErase 0x280000 4096)).emit (.flash 0x280000 (bootRecord bank gen))
      let s := s.modFw (fun f => { f with held := none, ready := none, bootGen := gen })
      ((((s.set FW_BOOT_BANK bank).set FW_UPD_STATE 5).set FW_IMG_STATE 0).set FW_STATE 1).jUpd 0x83 0x1701 bank s.fw.running
    else s)

/-- A failure of the image on trial hands back to the old one (R517). -/
def State.trialFails (s : State) : State :=
  if s.nat FW_UPD_STATE = 4 ∧ s.fw.handing = 0 then s.handOver 2 else s

/-- LOCKSTEP_MISMATCH: pair i stops; `granted` when its request in flight had been granted (R330, R506). -/
def execLockstepMismatch (t : Nat) (i : Fin 2) (granted : Bool) (s : State) : Res :=
  runOn (40 + i.val) (s.at_ t) (fun s => if !bitOf (s.nat FW_PAIRS) i.val then s
    else
      let s := (s.clearBits FW_PAIRS (2 ^ i.val)).inc FW_LOCKSTEP_ERR
      let s := if granted then s.withdrawGrant i.val else s
      let v := s.fw.running.getD ⟨0, 0, 0⟩
      (s.jFw 5 (40 + i.val) 0x80 0x1700 (s.nat FW_ACTIVE) (s.nat FW_IMG_RESULT) (40 + i.val) v.version v.sec (s.nat FW_PAUSE_LAST)).trialFails)

/-- PAIR_RESTART_COMPLETE: the pair returns to service (R506). -/
def execPairRestartComplete (t : Nat) (i : Fin 2) (s : State) : Res :=
  runOn (40 + i.val) (s.at_ t) (fun s => s.orBits FW_PAIRS (2 ^ i.val))

/-- WATCHDOG_RESTART: the queue holds records and neither pair has taken one for 10 ms (R506). -/
def execWatchdogRestart (t : Nat) (s : State) : Res :=
  runPowered islSelfTest (s.at_ t) (fun s =>
    if s.queue ≠ [] ∧ s.fw.takenAt + ms 10 ≤ s.now ∧ s.fw.handing = 0 ∧ s.nat FW_STATE ≠ 0 then
      let v := s.fw.running.getD ⟨0, 0, 0⟩
      let s := (s.inc FW_RESTARTS).jFw 5 40 0x81 0x1700 (s.nat FW_ACTIVE) (s.nat FW_IMG_RESULT) 40 v.version v.sec (s.nat FW_PAUSE_LAST)
      if s.nat FW_UPD_STATE = 4 then s.trialFails else s.handOver (3 + 8 * s.nat FW_UPD_STATE)
    else s)

/-! ### Fuses (R519) -/

/-- FW_SEC_COMMIT written 1. -/
def State.secCommit (s : State) : State :=
  match s.fw.running with
  | some i => (s.set FW_SEC_MIN i.sec).jUpd 0x8A 0x1700 (s.nat FW_ACTIVE) (some i)
  | none => s

/-! ### The parameter set (R512) -/

/-- The stored objects, in the order of the catalogue. -/
def storedKeys : List Nat :=
  (Catalog.blocks.map (fun b => ((List.range b.count).map (fun i =>
    ((b.rows.filter (·.stored)).map (fun r => keysAt (b.base + i * b.stride) r.lo r.hi)).flatten)).flatten)).flatten

/-- A value padded with 0x00 to a multiple of 8 bytes. -/
def pad8 (bs : Bytes) : Bytes := padTo (8 * ceilDiv bs.length 8) bs

/-- The bytes an object holds in the image. -/
def imageBytes (s : State) (k : Nat) : Bytes :=
  match Catalog.find k with
  | some r => if !r.ty.long then le r.ty.size (s.get k) else if s.blob k = [] then zeros r.least.toNat else s.blob k
  | none => []

/-- The record of a stored object. -/
def paramRecord (s : State) (k : Nat) : Bytes :=
  let v := imageBytes s k
  le 2 (k / 256 : Nat) ++ le 1 (k % 256 : Nat) ++ le 1 (match Catalog.find k with | some r => r.ty.code | none => 0 : Nat) ++
    le 2 v.length ++ zeros 2 ++ pad8 v

/-- The parameter set of a generation: header and body. -/
def paramSet (s : State) (gen : Nat) : Bytes × Bytes :=
  let body := (storedKeys.map (paramRecord s)).flatten
  let h := le 1 0x41 ++ le 1 0x54 ++ le 1 0x4C ++ le 1 0x50 ++ le 2 1 ++ zeros 2 ++ le 4 storedKeys.length ++ le 4 gen ++
    le 4 body.length ++ zeros 8
  (h ++ le 4 (crc32c (h ++ body)), body)

/-- The area of a generation: saves alternate (R512; log entry 26). -/
def paramArea (gen : Nat) : Nat := if gen % 2 = 1 then 0x200000 else 0x240000

/-- FW_PARAM_SAVE written 1: the set goes to the area without the newest set, the header last. -/
def State.paramSave (s : State) : State :=
  let gen := s.nat FW_PARAM_GEN + 1
  let a := paramArea gen
  let p := paramSet s gen
  let s := ((s.emit (.flashErase a (4096 * ceilDiv (32 + p.2.length) 4096))).emit (.flash (a + 32) p.2)).emit (.flash a p.1)
  (s.set FW_PARAM_STATE 3).modFw (fun f => { f with saving := true })

/-- PARAM_SAVE_COMPLETE. -/
def execParamSaveComplete (t : Nat) (s : State) : Res :=
  runOn islBoot (s.at_ t) (fun s => if s.fw.saving then
      let gen := s.nat FW_PARAM_GEN + 1
      let s := ((s.set FW_PARAM_GEN gen).set FW_PARAM_STATE 4).modFw (fun f => { f with saving := false })
      s.jFw 1 islBoot 0x87 0x1702 0xFF (s.nat FW_IMG_RESULT) 0xFF 0 gen (s.nat FW_PARAM_FAILS)
    else s)

/-- FW_PARAM_ERASE written 1: both areas are erased, and no set is left. -/
def State.paramErase (s : State) : State :=
  ((s.emit (.flashErase 0x200000 0x40000)).emit (.flashErase 0x240000 0x40000)).set FW_PARAM_GEN 0

/-! ### ADC self-test (R520, R521) -/

/-- ADC_SELF_TEST: a reference round of section x: the zero and +0.500 V readings of its two current ADCs and the 0.900 V
reading of its voltage ADC. -/
def execAdcSelfTest (t : Nat) (x : Fin 6) (z0 h0 z1 h1 v : Int) (s : State) : Res :=
  runOn islSelfTest (s.at_ t) (fun s =>
    let due : Bool := match s.fw.rounds.get x with
      | some a => decide (a + ms (s.nat FW_ST_PERIOD) ≤ s.now)
      | none => true
    if 1 ≤ s.nat (S_STATE x) ∧ s.nat (S_STATE x) ≤ 3 ∧ due then
      let s := s.modFw (fun f => { f with rounds := f.rounds.set x.val (some s.now) x.isLt })
      let tol := s.get FW_ST_REF_TOL
      let off (r g : Int) : Bool := decide (tol < ((r - g).natAbs : Int))
      if off z0 0 ∨ off h0 4096 then s.selfTestFail x 1 (13 + 2 * x.val) (if off z0 0 then z0 else h0).natAbs
      else if off z1 0 ∨ off h1 4096 then s.selfTestFail x 1 (14 + 2 * x.val) (if off z1 0 then z1 else h1).natAbs
      else if off v 2048 then s.selfTestFail x 3 (25 + x.val) v.natAbs
      else s.inc FW_ST_PASSES
    else s)

end Sys2Proof.Machine
end

