-- ==== Sys2Proof/Machine/Starts.lean ====
section
/-! DEFINITION. What a write starts on the cascade and in proofing: barriers, snapshots, the cascade reset, fences, the
begin of a commit (R366, R378, R381, R406–R409). -/

namespace Sys2Proof.Machine
open Obj

/-- The ports a token leaves by. -/
def tokenPorts (s : State) : List (Fin 2) := [1, 0].filter (linkUp s)

/-! ### Barriers and snapshots (R406, R407) -/

/-- A plain barrier is complete. -/
def State.barrierDone (s : State) : State := (s.set NZ_BARRIER_DONE s.tbNs).inc NZ_BARRIERS

/-- NZ_BARRIER_GO written 1 on a master; alone on its ring it has passed every device. -/
def State.barrierGo (s : State) : State :=
  if tokenPorts s = [] then s.barrierDone else s.startToken 1 0 (s.tbNs + barrierTime s) []

/-- The objects that a snapshot payload names. -/
def snapKeys (pay : Bytes) : List Nat := (List.range 8).map (fun i => numAt pay (4 * i) 4 % 16777216)

/-- Some named object is undefined on this device. -/
def snapUndefined (l : List Nat) : Bool := l.any (fun k => decide (k ≠ 0) && (Catalog.find k).isNone)

/-- The device is armed for a snapshot at Ts. -/
def State.armSnap (s : State) (Ts : Nat) (l : List Nat) : State :=
  (s.modNaz (fun n => { n with snap := some (Ts, l) })).set NZ_SNAP_STATE 1

/-- The snapshot is void on this device. -/
def State.snapVoid (s : State) : State :=
  ((s.modNaz (fun n => { n with snap := none })).set NZ_SNAP_STATE 3).jNaz 1 (islNaz 1) 0x68 0x1405 0xFFFF 0xFF 0 0xFFFF 0

/-- The master voids a snapshot everywhere. -/
def State.voidAll (s : State) : State := (s.command 3 0 []).snapVoid

/-- NZ_SNAP_GO written 1 on a master. -/
def State.snapGo (s : State) : State :=
  let obj := padTo 32 (s.blob NZ_SNAP_OBJ)
  let l := snapKeys obj
  let Ts := max (s.nat NZ_SNAP_TIME) (s.tbNs + barrierTime s + 1000)
  let bad := snapUndefined l
  let s := s.armSnap Ts l
  if tokenPorts s = [] then (if bad then s.voidAll else s)
  else s.startToken 4 (if bad then 1 else 0) Ts obj

/-- A copy of the cascade reset command has still to go out (R392). -/
def resetPending (s : State) : Bool := s.naz.repeats.any (fun r => decide (numAt r.2.1 0 1 = 1))

/-- NZ_CASC_RESET written 1 on a master: the command goes out, and again at the next two cycle starts (R392, R408); a device
whose cycles do not run resets at once. -/
def State.cascadeResetNow (s : State) : State :=
  if s.naz.addressed then s.command 1 0 [] else (s.command 1 0 []).deviceReset.leaveReset

/-- CYCLE_START: a cycle start; a master that has sent the last copy of the cascade reset command resets (R395, R408; log entry
102). -/
def execCycleStart (t : Nat) (s : State) : Res :=
  let s := s.at_ t
  let u := s.cycleBegins
  done (if resetPending s && !resetPending u then u.deviceReset.leaveReset else u)

/-! ### Fences (R380, R381) -/

/-- The fence domains of a source. -/
def domainsOf (s : State) (sid : Nat) : Nat :=
  match s.session sid with
  | some n => n.domains
  | none => 0xFFFF

/-- TX_FENCE written 1. -/
def State.issueFence (s : State) (sid stamp f : Nat) : State :=
  { s with fences := s.fences ++ [⟨f, stamp, sid, none⟩] }

/-- A fence holds a write of these domains and this stamp: it was stamped before it, issued or not, or the write follows it in its
own frame (R381). -/
def fenceHolds (s : State) (sid stamp doms : Nat) : Bool :=
  fenceWaits s stamp doms ||
    s.fences.any (fun f => bitOf doms f.dom && (decide (f.stamp < stamp) || (decide (f.stamp = stamp) && decide (f.sid = sid))))

/-! ### Commits (R366, R370, R378) -/

/-- Lmin in ns (R378). -/
def lmin (s : State) : Nat := 6 * cycNs s + 2 * (64 * nazN s + 400)

/-- TX_COMMIT accepted: the commit begins, and the coordinator of other devices broadcasts PREPARE and starts the vote
(R366, R378, R406). -/
def State.beginCommit (s : State) (id stamp doms : Nat) : State :=
  let s := s.modTx id (fun t => { t with st := 2, commitAt := s.now, order := nextOrder s, stamp := stamp, doms := doms })
  let s := { s with sessions := s.sessions.map (fun (n : Session) => if n.txCur = id then { n with txCur := 0xFFFF } else n) }
  match s.tx id with
  | none => s
  | some t =>
    if t.parts.isEmpty then s
    else
      let s := s.modTx id (fun t => { t with asked := some s.now })
      let s := s.sendTx none (commitMsg 1 0 id (pointField t) (partCount t) serialNo t.time 0)
      s.startToken 2 0 (s.tbNs + 1000000 * s.nat TX_PREP_TIMEOUT) (commitMsg 2 0 id (pointField t) (partCount t) serialNo 0 0)

/-- Every other device has voted to commit. -/
def allVoted (t : Tx) : Bool := t.parts.all (fun q => t.votes.any (fun v => decide (v = (q.1, 0))))

/-- The coordinator decides once it is prepared and every vote has come (R369, R378). At point 1 or 2 all its writes lie on one other
device, where the boundary or the fence gives T: the decision carries none (R366; log entry 104). -/
def State.tryDecide (s : State) (id : Nat) : State :=
  match s.tx id with
  | none => s
  | some t =>
    if t.coord.isSome || t.parts.isEmpty || decide (t.st ≠ 3) || t.decided || !allVoted t then s
    else
      let d := s.tbNs + lmin s
      if t.point = 3 ∧ t.time < d then s.abortTx id 0x09 0
      else if t.point = 1 ∨ t.point = 2 then
        (s.modTx id (fun t => { t with decided := true, applied := true, written := true })).sendTx none
          (commitMsg 3 0 id 0 (partCount t) serialNo 0 0)
      else
        let T := if t.point = 3 then t.time else ceilDiv d 1000 * 1000
        let s := s.modTx id (fun t => { t with decided := true, T := some T })
        s.sendTx none (commitMsg 3 0 id (pointField t) (partCount t) serialNo T 0)

/-- A vote of device d arrives: a vote to abort ends the transaction (R378). -/
def State.takeVote (s : State) (id d code addr : Nat) : State :=
  match s.tx id with
  | none => s
  | some t =>
    if t.coord.isSome || t.decided || !(decide (t.st = 2 ∨ t.st = 3)) then s
    else if code ≠ 0 then s.abortTx id 0x07 addr
    else (s.modTx id (fun t => { t with votes := t.votes.filter (fun v => decide (v.1 ≠ d)) ++ [(d, code)] })).tryDecide id

end Sys2Proof.Machine
end

