-- ==== Sys2Proof/Machine/Effects.lean ====
section
/-! DEFINITION. What an accepted write does beside leaving its value in the image: the effect that the owning chapter gives
each object, one definition per part of the dictionary (R313, R326). -/

namespace Sys2Proof.Machine
open Obj

/-- The image takes a value. -/
def State.putImage (s : State) (k : Nat) (bs : Bytes) (v : Int) : State :=
  match Catalog.find k with
  | some r => if r.acc = .wo then s else if r.ty.long then s.setBlob k bs else s.set k v
  | none => s

/-- A direct write comes after a commit whose values the image does not show yet: it is not overwritten (R372). -/
def State.dropOld (s : State) (k : Nat) : State :=
  { s with txs := s.txs.map (fun t => { t with old := t.old.filter (fun w => decide (w.1 ≠ k)) }) }

/-! ### Sections (R29, R31, R57, R58, R101, R154, R197, R466) -/

/-- S_AXIS written: a section left unassigned stays in state 0, so a join under way ends (R29), and its observer goes off. -/
def State.assign (s : State) (x : Fin 6) (v : Int) : State :=
  let s := if v = 0xFF ∧ (s.sec x).join ≠ .none then s.joinFail x else s
  let s := s.set (S_AXIS x) v
  if v = 0xFF then s.sleep (101 + x.val) else s.wake (101 + x.val)

def State.effSection (s : State) (x : Fin 6) (m : Nat) (v : Int) : State :=
  if m = 0x0101 then s.assign x v
  else if m = 0x0201 then (if v = 1 then s.enableOne x else s.enableZero x)
  else if 0x0401 ≤ m ∧ m ≤ 0x0408 then
    (s.set (S_PERIOD x + (m - 0x0401)) v).modPwm x (fun p => { p with written := p.written ++ [(m % 256, v, s.tick)] })
  else if m = 0x0B05 then (if v = 1 then s.clearSection x else s)
  else if m = 0x0E01 then (s.set (S_TEMP x) v).tempWritten x
  else s.set (0x200000 + 0x10000 * x.val + m) v

/-! ### Axes (R202, R203, R205, R220, R225, R227, R230, R234, R491, R493) -/

/-- The staged values of a transaction that arms, as the slots take them. -/
def armedVals (t : Tx) : List (Fin 48 × Nat × Int) :=
  t.staged.filterMap (fun w => match slotAt w.1, Catalog.find w.1 with
    | some k, some r => some (k, w.1 % 256, r.ty.value w.2)
    | _, _ => none)

/-- A_SNATCH_TX written: a transaction is armed, or the armed one discarded. -/
def State.effSnatch (s : State) (a : Fin 4) (v : Nat) : State :=
  if v = 0xFFFF then
    let old := s.nat (A_SNATCH_TX a)
    let s := s.set (A_SNATCH_TX a) v
    if s.nat (A_SNATCH_STATE a) = 1 then (s.snatchDiscard a).abortTx old 0x0E 0 else s
  else match s.tx v with
    | some t =>
      let s := (s.set (A_SNATCH_TX a) v).modTx v (fun t => { t with st := 7, owner := 0xFFFF })
      let s := { s with sessions := s.sessions.map (fun (n : Session) => if n.txCur = v then { n with txCur := 0xFFFF } else n) }
      s.snatchArm a (armedVals t)
    | none => s

def State.effAxis (s : State) (a : Fin 4) (m : Nat) (v : Int) : State :=
  if m = 0x0201 then s.modAx a (fun c => { c with modeDue := if v = s.get (A_MODE a) then none else some v.toNat })
  else if m = 0x0203 then (s.set (A_EMERG_REQ a) v).emergency a
  else if m = 0x1106 then s.effSnatch a v.toNat
  else if m = 0x120F then (s.set (A_TEN_FB a) v).tension a
  else if m = 0x300C then (if v = 1 then s.moveStart a else s)
  else if m = 0x300D then (if v = 1 then s.requestStop a (s.nat (A_DMAX a)) else s)
  else if m = 0x3013 then s.setHome a v
  else if m = 0x3014 then (if v = 1 then s.refRun a else s)
  else if 0x3104 ≤ m ∧ m ≤ 0x3108 then
    (s.set (0x500000 + 0x10000 * a.val + m) v).armChange a
  else if m = 0x0103 ∨ m = 0x2001 ∨ m = 0x3002 ∨ m = 0x3003 then (s.set (0x500000 + 0x10000 * a.val + m) v).syncMotion
  else s.set (0x500000 + 0x10000 * a.val + m) v

/-! ### Slots (R172, R175, R181) -/

/-- K_ENABLE written: a slot that is turned off drops its waiting run, and the torque limit of its sink is no longer
taken once the slot is turned on afresh (R168, R172, R195). -/
def State.effEnable (s : State) (k : Fin 48) (v : Int) : State :=
  let s := s.set (K_ENABLE k) v
  if v = 0 then (s.modSlot k (fun c => { c with request := none, inbound := [] })).handIfOver
  else s.each allAxes (fun a s => s.modAx a (fun c => { c with in2By := if c.in2By = some k.val then none else c.in2By }))

def State.effSlot (s : State) (k : Fin 48) (sub : Nat) (v : Int) : State :=
  if sub = 1 then s.effEnable k v
  else if sub ≤ 0x1A then (s.set (0x410000 + 0x100 * k.val + sub) v).sendCoef k sub v
  else if sub = 0x1B then (s.set (K_REF k) v).arrive (0x6000 + k.val) v
  else if sub = 0x1C then s.histDirect k (.preload v)
  else if sub = 0x1D then (if v = 1 then s.histDirect k .reset else s)
  else s.set (0x410000 + 0x100 * k.val + sub) v

/-! ### Tuning (R243, R246, R248, R249) -/

def State.effTuning (s : State) (sid k : Nat) (v : Int) : State :=
  match genAt k with
  | some g => if k % 256 = 1 then (let s := s.set (G_RUN g) v; if v = 1 then s.armGen g else s.stopGen g) else s.set k v
  | none =>
    if k = C_CLAIM then
      if v = 1 then ((((s.set C_CLAIM 1).set C_OWNER sid).wake 123).wake 92).wake 93 |>.wake 94 else s.claimEnd
    else if k = C_CHANNELS then
      let s := s.set C_CHANNELS v
      s.set C_DEPTH (capDepth (capChannels s).length)
    else if k = C_ARM then
      (if v = 1 then (let s := s.capArm; { s with cap := { s.cap with by_ := sid } }) else s)
    else s.set k v

/-! ### Safety (R295, R296) -/

/-- A refused seal or confirmation leaves its result: a confirmation out of state 3 whoever writes it, all else of the owner
alone (R295, R296, R298). -/
def State.refusedSafety (s : State) (sid k : Nat) (v : Int) : State :=
  if k = SF_CRC_CONFIRM ∧ s.nat SF_CFG_STATE ≠ 3 then s.refuseConfig 9 v.toNat
  else if s.nat SF_CFG_OWNER ≠ sid then s
  else if k = SF_CFG_SEAL ∧ v = 1 ∧ s.nat SF_CFG_STATE = 1 ∧ sealCode s ≠ 0 then s.refuseConfig (sealCode s) 0
  else if k = SF_CRC_CONFIRM then s.refuseConfig (confirmCode s v) v.toNat
  else s

def State.effSafety (s : State) (sid k : Nat) (v : Int) : State :=
  if k = SF_COMMISSION then
    if v = 1 then (if s.nat SF_CFG_OWNER = sid ∧ 1 ≤ s.nat SF_CFG_STATE ∧ s.nat SF_CFG_STATE ≤ 3 then s else s.openCommission sid)
    else s.abandonCommission
  else if k = SF_CFG_SEAL then
    if v = 1 then (if s.nat SF_CFG_STATE = 1 ∧ sealCode s = 0 then s.sealBegin else s.refusedSafety sid k v) else if s.nat SF_CFG_STATE = 3 then s.unsealNow else s
  else if k = SF_CRC_CONFIRM then
    (if s.nat SF_CFG_STATE = 3 ∧ s.nat SF_CFG_OWNER = sid ∧ confirmCode s v = 0 then s.confirmBegin else s.refusedSafety sid k v)
  else s.set k v

/-! ### Addresses of the field ports (R335) -/

/-- The link-local address of a field port (R335). -/
def linkLocal (p : Nat) : Bytes :=
  be 2 0xFE80 ++ zeros 6 ++ be 8 ((serialNo % 2 ^ 63 + p * 2 ^ 63 : Nat) : Int)

/-- The addresses that a port holds (R335). -/
def heldAddrs (s : State) (p : Fin 2) : List Bytes :=
  [linkLocal p.val] ++ (if s.nat (NP_PREFIX p.val) = 0 then [] else [padTo 16 (s.blob (NP_ADDR p.val))])

/-- The solicited-node multicast address of an address. -/
def solicitedNode (a : Bytes) : Bytes := be 2 0xFF02 ++ zeros 9 ++ le 1 1 ++ le 1 0xFF ++ a.drop 13

/-- Duplicate address detection: a solicitation for an address of the port's own leaves it, from the unspecified address
(log entry 96). -/
def State.askDuplicate (s : State) (p : Fin 2) (a : Bytes) : State := s.emit (.solicit p.val (zeros 16) (solicitedNode a) a 255)

/-- The global address of a port whose link is up has been written, or its prefix made non-zero. -/
def State.newAddress (s : State) (p : Fin 2) : State :=
  if s.flag (NP_LINK p.val) ∧ s.nat (NP_PREFIX p.val) ≠ 0 then s.askDuplicate p (padTo 16 (s.blob (NP_ADDR p.val))) else s

/-! ### Sessions (R343, R345, R348, R349, R351, R353) -/

def State.effKey (s : State) (j : Fin 64) (sub : Nat) (bs : Bytes) (v : Int) : State :=
  if sub = 1 then (s.setBlob (SS_KEY j) bs).set (SS_KEY_SET j) 1
  else if sub = 2 then
    let s := s.set (SS_KEY_EN j) v
    (if v = 0 then s.dropSlot j else s).provision
  else s.set (0x123000 + 0x100 * j.val + sub) v

def State.effSession (s : State) (sid k : Nat) (bs : Bytes) (v : Int) : State :=
  match keySlotAt k, profAt k with
  | some j, _ => s.effKey j (k % 256) bs v
  | none, some j => (s.settleTokens.set k v).profileCut j.val
  | none, none =>
    if k = SS_LOCK then s.applyLock sid v.toNat
    else if k = SS_SEL then s.modSession sid (fun n => { n with sel := v.toNat })
    else if k = SS_V_CLOSE then
      if v = 1 then (match s.session sid with
        | some n => if (s.session n.sel).any Session.bare && !s.flag HP_PROVISIONED then s else s.endSession n.sel 0x02 0
        | none => s) else s
    else if k = NP_ADDR 0 ∨ k = NP_ADDR 1 then
      let p : Fin 2 := if k = NP_ADDR 0 then 0 else 1
      ((s.setBlob k bs).addCount (NP_ADDR_VER p) 2).newAddress p
    else if k = NP_PREFIX 0 ∨ k = NP_PREFIX 1 then
      let p : Fin 2 := if k = NP_PREFIX 0 then 0 else 1
      if s.nat (NP_PREFIX p) = 0 then (s.set k v).newAddress p else s.set k v
    else if k = SS_CAN_ROLES 0 ∨ k = SS_CAN_ROLES 1 then
      (s.set k v).modSession (sidCan (if k = SS_CAN_ROLES 0 then 0 else 1)) (fun n => { n with roles := v.toNat })
    else if k = SS_CAN_PROFILE 0 ∨ k = SS_CAN_PROFILE 1 then
      ((s.settleTokens.set k v).modSession (sidCan (if k = SS_CAN_PROFILE 0 then 0 else 1)) (fun n => { n with profile := v.toNat })).syncSessions
    else s.set k v

/-! ### Transactions and fences (R362, R363, R366, R373, R381) -/

def State.openTx (s : State) (sid : Nat) : State :=
  match freeSlot s with
  | some slot =>
    let (id, s) := s.takeSlot slot sid none
    s.modSession sid (fun n => { n with txCur := id })
  | none => s

/-- A parameter of the transaction that TX_CUR names. -/
def State.txParam (s : State) (sid : Nat) (f : Tx → Tx) : State :=
  match s.session sid with
  | some n => s.modTx n.txCur f
  | none => s

def State.effTx (s : State) (sid stamp doms k : Nat) (v : Int) : State :=
  if k = TX_OPEN then (if v = 1 then s.openTx sid else s)
  else if k = TX_CUR then s.modSession sid (fun n => { n with txCur := v.toNat })
  else if k = TX_DOMAINS then s.modSession sid (fun n => { n with domains := v.toNat })
  else if k = TX_SEL then s.modSession sid (fun n => { n with txSel := v.toNat })
  else if k = TX_POINT then s.txParam sid (fun t => { t with point := v.toNat })
  else if k = TX_SECTIONS then s.txParam sid (fun t => { t with secs := v.toNat })
  else if k = TX_FENCE_DOM then s.txParam sid (fun t => { t with dom := v.toNat })
  else if k = TX_TIME then s.txParam sid (fun t => { t with time := v.toNat })
  else if v ≠ 1 then s
  else match s.session sid with
    | none => s
    | some n =>
      if k = TX_COMMIT then s.beginCommit n.txCur stamp doms
      else if k = TX_ABORT then s.abortTx n.txCur 0x01 0
      else s

/-! ### The other parts -/

/-- NazLink (R394, R407, R408). -/
def State.effNaz (s : State) (k : Nat) (bs : Bytes) (v : Int) : State :=
  if k = NZ_CYCLE then s.cycleWrite v.toNat
  else if k = NZ_SNAP_OBJ then (s.setBlob k bs).addCount NZ_SNAP_VER 2
  else if k = NZ_BARRIER_GO then (if v = 1 then s.barrierGo else s)
  else if k = NZ_SNAP_GO then (if v = 1 then s.snapGo else s)
  else if k = NZ_CASC_RESET then (if v = 1 then s.cascadeResetNow else s)
  else s.set k v

/-- CAN FD (R420, R423, R425, R428). -/
def State.effCan (s : State) (k : Nat) (bs : Bytes) (v : Int) : State :=
  match entryAt k with
  | some (b, e) =>
    if k % 256 = 2 then (if v = 1 then s.qAck b e else s)
    else if k % 256 = 0x0B then (if v = 1 then s.qAbort b e else s)
    else s.putImage k bs v
  | none => match canAt k with
    | some b =>
      if k = CB_MODE b then s.canModeWrite b v.toNat
      else if k = CB_RECOVER b then (if v = 1 then s.canRecover b else s)
      else s.set k v
    | none => s.set k v

/-- Firmware (R512, R514, R515, R519). -/
def State.effFw (s : State) (k : Nat) (bs : Bytes) (v : Int) : State :=
  if k = FW_ACTIVATE then (if v = 1 then s.activate else s)
  else if k = FW_IMG_OFFSET then s.imgOffset v.toNat
  else if k = FW_IMG_DATA then s.imgData bs
  else if k = FW_IMG_VERIFY then (if v = 1 then s.imgVerify else s)
  else if k = FW_SEC_COMMIT then (if v = 1 then s.secCommit else s)
  else if k = FW_KEY_REVOKE then s.orBits FW_KEY_STATE v.toNat
  else if k = FW_PARAM_SAVE then (if v = 1 then s.paramSave else s)
  else if k = FW_PARAM_ERASE then (if v = 1 then s.paramErase else s)
  else s.set k v

/-- Section-wide and device objects (R102, R158, R183, R224, R442, R453). A write of S_DEV_ISO_LIMIT at or below the number of
sections in state 4 does not itself enter the device level, which R156 leaves open: the model's choice (log entry 87). -/
def State.effDevice (s : State) (sid k : Nat) (bs : Bytes) (v : Int) : State :=
  if k = S_LOADALL then (if v = 1 then s.loadAll s.now else s)
  else if k = S_DEV_CLEAR then (if v = 1 then s.clearDevice else s)
  else if k = K_ROTATE_NOW then (if v = 1 then s.startRotation else s)
  else if k = TB_SET then s.stepTimebase v.toNat
  else if k = JL_SEL then s.modSession sid (fun n => { n with jlSel := v.toNat })
  else match encAt k with
    | some e =>
      if k % 4096 = 0x12 then (if v = 1 then s.clearEncoder e else s)
      else if k % 4096 = 0x04 then s.assignEncoder e v
      else s.set k v
    | none => s.putImage k bs v

/-- An accepted write takes effect: value `v` for scalars, content `bs` for STR and BLOB, with the stamp and the fence
domains of its record. -/
def State.effect (s : State) (b : By) (stamp doms k : Nat) (bs : Bytes) (v : Int) : State :=
  let i := k / 65536
  if 0x20 ≤ i ∧ i < 0x26 then (match secAt k with
    | some x => s.effSection x (k % 65536) v
    | none => s)
  else match axAt k, slotAt k with
    | some a, _ => s.effAxis a (k % 65536) v
    | none, some j => s.effSlot j (k % 256) v
    | none, none =>
      if i = 0x70 then s.effTuning b.sid k v
      else if k / 256 = 0x6004 then s.effSafety b.sid k v
      else if i = 0x12 then s.effSession b.sid k bs v
      else if k / 256 = 0x1300 ∨ k / 256 = 0x1301 then s.effTx b.sid stamp doms k v
      else if k / 256 = 0x1310 then (if v = 1 then s.issueFence b.sid stamp (k % 256 - 1) else s)
      else if i = 0x14 then s.effNaz k bs v
      else if i = 0x15 then s.effCan k bs v
      else if i = 0x17 then s.effFw k bs v
      else s.effDevice b.sid k bs v

/-- A direct write that has been accepted. -/
def State.applyWrite (s : State) (b : By) (stamp doms k : Nat) (bs : Bytes) (v : Int) : State :=
  ((s.dropOld k).effect b stamp doms k bs v).judgeWritten s [k]

end Sys2Proof.Machine
end

