-- ==== Sys2Proof/Machine/Access.lean ====
section
/-! DEFINITION. Requests for one object: reading, describing, writing and staging, subscriptions, and the commands that are
plain writes (R316, R320–R330, R338, R363–R365, R380, R381). -/

namespace Sys2Proof.Machine
open Obj

/-! ### Reading (R313, R324–R326) -/

/-- The power domain of the island that holds a live object; none where no single domain does. -/
def liveDomain (s : State) (k : Nat) : Option Nat :=
  let i := k / 256
  if 0x2000 ≤ i ∧ i < 0x2600 then some (95 + (i / 256 - 0x20))
  else if 0x3000 ≤ i ∧ i < 0x3600 then some (101 + (i / 256 - 0x30))
  else if i / 256 = 0x38 then some 107
  else match slotAt k with
    | some j => some (72 + physOf s (laneOf j))
    | none =>
      if 0x5000 ≤ i ∧ i < 0x5400 then some (if i % 256 = 0x03 ∨ i % 256 = 0x20 then 107 else 122)
      else if i / 256 = 0x58 then some 121
      else if 0x6000 ≤ i ∧ i < 0x6300 then some 108
      else if i / 256 = 0x7F then some 127
      else if 0x7000 ≤ i ∧ i < 0x7040 then some 123
      else if i = 0x1041 then some 128
      else if i = 0x1050 ∨ i / 256 = 0x13 then some 118
      else if i = 0x1100 then some 129
      else if i = 0x1110 then some 119
      else if i = 0x1204 then some 112
      else if i = 0x1205 then some 113
      else if i = 0x1206 then some 124
      else if i / 256 = 0x12 then some 126
      else if i = 0x1402 then some 116
      else if i / 256 = 0x14 then some 117
      else if i / 256 = 0x15 then (canAt k).map (fun b => 114 + b.val)
      else if i = 0x1701 ∨ i = 0x1702 then some 125
      else if i = 0x1703 then some 130
      else none

/-- How a read of an object stands (R324). -/
inductive Reach where
  | whole | atReset | waits | refused
deriving DecidableEq, Repr

def reach (s : State) (k : Nat) (r : ObjRow) : Reach :=
  if !r.live then .whole
  else match liveDomain s k with
    | none => .whole
    | some d =>
      let st := domState s d
      if st = 0 then .atReset
      else if st = 1 ∨ st = 2 then .waits
      else if st = 4 then .refused
      else match domIsland d with
        | some i => if s.nat (IS_STATE i) = 1 ∨ s.nat (IS_STATE i) = 2 then .refused else .whole
        | none => .whole

/-- The own-session objects 0x1200:01–0A of a session (R360). -/
def sessionField (s : State) (n : Session) (sub : Nat) : Int :=
  match sub with
  | 1 => n.id
  | 2 => n.roles
  | 3 => n.slot.getD 0xFF
  | 4 => n.profile
  | 5 => (tokensNow s n).floor
  | 6 => stageUse s n.id
  | 7 => (openOf s n.id).length
  | 8 => (locksOf s n.id).length
  | 9 => if 1 ≤ s.nat C_STATE ∧ s.nat C_STATE ≤ 3 ∧ s.cap.by_ = n.id then rnd (capFillRate s) else 0
  | _ => n.refused

/-- The objects 0x1300 of a session and of the transaction its TX_CUR names (R386, R387). -/
def txField (s : State) (n : Session) (sub : Nat) : Int :=
  let t := (s.tx n.txCur).getD (Tx.fresh 0xFFFF 0 0)
  match sub with
  | 2 => n.txCur
  | 3 => n.domains
  | 4 => t.point
  | 5 => t.secs
  | 6 => t.dom
  | 7 => t.time
  | _ => 0

/-- The objects 0x1301 of the transaction that TX_SEL names (R373, R387). -/
def txReport (s : State) (n : Session) (sub : Nat) : Int :=
  if sub = 1 then n.txSel
  else match s.tx n.txSel with
    | none => if sub = 7 then 0xFFFF else 0
    | some t => match sub with
      | 2 => t.st
      | 3 => t.result
      | 4 => t.T.getD 0
      | 5 => t.staged.length
      | 6 => if t.live then t.bytes else 0
      | 7 => t.owner
      | 8 => if t.parts.isEmpty then 0 else t.parts.length + (if t.staged.isEmpty then 0 else 1)
      | _ => t.fail

/-- What an object reads as now: the objects that count time read the time since (R132, R439), FW_UPD_STATE shows a staged
activation (R526), and PW_DOM_STATE how its domain stands (R466). -/
def State.peek (s : State) (k : Nat) : Int :=
  match allHbs.find? (fun (n : Fin 18) => decide (S_BLW_AGE n = k)) with
  | some (n : Fin 18) => blwAge s n
  | none =>
    if k = TB_NOW then s.tbNs else if k = FW_UPD_STATE then updState s
    else if PW_DOM_STATE 0 ≤ k ∧ k ≤ PW_DOM_STATE 131 then domState s (k - PW_DOM_STATE 0) else s.get k

/-- A scalar that is the same for every session; PW_V reads values that no rule gives (R387, R453; log entry 61). -/
def State.plainScalar (s : State) (k : Nat) : Int × State :=
  let due : Option Int := (axAt k).bind (fun a => if k = A_MODE a then (s.ax a).modeDue.map Int.ofNat else none)
  match due with
  | some v => (v, s)
  | none =>
    if k = DV_SERIAL then (serialNo, s)
    else if k = TX_LMIN then (if s.nat NZ_ROLE = 1 then lmin s else 0, s)
    else if 0x160101 ≤ k ∧ k ≤ 0x160106 then (let (v, s) := s.free; ((v % 6001 : Nat), s))
    else (s.peek k, s)

/-- The value of a scalar object as a session reads it (R360, R387, R453). -/
def State.scalar (s : State) (sid k : Nat) : Int × State :=
  let i := k / 256
  match s.session sid with
  | some n =>
    if i = 0x1200 then (sessionField s n (k % 256), s)
    else if k = SS_SEL then (n.sel, s)
    else if i = 0x1300 then (txField s n (k % 256), s)
    else if i = 0x1301 then (txReport s n (k % 256), s)
    else if k = JL_SEL then (n.jlSel, s)
    else if i = 0x1211 then (match s.session n.sel with
      | some m => if k = SS_V_AGE then (((s.now - m.lastAt) / ms 1 % 4294967296 : Nat), s) else (sessionField s m (k % 256), s)
      | none => (0, s))
    else s.plainScalar k
  | none => s.plainScalar k

/-- The content of a STR or BLOB object; with the counted read of the capture buffer (R250, R333, R335, R415, R447). -/
def State.content (s : State) (sid k : Nat) : Bytes × State :=
  if k = DV_PRODUCT then ("ATL-9256".toList.map (fun c => BitVec.ofNat 8 c.toNat), s)
  else if k = DV_ORDER_CODE then ("ATL-9256-MB".toList.map (fun c => BitVec.ofNat 8 c.toNat), s)
  else if k = NP_LL_ADDR 0 then (linkLocal 0, s)
  else if k = NP_LL_ADDR 1 then (linkLocal 1, s)
  else if k = NP_ADDR 0 ∨ k = NP_ADDR 1 then (padTo 16 (s.blob k), s)
  else if k = NZ_PRESENT ∨ k = NZ_LOST ∨ k = NZ_SNAP_OBJ then (padTo 32 (s.blob k), s)
  else if k = NZ_SNAP_VAL then (padTo 64 (s.blob k), s)
  else if k = JL_ENTRY then (journalAt s (((s.session sid).map (·.jlSel)).getD 0), s)
  else if k = C_DATA then
    let (b, s) := s.capBytes
    (fieldAt b (s.nat C_READ_OFFSET) 1024, s)
  else (s.blob k, s)

/-- The reset value of a STR or BLOB object: its own address for NP_LL_ADDR, else 0x00 in its least length (R316, R324). -/
def resetContent (k : Nat) (r : ObjRow) : Bytes :=
  if k = NP_LL_ADDR 0 then linkLocal 0 else if k = NP_LL_ADDR 1 then linkLocal 1 else zeros r.least.toNat

/-- What a read still returns of an object whose committed value has not been written back (R326). -/
def oldValue (s : State) (k : Nat) : Option Bytes :=
  let l := s.txs.filter (fun t => t.applied && (AL.find t.old k).isSome)
  let first := l.foldl (fun (m : Option Tx) t => match m with
    | some u => if t.T.getD 0 < u.T.getD 0 then some t else some u
    | none => some t) none
  first.bind (fun t => AL.find t.old k)

/-- Capture bytes that a session has read within the last second (R250). -/
def capUsed (s : State) (n : Session) : Nat := ((n.capReads.filter (fun r => decide (s.now < r.1 + ms 1000))).map (·.2)).sum

/-- Checks 2 to 4 of R321 for a read: 0 or the first failing check's code (R313). -/
def readHead (s : State) (sid k : Nat) : Nat :=
  if !Catalog.indexDefined (k / 256) then rcNoIndex
  else match Catalog.find k, rolesOf s sid with
    | none, _ => rcNoSub
    | some _, none => rcRole
    | some r, some roles => if r.acc = .svc ∧ !permits 16 roles then rcService else 0

/-- Checks 2 to 4 for an operation other than a write; a describe is judged by checks 2 and 3 alone (R316). -/
def askHead (s : State) (sid op k : Nat) : Nat :=
  if op = 3 then (if !Catalog.indexDefined (k / 256) then rcNoIndex else if (Catalog.find k).isNone then rcNoSub else 0) else readHead s sid k

/-- The code of a read by checks 2 to 4 and 7 to 10; none while it waits (R313, R321, R324). -/
def readCode (s : State) (sid k : Nat) : Option Nat :=
  if !served s sid k then none
  else if readHead s sid k ≠ 0 then some (readHead s sid k)
  else match Catalog.find k with
    | none => some rcNoSub
    | some r => match reach s k r with
        | .waits => none
        | .refused => some rcRule
        | _ => some 0

/-- A read of one object: its code and value; no code while it waits. -/
def State.readObj (s : State) (sid rq k : Nat) : Option Nat × Bytes × State :=
  match readCode s sid k, Catalog.find k with
  | some 0, some r =>
    if r.acc = .wo then (some 0, if r.ty.long then [] else zeros r.ty.size, s.transfers rq r.ty.size)
    else if reach s k r = .atReset then
      let bs := if r.ty.long then resetContent k r else le r.ty.size (deviceDefault k)
      (some 0, bs, s.transfers rq bs.length)
    else
      let (bs, s1) := if r.ty.long then s.content sid k else (let (v, s) := s.scalar sid k; (le r.ty.size v, s))
      let bs := (oldValue s k).getD bs
      if k = C_DATA then
        match s.session sid with
        | some n =>
          if s.nat (SS_Q_CAPTURE n.profile) < capUsed s n + bs.length then (some rcQuota, [], s)
          else (some 0, bs, (s1.transfers rq bs.length).modSession sid (fun n =>
            { n with capReads := (n.capReads.filter (fun r => decide (s.now < r.1 + ms 1000))) ++ [(s.now, bs.length)] }))
        | none => (some 0, bs, s1.transfers rq bs.length)
      else (some 0, bs, s1.transfers rq bs.length)
  | c, _ => (c, [], s)

/-- A describe request (R316). -/
def describeObj (s : State) (sid k : Nat) : Option Nat × Bytes :=
  if !served s sid k then (none, [])
  else if !Catalog.indexDefined (k / 256) then (some rcNoIndex, [])
  else match Catalog.find k with
    | none => (some rcNoSub, [])
    | some r => (some 0, descriptor k r)

/-! ### Subscriptions (R338) -/

/-- The code of a subscription by checks 2 to 4; none while requests wait. -/
def subCode (s : State) (sid k : Nat) : Option Nat := if !served s sid k then none else some (readHead s sid k)

/-- A subscription of a session to an object, replacing an earlier one of the same object. -/
def State.subscribe (s : State) (sid addr tag : Nat) (bs : Bytes) : Option Nat × State :=
  match subCode s sid (addr % 16777216) with
  | some 0 =>
    let p := ofLe bs
    if bs.length ≠ 4 then (some rcLength, s)
    else if p < 1000 ∨ 1000000 < p then (some rcRange, s)
    else match s.session sid with
      | some n =>
        let rest := n.subs.filter (fun e => decide (e.1 ≠ addr))
        if 16 ≤ rest.length then (some rcQuota, s)
        else (some 0, s.modSession sid (fun n => { n with subs := rest ++ [(addr, p, tag)] }))
      | none => (some rcRole, s)
  | c => (c, s)

/-- A subscription ends. -/
def State.unsubscribe (s : State) (sid addr : Nat) : Option Nat × State :=
  match subCode s sid (addr % 16777216) with
  | some 0 => (some 0, s.modSession sid (fun n => { n with subs := n.subs.filter (fun e => decide (e.1 ≠ addr)) }))
  | c => (c, s)

/-! ### Staging (R363–R365) -/

/-- The transaction with a write of n bytes to an object staged: the new value of an object already staged takes the old
one's place. -/
def Tx.stage (t : Tx) (k : Nat) (bs : Bytes) : Tx :=
  if t.staged.any (fun w => decide (w.1 = k)) then
    { t with staged := t.staged.map (fun w => if w.1 = k then (k, bs) else w) }
  else { t with staged := t.staged ++ [(k, bs)] }

/-- A staged record would pass a limit of R365. -/
def stageBeyond (s : State) (sid : Nat) (t u : Tx) : Bool :=
  let q := match s.session sid with
    | some n => s.nat (SS_Q_STAGE n.profile)
    | none => 0
  decide (64 < u.staged.length) || (decide (t.bytes < u.bytes) &&
    (decide (524288 < proofUsed s + u.bytes - t.bytes) || decide (q < stageUse s sid + u.bytes - t.bytes)))

/-- A staged write that has passed check 6 (R364). -/
def State.stageWrite (s : State) (b : By) (t : Tx) (k : Nat) (bs : Bytes) : Nat × State :=
  let c := checkValue9 s k bs
  match Catalog.find k with
  | none => (rcNoSub, s)
  | some r =>
    if c ≠ 0 then (c, s)
    else
      let bs := cleaned r bs
      let v := r.ty.value bs
      let (n, s1) := if r.ty.long then (0, s) else s.clip b.rq k v
      let bs1 := if r.ty.long ∨ n = v then bs else le r.ty.size n
      let u := t.stage k bs1
      if stageBeyond s b.sid t u then (rcQuota, s)
      else
        let s2 := ((s1.modTx t.id (fun _ => u)).syncTx).transfers 11 bs1.length
        (if r.ty.long ∨ n = v then 0 else rcClipped, s2)

/-! ### Writing (R321, R381) -/

/-- Records that are held and have a place in the firmware queue: all but the reads that no frame carried (R324, R382). -/
def heldCount (s : State) : Nat := (s.heldW.filter (fun h => decide (h.op ≠ 1) || h.place.isSome)).length

/-- Records that wait for the firmware or behind a fence beside the one at a place: of its own request those behind it (R350, R382). -/
def queuedRecords (s : State) (sid : Nat) (place : Option (Nat × Nat)) : Nat :=
  (s.queue.map (fun q =>
    let l := match place with
      | some p => if q.sid = sid ∧ q.seq = p.1 then q.recs.drop (p.2 + 1) else q.recs
      | none => q.recs
    (l.filter (·.code.isNone)).length)).sum + heldCount s

/-- A direct write that has passed check 6: checks 8 to 10, the Anvil clip, and the acceptance. -/
def State.directWrite (s : State) (b : By) (stamp doms k : Nat) (bs : Bytes) : Nat × State :=
  let c := checkValue9 s k bs
  match Catalog.find k with
  | none => (rcNoSub, s)
  | some r =>
    if c ≠ 0 then (c, s)
    else
      let bs := cleaned r bs
      let v : Int := if r.ty.long then bs.length else r.ty.value bs
      let (n, s1) := if r.ty.long then (v, s) else s.clip b.rq k v
      let cand := s.putImage k bs n
      let a := ruleCode s cand b.sid k v false
      if a ≠ 0 then (a, if k / 256 = 0x6004 then s.refusedSafety b.sid k v else s)
      else if (relationFails s cand [k]).isSome then (rcRule, s)
      else
        (if n = v then 0 else rcClipped, (s1.transfers b.rq (if r.ty.long then bs.length else r.ty.size)).applyWrite b stamp doms k bs n)

/-- A write that a check refuses with a code: one of an SFY object that would have been staged aborts its transaction (R290, R364). -/
def State.failHead (s : State) (sid k h : Nat) : State :=
  if h = rcSafety ∧ stages s sid k = true ∧ (Catalog.find k).any (fun r => decide (r.acc = .sfy)) then
    match staging s sid with
    | some t => s.abortTx t.id 0x08 (s.nat DV_ADDRESS * 16777216 + k)
    | none => s
  else s

/-- A write of one object by a requester: held behind a fence, staged, refused or accepted; no code while it waits
(R321, R363, R381). `place` is where its result goes. -/
def State.writeObj (s : State) (b : By) (stamp doms : Nat) (place : Option (Nat × Nat)) (k : Nat) (bs : Bytes) : Option Nat × State :=
  if !served s b.sid k then (none, s)
  else if fenceHolds s b.sid stamp doms then
    if 4096 ≤ queuedRecords s b.sid place then (some rcQuota, s)
    else (none, { s with heldW := s.heldW ++ [⟨stamp, doms, b, 2, 0, s.nat DV_ADDRESS * 16777216 + k, bs, place⟩] })
  else
    let staged := stages s b.sid k
    let h := checkHead s b.sid staged k bs
    if h ≠ 0 then (some h, s.failHead b.sid k h)
    else match staged, staging s b.sid with
      | true, some t => let (c, s) := s.stageWrite b t k bs; (some c, s)
      | _, _ => let (c, s) := s.directWrite b stamp doms k bs; (some c, s)

/-! ### One record (R338) -/

/-- A record of an operation on an object of this device: its code, none while it waits or is held, and its value. A read outside a
frame that waits for its domain is held (R324). -/
def State.runRecord (s : State) (b : By) (stamp doms : Nat) (place : Option (Nat × Nat)) (op tag addr : Nat) (bs : Bytes) :
    Option Nat × Bytes × State :=
  let k := addr % 16777216
  match op with
  | 1 =>
    match s.readObj b.sid b.rq k with
    | (some c, v, s) => (some c, v, s)
    | (none, _, s) => (none, [], if place.isNone then { s with heldW := s.heldW ++ [⟨stamp, doms, b, op, tag, addr, bs, place⟩] } else s)
  | 2 => let (c, s) := s.writeObj b stamp doms place k bs; (c, [], s)
  | 3 => let (c, v) := describeObj s b.sid k; (c, v, s)
  | 5 => let (c, s) := s.subscribe b.sid addr tag bs; (c, [], s)
  | _ => let (c, s) := s.unsubscribe b.sid addr; (c, [], s)

/-! ### Requests outside a frame -/

/-- The result of a request leaves. -/
def State.reply (s : State) (c : Option Nat) (bs : Bytes) : State :=
  match c with
  | some c => s.emit (.result c bs)
  | none => s

/-- The requester's session is there, and its record has taken a token (check 7, R348); the firmware needs none. -/
def State.takeToken (s : State) (sid : Nat) : Charge × State :=
  let s := if sid = sidHost then s.ensureHost else s
  if sid = sidFw then (.guaranteed, s) else s.charge sid

/-- The request takes its token; without one, the result is that of the first check that fails. A result of 0x0E is counted (R360). -/
def State.charged (s : State) (sid : Nat) (head : Nat) (k : State → Option Nat × Bytes × State) : State :=
  let (c, s) := s.takeToken sid
  if c = .refused then
    let h := if head ≠ 0 then head else rcQuota
    (s.countRefused sid h).reply (some h) []
  else
    let (c, bs, s) := k s
    (s.countRefused sid (c.getD 0)).reply c bs

/-- After a write of a key slot's object has been answered (R345). -/
def State.afterKey (s : State) (k : Nat) : State := if (keySlotAt k).isSome then s.settleHost else s

/-- One write by a requester, with its bytes. -/
def State.writeBytes (s : State) (b : By) (k : Nat) (bs : Bytes) : State :=
  if !served s b.sid k then s
  else
    let head := checkHead s b.sid (stages s b.sid k) k bs
    let s := if (s.takeToken b.sid).1 = .refused then s.failHead b.sid k head else s
    (s.charged b.sid head (fun s =>
      let (c, s) := s.writeObj b s.tbNs (domainsOf s b.sid) none k bs
      (c, [], s))).afterKey k

/-- One write of a scalar. -/
def State.writeCmd (s : State) (b : By) (k : Nat) (v : Int) : State :=
  match Catalog.find k with
  | some r => s.writeBytes b k (le r.ty.size v)
  | none => s.writeBytes b k []

end Sys2Proof.Machine
end

