-- ==== Sys2Proof/Machine/Writes.lean ====
section
/-! DEFINITION. The commands that are a write of one object of this device by a requester: each is checked, held, staged,
refused or accepted as R321, R363 and R381 decide, with the effect of its object (R56–R522). -/

namespace Sys2Proof.Machine
open Obj

/-- The value of a BOOL. -/
def flagInt (b : Bool) : Int := if b then 1 else 0

/-- A_EMERG_REQ with one bit as asked. -/
def emergReq (s : State) (a : Fin 4) (m : Nat) (on : Bool) : Int :=
  let q := s.nat (A_EMERG_REQ a)
  ((if on then q ||| m else q - (q &&& m) : Nat) : Int)

/-- JOIN_START: a write of S_ENABLE = 1 (R57). -/
def execJoinStart (t : Nat) (b : By) (x : Fin 6) (s : State) : Res := done ((s.at_ t).writeCmd b (S_ENABLE x) 1)

/-- LEAVE_START: a write of S_ENABLE = 0 (R58). -/
def execLeaveStart (t : Nat) (b : By) (x : Fin 6) (s : State) : Res := done ((s.at_ t).writeCmd b (S_ENABLE x) 0)

/-- LOAD_ALL_REQUEST (R102). -/
def execLoadAllRequest (t : Nat) (b : By) (s : State) : Res := done ((s.at_ t).writeCmd b S_LOADALL 1)

/-- FAULT_CLEAR (R154). -/
def execFaultClear (t : Nat) (b : By) (x : Fin 6) (s : State) : Res := done ((s.at_ t).writeCmd b (S_Q_CLEAR x) 1)

/-- DEVICE_CLEAR (R158). -/
def execDeviceClear (t : Nat) (b : By) (s : State) : Res := done ((s.at_ t).writeCmd b S_DEV_CLEAR 1)

/-- SLOT_ENABLE: a write of K_ENABLE (R172). -/
def execSlotEnable (t : Nat) (b : By) (k : Fin 48) (on : Bool) (s : State) : Res := done ((s.at_ t).writeCmd b (K_ENABLE k) (flagInt on))

/-- HISTORY_RESET (R172). -/
def execHistoryReset (t : Nat) (b : By) (k : Fin 48) (s : State) : Res := done ((s.at_ t).writeCmd b (K_RESET k) 1)

/-- HISTORY_PRELOAD (R172). -/
def execHistoryPreload (t : Nat) (b : By) (k : Fin 48) (v : BitVec 32) (s : State) : Res := done ((s.at_ t).writeCmd b (K_PRELOAD k) (v.toNat))

/-- ROTATE_NOW (R183). -/
def execRotateNow (t : Nat) (b : By) (s : State) : Res := done ((s.at_ t).writeCmd b K_ROTATE_NOW 1)

/-- SNATCH_ARM: a write of A_SNATCH_TX (R202). -/
def execSnatchArm (t : Nat) (b : By) (a : Fin 4) (id : BitVec 16) (s : State) : Res := done ((s.at_ t).writeCmd b (A_SNATCH_TX a) (id.toNat))

/-- SNATCH_DISCARD: A_SNATCH_TX written 0xFFFF (R203). -/
def execSnatchDiscard (t : Nat) (b : By) (a : Fin 4) (s : State) : Res := done ((s.at_ t).writeCmd b (A_SNATCH_TX a) 0xFFFF)

/-- TENSION_FEEDBACK: a write of A_TEN_FB (R205). -/
def execTensionFeedback (t : Nat) (b : By) (a : Fin 4) (v : BitVec 32) (s : State) : Res := done ((s.at_ t).writeCmd b (A_TEN_FB a) (v.toNat))

/-- ENCODER_STATUS_CLEAR (R224). -/
def execEncoderStatusClear (t : Nat) (b : By) (e : Fin 2) (s : State) : Res := done ((s.at_ t).writeCmd b (A_ENC_STATUS_CLR e) 1)

/-- HOME_SET (R220). -/
def execHomeSet (t : Nat) (b : By) (a : Fin 4) (v : BitVec 64) (s : State) : Res := done ((s.at_ t).writeCmd b (A_HOME_SET a) (v.toNat))

/-- REFERENCE_RUN (R225). -/
def execReferenceRun (t : Nat) (b : By) (a : Fin 4) (s : State) : Res := done ((s.at_ t).writeCmd b (A_REF_RUN a) 1)

/-- MOVE_START (R227). -/
def execMoveStart (t : Nat) (b : By) (a : Fin 4) (s : State) : Res := done ((s.at_ t).writeCmd b (A_MOVE_START a) 1)

/-- STOP (R230). -/
def execStopWrite (t : Nat) (b : By) (a : Fin 4) (s : State) : Res := done ((s.at_ t).writeCmd b (A_STOP a) 1)

/-- GENERATOR_ARM (R243). -/
def execGeneratorArm (t : Nat) (b : By) (g : Fin 4) (s : State) : Res := done ((s.at_ t).writeCmd b (G_RUN g) 1)

/-- GENERATOR_STOP (R243). -/
def execGeneratorStop (t : Nat) (b : By) (g : Fin 4) (s : State) : Res := done ((s.at_ t).writeCmd b (G_RUN g) 0)

/-- CAPTURE_CLAIM (R246). -/
def execCaptureClaim (t : Nat) (b : By) (s : State) : Res := done ((s.at_ t).writeCmd b C_CLAIM 1)

/-- CAPTURE_RELEASE (R246). -/
def execCaptureRelease (t : Nat) (b : By) (s : State) : Res := done ((s.at_ t).writeCmd b C_CLAIM 0)

/-- CAPTURE_ARM (R249). -/
def execCaptureArm (t : Nat) (b : By) (s : State) : Res := done ((s.at_ t).writeCmd b C_ARM 1)

/-- BRAKE_OPEN_WRITE (R261). -/
def execBrakeOpenWrite (t : Nat) (b : By) (on : Bool) (s : State) : Res := done ((s.at_ t).writeCmd b SF_BRAKE_OPEN (flagInt on))

/-- LOCAL_WORD_WRITE (R263). -/
def execLocalWordWrite (t : Nat) (b : By) (a : Fin 4) (w : BitVec 16) (s : State) : Res := done ((s.at_ t).writeCmd b (SF_REQ_LOCAL a) (w.toNat))

/-- COMMISSIONING_OPEN (R296). -/
def execCommissioningOpen (t : Nat) (b : By) (s : State) : Res := done ((s.at_ t).writeCmd b SF_COMMISSION 1)

/-- COMMISSIONING_ABANDON (R297). -/
def execCommissioningAbandon (t : Nat) (b : By) (s : State) : Res := done ((s.at_ t).writeCmd b SF_COMMISSION 0)

/-- SEAL (R295). -/
def execSeal (t : Nat) (b : By) (s : State) : Res := done ((s.at_ t).writeCmd b SF_CFG_SEAL 1)

/-- UNSEAL (R295). -/
def execUnseal (t : Nat) (b : By) (s : State) : Res := done ((s.at_ t).writeCmd b SF_CFG_SEAL 0)

/-- CRC_CONFIRM (R295). -/
def execCrcConfirm (t : Nat) (b : By) (v : BitVec 32) (s : State) : Res := done ((s.at_ t).writeCmd b SF_CRC_CONFIRM (v.toNat))

/-- LOCK_TAKE: SS_LOCK written with operation 1; `w` is the rest of its layout (R351). -/
def execLockTake (t : Nat) (b : By) (w : BitVec 28) (s : State) : Res := done ((s.at_ t).writeCmd b SS_LOCK (0x10000000 + w.toNat : Nat))

/-- LOCK_RELEASE: SS_LOCK written with operation 2 (R351). -/
def execLockRelease (t : Nat) (b : By) (w : BitVec 28) (s : State) : Res := done ((s.at_ t).writeCmd b SS_LOCK (0x20000000 + w.toNat : Nat))

/-- KEY_WRITE (R343). -/
def execKeyWrite (t : Nat) (b : By) (k : Fin 64) (bs : Bytes) (s : State) : Res := done ((s.at_ t).writeBytes b (SS_KEY k) bs)

/-- KEY_SLOT_ENABLE (R343, R345). -/
def execKeySlotEnable (t : Nat) (b : By) (k : Fin 64) (on : Bool) (s : State) : Res := done ((s.at_ t).writeCmd b (SS_KEY_EN k) (flagInt on))

/-- CLOSE_SELECTED_SESSION (R353). -/
def execCloseSelectedSession (t : Nat) (b : By) (s : State) : Res := done ((s.at_ t).writeCmd b SS_V_CLOSE 1)

/-- TX_OPEN (R362). -/
def execTxOpen (t : Nat) (b : By) (s : State) : Res := done ((s.at_ t).writeCmd b TX_OPEN 1)

/-- TX_CUR (R363). -/
def execTxCur (t : Nat) (b : By) (id : BitVec 16) (s : State) : Res := done ((s.at_ t).writeCmd b TX_CUR (id.toNat))

/-- TX_COMMIT (R366). -/
def execTxCommit (t : Nat) (b : By) (s : State) : Res := done ((s.at_ t).writeCmd b TX_COMMIT 1)

/-- TX_ABORT (R373). -/
def execTxAbort (t : Nat) (b : By) (s : State) : Res := done ((s.at_ t).writeCmd b TX_ABORT 1)

/-- TX_SEL (R373). -/
def execTxSel (t : Nat) (b : By) (id : BitVec 16) (s : State) : Res := done ((s.at_ t).writeCmd b TX_SEL (id.toNat))

/-- FENCE: TX_FENCE of domain f written 1 (R381). -/
def execFenceWrite (t : Nat) (b : By) (f : Fin 16) (s : State) : Res := done ((s.at_ t).writeCmd b (TX_FENCE f) 1)

/-- CYCLE_WRITE (R394). -/
def execCycleWrite (t : Nat) (b : By) (v : BitVec 16) (s : State) : Res := done ((s.at_ t).writeCmd b NZ_CYCLE (v.toNat))

/-- CASCADE_RESET (R408). -/
def execCascadeReset (t : Nat) (b : By) (s : State) : Res := done ((s.at_ t).writeCmd b NZ_CASC_RESET 1)

/-- BARRIER_GO (R406). -/
def execBarrierGo (t : Nat) (b : By) (s : State) : Res := done ((s.at_ t).writeCmd b NZ_BARRIER_GO 1)

/-- SNAP_GO (R407). -/
def execSnapGo (t : Nat) (b : By) (s : State) : Res := done ((s.at_ t).writeCmd b NZ_SNAP_GO 1)

/-- CAN_MODE_WRITE (R420). -/
def execCanModeWrite (t : Nat) (b : By) (c : Fin 2) (m : BitVec 8) (s : State) : Res := done ((s.at_ t).writeCmd b (CB_MODE c) (m.toNat))

/-- RECOVER (R423). -/
def execRecover (t : Nat) (b : By) (c : Fin 2) (s : State) : Res := done ((s.at_ t).writeCmd b (CB_RECOVER c) 1)

/-- QUEUE_ACK (R425, R428). -/
def execQueueAck (t : Nat) (b : By) (c : Fin 2) (q : Fin 64) (s : State) : Res := done ((s.at_ t).writeCmd b (CB_Q_ACK c q) 1)

/-- QUEUE_ABORT (R428). -/
def execQueueAbort (t : Nat) (b : By) (c : Fin 2) (q : Fin 64) (s : State) : Res := done ((s.at_ t).writeCmd b (CB_Q_ABORT c q) 1)

/-- TIMEBASE_SET (R442). -/
def execTimebaseSet (t : Nat) (b : By) (v : BitVec 64) (s : State) : Res := done ((s.at_ t).writeCmd b TB_SET (v.toNat))

/-- MODE_WRITE (R491). -/
def execModeWrite (t : Nat) (b : By) (a : Fin 4) (m : BitVec 8) (s : State) : Res := done ((s.at_ t).writeCmd b (A_MODE a) (m.toNat))

/-- CRASH_STOP_REQUEST: bit 0 of A_EMERG_REQ is written, bit 1 as it stands (R493). -/
def execCrashStopRequest (t : Nat) (b : By) (a : Fin 4) (on : Bool) (s : State) : Res := done ((s.at_ t).writeCmd b (A_EMERG_REQ a) (emergReq s a 1 on))

/-- HOLD_REQUEST: bit 1 of A_EMERG_REQ is written, bit 0 as it stands (R493). -/
def execHoldRequest (t : Nat) (b : By) (a : Fin 4) (on : Bool) (s : State) : Res := done ((s.at_ t).writeCmd b (A_EMERG_REQ a) (emergReq s a 2 on))

/-- MANUAL_DUTY_TARGET (R500). -/
def execManualDutyTarget (t : Nat) (b : By) (a : Fin 4) (v : BitVec 16) (s : State) : Res := done ((s.at_ t).writeCmd b (A_MD_DUTY a) (v.toNat))

/-- PARAM_SAVE (R512). -/
def execParamSave (t : Nat) (b : By) (v : Nat) (s : State) : Res := done ((s.at_ t).writeCmd b FW_PARAM_SAVE v)

/-- PARAM_ERASE (R513). -/
def execParamErase (t : Nat) (b : By) (v : Nat) (s : State) : Res := done ((s.at_ t).writeCmd b FW_PARAM_ERASE v)

/-- IMAGE_DATA (R514). -/
def execImageData (t : Nat) (b : By) (bs : Bytes) (s : State) : Res := done ((s.at_ t).writeBytes b (FW_IMG_DATA) bs)

/-- IMAGE_OFFSET (R514). -/
def execImageOffset (t : Nat) (b : By) (v : Nat) (s : State) : Res := done ((s.at_ t).writeCmd b FW_IMG_OFFSET v)

/-- IMAGE_VERIFY (R514). -/
def execImageVerify (t : Nat) (b : By) (v : Nat) (s : State) : Res := done ((s.at_ t).writeCmd b FW_IMG_VERIFY v)

/-- SECURITY_COMMIT (R519). -/
def execSecurityCommit (t : Nat) (b : By) (v : Nat) (s : State) : Res := done ((s.at_ t).writeCmd b FW_SEC_COMMIT v)

/-- KEY_REVOKE (R519). -/
def execKeyRevoke (t : Nat) (b : By) (v : Nat) (s : State) : Res := done ((s.at_ t).writeCmd b FW_KEY_REVOKE v)

/-- SECTION_SERVICE (R522). -/
def execSectionService (t : Nat) (b : By) (x : Fin 6) (v : Nat) (s : State) : Res := done ((s.at_ t).writeCmd b (S_SERVICE x) v)

/-- CAPTURE_DATA_READ: a read of C_DATA (R250). -/
def execCaptureDataRead (t : Nat) (b : By) (s : State) : Res :=
  let s := s.at_ t
  done (if !served s b.sid C_DATA then s
    else s.charged b.sid (readHead s b.sid C_DATA) (fun s =>
      s.runRecord b s.tbNs (domainsOf s b.sid) none 1 0 (s.nat DV_ADDRESS * 16777216 + C_DATA) []))

/-! ### Boot (R505, R510, R511, R513) -/

/-- One record of a parameter set is restored as a write of requester 0: checks 2 to 5 and 8 to 10 (R513). -/
def State.restoreOne (s : State) (k : Nat) (bs : Bytes) : Bool × State :=
  match Catalog.find k with
  | none => (false, s)
  | some r =>
    if (decide (r.acc ≠ .rw) && decide (r.acc ≠ .rwt)) || !permits r.mask 0x16 || decide (checkValue9 s k bs ≠ 0) then (false, s)
    else
      let bs := cleaned r bs
      let v : Int := if r.ty.long then bs.length else r.ty.value bs
      let (n, s1) := if r.ty.long then (v, s) else s.clip 0 k v
      if ruleCode s (s.putImage k bs n) sidFw k v false ≠ 0 then (false, s)
      else (true, (s1.transfers 0 bs.length).applyWrite ⟨sidFw, 0⟩ s.tbNs 0xFFFF k bs n)

/-- The parameter set is restored in record order; records that fail are counted (R513). The strength codes stay at the default
that S_TMP_INIT holds at reset when a record restores another S_TMP_INIT, of which R131 does not speak: the model's choice (log
entry 99). -/
def State.restore (s : State) (gen : Nat) (l : List (Nat × Bytes)) : State :=
  let s0 := s.set FW_PARAM_GEN gen
  let p := l.foldl (fun (p : List Nat × State) w =>
    let (ok, s) := p.2.restoreOne w.1 w.2
    if ok then (p.1 ++ [w.1], s) else (p.1, s.inc FW_PARAM_FAILS)) ([], s0)
  let j (s : State) (d : Nat) : State := s.jFw 1 islBoot d 0x1702 0xFF (s.nat FW_IMG_RESULT) 0xFF 0 gen (s.nat FW_PARAM_FAILS)
  if (relationFails s0 p.2 p.1).isSome then j ((s0.set FW_PARAM_FAILS (p.2.get FW_PARAM_FAILS)).set FW_PARAM_STATE 2) 0x89
  else j (p.2.set FW_PARAM_STATE 1) 0x88

/-- An image of a bank is valid also by what the fuses say (R509). -/
def bootable (s : State) (i : Option FwImg) : Bool :=
  match i with
  | some h => decide (h.key < 4) && !bitOf (s.nat FW_KEY_STATE) h.key && decide (s.nat FW_SEC_MIN ≤ h.sec)
  | none => false

/-- The bank that is tried first (R511). -/
def firstBank (rec : Option (Fin 2 × Nat)) (i0 i1 : Option FwImg) : Nat :=
  match rec with
  | some r => r.1.val
  | none => match i0, i1 with
    | some a, some b => if a.version < b.version then 1 else 0
    | none, some _ => 1
    | _, none => 0

/-- BANK_LOADED: steps 5 to 7 of R510, with the images found intact in the two banks, the boot record when its CRC holds, and
the valid parameter set of the highest generation. -/
def execBankLoaded (t : Nat) (v0 v1 : Option FwImg) (rec : Option (Fin 2 × Nat)) (set : Option (Nat × List (Nat × Bytes)))
    (s : State) : Res :=
  let s := s.at_ t
  done (if !deviceUp s ∨ s.power.stage ≠ 1 then s
  else
    let i0 := if bootable s v0 then v0 else none
    let i1 := if bootable s v1 then v1 else none
    let first := firstBank rec i0 i1
    let at_ (n : Nat) : Option FwImg := if n = 0 then i0 else i1
    let s := s.modPower (fun p => { p with stage := 2 })
    let s := match rec with
      | some r => (s.set FW_BOOT_BANK r.1.val).modFw (fun f => { f with bootGen := r.2 })
      | none => s
    match at_ first, at_ (1 - first) with
    | none, none => (s.set FW_STATE 0).jFw 5 islSelfTest 0x83 0x1700 0xFF (s.nat FW_IMG_RESULT) islSelfTest 0 0 (s.nat FW_PAUSE_LAST)
    | a, c =>
      let bank := if a.isSome then first else 1 - first
      let s := (((s.runImage bank (if a.isSome then a else c)).set FW_STATE 1).set FW_PAIRS 3).modFw (fun f => { f with takenAt := s.now })
      let s := if a.isSome then s else s.jUpd 0x86 0x1700 bank s.fw.running
      let s := match set with
        | some p => s.restore p.1 p.2
        | none => (s.set FW_PARAM_STATE 0).set FW_PARAM_GEN 0
      s.modPower (fun p => { p with service := true }))

/-- The result of a record that a fence had held goes where the record came from. -/
def State.settleHeld (s : State) (h : Held) (code : Nat) (val : Bytes) : State :=
  match h.place with
  | some p => (s.fill h.who.sid p.1 p.2 code val).answer h.who.sid p.1
  | none => ((s.countRefused h.who.sid code).reply (some code) val).afterKey (h.addr % 16777216)

end Sys2Proof.Machine
end

