-- ==== Sys2Proof/Machine/Commit.lean ====
section
/-! DEFINITION. Commits: preparation, the commit instant, write-back, the messages of a cascade commit, fences, barrier tokens,
snapshots, lost devices and takeover (R366–R382, R406–R412). -/

namespace Sys2Proof.Machine
open Obj

/-! ### Preparation (R369, R370) -/

/-- The value of a staged object. -/
def stagedVal (w : Nat × Bytes) : Int :=
  match Catalog.find w.1 with
  | some r => if r.ty.long then w.2.length else r.ty.value w.2
  | none => 0

/-- Step 1: the first staged object under another session's lock. -/
def lockedStaged (s : State) (t : Tx) : Option Nat := (t.staged.find? (fun w => lockedBy s t.owner w.1)).map (·.1)

/-- Step 2: the staged values clipped against the envelope in force. -/
def State.clipStaged (s : State) : List (Nat × Bytes) → List (Nat × Bytes) × State
  | [] => ([], s)
  | w :: r =>
    match Catalog.find w.1 with
    | none => s.clipStaged r
    | some row =>
      let (n, s) := if row.ty.long then (0, s) else s.clip 11 w.1 (row.ty.value w.2)
      let (l, s) := s.clipStaged r
      ((w.1, if row.ty.long then w.2 else le row.ty.size n) :: l, s)

/-- The committed state: the image, and the active banks of the slots, with every staged value applied. -/
def committed (s : State) (l : List (Nat × Bytes)) : State :=
  s.each l (fun w c =>
    let c := c.putImage w.1 w.2 (stagedVal w)
    match slotAt w.1 with
    | some k =>
      if 2 ≤ w.1 % 256 ∧ w.1 % 256 ≤ 0x1A then c.modSlot k (fun b => { b with active := bankPut b.active (w.1 % 256) (stagedVal w) }) else c
    | none => c)

/-- Step 3: the first staged object that check 10 refuses. -/
def refusedStaged (s : State) (t : Tx) (l : List (Nat × Bytes)) : Option Nat :=
  let c := committed s l
  match l.find? (fun w => decide (ruleCode s c t.owner w.1 (stagedVal w) true ≠ 0)) with
  | some w => some w.1
  | none => relationFails s c (l.map (·.1))

/-- Step 4: the first staged slot whose inactive bank is held by another transaction. -/
def heldBank (s : State) (t : Tx) : Option Nat :=
  ((stagedSlots t).find? (fun k => (s.slot k).prepared.isSome)).bind (fun k =>
    (t.staged.find? (fun w => decide (slotAt w.1 = some k))).map (·.1))

/-- Step 5: the inactive banks of the staged slots are prepared (R178). -/
def State.prepareBanks (s : State) (t : Tx) : State :=
  s.each (stagedSlots t) (fun k s =>
    s.prepareSlot k ((t.staged.filter (fun w => decide (slotAt w.1 = some k) && decide (2 ≤ w.1 % 256) && decide (w.1 % 256 ≤ 0x1A))).map
      (fun w => (w.1 % 256, stagedVal w))))

/-- A participant answers with its VOTE (R377, R378). -/
def State.vote (s : State) (t : Tx) (code addr : Nat) : State :=
  match t.coord with
  | some (ser, id) => s.sendTx (some (s.nat NZ_MASTER)) (commitMsg 2 code id (pointField t) 0 ser 0 addr)
  | none => s

/-- A staged write of the safety configuration's state that check 10 refuses leaves its result (R295, R298). -/
def State.refusedStage (s : State) (t : Tx) (l : List (Nat × Bytes)) (k : Nat) : State :=
  match l.find? (fun w => decide (w.1 = k)) with
  | some w => if k / 256 = 0x6004 then s.refusedSafety t.owner k (stagedVal w) else s
  | none => s

/-- A preparation that fails: the transaction aborts, and a participant votes so. -/
def State.failPrepare (s : State) (t : Tx) (code key : Nat) : State :=
  let addr := s.nat DV_ADDRESS * 16777216 + key
  (s.abortTx t.id code addr).vote t code addr

/-- Preparation, R370 in order. -/
def State.prepare (s : State) (t : Tx) : State :=
  match lockedStaged s t with
  | some k => s.failPrepare t 0x06 k
  | none =>
    let (l, s) := s.clipStaged t.staged
    let s := s.modTx t.id (fun t => { t with staged := l })
    match refusedStaged s t l, heldBank s t with
    | some k, _ => (s.refusedStage t l k).failPrepare t 0x05 k
    | none, some k => s.failPrepare t 0x0D k
    | none, none =>
      let whole := t.coord.isNone && t.parts.isEmpty
      if whole ∧ t.point = 3 ∧ t.time < s.tbNs + 1000 then s.failPrepare t 0x09 0
      else
        let s := (s.prepareBanks { t with staged := l }).transfers 11 (8 * l.length)
        let T : Option Nat := if !whole then none else if t.point = 0 then some s.tbNs else if t.point = 3 then some t.time else none
        let s := s.modTx t.id (fun t => { t with st := 3, prepAt := some s.now, T := T })
        if t.coord.isSome then (s.modTx t.id (fun t => { t with asked := some s.now })).vote t 0 0
        else s.tryDecide t.id

/-! ### The commit instant and the write-back (R367, R371, R372, R180, R181) -/

/-- A named section of a transaction at point 1 loads the object at its own boundary (R103, R367). -/
def forcedSection (t : Tx) (k : Nat) : Option (Fin 6) :=
  match secAt k with
  | some x => if t.point = 1 ∧ bitOf t.secs x.val ∧ k / 65536 < 0x26 ∧ 0x0401 ≤ k % 65536 ∧ k % 65536 ≤ 0x0408 then some x else none
  | none => none

/-- The version object of a staged BLOB (R327, R407). -/
def versionOf (k : Nat) : Option Nat := if k = NZ_SNAP_OBJ then some NZ_SNAP_VER else none

/-- The version of an object stays until the write-back, which shows the new value and raises it (R326, R327). -/
def State.keepVersion (u s : State) (k : Nat) : State :=
  match versionOf k with
  | some v => u.set v (s.get v)
  | none => u

/-- One staged value takes effect; a load-all counts its 32 ns from T (R102). -/
def State.applyStaged (s : State) (t : Tx) (T : Nat) (w : Nat × Bytes) : State :=
  let v := stagedVal w
  if w.1 = S_LOADALL then (if v = 1 then s.loadAll (s.atTb T) else s)
  else match forcedSection t w.1, slotAt w.1 with
  | some x, _ => (s.set w.1 v).modPwm x (fun p => { p with forced := p.forced ++ [(w.1 % 256, v, 4 * T / 5)] })
  | none, some k =>
    let sub := w.1 % 256
    if 2 ≤ sub ∧ sub ≤ 0x1A then s.set w.1 v
    else if sub = 0x1C then s.histDirect k (.preload v)
    else if sub = 0x1D then (if v = 1 then s.histDirect k .reset else s)
    else s.effect ⟨t.owner, 11⟩ s.tbNs 0 w.1 w.2 v
  | none, none => (s.effect ⟨t.owner, 11⟩ s.tbNs 0 w.1 w.2 v).keepVersion s w.1

/-- The slots of a transaction flip; a direct write of a staged subindex still on its way is overtaken (R179, R180, R372). -/
def State.flipStaged (s : State) (t : Tx) : State :=
  s.each (stagedSlots t) (fun k s =>
    let subs := (s.slot k).prepared.getD []
    (((s.overtake k subs).modSlot k (fun c => { c with prepared := none })).flipSlot k).verFlip k)

/-- What reads still return of the staged objects until the write-back. -/
def oldOf (s : State) (t : Tx) : List (Nat × Bytes) :=
  t.staged.filterMap (fun w => match Catalog.find w.1 with
    | some r => if r.acc = .wo then none
      else some (w.1, if r.ty.long then (s.content t.owner w.1).1 else le r.ty.size (s.scalar t.owner w.1).1)
    | none => none)

/-- The transaction takes effect at T (R371). -/
def State.applyTx (s : State) (t : Tx) (T : Nat) : State :=
  let old := oldOf s t
  let s := ((s.flipStaged t).each t.staged (fun w s => s.applyStaged t T w)).judgeWritten s (t.staged.map (·.1))
  s.modTx t.id (fun t => { t with T := some T, applied := true, old := old })

/-- A transaction of an earlier or equal T, committed before this one, has still to take effect (R372). -/
def comesFirst (s : State) (t : Tx) (T : Nat) : Bool :=
  s.txs.any (fun u => decide (u.id ≠ t.id) && decide (u.st = 3) && !u.applied && match u.T with
    | some T' => decide (T' < T) || (decide (T' = T) && decide (u.order < t.order))
    | none => false)

/-- The lowest-numbered section of a mask (R366). -/
def firstSection (m : Nat) : Option (Fin 6) := allSecs.find? (fun x => bitOf m x.val)

/-- The commit instant of a prepared transaction, once reached: T as fixed, or the boundary of point 1 (R366). -/
def instantNow (s : State) (t : Tx) : Option Nat :=
  match t.T, t.prepAt with
  | some T, _ => if T ≤ s.tbNs then some T else none
  | none, some a =>
    if t.point = 1 ∧ t.parts.isEmpty ∧ (t.coord.isNone ∨ t.decided) ∧ a + ns 100 ≤ s.now then
      match firstSection t.secs with
      | some x =>
        let p := (s.sec x).pwm
        if isReload p.period p.presc p.phase s.tick then some s.tbNs else none
      | none => none
    else none
  | none, none => none

/-- COMMIT_INSTANT: T of transaction id. -/
def execCommitInstant (t : Nat) (id : Nat) (s : State) : Res :=
  runOn islStore (s.at_ t) (fun s => match s.tx id with
    | some t => if t.st = 3 ∧ !t.applied then
        match instantNow s t with
        | some T => if comesFirst s t T then s else s.applyTx t T
        | none => s
      else s
    | none => s)

/-- The transaction is committed once its values are written back and every participant has answered (R373, R378, R379). -/
def State.finishTx (s : State) (id : Nat) : State :=
  match s.tx id with
  | none => s
  | some t =>
    if t.written && t.parts.all (fun q => t.dones.any (fun d => decide (d.1 = q.1))) then
      let st := if t.dones.any (fun d => decide (d.2 = 0xFF)) then 6 else 4
      ((s.modTx id (fun t => { t with st := st, result := 0, left := s.now })).syncTx).inc TX_COMMITS
    else s

/-- The write-back of another flip of slot k waits for that of transaction id (R181). -/
def writeBackWaits (s : State) (id : Nat) (k : Fin 48) : Bool :=
  s.txs.any (fun u => decide (u.id ≠ id) && decide (u.st = 3) && u.applied && !u.written && (stagedSlots u).contains k)

/-- The transfers that write a commit back: the transaction engine's for each committed value, and Crucible's for each value of
the active set of every slot that has flipped, one per grant (R181, R326, R328). -/
def writeBackAsks (t : Tx) : List (Nat × Nat) :=
  [(11, ((t.staged.filter (fun w => (slotAt w.1).isNone)).map (fun w => transfersOf w.2.length)).sum), (12, 25 * (stagedSlots t).length)]

/-- WRITE_BACK_COMPLETE: the last value stands in the image, of a committed transaction or after a snatch flip of an armed one
(R181). -/
def execWriteBackComplete (t : Nat) (id : Nat) (s : State) : Res :=
  runOn islStore (s.at_ t) (fun s => match s.tx id with
    | some t => if t.st = 3 ∧ t.applied ∧ !t.written then
        let s := s.each (stagedSlots t) (fun k s => s.addCount (K_SET_VER k) (if writeBackWaits s id k then 2 else 1))
        let s := s.each (t.old.filterMap (fun w => versionOf w.1)) (fun v s => s.addCount v 2)
        let s := (s.servePort (writeBackAsks t)).modTx id (fun t => { t with old := [], written := true })
        match t.coord with
        | some (ser, cid) =>
          (s.finishTx id).sendTx (some (s.nat NZ_MASTER)) (commitMsg 4 (if t.late then 1 else 0) cid (pointField t) 0 ser 0 0)
        | none => s.finishTx id
      else s.each (allAxes.filter (fun (a : Fin 4) => decide (s.nat (A_SNATCH_TX a) = id))) (fun a s => s.snatchWritten a)
    | none => s)

/-! ### Messages of a cascade commit (R376–R379) -/

/-- The newest participant transaction of a coordinator's serial number and identifier. -/
def participant (s : State) (ser id : Nat) : Option Tx := (s.txs.filter (fun t => decide (t.coord = some (ser, id)))).getLast?

/-- A commit message of a kind arrives: code, identifier, point, serial number, T, address. -/
def State.receiveTx (s : State) (p : Fin 2) (kind : Nat) (bs : Bytes) (k : NazF → State → State) : State :=
  s.receive p nkTx false bs (fun f s => if numAt f.payload 0 1 = kind ∧ f.payload.length = 28 then k f s else s)

def msgCode (f : NazF) : Nat := numAt f.payload 1 1
def msgId (f : NazF) : Nat := numAt f.payload 2 2
def msgSerial (f : NazF) : Nat := numAt f.payload 8 8
def msgT (f : NazF) : Nat := numAt f.payload 16 8
def msgAddr (f : NazF) : Nat := numAt f.payload 24 4

/-- PREPARE: the participant begins its preparation, or votes with the code of its abort (R378). -/
def execPrepareMsg (t : Nat) (p : Fin 2) (c : PrepareIn) (s : State) : Res :=
  runOn (islNaz p) (s.at_ t) (fun s => s.receiveTx p 1 c.bytes (fun f s =>
    match participant s (msgSerial f) (msgId f) with
    | some t =>
      if t.st = 1 then
        (s.modTx t.id (fun t => { t with
          st := 2, point := if c.point = 1 ∨ c.point = 2 then c.point else numAt f.payload 4 1, secs := c.secs, dom := c.dom,
          time := msgT f, commitAt := s.now, order := nextOrder s })).modSession t.owner
          (fun n => { n with txCur := if n.txCur = t.id then 0xFFFF else n.txCur })
      else if t.st = 5 then s.vote t t.result t.fail
      else s
    | none => s))

/-- VOTE (R378). -/
def execVoteMsg (t : Nat) (p : Fin 2) (bs : Bytes) (s : State) : Res :=
  runOn (islNaz p) (s.at_ t) (fun s => s.receiveTx p 2 bs (fun f s =>
    if msgSerial f = serialNo then s.takeVote (msgId f) f.src (msgCode f) (msgAddr f) else s))

/-- A participant learns the decision: an abort, or T; after T it applies at once (R378, R379). A transaction wholly on this device at
point 1 or 2 has its T from its own boundary or fence (R366). -/
def State.learn (s : State) (t : Tx) (code T addr : Nat) : State :=
  if code ≠ 0 then (if t.decided then s else s.abortTx t.id code addr)
  else if t.st = 3 ∧ !t.decided ∧ (t.point = 1 ∨ t.point = 2) then s.modTx t.id (fun t => { t with decided := true })
  else if t.st = 3 ∧ !t.decided then
    let s := s.modTx t.id (fun t => { t with decided := true, T := some T })
    if T < s.tbNs then
      match s.tx t.id with
      | some t => ((s.modTx t.id (fun t => { t with late := true })).applyTx { t with late := true } T).jTx 0xA 0x11 t 0 0
      | none => s
    else s
  else if t.st = 4 then
    match t.coord with
    | some (ser, cid) => s.sendTx (some (s.nat NZ_MASTER)) (commitMsg 4 (if t.late then 1 else 0) cid (pointField t) 0 ser 0 0)
    | none => s
  else s

/-- DECIDE. -/
def execDecideMsg (t : Nat) (p : Fin 2) (bs : Bytes) (s : State) : Res :=
  runOn (islNaz p) (s.at_ t) (fun s => s.receiveTx p 3 bs (fun f s =>
    match participant s (msgSerial f) (msgId f) with
    | some t => s.learn t (msgCode f) (msgT f) (msgAddr f)
    | none => s))

/-- A participant has answered DONE, or is lost after the decision (0xFF). -/
def State.takeDone (s : State) (id d code : Nat) : State :=
  match s.tx id with
  | some t =>
    if t.coord.isNone ∧ t.decided ∧ !(t.dones.any (fun x => decide (x.1 = d))) then
      (s.modTx id (fun t => { t with dones := t.dones ++ [(d, code)], T := some (t.T.getD s.tbNs) })).finishTx id
    else s
  | none => s

/-- DONE. -/
def execDoneMsg (t : Nat) (p : Fin 2) (bs : Bytes) (s : State) : Res :=
  runOn (islNaz p) (s.at_ t) (fun s => s.receiveTx p 4 bs (fun f s =>
    if msgSerial f = serialNo then s.takeDone (msgId f) f.src (msgCode f) else s))

/-- QUERY: the device reports each participant transaction that the query names, by serial number and identifier, or every
one for the identifier 0xFFFF; the state, or 0xFF with T when it holds a decision to commit (R377, R379). -/
def execQueryMsg (t : Nat) (p : Fin 2) (bs : Bytes) (s : State) : Res :=
  runOn (islNaz p) (s.at_ t) (fun s => s.receiveTx p 5 bs (fun f s =>
    s.each s.txs (fun t s => match t.coord with
      | some (ser, cid) =>
        if t.live ∧ ser ≠ serialNo ∧ (msgId f = 0xFFFF ∨ (ser = msgSerial f ∧ cid = msgId f)) then
          s.sendTx (some f.src) (commitMsg 6 (if t.decided then 0xFF else t.st) cid (pointField t) 0 ser (if t.decided then t.T.getD 0 else 0) 0)
        else s
      | none => s)))

/-- A new master broadcasts an outcome once, acts on it as a participant, and journals it, with the lost coordinator's part where the
others commit (R379; log entry 57). -/
def State.resolve (s : State) (ser id code T : Nat) : State :=
  if s.naz.resolved.contains (ser, id) then s
  else
    let t := (participant s ser id).getD { Tx.fresh id 0xFFFF s.now with T := if code = 0 then some T else none }
    let s := s.sendTx none (commitMsg 3 code id (pointField t) 0 ser T 0)
    let s := match participant s ser id with
      | some t => s.learn t code T 0
      | none => s
    let e := { t with id := id, owner := 0xFFFF, T := if code = 0 then some T else t.T }
    let s := s.modNaz (fun n => { n with reports := n.reports.filter (fun r => decide (r ≠ (ser, id))), resolved := (ser, id) :: n.resolved })
    let s := if code = 0 ∧ s.naz.formerMaster < 256 then s.jTx 0xA 0x10 e 0 (s.naz.formerMaster * 16777216) else s
    s.jTx 0xA 0x12 e code 0

/-- A Query token asks for a decision of one transaction that devices have reported undecided; alone on its ring the device knows that
there is none (R379, R406). -/
def State.queryTx (s : State) (r : Nat × Nat) : State :=
  if s.naz.resolved.contains r ∨ s.naz.tokens.any (fun k => decide (k.kind = 3 ∧ numAt k.payload 18 2 = r.2 ∧ numAt k.payload 24 8 = r.1)) then s
  else if tokenPorts s = [] then s.resolve r.1 r.2 0x0B 0
  else s.startToken 3 0 0 (commitMsg 6 0 r.2 0 0 r.1 0 0)

/-- STATE: a decision is broadcast again; an undecided transaction is noted, and aborted once no device holds a decision
(R379). -/
def execStateMsg (t : Nat) (p : Fin 2) (bs : Bytes) (s : State) : Res :=
  runOn (islNaz p) (s.at_ t) (fun s => s.receiveTx p 6 bs (fun f s =>
    let r := (msgSerial f, msgId f)
    if s.nat NZ_ROLE ≠ 1 then
      if !s.naz.takingOver then s
      else if msgCode f = 0xFF then
        s.modNaz (fun n => { n with decisions := n.decisions.filter (fun d => decide ((d.1, d.2.1) ≠ r)) ++ [(r.1, r.2, msgT f)] })
      else s.modNaz (fun n => { n with reports := n.reports.filter (fun q => decide (q ≠ r)) ++ [r] })
    else if msgCode f = 0xFF then s.resolve r.1 r.2 0 (msgT f)
    else if s.naz.noDecision then s.resolve r.1 r.2 0x0B 0
    else s.queryTx r))

/-! ### Tokens (R406) -/

/-- The writes stamped before a token's arrival have all been accepted or refused. -/
def settled (s : State) (arrived : Nat) : Bool :=
  let T := s.stampOf arrived
  s.queue.all (fun q => decide (T ≤ q.stamp)) && s.heldW.all (fun h => decide (T ≤ h.stamp ∨ h.op ≠ 2)) &&
    s.naz.fenced.all (fun h => decide (T ≤ h.stamp))

/-- The part of a vote token's transaction on this device. -/
def tokenTx (s : State) (f : NazF) : Option Tx := participant s (numAt f.payload 24 8) (numAt f.payload 18 2)

/-- The condition of a token holds on this device. -/
def tokenReady (s : State) (f : NazF) (arrived : Nat) : Bool :=
  match numAt f.payload 0 1 with
  | 1 => settled s arrived
  | 2 => match tokenTx s f with
    | some t => decide (t.st = 3 ∨ t.st = 5)
    | none => true
  | _ => true

/-- Flags, count and data of a token changed: bit 0 joined, one device more. -/
def tokenPay (pay : Bytes) (bad : Bool) (data : Bytes) : Bytes :=
  pay.take 1 ++ le 1 (numAt pay 1 1 ||| (if bad then 1 else 0) : Nat) ++ le 2 (numAt pay 2 2 + 1 : Nat) ++ fieldAt pay 4 12 ++ data

/-- What this device merges into a token. -/
def State.merge (s : State) (f : NazF) (ready : Bool) : Bytes × State :=
  let pay := f.payload
  let data := pay.drop 16
  match numAt pay 0 1 with
  | 2 =>
    match tokenTx s f with
    | some t =>
      if t.st = 5 ∧ numAt data 1 1 = 0 then (tokenPay pay false (data.take 1 ++ le 1 t.result ++ fieldAt data 2 22 ++ le 4 t.fail), s)
      else (tokenPay pay (!ready) data, s)
    | none => (tokenPay pay false data, s)
  | 3 =>
    match s.txs.find? (fun t => t.coord.isSome && t.decided && decide (t.st = 3) &&
        (decide (numAt data 2 2 = 0xFFFF) || decide (t.coord = some (numAt data 8 8, numAt data 2 2)))) with
    | some t =>
      if numAt data 1 1 = 0xFF then (tokenPay pay false data, s)
      else (tokenPay pay false (commitMsg 6 0xFF (coordOf t).2 (pointField t) 0 (coordOf t).1 (t.T.getD 0) 0), s)
    | none => (tokenPay pay false data, s)
  | 4 =>
    let l := snapKeys data
    (tokenPay pay (snapUndefined l) data, s.armSnap (numAt pay 8 8) l)
  | _ => (tokenPay pay false data, s)

/-- A token that this device did not start: merged and passed on, or held for its condition or its deadline. -/
def State.foreignToken (s : State) (p : Fin 2) (f : NazF) (arrived : Nat) : State :=
  if mergedAlready s f then s.passToken p f
  else
    let ready := tokenReady s f arrived
    if ready ∨ numAt f.payload 8 8 ≤ s.tbNs then
      let (pay, s) := (s.markMerged f).merge f ready
      s.passToken p { f with payload := pay }
    else s.modNaz (fun n => { n with held := n.held ++ [⟨p.val, f.bytes, arrived⟩] })

/-- Tokens held are judged again. -/
def State.rejudge (s : State) : State :=
  let l := s.naz.held
  (s.modNaz (fun n => { n with held := [] })).each l (fun h s => match NazF.parse h.frame with
    | some f => s.foreignToken (if h.port = 0 then 0 else 1) f h.at_
    | none => s)

/-- Two returns of one token together: flags joined, devices added, the first abort code and the decision kept. -/
def joinPays (a b : Bytes) : Bytes :=
  let data := if numAt a 17 1 = 0 ∨ (numAt a 0 1 = 3 ∧ numAt b 17 1 = 0xFF) then b.drop 16 else a.drop 16
  a.take 1 ++ le 1 (numAt a 1 1 ||| numAt b 1 1 : Nat) ++ le 2 (numAt a 2 2 + numAt b 2 2 : Nat) ++ fieldAt a 4 12 ++ data

/-- A vote token is back (R378, R406). -/
def State.voteDone (s : State) (pay : Bytes) : State :=
  let id := numAt pay 18 2
  match s.tx id with
  | none => s
  | some t =>
    if t.coord.isSome || t.decided then s
    else if numAt pay 17 1 ≠ 0 then s.takeVote id 0xFFFF (numAt pay 17 1) (numAt pay 40 4)
    else if bitOf (numAt pay 1 1) 0 then s.abortTx id 0x0C 0
    else s.each t.parts (fun q s => s.takeVote id q.1 0 0)

/-- A snapshot token is back: late or refused, the snapshot is void (R407). -/
def State.snapBack (s : State) (pay : Bytes) : State :=
  if bitOf (numAt pay 1 1) 0 ∨ numAt pay 8 8 < s.tbNs then s.voidAll else s

/-! ### Takeover (R379, R412) -/

/-- The snatch state of a host block (R412; log entry 103): a transaction that this device has armed itself serves from here on;
without one a detector that was active stays active with no switch, and one that was not finds nothing armed. -/
def State.loadSnatch (s : State) (a : Fin 4) (v : Nat) : State :=
  if !(s.ax a).armed.isEmpty then s
  else if v = 2 ∨ v = 4 then (s.set (A_SNATCH_STATE a) 4).modAx a (fun c => { c with snatchActive := true, snatchLowAt := none, snatchRun := 0 })
  else s.set (A_SNATCH_STATE a) 0

/-- The host blocks last received go into the local axes of the same numbers that can host them (R34, R412), with the start stage
that they carry. -/
def State.loadBlocks (s : State) : State :=
  s.each s.naz.blocks (fun b s => s.each (allAxes.filter (fun a => decide (a.val = numAt b 0 1) && canHost s a)) (fun a s =>
    let s := if s.nat (A_START_STAGE a) = numAt b 2 1 then s else s.enterStage a (numAt b 2 1)
    let s := ((((s.set (A_TORQUE_CMD a) (intAt b 4 4)).set (A_POS_REF a) (intAt b 16 8)).set (A_PROF_SPEED a) (intAt b 24 4)).set
      (A_PROF_ACCEL a) (intAt b 28 4)).set (A_PROF_STATE a) (numAt b 32 1)
    let s := ((s.set (A_RENDER_STATE a) (numAt b 34 1)).set (A_CASCADE_SECTIONS a) (numAt b 14 2)).loadSnatch a (numAt b 33 1)
    let s := s.modAx a (fun c => { c with posRef := intAt b 16 8, tPos := s.get (A_TARGET_POS a), tSpd := s.get (A_TARGET_SPEED a), vel := (intAt b 24 4 : Rat) / 65536, acc := (intAt b 28 4 : Rat) / 65536 })
    s.each ((slotsOfInput s a 0) ++ (slotsOfInput s a 1)) (fun k s => s.histDirect k (.preload (s.get (A_TORQUE_CMD a))))))

/-- The newest DEVICE frame of a device says that it is master-capable (R398). -/
def frameCap (s : State) (d : Nat) : Bool :=
  match (s.naz.devFrames.filter (fun e => decide (e.1 = d))).getLast? with
  | some e => bitOf (numAt e.2.2 8 1) 1
  | none => false

/-- The members of the present map, as a device that was not their master knows them: their capability from their DEVICE frames,
their keys from its ranking (R398, R412; log entry 57). -/
def knownMembers (s : State) : List Member :=
  ((orderOf s).filter (fun d => decide (d ≠ s.nat DV_ADDRESS) && bitOf (presentMap s) d)).map (fun d =>
    let key := (AL.find s.naz.keys d).getD (keyOf 0xFFFF 0)
    ⟨d, key % 2 ^ 64, key / 2 ^ 64, frameCap s d, false, takenChans s, 0xFFFF, 1, 0, 0, []⟩)

/-- Step 2 of R412: the device is master. -/
def State.becomeMaster (s : State) (pay : Bytes) : State :=
  let s := s.modNaz (fun n => { n with formerMaster := s.nat NZ_MASTER })
  let s := (((s.set NZ_ROLE 1).set NZ_MASTER (s.get DV_ADDRESS)).set NZ_STATE 3).set NZ_STANDBY s.naz.nextStandby
  let s := s.modNaz (fun n => { n with members := knownMembers s, masterSerial := serialNo, missing := [], minority := 0, missedRun := 0 })
  let s := s.each s.naz.devFrames (fun e s => s.holdDevice e.1 e.2.2)
  let s := s.loadBlocks
  let T := s.naz.starts.headD 0
  let T1 := s.naz.starts.getD 1 0
  let T2 := s.naz.starts.getD 2 0
  let s := s.freeze T1 T2
  let s := match s.naz.frozen with
    | some fr =>
      let fr := le 8 T ++ fieldAt fr 8 18 ++ le 2 (numAt fr 26 2 ||| 2 : Nat) ++ fr.drop 28
      (s.cast nkCycle (fr.take 8 ++ le 8 (64 * s.tb : Nat) ++ fr.drop 16)).applyCycle fr
    | none => s
  let s := s.freeze T T1
  let none_ := decide (numAt pay 17 1 ≠ 0xFF)
  let s := if none_ then s else s.resolve (numAt pay 24 8) (numAt pay 18 2) 0 (numAt pay 32 8)
  let s := s.each (s.txs.filter (fun t => t.coord.isSome && t.decided && decide (t.st = 3) && !(decide (t.coord = some (numAt pay 24 8, numAt pay 18 2)))))
    (fun t s => s.resolve (coordOf t).1 (coordOf t).2 0 (t.T.getD 0))
  let s := s.each s.naz.decisions (fun d s => s.resolve d.1 d.2.1 0 d.2.2)
  let s := s.modNaz (fun n => { n with noDecision := none_ && n.decisions.isEmpty })
  let own := (s.txs.filter (fun t => t.coord.isSome && !t.decided && decide (t.st = 2 ∨ t.st = 3))).map coordOf
  let open_ := own ++ s.naz.reports.filter (fun r => !(own.contains r))
  let s := s.each open_ (fun r s => if s.naz.noDecision then s.resolve r.1 r.2 0x0B 0 else s.queryTx r)
  let s := (s.jRing 6 0x04 (s.nat DV_ADDRESS) 0 0xFFFF).dropRoutes
  if tMin (nazN s) ≤ 1000 * s.nat NZ_CYCLE then s.cycleTo (s.nat NZ_CYCLE) else s

/-- A query token is back: the device takes over when it has passed a majority (R412), or the master resolves the transaction that it
names (R379). -/
def State.queryDone (s : State) (pay : Bytes) : State :=
  let id := numAt pay 18 2
  if !s.naz.takingOver then
    if s.nat NZ_ROLE = 1 ∧ id ≠ 0xFFFF then
      s.resolve (numAt pay 24 8) id (if numAt pay 17 1 = 0xFF then 0 else 0x0B) (numAt pay 32 8) else s
  else
    let s := s.modNaz (fun n => { n with takingOver := false })
    if nazN s < 2 * (numAt pay 2 2 + 1) then s.becomeMaster pay
    else (s.modNaz (fun n => { n with reports := [] })).jRing 6 0x06 (s.nat DV_ADDRESS) 0 0xFFFF

/-- A token of this device is complete. -/
def State.tokenDone (s : State) (pay : Bytes) : State :=
  match numAt pay 0 1 with
  | 1 => s.barrierDone
  | 2 => s.voteDone pay
  | 3 => s.queryDone pay
  | 4 => s.snapBack pay
  | _ => s

/-- A token of this device comes back; the last return completes it. -/
def State.tokenBack (s : State) (k : Token) (pay : Bytes) : State :=
  let m := match k.merged with
    | some q => joinPays q pay
    | none => pay
  if k.missing ≤ 1 then
    (s.modNaz (fun n => { n with tokens := n.tokens.filter (fun (x : Token) => decide (x.seq ≠ k.seq)) })).tokenDone m
  else s.modNaz (fun n => { n with tokens := n.tokens.map (fun (x : Token) =>
    if x.seq = k.seq then { x with missing := x.missing - 1, merged := some m } else x) })

/-- A token of a kind arrives at a port. -/
def State.receiveToken (s : State) (p : Fin 2) (kind : Nat) (bs : Bytes) : State :=
  s.receive p nkBarrier true bs (fun f s =>
    if numAt f.payload 0 1 ≠ kind then s
    else match ownToken s f with
      | some k => s.tokenBack k f.payload
      | none => if f.src = nazSelf s then s else s.foreignToken p f s.now)

/-- PLAIN_BARRIER. -/
def execPlainBarrier (t : Nat) (p : Fin 2) (bs : Bytes) (s : State) : Res :=
  runOn (islNaz p) (s.at_ t) (fun s => s.receiveToken p 1 bs)

/-- VOTE_BARRIER. -/
def execVoteBarrier (t : Nat) (p : Fin 2) (bs : Bytes) (s : State) : Res :=
  runOn (islNaz p) (s.at_ t) (fun s => s.receiveToken p 2 bs)

/-- QUERY_BARRIER. -/
def execQueryBarrier (t : Nat) (p : Fin 2) (bs : Bytes) (s : State) : Res :=
  runOn (islNaz p) (s.at_ t) (fun s => s.receiveToken p 3 bs)

/-- SNAPSHOT_BARRIER. -/
def execSnapshotBarrier (t : Nat) (p : Fin 2) (bs : Bytes) (s : State) : Res :=
  runOn (islNaz p) (s.at_ t) (fun s => s.receiveToken p 4 bs)

/-- A token leaves; with no link up it is back at once. -/
def State.launch (s : State) (kind flags deadline : Nat) (data : Bytes) : State :=
  if tokenPorts s = [] then s.tokenDone (le 1 kind ++ le 1 flags ++ le 2 0 ++ le 4 0 ++ le 8 deadline ++ data)
  else s.startToken kind flags deadline data

/-- BARRIER_TIMEOUT: the token of sequence q has not come back within the barrier time and 2 µs: it starts again (R406).
Tokens held here are judged again by their deadlines. -/
def execBarrierTimeout (t : Nat) (q : Nat) (s : State) : Res :=
  runPowered (islNaz 1) (s.at_ t) (fun s =>
    let s := s.rejudge
    match s.naz.tokens.find? (fun k => decide (k.seq = q)) with
    | some k =>
      if s.now < k.since + ns (barrierTime s + 2000) then s
      else
        let s := s.modNaz (fun n => { n with tokens := n.tokens.filter (fun (x : Token) => decide (x.seq ≠ q)) })
        if k.kind = 5 then s.restartPass else s.launch k.kind (numAt k.payload 1 1) (numAt k.payload 8 8) (k.payload.drop 16)
    | none => s)

/-- TAKEOVER: the device of key rank r, with the standby as rank 1, finds the (2r + 1)th consecutive cycle without a CYCLE
frame by its start; `k` gives the standby that it will name and the keys it ranks by (R412; log entry 57). -/
def execTakeover (t : Nat) (r : Nat) (k : Ranking) (s : State) : Res :=
  runPowered (islNaz 1) (s.at_ t) (fun s =>
    if s.nat NZ_ROLE = 2 ∧ s.naz.addressed ∧ s.naz.cap ∧ 1 ≤ r ∧ 2 * r ≤ s.naz.missedRun ∧ !s.naz.takingOver ∧
        (r = 1 → s.nat NZ_STANDBY = s.nat DV_ADDRESS) ∧ s.naz.starts ≠ [] ∧ s.naz.applied ≠ s.naz.starts.head? then
      let s := s.modNaz (fun n => { n with takingOver := true, nextStandby := k.next, keys := k.keys, reports := [], noDecision := false, decisions := [], resolved := [] })
      let s := s.sendTx none (commitMsg 5 0 0xFFFF 0 0 0 0 0)
      s.launch 3 0 0 (commitMsg 6 0 0xFFFF 0 0 0 0 0)
    else s)

/-! ### Preparation and its timeouts (R370, R378, R379) -/

/-- PREPARATION_COMPLETE: the transaction engine has worked through R370 for transaction id. -/
def execPreparationComplete (t : Nat) (id : Nat) (s : State) : Res :=
  runOn islStore (s.at_ t) (fun s => match s.tx id with
    | some t => if t.st = 2 then (s.prepare t).rejudge else s
    | none => s)

/-- PREPARE_TIMEOUT: TX_PREP_TIMEOUT has passed since PREPARE with votes missing (R378). -/
def execPrepareTimeout (t : Nat) (id : Nat) (s : State) : Res :=
  runOn islStore (s.at_ t) (fun s =>
    let s := s.rejudge
    match s.tx id with
    | some t => match t.coord, t.asked with
      | none, some a =>
        if (t.st = 2 ∨ t.st = 3) ∧ !t.decided ∧ a + ms (s.nat TX_PREP_TIMEOUT) ≤ s.now then s.abortTx id 0x0C 0 else s
      | _, _ => s
    | none => s)

/-- PARTICIPANT_DECISION_TIMEOUT: twice TX_PREP_TIMEOUT has passed since the own VOTE without a decision (R379). -/
def execParticipantDecisionTimeout (t : Nat) (id : Nat) (s : State) : Res :=
  runOn islStore (s.at_ t) (fun s => match s.tx id with
    | some t => match t.coord, t.asked with
      | some _, some a => if t.st = 3 ∧ !t.decided ∧ a + 2 * ms (s.nat TX_PREP_TIMEOUT) ≤ s.now then s.abortTx id 0x0B 0 else s
      | _, _ => s
    | none => s)

/-! ### Fences (R368, R381, R382) -/

/-- The fence of a domain that was stamped first, of one stamp the first issued (R381). -/
def fenceOf (s : State) (f : Nat) : Option Fence :=
  (s.fences.filter (fun x => decide (x.dom = f))).foldl (fun (m : Option Fence) x => match m with
    | some y => if x.stamp < y.stamp then some x else some y
    | none => some x) none

/-- FENCE_ACCEPTED: every write of the domain stamped before the fence, or with it by another source, has been accepted or
refused. -/
def execFenceAccepted (t : Nat) (f : Fin 16) (s : State) : Res :=
  runOn islStore (s.at_ t) (fun s => match fenceOf s f with
    | some x =>
      let before (sid stamp doms : Nat) : Bool := bitOf doms f.val && (decide (stamp < x.stamp) || (decide (stamp = x.stamp) && decide (sid ≠ x.sid)))
      if x.accepted.isSome || s.queue.any (fun q => before q.sid q.stamp q.doms) || s.heldW.any (fun h => decide (h.op = 2) && before h.who.sid h.stamp h.doms) ||
          s.naz.fenced.any (fun h => bitOf h.doms f.val && decide (h.stamp ≤ x.stamp)) then s
      else { s with fences := s.fences.map (fun y => if y = x then { y with accepted := some s.now } else y) }
    | none => s)

/-- The stamp of a held write: a record, or the cyclic data of a frame. -/
def stampOf : Held ⊕ HeldFrame → Nat
  | .inl h => h.stamp
  | .inr h => h.stamp

/-- Held writes by rising stamp, those of one stamp in their order. -/
def byStamp (l : List (Held ⊕ HeldFrame)) : List (Held ⊕ HeldFrame) :=
  l.foldl (fun m h => m.takeWhile (fun x => decide (stampOf x ≤ stampOf h)) ++ [h] ++ m.dropWhile (fun x => decide (stampOf x ≤ stampOf h))) []

/-- A held record is executed, unless another fence holds it. -/
def State.releaseRecord (s : State) (h : Held) : State :=
  let (c, v, s) := s.runRecord h.who h.stamp h.doms h.place h.op h.tag h.addr h.val
  match c with
  | some c => s.settleHeld h c v
  | none => if s.heldW.any (fun g => decide (g.who = h.who ∧ g.stamp = h.stamp ∧ g.place = h.place ∧ g.addr = h.addr)) then s
    else { s with heldW := s.heldW ++ [h] }

/-- Held cyclic data is accepted, unless another fence holds it. -/
def State.releaseFrame (s : State) (h : HeldFrame) : State :=
  if fencesCyclic s h.stamp h.doms then s.modNaz (fun n => { n with fenced := n.fenced ++ [h] })
  else s.acceptCyclic h.kind h.src h.payload

/-- The held writes are accepted in stamp order; those that another fence holds stay (R381). -/
def State.releaseHeld (s : State) : State :=
  let l := byStamp (s.heldW.map .inl ++ s.naz.fenced.map .inr)
  (({ s with heldW := [] }).modNaz (fun n => { n with fenced := [] })).each l (fun h s =>
    match h with
    | .inl h => s.releaseRecord h
    | .inr h => s.releaseFrame h)

/-- DOMAIN_ON: the domain is on, and the reads that waited for it follow (R324, R467). -/
def execDomainOn (t : Nat) (d : Fin 132) (s : State) : Res :=
  runOn islPower (s.at_ t) (fun s => if s.nat (PW_DOM_STATE d) = 2 then (s.domainUp d).releaseHeld else s)

/-- DOMAIN_WAKE_FAILED: the domain stays in state 4, its island is treated as faulted, and the reads that waited for it are refused
(R324, R468). -/
def execDomainWakeFailed (t : Nat) (d : Fin 132) (own : Fin 64) (s : State) : Res :=
  runOn islPower (s.at_ t) (fun s => if s.nat (PW_DOM_STATE d) = 2 then
    (((s.set (PW_DOM_STATE d) 4).jPower 0x09 d 0 0xFF).faultOutcome (wakeFaultIsland d own)).releaseHeld
  else s)

/-- Transactions at point 2 that wait on a fence of a domain accepted at an instant, in the order of their commits. -/
def waitingOn (s : State) (f acc : Nat) : List Tx :=
  let l := s.txs.filter (fun t => decide (t.st = 3) && !t.applied && decide (t.point = 2) && decide (t.dom = f) && (t.coord.isNone || t.decided) && match t.prepAt with
    | some a => decide (a ≤ acc)
    | none => false)
  l.foldl (fun m t => m.takeWhile (fun u => decide (u.order ≤ t.order)) ++ [t] ++ m.dropWhile (fun u => decide (u.order ≤ t.order))) []

/-- FENCE_COMPLETION: every write accepted before the fence has taken effect. -/
def execFenceCompletion (t : Nat) (f : Fin 16) (s : State) : Res :=
  runOn islStore (s.at_ t) (fun s => match fenceOf s f with
    | some x => match x.accepted with
      | some a =>
        let coming := (List.finRange 6).any (fun l => (s.lanes.coming.get l).any (fun w => decide (w.2.2.2 ≤ a)))
        let commits := s.txs.any (fun t => t.coord.isNone && decide (t.point = 0) && (decide (t.st = 2) || (decide (t.st = 3) && !t.applied)) &&
          bitOf t.doms f.val && decide (t.stamp ≤ x.stamp))
        let cycle := s.naz.rx.isSome && decide (s.naz.rxAt ≤ a)
        if coming || commits || cycle then s
        else
          let s := s.each (waitingOn s f a) (fun t s => s.applyTx t s.tbNs)
          let s := (s.inc (TX_FENCE_COUNT f)).set (TX_FENCE_DONE f) s.tbNs
          (({ s with fences := s.fences.erase x }).releaseHeld).rejudge
      | none => s
    | none => s)

/-! ### Snapshots and commands of the master (R407, R408, R411) -/

/-- The value of one object at a snapshot, as U64. -/
def snapValue (s : State) (k : Nat) : Bytes :=
  match Catalog.find k with
  | some r => if k = 0 ∨ r.acc = .wo then zeros 8 else if r.ty.long then padTo 8 (s.content 0xFFFF k).1 else le 8 (s.plainScalar k).1
  | none => zeros 8

/-- SNAPSHOT_LATCH: at Ts the device takes every value in force. -/
def execSnapshotLatch (t : Nat) (s : State) : Res :=
  runOn islStore (s.at_ t) (fun s => match s.naz.snap with
    | some (Ts, l) =>
      if Ts ≤ s.tbNs then
        let s := (s.setBlob NZ_SNAP_VAL (l.map (snapValue s)).flatten).modNaz (fun n => { n with snap := none })
        ((s.set NZ_SNAP_STATE 2).set NZ_SNAP_T Ts).addCount NZ_SNAP_VER 2
      else s
    | none => s)

/-- SNAPSHOT_VOID_COMMAND. -/
def execSnapshotVoidCommand (t : Nat) (p : Fin 2) (bs : Bytes) (s : State) : Res :=
  runOn (islNaz p) (s.at_ t) (fun s => s.receiveCommand p 3 bs (fun _ s => s.snapVoid))

/-- CASCADE_RESET_COMMAND: the device resets once it has forwarded the command. -/
def execCascadeResetCommand (t : Nat) (p : Fin 2) (bs : Bytes) (s : State) : Res :=
  runOn (islNaz p) (s.at_ t) (fun s => s.receiveCommand p 1 bs (fun _ s => s.deviceReset.leaveReset))

/-- A participant device is lost: before the decision the transaction aborts, after it the part is lost (R379). -/
def State.losePart (s : State) (d : Nat) (t : Tx) : State :=
  if !t.live || t.coord.isSome || !(t.parts.any (fun q => decide (q.1 = d))) then s
  else if !t.decided then s.abortTx t.id 0x0A (d * 16777216)
  else if t.dones.any (fun x => decide (x.1 = d)) then s
  else (s.jTx 0xA 0x10 t 0 (d * 16777216)).takeDone t.id d 0xFF

/-- The link of a port of device d is reported down, by d or by the neighbour at its other end (R411). -/
def linkCut (s : State) (d port : Nat) : Bool :=
  let order := orderOf s
  match posOnRing s d with
  | some i =>
    let other := order.getD (if port = 0 then (i + order.length - 1) % order.length else (i + 1) % order.length) 0
    s.naz.downs.contains (d, port) || s.naz.downs.contains (other, 1 - port)
  | none => s.naz.downs.contains (d, port)

/-- DEVICE_LOST: the master declares device d lost at a cycle start (R411); it counts as faulted (R159). -/
def execDeviceLost (t : Nat) (d : Nat) (s : State) : Res :=
  runPowered (islNaz 1) (s.at_ t) (fun s =>
    let silent := decide (3 ≤ (AL.find s.naz.missing d).getD 0)
    let cut := linkCut s d 0 && linkCut s d 1
    if s.nat NZ_ROLE = 1 ∧ d ≠ s.nat DV_ADDRESS ∧ bitOf (presentMap s) d ∧ (silent ∨ cut) then
      let s := s.setMaps (presentMap s - 2 ^ d) (lostMap s ||| 2 ^ d) (orderOf s)
      let s := s.modNaz (fun n => { n with members := n.members.filter (fun (m : Member) => decide (m.addr ≠ d)),
                                           missing := AL.erase n.missing d,
                                           lostSerials := match n.members.find? (fun (m : Member) => decide (m.addr = d)) with
                                             | some m => AL.insert n.lostSerials d m.serial
                                             | none => n.lostSerials })
      let s := s.each allAxes (fun a s => s.modAx a (fun c => { c with devs := c.devs.map (fun x => if x.d = d then { x with fault := true } else x) }))
      let s := (s.recount).jRing 6 0x03 d 0 0xFFFF
      s.each s.txs (fun t s => s.losePart d t)
    else s)

end Sys2Proof.Machine
end

