-- ==== Sys2Proof/Machine/Frames.lean ====
section
/-! DEFINITION. APP frames at the crypto/session island, the host port's words and frames, and the field ports (R334–R345,
R353–R358, R560). -/

namespace Sys2Proof.Machine
open Obj

/-! ### Entries at most once per second (R358) -/

/-- What a rate-limited entry knows of its last one: its instant, and what has been left out since. -/
def dueEntry (s : State) (l : Option Nat × Nat) : Bool := secondPast s l.1

/-- An OPEN refused with a code. -/
def State.jRefused (s : State) (p : Fin 3) (slot code : Nat) : State :=
  let l := s.last06.get p
  if dueEntry s l then
    ({ s with last06 := s.last06.set p.val (some s.now, 0) p.isLt }).jSession 0x06 0x1200 0xFFFF p.val code slot 0xFF 0xFFFF 0 (l.2 + 1)
  else { s with last06 := s.last06.set p.val (l.1, l.2 + 1) p.isLt }

/-- A frame whose tag fails: counted on a field port, journalled, and nothing else (R342). -/
def State.tagFails (s : State) (p : Fin 3) : State :=
  let s := if p.val < 2 then s.inc (NP_TAG_FAIL p.val) else s
  let l := s.last07.get p
  if dueEntry s l then
    ({ s with last07 := s.last07.set p.val (some s.now, 0) p.isLt }).jSession 0x07 0x1200 0xFFFF p.val 0 0xFF 0xFF 0xFFFF 0 (l.2 + 1)
  else { s with last07 := s.last07.set p.val (l.1, l.2 + 1) p.isLt }

/-- A host word or frame discarded (R355, R356). -/
def State.hostDiscard (s : State) (n : Nat) : State :=
  if n = 0 then s
  else if dueEntry s s.last08 then
    let k := s.last08.2 + n
    ({ s with last08 := (some s.now, 0) }).journal 0xA islHost 0x08 0x1206
      (le 2 0xFFFF ++ le 1 2 ++ le 1 0 ++ le 1 0xFF ++ le 1 0xFF ++ le 2 0xFFFF ++ le 8 0 ++ le 2 k)
  else { s with last08 := (s.last08.1, s.last08.2 + n) }

/-! ### Frames of a session (R336, R341, R342) -/

/-- An APP frame without its tag: type, session, sequence and payload. -/
structure AppF where
  ty : Nat
  sid : Nat
  seq : Nat
  pay : Bytes
deriving DecidableEq, Repr

/-- The frame that the payload of a datagram or the words of a host frame hold; none when they hold none. It ends at its tag
(R336); host words are padded with zero bytes (R356). -/
def AppF.parse (p : Fin 3) (bs : Bytes) : Option AppF :=
  let l := numAt bs 6 2
  if numAt bs 0 1 = 0xA5 ∧ numAt bs 1 1 = 1 ∧ l ≤ 1204 ∧ l + 28 ≤ bs.length ∧
      (bs.length = l + 28 ∨ (p = 2 ∧ bs.length < l + 32 ∧ (bs.drop (l + 28)).all (· = 0))) then
    some ⟨numAt bs 2 1, numAt bs 4 2, numAt bs 8 4, fieldAt bs 12 l⟩
  else none

/-- The tag of a frame is right under a key. -/
def tagRight (key bs : Bytes) : Bool :=
  let n := 12 + numAt bs 6 2
  decide (fieldAt bs n 16 = cmac key (bs.take n))

/-- The tag of a session's frame: 16 zero bytes for the unauthenticated host session (R345). -/
def Session.tagOk (n : Session) (bs : Bytes) : Bool :=
  if n.bare then decide (fieldAt bs (12 + numAt bs 6 2) 16 = zeros 16) else tagRight n.key bs

/-- A reply to frame seq of a session is sent and cached (R341). -/
def State.replyTo (s : State) (sid seq ty : Nat) (pay : Bytes) : State :=
  let (f, s) := s.sendApp sid ty pay
  s.modSession sid (fun n => { n with cache := ((seq, [f]) :: n.cache).take 8 })

/-- Dictionary service is open on every port, or the boot ROM serves the host port (R505, R510). -/
def frontOpen (s : State) (p : Fin 3) : Bool := s.power.service || (bootOnly s && decide (p = 2))

/-- A frame of a session arrives: its port, tag and sequence are judged; a new one is taken, a repeated one gets its cached
answer again, and every other is dropped (R335, R341, R342). -/
def State.receiveApp (s : State) (p : Fin 3) (src bs : Bytes) (ty : Nat) (k : AppF → Session → State → State) : State :=
  if !frontOpen s p then s
  else match AppF.parse p bs with
    | none => s
    | some f =>
      if f.ty ≠ ty then s
      else
        let s := if p = 2 ∧ f.sid = sidHost then s.ensureHost else s
        match s.session f.sid with
        | none => s
        | some n =>
          if n.port ≠ p.val then s
          else if !n.tagOk bs then s.tagFails p
          else
            let d := (f.seq + 4294967296 - n.shigh) % 4294967296
            if f.seq ≠ 0 ∧ 1 ≤ d ∧ d ≤ 1024 then
              k f n (s.modSession f.sid (fun n => { n with shigh := f.seq, lastAt := s.now, addr := src }))
            else match AL.find n.cache f.seq with
              | some l => (s.modSession f.sid (fun n => { n with lastAt := s.now, addr := src })).each l (fun r s => s.sendFrame p.val src r)
              | none => s

/-! ### Opening (R340, R342, R560) -/

/-- The answers to an OPEN, tagged with the key of its slot. -/
def State.answerOpen (s : State) (p : Fin 3) (src key : Bytes) (ty : Nat) (pay : Bytes) : State :=
  s.sendFrame p.val src (appFrame key ty 0xFFFF 0 pay)

/-- An OPEN refused: answered, counted and journalled. -/
def State.refuseOpen (s : State) (p : Fin 3) (src key : Bytes) (slot code : Nat) : State :=
  ((s.answerOpen p src key 0x7F (le 1 code ++ zeros 3)).inc SS_OPEN_REFUSED).jRefused p slot code

/-- The code of the first check of R560 that fails, or 0; the profile is the slot's. -/
def openCode (s : State) (p : Fin 3) (slot : Nat) : Nat :=
  if !bitOf (s.nat (SS_KEY_PORTS slot)) p.val ∨ s.nat (SS_KEY_MAX slot) ≤ (s.sessions.filter (fun n => decide (n.slot = some slot))).length then 0x14
  else if (freeId s).isNone then 0x12
  else if 150000 < guarSum s + rateOf s (s.nat (SS_KEY_PROFILE slot)) then 0x13
  else 0

/-- The rate of OPEN frames of a port: the running second and its count (R342). -/
def State.countOpen (s : State) (p : Fin 3) : Bool × State :=
  let (a, n) := s.opens.get p
  if n = 0 ∨ a + ms 1000 ≤ s.now then (true, { s with opens := s.opens.set p.val (s.now, 1) p.isLt })
  else if n < 10000 then (true, { s with opens := s.opens.set p.val (a, n + 1) p.isLt })
  else (false, s)

/-- OPEN: judged under R560, an identifier is assigned and held for 100 ms, and CHALLENGE goes out. The nonce Nd is a free
value. -/
def execOpenFrame (t : Nat) (p : Fin 3) (src bs : Bytes) (s : State) : Res :=
  runOn islCrypto (s.at_ t) (fun s =>
    match AppF.parse p bs with
    | none => s
    | some f =>
      if f.ty ≠ 1 ∨ !s.power.service then s
      else
        let (ok, s) := s.countOpen p
        let slot := numAt f.pay 0 2
        let key := s.blob (SS_KEY slot)
        if !ok ∨ 64 ≤ slot ∨ !s.flag (SS_KEY_EN slot) then s
        else if !tagRight key bs then s.tagFails p
        else if f.pay.length ≠ 20 then s
        else
          let code := openCode s p slot
          match freeId s with
          | some id =>
            if code ≠ 0 then s.refuseOpen p src key slot code
            else
              let nc := fieldAt f.pay 4 16
              let (n1, s) := s.free
              let (n2, s) := s.free
              let nd := le 8 n1 ++ le 8 n2
              let ks := cmac key (le 1 1 ++ nc ++ nd ++ le 2 id ++ le 2 slot)
              let j := s.nat (SS_KEY_PROFILE slot)
              let n := { Session.fresh id p.val (some slot) (s.nat (SS_KEY_ROLES slot)) j (burstOf s j) s.now with
                opening := some s.now, key := ks, addr := src }
              (s.settleTokens.addSession n).answerOpen p src key 0x02 (le 2 id ++ zeros 2 ++ nc ++ nd)
          | none => s.refuseOpen p src key slot code)

/-- CONFIRM: within the 100 ms the session opens with the roles of its slot, and ACCEPT goes out. -/
def execConfirmFrame (t : Nat) (p : Fin 3) (src bs : Bytes) (s : State) : Res :=
  runOn islCrypto (s.at_ t) (fun s => s.receiveApp p src bs 0x03 (fun f n s =>
    match n.opening, n.slot with
    | some a, some slot =>
      if s.now ≤ a + ms 100 then
        let roles := s.nat (SS_KEY_ROLES slot)
        let s := s.modSession f.sid (fun n => { n with opening := none, roles := roles })
        let s := s.replyTo f.sid f.seq 0x04 (le 1 roles ++ le 1 n.profile ++ le 2 (s.get (SS_Q_IDLE n.profile)))
        s.jSess 0x01 n 0 0
      else s
    | _, _ => s))

/-- A frame of an open session that its opening has completed. -/
def State.receiveOpen (s : State) (p : Fin 3) (src bs : Bytes) (ty : Nat) (k : AppF → Session → State → State) : State :=
  match AppF.parse p bs with
  | some f => if (s.session f.sid).any (fun n => n.opening.isSome) then s else s.receiveApp p src bs ty k
  | none => s

/-- KEEPALIVE: the idle timer starts again, and a KEEPALIVE answers. The unauthenticated host session carries REQUEST frames
alone (R345). -/
def execKeepaliveFrame (t : Nat) (p : Fin 3) (src bs : Bytes) (s : State) : Res :=
  runOn islCrypto (s.at_ t) (fun s => s.receiveOpen p src bs 0x20 (fun f n s => if n.bare then s else s.replyTo f.sid f.seq 0x20 []))

/-- CLOSE (R353). -/
def execCloseFrame (t : Nat) (p : Fin 3) (src bs : Bytes) (s : State) : Res :=
  runOn islCrypto (s.at_ t) (fun s => s.receiveOpen p src bs 0x21 (fun f n s => if n.bare then s else s.endSession f.sid 0x02 0))

/-! ### Host port (R354–R356) -/

/-- HOST_FRAME: the words of one select period, ended by the check word. The APP frame of an accepted one follows by its own
command. -/
def execHostFrame (t : Nat) (ws : List (BitVec 32)) (s : State) : Res :=
  runOn islHost (s.at_ t) (fun s =>
    let l := ws.map BitVec.toNat
    let h := l.headD 0
    let n := h % 65536
    let ok := decide (h / 16777216 = 0xA5) && decide (1 ≤ n) && decide (n ≤ 308) && decide (l.length = n + 2) &&
      decide (l.getLast? = some (crc32c (((l.drop 1).take n).map (fun (w : Nat) => le 4 w)).flatten))
    if ok && decide (s.hostOut.length < 16) then s.inc HP_FRAMES else (s.inc HP_FRAME_ERR).hostDiscard 1)

/-- HOST_DESELECT: select rises after `bad` words with a wrong edge count and `part` edges of a last word; `good` valid words came
before the first that was not. The oldest output frame is removed when all its words went out in valid words (R355, R356). -/
def execHostDeselect (t : Nat) (good part bad : Nat) (s : State) : Res :=
  runOn islHost (s.at_ t) (fun s =>
    let cut := decide (1 ≤ part) && decide (part ≤ 31)
    let s := if cut then s.inc HP_DESELECT_ERR else s
    let s := (s.addCount HP_EDGE_ERR bad).hostDiscard (bad + if cut then 1 else 0)
    match s.hostOut with
    | w :: r => if w.length ≤ good then { s with hostOut := r } else s
    | [] => s)

/-! ### Field ports (R334, R335) -/

/-- FIELD_PORT_LINK_CHANGE: what the SGMII autonegotiation word says. A port whose link comes up asks for duplicates of its
addresses (R334, R335). -/
def execFieldPortLinkChange (t : Nat) (p : Fin 2) (link : Bool) (speed : Nat) (full : Bool) (s : State) : Res :=
  runOn (42 + p.val) (s.at_ t) (fun s =>
    let up := link && decide (speed = 1000) && full
    let u := s.setFlag (NP_LINK p.val) up
    if up ∧ s.flag (NP_LINK p.val) = false then u.each (heldAddrs u p) (fun a u => u.askDuplicate p a) else u)

/-- A number of n bytes, most significant first. -/
def beAt (bs : Bytes) (off n : Nat) : Nat := ofLe (fieldAt bs off n).reverse

/-- The sum of the 16-bit words of bytes, with the carries folded in. -/
def onesSum (bs : Bytes) : Nat :=
  let v := ((List.range (ceilDiv bs.length 2)).map (fun i => beAt (bs ++ zeros 1) (2 * i) 2)).sum
  (v % 65536 + v / 65536) % 65536 + (v % 65536 + v / 65536) / 65536

/-- The addresses that a port receives: its own, all-nodes, and the solicited-node addresses of its own. -/
def receivedAddrs (s : State) (p : Fin 2) : List Bytes :=
  heldAddrs s p ++ [be 2 0xFF02 ++ zeros 13 ++ le 1 1] ++
    (heldAddrs s p).map solicitedNode

/-- The packet of an untagged frame, or of one with the tag of NP_VLAN; none for other frames (R334). -/
def packetOf (s : State) (p : Fin 2) (bs : Bytes) : Option (Nat × Bytes) :=
  if 1522 < bs.length then none
  else
    let body := bs.take (bs.length - 4)
    if beAt bs 12 2 = 0x8100 then
      if s.nat (NP_VLAN p.val) ≠ 0 ∧ beAt bs 14 2 % 4096 = s.nat (NP_VLAN p.val) then some (beAt bs 16 2, body.drop 18) else none
    else some (beAt bs 12 2, body.drop 14)

/-- The checksum over a pseudo header and a payload is right (IPv6). -/
def sumRight (ip pay : Bytes) (next : Nat) : Bool :=
  decide (onesSum (fieldAt ip 8 32 ++ be 4 pay.length ++ zeros 3 ++ le 1 next ++ pay) = 0xFFFF)

/-- The packet is one that the port serves: IPv6 without extension header, for an address of the port, an APP or safe
telegram datagram with its checksum, a Neighbour Discovery message or an echo request (R335). -/
def servedPacket (s : State) (p : Fin 2) (ip : Bytes) : Bool :=
  let next := beAt ip 6 1
  let len := beAt ip 4 2
  let pay := fieldAt ip 40 len
  decide (beAt ip 0 1 / 16 = 6) && decide (pay.length = len) && (receivedAddrs s p).contains (fieldAt ip 24 16) &&
    (if next = 17 then
      decide (8 ≤ len) && decide (beAt pay 4 2 = len) && decide (beAt pay 6 2 ≠ 0) && sumRight ip pay 17 &&
        (decide (beAt pay 2 2 = 50280) || decide (beAt pay 2 2 = 50281))
    else if next = 58 then
      decide (4 ≤ len) && sumRight ip pay 58 && (decide (beAt pay 0 1 = 128) || decide (beAt pay 0 1 = 135) || decide (beAt pay 0 1 = 136))
    else false)

/-- ETHERNET_FRAME: a frame from its destination address to its check sequence is accepted or dropped. What an accepted one
carries follows by its own command. -/
def execEthernetFrame (t : Nat) (p : Fin 2) (bs : Bytes) (s : State) : Res :=
  runOn (42 + p.val) (s.at_ t) (fun s =>
    if !s.flag (NP_LINK p.val) then s
    else match packetOf s p bs with
      | some (ty, ip) => if ty = 0x86DD ∧ servedPacket s p ip then s.inc (NP_RX p.val) else s.inc (NP_DROPPED p.val)
      | none => s.inc (NP_DROPPED p.val))

/-- NEIGHBOUR_SOLICITATION from an address for a target: the port advertises an address that it holds; the unspecified
source asks for a duplicate, and the answer goes to all nodes (R335). -/
def execNeighbourSolicitation (t : Nat) (p : Fin 2) (src target : Bytes) (s : State) : Res :=
  runOn (42 + p.val) (s.at_ t) (fun s =>
    if s.flag (NP_LINK p.val) ∧ (heldAddrs s p).contains target then
      if src = zeros 16 then s.emit (.advert p.val (be 2 0xFF02 ++ zeros 13 ++ le 1 1) target false 255)
      else s.emit (.advert p.val src target true 255)
    else s)

/-- ECHO_REQUEST (R335). -/
def execEchoRequest (t : Nat) (p : Fin 2) (src dst bs : Bytes) (s : State) : Res :=
  runOn (42 + p.val) (s.at_ t) (fun s =>
    if s.flag (NP_LINK p.val) ∧ (receivedAddrs s p).contains dst then s.emit (.echo p.val src bs 64) else s)

end Sys2Proof.Machine
end

