-- ==== Sys2Proof/Machine/Requests.lean ====
section
/-! DEFINITION. Requests: charging and queueing, execution in frame order, routing by the master and proxies, publishing, and
requests for one object of any device (R316, R325, R338–R340, R347–R350, R376). -/

namespace Sys2Proof.Machine
open Obj

/-! ### Records (R338) -/

/-- The master's own leading record of a routed request whose writes are staged (R376; log entry 30): the value is the
identifier of its transaction. -/
def opJoin : Nat := 0x82

/-- The records that bytes hold; none when they overrun or an operation is unknown. `fuel` bounds their number. -/
def parseRecs (ops : List Nat) : Nat → Bytes → Option (List Rec)
  | 0, bs => if bs = [] then some [] else none
  | fuel + 1, bs =>
    if bs = [] then some []
    else
      let l := numAt bs 2 2
      let size := 8 + 4 * ceilDiv l 4
      let op := numAt bs 0 1
      if bs.length < size ∨ !(ops.contains op) then none
      else (parseRecs ops fuel (bs.drop size)).map (fun r => ⟨op, numAt bs 1 1, numAt bs 7 1, numAt bs 4 3, fieldAt bs 8 l, none⟩ :: r)

/-- The operations of R338. -/
def clientOps : List Nat := [1, 2, 3, 5, 6]

/-- The bytes of a record. -/
def Rec.bytes (r : Rec) : Bytes :=
  let b := le 1 r.op ++ le 1 r.tag ++ le 2 r.val.length ++ le 4 (r.dev * 16777216 + r.key : Nat) ++ r.val
  padTo (4 * ceilDiv b.length 4) b

/-- Response records, each with its padding. -/
def splitResp : Nat → Bytes → List Bytes
  | 0, _ => []
  | fuel + 1, bs =>
    let n := 4 * ceilDiv (12 + numAt bs 2 2) 4
    if bs.length < n then [] else bs.take n :: splitResp fuel (bs.drop n)

/-- The record addresses this device. -/
def local_ (s : State) (r : Rec) : Bool := decide (r.dev = s.nat DV_ADDRESS)

/-- A write that a transaction of its session stages (R363). -/
def Rec.stageable (r : Rec) : Bool := decide (r.op = 2) && !(decide (0x1200 ≤ r.key / 256) && decide (r.key / 256 ≤ 0x13FF))

/-! ### Devices (R320, R347) -/

/-- A device is held on the cascade. -/
def heldDevice (s : State) (d : Nat) : Bool := decide (s.nat NZ_ROLE = 1) && bitOf (presentMap s) d

/-- The code of a record for device d, or 0 when it is forwarded. -/
def routeCode (s : State) (sid d : Nat) : Nat :=
  if s.nat NZ_ROLE = 2 then rcNoRoute
  else if !heldDevice s d then rcNoDevice
  else if s.routes.contains (sid, d) then 0
  else if 8192 ≤ s.routes.length then rcNoRoute else 0

/-! ### Charging and the queue (R348, R350) -/

/-- The code that a record without a token returns: that of the first check that fails, check 1 that of its device (R321). -/
def uncharged (s : State) (sid : Nat) (r : Rec) : Nat :=
  let c := if !local_ s r then (if routeCode s sid r.dev = rcNoDevice then rcNoDevice else 0) else if r.op = 2 then checkHead s sid (stages s sid r.key) r.key r.val else askHead s sid r.op r.key
  if c ≠ 0 then c else rcQuota

/-- The records are charged one by one in frame order; whether each found a token in the session's bucket. -/
def State.chargeRecs (s : State) (sid : Nat) : List Rec → List Rec × Bool × State
  | [] => ([], true, s)
  | r :: l =>
    if r.op = opJoin then (let (l, g, s) := s.chargeRecs sid l; (r :: l, g, s))
    else
      let (c, s1) := s.charge sid
      let u := uncharged s sid r
      let s1 := if c = .refused then (if r.op = 2 ∧ local_ s r then s1.failHead sid r.key u else s1).countRefused sid u else s1
      let (l, g, s2) := s1.chargeRecs sid l
      (if c = .refused then { r with code := some u } :: l else r :: l, g && decide (c = .guaranteed), s2)

/-- Records of a request still to be executed. -/
def AppReq.left (q : AppReq) : Nat := (q.recs.filter (·.code.isNone)).length

/-- The last undecided record of a list is refused for want of room; its number, when there is one. -/
def dropLast (l : List Rec) : Option (Nat × List Rec) :=
  match (List.range l.length).reverse.find? (fun i => match l[i]? with
    | some r => r.code.isNone
    | none => false) with
  | some i => some (i, l.modify i (fun r => { r with code := some rcQuota }))
  | none => none

/-- A queued request changes. -/
def State.modReq (s : State) (sid seq : Nat) (f : AppReq → AppReq) : State :=
  { s with queue := s.queue.map (fun q => if q.sid = sid ∧ q.seq = seq then f q else q) }

/-- The youngest record of a request in the queue is refused with 0x0E. -/
def State.displace (s : State) (q : AppReq) : State :=
  match dropLast q.recs with
  | some (i, l) => (s.modReq q.sid q.seq (fun q => { q with recs := l })).fill q.sid q.seq i rcQuota []
  | none => s

/-- Requests with nothing left leave the queue, and are answered. -/
def State.sweepQueue (s : State) : State :=
  let fin := s.queue.filter (fun q => decide (q.left = 0))
  ({ s with queue := s.queue.filter (fun (q : AppReq) => decide (q.left ≠ 0)) }).each fin (fun q s => s.answer q.sid q.seq)

/-- Room for the queue's newest request, which holds a place already: a guaranteed one displaces the youngest best-effort
records, and what finds no room is refused (R350). `fuel` bounds the records refused. -/
def State.makeRoom (s : State) (sid seq : Nat) : Nat → State
  | 0 => s
  | fuel + 1 =>
    if (s.queue.map AppReq.left).sum + heldCount s ≤ 4096 then s
    else match s.queue.find? (fun q => decide (q.sid = sid ∧ q.seq = seq)) with
      | none => s
      | some q =>
        let victim := if q.guaranteed then ((s.queue.filter (fun u => !u.guaranteed && decide (0 < u.left))).getLast?).getD q else q
        (s.displace victim).makeRoom sid seq fuel

/-! ### Routing (R347, R376) -/

/-- The undecided records of a request for device d, with their numbers. -/
def recsFor (recs : List Rec) (d : Nat) : List (Nat × Rec) :=
  ((List.range recs.length).zip recs).filter (fun p => p.2.code.isNone && decide (p.2.dev = d))

/-- The records of a request for device d are forwarded as one request, or refused. -/
def State.forward (s : State) (q : AppReq) (d : Nat) : State :=
  let l := recsFor q.recs d
  let code := routeCode s q.sid d
  if code ≠ 0 then s.each l (fun p s => s.fill q.sid q.seq p.1 code [])
  else match s.session q.sid with
    | none => s
    | some n =>
      let s := if s.routes.contains (q.sid, d) then s else ({ s with routes := s.routes ++ [(q.sid, d)] }).syncSessions
      let staged := if l.any (fun p => p.2.stageable) then staging s q.sid else none
      let s := match staged with
        | some t => s.modTx t.id (fun t => if t.parts.any (fun x => decide (x.1 = d)) then t else { t with parts := t.parts ++ [(d, 0)] })
        | none => s
      let head := match staged with
        | some t => (Rec.mk opJoin 0 d TX_CUR (le 2 t.id) none).bytes
        | none => []
      let s := s.modFlight q.sid q.seq (fun f => { f with waiting := f.waiting ++ [d] })
      s.sendTo nkRequest d (le 2 q.sid ++ le 1 n.roles ++ le 1 n.profile ++ le 4 q.seq ++ head ++ (l.map (fun p => p.2.bytes)).flatten)

/-- Every record for another device leaves the request. -/
def State.forwardAll (s : State) (q : AppReq) : State :=
  let far := (q.recs.filter (fun r => r.code.isNone && !local_ s r)).map (·.dev)
  s.each far.dedup (fun d s => s.forward q d)

/-- The records for other devices count as handed on. -/
def handedOn (s : State) (recs : List Rec) : List Rec :=
  recs.map (fun r => if r.code.isNone ∧ !local_ s r then { r with code := some 0 } else r)

/-! ### Execution (R339) -/

/-- The proxy's writes from here on are staged in the participant transaction of the master's transaction (R376): its code, and the
code of the writes behind it. A participant that has aborted stages no more, and keeps its part of the vote (log entry 104). -/
def State.joinTx (s : State) (sid id : Nat) : Nat × Nat × State :=
  let ser := s.naz.masterSerial
  match (s.txs.filter (fun t => decide (t.coord = some (ser, id) ∧ t.owner = sid))).getLast?, s.session sid with
  | some t, _ => if t.st = 1 then (0, 0, s.modSession sid (fun n => { n with txCur := t.id })) else (0, rcRule, s)
  | none, some n =>
    if s.nat (SS_Q_TX n.profile) ≤ (openOf s sid).length ∨ 256 ≤ (liveTxs s).length then (rcQuota, rcQuota, s)
    else match freeSlot s with
      | some slot =>
        let (own, s) := s.takeSlot slot sid (some (ser, id))
        (0, 0, s.modSession sid (fun n => { n with txCur := own }))
      | none => (rcQuota, rcQuota, s)
  | none, none => (rcRole, rcRole, s)

/-- A record of the same frame before this one is held by a fence. -/
def behindHeld (s : State) (sid seq : Nat) : Bool :=
  s.heldW.any (fun h => decide (h.who.sid = sid) && match h.place with
    | some p => decide (p.1 = seq)
    | none => false)

/-- The record at a place is held. -/
def heldAt (s : State) (sid seq i : Nat) : Bool := s.heldW.any (fun h => decide (h.who.sid = sid ∧ h.place = some (seq, i)))

/-- The undecided records of this device are executed in frame order; the first that waits leaves the rest. -/
def State.runRecs (s : State) (b : By) (q : AppReq) : Nat → List Rec → List Rec × State
  | _, [] => ([], s)
  | i, r :: l =>
    if r.code.isSome then (let (l, s) := s.runRecs b q (i + 1) l; (r :: l, s))
    else
      let addr := r.dev * 16777216 + r.key
      if behindHeld s b.sid q.seq then
        let s := { s with heldW := s.heldW ++ [Held.mk q.stamp q.doms b r.op r.tag addr r.val (some (q.seq, i))] }
        let (l, s) := s.runRecs b q (i + 1) l
        ({ r with code := some 0 } :: l, s)
      else
        let (c, v, s) := s.runRecord b q.stamp q.doms (some (q.seq, i)) r.op r.tag addr r.val
        match c with
        | some c =>
          let s := s.fill q.sid q.seq i c v
          let (l, s) := s.runRecs b q (i + 1) l
          ({ r with code := some c } :: l, s)
        | none =>
          if heldAt s b.sid q.seq i then
            let (l, s) := s.runRecs b q (i + 1) l
            ({ r with code := some 0 } :: l, s)
          else (r :: l, s)

/-- The leading record of the master is executed; where it is refused, so are the writes behind it that would be staged. -/
def State.runJoin (s : State) (q : AppReq) : List Rec × State :=
  match q.recs with
  | r :: l =>
    if r.op = opJoin ∧ r.code.isNone then
      let (c, d, s) := s.joinTx q.sid (ofLe r.val)
      let s := s.fill q.sid q.seq 0 c r.val
      ({ r with code := some c } :: (if d = 0 then l else l.map (fun r => if r.stageable ∧ r.code.isNone then { r with code := some d } else r)), s)
    else (q.recs, s)
  | [] => ([], s)

/-- Results that were decided without execution stand in the response. -/
def State.fillDecided (s : State) (sid seq : Nat) (recs : List Rec) : State :=
  s.each ((List.range recs.length).zip recs) (fun p s => match p.2.code, flightOf s sid seq with
    | some c, some f => if (f.resp[p.1]?).getD none = none ∧ !heldAt s sid seq p.1 ∧ !(f.waiting.contains p.2.dev) then s.fill sid seq p.1 c [] else s
    | _, _ => s)

/-- A proxy whose request names no transaction of the master stages nothing in one (R376). -/
def State.leaveTx (s : State) (q : AppReq) : State :=
  match s.session q.sid with
  | some n =>
    if n.port = 5 ∧ !(q.recs.any (fun r => decide (r.op = opJoin))) ∧ (s.tx n.txCur).any (fun t => t.coord.isSome) then
      s.modSession q.sid (fun n => { n with txCur := 0xFFFF })
    else s
  | none => s

/-- A queued request is executed by a requester: what is for other devices is forwarded, the rest runs in frame order. What its
fences held while they waited in the queue is judged again once they are issued (R381). -/
def State.serve (s : State) (b : By) (q : AppReq) : State :=
  let (recs, s) := ((s.leaveTx q).forwardAll q).runJoin q
  let (recs, s) := s.runRecs b q 0 (handedOn s recs)
  let s := ((s.modReq q.sid q.seq (fun q => { q with recs := recs })).fillDecided q.sid q.seq recs).sweepQueue
  if q.recs.any (fun r => decide (r.op = 2) && (fenceKey r.key).isSome) then s.releaseHeld else s

/-- A request of a session: charged, and queued for the firmware; the host port executes without it (R328, R339). -/
def State.takeRequest (s : State) (sid seq : Nat) (recs : List Rec) : State :=
  let (recs, g, s) := s.chargeRecs sid recs
  let q : AppReq := ⟨sid, seq, s.tbNs, domainsOf s sid, recs, g⟩
  let f : Flight := ⟨sid, seq, recs.map (fun r => r.code.map (fun c => respRecord r c [])), recs, []⟩
  let first := !s.queue.any (fun u => decide (u.sid = sid))
  let s := if s.queue = [] then { s with fw := { s.fw with takenAt := s.now } } else s
  let s := { s with flights := s.flights ++ [f], queue := s.queue ++ [q] }
  if first && (s.session sid).any (fun n => decide (n.port = 2)) then s.serve ⟨sid, 5⟩ q
  else (s.makeRoom sid seq recs.length).sweepQueue

/-- REQUEST: an authenticated frame of records, refused as a whole when it is malformed (R338, R339). -/
def execRequestFrame (t : Nat) (p : Fin 3) (src bs : Bytes) (s : State) : Res :=
  runOn islCrypto (s.at_ t) (fun s => s.receiveOpen p src bs 0x10 (fun f _ s =>
    match parseRecs clientOps 33 f.pay with
    | some recs =>
      if recs.length = 0 ∨ 32 < recs.length then s.replyTo f.sid f.seq 0x7F (le 1 0x15 ++ zeros 3)
      else s.takeRequest f.sid f.seq recs
    | none => s.replyTo f.sid f.seq 0x7F (le 1 0x15 ++ zeros 3)))

/-- The next record of a request cannot be executed now (R324, R505). -/
def waitsNow (s : State) (q : AppReq) : Bool :=
  match (q.recs.filter (fun r => r.code.isNone && local_ s r)).head? with
  | some r => !served s q.sid r.key || (decide (r.op = 1) && (readCode s q.sid r.key).isNone)
  | none => false

/-- An earlier request of the same session waits: a later one does not overtake it (R383). -/
def overtakes (s : State) (q : AppReq) : Bool :=
  (s.queue.takeWhile (fun u => decide (u ≠ q))).any (fun u => decide (u.sid = q.sid) && waitsNow s u)

/-- REQUEST_SERVED: core pair i takes the first guaranteed request, or else the first best-effort one, and executes it (R348,
R504). What the host port left waiting goes on without a pair. -/
def execRequestServed (t : Nat) (i : Fin 2) (s : State) : Res :=
  runOn (40 + i.val) (s.at_ t) (fun s =>
    let host (q : AppReq) : Bool := (s.session q.sid).any (fun n => decide (n.port = 2))
    let ready := s.queue.filter (fun q => !waitsNow s q && !overtakes s q)
    match (ready.find? host).or ((ready.find? (fun q => q.guaranteed)).or ready.head?) with
    | none => s
    | some q =>
      if host q then (s.serve ⟨q.sid, 5⟩ q).rejudge
      else if !bitOf (s.nat FW_PAIRS) i.val ∨ s.fw.handing ≠ 0 ∨ !s.power.service then s
      else
        let s := { s with fw := { s.fw with takenAt := s.now } }
        (s.serve ⟨q.sid, if (s.session q.sid).any (fun n => decide (n.port = 5)) then 4 else i.val⟩ q).rejudge)

/-! ### Proxies (R347) -/

/-- The proxy of an originating session. -/
def proxyOf (s : State) (origin : Nat) : Option Session := s.sessions.find? (fun n => decide (n.port = 5 ∧ n.origin = some origin))

/-- The proxy of an originating session is there, or is opened with its roles and profile: its identifier, or the refusal
code. -/
def State.openProxy (s : State) (origin roles profile : Nat) : Nat × Nat × State :=
  match proxyOf s origin with
  | some n => (0, n.id, s)
  | none => match freeId s with
    | none => (0x12, 0, s)
    | some id =>
      let j := profile % 16
      if 150000 < guarSum s + rateOf s j then (0x13, 0, s)
      else
        let n := { Session.fresh id 5 none (roles % 32) j (burstOf s j) s.now with origin := some origin }
        (0, id, (s.settleTokens.addSession n).jSess 0x01 n 0 0)

/-- ROUTED_REQUEST: a REQUEST frame of the master is executed on a proxy session; one without records ends it. -/
def execRoutedRequest (t : Nat) (p : Fin 2) (bs : Bytes) (s : State) : Res :=
  runOn (islNaz p) (s.at_ t) (fun s => s.receive p nkRequest false bs (fun f s =>
    let o := numAt f.payload 0 2
    let seq := numAt f.payload 4 4
    match parseRecs (opJoin :: clientOps) 34 (f.payload.drop 8) with
    | none => s
    | some [] => match proxyOf s o with
      | some n => s.endSession n.id 0x03 5
      | none => s
    | some recs =>
      let (code, id, s) := s.openProxy o (numAt f.payload 2 1) (numAt f.payload 3 1)
      if code ≠ 0 then
        s.sendTo nkResponse f.src (le 2 o ++ zeros 2 ++ le 4 seq ++ (recs.map (fun r => respRecord r code [])).flatten)
      else s.takeRequest id seq recs))

/-- The response of device d to one of the master's requests: its records go to their places, and what it staged counts as
its part of the transaction (R376). The device is waited for until the last of its frames (R391; log entry 77). -/
def State.takeResponse (s : State) (d sid seq : Nat) (l : List Bytes) : State :=
  match flightOf s sid seq with
  | none => s
  | some f =>
    let join := match l.head? with
      | some h => if numAt h 0 1 = opJoin then some (numAt h 8 1, numAt h 12 2) else none
      | none => none
    let body := if join.isSome then l.drop 1 else l
    let places := (List.range f.recs.length).filter (fun i =>
      decide ((f.resp[i]?).getD none = none) && (f.recs[i]?).any (fun r => decide (r.dev = d)))
    let s := s.modFlight sid seq (fun f =>
      { f with resp := (places.zip body).foldl (fun m p => m.set p.1 (some p.2)) f.resp,
               waiting := if body.length < places.length then f.waiting else f.waiting.erase d })
    let staged := (body.filter (fun b => decide (numAt b 0 1 = 2) && (decide (numAt b 8 1 = 0) || decide (numAt b 8 1 = rcClipped)) &&
      !(decide (0x1200 ≤ numAt b 5 2) && decide (numAt b 5 2 ≤ 0x13FF)))).length
    let s := match join with
      | some (0, id) => s.modTx id (fun t => { t with parts := t.parts.map (fun (x : Nat × Nat) => if x.1 = d then (d, x.2 + staged) else x) })
      | some (_, id) => s.modTx id (fun t => { t with parts := t.parts.filter (fun (x : Nat × Nat) => decide (x ≠ (d, 0))) })
      | none => s
    s.answer sid seq

/-- ROUTED_RESPONSE: the response of a device returns to the originating session; what it publishes leaves by NOTIFY (log
entry 75). -/
def execRoutedResponse (t : Nat) (p : Fin 2) (bs : Bytes) (s : State) : Res :=
  runOn (islNaz p) (s.at_ t) (fun s => s.receive p nkResponse false bs (fun f s =>
    let o := numAt f.payload 0 2
    let l := splitResp 34 (f.payload.drop 8)
    if numAt f.payload 4 4 = 0 then
      if s.routes.contains (o, f.src) then (s.sendParts o 0x30 (packRecords 1204 l)).2 else s
    else s.takeResponse f.src o (numAt f.payload 4 4) l))

/-! ### Publishing (R338) -/

/-- The subscribed objects of a session that are due at this instant, read by the Ethernet engine; one that waits for its
domain is left out. -/
def State.readSubs (s : State) (n : Session) (rq : Nat) : List (Nat × Nat × Nat) → List Bytes × State
  | [] => ([], s)
  | e :: l =>
    if s.tbNs % (1000 * e.2.1) ≠ 0 then s.readSubs n rq l
    else
      let (c, v, s) := s.readObj n.id rq (e.1 % 16777216)
      let (m, s) := s.readSubs n rq l
      match c with
      | some c => (respRecord ⟨5, e.2.2, e.1 / 16777216, e.1 % 16777216, [], none⟩ c v :: m, s)
      | none => (m, s)

/-- NOTIFY: the timebase stands at a multiple of a subscription's period. What a proxy has subscribed goes to the master as a
response to sequence 0, and leaves there (R338, R347; log entry 75). -/
def execNotifyFrame (t : Nat) (sid : Nat) (s : State) : Res :=
  let s := s.at_ t
  match s.session sid with
  | some n =>
    if n.opening.isSome ∨ s.tb % 5 ≠ 0 then done s
    else if n.port = 5 then runOn (islNaz 1) s (fun s =>
      let (l, s) := s.readSubs n 4 n.subs
      s.each (packRecords 1204 l) (fun b s => s.sendTo nkResponse (s.nat NZ_MASTER) (le 2 (n.origin.getD 0xFFFF) ++ zeros 6 ++ b)))
    else if 2 < n.port then done s
    else runOn (if n.port = 2 then islHost else 42 + n.port) s (fun s =>
      let (l, s) := s.readSubs n (if n.port = 2 then 5 else 2 + n.port) n.subs
      s.each (packRecords 1204 l) (fun b s => (s.sendApp sid 0x30 b).2))
  | none => done s

/-! ### Requests for one object -/

/-- A sequence number for a request made outside a frame: the highest that no request in flight has; 0 is that of what a
proxy publishes. -/
def spareSeq (s : State) (sid : Nat) : Nat :=
  (((List.range (s.flights.length + 1)).map (fun j => 4294967295 - j)).find? (fun q => (flightOf s sid q).isNone)).getD 1

/-- A request for one object of another device, made outside a frame: forwarded as a request of its own, whose response leaves
by the session's port. -/
def State.askFar (s : State) (b : By) (r : Rec) : State :=
  let s := if b.sid = sidHost then s.ensureHost else s
  let (c, s1) := s.charge b.sid
  if c = .refused then (s1.countRefused b.sid (uncharged s b.sid r)).reply (some (uncharged s b.sid r)) []
  else
    let code := routeCode s1 b.sid r.dev
    if code ≠ 0 then s1.reply (some code) []
    else
      let f : Flight := ⟨b.sid, spareSeq s1 b.sid, [none], [r], []⟩
      ({ s1 with flights := s1.flights ++ [f] }).forward ⟨b.sid, f.seq, s1.tbNs, domainsOf s1 b.sid, [r], true⟩ r.dev

/-- A request for one object of a device by a requester. -/
def State.ask (s : State) (b : By) (op : Nat) (dev : BitVec 8) (key : BitVec 24) (bs : Bytes) : State :=
  let k := key.toNat
  let r : Rec := ⟨op, 0, dev.toNat, k, bs, none⟩
  if !local_ s r then s.askFar b r
  else if op = 2 then s.writeBytes b k bs
  else if !served s b.sid k then s
  else s.charged b.sid (askHead s b.sid op k) (fun s => s.runRecord b s.tbNs (domainsOf s b.sid) none op 0 (dev.toNat * 16777216 + k) bs)

/-- OBJECT_WRITE: a write of any object (R321). -/
def execObjectWrite (t : Nat) (b : By) (dev : BitVec 8) (key : BitVec 24) (bs : Bytes) (s : State) : Res := done ((s.at_ t).ask b 2 dev key bs)

/-- READ (R325). -/
def execReadRecord (t : Nat) (b : By) (dev : BitVec 8) (key : BitVec 24) (s : State) : Res := done ((s.at_ t).ask b 1 dev key [])

/-- DESCRIBE (R316). -/
def execDescribeRecord (t : Nat) (b : By) (dev : BitVec 8) (key : BitVec 24) (s : State) : Res := done ((s.at_ t).ask b 3 dev key [])

/-- SUBSCRIBE (R338). -/
def execSubscribeRecord (t : Nat) (b : By) (dev : BitVec 8) (key : BitVec 24) (bs : Bytes) (s : State) : Res := done ((s.at_ t).ask b 5 dev key bs)

/-- UNSUBSCRIBE (R338). -/
def execUnsubscribeRecord (t : Nat) (b : By) (dev : BitVec 8) (key : BitVec 24) (s : State) : Res := done ((s.at_ t).ask b 6 dev key [])

end Sys2Proof.Machine
end

