-- ==== Sys2Proof/Machine/CanPdo.lean ====
section
/-! DEFINITION. The CiA 301 engines of the CAN FD controllers: the SDO servers and the PDOs (R357, R421, R429–R431, R436). -/

namespace Sys2Proof.Machine
open Obj

/-! ### SDO (R357; the protocol is that of CiA 301, log entry 10) -/

/-- The SDO server runs: on the bus, in pre-operational or operational (R429). -/
def sdoRuns (s : State) (b : Fin 2) : Bool :=
  onBus s b && decide ((s.cb b).mode ≠ 0) && decide (s.nat (CB_NMT_STATE b) = 5 ∨ s.nat (CB_NMT_STATE b) = 0x7F)

/-- A transfer is under way in the server. -/
def State.setSdo (s : State) (b : Fin 2) (d : Sdo) : State := s.modCan b (fun c => { c with sdo := some d })

/-- The record of a transfer goes to the firmware (R357, R504). -/
def State.sdoRecord (s : State) (b : Fin 2) (op key : Nat) (val : Bytes) : State :=
  s.takeRequest (sidCan b) 0 [⟨op, 0, s.nat DV_ADDRESS, key, val, none⟩]

/-- A BLOB object is out of the server's reach. -/
def isBlob (k : Nat) : Bool := (Catalog.find k).any (fun r => decide (r.ty = .blob))

/-- A download begins: expedited data, or segments to come. -/
def State.sdoDownload (s : State) (b : Fin 2) (key : Nat) (bs : Bytes) : State :=
  let c := numAt bs 0 1
  let s := s.modCan b (fun c => { c with sdo := none })
  if isBlob key then s.sdoAbort b key 0x06010000
  else if bitOf c 1 then
    let width := match Catalog.find key with
      | some r => r.ty.size
      | none => 4
    s.sdoRecord b 2 key (fieldAt bs 4 (if bitOf c 0 then 4 - c / 4 % 4 else min 4 width))
  else
    let n := if bitOf c 0 then numAt bs 4 4 else 0
    if 64 < n then s.sdoAbort b key 0x06070010
    else (s.setSdo b ⟨key, true, false, n, [], s.now⟩).sdoSend b (le 1 0x60 ++ sdoMux key)

/-- A segment of a download. -/
def State.sdoDownSegment (s : State) (b : Fin 2) (d : Sdo) (bs : Bytes) : State :=
  let c := numAt bs 0 1
  let data := d.data ++ fieldAt bs 1 (7 - c / 2 % 8)
  if bitOf c 4 ≠ d.toggle then s.sdoAbort b d.key 0x05030000
  else if 64 < data.length ∨ (bitOf c 0 ∧ d.size ≠ 0 ∧ data.length ≠ d.size) then s.sdoAbort b d.key 0x06070010
  else if bitOf c 0 then (s.setSdo b { d with data := data, at_ := s.now }).sdoRecord b 2 d.key data
  else (s.setSdo b { d with data := data, toggle := !d.toggle, at_ := s.now }).sdoSend b (le 1 (0x20 + if d.toggle then 0x10 else 0))

/-- A segment of an upload: the one snapshot, seven bytes at a time (R325). -/
def State.sdoUpSegment (s : State) (b : Fin 2) (d : Sdo) (bs : Bytes) : State :=
  if bitOf (numAt bs 0 1) 4 ≠ d.toggle then s.sdoAbort b d.key 0x05030000
  else
    let part := d.data.take 7
    let last := decide (d.data.length ≤ 7)
    let head := (if d.toggle then 0x10 else 0) + 2 * (7 - part.length) + (if last then 1 else 0)
    let s := if last then s.modCan b (fun c => { c with sdo := none })
             else s.setSdo b { d with data := d.data.drop 7, toggle := !d.toggle, at_ := s.now }
    s.sdoSend b (le 1 (head : Nat) ++ part)

/-- SDO_TRANSFER: a request frame of the client. While the record of a transfer is with the firmware, the server takes no
other. -/
def execSdoTransfer (t : Nat) (b : Fin 2) (bs : Bytes) (s : State) : Res :=
  runOn (44 + b.val) (s.at_ t) (fun s =>
    if !sdoRuns s b ∨ bs.length ≠ 8 ∨ (flightOf s (sidCan b) 0).isSome then s
    else
      let c := numAt bs 0 1
      let key := numAt bs 1 2 * 256 + numAt bs 3 1
      let late (d : Sdo) : Bool := decide (d.at_ + ms 100 < s.now)
      match c / 32, (s.cb b).sdo with
      | 1, _ => s.sdoDownload b key bs
      | 2, _ =>
        let s := s.modCan b (fun c => { c with sdo := none })
        if isBlob key then s.sdoAbort b key 0x06010000 else s.sdoRecord b 1 key []
      | 0, some d => if !d.down then s.sdoAbort b d.key 0x05040001 else if late d then s.sdoAbort b d.key 0x05040000 else s.sdoDownSegment b d bs
      | 3, some d => if d.down then s.sdoAbort b d.key 0x05040001 else if late d then s.sdoAbort b d.key 0x05040000 else s.sdoUpSegment b d bs
      | 4, _ => s.modCan b (fun c => { c with sdo := none })
      | _, _ => s.sdoAbort b (if c / 32 = 5 ∨ c / 32 = 6 then key else 0) 0x05040001)

/-- SDO_SEGMENT_TIMEOUT: more than 100 ms since the last segment. -/
def execSdoSegmentTimeout (t : Nat) (b : Fin 2) (s : State) : Res :=
  runOn (44 + b.val) (s.at_ t) (fun s => match (s.cb b).sdo with
    | some d => if (flightOf s (sidCan b) 0).isNone ∧ d.at_ + ms 100 < s.now then s.sdoAbort b d.key 0x05040000 else s
    | none => s)

/-! ### PDOs (R430, R431) -/

/-- PDOs run. -/
def pdoRuns (s : State) (b : Fin 2) : Bool := onBus s b && decide ((s.cb b).mode ≠ 0) && decide (s.nat (CB_NMT_STATE b) = 5)

/-- The PDO is valid. -/
def pdoValid (s : State) (b : Fin 2) (i : Nat) : Bool := !bitOf (s.nat (CB_PDO_COBID b i)) 31

/-- Mapped bytes of a PDO. -/
def pdoBytes (s : State) (b : Fin 2) (i : Nat) : Nat := ((mapOfPdo s b i).map (fun e => e.2 / 8)).sum

/-- A PDO is lost. -/
def State.pdoLost (s : State) (b : Fin 2) : State := s.inc (CB_PDO_LOST b)

/-- The mapped objects take the data in their order. A record of a PDO has no answer: a write that a fence holds keeps a place
in no frame. -/
def State.writeMapped (s : State) (by_ : By) (stamp doms : Nat) : List (Nat × Nat) → Bytes → State
  | [], _ => s
  | e :: m, bs =>
    let n := e.2 / 8
    ((s.writeObj by_ stamp doms (some (4294967296, 0)) e.1 (bs.take n)).2).writeMapped by_ stamp doms m (bs.drop n)

/-- The writes of one RPDO: one record against the reserved session (R431). -/
def State.applyRpdo (s : State) (b : Fin 2) (i : Nat) (bs : Bytes) : State :=
  match s.charge (sidCan b) with
  | (.refused, s) => (s.countRefused (sidCan b) rcQuota).pdoLost b
  | (_, s) => s.writeMapped ⟨sidCan b, 9 + b.val⟩ s.tbNs (domainsOf s (sidCan b)) (mapOfPdo s b i) bs

/-- RPDO: written at receipt, or held for the next SYNC. -/
def execRpdo (t : Nat) (b : Fin 2) (i : Fin 4) (bs : Bytes) (s : State) : Res :=
  runOn (44 + b.val) (s.at_ t) (fun s =>
    if !pdoRuns s b ∨ !pdoValid s b i then s
    else if bs.length < pdoBytes s b i then s.pdoLost b
    else if s.nat (CB_PDO_TYPE b i) ≤ 240 then s.modCan b (fun c => { c with held := AL.insert c.held i.val bs })
    else s.applyRpdo b i bs)

/-- The mapped values of a TPDO, each read whole by the engine; none when one cannot be read. -/
def State.readMapped (s : State) (b : Fin 2) : List (Nat × Nat) → Option Bytes × State
  | [] => (some [], s)
  | e :: m =>
    let (c, v, s) := s.readObj (sidCan b) (9 + b.val) e.1
    if c ≠ some 0 then (none, s)
    else
      let (r, s) := s.readMapped b m
      (r.map (fun l => v ++ l), s)

/-- A CAN FD frame holds 0–8, 12, 16, 20, 24, 32, 48 or 64 bytes. -/
def canLength (n : Nat) : Nat := if n ≤ 8 then n else ([12, 16, 20, 24, 32, 48].find? (fun m => decide (n ≤ m))).getD 64

/-- The inhibit time of a TPDO has passed. -/
def inhibitOver (s : State) (b : Fin 2) (i : Nat) : Bool :=
  match AL.find (s.cb b).sentAt i with
  | some a => decide (a + us (100 * s.nat (CB_PDO_INHIBIT b i)) ≤ s.now)
  | none => true

/-- A TPDO is sent; in Restricted mode the engine sends nothing (R421). -/
def State.sendTpdo (s : State) (b : Fin 2) (i : Nat) : State :=
  if (s.cb b).mode ≠ 1 then s
  else
  let (v, s) := s.readMapped b (mapOfPdo s b i)
  match v with
  | some v =>
    (s.engineSend b ⟨s.nat (CB_PDO_COBID b i) % 2 ^ 30, s.nat (CB_PDO_FD b i), padTo (canLength v.length) v, s.now⟩).modCan b
      (fun c => { c with sentAt := AL.insert c.sentAt i s.now })
  | none => s

/-- One SYNC for a TPDO of type 1–240: sent at every nth, unless it is inhibited. -/
def State.syncTpdo (s : State) (b : Fin 2) (i : Nat) : State :=
  let n := s.nat (CB_PDO_TYPE b i)
  if !pdoValid s b i ∨ 240 < n then s
  else
    let k := (AL.find (s.cb b).syncs i).getD 0 + 1
    if k < n then s.modCan b (fun c => { c with syncs := AL.insert c.syncs i k })
    else
      let s := s.modCan b (fun c => { c with syncs := AL.erase c.syncs i })
      if inhibitOver s b i then s.sendTpdo b i else s

/-- CAN_SYNC: held RPDOs are written, then synchronous TPDOs are sent. -/
def execCanSync (t : Nat) (b : Fin 2) (s : State) : Res :=
  runOn (44 + b.val) (s.at_ t) (fun s =>
    if !pdoRuns s b then s
    else
      let held := (s.cb b).held
      let s := (s.modCan b (fun c => { c with held := [] })).each held (fun h s => if pdoValid s b h.1 then s.applyRpdo b h.1 h.2 else s)
      s.each [4, 5, 6, 7] (fun i s => s.syncTpdo b i))

/-- TPDO_EVENT: CB_PDO_EVENT has passed for TPDO 4 + i. -/
def execTpdoEvent (t : Nat) (b : Fin 2) (i : Fin 4) (s : State) : Res :=
  runOn (44 + b.val) (s.at_ t) (fun s =>
    let j := 4 + i.val
    let e := s.nat (CB_PDO_EVENT b j)
    let due : Bool := match AL.find (s.cb b).eventAt j with
      | some a => decide (a + ms e ≤ s.now)
      | none => true
    if pdoRuns s b ∧ pdoValid s b j ∧ 240 < s.nat (CB_PDO_TYPE b j) ∧ e ≠ 0 ∧ due ∧ inhibitOver s b j then
      (s.sendTpdo b j).modCan b (fun c => { c with eventAt := AL.insert c.eventAt j s.now })
    else s)

end Sys2Proof.Machine
end

