-- ==== Sys2Proof/Machine/Capture.lean ====
section
/-! DEFINITION. The tick of the capture unit (R247–R249). -/

namespace Sys2Proof.Machine
open Obj

/-- The dictionary object that channel c names is read through the store port: its low 32 bits as of the grant, a shorter signed value with its
sign. Where the store
gives no value (no such object, its domain on its way up, its island in fault) the channel keeps the one it holds (R247, R324). -/
def State.chanObject (s : State) (c : Fin 32) : Int × State :=
  let k := s.nat (C_CH_OBJ c.val) % 16777216
  let (code, bs, s) := s.readObj sidFw 8 k
  let v : Nat := match Catalog.find k with
    | some r => if r.ty.long then ofLe (bs.take 4) else (r.ty.value bs % 4294967296).toNat
    | none => 0
  (if code = some 0 then signExt 32 v else s.cap.held.get c, s)

/-- The value an enabled channel takes at a tick: of its object, or its source's latest (R247). -/
def State.chanRead (s : State) (c : Fin 32) : Int × State :=
  if s.nat (C_CH_SRC c.val) / 4096 ≠ 8 then (sourceValue s (s.get (C_CH_SRC c.val)), s)
  else if bitOf (s.nat C_CHANNELS) c.val then s.chanObject c
  else (s.cap.held.get c, s)

/-- The values of all channels at a tick. -/
def State.chanReads (s : State) : Vector Int 32 × State :=
  (List.finRange 32).foldl (fun (p : Vector Int 32 × State) c =>
    let (v, s) := p.2.chanRead c
    (p.1.set c.val v c.isLt, s)) (s.cap.held, s)

/-- One tick of the capture unit (R247–R249). -/
def State.capTick (s : State) : State :=
  if s.tb % ns (s.nat C_PERIOD) ≠ 0 then s
  else
    let objs := (capChannels s).foldl (fun (m : BitVec 32) c =>
      if s.nat (C_CH_SRC c) / 4096 = 8 then m ||| (1 <<< c) else m) 0
    let prev := s.cap.held
    let (cur, s) := s.chanReads
    let s := { s with cap := { s.cap with held := cur, got := s.cap.got ||| objs } }
    if s.nat C_STATE < 1 ∨ 3 < s.nat C_STATE then s
    else
      let s := s.capWaiting
      let s := if s.nat C_STATE ≠ 3 ∧ capTrigger s prev cur then
          let s := { s with cap := { s.cap with pre := s.cap.recs.length,
                                                post := max 1 (s.nat C_DEPTH - s.nat C_PRE) } }
          ((s.set C_STATE 3).set C_TRIG_STAMP s.tbNs).jTune 0x53 none 0
        else s
      let s : State := { s with cap := { s.cap with ticks := s.cap.ticks + 1, ticked := true,
                                                    sum := Vector.ofFn (fun c : Fin 32 => s.cap.sum.get c + cur.get c) } }
      let s := if s.nat C_DECIM ≤ s.cap.ticks then s.capRecord cur else s
      if s.nat C_STATE = 3 ∧ s.cap.post = 0 then s.capComplete else s.capWaiting

/-- CAPTURE_TICK. -/
def execCaptureTick (t : Nat) (s : State) : Res :=
  runOn islCapture (s.at_ t) (fun s => s.capTick)

end Sys2Proof.Machine
end

