-- ==== Sys2Proof/Machine/Dispatch.lean ====
section
/-! DEFINITION. One arm per command: a direct call of its meaning, or a rejection by name. -/

namespace Sys2Proof.Machine

/-- The effect of a command on everything but the queue. -/
def exec (i : Instr) (s : State) : Host.Outcome State Fault Refusal :=
  match i with
  | .sequencerEvaluation t x => Sys2Proof.Machine.execSequencerEvaluation t x s
  | .stepChange t x => Sys2Proof.Machine.execStepChange t x s
  | .lockedRotor t x => Sys2Proof.Machine.execLockedRotor t x s
  | .joinStart t b x => Sys2Proof.Machine.execJoinStart t b x s
  | .leaveStart t b x => Sys2Proof.Machine.execLeaveStart t b x s
  | .joinAngleValid t x => Sys2Proof.Machine.execJoinAngleValid t x s
  | .prechargePulse t x => Sys2Proof.Machine.execPrechargePulse t x s
  | .prechargeComplete t x => Sys2Proof.Machine.execPrechargeComplete t x s
  | .joinRampEnd t x => Sys2Proof.Machine.execJoinRampEnd t x s
  | .leaveRampEnd t x => Sys2Proof.Machine.execLeaveRampEnd t x s
  | .voltageAdcConversion t x ch v => Sys2Proof.Machine.execVoltageAdcConversion t x ch v s
  | .fluxObserverUpdate t x => Sys2Proof.Machine.execFluxObserverUpdate t x s
  | .fusionUpdate t a => Sys2Proof.Machine.execFusionUpdate t a s
  | .cascadeFusion t a => Sys2Proof.Machine.execCascadeFusion t a s
  | .alignEnd t a => Sys2Proof.Machine.execAlignEnd t a s
  | .rampHandoverSpeed t a => Sys2Proof.Machine.execRampHandoverSpeed t a s
  | .handoverCheck t a => Sys2Proof.Machine.execHandoverCheck t a s
  | .handoverTimeout t a => Sys2Proof.Machine.execHandoverTimeout t a s
  | .blendEnd t a => Sys2Proof.Machine.execBlendEnd t a s
  | .coastRecovery t a => Sys2Proof.Machine.execCoastRecovery t a s
  | .coastTimeExpiry t a => Sys2Proof.Machine.execCoastTimeExpiry t a s
  | .startRetry t a => Sys2Proof.Machine.execStartRetry t a s
  | .periodBoundary t xs => Sys2Proof.Machine.execPeriodBoundary t xs s
  | .loadAllRequest t b => Sys2Proof.Machine.execLoadAllRequest t b s
  | .liveValueArrival t x y => Sys2Proof.Machine.execLiveValueArrival t x y s
  | .turnOffEdge t x => Sys2Proof.Machine.execTurnOffEdge t x s
  | .turnOnRelease t n => Sys2Proof.Machine.execTurnOnRelease t n s
  | .edgePhaseEnd t n high => Sys2Proof.Machine.execEdgePhaseEnd t n high s
  | .statusLevelAccepted t n band => Sys2Proof.Machine.execStatusLevelAccepted t n band s
  | .handshakeTimeout t n => Sys2Proof.Machine.execHandshakeTimeout t n s
  | .switchNodeTransition t n upper above => Sys2Proof.Machine.execSwitchNodeTransition t n upper above s
  | .refreshLowRun t n => Sys2Proof.Machine.execRefreshLowRun t n s
  | .refreshPulseEnd t n => Sys2Proof.Machine.execRefreshPulseEnd t n s
  | .currentAdcConversion t x iu iv => Sys2Proof.Machine.execCurrentAdcConversion t x iu iv s
  | .dcLinkOvervoltage t x => Sys2Proof.Machine.execDcLinkOvervoltage t x s
  | .vpdMonitorTrip t => Sys2Proof.Machine.execVpdMonitorTrip t s
  | .brakeChopperPeriod t x => Sys2Proof.Machine.execBrakeChopperPeriod t x s
  | .faultClear t b x => Sys2Proof.Machine.execFaultClear t b x s
  | .uvAutoclear t n => Sys2Proof.Machine.execUvAutoclear t n s
  | .deviceClear t b => Sys2Proof.Machine.execDeviceClear t b s
  | .slotTimer t k => Sys2Proof.Machine.execSlotTimer t k s
  | .slotRunIssue t l => Sys2Proof.Machine.execSlotRunIssue t l s
  | .slotOutput t k pass => Sys2Proof.Machine.execSlotOutput t k pass s
  | .slotEnable t b k on => Sys2Proof.Machine.execSlotEnable t b k on s
  | .historyReset t b k => Sys2Proof.Machine.execHistoryReset t b k s
  | .historyPreload t b k v => Sys2Proof.Machine.execHistoryPreload t b k v s
  | .coefficientWriteApplied t k => Sys2Proof.Machine.execCoefficientWriteApplied t k s
  | .rotationStart t => Sys2Proof.Machine.execRotationStart t s
  | .rotateNow t b => Sys2Proof.Machine.execRotateNow t b s
  | .rotationCopy t k => Sys2Proof.Machine.execRotationCopy t k s
  | .twinComparisonEnd t mismatch y yt => Sys2Proof.Machine.execTwinComparisonEnd t mismatch y yt s
  | .laneSelfTestEnd t p pass => Sys2Proof.Machine.execLaneSelfTestEnd t p pass s
  | .laneTakeover t l => Sys2Proof.Machine.execLaneTakeover t l s
  | .axisUpdate t a => Sys2Proof.Machine.execAxisUpdate t a s
  | .snatchEvaluation t a => Sys2Proof.Machine.execSnatchEvaluation t a s
  | .snatchEnd t a => Sys2Proof.Machine.execSnatchEnd t a s
  | .snatchRearmed t a => Sys2Proof.Machine.execSnatchRearmed t a s
  | .snatchArm t b a id => Sys2Proof.Machine.execSnatchArm t b a id s
  | .snatchDiscard t b a => Sys2Proof.Machine.execSnatchDiscard t b a s
  | .tensionFeedback t b a v => Sys2Proof.Machine.execTensionFeedback t b a v s
  | .tensionFeedbackLost t a => Sys2Proof.Machine.execTensionFeedbackLost t a s
  | .temperatureStale t x => Sys2Proof.Machine.execTemperatureStale t x s
  | .deviceTorqueLost t a => Sys2Proof.Machine.execDeviceTorqueLost t a s
  | .encoderChange t e a b => Sys2Proof.Machine.execEncoderChange t e a b s
  | .indexPulse t e => Sys2Proof.Machine.execIndexPulse t e s
  | .encoderStatusClear t b e => Sys2Proof.Machine.execEncoderStatusClear t b e s
  | .homeSet t b a v => Sys2Proof.Machine.execHomeSet t b a v s
  | .referenceRun t b a => Sys2Proof.Machine.execReferenceRun t b a s
  | .referenceRunTimeout t a => Sys2Proof.Machine.execReferenceRunTimeout t a s
  | .profileUpdate t a => Sys2Proof.Machine.execProfileUpdate t a s
  | .moveStart t b a => Sys2Proof.Machine.execMoveStart t b a s
  | .stopWrite t b a => Sys2Proof.Machine.execStopWrite t b a s
  | .followingError t a => Sys2Proof.Machine.execFollowingError t a s
  | .masterPositionLost t a => Sys2Proof.Machine.execMasterPositionLost t a s
  | .generatorStep t g => Sys2Proof.Machine.execGeneratorStep t g s
  | .generatorArm t b g => Sys2Proof.Machine.execGeneratorArm t b g s
  | .generatorStop t b g => Sys2Proof.Machine.execGeneratorStop t b g s
  | .injectionDone t g => Sys2Proof.Machine.execInjectionDone t g s
  | .captureClaim t b => Sys2Proof.Machine.execCaptureClaim t b s
  | .captureRelease t b => Sys2Proof.Machine.execCaptureRelease t b s
  | .captureTick t => Sys2Proof.Machine.execCaptureTick t s
  | .captureArm t b => Sys2Proof.Machine.execCaptureArm t b s
  | .captureDataRead t b => Sys2Proof.Machine.execCaptureDataRead t b s
  | .monitoringCycle t fresh pass upset => Sys2Proof.Machine.execMonitoringCycle t fresh pass upset s
  | .channelExchange t c => Sys2Proof.Machine.execChannelExchange t c s
  | .stoInputAccepted t c high => Sys2Proof.Machine.execStoInputAccepted t c high s
  | .stoDiscrepancy t => Sys2Proof.Machine.execStoDiscrepancy t s
  | .sbcDelayExpiry t a => Sys2Proof.Machine.execSbcDelayExpiry t a s
  | .brakeOpenWrite t b on => Sys2Proof.Machine.execBrakeOpenWrite t b on s
  | .localWordWrite t b a w => Sys2Proof.Machine.execLocalWordWrite t b a w s
  | .commissioningOpen t b => Sys2Proof.Machine.execCommissioningOpen t b s
  | .commissioningAbandon t b => Sys2Proof.Machine.execCommissioningAbandon t b s
  | .seal t b => Sys2Proof.Machine.execSeal t b s
  | .unseal t b => Sys2Proof.Machine.execUnseal t b s
  | .checkValueComputed t badA badB => Sys2Proof.Machine.execCheckValueComputed t badA badB s
  | .crcConfirm t b v => Sys2Proof.Machine.execCrcConfirm t b v s
  | .configurationStored t => Sys2Proof.Machine.execConfigurationStored t s
  | .controlTelegram t p bs => Sys2Proof.Machine.execControlTelegram t p bs s
  | .statusTelegram t => Sys2Proof.Machine.execStatusTelegram t s
  | .telegramWatchdog t => Sys2Proof.Machine.execTelegramWatchdog t s
  | .singleNetworkTimeout t => Sys2Proof.Machine.execSingleNetworkTimeout t s
  | .objectWrite t b dev key bs => Sys2Proof.Machine.execObjectWrite t b dev key bs s
  | .readRecord t b dev key => Sys2Proof.Machine.execReadRecord t b dev key s
  | .describeRecord t b dev key => Sys2Proof.Machine.execDescribeRecord t b dev key s
  | .subscribeRecord t b dev key bs => Sys2Proof.Machine.execSubscribeRecord t b dev key bs s
  | .unsubscribeRecord t b dev key => Sys2Proof.Machine.execUnsubscribeRecord t b dev key s
  | .notifyFrame t sid => Sys2Proof.Machine.execNotifyFrame t sid s
  | .openFrame t p src bs => Sys2Proof.Machine.execOpenFrame t p src bs s
  | .confirmFrame t p src bs => Sys2Proof.Machine.execConfirmFrame t p src bs s
  | .openingTimeout t sid => Sys2Proof.Machine.execOpeningTimeout t sid s
  | .requestFrame t p src bs => Sys2Proof.Machine.execRequestFrame t p src bs s
  | .requestServed t c => Sys2Proof.Machine.execRequestServed t c s
  | .keepaliveFrame t p src bs => Sys2Proof.Machine.execKeepaliveFrame t p src bs s
  | .closeFrame t p src bs => Sys2Proof.Machine.execCloseFrame t p src bs s
  | .sessionIdleTimeout t sid => Sys2Proof.Machine.execSessionIdleTimeout t sid s
  | .closeSelectedSession t b => Sys2Proof.Machine.execCloseSelectedSession t b s
  | .identifierHoldEnd t => Sys2Proof.Machine.execIdentifierHoldEnd t s
  | .lockTake t b w => Sys2Proof.Machine.execLockTake t b w s
  | .lockRelease t b w => Sys2Proof.Machine.execLockRelease t b w s
  | .lockLeaseExpiry t j1 => Sys2Proof.Machine.execLockLeaseExpiry t j1 s
  | .keyWrite t b k bs => Sys2Proof.Machine.execKeyWrite t b k bs s
  | .keySlotEnable t b k on => Sys2Proof.Machine.execKeySlotEnable t b k on s
  | .hostFrame t ws => Sys2Proof.Machine.execHostFrame t ws s
  | .hostDeselect t good part bad => Sys2Proof.Machine.execHostDeselect t good part bad s
  | .sdoTransfer t b bs => Sys2Proof.Machine.execSdoTransfer t b bs s
  | .sdoSegmentTimeout t b => Sys2Proof.Machine.execSdoSegmentTimeout t b s
  | .ethernetFrame t p bs => Sys2Proof.Machine.execEthernetFrame t p bs s
  | .neighbourSolicitation t p src target => Sys2Proof.Machine.execNeighbourSolicitation t p src target s
  | .echoRequest t p src dst bs => Sys2Proof.Machine.execEchoRequest t p src dst bs s
  | .fieldPortLinkChange t p link speed full => Sys2Proof.Machine.execFieldPortLinkChange t p link speed full s
  | .txOpen t b => Sys2Proof.Machine.execTxOpen t b s
  | .txCur t b id => Sys2Proof.Machine.execTxCur t b id s
  | .txCommit t b => Sys2Proof.Machine.execTxCommit t b s
  | .preparationComplete t id => Sys2Proof.Machine.execPreparationComplete t id s
  | .commitInstant t id => Sys2Proof.Machine.execCommitInstant t id s
  | .writeBackComplete t id => Sys2Proof.Machine.execWriteBackComplete t id s
  | .txAbort t b => Sys2Proof.Machine.execTxAbort t b s
  | .txSel t b id => Sys2Proof.Machine.execTxSel t b id s
  | .prepareMsg t p c => Sys2Proof.Machine.execPrepareMsg t p c s
  | .voteMsg t p bs => Sys2Proof.Machine.execVoteMsg t p bs s
  | .decideMsg t p bs => Sys2Proof.Machine.execDecideMsg t p bs s
  | .doneMsg t p bs => Sys2Proof.Machine.execDoneMsg t p bs s
  | .queryMsg t p bs => Sys2Proof.Machine.execQueryMsg t p bs s
  | .stateMsg t p bs => Sys2Proof.Machine.execStateMsg t p bs s
  | .prepareTimeout t id => Sys2Proof.Machine.execPrepareTimeout t id s
  | .participantDecisionTimeout t id => Sys2Proof.Machine.execParticipantDecisionTimeout t id s
  | .fenceWrite t b f => Sys2Proof.Machine.execFenceWrite t b f s
  | .fenceAccepted t f => Sys2Proof.Machine.execFenceAccepted t f s
  | .fenceCompletion t f => Sys2Proof.Machine.execFenceCompletion t f s
  | .cycleStart t => Sys2Proof.Machine.execCycleStart t s
  | .cycleFrameSend t => Sys2Proof.Machine.execCycleFrameSend t s
  | .cycleFrame t p c => Sys2Proof.Machine.execCycleFrame t p c s
  | .cycleMissed t => Sys2Proof.Machine.execCycleMissed t s
  | .deviceFrameSend t => Sys2Proof.Machine.execDeviceFrameSend t s
  | .deviceFrame t p bs => Sys2Proof.Machine.execDeviceFrame t p bs s
  | .axisFrame t p bs => Sys2Proof.Machine.execAxisFrame t p bs s
  | .mposFrame t p bs => Sys2Proof.Machine.execMposFrame t p bs s
  | .cascadeResetCommand t p bs => Sys2Proof.Machine.execCascadeResetCommand t p bs s
  | .passCompleteCommand t p c => Sys2Proof.Machine.execPassCompleteCommand t p c s
  | .snapshotVoidCommand t p bs => Sys2Proof.Machine.execSnapshotVoidCommand t p bs s
  | .cycleChangeCommand t p bs => Sys2Proof.Machine.execCycleChangeCommand t p bs s
  | .plainBarrier t p bs => Sys2Proof.Machine.execPlainBarrier t p bs s
  | .voteBarrier t p bs => Sys2Proof.Machine.execVoteBarrier t p bs s
  | .queryBarrier t p bs => Sys2Proof.Machine.execQueryBarrier t p bs s
  | .snapshotBarrier t p bs => Sys2Proof.Machine.execSnapshotBarrier t p bs s
  | .enumerationBarrier t p e => Sys2Proof.Machine.execEnumerationBarrier t p e s
  | .barrierTimeout t q => Sys2Proof.Machine.execBarrierTimeout t q s
  | .announceFrame t p bs n => Sys2Proof.Machine.execAnnounceFrame t p bs n s
  | .electFrame t p bs => Sys2Proof.Machine.execElectFrame t p bs s
  | .linkFrame t p bs => Sys2Proof.Machine.execLinkFrame t p bs s
  | .syncExchange t p => Sys2Proof.Machine.execSyncExchange t p s
  | .syncFrame t p bs => Sys2Proof.Machine.execSyncFrame t p bs s
  | .routedRequest t p bs => Sys2Proof.Machine.execRoutedRequest t p bs s
  | .routedResponse t p bs => Sys2Proof.Machine.execRoutedResponse t p bs s
  | .linkUp t p => Sys2Proof.Machine.execLinkUp t p s
  | .linkDown t p n => Sys2Proof.Machine.execLinkDown t p n s
  | .electionWindowClose t => Sys2Proof.Machine.execElectionWindowClose t s
  | .joinPassTimer t => Sys2Proof.Machine.execJoinPassTimer t s
  | .barrierGo t b => Sys2Proof.Machine.execBarrierGo t b s
  | .snapGo t b => Sys2Proof.Machine.execSnapGo t b s
  | .snapshotLatch t => Sys2Proof.Machine.execSnapshotLatch t s
  | .cascadeReset t b => Sys2Proof.Machine.execCascadeReset t b s
  | .cycleWrite t b v => Sys2Proof.Machine.execCycleWrite t b v s
  | .deviceLost t d => Sys2Proof.Machine.execDeviceLost t d s
  | .masterStepDown t => Sys2Proof.Machine.execMasterStepDown t s
  | .takeover t r k => Sys2Proof.Machine.execTakeover t r k s
  | .canFrameTaken t b w fl bs sof => Sys2Proof.Machine.execCanFrameTaken t b w fl bs sof s
  | .canFrameSent t b q sof tdc => Sys2Proof.Machine.execCanFrameSent t b q sof tdc s
  | .arbitrationLost t b q => Sys2Proof.Machine.execArbitrationLost t b q s
  | .canBusError t b q tx n => Sys2Proof.Machine.execCanBusError t b q tx n s
  | .protocolException t b => Sys2Proof.Machine.execProtocolException t b s
  | .busIntegrationComplete t b => Sys2Proof.Machine.execBusIntegrationComplete t b s
  | .canModeWrite t b c m => Sys2Proof.Machine.execCanModeWrite t b c m s
  | .modeChangeAtIdle t b => Sys2Proof.Machine.execModeChangeAtIdle t b s
  | .recover t b c => Sys2Proof.Machine.execRecover t b c s
  | .busOffRecovered t b => Sys2Proof.Machine.execBusOffRecovered t b s
  | .queueAck t b c q => Sys2Proof.Machine.execQueueAck t b c q s
  | .queueAbort t b c q => Sys2Proof.Machine.execQueueAbort t b c q s
  | .nmtStart t b node => Sys2Proof.Machine.execNmtStart t b node s
  | .nmtStop t b node => Sys2Proof.Machine.execNmtStop t b node s
  | .nmtPreOperational t b node => Sys2Proof.Machine.execNmtPreOperational t b node s
  | .nmtResetNode t b node => Sys2Proof.Machine.execNmtResetNode t b node s
  | .nmtResetCommunication t b node => Sys2Proof.Machine.execNmtResetCommunication t b node s
  | .canSync t b => Sys2Proof.Machine.execCanSync t b s
  | .rpdo t b j1 bs => Sys2Proof.Machine.execRpdo t b j1 bs s
  | .tpdoEvent t b j1 => Sys2Proof.Machine.execTpdoEvent t b j1 s
  | .referenceLoss t => Sys2Proof.Machine.execReferenceLoss t s
  | .referenceReturn t => Sys2Proof.Machine.execReferenceReturn t s
  | .holdoverExpiry t => Sys2Proof.Machine.execHoldoverExpiry t s
  | .timebaseSet t b v => Sys2Proof.Machine.execTimebaseSet t b v s
  | .journalEntry t j1 => Sys2Proof.Machine.execJournalEntry t j1 s
  | .journalWrite t => Sys2Proof.Machine.execJournalWrite t s
  | .clockFault t j1 => Sys2Proof.Machine.execClockFault t j1 s
  | .handshakeFault t j1 => Sys2Proof.Machine.execHandshakeFault t j1 s
  | .railWarning t r mv => Sys2Proof.Machine.execRailWarning t r mv s
  | .derateEnd t => Sys2Proof.Machine.execDerateEnd t s
  | .mainFailure t r mv => Sys2Proof.Machine.execMainFailure t r mv s
  | .hearthHandoverDone t => Sys2Proof.Machine.execHearthHandoverDone t s
  | .returnStart t good => Sys2Proof.Machine.execReturnStart t good s
  | .returnComplete t => Sys2Proof.Machine.execReturnComplete t s
  | .vbakLost t mv => Sys2Proof.Machine.execVbakLost t mv s
  | .vbakRestored t mv => Sys2Proof.Machine.execVbakRestored t mv s
  | .resetN t => Sys2Proof.Machine.execResetN t s
  | .leavingReset t good => Sys2Proof.Machine.execLeavingReset t good s
  | .damperTick t => Sys2Proof.Machine.execDamperTick t s
  | .domainOn t d => Sys2Proof.Machine.execDomainOn t d s
  | .domainWakeFailed t d own => Sys2Proof.Machine.execDomainWakeFailed t d own s
  | .sramSingleBitError t m => Sys2Proof.Machine.execSramSingleBitError t m s
  | .sramDoubleBitError t m proofing ids own => Sys2Proof.Machine.execSramDoubleBitError t m proofing ids own s
  | .modeWrite t b a m => Sys2Proof.Machine.execModeWrite t b a m s
  | .crashStopRequest t b a on => Sys2Proof.Machine.execCrashStopRequest t b a on s
  | .holdRequest t b a on => Sys2Proof.Machine.execHoldRequest t b a on s
  | .manualDutyTarget t b a v => Sys2Proof.Machine.execManualDutyTarget t b a v s
  | .lockstepMismatch t j1 granted => Sys2Proof.Machine.execLockstepMismatch t j1 granted s
  | .pairRestartComplete t j1 => Sys2Proof.Machine.execPairRestartComplete t j1 s
  | .watchdogRestart t => Sys2Proof.Machine.execWatchdogRestart t s
  | .resetSequence t bad agree testA testB => Sys2Proof.Machine.execResetSequence t bad agree testA testB s
  | .bankLoaded t v0 v1 rec set => Sys2Proof.Machine.execBankLoaded t v0 v1 rec set s
  | .paramSave t b v => Sys2Proof.Machine.execParamSave t b v s
  | .paramSaveComplete t => Sys2Proof.Machine.execParamSaveComplete t s
  | .paramErase t b v => Sys2Proof.Machine.execParamErase t b v s
  | .imageData t b bs => Sys2Proof.Machine.execImageData t b bs s
  | .imageOffset t b v => Sys2Proof.Machine.execImageOffset t b v s
  | .imageVerify t b v => Sys2Proof.Machine.execImageVerify t b v s
  | .imageProgrammed t ok => Sys2Proof.Machine.execImageProgrammed t ok s
  | .handOver t => Sys2Proof.Machine.execHandOver t s
  | .handOverEnd t pause good => Sys2Proof.Machine.execHandOverEnd t pause good s
  | .quietTimeout t => Sys2Proof.Machine.execQuietTimeout t s
  | .trialEnd t => Sys2Proof.Machine.execTrialEnd t s
  | .securityCommit t b v => Sys2Proof.Machine.execSecurityCommit t b v s
  | .keyRevoke t b v => Sys2Proof.Machine.execKeyRevoke t b v s
  | .adcSelfTest t x z0 h0 z1 h1 v => Sys2Proof.Machine.execAdcSelfTest t x z0 h0 z1 h1 v s
  | .sectionService t b x v => Sys2Proof.Machine.execSectionService t b x v s
  | .commaAlignmentGained t p => Sys2Proof.Machine.execCommaAlignmentGained t p s
  | .vpdGood t => Sys2Proof.Machine.execVpdGood t s
  | .referenceRunComplete t a => Sys2Proof.Machine.execReferenceRunComplete t a s
  | .tapLeavingTestLogicReset t => Sys2Proof.Machine.execTapLeavingTestLogicReset t s
  | .hearthPowerLost t => Sys2Proof.Machine.execHearthPowerLost t s

end Sys2Proof.Machine
end

