-- ==== Sys2Proof/Safety.lean ====
section
/-! DEFINITION. What claims are stated in: a command that completes, a request that every check of R321 accepts, and the
objects that always show the state they are about. -/

namespace Sys2Proof.Safety
open Sys2Proof.Machine Sys2Proof.Machine.Obj

/-! ### What a command leaves alone -/

/-- A part of the state: an object, a STR or BLOB object, the clock, the record of an instance, or a store. -/
inductive Part where
  | obj (k : Nat) | blob (k : Nat) | clock
  | sec (x : Fin 6) | hb (n : Fin 18) | ax (a : Fin 4) | enc (e : Fin 2) | slot (k : Fin 48) | gen (g : Fin 4) | can (b : Fin 2)
  | lanes | port | rereading | cap | tongs | discAt | disc | leftZero | latch | images | confirming | cfgDue | jq | jdrop | jarr | ring
  | holdAt | sessions | freed | locks | best | bestAt | queue | flights | routes | hostOut | opens | last06 | last07
  | last08 | txs | txUse | fences | heldW | naz | power | fw | raised | outs | freeCtr | pending
deriving DecidableEq, Repr

/-- A part reads the same in both states. -/
def Part.same (p : Part) (s u : State) : Prop :=
  match p with
  | .obj k => u.get k = s.get k
  | .blob k => u.blob k = s.blob k
  | .clock => u.now = s.now ∧ u.tbOff = s.tbOff ∧ u.tbFrac = s.tbFrac
  | .sec x => u.sec x = s.sec x
  | .hb n => u.hb n = s.hb n
  | .ax a => u.ax a = s.ax a
  | .enc e => u.enc e = s.enc e
  | .slot k => u.slot k = s.slot k
  | .gen g => u.gen g = s.gen g
  | .can b => u.cb b = s.cb b
  | .lanes => u.lanes = s.lanes
  | .port => u.port = s.port
  | .rereading => u.rereading = s.rereading
  | .cap => u.cap = s.cap
  | .tongs => u.tongs = s.tongs
  | .discAt => u.discAt = s.discAt
  | .disc => u.disc = s.disc
  | .leftZero => u.leftZero = s.leftZero
  | .latch => u.latch = s.latch
  | .images => u.images = s.images
  | .confirming => u.confirming = s.confirming
  | .cfgDue => u.cfgDue = s.cfgDue
  | .jq => u.jq = s.jq
  | .jdrop => u.jdrop = s.jdrop
  | .jarr => u.jarr = s.jarr
  | .ring => u.ring = s.ring
  | .holdAt => u.holdAt = s.holdAt
  | .sessions => u.sessions = s.sessions
  | .freed => u.freed = s.freed
  | .locks => u.locks = s.locks
  | .best => u.best = s.best
  | .bestAt => u.bestAt = s.bestAt
  | .queue => u.queue = s.queue
  | .flights => u.flights = s.flights
  | .routes => u.routes = s.routes
  | .hostOut => u.hostOut = s.hostOut
  | .opens => u.opens = s.opens
  | .last06 => u.last06 = s.last06
  | .last07 => u.last07 = s.last07
  | .last08 => u.last08 = s.last08
  | .txs => u.txs = s.txs
  | .txUse => u.txUse = s.txUse
  | .fences => u.fences = s.fences
  | .heldW => u.heldW = s.heldW
  | .naz => u.naz = s.naz
  | .power => u.power = s.power
  | .fw => u.fw = s.fw
  | .raised => u.raised = s.raised
  | .outs => u.outs = s.outs
  | .freeCtr => u.freeCtr = s.freeCtr
  | .pending => u.pending = s.pending

/-- Nothing but the parts of P differs from s in u: the frame of what led from s to u. -/
def Only (P : Part → Prop) (s u : State) : Prop := ∀ p, ¬ P p → p.same s u

/-- The clock, the outputs, and the objects that the end of every command brings up to date (R29, R35, R493). -/
def ends : List Part :=
  .clock :: .outs ::
    allAxes.flatMap (fun (a : Fin 4) => [.obj (A_SECTIONS a), .obj (A_CASCADE_SECTIONS a), .obj (A_EMERG_STATE a)])

/-- From s to u nothing has changed but the parts that P names and those of `ends`. -/
def Frame (P : Part → Prop) (s u : State) : Prop := Only (fun p => P p ∨ p ∈ ends) s u

/-- Parts of section x that a change of its state may touch (R23, R74). -/
def stateParts (x : Fin 6) : List Part :=
  [.sec x, .obj (S_STATE x), .obj (S_DEG_PHASE x), .obj (S_STEP x), .obj (S_FUS_STATE x), .obj (S_LOCK_STATE x)]

/-- Parts of section x that driving its switches may touch (R43–R46, R118). -/
def driveParts (x : Fin 6) : List Part :=
  .sec x :: phases.flatMap (fun (p : Fin 3) => [.hb (hbOf x p), .obj (S_GATE_I (hbOf x p))])

/-- Parts that entering or leaving the axis level may touch (R156, R157, R230). -/
def levelParts (a : Fin 4) : List Part :=
  [.ax a, .raised, .obj (A_FAULT_STATE a), .obj (A_PROF_STATE a), .obj (A_GEAR_STATE a), .obj (A_GEAR_NEXT_DEN a)]

/-- Parts that an isolation, with the levels above it, may touch (R148–R158). -/
def isolateParts : List Part :=
  List.flatten [[.raised, .obj S_BLW_ACTIVE, .obj S_DEV_FAULT], allAxes.flatMap levelParts, allSecs.flatMap stateParts,
    allSecs.flatMap driveParts, allSecs.flatMap (fun (x : Fin 6) => [.obj (S_ENABLE x), .obj (S_Q_LAST x)])]

/-- Parts that a trip on section x may touch (R145–R158). -/
def tripParts (x : Fin 6) : List Part :=
  List.flatten [isolateParts, [.obj (S_Q_LATCH x), .obj (S_Q_TRIPS x)],
    phases.flatMap (fun (p : Fin 3) => [.obj (S_Q_CAUSE (hbOf x p)), .obj (S_Q_COUNT (hbOf x p))])]

/-- Parts that the envelope coming into force may touch: its readbacks and what it clips (R281, R282). -/
def envelopeParts : List Part :=
  List.flatten [[.raised, .obj SF_ANV_CLIPS], anvilBounds.map (fun b => .obj b.readback),
    allSecs.flatMap (fun (x : Fin 6) => [.sec x, .obj (S_DUTY_MAX x), .obj (S_PERIOD x), .obj (S_TMP_TGT_ON x), .obj (S_TMP_TGT_OFF x),
      .obj (S_BLW_HOLD x)]),
    allHbs.flatMap (fun (n : Fin 18) => [.obj (codeKey n 0), .obj (codeKey n 1), .obj (codeKey n 2), .obj (codeKey n 3)])]

/-- Parts that a safety configuration being edited or coming into force may touch (R281, R282, R289). -/
def configParts : List Part := sfyKeys.map (fun k => .obj k) ++ envelopeParts

/-- Parts that a change of the safety output may touch (R258–R271, R493). -/
def safeParts : List Part :=
  List.flatten [[.latch, .leftZero, .obj S_BLW_ACTIVE, .obj SF_BRAKE_OPEN, .obj SF_CH_FAULT, .obj SF_LAST_CODE, .obj SF_OUTPUTS,
    .obj SF_TG_STATE, .obj SF_XC_COUNT, .tongs], allAxes.flatMap levelParts, allSecs.flatMap stateParts,
    allSecs.flatMap driveParts, allAxes.flatMap (fun (c : Fin 4) => [.obj (A_MD_DUTY c), .obj (A_MD_NOW c),
    .obj (A_REF_STATE c), .obj (A_RENDER_STATE c), .obj (A_POS_REF c), .obj (A_PROF_SPEED c), .obj (A_PROF_ACCEL c),
    .obj (A_START_STAGE c), .obj (SF_CAUSE c), .obj (SF_POS_A c),
    .obj (SF_POS_B c), .obj (SF_REQ_SAFE c), .obj (SF_SOS_POS c), .obj (SF_SPEED_A c), .obj (SF_SPEED_B c),
    .obj (SF_STATE c), .obj (SF_STATUS c)]), allSlots.flatMap (fun (k : Fin 48) => [.slot k]),
    allSecs.flatMap (fun (y : Fin 6) => [.obj (S_ENABLE y)])]

/-- Parts that the end of a session may touch: its locks, transactions, claims, commissioning, requests and routes (R352,
    R353). -/
def closeParts : List Part :=
  List.flatten [[.best, .bestAt, .cap, .cfgDue, .flights, .freeCtr, .freed, .naz, .obj C_CLAIM, .obj C_OWNER, .obj C_STATE,
    .obj C_VERSION, .obj SF_CFG_OWNER, .obj SF_CFG_SEAL, .obj SF_CFG_STATE, .obj SF_COMMISSION, .obj SF_LAST_CODE,
    .obj SS_COUNT, .obj SS_GUAR_SUM, .obj SS_ROUTES, .obj TX_ABORTS, .obj TX_OPEN_COUNT, .obj TX_PROOF_USED, .queue, .raised,
    .routes, .sessions, .txs], configParts, allAxes.flatMap (fun (c : Fin 4) => [.gen c, .obj (G_STATE c),
    .obj (G_VALUE c)]), allSlots.flatMap (fun (k : Fin 48) => [.slot k])]

/-- Parts that an island leaving service may touch, with everything that stops with it (R437, R438, R452). -/
def outage (z : Part) : Prop :=
  z ∈ List.flatten [[.lanes, .power, .latch, .leftZero, .obj (NP_LINK 0), .obj (NP_LINK 1), .obj K_SPARE_AVAIL, .obj NZ_RING,
    .obj NZ_STATE, .obj PW_DAMP_MAX_Q, .obj PW_DAMP_QUEUE, .obj SF_BRAKE_OPEN, .obj SF_CH_FAULT, .obj SF_OUTPUTS,
    .obj SF_TG_STATE, .obj SF_XC_COUNT, .obj S_BLW_ACTIVE, .obj S_DEV_FAULT, .tongs], closeParts, allSecs.flatMap stateParts,
    allSecs.flatMap driveParts, ([0, 1] : List (Fin 2)).flatMap (fun (e : Fin 2) => [.can e, .enc e, .obj (A_ENC_STATUS e),
    .obj (CB_BUSOFF_COUNT e), .obj (CB_STATE e), .obj (NZ_CODE_ERR e), .obj (NZ_LINK e), .obj (NZ_LINK_DOWNS e)]),
    allAxes.flatMap (fun (c : Fin 4) => [.ax c, .obj (A_FUS_VALID c), .obj (A_MD_DUTY c), .obj (A_MD_NOW c),
    .obj (A_REF_STATE c), .obj (A_RENDER_STATE c), .obj (A_POS_REF c), .obj (A_PROF_SPEED c), .obj (A_PROF_ACCEL c),
    .obj (A_START_STAGE c), .obj (SF_CAUSE c), .obj (SF_POS_A c),
    .obj (SF_POS_B c), .obj (SF_REQ_SAFE c), .obj (SF_SOS_POS c), .obj (SF_SPEED_A c), .obj (SF_SPEED_B c),
    .obj (SF_STATE c), .obj (SF_STATUS c)]), allSecs.flatMap (fun (y : Fin 6) => [.obj (S_ENABLE y), .obj (S_Q_LAST y)])]
    ∨ (∃ e : Fin 2, ∃ m : Nat, z = .obj (CB_Q_OWNER e m)) ∨ (∃ e : Fin 2, ∃ m : Nat, z = .obj (CB_Q_STATUS e m))
    ∨ (∃ m : Nat, z = .obj (A_FAULT_STATE m)) ∨ (∃ m : Nat, z = .obj (A_GEAR_NEXT_DEN m)) ∨ (∃ m : Nat,
    z = .obj (A_GEAR_STATE m)) ∨ (∃ m : Nat, z = .obj (A_PROF_STATE m)) ∨ (∃ m : Nat, z = .obj (IS_STATE m)) ∨ (∃ m : Nat,
    z = .obj (K_LANE_MAP m)) ∨ (∃ m : Nat, z = .obj (K_LANE_STATE m)) ∨ (∃ m : Nat, z = .obj (PW_DOM_STATE (72 + m)))

/-- The next step of a state completes. -/
def completes (s : State) : Prop := ∃ t, step s = .next t

/-- Command c at state s answers a next state of which P holds. -/
def Yields (c : Instr) (s : State) (P : State → Prop) : Prop := ∃ t, exec c s = .next t ∧ P t

/-- The state in which a request of a requester is judged: its session is there and has paid its token (R348). -/
def paid (s : State) (b : By) : State := (s.takeToken b.sid).2

/-- Every check of R321 passes for a direct write: the store serves it, a token is found, no fence holds it, no transaction
stages it, and the class, role, lock, length, range and rule checks let it pass; no Anvil bound clips it. -/
def accepts (s : State) (b : By) (k : Nat) (bs : Bytes) : Bool :=
  let u := paid s b
  served s b.sid k && decide ((s.takeToken b.sid).1 ≠ .refused) && served u b.sid k &&
    !fenceHolds u b.sid u.tbNs (domainsOf u b.sid) && !stages u b.sid k && decide (checkHead u b.sid false k bs = 0) &&
    decide (checkValue9 u k bs = 0) && (anvilBound u k).isNone &&
    match Catalog.find k with
    | some r =>
      let bs := cleaned r bs
      let v : Int := if r.ty.long then bs.length else r.ty.value bs
      decide (ruleCode u (u.putImage k bs v) b.sid k v false = 0) && (relationFails u (u.putImage k bs v) [k]).isNone
    | none => false

/-- The same for a value of a scalar object. -/
def allowed (s : State) (b : By) (k : Nat) (v : Int) : Bool :=
  match Catalog.find k with
  | some r => accepts s b k (le r.ty.size v)
  | none => false

/-- The state in which an accepted write of n bytes has its object's effect: the token is paid, the store transfers are
counted, and no committed value still to be shown overwrites it (R328, R348, R372). -/
def ready (s : State) (b : By) (k n : Nat) : State := ((paid s b).transfers b.rq n).dropOld k

/-- The same for a scalar object, whose type fixes the length. -/
def judged (s : State) (b : By) (k : Nat) : State :=
  ready s b k (match Catalog.find k with
    | some r => r.ty.size
    | none => 0)

/-- Command c writes v to object k for requester b, judged in s': whenever every check of R321 lets it pass, result 0 is
answered and P holds of the state in which the value takes effect and of the state after the command. -/
def Writes (c : Instr) (s s' : State) (b : By) (k : Nat) (v : Int) (P : State → State → Prop) : Prop :=
  allowed s' b k v = true → Yields c s (fun u => .result 0 [] ∈ u.outs ∧ P (judged s' b k) u)

/-- Island i runs (R437, R448, R449). -/
abbrev On (s : State) (i : Nat) : Prop := runs s i = true

/-- Island i has power (R437). -/
abbrev Powered (s : State) (i : Nat) : Prop := s.nat (IS_STATE i) ≠ 3

/-- What the safety channels decide and what shows it agree: the gate enables, the outputs, the safety states and the status words
(R257, R260, R264, R265). -/
def Agrees (s : State) : Prop :=
  (∀ n : Fin 18, (s.hb n).enA = gateEnable s 0 (secOf n) ∧ (s.hb n).enB = gateEnable s 1 (secOf n)) ∧
  (∀ c : Fin 2, bitOf (s.nat SF_OUTPUTS) c.val = (s.chan c).sout ∧ bitOf (s.nat SF_OUTPUTS) (2 + c.val) = (s.chan c).mbk ∧
    (s.chan c).sout = (s.leftZero && allAxes.all (fun a => !(bitOf (s.cfgNOf c SF_SOUT_AXES) a.val && (s.cax c a).sto)))) ∧
  ∀ a : Fin 4, s.get (SF_STATE a) = axisState s a ∧ s.get (SF_STATUS a) = statusWord s 0 a

/-- A new frame of a type arrives on port p for session n: served, whole, tagged, and next in sequence (R335, R336, R341,
R342). -/
abbrev Arrives (s : State) (p : Fin 3) (bs : Bytes) (ty : Nat) (f : AppF) (n : Session) : Prop :=
  frontOpen s p = true ∧ AppF.parse p bs = some f ∧ f.ty = ty ∧ ¬ (p = 2 ∧ f.sid = sidHost) ∧ s.session f.sid = some n ∧
    n.port = p.val ∧ n.tagOk bs = true ∧ f.seq ≠ 0 ∧ 1 ≤ (f.seq + 4294967296 - n.shigh) % 4294967296 ∧
    (f.seq + 4294967296 - n.shigh) % 4294967296 ≤ 1024

/-- A whole NazLink frame of a kind and of the present generation arrives for this addressed device, on a port whose link is
up (R389–R392). -/
abbrev Comes (s : State) (p : Fin 2) (kind : Nat) (bs : Bytes) (f : NazF) : Prop :=
  s.nat (NZ_LINK p.val) = 2 ∧ NazF.parse bs = some f ∧ f.kind = kind ∧ f.gen = s.nat NZ_GEN ∧ s.naz.addressed = true ∧
    (f.dst = 0xFFFF ∨ f.dst = s.nat DV_ADDRESS)

/-- It comes from another device and is next in sequence (R391). -/
abbrev Heard (s : State) (p : Fin 2) (kind : Nat) (bs : Bytes) (f : NazF) : Prop :=
  Comes s p kind bs f ∧ f.src ≠ 0xFFFE ∧ f.src ≠ s.nat DV_ADDRESS ∧ seqNew (AL.find s.naz.seen (f.src * 256 + kind)) f.seq = true

/-- The same for a commit message of a kind (R377). -/
abbrev HeardTx (s : State) (p : Fin 2) (kind : Nat) (bs : Bytes) (f : NazF) : Prop :=
  Heard s p nkTx bs f ∧ numAt f.payload 0 1 = kind ∧ f.payload.length = 28

/-- A NazLink frame of a kind, for a destination and with a payload, leaves a port. -/
def Sends (u : State) (kind dst : Nat) (payload : Bytes) : Prop :=
  ∃ (q : Fin 2) (g : NazF), .naz q.val g.bytes true ∈ u.outs ∧ g.kind = kind ∧ g.dst = dst ∧ g.payload = payload

/-- Just these journal entries, given by class, source island and detail, are raised (R17, R447). -/
def Raises (s u : State) (l : List (Nat × Nat × Nat)) : Prop :=
  u.raised.map (fun e => (e.cls, e.isl, e.detail)) = s.raised.map (fun e => (e.cls, e.isl, e.detail)) ++ l

/-- Stage st of the start sequence of axis a is decided: taken at once on a local axis, and on a cascade axis held for the
start of the second NazLink cycle (R79); while a stop function runs, stage 0 takes the place of the stages 1 to 4 (R495). -/
def Decides (s u : State) (a : Fin 4) (st : Nat) : Prop :=
  let st := if (s.ax a).safe.stopFn = true ∧ 1 ≤ st ∧ st ≤ 4 then 0 else st
  (onCascade s a = false → u.get (A_START_STAGE a) = st) ∧ (onCascade s a = true → (u.ax a).start.decided = some (st, 2))

/-- The mask of the sections assigned to axis a (R29). -/
def assigned (s : State) (a : Fin 4) : Nat := ((secsOf s a).map (fun x => 2 ^ x.val)).sum

/-- A_SECTIONS shows the assignments, and bit 3 of A_EMERG_STATE the render state, of every axis (R29, R493). -/
def Shows (s : State) : Prop :=
  ∀ a : Fin 4, s.nat (A_SECTIONS a) = assigned s a ∧ bitOf (s.nat (A_EMERG_STATE a)) 3 = rendering s a

/-! ### What the statements of the families speak of -/

/-- Section x joins, runs or runs degraded (R23). -/
abbrev Runs (s : State) (x : Fin 6) : Prop := 1 ≤ s.nat (S_STATE x) ∧ s.nat (S_STATE x) ≤ 3

/-- Parts of a join's precharge in section x (R136). -/
def prechargeParts (x : Fin 6) : List Part :=
  [.sec x, .obj S_BLW_ACTIVE] ++ phases.flatMap (fun (p : Fin 3) => [.hb (hbOf x p), .obj (S_BLW_COUNT (hbOf x p))])

/-- Parts that giving up a join may touch, with the counts of the axes (R57, R156). -/
def joinParts (x : Fin 6) : List Part :=
  List.flatten [[.raised, .obj (S_ENABLE x), .obj S_BLW_ACTIVE], stateParts x, driveParts x, allAxes.flatMap levelParts]

/-- The wrapping 32-bit count after n more events (R313's tables: wrap from 0xFFFF_FFFF to 0). -/
def counted32 (v : Int) (n : Nat) : Int := (v + n) % 4294967296

/-- Half-bridge n is latched, its switches are off, and the cause bits c are set (R148). -/
def Tripped (u : State) (n : Fin 18) (c : Nat) : Prop :=
  latched u n = true ∧ u.nat (S_Q_CAUSE n) &&& c = c ∧ (u.hb n).hi.on = false ∧ (u.hb n).lo.on = false

/-- Parts that a decided stage of the start sequence of axis a may touch (R79). -/
def startParts (a : Fin 4) : List Part :=
  List.flatten [[.raised, .ax a, .obj (A_START_STAGE a)], allSecs.flatMap driveParts, allSlots.map .slot]

/-- Parts that a fusion update of axis a may touch (R69–R73, R84, R219, R220). -/
def fusionParts (a : Fin 4) : List Part :=
  List.flatten [startParts a, [.obj (A_FUS_ANGLE a), .obj (A_FUS_VALID a), .obj (A_FUS_FE a), .obj (A_FUS_COUNT a),
    .obj (A_POS_ACT a), .obj S_BLW_ACTIVE, .obj (A_ENC_COMM_MEAS 0), .obj (A_ENC_COMM_MEAS 1)], allSecs.flatMap stateParts,
    allAxes.flatMap levelParts, allSecs.flatMap (fun (y : Fin 6) => [.obj (S_EST_WEIGHT y), .obj (S_EST_ANGLE y),
    .obj (S_EST_FE y), .obj (S_EST_ERR y), .obj (S_FUS_DROPS y), .obj (S_ENABLE y)])]

/-- The sections of axis a that fuse in state st: their weights, angles and speeds as u holds them, members by s (R71). -/
def fusing (s u : State) (a : Fin 4) (st : Nat) : List (Nat × Rat × Rat) :=
  ((secsOf s a).filter (fun (x : Fin 6) => decide (s.nat (S_FUS_STATE x) = st ∧ 0 < u.nat (S_EST_WEIGHT x)))).map
    (fun (x : Fin 6) => (u.nat (S_EST_WEIGHT x), (u.sec x).thetaS, (u.sec x).fS))

/-- Parts of a slot whose bank flips, with the image of its banked subindices (R180, R181). -/
def bankParts (k : Fin 48) : List Part :=
  [.slot k, .obj (K_BANK k), .obj (K_SET_VER k)] ++ (List.range 25).map (fun i => .obj (K_ORDER k + i))

/-- The slots of lane l have taken the chained trigger values that have reached it (R174). -/
def withInbound (s : State) (l : Fin 6) : State :=
  s.each (allSlots.filter (fun k => decide (laneOf k = l))) (fun k s => s.takeInbound k)

/-- Parts that arriving values may touch: requests, overruns and the capture (R168, R170, R247). -/
def arriveParts : List Part := .cap :: allSlots.flatMap (fun (k : Fin 48) => [.slot k, .obj (K_OVERRUN k)])

/-- Parts of the profile of axis a (R226). -/
def profileParts (a : Fin 4) : List Part :=
  [.ax a, .obj (A_POS_REF a), .obj (A_PROF_SPEED a), .obj (A_PROF_ACCEL a), .obj (A_PROF_STATE a)]

/-- Parts that an update of axis a may touch (R156, R189–R200, R203, R205, R491–R500). -/
def updateParts (a : Fin 4) : List Part :=
  List.flatten [arriveParts, profileParts a, startParts a, levelParts a, allSlots.flatMap bankParts,
    [.freeCtr, .enc 0, .enc 1, .obj (A_ENC_SPEED 0), .obj (A_ENC_SPEED 1), .obj (A_TUNE_BASE a), .obj (A_MODE a),
      .obj (A_RENDER_STATE a), .obj (A_RENDER_LEN a), .obj (A_MD_DUTY a),
      .obj (A_MD_NOW a), .obj (A_DIR a), .obj (A_SNATCH_STATE a), .obj SF_ANV_CLIPS, .obj (A_TORQUE_SRC a), .obj (A_REGEN_LIM a),
      .obj (A_TLIM a), .obj (A_TLIM_COUNT a), .obj (A_DEV_WEIGHT a), .obj (A_TORQUE_CMD a)],
    allSecs.flatMap (fun (y : Fin 6) => [.obj (S_WEIGHT y), .obj (S_SHARE y), .obj (S_REF y), .obj (S_TRIM y), .obj (S_SHARE_ERR y)])]

/-- Parts that an edge of encoder e may touch (R214–R224, R277). -/
def encoderParts (e : Fin 2) : List Part :=
  List.flatten [[.enc e, .raised, .obj (A_ENC_STATUS e), .obj (A_ENC_COUNT e)], if e = 0 then [.tongs] else [],
    allAxes.flatMap levelParts, allAxes.map (fun (c : Fin 4) => .obj (A_POS_ACT c))]

/-- Parts that a phase of a reference run of axis a may touch (R225). -/
def refParts (a : Fin 4) : List Part := [.ax a, .obj (A_REF_STATE a)] ++ allSecs.flatMap driveParts

/-- No section of axis a is counted, or the device has a fault: the profile may not move (R230). -/
def profileLost (s : State) (a : Fin 4) : Bool := decide (countOf s (some a) = 0) || decide (s.nat S_DEV_FAULT ≠ 0)

/-- Parts that transfers of requester rq may touch: the port and its counts (R328–R333). -/
def portParts (rq : Nat) : List Part := [.port, .obj (ST_GRANTS rq), .obj ST_BUSY, .obj ST_MAX_WAIT]

/-- Parts that a read by requester rq may touch: the port, and what stands for a value left open. -/
def readParts (rq : Nat) : List Part := .freeCtr :: portParts rq

/-- The record that a tick of the capture adds, of the values its channels take at it: the header of the channels that a value
has reached, then their values (R248). -/
def captureRecord (s : State) (cur : Vector Int 32) : List Int :=
  let l := capChannels s
  let hdr : Int := ((l.filter (fun c => s.cap.got.getLsbD c || decide (s.nat (C_CH_SRC c) / 4096 = 8))).foldl (fun m c => m + 2 ^ c) 0 : Nat)
  hdr :: l.map (fun c =>
    let i : Fin 32 := ⟨c % 32, Nat.mod_lt _ (by decide)⟩
    if s.nat C_DECIM_MODE = 1 then (s.cap.sum.get i + cur.get i) / ((s.cap.ticks + 1 : Nat) : Int) else cur.get i)

/-- Channel c judges axis a, in state 1 or 2 (R265). -/
abbrev Judges (s : State) (c : Fin 2) (a : Fin 4) : Prop := (s.cax c a).st = 1 ∨ (s.cax c a).st = 2

/-- Parts that a NazLink cycle may touch: the cycle itself, and what its values do on the axes (R79, R159, R233, R395–R397). -/
def cycleParts : List Part :=
  List.flatten [[.naz, .obj NZ_STATE, .obj NZ_RING], allAxes.flatMap levelParts, allAxes.flatMap (fun (a : Fin 4) =>
    [.obj (A_DEV_TORQUE a), .obj (A_START_STAGE a), .obj (A_MASTER_AGE a), .obj (A_FUS_CORR a), .obj (A_REF_STATE a)]), allSlots.map .slot,
    allSecs.flatMap driveParts]

/-- No pending fence holds the cyclic data of a frame that arrives at t (R380, R381). -/
abbrev Unfenced (s : State) (t : Nat) : Prop := fencesCyclic (s.at_ t) (s.at_ t).tbNs (s.nat TX_NZ_DOMAINS) = false

/-- The cyclic data of a frame that arrived at t waits behind a fence (R381). -/
abbrev Waits (s : State) (t : Nat) (f : NazF) (u : State) : Prop :=
  u.naz.fenced = s.naz.fenced ++ [⟨(s.at_ t).tbNs, s.nat TX_NZ_DOMAINS, f.kind, f.src, f.payload⟩]

/-- The start of the cycle that runs (R394, R395). -/
def cycleAt (s : State) : Nat := s.tbNs / cycNs s * cycNs s

/-- The share of axis a in the torque of block b of a CYCLE frame: its own W of the cycle of start T over the sum (R397). -/
def deviceTorque (s : State) (pay b : Bytes) (T : Nat) (a : Fin 4) : Int :=
  if bitOf (numAt pay 40 32) (s.nat DV_ADDRESS) ∧ numAt b 8 4 ≠ 0 then quotTrunc (intAt b 4 4 * ownWAt s T a.val) (numAt b 8 4) else 0

/-- What Hearth, MRAM and the fuses keep through a device reset (R461, R519), with the model's own parts. -/
def keptPart : Part → Bool
  | .obj k => keptKey k
  | .blob k => keptKey k
  | .images => true
  | .latch => true
  | .ring => true
  | .freeCtr => true
  | .pending => true
  | _ => false

/-- What tells the state of the supplies, the domains and the islands. -/
def supplyPart : Part → Bool
  | .obj k => decide (k = PW_RAIL_STATUS) || decide (k = PW_DAMP_QUEUE) || decide (k = PW_DAMP_MAX_Q) || decide (k = TB_REF_STATE) ||
      (List.range 64).any (fun i => decide (k = IS_STATE i)) || allDomains.any (fun d => decide (k = PW_DOM_STATE d))
  | .power => true
  | _ => false

/-- What tells whether the device is provisioned, and the session it then has or has not (R345). -/
def provisionParts : List Part := [.sessions, .bestAt, .obj SS_COUNT, .obj SS_GUAR_SUM, .obj HP_PROVISIONED]

/-- The sessions after a device reset: none on a provisioned device, else the unauthenticated host session alone (R345, R346). -/
def Provisioned (u : State) : Prop :=
  if (List.range 64).any (fun k => u.flag (SS_KEY_EN k)) = true then
    u.get HP_PROVISIONED = 1 ∧ u.sessions = [] ∧ u.get SS_COUNT = 0 ∧ u.get SS_GUAR_SUM = 0
  else
    u.get HP_PROVISIONED = 0 ∧ u.sessions = [Session.fresh sidHost 2 none 31 0 (burstOf u 0) u.now] ∧ u.get SS_COUNT = 1 ∧
    u.get SS_GUAR_SUM = (rateOf u 0 : Nat)

/-- From s to u a device reset has passed: what is kept reads as before, all else as State.reset has it, the supplies and the count of
free values apart; the low runs of the half-bridges and their ages count from it (R132, R322, R345, R455, R461). -/
def Restarted (s u : State) : Prop :=
  u.tbOff = s.tbOff ∧ Frame (fun p => keptPart p = false ∨ p = .freeCtr) s u ∧
  Frame (fun p => keptPart p = true ∨ supplyPart p = true ∨ p ∈ provisionParts ++ allHbs.map .hb) State.reset u ∧
  (∀ n : Fin 18, u.hb n = { State.reset.hb n with lowAt := some u.now, ageFrom := u.now }) ∧ Provisioned u

/-- Parts of the queue entries of controller b that their return may touch (R425). -/
def entryParts (b : Fin 2) : List Part := entries.flatMap (fun (e : Fin 64) => [.obj (CB_Q_STATUS b e), .obj (CB_Q_OWNER b e)])

/-- Parts that bus-off of controller b may touch (R423). -/
def busOffParts (b : Fin 2) : List Part := [.obj (CB_STATE b), .obj (CB_BUSOFF_COUNT b), .can b] ++ entryParts b ++ closeParts

/-- The value of a readable target speed, as a client with rights reads it now. -/
abbrev ReadsSpeed (s : State) (sid : Nat) (a : Fin 4) : Prop := readCode s sid (A_TARGET_SPEED a) = some 0 ∧ oldValue s (A_TARGET_SPEED a) = none

/-- Parts that a step of the timebase may touch: the instants kept in it, and the PWM periods that restart (R98, R442). -/
def stepParts : List Part :=
  List.flatten [[.raised, .clock, .obj TB_STEPS, .obj TB_LAST_STEP, .enc 0, .enc 1, .tongs], allAxes.flatMap (fun (a : Fin 4) => [.ax a, .gen a]),
    allSecs.flatMap driveParts, allSecs.flatMap (fun (x : Fin 6) => [.obj (S_TMIN_RAISE x), .obj (S_PULSE_SUPPRESS x), .obj (S_CMP_ACTIVE x)]),
    (List.range 10).map (fun i => .obj (SS_LOCK_EXPIRY i))]

/-- Section x is isolated and held by an island's fault (R149, R449). -/
abbrev HeldOff (u : State) (x : Fin 6) : Prop := u.nat (S_STATE x) = 4 ∧ (u.sec x).islandHeld = true

/-- A fault of island i is decided from s to u as R449's table gives. -/
def FaultDecided (s u : State) (i : Nat) : Prop :=
  (∀ x, islSection i = some x → HeldOff u x) ∧
  (6 ≤ i → i ≤ 12 → u.nat (K_LANE_STATE (i - 6)) = 4) ∧
  (i = islFusion → ∀ a : Fin 4, u.nat (A_FUS_VALID a) = 0) ∧
  (i = islTongsA → (u.chan 0).selfBad = true ∧ ∀ (d : Fin 2) (a : Fin 4), Judges s d a → (u.cax d a).st = 3) ∧
  (i = islTongsB → (u.chan 1).selfBad = true ∧ ∀ (d : Fin 2) (a : Fin 4), Judges s d a → (u.cax d a).st = 3) ∧
  (i ∈ [islTimebase, 59, islAnvil, islProfile, islPower] → ∀ x : Fin 6, HeldOff u x) ∧
  (i = islEncoder → ∀ e : Fin 2, bitOf (u.nat (A_ENC_STATUS e)) 4 = true) ∧
  (∀ p : Fin 2, (i = 42 + p.val → u.nat (NP_LINK p.val) = 0) ∧
    (i = 44 + p.val → s.nat (CB_STATE p) ≠ 0 → u.nat (CB_STATE p) = 4 ∧ u.session (sidCan p) = none ∧ ∀ e : Fin 64, txOwned u p e = false) ∧
    (i = 46 + p.val → u.nat (NZ_LINK p.val) = 0)) ∧
  (i = islCapture → u.nat C_OWNER = 0xFFFF ∧ ∀ g : Fin 4, genBusy u g = false) ∧
  (40 ≤ i → i ∉ [islTimebase, 59, islAnvil, islProfile, islPower, islEncoder] → runs u i = false)

/-- From s to u a fault of a kind, 1 clock or 2 handshake, is shown and counted for island i and decided (R448, R449). -/
def Faulted (s u : State) (i kind : Nat) : Prop :=
  u.nat (IS_STATE i) = kind ∧ u.get (IS_FAULTS i) = counted32 (s.get (IS_FAULTS i)) 1 ∧ FaultDecided s u i ∧
  Frame (fun z => z = .obj (IS_FAULTS i) ∨ outage z) s u

/-- A pin of half-bridge n has passed from high impedance to hold off, and keeps any other state (R117). -/
def PinLeft (s u : State) (n : Fin 18) (high : Bool) : Prop :=
  ((u.hb n).pin high).st = (if ((s.hb n).pin high).st = .highZ then .holdOff else ((s.hb n).pin high).st)

/-- The code of check 10 for a direct write of bytes to object k (R321), 0 when every rule of the owning chapter admits it. -/
def ruleOn (s : State) (b : By) (k : Nat) (bs : Bytes) : Nat :=
  match Catalog.find k with
  | some r =>
    let w := cleaned r bs
    let v : Int := if r.ty.long then w.length else r.ty.value w
    ruleCode s (s.putImage k w v) b.sid k v false
  | none => 0

/-- The member that an ANNOUNCE frame describes, arrived on port p with an offset and the axes barred to it as the master judges it (R36, R392, R403). -/
def announced (p : Fin 2) (f : NazF) (off : Int) (barred : List Nat) : Member :=
  ⟨numAt f.payload 12 2, numAt f.payload 0 8, numAt f.payload 8 2, bitOf (numAt f.payload 10 1) 0, bitOf (numAt f.payload 10 1) 1,
    numAt f.payload 11 1, numAt f.payload 14 2, p.val, f.hop, off, barred⟩

end Sys2Proof.Safety
end

