-- ==== Sys2Proof/Certificates/Slice0/Obligations.lean ====
section
/-! DEFINITION. The statements for the provers: what the commands of each family do to the state and what they leave alone, and
what every step keeps. -/

open Sys2Proof Sys2Proof.Machine Sys2Proof.Machine.Obj Sys2Proof.Safety

/-- On an empty queue the block idles (the model's choice, log entry 1). -/
def Obligations.IdleStep : Prop := ∀ s : State, s.pending = [] → step s = .next s

/-- A step takes the command at the front of the queue and runs it with the queue's rest (log entry 1). -/
def Obligations.StepRunsFrontCommand : Prop :=
  ∀ (s : State) (c : Instr) (l : List Instr), s.pending = c :: l → step s = exec c { s with pending := l }

/-- R321: the first failing check refuses a request with its code, and nothing changes but the paid token and, with 0x0E, the count of
refused records (R360); a safety write that its rules refuse is also noted in SF_CFG_RESULT and the journal (R295). -/
def Obligations.RefusedWrites : Prop :=
  (∀ (s : State) (t : Nat) (b : By) (dev : BitVec 8) (key : BitVec 24) (bs : Bytes), dev.toNat = s.nat DV_ADDRESS →
    keySlotAt key.toNat = none → served (s.at_ t) b.sid key.toNat = true → ((s.at_ t).takeToken b.sid).1 = .refused →
    Yields (.objectWrite t b dev key bs) s (fun u =>
      let h := checkHead (s.at_ t) b.sid (stages (s.at_ t) b.sid key.toNat) key.toNat bs
      .result (if h = 0 then 0x0E else h) [] ∈ u.outs ∧
      (stages (s.at_ t) b.sid key.toNat = false ∨ h ≠ 0x09 → Frame (fun p => p = .sessions ∧ h = 0) (paid (s.at_ t) b) u) ∧
      (h = 0 → ∀ n, (paid (s.at_ t) b).session b.sid = some n →
        u.session b.sid = some { n with refused := (n.refused + 1) % 4294967296 }))) ∧
  (∀ (s : State) (t : Nat) (b : By) (dev : BitVec 8) (key : BitVec 24) (bs : Bytes), dev.toNat = s.nat DV_ADDRESS →
    keySlotAt key.toNat = none → served (s.at_ t) b.sid key.toNat = true → served (paid (s.at_ t) b) b.sid key.toNat = true →
    ((s.at_ t).takeToken b.sid).1 ≠ .refused → stages (paid (s.at_ t) b) b.sid key.toNat = false →
    fenceHolds (paid (s.at_ t) b) b.sid (paid (s.at_ t) b).tbNs (domainsOf (paid (s.at_ t) b) b.sid) = false →
    Yields (.objectWrite t b dev key bs) s (fun u =>
      let g := paid (s.at_ t) b
      let h := checkHead g b.sid false key.toNat bs
      let c := checkValue9 g key.toNat bs
      (h ≠ 0 → .result h [] ∈ u.outs ∧ Frame (fun _ => False) g u) ∧
      (h = 0 → c ≠ 0 → .result c [] ∈ u.outs ∧ Frame (fun _ => False) g u) ∧
      (h = 0 → c = 0 → anvilBound g key.toNat = none → ruleOn g b key.toNat bs ≠ 0 →
        .result (ruleOn g b key.toNat bs) [] ∈ u.outs ∧
        (key.toNat / 256 ≠ 0x6004 → Frame (fun p => p = .sessions ∧ ruleOn g b key.toNat bs = 0x0E) g u) ∧
        Frame (· ∈ [.obj SF_CFG_RESULT, .obj SF_LAST_CODE, .raised, .sessions]) g u)))

/-- The object store and the store of STR and BLOB objects keep their canonical form: keys strictly rising, no entry at its
default. -/
def Obligations.StoresStayCanonical : Prop :=
  ∀ s u : State, Dict.wf s.dict = true → Blobs.wf s.blobs = true → step s = .next u →
    Dict.wf u.dict = true ∧ Blobs.wf u.blobs = true

/-- After every command, A_SECTIONS shows the assignments of S_AXIS as a mask (R29) and bit 3 of A_EMERG_STATE the render state
(R493); a step on an empty queue keeps that. -/
def Obligations.StatusShown : Prop :=
  (∀ s u : State, s.pending ≠ [] → step s = .next u → Shows u) ∧ (∀ s u : State, Shows s → step s = .next u → Shows u)

/-- The state after reset has both stores in canonical form, shows its status objects, holds every object at its default (R322)
but for what counts the unauthenticated host session, which is there alone (R345, R348), and for the islands whose domains R466 keeps off, which are powered down (R448), judges no axis, drives no gate and holds STO (R43, R265), and has no command waiting. -/
def Obligations.ResetForm : Prop :=
  Dict.wf State.reset.dict = true ∧ Blobs.wf State.reset.blobs = true ∧ Shows State.reset ∧
  (∀ k, k ≠ SS_COUNT → k ≠ SS_GUAR_SUM → (∀ i ∈ [31, 32, 33, 34, 35, 36, 44, 45, 53, 63], k ≠ IS_STATE i) →
    State.reset.get k = Catalog.default k) ∧
  (∀ i ∈ [31, 32, 33, 34, 35, 36, 44, 45, 53, 63], State.reset.get (IS_STATE i) = 3) ∧ Provisioned State.reset ∧
  (∀ (c : Fin 2) (a : Fin 4), (State.reset.cax c a).st = 0 ∧ (State.reset.cax c a).sto = true) ∧
  (∀ (n : Fin 18) (high : Bool), ((State.reset.hb n).pin high).st = .highZ) ∧ State.reset.pending = []

/-- R19: the queue and the ring hold the entries in the order of their acceptance, which is that of their arrival and, at one edge,
that of their source islands (R443), and entries are never merged; an entry that goes to the ring keeps its place, and at most the
entry that counts dropped ones (R447) joins at the end. -/
def Obligations.JournalOrder : Prop :=
  (∀ (s : State) (t i : Nat) (e : Entry), On s islJournal → s.raised[i]? = some e → s.jq.length < queueSize →
    Yields (.journalEntry t i) s (fun u => ∃ front back : List Entry, s.jq = front ++ back ∧
      u.ring.reverse ++ u.jq = s.ring.reverse ++ front ++ e :: back ∧
      back.length ≤ (if s.jarr.1 = max s.now t then s.jarr.2 else 0) ∧ ∀ f, back.head? = some f → e.isl < f.isl)) ∧
  (∀ (s : State) (t : Nat), On s islJournal → On s islMram →
    Yields (.journalWrite t) s (fun u => ∃ l : List Entry, l.length ≤ 1 ∧ (s.jdrop = 0 → l = []) ∧
      (s.jq = [] ∨ s.ring.length < ringSize → u.ring.reverse ++ u.jq = s.ring.reverse ++ s.jq ++ l) ∧
      (s.jq ≠ [] → s.ring.length = ringSize → u.ring.reverse ++ u.jq = (s.ring.reverse ++ s.jq).drop 1 ++ l)))

/-- R464: when Hearth has lost power the timebase starts at 0 at the power-on, 0xB, 0x07 is journalled with timestamp 0, and what
the journal holds keeps its stamps. -/
def Obligations.HearthLost : Prop :=
  ∀ (s : State) (t : Nat) (bad : List Nat) (agree testA testB : Bool), deviceUp s = true → s.power.stage = 0 → s.power.lost = true →
    allUp s = true →
    Yields (.resetSequence t bad agree testA testB) s (fun u =>
      u.tb = 0 ∧ u.tbNs = 0 ∧ (∃ e ∈ u.raised, e.cls = 0xB ∧ e.detail = 7 ∧ e.stamp = 0) ∧ u.ring = s.ring ∧ u.jq = s.jq ∧
      u.power.lost = false)

/-- The sequencer of a running section whose direction stands: θc of R38, and the step change placed, taken at once with an
entry, or predicted (R41, R42); a demand against A_DIR turns the latch below A_REV_SPEED and waits above (R51, R52); the
placed step change (R43, R55); a locked rotor (R56). -/
def Obligations.SequencerCommands : Prop :=
  (∀ (s : State) (t : Nat) (x : Fin 6) (a : Fin 4), On s x → axisOf s x = some a → Runs s x → (s.sec x).join ≠ .ramp →
    (sgnR (demandedTravel (s.at_ t) a) = 0 ∨ sgnR (demandedTravel (s.at_ t) a) = s.get (A_DIR a)) → s.get (A_REV_PENDING a) = 0 →
    Yields (.sequencerEvaluation t x) s (fun u =>
      let v := s.at_ t
      let th := thetaCNow v x a
      let k := targetStep v x th
      let cur := s.nat (S_STEP x)
      (u.sec x).thetaC = th ∧
      (if k ≠ cur ∧ pastBoundary v x th = true then
        (if s.nat (S_STATE x) ≠ 3 ∧ cur < 6 ∧ adjacent k cur = false then
          u.nat (S_STEP x) = k ∧ u.get (S_SKIP_COUNT x) = counted32 (s.get (S_SKIP_COUNT x)) 1 ∧ Raises s u [(1, x, 0x31)]
        else (u.sec x).placed = some (k, u.now) ∧ u.get (S_STEP x) = s.get (S_STEP x))
      else (u.sec x).placed = predict v x th (feOf v a) ∧ u.get (S_STEP x) = s.get (S_STEP x)) ∧
      Frame (· ∈ [.raised, .obj (S_SKIP_COUNT x), .obj (S_COMM_COUNT x), .obj (S_STEP x), .obj (S_LOCK_STATE x)] ++ driveParts x) s u)) ∧
  (∀ (s : State) (t : Nat) (x : Fin 6) (a : Fin 4), On s x → axisOf s x = some a →
    sgnR (demandedTravel (s.at_ t) a) ≠ 0 → sgnR (demandedTravel (s.at_ t) a) ≠ s.get (A_DIR a) →
    Yields (.sequencerEvaluation t x) s (fun u =>
      (if absR (feOf (s.at_ t) a) < s.get (A_REV_SPEED a) then
        u.get (A_DIR a) = sgnR (demandedTravel (s.at_ t) a) ∧ u.get (A_REV_PENDING a) = 0
      else u.get (A_DIR a) = s.get (A_DIR a) ∧ u.flag (A_REV_PENDING a) = true) ∧
      Frame (fun p => p ∈ [.obj (A_DIR a), .obj (A_REV_PENDING a), .obj (S_SKIP_COUNT x), .obj (S_COMM_COUNT x)] ++ joinParts x ∨
        p ∈ allSecs.flatMap driveParts) s u)) ∧
  (∀ (s : State) (t : Nat) (x : Fin 6) (k i : Nat), On s x → (s.sec x).placed = some (k, i) → i ≤ max s.now t →
    Yields (.stepChange t x) s (fun u =>
      u.nat (S_STEP x) = k ∧ u.get (S_COMM_COUNT x) = counted32 (s.get (S_COMM_COUNT x)) 1 ∧ (u.sec x).placed = none ∧
      (u.sec x).lockAt = (s.sec x).lockAt.map (fun _ => max s.now t) ∧
      Frame (· ∈ [.obj (S_STEP x), .obj (S_COMM_COUNT x), .obj (S_LOCK_STATE x)] ++ driveParts x) s u)) ∧
  (∀ (s : State) (t : Nat) (x : Fin 6) (t0 : Nat), On s x → Runs s x → (s.sec x).lockAt = some t0 →
    t0 + ms (s.nat (S_LOCK_TIME x)) ≤ max s.now t → s.get (S_LOCK_STATE x) = 0 →
    Yields (.lockedRotor t x) s (fun u =>
      u.get (S_LOCK_STATE x) = 1 ∧ Raises s u [(1, x, 0x30)] ∧ (s.nat (S_LOCK_ACTION x) = 1 → (u.sec x).lockLimit = true) ∧
      (s.nat (S_LOCK_ACTION x) = 2 → u.get (S_ENABLE x) = 0 ∧ ∃ r, (u.sec x).ramp = some r ∧ r.up = false) ∧
      Frame (· ∈ [.obj (S_LOCK_STATE x), .raised, .obj (S_ENABLE x)] ++ allSecs.map .sec) s u))

/-- The writes of S_ENABLE, the join's angle, precharge and ramp, and the end of a leave ramp (R57, R58, R136). -/
def Obligations.JoinAndLeaveCommands : Prop :=
  (∀ (s : State) (t : Nat) (b : By) (x : Fin 6), Writes (.joinStart t b x) s (s.at_ t) b (S_ENABLE x) 1 (fun g u =>
    ((axisOf g x).isSome → g.nat (S_STATE x) = 0 → g.flag (S_SERVICE x) = false → (g.sec x).join = .none →
      if joinReady g x then u.get (S_ENABLE x) = 1 ∧ (u.sec x).join = .angle
      else u.get (S_ENABLE x) = 0 ∧ (u.sec x).join = .none ∧ ∃ l, Raises g u ((1, x, 0x35) :: l)) ∧
    ((axisOf g x).isNone ∨ g.nat (S_STATE x) = 4 → u.get (S_ENABLE x) = 0 ∧ u.sec x = g.sec x) ∧
    Frame (· ∈ joinParts x) g u)) ∧
  (∀ (s : State) (t : Nat) (b : By) (x : Fin 6), Writes (.leaveStart t b x) s (s.at_ t) b (S_ENABLE x) 0 (fun g u =>
    u.get (S_ENABLE x) = 0 ∧
    (Runs g x → (∀ r, (g.sec x).ramp = some r → r.up = true) →
      (u.sec x).ramp = some ⟨false, shareFraction g x, g.now⟩ ∧ (u.sec x).join = .none) ∧
    (g.nat (S_STATE x) = 0 → (g.sec x).join ≠ .none → (u.sec x).join = .none ∧ ∃ l, Raises g u ((1, x, 0x35) :: l)) ∧
    Frame (· ∈ joinParts x) g u)) ∧
  (∀ (s : State) (t : Nat) (x : Fin 6) (a : Fin 4), On s x → axisOf s x = some a → (s.sec x).join = .angle →
    angleValid s a = true → Powered s (islObserver x) →
    Yields (.joinAngleValid t x) s (fun u =>
      (u.sec x).join = .precharge ∧ (∃ p, (u.sec x).precharge = some p ∧ p.phase = 0 ∧ p.left = s.nat (S_BLW_PRE_N x)) ∧
      Frame (· ∈ prechargeParts x) s u)) ∧
  (∀ (s : State) (t : Nat) (x : Fin 6) (p : Precharge) (q : Fin 3), On s x → (s.sec x).precharge = some p → p.phase = q.val →
    p.active = false → 0 < p.left → (∀ o, p.lastOff = some o → o + us 2 ≤ max s.now t) →
    coinRoom s = true → gateReady s (hbOf x q) = true →
    Yields (.prechargePulse t x) s (fun u =>
      (u.sec x).precharge = some { p with active := true } ∧ u.get S_BLW_ACTIVE = counted32 (s.get S_BLW_ACTIVE) 1 ∧
      u.get (S_BLW_COUNT (hbOf x q)) = counted32 (s.get (S_BLW_COUNT (hbOf x q))) 1 ∧
      (u.hb (hbOf x q)).refresh = (if (s.hb (hbOf x q)).lo.on then .pulse (max s.now t) else .lowCommanded) ∧
      (u.hb (hbOf x q)).refreshPre = true ∧
      ((s.hb (hbOf x q)).lo.on = false → ∃ w, (u.hb (hbOf x q)).wait = some w ∧ w.high = false) ∧
      Frame (· ∈ prechargeParts x) s u)) ∧
  (∀ (s : State) (t : Nat) (x : Fin 6), On s x → coinRoom s = false →
    Yields (.prechargePulse t x) s (fun u => Frame (fun _ => False) s u)) ∧
  (∀ (s : State) (t : Nat) (x : Fin 6) (p : Precharge) (o : Nat), On s x → (s.sec x).precharge = some p → 3 ≤ p.phase →
    p.lastOff = some o → o + us 1 ≤ max s.now t → (∀ q : Fin 3, levelZeroFor (s.at_ t) (hbOf x q) 1 = true) →
    Yields (.prechargeComplete t x) s (fun u =>
      u.sec x = { s.sec x with join := .boundary, precharge := none } ∧ Frame (· ∈ [.sec x]) s u)) ∧
  (∀ (s : State) (t : Nat) (x : Fin 6) (r : Ramp), On s x → (s.sec x).ramp = some r → r.up = true →
    shareFraction (s.at_ t) x = 1 → s.nat (S_STATE x) = 1 →
    Yields (.joinRampEnd t x) s (fun u =>
      u.get (S_STATE x) = 2 ∧ (u.sec x).ramp = none ∧ (u.sec x).join = .none ∧ (∃ l, Raises s u ((1, x, 0x34) :: l)) ∧
      Frame (· ∈ .raised :: stateParts x ++ allAxes.flatMap levelParts) s u)) ∧
  (∀ (s : State) (t : Nat) (x : Fin 6) (r : Ramp), On s x → (s.sec x).ramp = some r → r.up = false →
    shareFraction (s.at_ t) x = 0 →
    Yields (.leaveRampEnd t x) s (fun u => u.sec x = { s.sec x with offDue := true } ∧ Frame (· ∈ [.sec x]) s u))

/-- A conversion of the voltage ADC is held and feeds the chopper (R64, R153), at the ticks of R439 as the model counts them (log entry
106); one of the current ADC gives the three phase
currents, and the confirming one beyond ±Ioc trips (R145, R148); a second comparator crossing completes a transition, which
Temper answers (R128, R129). -/
def Obligations.ConverterCommands : Prop :=
  (∀ (s : State) (t : Nat) (x : Fin 6) (p : Fin 3) (v : BitVec 12), On s (25 + x.val) → voltageTick (s.at_ t) = true →
    Yields (.voltageAdcConversion t x ⟨p.val, by omega⟩ v) s (fun u =>
      (u.sec x).bemf.v.get p = v.toNat ∧ (u.sec x).bemf.vAt.get p = max s.now t ∧
      (u.sec x).flux.vsum.get p = (s.sec x).flux.vsum.get p + v.toNat ∧
      Frame (· ∈ .obj FW_ST_FAILS :: isolateParts) s u)) ∧
  (∀ (s : State) (t : Nat) (x : Fin 6) (v : BitVec 12), On s (25 + x.val) → voltageTick (s.at_ t) = true →
    Yields (.voltageAdcConversion t x 3 v) s (fun u =>
      u.get (S_DC_LINK x) = v.toNat ∧
      (s.nat (S_BRK_MODE x) = 1 → s.get (S_BRK_ON x) ≤ v.toNat → (u.sec x).brk = true ∧ u.get (S_BRK_DUTY x) = 10000) ∧
      (s.nat (S_BRK_MODE x) = 1 → v.toNat < s.get (S_BRK_ON x) → v.toNat < s.get (S_BRK_OFF x) →
        (u.sec x).brk = false ∧ u.get (S_BRK_DUTY x) = 0) ∧
      Frame (· ∈ [.sec x, .cap, .obj (S_DC_LINK x), .obj (S_BEMF_EVENTS x), .obj (S_BRK_TIME x), .obj (S_BRK_DUTY x)] ++
        allSlots.flatMap (fun (k : Fin 48) => [.slot k, .obj (K_OVERRUN k)])) s u)) ∧
  (∀ (s : State) (t : Nat) (x : Fin 6) (ch : Fin 4) (v : BitVec 12) (iu iv : BitVec 14),
    (voltageTick (s.at_ t) = false → Yields (.voltageAdcConversion t x ch v) s (fun u => Frame (fun _ => False) s u)) ∧
    (currentTick (s.at_ t) = false → Yields (.currentAdcConversion t x iu iv) s (fun u => Frame (fun _ => False) s u))) ∧
  (∀ (s : State) (t : Nat) (x : Fin 6) (iu iv : BitVec 14), On s (13 + 2 * x.val) → (s.at_ t).tb % 200 = 40 →
    Yields (.currentAdcConversion t x iu iv) s (fun u =>
      (u.hb (hbOf x 0)).cur = iu.toInt ∧ (u.hb (hbOf x 1)).cur = iv.toInt ∧ (u.hb (hbOf x 2)).cur = -(iu.toInt + iv.toInt) ∧
      (∀ p : Fin 3, beyondIoc s x (u.hb (hbOf x p)).cur = true → (s.hb (hbOf x p)).oc + 1 = s.nat (S_OC_CONFIRM x) →
        Tripped u (hbOf x p) (if 0 ≤ (u.hb (hbOf x p)).cur then causeOcPos else causeOcNeg)) ∧
      Frame (· ∈ [.obj FW_ST_FAILS, .cap] ++ tripParts x ++
        allSlots.flatMap (fun (k : Fin 48) => [.slot k, .obj (K_OVERRUN k)])) s u)) ∧
  (∀ (s : State) (t : Nat) (n : Fin 18) (upper above : Bool) (tk : Nat) (k : Fin 4), On s (secOf n).val →
    4095 ≤ s.nat (S_DC_LINK (secOf n)) * 10 → (s.hb n).cross = some (!upper, tk, k.val) →
    ((s.at_ t).tick - tk) * 5 ≤ us 1 →
    Yields (.switchNodeTransition t n upper above) s (fun u =>
      let m : Rat := (((s.at_ t).tick - tk : Nat) : Rat) * 25 / 2
      let tgt : Rat := 10 * s.get (if k = 0 ∨ k = 2 then S_TMP_TGT_ON (secOf n) else S_TMP_TGT_OFF (secOf n))
      let tol : Rat := 10 * s.get (S_TMP_TOL (secOf n))
      let c := s.get (codeKey n k.val)
      u.get (tswKey n k.val) = rnd m ∧ (u.hb n).cross = none ∧
      (if upper then (u.hb n).above90 else (u.hb n).above10) = above ∧
      u.get (codeKey n k.val) = (if s.flag (S_TMP_EN (secOf n)) then
        max (s.get SF_ANV_CODE_LO_IN) (min (if tgt + tol < m then c + 1 else if m < tgt - tol then c - 1 else c)
          (s.get SF_ANV_CODE_HI_IN)) else c) ∧
      Frame (· ∈ [.hb n, .raised, .obj (tswKey n k.val), .obj (codeKey n k.val), .obj (S_TMP_OUTSIDE n)]) s u))

/-- A reload opens a period, takes the chop mode and makes the state changes that wait for it (R46, R57–R59, R98); a load-all
request (R102); a live value is held, and one after the turn-off edge counts as late (R105, R107); the scheduled turn-off edge
(R95). -/
def Obligations.PwmCommands : Prop :=
  (∀ (s : State) (t : Nat) (xs : BitVec 6) (x : Fin 6), On s x → xs.getLsbD x.val = true →
    isReload (s.sec x).pwm.period (s.sec x).pwm.presc (s.sec x).pwm.phase (s.at_ t).tick = true →
    (s.sec x).pwm.reloadAt ≠ some (s.at_ t).tick →
    Yields (.periodBoundary t xs) s (fun u =>
      (u.sec x).pwm.reloadAt = some (s.at_ t).tick ∧ (u.sec x).chop = s.nat (S_CHOP_MODE x) ∧
      (∀ p, (s.sec x).degDue = some p → (s.sec x).offDue = false → (∀ y : Fin 6, xs.getLsbD y.val = true → y = x) →
        if mayDegrade s x then u.get (S_STATE x) = 3 ∧ u.nat (S_DEG_PHASE x) = p ∧ (u.sec x).degDue = none
        else u.get (S_STATE x) = 4) ∧
      ((s.sec x).offDue = true → (s.sec x).degDue = none → u.get (S_STATE x) = 0 ∧ u.nat (S_STEP x) = 0xFF) ∧
      ((s.sec x).degDue = none → (s.sec x).offDue = false → (s.sec x).join = .boundary → (axisOf s x).isSome →
        u.get (S_STATE x) = 1 ∧ (u.sec x).join = .ramp ∧ (u.sec x).ramp = some ⟨true, 0, u.now⟩ ∧
        u.nat (S_STEP x) = stepAt (s.sec x).thetaC) ∧
      Frame (· ∈ [.obj S_LOADALL_PEND, .obj SF_ANV_CLIPS, .obj S_BLW_DEFERRED] ++ isolateParts ++
        allSecs.flatMap (fun (y : Fin 6) => [.obj (S_LOAD_REFUSED y), .obj (S_LATE_RELEASE y), .obj (S_COMM_COUNT y),
          .obj (S_LOAD_MODE y), .obj (S_DUTY y), .obj (S_LIVE_HELD y), .obj (S_ABSENT_KICK y), .obj (S_TMIN_RAISE y),
          .obj (S_PULSE_SUPPRESS y), .obj (S_CMP_ACTIVE y), .obj (S_TMIN_HOLD y)]) ++
        allHbs.flatMap (fun (n : Fin 18) => [.obj (S_BLW_COUNT n), .obj (S_BLW_FORCED n)])) s u)) ∧
  (∀ (s : State) (t : Nat) (b : By), Writes (.loadAllRequest t b) s (s.at_ t) b S_LOADALL 1 (fun g u =>
    (∀ x : Fin 6, bitOf (g.nat S_LOADALL_MASK) x.val = true → g.nat (S_LOAD_MODE x) = 0 → (g.sec x).pwm.laDue = none →
      (u.sec x).pwm.laDue = some (g.now + ns 32) ∧ bitOf (u.nat S_LOADALL_PEND) x.val = true) ∧
    (∀ x : Fin 6, bitOf (g.nat S_LOADALL_MASK) x.val = false → u.sec x = g.sec x) ∧
    Frame (· ∈ .obj S_LOADALL_PEND :: allSecs.map .sec) g u)) ∧
  (∀ (s : State) (t : Nat) (x : Fin 6) (y : BitVec 32), On s x →
    isReload (s.sec x).pwm.period (s.sec x).pwm.presc (s.sec x).pwm.phase (s.at_ t).tick = false →
    Yields (.liveValueArrival t x y) s (fun u =>
      u.get (S_LIVE_HELD x) = y.toInt ∧
      (liveInForce s x = true → (s.sec x).pwm.hasPulse = true → (s.sec x).pwm.offIssued = true →
        u.get (S_LIVE_LATE x) = counted32 (s.get (S_LIVE_LATE x)) 1 ∧ u.sec x = s.sec x) ∧
      Frame (· ∈ [.sec x, .obj (S_LIVE_HELD x), .obj (S_LIVE_LATE x), .obj (S_CMP_ACTIVE x), .obj (S_TMIN_HOLD x),
        .obj (S_LIVE_FORCED x)]) s u)) ∧
  (∀ (s : State) (t : Nat) (x : Fin 6), On s x → offDueNow (s.at_ t) x = true →
    Yields (.turnOffEdge t x) s (fun u =>
      (u.sec x).pwm.onTime = false ∧ (u.sec x).pwm.offIssued = true ∧ Frame (· ∈ driveParts x) s u))

/-- A waiting turn-on is released with its Temper code (R115, R116, R118, R125); the edge phase ends in the hold state (R116);
an accepted status level, and what level 3 trips (R119, R120, R146); the low run refreshes (R132); a pulse ends (R133, R135). -/
def Obligations.GatePinCommands : Prop :=
  (∀ (s : State) (t : Nat) (n : Fin 18) (w : Wait), On s (secOf n).val → (s.hb n).wait = some w →
    releasable (s.at_ t) n w = true →
    Yields (.turnOnRelease t n) s (fun u =>
      let code := s.nat (codeKey n (if w.high then 0 else 2))
      (u.hb n).pin w.high = ⟨.edgeOn, code, u.now, true, ((s.hb n).pin w.high).offAt⟩ ∧ (u.hb n).wait = none ∧
      (u.hb n).pin (!w.high) = (s.hb n).pin (!w.high) ∧
      u.get (S_GATE_I n) = s.get (S_BOOST_GAIN (secOf n)) * edgeMicroAmps code ∧
      Frame (· ∈ [.hb n, .obj (S_GATE_I n), .sec (secOf n), .obj (S_TMIN_HOLD (secOf n)), .obj (S_CMP_ACTIVE (secOf n))]) s u)) ∧
  (∀ (s : State) (t : Nat) (n : Fin 18) (high : Bool), On s (secOf n).val →
    ((s.hb n).pin high).edgeAt + ns (s.nat (S_EDGE_TIME (secOf n))) ≤ max s.now t →
    Yields (.edgePhaseEnd t n high) s (fun u =>
      (((s.hb n).pin high).st = .edgeOn → (u.hb n).pin high = { (s.hb n).pin high with st := .holdOn }) ∧
      (((s.hb n).pin high).st = .edgeOff → (u.hb n).pin high = { (s.hb n).pin high with st := .holdOff }) ∧
      (u.hb n).pin (!high) = (s.hb n).pin (!high) ∧ Frame (· ∈ [.hb n]) s u)) ∧
  (∀ (s : State) (t : Nat) (n : Fin 18) (band : Fin 5), On s (secOf n).val → band.val < 3 →
    Yields (.statusLevelAccepted t n band) s (fun u =>
      u.get (S_HSS_LEVEL n) = band.val ∧ (u.hb n).band = band.val ∧
      (u.hb n).expects = (let r := (s.hb n).expects.dropWhile (fun e => decide (e.1 = band.val))
        if (s.sec (secOf n)).join = .precharge ∧ r = [] ∧ expectedLevel (s.hb n) = 0 ∧ band.val ≠ 0 then [(0, max s.now t)] else r) ∧
      (∀ w, (s.hb n).wait = some w → band.val ≠ 0 → (u.hb n).wait = some { w with tconf := none }) ∧
      (∀ w, (s.hb n).wait = some w → band.val = 0 → w.tconf = none → (s.at_ t).tickOf w.tc < (s.at_ t).tick →
        (u.hb n).wait = some { w with tconf := some u.now }) ∧
      Frame (· ∈ [.hb n, .obj (S_HSS_LEVEL n)]) s u)) ∧
  (∀ (s : State) (t : Nat) (n : Fin 18) (band : Fin 5), On s (secOf n).val → 3 ≤ band.val →
    Yields (.statusLevelAccepted t n band) s (fun u =>
      u.get (S_HSS_LEVEL n) = 3 ∧
      (band.val = 4 → u.get (S_HSS_OVR n) = counted32 (s.get (S_HSS_OVR n)) 1 ∧
        ∃ l, Raises s u ((1, (secOf n).val, 0x3C) :: l)) ∧
      (s.nat (S_STATE (secOf n)) ≠ 0 ∨ (s.sec (secOf n)).join = .precharge →
        bitOf (s.sec (secOf n)).pwm.chan (phaseOf n).val = true → Tripped u n (resolveLevel3 s n)) ∧
      (s.nat (S_STATE (secOf n)) = 0 → (s.sec (secOf n)).join = .precharge → (u.sec (secOf n)).join = .none) ∧
      Frame (· ∈ [.obj (S_HSS_LEVEL n), .obj (S_HSS_OVR n)] ++ tripParts (secOf n)) s u)) ∧
  (∀ (s : State) (t : Nat) (n : Fin 18) (l : Nat), On s (secOf n).val → (s.hb n).lowAt = some l →
    l + ns (s.nat (S_BLW_MIN_LOW (secOf n))) ≤ max s.now t → (s.hb n).above10 = false →
    Yields (.refreshLowRun t n) s (fun u => u.hb n = { s.hb n with refreshed := true } ∧ blwAge u n = 0 ∧
      Frame (· ∈ [.hb n]) s u)) ∧
  (∀ (s : State) (t : Nat) (n : Fin 18) (r : Nat), On s (secOf n).val → (s.hb n).refresh = .pulse r →
    r + ns (s.nat (S_BLW_PULSE (secOf n))) ≤ max s.now t →
    Yields (.refreshPulseEnd t n) s (fun u =>
      (u.hb n).refresh = .idle ∧ (u.hb n).refreshPre = false ∧ (u.hb n).lo.on = false ∧
      u.get S_BLW_ACTIVE = max 0 (s.get S_BLW_ACTIVE - 1) ∧
      Frame (· ∈ [.hb n, .obj (S_GATE_I n), .sec (secOf n), .obj S_BLW_ACTIVE]) s u))

/-- A handshake that times out (R121, R145), DC-link overvoltage (R149, R152) and the VPD monitor (R145, R158) trip: latched,
turned off, the cause set, and the section isolated or the device faulted; a modulated chopper period (R153). -/
def Obligations.TripCommands : Prop :=
  (∀ (s : State) (t : Nat) (n : Fin 18) (e : Nat × Nat) (r : List (Nat × Nat)), On s (secOf n).val → (s.hb n).expects = e :: r →
    e.2 + ns (s.nat (S_HS_TIMEOUT (secOf n))) ≤ max s.now t →
    Yields (.handshakeTimeout t n) s (fun u =>
      Tripped u n causeTimeout ∧
      (trippedNow (s.at_ t) n = false → u.get (S_Q_COUNT n) = counted32 (s.get (S_Q_COUNT n)) 1 ∧
        u.get (S_Q_TRIPS (secOf n)) = counted32 (s.get (S_Q_TRIPS (secOf n))) 1 ∧
        ∃ l, Raises s u ((2, (secOf n).val, 0x06) :: l)) ∧
      (trippedNow (s.at_ t) n = false → Runs s (secOf n) → mayDegrade s (secOf n) = false →
        u.get (S_STATE (secOf n)) = 4 ∧ u.get (S_ENABLE (secOf n)) = 0) ∧
      Frame (· ∈ tripParts (secOf n)) s u)) ∧
  (∀ (s : State) (t : Nat) (x : Fin 6), On s (25 + x.val) →
    Yields (.dcLinkOvervoltage t x) s (fun u =>
      (∀ p : Fin 3, Tripped u (hbOf x p) causeDcOv) ∧
      (Runs s x → u.get (S_STATE x) = 4 ∧ u.get (S_ENABLE x) = 0 ∧ ∃ l, Raises s u ((3, x, 0x02) :: l)) ∧
      Frame (· ∈ tripParts x) s u)) ∧
  (∀ (s : State) (t : Nat), On s islPower → deviceUp s = false →
    Yields (.vpdMonitorTrip t) s (fun u => bitOf (u.nat PW_RAIL_STATUS) 5 = true ∧ Frame (· ∈ [.obj PW_RAIL_STATUS]) s u)) ∧
  (∀ (s : State) (t : Nat), On s islPower → deviceUp s = true →
    Yields (.vpdMonitorTrip t) s (fun u =>
      (∀ n : Fin 18, Tripped u n causeVpd ∧ (u.hb n).hi.st = .highZ ∧ (u.hb n).lo.st = .highZ) ∧
      bitOf (u.nat PW_RAIL_STATUS) 5 = true ∧ bitOf (u.nat S_DEV_FAULT) 0 = true ∧
      (∀ x : Fin 6, Runs s x → u.get (S_STATE x) = 4) ∧
      Frame (fun p => p = .obj PW_RAIL_STATUS ∨ p ∈ allSecs.flatMap tripParts) s u)) ∧
  (∀ (s : State) (t : Nat) (x : Fin 6), On s x → s.nat (S_BRK_MODE x) = 2 →
    (s.sec x).brkStart + 4000000000 / s.nat (S_BRK_FREQ x) ≤ max s.now t →
    Yields (.brakeChopperPeriod t x) s (fun u =>
      (u.sec x).brkStart = u.now ∧ (u.sec x).brk = decide (0 < (s.sec x).brkDuty) ∧
      (u.sec x).brkEnd = some (u.now + (s.sec x).brkDuty * 400000 / s.nat (S_BRK_FREQ x)) ∧
      u.nat (S_BRK_DUTY x) = (s.sec x).brkDuty ∧ Frame (· ∈ [.sec x, .obj (S_BRK_TIME x), .obj (S_BRK_DUTY x)]) s u))

/-- S_Q_CLEAR clears when no cause is present and is refused otherwise (R154); a UVLO-only latch clears by itself (R155); the
device fault clears (R158). -/
def Obligations.QuenchClearCommands : Prop :=
  (∀ (s : State) (t : Nat) (b : By) (x : Fin 6), Writes (.faultClear t b x) s (s.at_ t) b (S_Q_CLEAR x) 1 (fun g u =>
    (if (g.nat (S_STATE x) = 0 ∨ g.nat (S_STATE x) = 4) ∧ noCause g x = true then
      u.get (S_Q_LATCH x) = 0 ∧ (∀ p : Fin 3, u.get (S_Q_CAUSE (hbOf x p)) = 0) ∧ u.nat (S_STATE x) = 0 ∧ Raises g u [(3, x, 0x03)]
    else u.get (S_Q_LATCH x) = g.get (S_Q_LATCH x) ∧ u.get (S_STATE x) = g.get (S_STATE x) ∧ Raises g u [(3, x, 0x04)]) ∧
    Frame (· ∈ [.raised, .obj (S_Q_LAST x), .obj (S_Q_LATCH x)] ++ stateParts x ++ phases.flatMap (fun (p : Fin 3) =>
      .obj (S_Q_CAUSE (hbOf x p)) :: ([0, 1, 2, 3] : List Nat).map (fun k => .obj (codeKey (hbOf x p) k)))) g u)) ∧
  (∀ (s : State) (t : Nat) (n : Fin 18), On s (secOf n).val → s.flag (S_UV_AUTOCLEAR (secOf n)) = true →
    latched s n = true → s.nat (S_Q_CAUSE n) = causeUvlo → levelZeroFor (s.at_ t) n 1000 = true →
    Yields (.uvAutoclear t n) s (fun u =>
      latched u n = false ∧ u.get (S_Q_CAUSE n) = 0 ∧ Raises s u [(2, (secOf n).val, 0x07)] ∧
      Frame (· ∈ [.raised, .obj (S_Q_LAST (secOf n)), .obj (S_Q_LATCH (secOf n)), .obj (S_Q_CAUSE n)] ++ stateParts (secOf n) ++
        phases.flatMap (fun (p : Fin 3) => ([0, 1, 2, 3] : List Nat).map (fun k => .obj (codeKey (hbOf (secOf n) p) k)))) s u)) ∧
  (∀ (s : State) (t : Nat) (b : By), Writes (.deviceClear t b) s (s.at_ t) b S_DEV_CLEAR 1 (fun g u =>
    (bitOf (g.nat PW_RAIL_STATUS) 5 = false → isolatedCount g < g.nat S_DEV_ISO_LIMIT →
      u.get S_DEV_FAULT = 0 ∧ (∀ n : Fin 18, u.nat (S_Q_CAUSE n) &&& causeVpd = 0) ∧ ∃ l, Raises g u ((5, islPower, 0x03) :: l)) ∧
    (bitOf (g.nat PW_RAIL_STATUS) 5 = true → Frame (fun _ => False) g u) ∧
    Frame (· ∈ List.flatten [[.raised, .obj S_DEV_FAULT], allAxes.flatMap levelParts, allSecs.flatMap stateParts,
      allSecs.map (fun (x : Fin 6) => .obj (S_Q_LATCH x)), allHbs.flatMap (fun (n : Fin 18) =>
        .obj (S_Q_CAUSE n) :: ([0, 1, 2, 3] : List Nat).map (fun k => .obj (codeKey n k)))]) g u))

/-- One update of the flux observer (R68); of the fusion of an axis: the weighted mean of the qualified sections, or of the
candidates where none is qualified, moves the predicted angle by the gain, and the count decides validity (R70–R72); of the
fusion across a cascade, with gain 1 (R76). -/
def Obligations.EstimateCommands : Prop :=
  (∀ (s : State) (t : Nat) (x : Fin 6), On s (31 + x.val) →
    Yields (.fluxObserverUpdate t x) s (fun u =>
      let f := (s.sec x).flux
      let g := (u.sec x).flux
      let i := fun (p : Fin 3) => ((s.hb (hbOf x p)).cur : Rat) * Config.ampsPerCode x.val
      let vu := nodeMean s x 0
      let vv := nodeMean s x 1
      let vw := nodeMean s x 2
      let r : Rat := (s.get (S_OBS_R x) : Rat) / 1000000
      let l : Rat := (s.get (S_OBS_L x) : Rat) / 1000000000
      let psi : Rat := (s.get (S_OBS_PSI x) : Rat) / 1000000
      let tol : Rat := (s.get (S_OBS_PSI_TOL x) : Rat) / 100
      g.intA = fluxKeep (s.nat (S_OBS_DRIFT x)) * f.intA + ((vu - (vu + vv + vw) / 3) - r * i 0) / 1000000 ∧
      g.intB = fluxKeep (s.nat (S_OBS_DRIFT x)) * f.intB + ((vv - vw) - r * (i 1 - i 2)) / 1000000 ∧
      g.psiA = g.intA - l * i 0 ∧ g.psiB = g.intB - l * (i 1 - i 2) ∧
      g.angles = (modAng (toCentideg (argument g.psiB (root 3 * g.psiA)) + 9000) :: f.angles).take 65 ∧
      g.valid = (decide (psi * (1 - tol) * (psi * (1 - tol)) ≤ fluxMag2 g) && decide (fluxMag2 g ≤ psi * (1 + tol) * (psi * (1 + tol))) &&
        decide ((s.get (S_OBS_MIN_FE x) : Rat) ≤ (match axisOf s x with
          | some a => absR (feOf s a)
          | none => 0))) ∧
      g.vcnt = Vector.replicate 3 0 ∧ Frame (· ∈ [.sec x]) s u)) ∧
  (∀ (s : State) (t : Nat) (a : Fin 4), On s islFusion →
    Yields (.fusionUpdate t a) s (fun u =>
      let pred := modAng ((s.ax a).fusAngle + angleIn (s.ax a).fusFe (((s.at_ t).now : Int) - (s.ax a).fusAt))
      let o := fuse pred (if fusing s u a 2 = [] then fusing s u a 1 else fusing s u a 2)
      (o = none →
        (u.ax a).fusAngle = pred ∧ u.flag (A_FUS_VALID a) = false ∧ u.get (A_FUS_FE a) = s.get (A_FUS_FE a)) ∧
      (∀ p, o = some p →
        (u.ax a).fusAngle = modAng (pred + (s.get (A_FUS_KTHETA a) : Rat) / 2147483648 * p.1) ∧
        u.get (A_FUS_FE a) = rnd p.2 ∧
        u.get (A_FUS_COUNT a) = (fusing s u a 2).length ∧
        u.flag (A_FUS_VALID a) = decide (s.nat (A_FUS_MIN_SECTIONS a) ≤ (fusing s u a 2).length)) ∧
      u.get (A_FUS_ANGLE a) = angObj (u.ax a).fusAngle ∧ (u.ax a).fusAt = (s.at_ t).now ∧
      Frame (· ∈ fusionParts a) s u)) ∧
  (∀ (s : State) (t : Nat) (a : Fin 4) (T : Nat), On s islFusion → onCascade s a = true → isHost s a = true →
    s.naz.starts.head? = some T → (s.ax a).cascOut.t < T →
    Yields (.cascadeFusion t a) s (fun u =>
      let c := (s.ax a).cascOut
      let fresh := (s.ax a).devs.filter (fun d => d.fresh && decide (d.t = T))
      let pred := modAng (c.theta + angleIn c.fe (4 * ((T : Int) - c.t)))
      let of := fun (st : Nat) => fresh.filter (fun d => decide (d.st = st ∧ 0 < d.w))
      let o := fuse pred ((if of 2 = [] then of 1 else of 2).map (fun d => (d.w, d.theta, d.fe)))
      (o = none → (u.ax a).cascOut.theta = pred ∧ (u.ax a).cascOut.valid = false) ∧
      (∀ p, o = some p → (u.ax a).cascOut.theta = modAng (pred + p.1) ∧ (u.ax a).cascOut.fe = p.2 ∧
        (u.ax a).cascOut.valid = decide (s.nat (A_FUS_MIN_SECTIONS a) ≤ ((of 2).map (·.count)).sum) ∧
        u.get (A_FUS_DEV_DROPPED a) = (((u.ax a).devs.filter (fun d => decide (d.st = 3))).length : Nat)) ∧
      (u.ax a).cascOut.t = T ∧ (∀ d ∈ (u.ax a).devs, d.fresh = false) ∧
      Frame (· ∈ [.ax a, .raised, .obj (A_FUS_DEV_DROPPED a)]) s u))

/-- The stages of the sensorless start: Align ends in Ramp (R81), the ramp's hand-over speed in Confirm (R82), a row of checks
in Blend and their time limit in Failed (R83), the blend in Running, eight good checks of Coast in Running and its time limit
in Idle (R84), a retry in Align (R85), none of them while a stop function runs (R495); a reference run ramps after its Align (R225). -/
def Obligations.StartCommands : Prop :=
  (∀ (s : State) (t : Nat) (a : Fin 4), On s islFusion → inStage s a 1 = true → (s.ax a).start.refPhase ≠ 1 →
    stagePast (s.at_ t) a (s.nat (A_ALIGN_TIME a)) = true →
    Yields (.alignEnd t a) s (fun u => Decides s u a 2 ∧ Frame (· ∈ startParts a) s u)) ∧
  (∀ (s : State) (t : Nat) (a : Fin 4), On s islFusion → (s.ax a).start.refPhase = 1 → (s.ax a).start.refDue = none →
    isHost s a = true → stagePast (s.at_ t) a (s.nat (A_ALIGN_TIME a)) = true →
    Yields (.alignEnd t a) s (fun u =>
      (if onCascade s a then (u.ax a).start.refDue = some (2, 2)
      else (u.ax a).start.refPhase = 2 ∧ (u.ax a).start.theta0 = s.get (A_ALIGN_ANGLE a) ∧ (u.ax a).start.f0 = 0 ∧
        (u.ax a).start.tgt = (s.get (A_DIR a) : Rat) * s.get (A_HO_SPEED_UP a)) ∧ Frame (· ∈ startParts a) s u)) ∧
  (∀ (s : State) (t : Nat) (a : Fin 4), On s islFusion → inStage s a 2 = true →
    0 < rampSpeed (s.at_ t) a * (s.ax a).start.tgt → (s.get (A_HO_SPEED_UP a) : Rat) ≤ absR (rampSpeed (s.at_ t) a) →
    Yields (.rampHandoverSpeed t a) s (fun u => Decides s u a 3 ∧ Frame (· ∈ startParts a) s u)) ∧
  (∀ (s : State) (t : Nat) (a : Fin 4), On s islFusion → inStage s a 3 = true →
    Yields (.handoverCheck t a) s (fun u =>
      let v := s.at_ t
      (if (if onCascade v a then cascadeFresh v a else v.flag (A_FUS_VALID a)) = true ∧
          absR ((s.ax a).fusFe - rampSpeed v a) ≤ s.get (A_HO_SPEED_TOL a) then
        (if s.nat (A_HO_CONFIRM a) ≤ (s.ax a).start.checks + 1 then Decides s u a 4
        else (u.ax a).start.checks = (s.ax a).start.checks + 1 ∧ u.get (A_START_STAGE a) = s.get (A_START_STAGE a))
      else (u.ax a).start.checks = 0 ∧
        (0 < s.nat (A_HO_CONFIRM a) → u.get (A_START_STAGE a) = s.get (A_START_STAGE a) ∧ (u.ax a).start.decided = none)) ∧
      Frame (· ∈ startParts a) s u)) ∧
  (∀ (s : State) (t : Nat) (a : Fin 4), On s islFusion → inStage s a 3 = true →
    stagePast (s.at_ t) a (s.nat (A_HO_TIMEOUT a)) = true →
    Yields (.handoverTimeout t a) s (fun u => Decides s u a 7 ∧ Frame (· ∈ startParts a) s u)) ∧
  (∀ (s : State) (t : Nat) (a : Fin 4), On s islFusion → inStage s a 4 = true →
    stagePast (s.at_ t) a (s.nat (A_HO_BLEND a)) = true →
    Yields (.blendEnd t a) s (fun u => Decides s u a 5 ∧ Frame (· ∈ startParts a) s u)) ∧
  (∀ (s : State) (t : Nat) (a : Fin 4), On s islFusion → inStage s a 6 = true →
    Yields (.coastRecovery t a) s (fun u =>
      (if s.flag (A_FUS_VALID a) = true ∧ (s.get (A_HO_SPEED_DN a) : Rat) ≤ absR (s.ax a).fusFe then
        (if 8 ≤ (s.ax a).start.coast + 1 then Decides s u a 5
        else (u.ax a).start.coast = (s.ax a).start.coast + 1 ∧ u.get (A_START_STAGE a) = s.get (A_START_STAGE a))
      else (u.ax a).start.coast = 0 ∧ u.get (A_START_STAGE a) = s.get (A_START_STAGE a)) ∧
      Frame (· ∈ startParts a) s u)) ∧
  (∀ (s : State) (t : Nat) (a : Fin 4), On s islFusion → inStage s a 6 = true →
    stagePast (s.at_ t) a (s.nat (A_COAST_TIME a)) = true →
    Yields (.coastTimeExpiry t a) s (fun u => Decides s u a 0 ∧ Frame (· ∈ startParts a) s u)) ∧
  (∀ (s : State) (t : Nat) (a : Fin 4), On s islFusion → inStage s a 7 = true →
    (s.ax a).start.fails < s.nat (A_START_RETRIES a) → stagePast (s.at_ t) a (s.nat (A_START_RETRY_DELAY a)) = true →
    startDemand s a ≠ 0 →
    Yields (.startRetry t a) s (fun u =>
      (if (s.ax a).safe.stopFn then u.get (A_START_STAGE a) = s.get (A_START_STAGE a) ∧ u.ax a = s.ax a else Decides s u a 1) ∧
      Frame (· ∈ startParts a) s u))

/-- A slot's timer asks for a run (R168, R170); a lane issues the next one with its inputs, set and limit (R167, R168, R170);
the output of a run is the saturated, clamped sum, and its histories, counts and delays follow (R163–R165, R192), its sink
takes it (R169, R191); a failed residue check withholds it (R182); a direct coefficient write arrives (R175, R179). -/
def Obligations.SlotRunCommands : Prop :=
  (∀ (s : State) (t : Nat) (k : Fin 48), s.flag (K_ENABLE k) = true → bankAt (s.slot k).active 0x18 = 4 →
    ((s.at_ t).tb : Int) % (4 * bankAt (s.slot k).active 0x19) = 0 →
    Yields (.slotTimer t k) s (fun u =>
      let v := (s.at_ t).takeInbound k
      ((v.slot k).request = none → (u.slot k).request = some (u.now, u.now, none) ∧ u.get (K_OVERRUN k) = v.get (K_OVERRUN k)) ∧
      (∀ r, (v.slot k).request = some r → (u.slot k).request = some (r.1, u.now, none) ∧
        u.get (K_OVERRUN k) = counted32 (v.get (K_OVERRUN k)) 1) ∧
      u.slot k = { v.slot k with request := (u.slot k).request } ∧ ((s.slot k).inbound = [] → v = s.at_ t) ∧ Frame (· ∈ [.slot k, .obj (K_OVERRUN k)]) s u)) ∧
  (∀ (s : State) (t : Nat) (l : Fin 6) (k : Fin 48) (age arrived : Nat) (w : Option Int),
    nextIssue (withInbound (s.at_ t) l) l = some k → ((withInbound (s.at_ t) l).slot k).request = some (age, arrived, w) →
    physOf s l.val ≠ 0xFF → l.val ∉ s.lanes.held → s.lanes.cycle.get l ≠ some ((s.at_ t).tbNs / 2) →
    (∀ r, s.lanes.rot = some r → r.logical < 6 ∧ r.spare < 7 ∧ physOf s r.logical < 7) →
    Yields (.slotRunIssue t l) s (fun u =>
      let v := withInbound (s.at_ t) l
      u.slot k = { v.slot k with
        request := none, lastIssue := some v.now, histOp := none,
        runs := (v.slot k).runs ++ [⟨arrived, v.now, setAt (v.slot k) (v.tbNs / 2), inputSum v k w, runLimit v k, (v.slot k).histOp,
          laneFor u k, (v.slot k).wroteAt.any (fun w => decide (v.now ≤ w + ns 100)), injection v k 1⟩] } ∧
      (∀ r, s.lanes.rot = some r → r.handing = true → r.logical = l.val → laneFor u k = r.spare) ∧
      u.lanes.cycle.get l = some (v.tbNs / 2) ∧
      Frame (fun p => p ∈ [.lanes, .obj K_SPARE_AVAIL] ++ (List.range 6).map (fun i => .obj (K_LANE_MAP i)) ++
        (List.range 7).map (fun i => .obj (K_LANE_STATE i)) ++
        allSlots.flatMap (fun (j : Fin 48) => [.slot j, .obj (K_OVERRUN j)])) s u)) ∧
  (∀ (s : State) (t : Nat) (k : Fin 48) (r : Run) (rest : List Run) (twinPass : Bool), (s.slot k).runs = r :: rest →
    r.issued + ns 50 ≤ max s.now t → r.pre = none → r.inj = none → (twinLane s k r = none ∨ twinPass = true) →
    Yields (.slotOutput t k ⟨true, twinPass⟩) s (fun u =>
      let o := slotResult r.set r.x (s.slot k).hist r.tlim
      let sink := bankAt (s.slot k).active 0x1A
      u.get (K_Y k) = o.1 ∧ u.get (K_X k) = r.x ∧ u.get (K_RUNS k) = counted32 (s.get (K_RUNS k)) 1 ∧
      u.get (K_SAT_COUNT k) = counted32 (s.get (K_SAT_COUNT k)) (if o.2.1 then 1 else 0) ∧
      u.get (K_CLAMP_COUNT k) = counted32 (s.get (K_CLAMP_COUNT k)) (if o.2.2 then 1 else 0) ∧
      (u.slot k).hist = (s.slot k).hist.push r.x o.1 ∧ (u.slot k).runs = rest ∧
      u.get (K_LAST_DELAY k) = min 65535 (rnd (((max s.now t - r.arrived : Nat) : Rat) / 4)) ∧
      u.get (K_MAX_DELAY k) = max (u.get (K_LAST_DELAY k)) (s.get (K_MAX_DELAY k)) ∧
      (∀ x : Fin 6, sink = 0x1000 + x.val → .live x.val o.1 ∈ u.outs) ∧
      (∀ a : Fin 4, sink = 0x2000 + 16 * a.val → (u.ax a).in0 = o.1) ∧
      (∀ a : Fin 4, sink = 0x2001 + 16 * a.val → (u.ax a).in1 = o.1) ∧
      (∀ a : Fin 4, sink = 0x2002 + 16 * a.val → (u.ax a).in2 = max 0 o.1) ∧
      Frame (· ∈ List.flatten [[.obj (K_Y k), .obj (K_X k), .obj (K_RUNS k), .obj (K_SAT_COUNT k), .obj (K_CLAMP_COUNT k),
        .obj (K_LAST_DELAY k), .obj (K_MAX_DELAY k), .cap, .lanes, .freeCtr], allSlots.flatMap (fun (j : Fin 48) => [.slot j, .obj (K_OVERRUN j)]),
        allAxes.flatMap (fun (c : Fin 4) => [.ax c, .obj (A_FAULT_STATE c)])]) s u)) ∧
  (∀ (s : State) (t : Nat) (k : Fin 48) (r : Run) (rest : List Run) (p : Fin 7) (twinPass : Bool), (s.slot k).runs = r :: rest →
    r.issued + ns 50 ≤ max s.now t → r.pre = none → r.lane = p.val → s.lanes.residueAt.get p = none →
    (twinLane s k r = none ∨ twinPass = true) →
    Yields (.slotOutput t k ⟨false, twinPass⟩) s (fun u =>
      u.slot k = { s.slot k with runs := rest } ∧ u.get K_RESIDUE_FAULTS = counted32 (s.get K_RESIDUE_FAULTS) 1 ∧
      Raises s u [(5, 6 + p.val, 0x40)] ∧ u.lanes.residueAt.get p = some (max s.now t) ∧
      Frame (· ∈ [.slot k, .lanes, .raised, .obj K_RESIDUE_FAULTS]) s u)) ∧
  (∀ (s : State) (t : Nat) (k : Fin 48) (sub : Nat) (v : Int) (i : Nat) (rest : List (Nat × Nat × Int × Nat)),
    comingTo s k = (k.val, sub, v, i) :: rest → i + ns 22 ≤ max s.now t →
    Yields (.coefficientWriteApplied t k) s (fun u =>
      (u.slot k).active = bankPut (s.slot k).active sub v ∧ comingTo u k = rest ∧ (u.slot k).wroteAt = some (max s.now t) ∧
      ((s.slot k).prepared = none → (u.slot k).inactive = (s.slot k).inactive) ∧
      (∀ l, (s.slot k).prepared = some l → (u.slot k).inactive =
        if sub ∈ l then (s.slot k).inactive else bankPut (s.slot k).inactive sub v) ∧ Frame (· ∈ [.slot k, .lanes]) s u))

/-- The writes of K_ENABLE, K_RESET and K_PRELOAD (R172): a slot that is turned off drops its waiting run; a reset or preload
takes effect at once with no run in flight, and before the next issue with one. -/
def Obligations.SlotWriteCommands : Prop :=
  (∀ (s : State) (t : Nat) (b : By) (k : Fin 48) (on : Bool), Writes (.slotEnable t b k on) s (s.at_ t) b (K_ENABLE k) (flagInt on) (fun g u =>
    u.flag (K_ENABLE k) = on ∧ (on = false → (u.slot k).request = none ∧ (u.slot k).inbound = []) ∧
    (∀ a : Fin 4, on = true → (u.ax a).in2By ≠ some k.val) ∧
    ((on = true ∨ g.lanes.rot = none) → Frame (· ∈ .obj (K_ENABLE k) :: .slot k :: allAxes.map .ax) g u) ∧
    Frame (fun p => p ∈ [.obj (K_ENABLE k), .slot k, .lanes, .obj K_SPARE_AVAIL] ++ allAxes.map .ax ∨
      (∃ m : Nat, p = .obj (K_LANE_MAP m)) ∨ (∃ m : Nat, p = .obj (K_LANE_STATE m))) g u)) ∧
  (∀ (s : State) (t : Nat) (b : By) (k : Fin 48), Writes (.historyReset t b k) s (s.at_ t) b (K_RESET k) 1 (fun g u =>
    ((g.slot k).runs = [] → (u.slot k).hist = ⟨0, 0, 0, 0, 0, 0⟩) ∧
    ((g.slot k).runs ≠ [] → (u.slot k).hist = (g.slot k).hist ∧ (u.slot k).histOp = some .reset) ∧
    Frame (· ∈ [.slot k]) g u)) ∧
  (∀ (s : State) (t : Nat) (b : By) (k : Fin 48) (v : BitVec 32), Writes (.historyPreload t b k v) s (s.at_ t) b (K_PRELOAD k) v.toNat (fun g u =>
    ((g.slot k).runs = [] → (u.slot k).hist = ⟨0, 0, 0, v.toInt, v.toInt, v.toInt⟩) ∧
    ((g.slot k).runs ≠ [] → (u.slot k).hist = (g.slot k).hist ∧ (u.slot k).histOp = some (.preload v.toInt)) ∧
    Frame (· ∈ [.slot k]) g u))

/-- Lane rotation and takeover (R183, R184): a rotation copies the eight slots, its twin comparison hands the lane over or, on
a mismatch, sends the spare to its self-test, whose end makes a released lane the spare or fails it; a taken-over lane issues
again. -/
def Obligations.LaneCommands : Prop :=
  (∀ (s : State) (t : Nat) (q : Fin 7), On s islSelfTest → s.nat K_ROT_PERIOD ≠ 0 →
    s.lanes.rotAt + 4000000000 * s.nat K_ROT_PERIOD ≤ max s.now t → (∀ i : Fin 7, s.nat (K_LANE_STATE i) = 1 ↔ i = q) →
    s.lanes.rot = none → s.lanes.mismatched = none → s.nat PW_STATE ≠ 1 → s.lanes.next < 6 → physOf s s.lanes.next ≠ 0xFF →
    Yields (.rotationStart t) s (fun u =>
      u.lanes = { s.lanes with rotAt := max s.now t, rot := some ⟨s.lanes.next, q.val, [], none, [], [], false, []⟩,
                               next := (s.lanes.next + 1) % 6 } ∧
      u.get (K_LANE_STATE q) = 2 ∧ u.flag K_SPARE_AVAIL = true ∧
      Frame (· ∈ [.lanes, .obj (K_LANE_STATE q), .obj K_SPARE_AVAIL]) s u)) ∧
  (∀ (s : State) (t : Nat) (b : By), Writes (.rotateNow t b) s (s.at_ t) b K_ROTATE_NOW 1 (fun g u =>
    (∀ q : Fin 7, (∀ i : Fin 7, g.nat (K_LANE_STATE i) = 1 ↔ i = q) → g.lanes.rot = none → g.lanes.mismatched = none →
      g.nat PW_STATE ≠ 1 → g.lanes.next < 6 → physOf g g.lanes.next ≠ 0xFF →
      u.lanes = { g.lanes with rot := some ⟨g.lanes.next, q.val, [], none, [], [], false, []⟩, next := (g.lanes.next + 1) % 6 } ∧
      u.get (K_LANE_STATE q) = 2) ∧
    ((∀ i : Fin 7, g.nat (K_LANE_STATE i) ≠ 1) ∨ g.lanes.rot ≠ none → u.lanes = g.lanes) ∧
    Frame (· ∈ [.lanes, .obj K_SPARE_AVAIL] ++ (List.range 7).map (fun i => .obj (K_LANE_STATE i))) g u)) ∧
  (∀ (s : State) (t : Nat) (k : Fin 48) (r : Rotation), s.lanes.rot = some r → (laneOf k).val = r.logical → k.val ∉ r.copied →
    (s.slot k).runs = [] →
    Yields (.rotationCopy t k) s (fun u =>
      u.lanes = (if s.nat PW_STATE = 1 then s.lanes else { s.lanes with rot := some { r with
        copied := k.val :: r.copied, twinAt := if r.copied.length + 1 = 8 then some (max s.now t) else none } }) ∧
      Frame (· ∈ [.lanes]) s u)) ∧
  (∀ (s : State) (t : Nat) (y yt : BitVec 32) (r : Rotation) (i : Nat), On s islSelfTest → s.lanes.rot = some r →
    r.twinAt = some i → i + us (s.nat K_TWIN_TIME) ≤ max s.now t → r.handing = false → (∀ k ∈ r.ran, k ∈ r.compared) →
    r.logical < 6 → r.spare < 7 → physOf s r.logical < 7 → physOf s r.logical ≠ r.spare →
    Yields (.twinComparisonEnd t none y yt) s (fun u =>
      (if r.ran.all (fun k => decide (k ∈ r.moved) || !s.flag (K_ENABLE k)) = true then
        u.nat (K_LANE_MAP r.logical) = r.spare ∧ u.get (K_LANE_STATE r.spare) = 0 ∧ u.get (K_LANE_STATE (physOf s r.logical)) = 3 ∧
        u.lanes = { s.lanes with rot := none }
      else u.lanes = { s.lanes with rot := some { r with handing := true } } ∧ u.get (K_LANE_MAP r.logical) = s.get (K_LANE_MAP r.logical)) ∧
      Frame (· ∈ [.lanes, .obj (K_LANE_MAP r.logical), .obj (K_LANE_STATE r.spare), .obj (K_LANE_STATE (physOf s r.logical)),
        .obj K_SPARE_AVAIL]) s u)) ∧
  (∀ (s : State) (t : Nat) (k : Fin 48) (y yt : BitVec 32) (r : Rotation) (i : Nat), On s islSelfTest → s.lanes.rot = some r →
    r.twinAt = some i → r.handing = false → k.val ∈ r.compared → r.spare < 7 → r.logical < 6 →
    Yields (.twinComparisonEnd t (some k) y yt) s (fun u =>
      u.get (K_LANE_STATE r.spare) = 3 ∧ u.get (K_LANE_MAP r.logical) = s.get (K_LANE_MAP r.logical) ∧
      u.lanes = { s.lanes with rot := none, mismatched := some r.logical } ∧ Raises s u [(1, 6 + physOf s r.logical, 0x43)] ∧
      Frame (· ∈ [.lanes, .obj (K_LANE_STATE r.spare), .obj K_SPARE_AVAIL, .raised]) s u)) ∧
  (∀ (s : State) (t : Nat) (p : Fin 7), On s islSelfTest → s.nat (K_LANE_STATE p) = 3 → s.lanes.mismatched = none →
    Yields (.laneSelfTestEnd t p true) s (fun u =>
      u.get (K_LANE_STATE p) = 1 ∧ u.flag K_SPARE_AVAIL = true ∧ Raises s u [(1, 6 + p.val, 0x42)] ∧
      u.get K_TWIN_MISMATCH = counted32 (s.get K_TWIN_MISMATCH) (if s.lanes.mismatchDue then 1 else 0) ∧
      Frame (· ∈ [.lanes, .obj (K_LANE_STATE p), .obj K_SPARE_AVAIL, .raised, .obj K_TWIN_MISMATCH]) s u)) ∧
  (∀ (s : State) (t : Nat) (p : Fin 7) (l : Fin 6), On s islSelfTest → s.nat (K_LANE_STATE p) = 3 → s.lanes.mismatched = some l.val →
    physOf s l.val ≠ p.val → physOf s l.val < 7 →
    Yields (.laneSelfTestEnd t p true) s (fun u =>
      u.nat (K_LANE_MAP l) = p.val ∧ u.get (K_LANE_STATE p) = 0 ∧ u.get (K_LANE_STATE (physOf s l.val)) = 3 ∧
      u.lanes = { s.lanes with mismatched := none, mismatchDue := true } ∧
      Frame (· ∈ [.lanes, .obj (K_LANE_MAP l), .obj (K_LANE_STATE p), .obj (K_LANE_STATE (physOf s l.val)), .obj K_SPARE_AVAIL]) s u)) ∧
  (∀ (s : State) (t : Nat) (p : Fin 7), On s islSelfTest → s.nat (K_LANE_STATE p) = 3 →
    Yields (.laneSelfTestEnd t p false) s (fun u =>
      u.get (K_LANE_STATE p) = 4 ∧ Raises s u [(5, 6 + p.val, 0x41)] ∧ u.lanes.mismatched = none ∧
      Frame (· ∈ [.lanes, .raised, .obj (K_LANE_STATE p), .obj K_SPARE_AVAIL, .obj PW_DAMP_QUEUE, .obj PW_DAMP_MAX_Q,
        .obj (PW_DOM_STATE (72 + p.val)), .obj (IS_STATE (6 + p.val))]) s u)) ∧
  (∀ (s : State) (t : Nat) (l : Fin 6),
    Yields (.laneTakeover t l) s (fun u =>
      l.val ∉ u.lanes.held ∧ (∀ m : Fin 6, m ≠ l → (m.val ∈ u.lanes.held ↔ m.val ∈ s.lanes.held)) ∧ Frame (· ∈ [.lanes]) s u))

/-- One update of an axis (R189): a mode that waits takes effect (R491); the source, the limit and the command of the torque
(R194, R196), and the reference, weight and share of each section (R197, R198) are those of the state it leaves; a temperature
that is not written grows stale (R197); a device without torque of the host falls to 0 (R199). -/
def Obligations.AxisUpdateCommands : Prop :=
  (∀ (s : State) (t : Nat) (a : Fin 4), On s islProfile → (s.at_ t).tb % us 1 = 0 →
    Yields (.axisUpdate t a) s (fun u =>
      let q := (u.ax a).tsrc
      let regen := decide (q ≠ 0) && decide (sgnI q = -sgnR (speedFeedback u a)) &&
        decide ((u.get (A_REV_SPEED a) : Rat) ≤ absR (feOf u a))
      (u.ax a).modeDue = none ∧ (∀ m, (s.ax a).modeDue = some m → m ≠ 6 → u.nat (A_MODE a) = m) ∧
      u.nat (A_TORQUE_SRC a) = torqueSource u a ∧ u.get (A_TLIM a) = torqueLimit u a ∧
      u.get (A_REGEN_LIM a) = (regenLimit u a).getD 0x7FFFFFFF ∧
      u.get (A_TORQUE_CMD a) = limitT (torqueLimit u a) (if regen = true ∧ (regenLimit u a).isSome then
        limitT (u.get (A_REGEN_LIM a)) q else q) ∧
      (∀ x ∈ secsOf u a, (u.sec x).ref = refLimited u a x ∧ u.get (S_REF x) = q31 (refLimited u a x) ∧
        u.get (S_SHARE x) = rnd (share u a x * 1000000) ∧ (x ∈ sharers u a → u.get (S_WEIGHT x) = rnd (weight u a x))) ∧
      Frame (· ∈ updateParts a) s u)) ∧
  (∀ (s : State) (t : Nat) (x : Fin 6) (a : Fin 4), On s islProfile → axisOf s x = some a →
    (s.sec x).tempAt + ms (s.nat (A_TEMP_TIMEOUT a)) ≤ max s.now t → s.flag (S_TEMP_STALE x) = false →
    Yields (.temperatureStale t x) s (fun u =>
      u.get (S_TEMP_STALE x) = 1 ∧ Raises s u [(1, islProfile, 0x18)] ∧ Frame (· ∈ [.obj (S_TEMP_STALE x), .raised]) s u)) ∧
  (∀ (s : State) (t : Nat) (a : Fin 4), On s islProfile → onCascade s a = true → 3 ≤ (s.ax a).tdMissed → (s.ax a).tdLost = false →
    Yields (.deviceTorqueLost t a) s (fun u =>
      u.get (A_DEV_TORQUE a) = 0 ∧ u.ax a = { s.ax a with tdLost := true } ∧ Raises s u [(1, islProfile, 0x19)] ∧
      Frame (· ∈ [.obj (A_DEV_TORQUE a), .ax a, .raised]) s u))

/-- The snatch detector: an evaluation takes ΔT over the window and fires on enough of them beyond the threshold (R201,
R203), with which an armed transaction flips; its end flips it back (R203); the staged values stand again (R203); a transaction
is armed or discarded (R202, R203). -/
def Obligations.SnatchCommands : Prop :=
  (∀ (s : State) (t : Nat) (a : Fin 4) (old : Int), On s islProfile → (s.at_ t).tb % us 10 = 0 → snatchRuns (s.at_ t) a = true →
    (((s.ax a).tsrc :: (s.ax a).hist).take ((s.nat (A_SNATCH_WIN a) + 5) / 10 + 1))[(s.nat (A_SNATCH_WIN a) + 5) / 10]? = some old →
    Yields (.snatchEvaluation t a) s (fun u =>
      let d := (s.ax a).tsrc - old
      let run := if s.get (A_SNATCH_DT a) ≤ d.natAbs then (s.ax a).snatchRun + 1 else 0
      (u.ax a).snatchDT = satI 32 d ∧ (u.ax a).snatchRun = run ∧
      (if s.flag (A_SNATCH_EN a) = true ∧ (s.ax a).snatchActive = false ∧ s.nat (A_SNATCH_CONFIRM a) ≤ run then
        (u.ax a).snatchActive = true ∧ u.get (A_SNATCH_COUNT a) = counted32 (s.get (A_SNATCH_COUNT a)) 1 ∧
        (s.get (A_SNATCH_STATE a) = 0 → u.get (A_SNATCH_STATE a) = 4 ∧ Raises s u [(1, islProfile, 0x12)]) ∧
        (s.get (A_SNATCH_STATE a) = 1 → u.get (A_SNATCH_STATE a) = 2 ∧ Raises s u [(1, islProfile, 0x10)] ∧
          ∀ k ∈ armedSlots s a, (u.slot k).active = (s.slot k).inactive ∧ (u.slot k).inactive = (s.slot k).active)
      else (u.ax a).snatchActive = (s.ax a).snatchActive ∧ Frame (· ∈ [.ax a]) s u) ∧
      Frame (· ∈ [.ax a, .raised, .obj (A_SNATCH_COUNT a), .obj (A_SNATCH_STATE a)] ++ (armedSlots s a).flatMap bankParts) s u)) ∧
  (∀ (s : State) (t : Nat) (a : Fin 4) (l : Nat), On s islProfile → (s.ax a).snatchActive = true → (s.ax a).snatchLowAt = some l →
    l + ms (s.nat (A_SNATCH_HOLD a)) ≤ max s.now t →
    Yields (.snatchEnd t a) s (fun u =>
      (u.ax a).snatchActive = false ∧
      (s.nat (A_SNATCH_STATE a) = 2 → u.get (A_SNATCH_STATE a) = 3 ∧ Raises s u [(1, islProfile, 0x11)] ∧
        ∀ k ∈ armedSlots s a, (u.slot k).active = (s.slot k).inactive ∧ (u.slot k).inactive = (s.slot k).active) ∧
      (s.nat (A_SNATCH_STATE a) = 4 → u.get (A_SNATCH_STATE a) = 0 ∧ Raises s u [(1, islProfile, 0x11)]) ∧
      Frame (· ∈ [.ax a, .raised, .obj (A_SNATCH_STATE a)] ++ (armedSlots s a).flatMap bankParts) s u)) ∧
  (∀ (s : State) (t : Nat) (a : Fin 4), On s islProfile → s.nat (A_SNATCH_STATE a) = 3 →
    Yields (.snatchRearmed t a) s (fun u =>
      u.get (A_SNATCH_STATE a) = 1 ∧
      (∀ k ∈ armedSlots s a, (u.slot k).active = (s.slot k).active ∧ (u.slot k).inactive =
        (((s.ax a).armed.filter (fun v => decide (v.1 = k))).map (·.2)).foldl (fun b v => bankPut b v.1 v.2) (s.slot k).active) ∧
      Frame (· ∈ .obj (A_SNATCH_STATE a) :: (armedSlots s a).map .slot) s u)) ∧
  (∀ (s : State) (t : Nat) (b : By) (a : Fin 4) (id : BitVec 16), Writes (.snatchArm t b a id) s (s.at_ t) b (A_SNATCH_TX a) id.toNat (fun g u =>
    (∀ x, g.tx id.toNat = some x → id.toNat ≠ 0xFFFF → u.get (A_SNATCH_TX a) = id.toNat ∧ u.get (A_SNATCH_STATE a) = 1 ∧
      (u.ax a).armed = armedVals x ∧ u.tx id.toNat = some { x with st := 7, owner := 0xFFFF }) ∧
    (id.toNat ≠ 0xFFFF → Frame (· ∈ [.obj (A_SNATCH_TX a), .obj (A_SNATCH_STATE a), .ax a, .txs, .sessions] ++ allSlots.map .slot) g u))) ∧
  (∀ (s : State) (t : Nat) (b : By) (a : Fin 4), Writes (.snatchDiscard t b a) s (s.at_ t) b (A_SNATCH_TX a) 0xFFFF (fun g u =>
    u.get (A_SNATCH_TX a) = 0xFFFF ∧ (g.nat (A_SNATCH_STATE a) = 1 → u.get (A_SNATCH_STATE a) = 0 ∧ (u.ax a).armed = []) ∧
    (∀ k ∈ armedSlots g a, g.nat (A_SNATCH_STATE a) = 1 → (u.slot k).prepared = none) ∧
    Frame (· ∈ [.obj (A_SNATCH_TX a), .obj (A_SNATCH_STATE a), .ax a, .txs, .sessions, .raised, .naz, .obj TX_OPEN_COUNT,
      .obj TX_PROOF_USED, .obj TX_ABORTS] ++ allSlots.map .slot) g u))

/-- The tension feedback of an axis: a written value gives the error q 3 and moves the render state by its limits and their
times (R205, R206); without it the render ends and the axis level is entered (R207). -/
def Obligations.TensionCommands : Prop :=
  (∀ (s : State) (t : Nat) (b : By) (a : Fin 4) (v : BitVec 32), Writes (.tensionFeedback t b a v) s (s.at_ t) b (A_TEN_FB a) v.toNat (fun g u =>
    let above := decide (g.get (A_RENDER_LIMIT a) ≤ (v.toNat : Int)) &&
      decide ((g.ax a).rendAbove.getD g.now + ms (g.nat (A_RENDER_CONFIRM a)) ≤ g.now)
    let below := decide ((v.toNat : Int) < g.get (A_RECOVER_TENSION a)) &&
      decide ((g.ax a).rendBelow.getD g.now + ms (g.nat (A_RECOVER_DELAY a)) ≤ g.now)
    let before := fun (o : Option Nat) (k : Nat) => o.any (fun b => decide (b + ms (g.nat k) ≤ g.now))
    let moved := fun (st : Nat) (above below : Bool) =>
      if st = 1 then (if above && renderAllowed g a then 2 else 1) else if st = 2 then (if below then 3 else 2)
      else if st = 3 then (if above then 2 else 3) else if st = 4 then (if below then 3 else 4) else st
    u.get (A_TEN_FB a) = (v.toNat : Int) ∧ (u.ax a).tenLost = false ∧ (u.ax a).tenAt = g.now ∧
    (u.ax a).level &&& lvTension = 0 ∧
    u.nat (A_RENDER_STATE a) = moved (moved (g.nat (A_RENDER_STATE a))
      (before (g.ax a).rendAbove (A_RENDER_CONFIRM a)) (before (g.ax a).rendBelow (A_RECOVER_DELAY a))) above below ∧
    (u.ax a).sig.get 3 = satI 32 (rnd (((tensionRef u a - (v.toNat : Int) : Int) : Rat) / g.get (A_TEN_FS a) * 2147483648)) ∧
    Frame (· ∈ [.obj (A_TEN_FB a), .obj (A_FAULT_STATE a), .obj (A_RENDER_STATE a), .raised] ++ profileParts a ++ arriveParts) g u)) ∧
  (∀ (s : State) (t : Nat) (a : Fin 4), On s islProfile → mode s a = 4 ∨ s.nat (A_RENDER_STATE a) ≠ 0 → (s.ax a).tenLost = false →
    (s.ax a).tenAt + ms (s.nat (A_TEN_FB_TIMEOUT a)) ≤ max s.now t →
    Yields (.tensionFeedbackLost t a) s (fun u =>
      u.get (A_RENDER_STATE a) = 0 ∧ (u.ax a).tenLost = true ∧ (u.ax a).level = (s.ax a).level ||| lvTension ∧
      ((s.ax a).level &&& lvTension = 0 → u.get (A_FAULT_STATE a) = 1) ∧ Raises s u [(4, islProfile, 0x04)] ∧
      Frame (· ∈ .obj (A_RENDER_STATE a) :: levelParts a) s u))

/-- The encoders: one change of the Gray sequence moves the count and the position, and of ENC0 both channel counts (R214,
R217, R220, R256); two at once count as illegal, and three within a revolution declare a fault (R215, R224); the first index
references, a later one is judged (R221, R222); the clear of the status (R224). -/
def Obligations.EncoderCommands : Prop :=
  (∀ (s : State) (t : Nat) (e : Fin 2) (who : BitVec 3) (a b : Bool), who.getLsbD 0 = true →
    (a ≠ (s.enc e).a ∧ b = (s.enc e).b) ∨ (a = (s.enc e).a ∧ b ≠ (s.enc e).b) →
    Yields (.encoderChange t ⟨e, who⟩ a b) s (fun u =>
      let d : Int := if (grayIndex (s.enc e).a (s.enc e).b + 1) % 4 = grayIndex a b then 1 else -1
      u.get (A_ENC_COUNT e) = s.get (A_ENC_COUNT e) + d * s.get (A_ENC_POLARITY e) ∧ (u.enc e).a = a ∧ (u.enc e).b = b ∧
      (∀ c, servedBy s e = some c → sensorless s c = false → u.get (A_POS_ACT c) = posOf u c (s.ax c).poff) ∧
      Frame (· ∈ encoderParts e) s u)) ∧
  (∀ (s : State) (t : Nat) (e : Fin 2) (who : BitVec 3) (a b : Bool) (c : Fin 2),
    Yields (.encoderChange t ⟨e, who⟩ a b) s (fun u =>
      let k := s.chan c
      let d : Int := if (grayIndex k.a k.b + 1) % 4 = grayIndex a b then 1 else -1
      (e = 0 → who.getLsbD (1 + c.val) = true →
        (u.chan c).a = a ∧ (u.chan c).b = b ∧
        ((a ≠ k.a ∧ b = k.b) ∨ (a = k.a ∧ b ≠ k.b) → (u.chan c).count = k.count + d * s.get (A_ENC_POLARITY 0)) ∧
        (a ≠ k.a → b ≠ k.b → (u.chan c).count = k.count ∧ (2 ≤ k.illegalAt.length →
          k.travel - (k.illegalAt.drop 1).headD 0 ≤ s.cfgOf c SF_ENC_CPR → (u.chan c).illegal = true))) ∧
      (e ≠ 0 ∨ who.getLsbD (1 + c.val) = false → u.chan c = s.chan c) ∧
      (who.getLsbD 0 = false → Frame (fun p => e = 0 ∧ p = .tongs) s u))) ∧
  (∀ (s : State) (t : Nat) (e : Fin 2) (who : BitVec 3) (a b : Bool), who.getLsbD 0 = true → a ≠ (s.enc e).a → b ≠ (s.enc e).b →
    Yields (.encoderChange t ⟨e, who⟩ a b) s (fun u =>
      u.get (A_ENC_COUNT e) = s.get (A_ENC_COUNT e) ∧ u.get (A_ENC_ILLEGAL e) = counted32 (s.get (A_ENC_ILLEGAL e)) 1 ∧
      bitOf (u.nat (A_ENC_STATUS e)) 3 = true ∧ (u.enc e).a = a ∧ (u.enc e).b = b ∧
      (2 ≤ (s.enc e).illegalAt.length → (s.enc e).travel - ((s.enc e).illegalAt.drop 1).headD 0 ≤ s.get (A_ENC_CPR e) →
        bitOf (u.nat (A_ENC_STATUS e)) 4 = true ∧ ∀ c, servedBy s e = some c →
          (u.ax c).level = (s.ax c).level ||| lvEncoder ∧ c ∈ (u.enc e).struck) ∧
      Frame (· ∈ .obj (A_ENC_ILLEGAL e) :: encoderParts e) s u)) ∧
  (∀ (s : State) (t : Nat) (e : Fin 2) (who : BitVec 3), who.getLsbD 0 = true → referenced s e = false →
    Yields (.indexPulse t ⟨e, who⟩) s (fun u =>
      u.get (A_ENC_IDX_REF e) = s.get (A_ENC_COUNT e) ∧ referenced u e = true ∧ u.get (A_ENC_COUNT e) = s.get (A_ENC_COUNT e) ∧
      (∀ c, servedBy s e = some c → (s.nat (A_REF_STATE c) = 1 → isHost s c = true →
          if onCascade s c then (u.ax c).start.refDue = some (4, 2) else (u.ax c).start.refPhase = 4) ∧
        (s.nat (A_REF_STATE c) ≠ 1 → encoderOf s c = some e → sensorless s c = false → u.get (A_REF_STATE c) = 2)) ∧
      Frame (· ∈ .obj (A_ENC_IDX_REF e) :: encoderParts e ++ allAxes.flatMap refParts ++ allSlots.map .slot) s u)) ∧
  (∀ (s : State) (t : Nat) (e : Fin 2) (who : BitVec 3) (c : Fin 2),
    Yields (.indexPulse t ⟨e, who⟩) s (fun u =>
      let k := s.chan c
      (e = 0 → who.getLsbD (1 + c.val) = true → (u.chan c).sinceZ = 0 ∧ (u.chan c).count = k.count ∧
        (k.zRef = none → (u.chan c).zRef = some k.count ∧ (u.chan c).idxBad = false) ∧
        (∀ z, k.zRef = some z → (u.chan c).zRef = some z ∧ (u.chan c).idxErr = indexError (s.cfgOf c SF_ENC_CPR) (k.count - z) ∧
          (u.chan c).idxBad = decide (s.cfgOf c SF_IDX_TOL < (u.chan c).idxErr.natAbs))) ∧
      (e ≠ 0 ∨ who.getLsbD (1 + c.val) = false → u.chan c = s.chan c) ∧
      (who.getLsbD 0 = false → Frame (fun p => e = 0 ∧ p = .tongs) s u))) ∧
  (∀ (s : State) (t : Nat) (e : Fin 2) (who : BitVec 3), who.getLsbD 0 = true → referenced s e = true →
    Yields (.indexPulse t ⟨e, who⟩) s (fun u =>
      let cpr := s.get (A_ENC_CPR e)
      let r := (s.get (A_ENC_COUNT e) - s.get (A_ENC_IDX_REF e)) % cpr
      let ei := if r ≤ (cpr - 1) / 2 then r else r - cpr
      u.get (A_ENC_IDX_ERR e) = ei ∧
      (if s.nat (A_ENC_IDX_MODE e) = 0 ∨ (ei.natAbs : Int) ≤ s.get (A_ENC_IDX_TOL e) then
        u.get (A_ENC_STATUS e) = s.get (A_ENC_STATUS e) ∧ u.get (A_ENC_COUNT e) = s.get (A_ENC_COUNT e)
      else if s.get (A_ENC_IDX_GROSS e) < ei.natAbs then
        bitOf (u.nat (A_ENC_STATUS e)) 4 = true ∧ u.get (A_ENC_COUNT e) = s.get (A_ENC_COUNT e)
      else bitOf (u.nat (A_ENC_STATUS e)) 1 = true ∧ u.get (A_ENC_IDX_FLAGS e) = counted32 (s.get (A_ENC_IDX_FLAGS e)) 1 ∧
        u.get (A_ENC_COUNT e) = (if s.nat (A_ENC_IDX_MODE e) = 2 then s.get (A_ENC_COUNT e) - ei else s.get (A_ENC_COUNT e)) ∧
        Raises s u [(1, islEncoder, if s.nat (A_ENC_IDX_MODE e) = 2 then 0x1B else 0x1A)]) ∧
      (∀ c, servedBy s e = some c → s.nat (A_REF_STATE c) = 3 → u.get (A_REF_STATE c) = 2) ∧
      Frame (· ∈ [.obj (A_ENC_IDX_ERR e), .obj (A_ENC_IDX_FLAGS e)] ++ encoderParts e ++
        allAxes.map (fun (c : Fin 4) => .obj (A_REF_STATE c))) s u)) ∧
  (∀ (s : State) (t : Nat) (b : By) (e : Fin 2), Writes (.encoderStatusClear t b e) s (s.at_ t) b (A_ENC_STATUS_CLR e) 1 (fun g u =>
    (∀ i : Fin 5, 1 ≤ i.val → bitOf (u.nat (A_ENC_STATUS e)) i.val = false) ∧ referenced u e = referenced g e ∧
    (∀ c, c ∈ (g.enc e).struck → c ∉ (g.enc (1 - e)).struck → (u.ax c).level &&& lvEncoder = 0) ∧
    (∀ c, c ∉ (g.enc e).struck ∨ c ∈ (g.enc (1 - e)).struck → u.ax c = g.ax c) ∧
    Frame (· ∈ [.obj (A_ENC_STATUS e), .enc e] ++ allAxes.flatMap (fun (c : Fin 4) => [.ax c, .obj (A_FAULT_STATE c)])) g u))

/-- A_HOME_SET moves position and reference (R220); the reference run: its start, the time limit of its Ramp, and its end with
the measured reference, a stop to follow (R225); on a cascade axis these are decided for the second cycle after (R79). -/
def Obligations.ReferenceCommands : Prop :=
  (∀ (s : State) (t : Nat) (b : By) (a : Fin 4) (v : BitVec 64), Writes (.homeSet t b a v) s (s.at_ t) b (A_HOME_SET a) v.toNat (fun g u =>
    u.get (A_POS_ACT a) = posOf g a ((g.ax a).poff + (v.toInt - g.get (A_POS_ACT a))) ∧
    u.get (A_POS_REF a) = satI 64 (g.get (A_POS_REF a) + (v.toInt - g.get (A_POS_ACT a))) ∧
    (u.ax a).posRef = (g.ax a).posRef + ((v.toInt - g.get (A_POS_ACT a) : Int) : Rat) ∧
    Frame (· ∈ [.ax a, .obj (A_POS_ACT a), .obj (A_POS_REF a)]) g u)) ∧
  (∀ (s : State) (t : Nat) (b : By) (a : Fin 4), Writes (.referenceRun t b a) s (s.at_ t) b (A_REF_RUN a) 1 (fun g u =>
    (∀ e, encoderOf g a = some e → sensorless g a = false → isHost g a = true → referenced g e = false →
      g.nat (A_REF_STATE a) ≠ 1 → u.get (A_REF_STATE a) = 1 ∧
        if onCascade g a then (u.ax a).start.refDue = some (1, 2) else (u.ax a).start.refPhase = 1) ∧
    Frame (· ∈ refParts a) g u)) ∧
  (∀ (s : State) (t : Nat) (a : Fin 4), On s islProfile → isHost s a = true → (s.ax a).start.refPhase = 2 →
    (s.ax a).start.refDue = none → (s.ax a).start.refAt + ms (s.nat (A_HO_TIMEOUT a)) ≤ max s.now t →
    Yields (.referenceRunTimeout t a) s (fun u =>
      (if onCascade s a then (u.ax a).start.refDue = some (3, 2) ∧ u.get (A_REF_STATE a) = s.get (A_REF_STATE a) ∧ Raises s u []
      else u.get (A_REF_STATE a) = 3 ∧ (u.ax a).start.refPhase = 0 ∧ Raises s u [(1, islProfile, 0x22)]) ∧
      Frame (· ∈ .raised :: refParts a) s u)) ∧
  (∀ (s : State) (t : Nat) (a : Fin 4), On s islProfile → isHost s a = true → (s.ax a).start.refPhase = 4 →
    (s.ax a).start.refDue = none → (s.ax a).start.at_ + ms (s.nat (A_HO_BLEND a)) ≤ max s.now t →
    Yields (.referenceRunComplete t a) s (fun u =>
      (if onCascade s a then (u.ax a).start.refDue = some (0, 2) ∧ u.get (A_REF_STATE a) = s.get (A_REF_STATE a) ∧ Raises s u []
      else u.get (A_REF_STATE a) = 2 ∧ (u.ax a).start.refPhase = 0 ∧ u.get (A_POS_REF a) = satI 64 (s.get (A_POS_ACT a)) ∧
        (u.ax a).refStop = true ∧ Raises s u [(1, islProfile, 0x21)]) ∧ Frame (· ∈ .raised :: refParts a ++ profileParts a) s u))

/-- One update of the profile (R226–R234): the master as it stands, the motion within the jerk limit towards its target, the
geared reference, a stop; a move, a stop and an engagement that are written (R227, R230, R232); a following error (R229); a
lost master (R230, R233). -/
def Obligations.ProfileCommands : Prop :=
  (∀ (s : State) (t : Nat) (a : Fin 4), On s islProfile → isHost s a = true → (s.at_ t).tb % us (s.nat (A_PROF_PERIOD a)) = 0 →
    Yields (.profileUpdate t a) s (fun u =>
      let dt := profileDt s a
      let j := q16 s (A_JMAX a)
      let x := s.ax a
      let y := u.ax a
      let st := s.nat (A_PROF_STATE a)
      u.get (A_MASTER_POS a) = satI 64 (masterNow (s.at_ t) a).1 ∧ u.get (A_MASTER_SPEED a) = satI 32 (masterNow (s.at_ t) a).2 ∧
      y.sig.get 0 = posError u a ∧
      (profileLost s a = false → x.followAsk = false → x.refStop = false → x.stopping = false → x.gear.ask = false → rendering s a = false → st = 1 →
        mode s a = 1 ∨ mode s a = 2 →
        (u.nat (A_PROF_STATE a) = 1 → (0 ≤ j * dt → absR (nextAcc s a - x.acc) ≤ j * dt) ∧ y.acc = q32 (nextAcc s a) ∧
          y.vel = q32 (x.vel + nextAcc s a * dt) ∧
          y.posRef = rnd (x.posRef + (x.vel * dt + nextAcc s a * dt * dt / 2) * 4294967296)) ∧
        (u.nat (A_PROF_STATE a) ≠ 1 → u.nat (A_PROF_STATE a) = 2 ∧ y.acc = 0 ∧
          (mode s a = 2 → y.posRef = x.tPos ∧ y.vel = 0) ∧ (mode s a = 1 → y.vel = q32 (speedGoal s a (q16 s (A_DMAX a)) j)))) ∧
      (profileLost s a = false → x.followAsk = false → x.refStop = false → x.stopping = false → x.gear.ask = false → rendering s a = false → st = 5 →
        s.get (A_GEAR_NEXT_DEN a) = 0 →
        u.get (A_GEAR_STATE a) = 1 ∧ y.posRef = geared s a (masterNow (s.at_ t) a).1 ∧
        y.vel = q32 ((masterNow (s.at_ t) a).2 * ((s.get (A_GEAR_NUM a) : Rat) / s.get (A_GEAR_DEN a)))) ∧
      (profileLost s a = false → x.followAsk = false → x.stopping = true ∨ x.refStop = true → st = 1 ∨ st = 2 ∨ st = 5 →
        y.gear.engaged = false ∧ (u.nat (A_PROF_STATE a) = 3 ∨ u.nat (A_PROF_STATE a) = 4)) ∧
      ((profileLost s a = true ∧ (st = 1 ∨ st = 2 ∨ st = 5)) ∨ x.followAsk = true → rendering s a = false →
        y.gear.engaged = false ∧ (st = 5 → u.get (A_GEAR_STATE a) = 0 ∧ u.get (A_GEAR_NEXT_DEN a) = 0) ∧
        (u.nat (A_PROF_STATE a) = 3 ∧ y.follow = true ∨ u.nat (A_PROF_STATE a) = 4)) ∧
      Frame (· ∈ [.obj (A_GEAR_STATE a), .obj (A_GEAR_NUM a), .obj (A_GEAR_DEN a), .obj (A_GEAR_NEXT_DEN a), .obj (A_MASTER_POS a),
        .obj (A_MASTER_SPEED a), .obj (A_FAULT_STATE a), .raised] ++ profileParts a ++ arriveParts) s u)) ∧
  (∀ (s : State) (t : Nat) (b : By) (a : Fin 4), Writes (.moveStart t b a) s (s.at_ t) b (A_MOVE_START a) 1 (fun g u =>
    ((g.ax a).needDemand = false → mode g a = 1 → (u.ax a).tSpd = g.get (A_TARGET_SPEED a) ∧ u.get (A_PROF_STATE a) = 1) ∧
    ((g.ax a).needDemand = false → mode g a = 2 → (u.ax a).tPos = g.get (A_TARGET_POS a) ∧ u.get (A_PROF_STATE a) = 1) ∧
    ((g.ax a).needDemand = false → mode g a = 3 → (u.ax a).gear.ask = true ∧ u.get (A_PROF_STATE a) = g.get (A_PROF_STATE a)) ∧
    ((g.ax a).needDemand = true → u.ax a = g.ax a ∧ u.get (A_PROF_STATE a) = g.get (A_PROF_STATE a)) ∧
    Frame (· ∈ [.ax a, .obj (A_PROF_STATE a)]) g u)) ∧
  (∀ (s : State) (t : Nat) (b : By) (a : Fin 4), Writes (.stopWrite t b a) s (s.at_ t) b (A_STOP a) 1 (fun g u =>
    (u.ax a).stopping = true ∧
    (u.ax a).stopDec = (if (g.ax a).stopping then max (g.ax a).stopDec (g.nat (A_DMAX a)) else g.nat (A_DMAX a)) ∧
    Frame (· ∈ [.ax a]) g u)) ∧
  (∀ (s : State) (t : Nat) (a : Fin 4), On s islProfile → 16 ≤ (s.ax a).followRun → (s.ax a).level &&& lvFollow = 0 →
    Yields (.followingError t a) s (fun u =>
      (u.ax a).level = (s.ax a).level ||| lvFollow ∧ u.get (A_FAULT_STATE a) = 1 ∧ Raises s u [(4, islProfile, 0x05)] ∧
      (s.nat (A_FAULT_REACTION a) = 1 → (u.ax a).stopping = true ∧ (u.ax a).needDemand = true) ∧
      (s.nat (A_FAULT_REACTION a) = 2 → (u.ax a).followAsk = true) ∧
      Frame (· ∈ levelParts a) s u)) ∧
  (∀ (s : State) (t : Nat) (a : Fin 4), On s islProfile → 0x10 ≤ s.nat (A_GEAR_SRC a) → s.nat (A_GEAR_SRC a) ≤ 0x13 →
    3 ≤ (s.ax a).gear.missed → (s.ax a).level &&& lvMaster = 0 →
    Yields (.masterPositionLost t a) s (fun u =>
      u.get (A_MASTER_AGE a) = 3 ∧ (u.ax a).level = (s.ax a).level ||| lvMaster ∧ u.get (A_FAULT_STATE a) = 1 ∧
      Raises s u [(4, islProfile, 0x06)] ∧
      (s.nat (A_FAULT_REACTION a) ≠ 2 → (u.ax a).stopping = true ∧ s.nat (A_QSTOP_DEC a) ≤ (u.ax a).stopDec) ∧
      Frame (· ∈ .obj (A_MASTER_AGE a) :: levelParts a) s u))

/-- The generators: a step gives the value of the waveform and counts (R239, R241, R242), starts an armed run in its time
(R243), and ends one that is stopped or not permitted (R243, R244); arming and stopping that are written (R243); the end of the
duration (R241). -/
def Obligations.GeneratorCommands : Prop :=
  (∀ (s : State) (t : Nat) (i : Fin 4), On s islCapture → (s.at_ t).tb % ns (s.nat (G_STEP_NS i)) = 0 → s.nat (G_STATE i) = 2 →
    (s.gen i).stop = false → injectionBar s i = none → (∀ t0, (s.gen i).sweep = some t0 → s.nat (G_DURATION i) = 0 ∨ (s.at_ t).tb < t0 + us (s.nat (G_DURATION i))) →
    Yields (.generatorStep t i) s (fun u =>
      u.get (G_VALUE i) = (genValue (s.at_ t) i).1 ∧ (u.gen i).reg = (genValue (s.at_ t) i).2 ∧
      u.get (G_STEPS i) = counted32 (s.get (G_STEPS i)) 1 ∧ u.get (G_STATE i) = 2 ∧
      Frame (· ∈ [.gen i, .obj (G_VALUE i), .obj (G_STEPS i)] ++ arriveParts) s u)) ∧
  (∀ (s : State) (t : Nat) (i : Fin 4), On s islCapture → (s.at_ t).tb % ns (s.nat (G_STEP_NS i)) = 0 → s.nat (G_STATE i) = 1 →
    (s.gen i).stop = false → injectionBar s i = none → s.nat (G_START i) ≤ (s.at_ t).tbNs →
    Yields (.generatorStep t i) s (fun u =>
      let v := s.at_ t
      let o := genValue (v.modGen i (fun _ => ⟨prbsSeed s i, some v.now, v.tbNs, some v.tb, false⟩)) i
      u.get (G_STATE i) = 2 ∧ u.gen i = ⟨o.2, some v.now, v.tbNs, some v.tb, false⟩ ∧ u.get (G_VALUE i) = o.1 ∧
      u.get (G_STEPS i) = counted32 (s.get (G_STEPS i)) 1 ∧ Raises s u [(1, islCapture, 0x50)] ∧
      Frame (· ∈ [.gen i, .obj (G_STATE i), .obj (G_VALUE i), .obj (G_STEPS i), .raised] ++ arriveParts) s u)) ∧
  (∀ (s : State) (t : Nat) (i : Fin 4), On s islCapture → (s.at_ t).tb % ns (s.nat (G_STEP_NS i)) = 0 → genBusy s i = true →
    (s.gen i).stop = true ∨ (injectionBar s i ≠ none ∧ (s.nat (G_STATE i) = 1 → s.nat (G_START i) ≤ (s.at_ t).tbNs)) →
    Yields (.generatorStep t i) s (fun u =>
      u.get (G_STATE i) = (if (s.gen i).stop then 0 else 4) ∧ u.get (G_VALUE i) = 0 ∧ Raises s u [(1, islCapture, 0x52)] ∧
      Frame (· ∈ [.gen i, .obj (G_STATE i), .obj (G_VALUE i), .raised] ++ arriveParts) s u)) ∧
  (∀ (s : State) (t : Nat) (b : By) (i : Fin 4), Writes (.generatorArm t b i) s (s.at_ t) b (G_RUN i) 1 (fun g u =>
    (genBusy g i = false → u.get (G_STATE i) = 1 ∧ u.get (G_STEPS i) = 0 ∧ u.gen i = Gen.reset) ∧
    Frame (· ∈ [.gen i, .obj (G_RUN i), .obj (G_STATE i), .obj (G_STEPS i)]) g u)) ∧
  (∀ (s : State) (t : Nat) (b : By) (i : Fin 4), Writes (.generatorStop t b i) s (s.at_ t) b (G_RUN i) 0 (fun g u =>
    (genBusy g i = true → u.gen i = { g.gen i with stop := true }) ∧ (genBusy g i = false → u.gen i = g.gen i) ∧
    Frame (· ∈ [.gen i, .obj (G_RUN i)]) g u)) ∧
  (∀ (s : State) (t : Nat) (i : Fin 4) (t0 : Nat), On s islCapture → s.nat (G_STATE i) = 2 → (s.gen i).sweep = some t0 →
    s.nat (G_DURATION i) ≠ 0 → t0 + us (s.nat (G_DURATION i)) ≤ (s.at_ t).tb →
    Yields (.injectionDone t i) s (fun u =>
      (if s.flag (G_REPEAT i) = true ∧ (s.nat (G_TYPE i) = 1 ∨ s.nat (G_TYPE i) = 2) then
        u.gen i = { s.gen i with sweep := none } ∧ Frame (· ∈ [.gen i]) s u
      else u.get (G_STATE i) = 3 ∧ u.get (G_VALUE i) = 0 ∧ Raises s u [(1, islCapture, 0x51)]) ∧
      Frame (· ∈ [.gen i, .obj (G_STATE i), .obj (G_VALUE i), .raised]) s u))

/-- The capture unit: its claim and release (R246), an arm (R249), a tick that holds the values, records, triggers and
completes (R247–R249), and a read of the buffer (R250). -/
def Obligations.CaptureCommands : Prop :=
  (∀ (s : State) (t : Nat) (b : By), Writes (.captureClaim t b) s (s.at_ t) b C_CLAIM 1 (fun g u =>
    u.get C_CLAIM = 1 ∧ u.get C_OWNER = b.sid ∧
    (∀ d ∈ [92, 93, 94], g.nat (PW_DOM_STATE d) = 0 → u.get (PW_DOM_STATE d) = 1) ∧
    Frame (· ∈ [.obj C_CLAIM, .obj C_OWNER, .power, .obj PW_DAMP_QUEUE, .obj PW_DAMP_MAX_Q] ++
      [92, 93, 94, 123].map (fun d => .obj (PW_DOM_STATE d))) g u)) ∧
  (∀ (s : State) (t : Nat) (b : By), Writes (.captureRelease t b) s (s.at_ t) b C_CLAIM 0 (fun g u =>
    u.get C_CLAIM = 0 ∧ u.get C_OWNER = 0xFFFF ∧ (∀ i : Fin 4, genBusy g i = true → u.get (G_STATE i) = 4 ∧ u.get (G_VALUE i) = 0) ∧
    (∀ i : Fin 4, genBusy g i = false → u.get (G_STATE i) = g.get (G_STATE i)) ∧
    (1 ≤ g.nat C_STATE → g.nat C_STATE ≤ 3 → u.get C_STATE = 5 ∧ u.get C_VERSION = counted32 (g.get C_VERSION) 1) ∧
    Frame (· ∈ [.obj C_CLAIM, .obj C_OWNER, .raised, .freeCtr, .cap, .obj C_STATE, .obj C_VERSION] ++
      allAxes.flatMap (fun (i : Fin 4) => [.gen i, .obj (G_STATE i), .obj (G_VALUE i)])) g u)) ∧
  (∀ (s : State) (t : Nat) (b : By), Writes (.captureArm t b) s (s.at_ t) b C_ARM 1 (fun g u =>
    u.get C_STATE = 1 ∧ u.get C_RECORDS = 0 ∧ u.get C_TRIG_REC = 0 ∧ u.get C_TRIG_STAMP = 0 ∧ u.cap.recs = [] ∧ u.cap.by_ = b.sid ∧
    u.get C_VERSION = counted32 (g.get C_VERSION) 1 ∧
    Frame (· ∈ [.cap, .obj C_STATE, .obj C_RECORDS, .obj C_TRIG_REC, .obj C_TRIG_STAMP, .obj C_VERSION]) g u)) ∧
  (∀ (s : State) (t : Nat), On s islCapture → (s.at_ t).tb % ns (s.nat C_PERIOD) = 0 →
    Yields (.captureTick t) s (fun u =>
      u.cap.held = (s.at_ t).chanReads.1 ∧
      (∀ c : Fin 32, s.nat (C_CH_SRC c) / 4096 ≠ 8 → u.cap.held.get c = sourceValue (s.at_ t) (s.nat (C_CH_SRC c))) ∧
      (s.nat C_STATE = 0 ∨ 4 ≤ s.nat C_STATE → Frame (· ∈ .cap :: .sessions :: readParts 8) s u ∧ u.cap.recs = s.cap.recs) ∧
      Frame (· ∈ [.cap, .obj C_STATE, .obj C_RECORDS, .obj C_TRIG_REC, .obj C_TRIG_STAMP, .obj C_VERSION, .raised, .sessions] ++ readParts 8) s u)) ∧
  (∀ (s : State) (t : Nat), On s islCapture → (s.at_ t).tb % ns (s.nat C_PERIOD) = 0 → s.nat C_STATE = 3 →
    s.nat C_DECIM ≤ s.cap.ticks + 1 →
    Yields (.captureTick t) s (fun u =>
      u.cap.recs = captureRecord (s.at_ t) (s.at_ t).chanReads.1 :: s.cap.recs ∧ u.get C_RECORDS = (s.cap.recs.length + 1 : Nat) ∧ u.cap.ticks = 0 ∧
      (if s.cap.post ≤ 1 then u.get C_STATE = 4 ∧ u.get C_TRIG_REC = s.cap.pre ∧
        u.get C_VERSION = counted32 (s.get C_VERSION) 1 ∧ Raises s u [(1, islCapture, 0x54)]
      else u.get C_STATE = 3 ∧ u.cap.post = s.cap.post - 1))) ∧
  (∀ (s : State) (t : Nat), On s islCapture → (s.at_ t).tb % ns (s.nat C_PERIOD) = 0 → s.nat C_STATE = 2 →
    capTrigger (s.at_ t) s.cap.held (s.at_ t).chanReads.1 = true →
    s.cap.ticks + 1 < s.nat C_DECIM →
    Yields (.captureTick t) s (fun u =>
      u.get C_STATE = 3 ∧ u.nat C_TRIG_STAMP = (s.at_ t).tbNs ∧ u.cap.pre = s.cap.recs.length ∧
      u.cap.post = max 1 (s.nat C_DEPTH - s.nat C_PRE) ∧ Raises s u [(1, islCapture, 0x53)])) ∧
  (∀ (s : State) (t : Nat), On s islCapture → (s.at_ t).tb % ns (s.nat C_PERIOD) = 0 → s.nat C_STATE = 2 →
    capTrigger (s.at_ t) s.cap.held (s.at_ t).chanReads.1 = false →
    s.nat C_DECIM ≤ s.cap.ticks + 1 →
    Yields (.captureTick t) s (fun u =>
      u.get C_STATE = 2 ∧ u.cap.recs = (captureRecord (s.at_ t) (s.at_ t).chanReads.1 :: s.cap.recs).take (s.nat C_PRE) ∧
      u.get C_RECORDS = u.cap.recs.length)) ∧
  (∀ (s : State) (t : Nat) (b : By), readCode (s.at_ t) b.sid C_DATA = some 0 → ((s.at_ t).takeToken b.sid).1 ≠ .refused →
    readCode (paid (s.at_ t) b) b.sid C_DATA = some 0 → 4 ≤ s.nat C_STATE → 4 ≤ (paid (s.at_ t) b).nat C_STATE →
    oldValue (paid (s.at_ t) b) C_DATA = none →
    (∀ r, Catalog.find C_DATA = some r → reach (paid (s.at_ t) b) C_DATA r ≠ .atReset) →
    (∀ n, (paid (s.at_ t) b).session b.sid = some n → capUsed (paid (s.at_ t) b) n + 1024 ≤ s.nat (SS_Q_CAPTURE n.profile)) →
    Yields (.captureDataRead t b) s (fun u =>
      .result 0 (fieldAt (paid (s.at_ t) b).capBytes.1 (s.nat C_READ_OFFSET) 1024) ∈ u.outs ∧
      Frame (· ∈ .sessions :: readParts b.rq) (paid (s.at_ t) b) u))

/-- Safe Stop and monitoring. A monitoring cycle latches the counts and the words read (R254–R256) and compares the interval of Tongs B
with its own count (R440); after it outputs, gates and
status agree with the channels (R257, R260, R264), what still is judged is within the Anvil speed, has no failed check, and holds
a requested STO (R258, R277, R282); the Safe state of the other channel is adopted (R278) and left by an acknowledgement alone
(R279), and state 0 holds STO (R265) until a configuration is loaded (R299). The exchange (R255); an accepted STO input (R259),
its discrepancy (R277), the end of the brake delay (R266); the brake and local words that are written (R261, R263). -/
def Obligations.SafetyCommands : Prop :=
  (∀ (s : State) (t : Nat) (fresh pass : BitVec 2) (k : TongsIn), Powered s islTongsA →
    (s.at_ t).tb % us 50 = 0 →
    Yields (.monitoringCycle t fresh pass k) s (fun u =>
      let far : Bool := match (s.chan 1).startAt with
        | some a => decide (((s.at_ t).tb - a : Int).natAbs < 200 * (((s.at_ t).tb - a : Int) - 20 * k.ownB).natAbs)
        | none => false
      let due := s.cfgDue = true ∧ s.nat SF_CFG_STATE = 4
      let quiet := ∀ (a : Fin 4), bitOf (s.nat (SF_REQ_LOCAL a)) 10 = false ∧
        ∀ d : Fin 2, bitOf (s.cax d a).safeWord 10 = false ∧ bitOf (s.cax d a).loc 10 = false
      Agrees u ∧
      (∀ c : Fin 2, (u.chan c).counts = ((s.chan c).count :: (s.chan c).counts).take 5 ∧
        (u.chan c).brakeOpen = (if fresh.getLsbD c.val then s.flag SF_BRAKE_OPEN else (s.chan c).brakeOpen) ∧
        (u.chan c).selfBad = ((s.chan c).selfBad || !pass.getLsbD c.val || (decide (c = 1) && far)) ∧
        ∀ a : Fin 4, (u.cax c a).loc = (if fresh.getLsbD c.val then s.nat (SF_REQ_LOCAL a) else (s.cax c a).loc) ∧
          (u.cax c a).md = (if fresh.getLsbD c.val then mode s a else (s.cax c a).md) ∧
          (u.cax c a).wordSto = bitOf ((u.cax c a).safeWord ||| (u.cax c a).loc) 0) ∧
      (∀ (c : Fin 2) (a : Fin 4), Judges u c a → (u.chan c).selfBad = false ∧ copiesAgree u = true ∧
        (∀ v, (u.cax c a).v = some v → absR v ≤ u.get (SF_ANV_FE_MAX_IN a)) ∧
        (bitOf (u.cax c a).req 0 = true → (u.cax c a).sto = true)) ∧
      (quiet → ∀ (c : Fin 2) (a : Fin 4), ¬ due → (s.cax c a).st = 3 ∨
        (Judges s c a ∧ ((s.chan c).peer.get a).st = 3 ∧ (s.cax c a).causeAt < ((s.chan c).peer.get a).causeAt) → (u.cax c a).st = 3) ∧
      (∀ (c : Fin 2) (a : Fin 4), (s.cax c a).st = 0 → ¬ due → (u.cax c a).st = 0 ∧ (u.cax c a).sto = true) ∧
      (due → u.cfgDue = false ∧ ∀ (c : Fin 2) (a : Fin 4), (u.cax c a).st ≠ 0) ∧ (¬ due → u.cfgDue = s.cfgDue) ∧
      (u.chan 1).startAt = some (s.at_ t).tb ∧
      (k.upset ≠ none → ∀ b ∈ anvilBounds, u.get b.readback = u.bound b) ∧
      Frame (· ∈ [.raised, .obj SF_LAST_CODE, .freeCtr, .cfgDue] ++ portParts 6 ++ portParts 7 ++ safeParts ++
        (if k.upset.isSome then envelopeParts else [])) s u)) ∧
  (∀ (s : State) (t : Nat) (fresh pass : BitVec 2) (n : Nat), Powered s islTongsA → (s.at_ t).tb % us 50 ≠ 0 →
    Yields (.monitoringCycle t fresh pass ⟨none, n⟩) s (fun u => Frame (fun _ => False) s u)) ∧
  (∀ (s : State) (t : Nat) (c : Fin 2), On s (38 + c.val) →
    Yields (.channelExchange t c) s (fun u =>
      (u.chan (1 - c)).peer = (s.chan c).axes ∧ (u.chan (1 - c)).peerCount = (s.chan c).counts.headD 0 ∧
      (u.chan (1 - c)).peerBrake = (s.chan c).brakeOpen ∧ (u.chan (1 - c)).axes = (s.chan (1 - c)).axes ∧ u.chan c = s.chan c ∧
      Frame (· ∈ [.tongs]) s u)) ∧
  (∀ (s : State) (t : Nat) (c : Fin 2) (high : Bool),
    Yields (.stoInputAccepted t c high) s (fun u =>
      (u.chan c).stoIn = high ∧ (u.chan (1 - c)).stoIn = (s.chan (1 - c)).stoIn ∧
      u.nat SF_STO_IN = (u.chan 0).stoIn.toNat + 2 * (u.chan 1).stoIn.toNat ∧
      u.discAt = (if (u.chan 0).stoIn = (u.chan 1).stoIn then none else some (s.discAt.getD (max s.now t))) ∧
      u.disc = (s.disc && !((u.chan 0).stoIn && (u.chan 1).stoIn)) ∧
      (∀ a : Fin 4, high = true → bitOf (s.cfgNOf c SF_STO_AXES) a.val = true → Judges s c a →
        (u.cax c a).sto = true ∧ (u.ax a).safe.sto = true) ∧
      Agrees u ∧
      Frame (· ∈ [.raised, .freeCtr, .obj SF_STO_IN, .obj SF_LAST_CODE, .discAt, .disc] ++ safeParts) s u)) ∧
  (∀ (s : State) (t d : Nat), Powered s islTongsA → s.discAt = some d → d + ms (s.cfgN SF_STO_DISC_TIME) ≤ max s.now t → s.disc = false →
    Yields (.stoDiscrepancy t) s (fun u =>
      u.disc = true ∧
      (∀ (c : Fin 2) (a : Fin 4), bitOf (s.cfgNOf c SF_STO_AXES) a.val = true → Judges s c a →
        (u.cax c a).st = 3 ∧ (u.cax c a).cause = 0x0A ∧ (u.cax c a).sto = true) ∧
      (∀ (c : Fin 2) (a : Fin 4), bitOf (s.cfgNOf c SF_STO_AXES) a.val = false → u.cax c a = s.cax c a) ∧
      Agrees u ∧ Frame (· ∈ [.raised, .freeCtr, .obj SF_LAST_CODE, .disc] ++ safeParts) s u)) ∧
  (∀ (s : State) (t : Nat), Powered s islTongsA →
    s.disc = true ∨ s.discAt.all (fun d => decide (max s.now t < d + ms (s.cfgN SF_STO_DISC_TIME))) = true →
    Yields (.stoDiscrepancy t) s (fun u => Frame (fun _ => False) s u)) ∧
  (∀ (s : State) (t : Nat) (a : Fin 4), Powered s islTongsA →
    Yields (.sbcDelayExpiry t a) s (fun u =>
      (∀ (c : Fin 2) (due : Nat), (s.cax c a).sbcAt = some due →
        (if due ≤ max s.now t then (u.cax c a).sto = true ∧ (u.cax c a).sbcAt = none ∧ (u.ax a).safe.sto = true
        else (u.cax c a).sbcAt = some due)) ∧
      (∀ c : Fin 2, (s.cax c a).sbcAt = none → u.cax c a = s.cax c a) ∧
      (∀ (c : Fin 2) (b : Fin 4), b ≠ a → u.cax c b = s.cax c b) ∧
      Agrees u ∧ Frame (· ∈ [.raised, .freeCtr, .obj SF_LAST_CODE] ++ safeParts) s u)) ∧
  (∀ (s : State) (t : Nat) (b : By) (on : Bool), Writes (.brakeOpenWrite t b on) s (s.at_ t) b SF_BRAKE_OPEN (flagInt on) (fun g u =>
    u.flag SF_BRAKE_OPEN = on ∧ Frame (· ∈ [.obj SF_BRAKE_OPEN]) g u)) ∧
  (∀ (s : State) (t : Nat) (b : By) (a : Fin 4) (w : BitVec 16), Writes (.localWordWrite t b a w) s (s.at_ t) b (SF_REQ_LOCAL a) w.toNat (fun g u =>
    u.nat (SF_REQ_LOCAL a) = w.toNat ∧ Frame (· ∈ [.obj (SF_REQ_LOCAL a)]) g u))

/-- Commissioning: opened, every axis enters state 0 (R296); sealed and unsealed (R295); the check values (R294, R295); the
confirmation and the storing, after which the channels load the configuration (R295, R299); abandoned, and the stored
configuration read back (R297). -/
def Obligations.ConfigCommands : Prop :=
  (∀ (s : State) (t : Nat) (b : By), Writes (.commissioningOpen t b) s (s.at_ t) b SF_COMMISSION 1 (fun g u =>
    (¬ (g.nat SF_CFG_OWNER = b.sid ∧ 1 ≤ g.nat SF_CFG_STATE ∧ g.nat SF_CFG_STATE ≤ 3) →
      u.get SF_CFG_STATE = 1 ∧ u.get SF_CFG_OWNER = b.sid ∧ u.get SF_COMMISSION = 1 ∧ u.cfgDue = false ∧
      (∀ (c : Fin 2) (a : Fin 4), (u.cax c a).st = 0 ∧ (u.cax c a).sto = true) ∧ Agrees u) ∧
    Frame (· ∈ [.raised, .obj SF_LAST_CODE, .obj SF_CFG_STATE, .obj SF_CFG_OWNER, .obj SF_COMMISSION, .cfgDue] ++
      safeParts) g u)) ∧
  (∀ (s : State) (t : Nat) (b : By), Writes (.commissioningAbandon t b) s (s.at_ t) b SF_COMMISSION 0 (fun g u =>
    (1 ≤ g.nat SF_CFG_STATE → g.nat SF_CFG_STATE ≤ 3 →
      u.get SF_COMMISSION = 0 ∧ u.get SF_CFG_OWNER = 0xFFFF ∧ u.get SF_CFG_SEAL = 0 ∧
      (∀ k ∈ sfyKeys, u.get k = valIn (((bestImage g).map Image.vals).getD []) k) ∧
      (bestImage g = none → u.get SF_CFG_STATE = 0 ∧ u.rereading = g.rereading) ∧
      (bestImage g ≠ none → u.get SF_CFG_STATE = g.get SF_CFG_STATE ∧ u.rereading = true)) ∧
    Frame (· ∈ [.raised, .freeCtr, .obj SF_LAST_CODE, .obj SF_CFG_STATE, .obj SF_CFG_OWNER, .obj SF_COMMISSION, .obj SF_CFG_SEAL,
      .rereading] ++ sfyKeys.map .obj) g u)) ∧
  (∀ (s : State) (t : Nat) (b : By), Writes (.seal t b) s (s.at_ t) b SF_CFG_SEAL 1 (fun g u =>
    (g.nat SF_CFG_STATE = 1 → u.get SF_CFG_STATE = 2 ∧ u.get SF_CFG_SEAL = 1) ∧
    Frame (· ∈ [.obj SF_CFG_STATE, .obj SF_CFG_SEAL]) g u)) ∧
  (∀ (s : State) (t : Nat) (b : By), Writes (.unseal t b) s (s.at_ t) b SF_CFG_SEAL 0 (fun g u =>
    (g.nat SF_CFG_STATE = 3 → u.get SF_CFG_STATE = 1 ∧ u.get SF_CFG_SEAL = 0) ∧
    Frame (· ∈ [.obj SF_CFG_STATE, .obj SF_CFG_SEAL]) g u)) ∧
  (∀ (s : State) (t : Nat) (badA badB : Option (BitVec 32)), Powered s islTongsA → s.rereading = false → s.nat SF_CFG_STATE = 2 →
    Yields (.checkValueComputed t badA badB) s (fun u =>
      (badA = none → u.nat SF_CRC_A = crc32c (serialise s.get)) ∧ (badB = none → u.nat SF_CRC_B = crc32c (serialise s.get)) ∧
      (∀ w, badA = some w → u.nat SF_CRC_A = w.toNat) ∧ (∀ w, badB = some w → u.nat SF_CRC_B = w.toNat) ∧
      u.get SF_CFG_STATE = 3 ∧ Frame (· ∈ [.obj SF_CRC_A, .obj SF_CRC_B, .obj SF_CFG_STATE]) s u)) ∧
  (∀ (s : State) (t : Nat) (badA badB : Option (BitVec 32)) (m : Image), Powered s islTongsA → s.rereading = true →
    bestImage s = some m →
    Yields (.checkValueComputed t badA badB) s (fun u =>
      u.rereading = false ∧
      (if (badA.map BitVec.toNat).getD (checkValue m.vals) = m.crc ∧ (badB.map BitVec.toNat).getD (checkValue m.vals) = m.crc then
        u.get SF_CFG_STATE = 4 ∧ u.get SF_CRC_CONFIRMED = m.crc ∧ u.cfgDue = true ∧ (∀ c : Fin 2, (u.chan c).conf = m.vals) ∧
        (∀ b ∈ anvilBounds, u.get b.readback = valIn m.vals b.obj) ∧ Agrees u
      else u.get SF_CFG_STATE = 5 ∧ Frame (· ∈ [.rereading, .raised, .freeCtr, .obj SF_LAST_CODE, .obj SF_CFG_STATE]) s u) ∧
      Frame (· ∈ [.rereading, .cfgDue, .freeCtr, .obj SF_CRC_CONFIRMED, .obj SF_CFG_STATE] ++ envelopeParts ++ safeParts) s u)) ∧
  (∀ (s : State) (t : Nat) (b : By) (v : BitVec 32), Writes (.crcConfirm t b v) s (s.at_ t) b SF_CRC_CONFIRM v.toNat (fun g u =>
    u.get SF_CFG_STATE = 4 ∧ u.get SF_COMMISSION = 0 ∧ u.get SF_CFG_SEAL = 0 ∧ u.get SF_CFG_OWNER = 0xFFFF ∧
    u.confirming = some (g.nat SF_CRC_A, editedVals g) ∧
    Frame (· ∈ [.obj SF_CFG_STATE, .obj SF_COMMISSION, .obj SF_CFG_SEAL, .obj SF_CFG_OWNER, .confirming]) g u)) ∧
  (∀ (s : State) (t crc : Nat) (vs : List (Nat × Int)), Powered s islTongsA → s.confirming = some (crc, vs) →
    Yields (.configurationStored t) s (fun u =>
      u.images = ⟨s.nat SF_CFG_GEN + 1, crc, vs⟩ :: (bestImage s).toList ∧ u.confirming = none ∧
      (∀ c : Fin 2, (u.chan c).conf = vs) ∧ u.cfgDue = true ∧
      u.get SF_CRC_CONFIRMED = crc ∧ u.nat SF_CFG_GEN = s.nat SF_CFG_GEN + 1 ∧
      (∀ b ∈ anvilBounds, u.get b.readback = valIn vs b.obj) ∧
      (∀ (c : Fin 2) (a : Fin 4), (u.cax c a).safeWord = firstWord u c a) ∧ Agrees u ∧
      Frame (· ∈ [.images, .confirming, .cfgDue, .freeCtr, .obj SF_CRC_CONFIRMED, .obj SF_CFG_GEN] ++ envelopeParts ++
        safeParts) s u))

/-- Safe telegrams, in each channel: a copy is discarded without SF_TG_ENABLE, counts where it is not valid, a duplicate or out of
sequence (R303); an accepted one waits and adds its stops (R305), or pairs with its twin and gives the control words (R304), or is
a mismatch (R304); the status telegrams (R302); the watchdog and a silent network put the axes in the Safe state (R306). -/
def Obligations.TelegramCommands : Prop :=
  (∀ (s : State) (t : Nat) (p : Fin 2) (bs : Bytes) (c : Fin 2), On s (42 + p.val) →
    Yields (.controlTelegram t p bs) s (fun u =>
      let sq := ofLe (fieldAt bs 8 4)
      let q := (s.chan c).ports.get p
      let q' := (u.chan c).ports.get p
      let d := (sq + 4294967296 - q.sp.getD 0) % 4294967296
      let fits := q.sp = none ∨ q.timeout = true ∨ (1 ≤ d ∧ d ≤ 16)
      let twin := ((s.chan c).ports.get (1 - p)).copies.find? (fun e => decide (e.1 = sq))
      let bad : Nat := if p = 0 then SF_TG_BAD0 else SF_TG_BAD1
      let words := fun (f : Nat → Nat → Nat) => ∀ a : Fin 4,
        (u.cax c a).safeWord = if bitOf (s.cfgNOf c SF_TG_AXES) a.val then f (s.cax c a).safeWord (wordIn bs a) else (s.cax c a).safeWord
      (s.cfgOf c SF_TG_ENABLE ≠ 1 → u.chan c = s.chan c ∧ (c = 0 → u.get bad = s.get bad)) ∧
      (s.cfgOf c SF_TG_ENABLE = 1 → telegramValid s c bs = false →
        u.chan c = s.chan c ∧ (c = 0 → u.get bad = counted32 (s.get bad) 1)) ∧
      (s.cfgOf c SF_TG_ENABLE = 1 → telegramValid s c bs = true →
        q'.lastAt = max s.now t ∧ (c = 0 → u.get bad = s.get bad) ∧
        (¬ fits → d = 0 → q'.sp = q.sp ∧ words (fun w _ => w) ∧ (c = 0 → u.get SF_TG_DUP = counted32 (s.get SF_TG_DUP) 1)) ∧
        (¬ fits → d ≠ 0 → q'.sp = some sq ∧ q'.seqFault = true ∧ words (fun w _ => w)) ∧
        (fits → q'.sp = some sq ∧ q'.timeout = false ∧
          (twin = none → q'.copies = (sq, bs.take 24) :: q.copies ∧ words (fun w n => w ||| (n &&& 0xF))) ∧
          (∀ e, twin = some e → e.2 = bs.take 24 →
            (u.chan c).pairedAt = some (max s.now t) ∧ (u.chan c).pairedSeq = sq ∧ (u.chan c).wdog = false ∧ words (fun _ n => n) ∧
            (c = 0 → u.nat SF_TG_SEQ_RX = sq)) ∧
          (∀ e, twin = some e → e.2 ≠ bs.take 24 → (u.chan c).mismatch = some sq ∧ words (fun w _ => w) ∧
            (c = 0 → u.get SF_TG_MISMATCH = counted32 (s.get SF_TG_MISMATCH) 1)))) ∧
      (∀ a : Fin 4, u.nat (SF_REQ_SAFE a) = (u.cax 0 a).safeWord) ∧
      Frame (· ∈ [.tongs, .obj bad, .obj SF_TG_DUP, .obj SF_TG_SEQ_RX, .obj SF_TG_MISMATCH, .obj SF_TG_STATE] ++
        allAxes.map (fun (a : Fin 4) => .obj (SF_REQ_SAFE a))) s u)) ∧
  (∀ (s : State) (t : Nat), Powered s islTongsA → s.cfg SF_TG_ENABLE = 1 → (s.at_ t).tb % us (s.cfgN SF_TG_CYCLE) = 0 →
    Yields (.statusTelegram t) s (fun u =>
      let sq := if s.nat SF_TG_SEQ_TX = 0xFFFFFFFF then 1 else s.nat SF_TG_SEQ_TX + 1
      u.nat SF_TG_SEQ_TX = sq ∧ .telegram 0 (statusTelegram s 0 sq) 64 ∈ u.outs ∧ .telegram 1 (statusTelegram s 1 sq) 64 ∈ u.outs ∧
      Frame (· ∈ [.obj SF_TG_SEQ_TX]) s u)) ∧
  (∀ (s : State) (t : Nat), Powered s islTongsA → (s.at_ t).tb % us 50 = 0 → s.nat SF_CFG_STATE = 4 →
    (∀ c : Fin 2, s.cfgOf c SF_TG_ENABLE = 1 ∧ (s.chan c).mismatch = none ∧ (∀ p : Fin 2, ((s.chan c).ports.get p).seqFault = false) ∧
      (s.chan c).pairedAt.any (fun i => decide (i + ms (s.cfgNOf c SF_TG_WATCHDOG) ≤ max s.now t)) = true) →
    Yields (.telegramWatchdog t) s (fun u =>
      (∀ (c : Fin 2) (a : Fin 4), bitOf (s.cfgNOf c SF_TG_AXES) a.val = true → Judges s c a →
        (u.cax c a).st = 3 ∧ (u.cax c a).cause = 0x20 ∧ (u.cax c a).react = s.cfgNOf c SF_TG_REACTION ∧
        ((u.cax c a).react ≠ 1 → (u.cax c a).sto = true)) ∧
      (∀ c : Fin 2, (u.chan c).wdog = true) ∧ bitOf (u.nat SF_TG_STATE) 3 = true ∧ Agrees u ∧
      Frame (· ∈ [.raised, .freeCtr, .obj SF_LAST_CODE] ++ safeParts) s u)) ∧
  (∀ (s : State) (t : Nat) (p : Fin 2), Powered s islTongsA → (s.at_ t).tb % us 50 = 0 → s.nat SF_CFG_STATE = 4 →
    (∀ c : Fin 2, s.cfgOf c SF_TG_ENABLE = 1 ∧ (s.chan c).mismatch = none ∧ (∀ q : Fin 2, ((s.chan c).ports.get q).seqFault = false) ∧
      (s.chan c).pairedAt.any (fun i => decide (i + ms (s.cfgNOf c SF_TG_WATCHDOG) ≤ max s.now t)) = false ∧
      ((s.chan c).ports.get p).lastAt + ms (s.cfgNOf c SF_TG_GRACE) ≤ max s.now t ∧
      max s.now t < ((s.chan c).ports.get (1 - p)).lastAt + ms (s.cfgNOf c SF_TG_GRACE) ∧
      ((s.chan c).ports.get (1 - p)).runAt + ms (s.cfgNOf c SF_TG_GRACE) ≤ max s.now t) →
    Yields (.singleNetworkTimeout t) s (fun u =>
      (∀ (c : Fin 2) (a : Fin 4), bitOf (s.cfgNOf c SF_TG_AXES) a.val = true → Judges s c a →
        (u.cax c a).st = 3 ∧ (u.cax c a).cause = 0x21 + p.val ∧ (u.cax c a).react = s.cfgNOf c SF_TG_REACTION ∧
        ((u.cax c a).react ≠ 1 → (u.cax c a).sto = true)) ∧
      (∀ c : Fin 2, ((u.chan c).ports.get p).timeout = true) ∧ bitOf (u.nat SF_TG_STATE) p.val = true ∧ Agrees u ∧
      Frame (· ∈ [.raised, .freeCtr, .obj SF_LAST_CODE] ++ safeParts) s u))

/-- Requests for one object of this device: a write that every check lets pass has the effect of its object and nothing else
(R321, R325); a read answers the value, zeros for a write-only object (R313, R325), a describe request the descriptor (R316);
subscriptions are taken and ended (R338). -/
def Obligations.ObjectCommands : Prop :=
  (∀ (s : State) (t : Nat) (b : By) (dev : BitVec 8) (key : BitVec 24) (bs : Bytes) (r : ObjRow), dev.toNat = s.nat DV_ADDRESS →
    Catalog.find key.toNat = some r → keySlotAt key.toNat = none → accepts (s.at_ t) b key.toNat bs = true →
    Yields (.objectWrite t b dev key bs) s (fun u =>
      let g := paid (s.at_ t) b
      let w := cleaned r bs
      .result 0 [] ∈ u.outs ∧
      let n := if r.ty.long then w.length else r.ty.size
      Frame (fun _ => False) (((ready (s.at_ t) b key.toNat n).effect b g.tbNs (domainsOf g b.sid) key.toNat w
        (if r.ty.long then w.length else r.ty.value w)).judgeWritten (g.transfers b.rq n) [key.toNat]) u)) ∧
  (∀ (s : State) (t : Nat) (b : By) (dev : BitVec 8) (a : Fin 4) (v : BitVec 32), dev.toNat = s.nat DV_ADDRESS →
    accepts (s.at_ t) b (A_TARGET_SPEED a) (le 4 v.toInt) = true →
    Yields (.objectWrite t b dev (BitVec.ofNat 24 (A_TARGET_SPEED a)) (le 4 v.toInt)) s (fun u =>
      u.get (A_TARGET_SPEED a) = v.toInt ∧
      Frame (· ∈ [.obj (A_TARGET_SPEED a), .txs] ++ portParts b.rq) (paid (s.at_ t) b) u)) ∧
  (∀ (s : State) (t : Nat) (b : By) (dev : BitVec 8) (key : BitVec 24) (r : ObjRow), dev.toNat = s.nat DV_ADDRESS →
    Catalog.find key.toNat = some r → r.ty.long = false → served (s.at_ t) b.sid key.toNat = true →
    ((s.at_ t).takeToken b.sid).1 ≠ .refused → readCode (paid (s.at_ t) b) b.sid key.toNat = some 0 →
    (reach (paid (s.at_ t) b) key.toNat r = .whole ∨ r.acc = .wo) → oldValue (paid (s.at_ t) b) key.toNat = none →
    Yields (.readRecord t b dev key) s (fun u =>
      .result 0 (if r.acc = .wo then zeros r.ty.size else le r.ty.size ((paid (s.at_ t) b).scalar b.sid key.toNat).1) ∈ u.outs ∧
      Frame (· ∈ [.freeCtr] ++ portParts b.rq) (paid (s.at_ t) b) u)) ∧
  (∀ (s : State) (t : Nat) (b : By) (dev : BitVec 8) (key : BitVec 24) (r : ObjRow), dev.toNat = s.nat DV_ADDRESS →
    Catalog.find key.toNat = some r → served (s.at_ t) b.sid key.toNat = true → served (paid (s.at_ t) b) b.sid key.toNat = true →
    ((s.at_ t).takeToken b.sid).1 ≠ .refused →
    Yields (.describeRecord t b dev key) s (fun u =>
      .result 0 (descriptor key.toNat r) ∈ u.outs ∧ Frame (fun _ => False) (paid (s.at_ t) b) u)) ∧
  (∀ (s : State) (t : Nat) (b : By) (dev : BitVec 8) (key : BitVec 24) (bs : Bytes) (n : Session), dev.toNat = s.nat DV_ADDRESS →
    served (s.at_ t) b.sid key.toNat = true → ((s.at_ t).takeToken b.sid).1 ≠ .refused → readCode (paid (s.at_ t) b) b.sid key.toNat = some 0 →
    bs.length = 4 → 1000 ≤ ofLe bs → ofLe bs ≤ 1000000 → (paid (s.at_ t) b).session b.sid = some n →
    (n.subs.filter (fun e => decide (e.1 ≠ dev.toNat * 16777216 + key.toNat))).length < 16 →
    Yields (.subscribeRecord t b dev key bs) s (fun u =>
      .result 0 [] ∈ u.outs ∧ u.session b.sid = some { n with
        subs := n.subs.filter (fun e => decide (e.1 ≠ dev.toNat * 16777216 + key.toNat)) ++ [(dev.toNat * 16777216 + key.toNat, ofLe bs, 0)] } ∧
      Frame (· ∈ [.sessions]) (paid (s.at_ t) b) u)) ∧
  (∀ (s : State) (t : Nat) (b : By) (dev : BitVec 8) (key : BitVec 24) (n : Session), dev.toNat = s.nat DV_ADDRESS →
    served (s.at_ t) b.sid key.toNat = true → ((s.at_ t).takeToken b.sid).1 ≠ .refused → readCode (paid (s.at_ t) b) b.sid key.toNat = some 0 →
    (paid (s.at_ t) b).session b.sid = some n →
    Yields (.unsubscribeRecord t b dev key) s (fun u =>
      .result 0 [] ∈ u.outs ∧
      u.session b.sid = some { n with subs := n.subs.filter (fun e => decide (e.1 ≠ dev.toNat * 16777216 + key.toNat)) } ∧
      Frame (· ∈ [.sessions]) (paid (s.at_ t) b) u))

/-- Sessions begin: an OPEN that R560 admits holds an identifier and is challenged, a CONFIRM in time opens it (R340), a late
one frees it (R340); a NOTIFY leaves for what is due (R338). -/
def Obligations.SessionOpening : Prop :=
  (∀ (s : State) (t : Nat) (p : Fin 3) (src bs : Bytes) (f : AppF) (id : Nat), On s islCrypto → s.power.service = true →
    AppF.parse p bs = some f → f.ty = 1 → f.pay.length = 20 → numAt f.pay 0 2 < 64 → ((s.at_ t).countOpen p).1 = true →
    s.flag (SS_KEY_EN (numAt f.pay 0 2)) = true → tagRight (s.blob (SS_KEY (numAt f.pay 0 2))) bs = true →
    openCode s p (numAt f.pay 0 2) = 0 → freeId s = some id →
    Yields (.openFrame t p src bs) s (fun u =>
      let slot := numAt f.pay 0 2
      let key := s.blob (SS_KEY slot)
      let nd := le 8 s.free.1 ++ le 8 s.free.2.free.1
      let nc := fieldAt f.pay 4 16
      u.get SS_COUNT = u.sessions.length ∧
      (∃ n, u.session id = some n ∧ n.port = p.val ∧ n.slot = some slot ∧ n.opening = some (max s.now t) ∧
        n.roles = s.nat (SS_KEY_ROLES slot) ∧ n.profile = s.nat (SS_KEY_PROFILE slot) ∧
        n.key = cmac key (le 1 1 ++ nc ++ nd ++ le 2 id ++ le 2 slot)) ∧
      (p.val < 2 → .app p.val src (appFrame key 0x02 0xFFFF 0 (le 2 id ++ zeros 2 ++ nc ++ nd)) 64 ∈ u.outs) ∧
      Frame (· ∈ [.opens, .freeCtr, .sessions, .best, .bestAt, .hostOut, .obj SS_COUNT, .obj SS_GUAR_SUM, .obj SS_ROUTES]) s u)) ∧
  (∀ (s : State) (t : Nat) (p : Fin 3) (src bs : Bytes) (f : AppF) (n : Session) (slot : Fin 64) (i : Nat), On s islCrypto → Arrives s p bs 0x03 f n →
    n.slot = some slot.val → n.opening = some i → max s.now t ≤ i + ms 100 →
    Yields (.confirmFrame t p src bs) s (fun u =>
      (∃ m, u.session f.sid = some m ∧ m.opening = none ∧ m.roles = s.nat (SS_KEY_ROLES slot) ∧ m.shigh = f.seq ∧ m.addr = src) ∧
      (p.val < 2 → .app p.val src (appFrame n.key 0x04 f.sid (nextSent n.sent) (le 1 (s.nat (SS_KEY_ROLES slot)) ++ le 1 n.profile ++
        le 2 (s.get (SS_Q_IDLE n.profile)))) 64 ∈ u.outs) ∧
      Raises s u [(0xA, islCrypto, 0x01)] ∧ Frame (· ∈ [.sessions, .hostOut, .raised]) s u)) ∧
  (∀ (s : State) (t sid : Nat) (n : Session) (i : Nat), On s islCrypto → s.session sid = some n → n.opening = some i → i + ms 100 ≤ max s.now t →
    Yields (.openingTimeout t sid) s (fun u => u.session sid = none ∧
      (sid < 0x07FD → AL.find u.freed sid = some (max s.now t)) ∧ Frame (· ∈ .outs :: closeParts) s u)) ∧
  (∀ (s : State) (t sid : Nat) (n : Session), s.session sid = some n → n.port ≤ 2 → n.opening = none → (s.at_ t).tb % 5 = 0 →
    On s (if n.port = 2 then islHost else 42 + n.port) → (∀ e ∈ n.subs, (s.at_ t).tbNs % (1000 * e.2.1) ≠ 0) →
    Yields (.notifyFrame t sid) s (fun u => Frame (fun _ => False) s u)) ∧
  (∀ (s : State) (t sid : Nat) (n : Session) (e : Nat × Nat × Nat), s.session sid = some n → n.port < 2 → n.bare = false →
    n.opening = none → (s.at_ t).tb % 5 = 0 → On s (42 + n.port) → n.subs = [e] → (s.at_ t).tbNs % (1000 * e.2.1) = 0 →
    ((s.at_ t).readObj sid (2 + n.port) (e.1 % 16777216)).1 = some 0 →
    Yields (.notifyFrame t sid) s (fun u =>
      .app n.port n.addr (appFrame n.key 0x30 sid (nextSent n.sent) (respRecord ⟨5, e.2.2, e.1 / 16777216, e.1 % 16777216, [], none⟩ 0
        ((s.at_ t).readObj sid (2 + n.port) (e.1 % 16777216)).2.1)) 64 ∈ u.outs ∧
      Frame (· ∈ [.sessions, .hostOut, .freeCtr] ++ portParts (2 + n.port)) s u))

/-- Frames of an open session: a malformed REQUEST is answered with 0x15 (R339), another is queued with a token paid for each
record (R339, R348) or, on the host port, executed at once (R328); a request that a core pair takes is executed and answered
(R504); KEEPALIVE is answered and CLOSE ends the session (R340, R353); a routed request opens a proxy or ends it, and a routed
response goes to the session that asked (R347). -/
def Obligations.RequestFrames : Prop :=
  (∀ (s : State) (t : Nat) (p : Fin 3) (src bs : Bytes) (f : AppF) (n : Session), On s islCrypto → Arrives s p bs 0x10 f n →
    n.opening = none → n.bare = false → (parseRecs clientOps 33 f.pay).getD [] = [] →
    Yields (.requestFrame t p src bs) s (fun u =>
      (p.val < 2 → .app p.val src (appFrame n.key 0x7F f.sid (nextSent n.sent) (le 1 0x15 ++ zeros 3)) 64 ∈ u.outs) ∧
      (∃ m, u.session f.sid = some m ∧ m.shigh = f.seq ∧ m.lastAt = max s.now t ∧ m.tokens = n.tokens) ∧
      Frame (· ∈ [.sessions, .hostOut]) s u)) ∧
  (∀ (s : State) (t : Nat) (p : Fin 3) (src bs : Bytes) (f : AppF) (n : Session) (recs : List Rec), On s islCrypto →
    Arrives s p bs 0x10 f n → p.val < 2 → n.opening = none → parseRecs clientOps 33 f.pay = some recs → 1 ≤ recs.length →
    recs.length ≤ 32 → (recs.length : Rat) ≤ tokensNow (s.at_ t) n →
    (s.queue.map AppReq.left).sum + s.heldW.length + recs.length ≤ 4096 →
    Yields (.requestFrame t p src bs) s (fun u =>
      ⟨f.sid, f.seq, (s.at_ t).tbNs, n.domains, recs, true⟩ ∈ u.queue ∧
      (∃ m, u.session f.sid = some m ∧ m.shigh = f.seq ∧ m.tokens = tokensNow (s.at_ t) n - recs.length) ∧
      Frame (· ∈ [.sessions, .best, .bestAt, .queue, .flights, .fw, .naz, .can 0, .can 1, .hostOut]) s u)) ∧
  (∀ (s : State) (t : Nat) (src bs : Bytes) (f : AppF) (n : Session) (r : Rec) (a : Fin 4), On s islCrypto →
    Arrives s 2 bs 0x10 f n → n.opening = none → parseRecs clientOps 33 f.pay = some [r] → r.op = 1 → r.dev = s.nat DV_ADDRESS →
    r.key = A_TARGET_SPEED a → 1 ≤ tokensNow (s.at_ t) n → s.queue = [] → s.flights = [] → s.heldW = [] → s.hostOut.length < 16 →
    readCode (s.at_ t) f.sid (A_TARGET_SPEED a) = some 0 → oldValue s (A_TARGET_SPEED a) = none →
    Yields (.requestFrame t 2 src bs) s (fun u =>
      u.hostOut = s.hostOut ++ [hostWords (appFrame n.key 0x11 f.sid (nextSent n.sent)
        (le 4 f.seq ++ respRecord r 0 (le 4 (s.get (A_TARGET_SPEED a)))))] ∧
      Frame (· ∈ [.sessions, .best, .bestAt, .fw, .hostOut] ++ portParts 5) s u)) ∧
  (∀ (s : State) (t : Nat) (i : Fin 2) (q : AppReq) (n : Session) (r : Rec) (a : Fin 4), On s (40 + i.val) →
    bitOf (s.nat FW_PAIRS) i.val = true → s.fw.handing = 0 → s.power.service = true → s.queue = [q] → q.recs = [r] →
    r.code = none → s.flights = [⟨q.sid, q.seq, [none], [r], []⟩] → s.session q.sid = some n → n.port < 2 → n.bare = false →
    r.op = 1 → r.dev = s.nat DV_ADDRESS → r.key = A_TARGET_SPEED a → s.heldW = [] → s.naz.held = [] →
    readCode (s.at_ t) q.sid (A_TARGET_SPEED a) = some 0 → oldValue s (A_TARGET_SPEED a) = none →
    Yields (.requestServed t i) s (fun u =>
      .app n.port n.addr (appFrame n.key 0x11 q.sid (nextSent n.sent)
        (le 4 q.seq ++ respRecord r 0 (le 4 (s.get (A_TARGET_SPEED a))))) 64 ∈ u.outs ∧
      u.queue = [] ∧ u.flights = [] ∧ u.fw.takenAt = max s.now t ∧
      Frame (· ∈ [.sessions, .fw, .queue, .flights] ++ portParts i.val) s u)) ∧
  (∀ (s : State) (t : Nat) (i : Fin 2), s.queue = [] → On s (40 + i.val) →
    Yields (.requestServed t i) s (fun u => Frame (fun _ => False) s u)) ∧
  (∀ (s : State) (t : Nat) (p : Fin 3) (src bs : Bytes) (f : AppF) (n : Session), On s islCrypto → Arrives s p bs 0x20 f n →
    n.opening = none → n.bare = false →
    Yields (.keepaliveFrame t p src bs) s (fun u =>
      (p.val < 2 → .app p.val src (appFrame n.key 0x20 f.sid (nextSent n.sent) []) 64 ∈ u.outs) ∧
      (∃ m, u.session f.sid = some m ∧ m.shigh = f.seq ∧ m.lastAt = max s.now t ∧ m.addr = src) ∧
      Frame (· ∈ [.sessions, .hostOut]) s u)) ∧
  (∀ (s : State) (t : Nat) (p : Fin 3) (src bs : Bytes) (f : AppF) (n : Session), On s islCrypto → Arrives s p bs 0x21 f n →
    n.opening = none → n.bare = false →
    Yields (.closeFrame t p src bs) s (fun u => u.session f.sid = none ∧
      (f.sid < 0x07FD → AL.find u.freed f.sid = some (max s.now t)) ∧ Frame (· ∈ closeParts) s u)) ∧
  (∀ (s : State) (t : Nat) (p : Fin 2) (bs : Bytes) (f : NazF) (recs : List Rec) (id : Nat), On s (islNaz p) →
    Heard s p nkRequest bs f → parseRecs (opJoin :: clientOps) 34 (f.payload.drop 8) = some recs → recs ≠ [] →
    (∀ r ∈ recs, r.op ≠ opJoin) → proxyOf s (numAt f.payload 0 2) = none → freeId s = some id →
    guarSum s + rateOf s (numAt f.payload 3 1 % 16) ≤ 150000 → recs.length ≤ burstOf s (numAt f.payload 3 1 % 16) →
    (s.queue.map AppReq.left).sum + s.heldW.length + recs.length ≤ 4096 →
    Yields (.routedRequest t p bs) s (fun u =>
      (∃ m, u.session id = some m ∧ m.port = 5 ∧ m.origin = some (numAt f.payload 0 2) ∧ m.roles = numAt f.payload 2 1 % 32 ∧
        m.profile = numAt f.payload 3 1 % 16) ∧
      ⟨id, numAt f.payload 4 4, (s.at_ t).tbNs, 1, recs, true⟩ ∈ u.queue ∧
      Frame (· ∈ [.sessions, .best, .bestAt, .queue, .flights, .fw, .naz, .can 0, .can 1, .hostOut, .raised, .obj SS_COUNT,
        .obj SS_GUAR_SUM, .obj SS_ROUTES]) s u)) ∧
  (∀ (s : State) (t : Nat) (p : Fin 2) (bs : Bytes) (f : NazF) (n : Session), On s (islNaz p) → Heard s p nkRequest bs f →
    f.payload.length ≤ 8 → proxyOf s (numAt f.payload 0 2) = some n →
    Yields (.routedRequest t p bs) s (fun u => u.session n.id = none ∧ Frame (· ∈ closeParts) s u)) ∧
  (∀ (s : State) (t : Nat) (p : Fin 2) (bs x : Bytes) (f : NazF) (n : Session) (r : Rec), On s (islNaz p) →
    Heard s p nkResponse bs f → s.flights = [⟨numAt f.payload 0 2, numAt f.payload 4 4, [none], [r], [f.src]⟩] → r.dev = f.src →
    splitResp 34 (f.payload.drop 8) = [x] → numAt x 0 1 ≠ opJoin → s.session (numAt f.payload 0 2) = some n → n.port < 2 →
    n.bare = false →
    Yields (.routedResponse t p bs) s (fun u =>
      .app n.port n.addr (appFrame n.key 0x11 n.id (nextSent n.sent) (le 4 (numAt f.payload 4 4) ++ x)) 64 ∈ u.outs ∧
      u.flights = [] ∧ Frame (· ∈ [.sessions, .flights, .naz]) s u))

/-- Sessions end: idle (R353), by SS_V_CLOSE (R353), and identifiers become free again 1 s later (R346). Locks are taken for a
lease, released, and expire with the holder's transactions that stage what they cover (R351, R352); a key is written to its slot,
and enabling a slot provisions the device, disabling it ends the sessions of the slot (R343, R345). -/
def Obligations.SessionEndsLocksAndKeys : Prop :=
  (∀ (s : State) (t sid : Nat) (n : Session), On s islCrypto → s.session sid = some n → n.opening = none → n.port ≤ 2 →
    ¬(n.id = sidHost ∧ n.slot = none) → n.lastAt + ms (s.nat (SS_Q_IDLE n.profile)) ≤ max s.now t →
    Yields (.sessionIdleTimeout t sid) s (fun u => u.session sid = none ∧
      (sid < 0x07FD → AL.find u.freed sid = some (max s.now t)) ∧ Frame (· ∈ closeParts) s u)) ∧
  (∀ (s : State) (t sid : Nat) (n : Session), On s islCrypto → s.session sid = some n →
    max s.now t < n.lastAt + ms (s.nat (SS_Q_IDLE n.profile)) →
    Yields (.sessionIdleTimeout t sid) s (fun u => Frame (fun _ => False) s u)) ∧
  (∀ (s : State) (t : Nat) (b : By), Writes (.closeSelectedSession t b) s (s.at_ t) b SS_V_CLOSE 1 (fun g u =>
    (∀ n, g.session b.sid = some n → u.session n.sel = none) ∧ Frame (· ∈ closeParts) g u)) ∧
  (∀ (s : State) (t : Nat), On s islCrypto →
    Yields (.identifierHoldEnd t) s (fun u =>
      u.freed = s.freed.filter (fun f => decide (max s.now t < f.2 + ms 1000)) ∧ Frame (· ∈ [.freed]) s u)) ∧
  (∀ (s : State) (t : Nat) (b : By) (w : BitVec 28), Writes (.lockTake t b w) s (s.at_ t) b SS_LOCK (0x10000000 + w.toNat : Nat) (fun g u =>
    ∃ i, lockTarget w.toNat = some i ∧
      u.lockAt i = some ⟨b.sid, ((g.lockAt i).map (·.taken)).getD g.now, g.now + ms (w.toNat % 65536)⟩ ∧
      u.nat (SS_LOCK_OWNER i) = b.sid ∧ (∀ j : Fin 10, j ≠ i → u.lockAt j = g.lockAt j) ∧
      Frame (· ∈ [.locks, .obj (SS_LOCK_OWNER i), .obj (SS_LOCK_EXPIRY i)]) g u)) ∧
  (∀ (s : State) (t : Nat) (b : By) (w : BitVec 28), Writes (.lockRelease t b w) s (s.at_ t) b SS_LOCK (0x20000000 + w.toNat : Nat) (fun g u =>
    ∃ i, lockTarget w.toNat = some i ∧ u.lockAt i = none ∧ u.nat (SS_LOCK_OWNER i) = 0xFFFF ∧ u.nat (SS_LOCK_EXPIRY i) = 0 ∧
      (∀ j : Fin 10, j ≠ i → u.lockAt j = g.lockAt j) ∧
      Frame (· ∈ [.locks, .obj (SS_LOCK_OWNER i), .obj (SS_LOCK_EXPIRY i)]) g u)) ∧
  (∀ (s : State) (t : Nat) (i : Fin 10) (l : Lock), On s islCrypto → s.lockAt i = some l →
    Yields (.lockLeaseExpiry t i) s (fun u =>
      (if l.expiry ≤ max s.now t then
        u.lockAt i = none ∧ u.nat (SS_LOCK_OWNER i) = 0xFFFF ∧ u.nat (SS_LOCK_EXPIRY i) = 0 ∧
          ∀ x ∈ s.txs, s.tx x.id = some x → x.st = 1 → x.owner = l.owner → x.staged.any (fun w => covers s i w.1) = true →
            ∃ y, u.tx x.id = some y ∧ y.st = 5 ∧ y.result = 3
      else u.lockAt i = some l) ∧
      (∀ j : Fin 10, j ≠ i → u.lockAt j = s.lockAt j) ∧
      Frame (· ∈ [.locks, .obj (SS_LOCK_OWNER i), .obj (SS_LOCK_EXPIRY i), .txs, .obj TX_OPEN_COUNT, .obj TX_PROOF_USED,
        .obj TX_ABORTS, .raised, .sessions, .naz]) s u)) ∧
  (∀ (s : State) (t : Nat) (b : By) (k : Fin 64) (bs : Bytes), accepts (s.at_ t) b (SS_KEY k) bs = true →
    Yields (.keyWrite t b k bs) s (fun u => .result 0 [] ∈ u.outs ∧ u.blob (SS_KEY k) = bs ∧ bs.length = 16 ∧ u.flag (SS_KEY_SET k) = true ∧
      (s.flag HP_PROVISIONED = false → Frame (· ∈ [.blob (SS_KEY k), .obj (SS_KEY_SET k)]) (ready (s.at_ t) b (SS_KEY k) 16) u) ∧
      Frame (· ∈ [.blob (SS_KEY k), .obj (SS_KEY_SET k)] ++ closeParts) (ready (s.at_ t) b (SS_KEY k) 16) u)) ∧
  (∀ (s : State) (t : Nat) (b : By) (k : Fin 64) (on : Bool), Writes (.keySlotEnable t b k on) s (s.at_ t) b (SS_KEY_EN k) (flagInt on) (fun g u =>
    u.flag (SS_KEY_EN k) = on ∧ u.flag HP_PROVISIONED = (List.range 64).any (fun j => u.flag (SS_KEY_EN j)) ∧
    (on = false → ∀ n ∈ u.sessions, n.slot ≠ some k.val) ∧
    (on = true → g.power.service = true → ∀ n, u.session sidHost = some n → n.slot ≠ none) ∧
    Frame (· ∈ [.obj (SS_KEY_EN k), .obj HP_PROVISIONED] ++ closeParts) g u))

/-- The host port and the field ports: a host frame is whole and counted, or counted as an error (R356); rising select counts
what was cut and drops the output frame that has left (R355); a field port carries at 1 Gb/s full duplex alone (R334), counts
what it serves and what it drops, advertises the addresses that it holds, and echoes (R335). -/
def Obligations.PortCommands : Prop :=
  (∀ (s : State) (t : Nat) (ws : List (BitVec 32)), On s islHost →
    Yields (.hostFrame t ws) s (fun u =>
      let l := ws.map BitVec.toNat
      let n := l.headD 0 % 65536
      if l.headD 0 / 16777216 = 0xA5 ∧ 1 ≤ n ∧ n ≤ 308 ∧ l.length = n + 2 ∧
          l.getLast? = some (crc32c (((l.drop 1).take n).map (fun (w : Nat) => le 4 w)).flatten) ∧ s.hostOut.length < 16 then
        u.get HP_FRAMES = counted32 (s.get HP_FRAMES) 1 ∧ Frame (· ∈ [.obj HP_FRAMES]) s u
      else u.get HP_FRAME_ERR = counted32 (s.get HP_FRAME_ERR) 1 ∧ Frame (· ∈ [.obj HP_FRAME_ERR, .last08, .raised]) s u)) ∧
  (∀ (s : State) (t good part bad : Nat), On s islHost →
    Yields (.hostDeselect t good part bad) s (fun u =>
      u.get HP_DESELECT_ERR = (if 1 ≤ part ∧ part ≤ 31 then counted32 (s.get HP_DESELECT_ERR) 1 else s.get HP_DESELECT_ERR) ∧
      u.get HP_EDGE_ERR = counted32 (s.get HP_EDGE_ERR) bad ∧
      u.hostOut = (if (s.hostOut.head?).any (fun w => decide (w.length ≤ good)) = true then s.hostOut.drop 1 else s.hostOut) ∧
      (bad = 0 → part = 0 → u.last08 = s.last08 ∧ u.raised = s.raised) ∧
      Frame (· ∈ [.obj HP_DESELECT_ERR, .obj HP_EDGE_ERR, .last08, .raised, .hostOut]) s u)) ∧
  (∀ (s : State) (t : Nat) (p : Fin 2) (link : Bool) (speed : Nat) (full : Bool), On s (42 + p.val) →
    Yields (.fieldPortLinkChange t p link speed full) s (fun u =>
      (u.flag (NP_LINK p.val) = true ↔ link = true ∧ speed = 1000 ∧ full = true) ∧ Frame (· ∈ [.obj (NP_LINK p.val)]) s u)) ∧
  (∀ (s : State) (t : Nat) (p : Fin 2) (bs : Bytes), On s (42 + p.val) →
    Yields (.ethernetFrame t p bs) s (fun u =>
      if s.flag (NP_LINK p.val) = false then Frame (fun _ => False) s u
      else if ∃ q, packetOf s p bs = some q ∧ q.1 = 0x86DD ∧ servedPacket s p q.2 = true then
        u.get (NP_RX p.val) = counted32 (s.get (NP_RX p.val)) 1 ∧ Frame (· ∈ [.obj (NP_RX p.val)]) s u
      else u.get (NP_DROPPED p.val) = counted32 (s.get (NP_DROPPED p.val)) 1 ∧ Frame (· ∈ [.obj (NP_DROPPED p.val)]) s u)) ∧
  (∀ (s : State) (t : Nat) (p : Fin 2) (src target : Bytes), On s (42 + p.val) → s.flag (NP_LINK p.val) = true →
    (heldAddrs s p).contains target = true →
    Yields (.neighbourSolicitation t p src target) s (fun u =>
      (if src = zeros 16 then .advert p.val (be 2 0xFF02 ++ zeros 13 ++ le 1 1) target false 255 ∈ u.outs
      else .advert p.val src target true 255 ∈ u.outs) ∧ Frame (fun _ => False) s u)) ∧
  (∀ (s : State) (t : Nat) (p : Fin 2) (src dst bs : Bytes), On s (42 + p.val) → s.flag (NP_LINK p.val) = true →
    (receivedAddrs s p).contains dst = true →
    Yields (.echoRequest t p src dst bs) s (fun u => .echo p.val src bs 64 ∈ u.outs ∧ Frame (fun _ => False) s u))

/-- The SDO servers (R357): a download is segmented or becomes a record for the firmware, a segment is taken, an upload answers
seven bytes at a time, and a segment that does not come ends the transfer. -/
def Obligations.SdoCommands : Prop :=
  (∀ (s : State) (t : Nat) (b : Fin 2) (key : BitVec 24) (n : Fin 65), On s (44 + b.val) → sdoRuns s b = true → (s.cb b).mode = 1 →
    (flightOf s (sidCan b) 0).isNone = true → isBlob key.toNat = false →
    Yields (.sdoTransfer t b (le 1 0x21 ++ sdoMux key.toNat ++ le 4 n.val)) s (fun u =>
      (u.cb b).sdo = some ⟨key.toNat, true, false, n.val, [], max s.now t⟩ ∧
      (u.cb b).engine = (s.cb b).engine ++ [⟨0x580 + s.nat (CB_NODE_ID b), 0, padTo 8 (le 1 0x60 ++ sdoMux key.toNat), max s.now t⟩] ∧
      Frame (· ∈ [.can b]) s u)) ∧
  (∀ (s : State) (t : Nat) (b : Fin 2) (key : BitVec 24) (x : BitVec 32) (n : Session), On s (44 + b.val) → sdoRuns s b = true →
    (flightOf s (sidCan b) 0).isNone = true → isBlob key.toNat = false → s.session (sidCan b) = some n → n.port = 3 + b.val →
    1 ≤ tokensNow (s.at_ t) n → (s.queue.map AppReq.left).sum + s.heldW.length + 1 ≤ 4096 →
    Yields (.sdoTransfer t b (le 1 0x23 ++ sdoMux key.toNat ++ le 4 x.toNat)) s (fun u =>
      ⟨sidCan b, 0, (s.at_ t).tbNs, n.domains, [⟨2, 0, s.nat DV_ADDRESS, key.toNat, le 4 x.toNat, none⟩], true⟩ ∈ u.queue ∧
      Frame (· ∈ [.sessions, .best, .bestAt, .queue, .flights, .fw, .naz, .can 0, .can 1, .hostOut]) s u)) ∧
  (∀ (s : State) (t : Nat) (b : Fin 2) (d : Sdo) (bs : Bytes), On s (44 + b.val) → sdoRuns s b = true → (s.cb b).mode = 1 →
    (flightOf s (sidCan b) 0).isNone = true → (s.cb b).sdo = some d → d.down = true → max s.now t ≤ d.at_ + ms 100 →
    bs.length = 7 → d.data.length ≤ 57 →
    Yields (.sdoTransfer t b (le 1 (if d.toggle then 0x10 else 0) ++ bs)) s (fun u =>
      (u.cb b).sdo = some { d with data := d.data ++ bs, toggle := !d.toggle, at_ := max s.now t } ∧
      (u.cb b).engine = (s.cb b).engine ++ [⟨0x580 + s.nat (CB_NODE_ID b), 0, padTo 8 (le 1 (0x20 + if d.toggle then 0x10 else 0)), max s.now t⟩] ∧
      Frame (· ∈ [.can b]) s u)) ∧
  (∀ (s : State) (t : Nat) (b : Fin 2) (d : Sdo), On s (44 + b.val) → sdoRuns s b = true → (s.cb b).mode = 1 →
    (flightOf s (sidCan b) 0).isNone = true → (s.cb b).sdo = some d → d.down = false → max s.now t ≤ d.at_ + ms 100 →
    Yields (.sdoTransfer t b (le 1 (0x60 + if d.toggle then 0x10 else 0) ++ zeros 7)) s (fun u =>
      let last := decide (d.data.length ≤ 7)
      (u.cb b).sdo = (if last then none else some { d with data := d.data.drop 7, toggle := !d.toggle, at_ := max s.now t }) ∧
      (u.cb b).engine = (s.cb b).engine ++ [⟨0x580 + s.nat (CB_NODE_ID b), 0, padTo 8 (le 1 ((if d.toggle then 0x10 else 0) +
        2 * (7 - (d.data.take 7).length) + (if last then 1 else 0) : Nat) ++ d.data.take 7), max s.now t⟩] ∧
      Frame (· ∈ [.can b]) s u)) ∧
  (∀ (s : State) (t : Nat) (b : Fin 2) (d : Sdo), On s (44 + b.val) → (s.cb b).mode = 1 → (s.cb b).sdo = some d →
    (flightOf s (sidCan b) 0).isNone = true →
    Yields (.sdoSegmentTimeout t b) s (fun u =>
      (if d.at_ + ms 100 < max s.now t then (u.cb b).sdo = none ∧
        (u.cb b).engine = (s.cb b).engine ++ [⟨0x580 + s.nat (CB_NODE_ID b), 0, padTo 8 (le 1 0x80 ++ sdoMux d.key ++ le 4 0x05040000), max s.now t⟩]
      else (u.cb b).sdo = some d) ∧ Frame (· ∈ [.can b]) s u))

/-- Writes on transactions: TX_OPEN takes an identifier and a fresh record (R362), TX_CUR and TX_SEL name one (R363, R373),
TX_COMMIT begins the commit and, with participants, broadcasts PREPARE (R366, R378), TX_ABORT aborts it (R373, R374). -/
def Obligations.TransactionWrites : Prop :=
  (∀ (s : State) (t : Nat) (b : By), Writes (.txOpen t b) s (s.at_ t) b TX_OPEN 1 (fun g u =>
    (∀ slot, freeSlot g = some slot →
      u.tx (256 * nextUse g slot + slot) = some (Tx.fresh (256 * nextUse g slot + slot) b.sid g.now) ∧
      (∀ n, u.session b.sid = some n → n.txCur = 256 * nextUse g slot + slot) ∧ u.nat TX_OPEN_COUNT = (liveTxs u).length ∧
      u.nat TX_PROOF_USED = proofUsed u) ∧
    Frame (· ∈ [.txs, .txUse, .sessions, .obj TX_OPEN_COUNT, .obj TX_PROOF_USED]) g u)) ∧
  (∀ (s : State) (t : Nat) (b : By) (id : BitVec 16), Writes (.txCur t b id) s (s.at_ t) b TX_CUR id.toNat (fun g u =>
    (∀ n, g.session b.sid = some n → u.session b.sid = some { n with txCur := id.toNat }) ∧ Frame (· ∈ [.sessions]) g u)) ∧
  (∀ (s : State) (t : Nat) (b : By), Writes (.txCommit t b) s (s.at_ t) b TX_COMMIT 1 (fun g u =>
    (∀ n, g.session b.sid = some n → ∀ x, g.tx n.txCur = some x →
      (∃ y, u.tx x.id = some y ∧ y.st = 2 ∧ y.commitAt = g.now ∧ y.stamp = g.tbNs ∧ y.staged = x.staged) ∧
      (∀ m, u.session b.sid = some m → m.txCur = 0xFFFF) ∧
      (x.parts = [] → Frame (· ∈ [.txs, .sessions]) g u) ∧
      (x.parts ≠ [] → ∀ p : Fin 2, linkUp g p = true →
        Sends u nkTx 0xFFFF (commitMsg 1 0 x.id (pointField x) (partCount x) serialNo x.time 0))) ∧
    Frame (· ∈ [.txs, .sessions, .naz]) g u)) ∧
  (∀ (s : State) (t : Nat) (b : By), Writes (.txAbort t b) s (s.at_ t) b TX_ABORT 1 (fun g u =>
    (∀ n, g.session b.sid = some n → ∀ x, g.tx n.txCur = some x →
      (∃ y, u.tx x.id = some y ∧ y.st = 5 ∧ y.result = 1) ∧ (∀ m, u.session b.sid = some m → m.txCur = 0xFFFF) ∧
      u.get TX_ABORTS = counted32 (g.get TX_ABORTS) 1 ∧ Raises g u [(0xA, islStore, 1)]) ∧
    Frame (· ∈ [.txs, .obj TX_OPEN_COUNT, .obj TX_PROOF_USED, .obj TX_ABORTS, .raised, .sessions, .naz]) g u)) ∧
  (∀ (s : State) (t : Nat) (b : By) (id : BitVec 16), Writes (.txSel t b id) s (s.at_ t) b TX_SEL id.toNat (fun g u =>
    (∀ n, g.session b.sid = some n → u.session b.sid = some { n with txSel := id.toNat }) ∧ Frame (· ∈ [.sessions]) g u))

/-- A commit goes on: its preparation follows R370 in order, it takes effect at T in one instant with its banks flipped (R180,
R366, R371), it is committed when its values are written back (R372, R373), and the timeouts of R378 and R379 abort it. -/
def Obligations.CommitProgress : Prop :=
  (∀ (s : State) (t id : Nat) (x : Tx) (k : Nat), On s islStore → s.tx id = some x → x.st = 2 → lockedStaged s x = some k →
    Yields (.preparationComplete t id) s (fun u =>
      (∃ y, u.tx id = some y ∧ y.st = 5 ∧ y.result = 6 ∧ y.fail = s.nat DV_ADDRESS * 16777216 + k) ∧
      Frame (· ∈ [.txs, .obj TX_OPEN_COUNT, .obj TX_PROOF_USED, .obj TX_ABORTS, .raised, .sessions, .naz, .obj NZ_SNAP_STATE] ++
        allSlots.map .slot) s u)) ∧
  (∀ (s : State) (t id : Nat) (x : Tx), On s islStore → s.tx id = some x → x.st = 2 → lockedStaged s x = none →
    Yields (.preparationComplete t id) s (fun u =>
      let c := (s.at_ t).clipStaged x.staged
      let g := c.2.modTx id (fun y => { y with staged := c.1 })
      let whole := x.coord = none ∧ x.parts = []
      (∀ k, refusedStaged g x c.1 = some k → ∃ y, u.tx id = some y ∧ y.st = 5 ∧ y.result = 5 ∧ y.fail = s.nat DV_ADDRESS * 16777216 + k) ∧
      (refusedStaged g x c.1 = none → ∀ k, heldBank g x = some k →
        ∃ y, u.tx id = some y ∧ y.st = 5 ∧ y.result = 0x0D ∧ y.fail = s.nat DV_ADDRESS * 16777216 + k) ∧
      (refusedStaged g x c.1 = none → heldBank g x = none → whole → x.point = 3 → x.time < (s.at_ t).tbNs + 1000 →
        ∃ y, u.tx id = some y ∧ y.st = 5 ∧ y.result = 9) ∧
      (refusedStaged g x c.1 = none → heldBank g x = none → whole → ¬(x.point = 3 ∧ x.time < (s.at_ t).tbNs + 1000) →
        (∃ y, u.tx id = some y ∧ y.st = 3 ∧ y.staged = c.1 ∧ y.prepAt = some (max s.now t) ∧
          y.T = (if x.point = 0 then some (s.at_ t).tbNs else if x.point = 3 then some x.time else none)) ∧
        (∀ k ∈ stagedSlots x, (u.slot k).prepared.isSome = true)) ∧
      (refusedStaged g x c.1 = none → heldBank g x = none → x.coord ≠ none →
        (∃ y, u.tx id = some y ∧ y.st = 3 ∧ y.asked = some (max s.now t)) ∧
        (linkUp s (towards s (s.nat NZ_MASTER)) = true →
          Sends u nkTx (s.nat NZ_MASTER) (commitMsg 2 0 (coordOf x).2 (pointField x) 0 (coordOf x).1 0 0))) ∧
      Frame (· ∈ [.txs, .obj TX_OPEN_COUNT, .obj TX_PROOF_USED, .obj TX_ABORTS, .raised, .sessions, .naz, .obj NZ_SNAP_STATE,
        .obj SF_ANV_CLIPS] ++ portParts 11 ++ allSlots.map .slot) s u)) ∧
  (∀ (s : State) (t id : Nat) (x : Tx) (T : Nat), On s islStore → s.tx id = some x → x.st = 3 → x.applied = false → x.T = some T →
    T ≤ (s.at_ t).tbNs → comesFirst s x T = false →
    (∀ w ∈ x.staged, (slotAt w.1).isSome = true ∧ 2 ≤ w.1 % 256 ∧ w.1 % 256 ≤ 0x1A) → (x.staged.map (·.1)).Nodup →
    Yields (.commitInstant t id) s (fun u =>
      (∃ y, u.tx id = some y ∧ y.applied = true ∧ y.T = some T) ∧ (∀ w ∈ x.staged, u.get w.1 = stagedVal w) ∧
      (∀ k ∈ stagedSlots x, (u.slot k).active = (s.slot k).inactive ∧ (u.slot k).prepared = none ∧
        u.get (K_BANK k) = 1 - s.get (K_BANK k) ∧ u.get (K_SET_VER k) = counted32 (s.get (K_SET_VER k)) 1) ∧
      Frame (fun z => z = .txs ∨ z ∈ (stagedSlots x).flatMap bankParts ∨ z ∈ x.staged.map (fun w => .obj w.1)) s u)) ∧
  (∀ (s : State) (t id : Nat) (x : Tx) (T : Nat) (a : Fin 4) (v : BitVec 32), On s islStore → s.tx id = some x → x.st = 3 →
    x.applied = false → x.T = some T → T ≤ (s.at_ t).tbNs → comesFirst s x T = false → x.staged = [(A_TARGET_SPEED a, le 4 v.toInt)] →
    Yields (.commitInstant t id) s (fun u =>
      (∃ y, u.tx id = some y ∧ y.applied = true ∧ y.T = some T) ∧ u.get (A_TARGET_SPEED a) = v.toInt ∧
      Frame (· ∈ [.txs, .obj (A_TARGET_SPEED a)]) s u)) ∧
  (∀ (s : State) (t id : Nat) (x : Tx), On s islStore → s.tx id = some x → x.st = 3 → x.applied = true → x.written = false → x.parts = [] →
    Yields (.writeBackComplete t id) s (fun u =>
      (∃ y, u.tx id = some y ∧ y.st = (if x.dones.any (fun d => decide (d.2 = 0xFF)) = true then 6 else 4) ∧ y.result = 0 ∧
        y.written = true ∧ y.old = []) ∧
      u.get TX_COMMITS = counted32 (s.get TX_COMMITS) 1 ∧
      (∀ k ∈ stagedSlots x, u.get (K_SET_VER k) = counted32 (s.get (K_SET_VER k)) 1) ∧
      (x.coord ≠ none → linkUp s (towards s (s.nat NZ_MASTER)) = true →
        Sends u nkTx (s.nat NZ_MASTER) (commitMsg 4 (if x.late then 1 else 0) (coordOf x).2 (pointField x) 0 (coordOf x).1 0 0)) ∧
      Frame (· ∈ [.txs, .obj TX_OPEN_COUNT, .obj TX_PROOF_USED, .obj TX_COMMITS, .naz] ++ portParts 11 ++ portParts 12 ++
        (stagedSlots x).map (fun k => .obj (K_SET_VER k))) s u)) ∧
  (∀ (s : State) (t id : Nat) (x : Tx) (i : Nat), On s islStore → s.tx id = some x → x.coord = none → x.asked = some i →
    (x.st = 2 ∨ x.st = 3) → x.decided = false → i + ms (s.nat TX_PREP_TIMEOUT) ≤ max s.now t →
    Yields (.prepareTimeout t id) s (fun u => (∃ y, u.tx id = some y ∧ y.st = 5 ∧ y.result = 0x0C) ∧
      Frame (· ∈ [.txs, .obj TX_OPEN_COUNT, .obj TX_PROOF_USED, .obj TX_ABORTS, .raised, .sessions, .naz, .obj NZ_SNAP_STATE] ++
        allSlots.map .slot) s u)) ∧
  (∀ (s : State) (t id : Nat) (x : Tx) (i : Nat), On s islStore → s.tx id = some x → x.coord ≠ none → x.asked = some i → x.st = 3 →
    x.decided = false → i + 2 * ms (s.nat TX_PREP_TIMEOUT) ≤ max s.now t →
    Yields (.participantDecisionTimeout t id) s (fun u => (∃ y, u.tx id = some y ∧ y.st = 5 ∧ y.result = 0x0B) ∧
      Frame (· ∈ [.txs, .obj TX_OPEN_COUNT, .obj TX_PROOF_USED, .obj TX_ABORTS, .raised, .sessions, .naz] ++ allSlots.map .slot) s u))

/-- Commit messages between devices (R377): PREPARE begins a participant's preparation (R378), VOTE and DONE are counted by the
coordinator, which decides T when all have voted (R369, R378) and commits when all are done (R379), DECIDE tells a participant T
or an abort, QUERY is answered by STATE, and STATE is resolved by a new master (R379). -/
def Obligations.CommitMessages : Prop :=
  (∀ (s : State) (t : Nat) (p : Fin 2) (k : PrepareIn) (f : NazF) (x : Tx), On s (islNaz p) → HeardTx s p 1 k.bytes f →
    participant s (msgSerial f) (msgId f) = some x →
    Yields (.prepareMsg t p k) s (fun u =>
      (x.st = 1 → (∃ y, u.tx x.id = some y ∧ y.st = 2 ∧
          y.point = (if k.point = 1 ∨ k.point = 2 then k.point else numAt f.payload 4 1) ∧ y.secs = k.secs ∧ y.dom = k.dom ∧
          y.time = msgT f ∧ y.commitAt = max s.now t ∧ y.staged = x.staged) ∧
        (∀ n, u.session x.owner = some n → n.txCur = x.id → x.id = 0xFFFF)) ∧
      (x.st = 5 → linkUp s (towards s (s.nat NZ_MASTER)) = true →
        Sends u nkTx (s.nat NZ_MASTER) (commitMsg 2 x.result (msgId f) (pointField x) 0 (msgSerial f) 0 x.fail)) ∧
      Frame (· ∈ [.txs, .sessions, .naz]) s u)) ∧
  (∀ (s : State) (t : Nat) (p : Fin 2) (bs : Bytes) (f : NazF) (x : Tx), On s (islNaz p) → HeardTx s p 2 bs f →
    msgSerial f = serialNo → s.tx (msgId f) = some x → x.coord = none → x.decided = false → (x.st = 2 ∨ x.st = 3) →
    Yields (.voteMsg t p bs) s (fun u =>
      let x' := { x with votes := x.votes.filter (fun v => decide (v.1 ≠ f.src)) ++ [(f.src, 0)] }
      let d := (s.at_ t).tbNs + lmin s
      let T := if x.point = 3 then x.time else ceilDiv d 1000 * 1000
      (msgCode f ≠ 0 → ∃ y, u.tx x.id = some y ∧ y.st = 5 ∧ y.result = 7 ∧ y.fail = msgAddr f) ∧
      (msgCode f = 0 → x.st = 3 → x.parts ≠ [] → allVoted x' = true → x.point = 3 → x.time < d →
        ∃ y, u.tx x.id = some y ∧ y.st = 5 ∧ y.result = 9) ∧
      (msgCode f = 0 → x.st = 3 → x.parts ≠ [] → allVoted x' = true → ¬(x.point = 3 ∧ x.time < d) → x.point ≠ 1 ∧ x.point ≠ 2 →
        u.tx x.id = some { x' with decided := true, T := some T } ∧
        ∀ q : Fin 2, linkUp s q = true → Sends u nkTx 0xFFFF (commitMsg 3 0 x.id (pointField x) (partCount x) serialNo T 0)) ∧
      (msgCode f = 0 → x.st = 3 → x.parts ≠ [] → allVoted x' = true → x.point = 1 ∨ x.point = 2 →
        (∃ y, u.tx x.id = some y ∧ y.decided = true ∧ y.T = x.T) ∧
        ∀ q : Fin 2, linkUp s q = true → Sends u nkTx 0xFFFF (commitMsg 3 0 x.id 0 (partCount x) serialNo 0 0)) ∧
      (msgCode f = 0 → (x.st = 2 ∨ allVoted x' = false) → u.tx x.id = some x') ∧
      Frame (· ∈ [.txs, .obj TX_OPEN_COUNT, .obj TX_PROOF_USED, .obj TX_ABORTS, .raised, .sessions, .naz] ++ allSlots.map .slot) s u)) ∧
  (∀ (s : State) (t : Nat) (p : Fin 2) (bs : Bytes) (f : NazF) (x : Tx), On s (islNaz p) → HeardTx s p 3 bs f →
    participant s (msgSerial f) (msgId f) = some x → s.tx x.id = some x → x.decided = false → x.live = true → msgCode f ≠ 0 →
    Yields (.decideMsg t p bs) s (fun u => (∃ y, u.tx x.id = some y ∧ y.st = 5 ∧ y.result = msgCode f ∧ y.fail = msgAddr f) ∧
      Frame (· ∈ [.txs, .obj TX_OPEN_COUNT, .obj TX_PROOF_USED, .obj TX_ABORTS, .raised, .sessions, .naz] ++ allSlots.map .slot) s u)) ∧
  (∀ (s : State) (t : Nat) (p : Fin 2) (bs : Bytes) (f : NazF) (x : Tx), On s (islNaz p) → HeardTx s p 3 bs f →
    participant s (msgSerial f) (msgId f) = some x → s.tx x.id = some x → msgCode f = 0 → x.st = 3 → x.decided = false → x.staged = [] →
    Yields (.decideMsg t p bs) s (fun u =>
      (if x.point = 1 ∨ x.point = 2 then u.tx x.id = some { x with decided := true } ∧ Raises s u []
      else if msgT f < (s.at_ t).tbNs then
        (∃ y, u.tx x.id = some y ∧ y.decided = true ∧ y.late = true ∧ y.applied = true ∧ y.T = some (msgT f)) ∧ Raises s u [(0xA, islStore, 0x11)]
      else u.tx x.id = some { x with decided := true, T := some (msgT f) } ∧ Raises s u []) ∧
      Frame (· ∈ [.txs, .naz, .raised]) s u)) ∧
  (∀ (s : State) (t : Nat) (p : Fin 2) (bs : Bytes) (f : NazF) (x : Tx), On s (islNaz p) → HeardTx s p 3 bs f →
    participant s (msgSerial f) (msgId f) = some x → msgCode f = 0 → x.st = 4 → linkUp s (towards s (s.nat NZ_MASTER)) = true →
    Yields (.decideMsg t p bs) s (fun u =>
      Sends u nkTx (s.nat NZ_MASTER) (commitMsg 4 (if x.late then 1 else 0) (msgId f) (pointField x) 0 (msgSerial f) 0 0) ∧
      Frame (· ∈ [.naz]) s u)) ∧
  (∀ (s : State) (t : Nat) (p : Fin 2) (bs : Bytes) (f : NazF) (x : Tx), On s (islNaz p) → HeardTx s p 4 bs f →
    msgSerial f = serialNo → s.tx (msgId f) = some x → x.coord = none → x.decided = true → (∀ e ∈ x.dones, e.1 ≠ f.src) →
    Yields (.doneMsg t p bs) s (fun u =>
      let l := x.dones ++ [(f.src, msgCode f)]
      (if x.written = true ∧ (∀ q ∈ x.parts, ∃ e ∈ l, e.1 = q.1) then
        (∃ y, u.tx x.id = some y ∧ y.dones = l ∧ y.st = (if l.any (fun e => decide (e.2 = 0xFF)) = true then 6 else 4)) ∧
          u.get TX_COMMITS = counted32 (s.get TX_COMMITS) 1
      else u.tx x.id = some { x with dones := l, T := some (x.T.getD (s.at_ t).tbNs) }) ∧
      Frame (· ∈ [.txs, .naz, .obj TX_OPEN_COUNT, .obj TX_PROOF_USED, .obj TX_COMMITS]) s u)) ∧
  (∀ (s : State) (t : Nat) (p : Fin 2) (bs : Bytes) (f : NazF), On s (islNaz p) → HeardTx s p 5 bs f →
    linkUp s (towards s f.src) = true →
    Yields (.queryMsg t p bs) s (fun u =>
      (∀ x ∈ s.txs, ∀ c, x.coord = some c → x.live = true → c.1 ≠ serialNo → (msgId f = 0xFFFF ∨ c = (msgSerial f, msgId f)) →
        Sends u nkTx f.src (commitMsg 6 (if x.decided then 0xFF else x.st) c.2 (pointField x) 0 c.1 (if x.decided then x.T.getD 0 else 0) 0)) ∧
      Frame (· ∈ [.naz]) s u)) ∧
  (∀ (s : State) (t : Nat) (p : Fin 2) (bs : Bytes) (f : NazF), On s (islNaz p) → HeardTx s p 6 bs f →
    s.nat NZ_ROLE = 1 → (msgCode f = 0xFF ∨ s.naz.noDecision = true) → participant s (msgSerial f) (msgId f) = none →
    Yields (.stateMsg t p bs) s (fun u =>
      (if (msgSerial f, msgId f) ∈ s.naz.resolved then Raises s u []
      else (∀ q : Fin 2, linkUp s q = true → Sends u nkTx 0xFFFF (commitMsg 3 (if msgCode f = 0xFF then 0 else 0x0B) (msgId f) 0 0
          (msgSerial f) (if msgCode f = 0xFF then msgT f else 0) 0)) ∧ (msgSerial f, msgId f) ∈ u.naz.resolved ∧
        Raises s u ((if msgCode f = 0xFF ∧ s.naz.formerMaster < 256 then [(0xA, islStore, 0x10)] else []) ++ [(0xA, islStore, 0x12)])) ∧
      Frame (· ∈ [.naz, .raised]) s u)) ∧
  (∀ (s : State) (t : Nat) (p : Fin 2) (bs : Bytes) (f : NazF), On s (islNaz p) → HeardTx s p 6 bs f →
    s.nat NZ_ROLE ≠ 1 → s.naz.takingOver = true →
    Yields (.stateMsg t p bs) s (fun u =>
      (if msgCode f = 0xFF then (msgSerial f, msgId f, msgT f) ∈ u.naz.decisions else (msgSerial f, msgId f) ∈ u.naz.reports) ∧
      Frame (· ∈ [.naz]) s u)) ∧
  (∀ (s : State) (t : Nat) (p : Fin 2) (bs : Bytes) (f : NazF), On s (islNaz p) → HeardTx s p 6 bs f →
    s.nat NZ_ROLE = 1 → msgCode f ≠ 0xFF → s.naz.noDecision = false → (msgSerial f, msgId f) ∉ s.naz.resolved → tokenPorts s ≠ [] →
    Yields (.stateMsg t p bs) s (fun u =>
      (∃ k ∈ u.naz.tokens, k.kind = 3 ∧ numAt k.payload 18 2 = msgId f ∧ numAt k.payload 24 8 = msgSerial f) ∧
      Frame (· ∈ [.naz]) s u))

/-- Fences (R381, R382): a write of TX_FENCE issues one, it is accepted when every write before it has been, and it completes when
each has taken effect, with the commits of point 2 that wait for it (R368) and the data of the NazLink frames
that it held (log entry 98). -/
def Obligations.FenceCommands : Prop :=
  (∀ (s : State) (t : Nat) (b : By) (f : Fin 16), Writes (.fenceWrite t b f) s (s.at_ t) b (TX_FENCE f) 1 (fun g u =>
    u.fences = g.fences ++ [⟨f, g.tbNs, b.sid, none⟩] ∧ Frame (· ∈ [.fences]) g u)) ∧
  (∀ (s : State) (t : Nat) (f : Fin 16) (x : Fence), On s islStore → fenceOf s f = some x → x.accepted = none →
    Yields (.fenceAccepted t f) s (fun u =>
      (if (∀ q ∈ s.queue, bitOf q.doms f.val = true → x.stamp < q.stamp ∨ (x.stamp = q.stamp ∧ q.sid = x.sid)) ∧
          (∀ h ∈ s.heldW, bitOf h.doms f.val = true → x.stamp < h.stamp ∨ (x.stamp = h.stamp ∧ h.who.sid = x.sid)) ∧
          (∀ h ∈ s.naz.fenced, bitOf h.doms f.val = true → x.stamp < h.stamp) then
        fenceOf u f = some { x with accepted := some (max s.now t) }
      else u.fences = s.fences) ∧ Frame (· ∈ [.fences]) s u)) ∧
  (∀ (s : State) (t : Nat) (f : Fin 16) (x : Fence) (a : Nat), On s islStore → fenceOf s f = some x → x.accepted = some a →
    (∀ l : Fin 6, ∀ w ∈ s.lanes.coming.get l, a < w.2.2.2) →
    (∀ y ∈ s.txs, y.coord = none → y.point = 0 → (y.st = 2 ∨ (y.st = 3 ∧ y.applied = false)) → bitOf y.doms f.val = true →
      x.stamp < y.stamp) → (s.naz.rx = none ∨ a < s.naz.rxAt) → s.heldW = [] → s.naz.fenced = [] → waitingOn s f a = [] →
    Yields (.fenceCompletion t f) s (fun u =>
      u.fences = s.fences.erase x ∧ u.get (TX_FENCE_COUNT f) = counted32 (s.get (TX_FENCE_COUNT f)) 1 ∧
      u.get (TX_FENCE_DONE f) = (s.at_ t).tbNs ∧
      Frame (· ∈ [.fences, .heldW, .naz, .obj (TX_FENCE_COUNT f), .obj (TX_FENCE_DONE f), .obj NZ_SNAP_STATE]) s u)) ∧
  (∀ (s : State) (t : Nat) (f : Fin 16) (x : Fence) (a : Nat) (h : HeldFrame), On s islStore → s.fences = [x] → x.dom = f.val →
    x.accepted = some a → (∀ l : Fin 6, s.lanes.coming.get l = []) → s.txs = [] → s.naz.rx = none → s.heldW = [] → s.naz.fenced = [h] →
    h.kind = nkMpos →
    Yields (.fenceCompletion t f) s (fun u =>
      u.fences = [] ∧ u.naz.fenced = [] ∧ u.get (TX_FENCE_COUNT f) = counted32 (s.get (TX_FENCE_COUNT f)) 1 ∧
      u.naz.mpos.head? = some (numAt h.payload 8 1, numAt h.payload 0 8, intAt h.payload 12 8, intAt h.payload 20 4) ∧
      Frame (· ∈ [.fences, .heldW, .naz, .obj (TX_FENCE_COUNT f), .obj (TX_FENCE_DONE f), .obj NZ_SNAP_STATE] ++ readParts 4) s u)) ∧
  (∀ (s : State) (t : Nat) (f : Fin 16) (x : Fence) (a : Nat) (y : Tx) (c : Fin 4) (v : BitVec 32), On s islStore →
    fenceOf s f = some x → x.accepted = some a → (∀ l : Fin 6, s.lanes.coming.get l = []) → s.txs = [y] → y.point = 2 →
    s.naz.rx = none → s.naz.fenced = [] → s.heldW = [] → waitingOn s f a = [y] → y.staged = [(A_TARGET_SPEED c, le 4 v.toInt)] →
    Yields (.fenceCompletion t f) s (fun u =>
      u.fences = s.fences.erase x ∧ (∃ z, u.tx y.id = some z ∧ z.applied = true ∧ z.T = some (s.at_ t).tbNs) ∧
      u.get (A_TARGET_SPEED c) = v.toInt ∧
      Frame (· ∈ [.txs, .obj (A_TARGET_SPEED c), .fences, .heldW, .naz, .obj (TX_FENCE_COUNT f), .obj (TX_FENCE_DONE f),
        .obj NZ_SNAP_STATE]) s u))

/-- The NazLink cycle (R394–R400): a master that has sent the last copy of the cascade reset command resets (the model's reading, log
entry 102); at Tj the master's frame or the frame received takes effect, once (R395), with the torque of each contributing axis
(R397); the master sends the frame of the next cycle ahead (R396), a follower takes the standby, its offset (R401) and the values
from it, late ones at once, and counts a cycle without one (R400); the frames of devices, axes and master positions are sent and
taken (R398, R399); their data waits while a fence of one of their domains is pending (R380, R381), with what counts as that data the
model's reading (log entry 98). -/
def Obligations.CycleCommands : Prop :=
  (∀ (s : State) (t : Nat), Powered s (islNaz 1) → s.naz.addressed = true → s.naz.starts.head? ≠ some (cycleAt (s.at_ t).changeCycle) →
    isMaster s = true → resetPending s = true → (∀ r ∈ s.naz.repeats, numAt r.2.1 0 1 = 1 → r.2.2 = 1) →
    Yields (.cycleStart t) s (fun u => Restarted s u ∧ u.power.held = false)) ∧
  (∀ (s : State) (t : Nat), Powered s (islNaz 1) → s.naz.addressed = true → s.naz.starts.head? ≠ some (cycleAt (s.at_ t).changeCycle) →
    resetPending s = false ∨ (∃ r ∈ s.naz.repeats, numAt r.2.1 0 1 = 1 ∧ 1 < r.2.2) →
    Yields (.cycleStart t) s (fun u =>
      let T := cycleAt (s.at_ t).changeCycle
      u.naz.starts = (T :: s.naz.starts).take 4 ∧
      (s.naz.closing = true → u.nat NZ_RING = 1 ∧ u.naz.closing = false) ∧
      (∀ T0, s.naz.startT = some T0 → isMaster s = true → T0 ≤ T → u.naz.startT = none ∧ (s.nat NZ_ROLE = 1 → u.nat NZ_STATE = 3)) ∧
      (isMaster s = true → ∀ pay, s.naz.frozen = some pay → numAt pay 0 8 = T → u.naz.applied = some T) ∧
      (isMaster s = true → ∃ pay, u.naz.frozen = some pay ∧ numAt pay 0 8 = nextStart (s.at_ t).changeCycle T % 2 ^ 64) ∧
      (isMaster s = false → ∀ r, s.naz.rx = some r → r.1 = T → u.naz.applied = some (numAt r.2 0 8) ∧ u.naz.rx = none ∧
        (numAt r.2 0 8 = T → numAt r.2 72 1 = 1 → ∀ a : Fin 4, s.nat (A_CASCADE_AXIS a) = numAt (fieldAt r.2 76 40) 0 1 →
          u.get (A_DEV_TORQUE a) = deviceTorque s r.2 (fieldAt r.2 76 40) (s.naz.starts.getD 1 0) a)) ∧
      Frame (· ∈ cycleParts) s u)) ∧
  (∀ (s : State) (t : Nat) (pay : Bytes), Powered s (islNaz 1) → s.naz.frozen = some pay → s.nat NZ_ROLE = 1 →
    numAt pay 0 8 ≤ (s.at_ t).tbNs + leadC (nazN s) → (s.at_ t).tbNs < numAt pay 0 8 →
    Yields (.cycleFrameSend t) s (fun u =>
      (∀ p : Fin 2, linkUp s p = true → Sends u nkCycle 0xFFFF (pay.take 8 ++ le 8 (64 * (s.at_ t).tb : Nat) ++ pay.drop 16)) ∧
      Frame (· ∈ [.naz]) s u)) ∧
  (∀ (s : State) (t : Nat) (p : Fin 2) (bs : Bytes) (starts : List HostStart) (ms : Nat) (f : NazF), On s (islNaz p) → Heard s p nkCycle bs f → s.nat NZ_ROLE = 2 →
    Unfenced s t → s.naz.startT = none → s.nat NZ_MASTER = numAt f.payload 22 2 →
    Yields (.cycleFrame t p ⟨bs, starts, ms⟩) s (fun u =>
      let T := numAt f.payload 0 8
      let ref : Rat := ((numAt f.payload 8 8 + numAt f.payload 16 4 : Nat) : Rat) + linkDelay s p
      u.nat NZ_STANDBY = numAt f.payload 24 2 ∧
      u.get NZ_OFFSET = clampI (-2147483648) 2147483647 (rnd ((((64 * (s.at_ t).tb : Nat) : Rat) - ref) * 1000 / 256)) ∧
      -200000 ≤ u.get NZ_RATE ∧ u.get NZ_RATE ≤ 200000 ∧
      ((s.at_ t).tbNs < T → u.naz.rx = some (T, f.payload) ∧
        Frame (· ∈ [.naz, .obj NZ_OFFSET, .obj NZ_RATE, .obj NZ_SYNC, .raised, .obj NZ_STANDBY] ++ readParts 4) s u) ∧
      (T ≤ (s.at_ t).tbNs → (s.at_ t).tbNs ≤ T + lateW (nazN s) → s.naz.applied ≠ some T →
        u.get NZ_LATE = counted32 (s.get NZ_LATE) 1 ∧ u.naz.applied = some T) ∧
      Frame (· ∈ [.obj NZ_OFFSET, .obj NZ_RATE, .obj NZ_SYNC, .raised, .obj NZ_STANDBY, .obj NZ_LATE] ++ readParts 4 ++ cycleParts) s u)) ∧
  (∀ (s : State) (t T : Nat), Powered s (islNaz 1) → s.naz.starts.head? = some T → s.nat NZ_ROLE = 2 → s.naz.addressed = true →
    s.naz.applied ≠ some T → (∀ h ∈ s.naz.fenced, h.kind = nkCycle → numAt h.payload 0 8 ≠ T) →
    T + lateW (nazN s) ≤ (s.at_ t).tbNs →
    Yields (.cycleMissed t) s (fun u =>
      u.get NZ_MISSED = counted32 (s.get NZ_MISSED) 1 ∧ u.nat NZ_STATE = 4 ∧ u.naz.missedRun = s.naz.missedRun + 1 ∧ u.naz.applied = some T ∧
      (∀ a : Fin 4, onCascade s a = true → (u.ax a).tdMissed = (s.ax a).tdMissed + 1) ∧
      Frame (· ∈ [.naz, .obj NZ_MISSED, .obj NZ_STATE] ++ allAxes.map .ax) s u)) ∧
  (∀ (s : State) (t T : Nat), Powered s (islNaz 1) → s.naz.starts.head? = some T → s.naz.addressed = true → T + 1000 ≤ (s.at_ t).tbNs →
    (∀ e ∈ s.naz.devFrames, ¬(e.1 = s.nat DV_ADDRESS ∧ e.2.1 = T)) →
    Yields (.deviceFrameSend t) s (fun u =>
      (∀ p : Fin 2, linkUp s p = true → Sends u nkDevice 0xFFFF (devicePayload (s.at_ t) T)) ∧
      (s.nat DV_ADDRESS, T % 2 ^ 64, devicePayload (s.at_ t) T) ∈ u.naz.devFrames ∧
      Frame (· ∈ [.naz] ++ allAxes.flatMap levelParts) s u)) ∧
  (∀ (s : State) (t : Nat) (p : Fin 2) (bs : Bytes) (f : NazF), On s (islNaz p) → Heard s p nkDevice bs f → Unfenced s t →
    Yields (.deviceFrame t p bs) s (fun u =>
      (f.src, numAt f.payload 0 8, f.payload) ∈ u.naz.devFrames ∧
      (∀ a : Fin 4, a ∈ hosted s → numAt f.payload 9 1 = 1 → numAt f.payload 12 1 = a.val →
        ∃ x ∈ (u.ax a).devs, x.d = f.src ∧ x.W = numAt (fieldAt f.payload 12 24) 16 4 ∧ x.count = numAt (fieldAt f.payload 12 24) 2 2 ∧
          x.t = numAt f.payload 0 8) ∧
      Frame (· ∈ [.naz] ++ readParts 4 ++ allAxes.flatMap levelParts) s u)) ∧
  (∀ (s : State) (t : Nat) (p : Fin 2) (bs : Bytes) (f : NazF), On s (islNaz p) → Heard s p nkAxis bs f → Unfenced s t →
    Yields (.axisFrame t p bs) s (fun u =>
      (∀ a : Fin 4, s.nat (A_CASCADE_AXIS a) = numAt f.payload 8 1 → isHost s a = false →
        u.get (A_FUS_DEV_DROPPED a) = (if bitOf (numAt f.payload 20 32) (s.nat DV_ADDRESS) then 1 else 0) ∧
        (bitOf (numAt f.payload 9 1) 0 = true → (u.ax a).casc.theta = numAt f.payload 10 2 ∧ (u.ax a).casc.fe = intAt f.payload 12 4 ∧
          (u.ax a).casc.age = 0 ∧ u.get (A_FUS_CORR a) = min 17999 (rnd (u.ax a).casc.corr))) ∧
      Frame (· ∈ [.naz] ++ readParts 4 ++ allAxes.flatMap (fun (c : Fin 4) => [.ax c, .obj (A_FUS_CORR c), .obj (A_FUS_DEV_DROPPED c)])) s u)) ∧
  (∀ (s : State) (t : Nat) (p : Fin 2) (bs : Bytes) (f : NazF), On s (islNaz p) → Heard s p nkMpos bs f → Unfenced s t →
    Yields (.mposFrame t p bs) s (fun u =>
      u.naz.mpos.head? = some (numAt f.payload 8 1, numAt f.payload 0 8, intAt f.payload 12 8, intAt f.payload 20 4) ∧
      Frame (· ∈ [.naz] ++ readParts 4) s u)) ∧
  (∀ (s : State) (t : Nat) (p : Fin 2) (bs : Bytes) (f : NazF), On s (islNaz p) → Heard s p nkDevice bs f → ¬ Unfenced s t →
    Yields (.deviceFrame t p bs) s (fun u => Waits s t f u ∧ (f.src, numAt f.payload 0 8, f.payload) ∈ u.naz.devFrames ∧
      Frame (· ∈ [.naz]) s u)) ∧
  (∀ (s : State) (t : Nat) (p : Fin 2) (bs : Bytes) (f : NazF), On s (islNaz p) → Heard s p nkAxis bs f → ¬ Unfenced s t →
    Yields (.axisFrame t p bs) s (fun u => Waits s t f u ∧ Frame (· ∈ [.naz]) s u)) ∧
  (∀ (s : State) (t : Nat) (p : Fin 2) (bs : Bytes) (f : NazF), On s (islNaz p) → Heard s p nkMpos bs f → ¬ Unfenced s t →
    Yields (.mposFrame t p bs) s (fun u => Waits s t f u ∧ u.naz.mpos = s.naz.mpos ∧
      (numAt f.payload 8 1, numAt f.payload 0 8) ∈ u.naz.heard ∧ Frame (· ∈ [.naz]) s u)) ∧
  (∀ (s : State) (t : Nat) (p : Fin 2) (bs : Bytes) (starts : List HostStart) (ms : Nat) (f : NazF), On s (islNaz p) → Heard s p nkCycle bs f →
    ¬ Unfenced s t → s.nat NZ_ROLE = 2 → s.naz.startT = none → s.nat NZ_MASTER = numAt f.payload 22 2 →
    (s.at_ t).tbNs < numAt f.payload 0 8 →
    Yields (.cycleFrame t p ⟨bs, starts, ms⟩) s (fun u => Waits s t f u ∧ u.naz.rx = s.naz.rx ∧ u.nat NZ_STANDBY = numAt f.payload 24 2 ∧
      Frame (· ∈ [.naz, .obj NZ_OFFSET, .obj NZ_RATE, .obj NZ_SYNC, .raised, .obj NZ_STANDBY, .freeCtr]) s u))

/-- Commands of the master and what it starts: a reset of the cascade (R408), a new enumeration (R403), a snapshot made void
(R407), a new cycle (R394); barriers, snapshots, resets and cycle changes written on the master (R394, R406–R408), and the latch of
a snapshot at Ts (R407). That a new change of the cycle replaces one still to come is the model's choice (log entry 97). -/
def Obligations.CascadeCommands : Prop :=
  (∀ (s : State) (t : Nat) (p : Fin 2) (bs : Bytes) (f : NazF), On s (islNaz p) → Heard s p nkCommand bs f → numAt f.payload 0 1 = 1 →
    Yields (.cascadeResetCommand t p bs) s (fun u => Restarted s u ∧ u.power.held = false ∧ u.nat TB_REF_STATE = 1)) ∧
  (∀ (s : State) (t : Nat) (p : Fin 2) (bs : Bytes) (poles : List (Nat × Nat)) (f : NazF), On s (islNaz p) → Heard s p nkCommand bs f → numAt f.payload 0 1 = 2 →
    Yields (.passCompleteCommand t p ⟨bs, poles⟩) s (fun u =>
      let n := numAt f.payload 12 2
      let order := (fieldAt f.payload 22 n).map (fun (b : Byte) => b.toNat)
      u.nat NZ_COUNT = n ∧ u.nat NZ_MASTER = numAt f.payload 16 2 ∧ u.nat NZ_STANDBY = numAt f.payload 18 2 ∧
      u.blob NZ_PRESENT = mapBytes (mapOf order) ∧ u.blob NZ_LOST = mapBytes (numAt f.payload (22 + n) 32) ∧
      u.blob NZ_ORDER = fieldAt f.payload 22 n ∧ u.get NZ_MAP_VER = counted32 (s.get NZ_MAP_VER) 2 ∧
      u.naz.startT = some (numAt f.payload 4 8) ∧ (u.naz.addressed = true ↔ s.nat DV_ADDRESS ∈ order) ∧
      (s.nat DV_ADDRESS ∈ order → u.nat NZ_ADDR_LAST = s.nat DV_ADDRESS) ∧ (s.nat NZ_ROLE = 2 → u.naz.cyc = numAt f.payload 20 2) ∧
      u.nat NZ_RING = (if n ≤ 1 then 0 else if u.naz.downs = [] ∧ u.naz.line = false then 1 else 2) ∧
      (u.naz.downs = [] → (u.naz.line = true ↔ s.naz.line = true ∨ linkUp s 0 = false ∨ linkUp s 1 = false)) ∧
      (u.naz.cap = true ↔ s.naz.cap = true ∧ (u.naz.addressed = true → hostable u = true)) ∧
      (∀ a, polesRefused u a = true → polesRefused s a = false → ∀ x ∈ secsOf s a, u.get (S_ENABLE x) = 0) ∧
      (∃ m : Nat, Raises s u (List.replicate m (1, islNaz 1, 0x64))) ∧
      Frame (· ∈ [.naz, .obj NZ_COUNT, .obj NZ_MASTER, .obj NZ_STANDBY, .blob NZ_PRESENT, .blob NZ_LOST, .blob NZ_ORDER,
        .obj NZ_MAP_VER, .obj NZ_ADDR_LAST, .obj NZ_RING] ++ allSecs.flatMap joinParts) s u)) ∧
  (∀ (s : State) (t : Nat) (p : Fin 2) (bs : Bytes) (f : NazF), On s (islNaz p) → Heard s p nkCommand bs f → numAt f.payload 0 1 = 3 →
    Yields (.snapshotVoidCommand t p bs) s (fun u => u.naz.snap = none ∧ u.nat NZ_SNAP_STATE = 3 ∧ Raises s u [(1, islNaz 1, 0x68)] ∧
      Frame (· ∈ [.naz, .obj NZ_SNAP_STATE, .raised]) s u)) ∧
  (∀ (s : State) (t : Nat) (p : Fin 2) (bs : Bytes) (f : NazF), On s (islNaz p) → Heard s p nkCommand bs f → numAt f.payload 0 1 = 4 →
    Yields (.cycleChangeCommand t p bs) s (fun u => u.naz.change = some (numAt f.payload 4 8, numAt f.payload 12 2) ∧
      Frame (· ∈ [.naz]) s u)) ∧
  (∀ (s : State) (t : Nat) (b : By), Writes (.barrierGo t b) s (s.at_ t) b NZ_BARRIER_GO 1 (fun g u =>
    (tokenPorts g = [] → u.get NZ_BARRIER_DONE = g.tbNs ∧ u.get NZ_BARRIERS = counted32 (g.get NZ_BARRIERS) 1 ∧
      Frame (· ∈ [.obj NZ_BARRIER_DONE, .obj NZ_BARRIERS]) g u) ∧
    (tokenPorts g ≠ [] → (∃ k ∈ u.naz.tokens, k.kind = 1 ∧ k.since = g.now ∧ k.seq = u.naz.barrierSeq ∧
        k.missing = (if g.nat NZ_RING = 1 then 1 else (tokenPorts g).length) ∧
        numAt k.payload 8 8 = (g.tbNs + barrierTime g) % 2 ^ 64 ∧ Sends u nkBarrier 0xFFFF k.payload) ∧
      Frame (· ∈ [.naz]) g u))) ∧
  (∀ (s : State) (t : Nat) (b : By), Writes (.snapGo t b) s (s.at_ t) b NZ_SNAP_GO 1 (fun g u =>
    let l := snapKeys (padTo 32 (g.blob NZ_SNAP_OBJ))
    let Ts := max (g.nat NZ_SNAP_TIME) (g.tbNs + barrierTime g + 1000)
    (tokenPorts g = [] → snapUndefined l = true → u.nat NZ_SNAP_STATE = 3 ∧ u.naz.snap = none) ∧
    (tokenPorts g ≠ [] ∨ snapUndefined l = false → u.nat NZ_SNAP_STATE = 1 ∧ u.naz.snap = some (Ts, l)) ∧
    (tokenPorts g ≠ [] → ∃ k ∈ u.naz.tokens, k.kind = 4 ∧ k.seq = u.naz.barrierSeq ∧ Sends u nkBarrier 0xFFFF k.payload ∧
      k.payload.drop 16 = padTo 32 (g.blob NZ_SNAP_OBJ)) ∧
    Frame (· ∈ [.naz, .obj NZ_SNAP_STATE, .raised]) g u)) ∧
  (∀ (s : State) (t : Nat), On s islStore →
    Yields (.snapshotLatch t) s (fun u =>
      (∀ q, s.naz.snap = some q → q.1 ≤ (s.at_ t).tbNs →
        u.blob NZ_SNAP_VAL = (q.2.map (snapValue (s.at_ t))).flatten ∧ u.naz.snap = none ∧ u.nat NZ_SNAP_STATE = 2 ∧ u.nat NZ_SNAP_T = q.1 ∧
        u.get NZ_SNAP_VER = counted32 (s.get NZ_SNAP_VER) 2) ∧
      (∀ q, s.naz.snap = some q → (s.at_ t).tbNs < q.1 → Frame (fun _ => False) s u) ∧
      Frame (· ∈ [.naz, .blob NZ_SNAP_VAL, .obj NZ_SNAP_STATE, .obj NZ_SNAP_T, .obj NZ_SNAP_VER]) s u)) ∧
  (∀ (s : State) (t : Nat) (b : By), Writes (.cascadeReset t b) s (s.at_ t) b NZ_CASC_RESET 1 (fun g u =>
    (∀ p : Fin 2, linkUp g p = true → Sends u nkCommand 0xFFFF (le 1 1 ++ zeros 3 ++ le 8 0)) ∧
    (if g.naz.addressed then (∃ r ∈ u.naz.repeats, r.2 = (le 1 1 ++ zeros 3 ++ le 8 0, 2)) ∧ Frame (· ∈ [.naz]) g u
    else Restarted g u ∧ u.power.held = false))) ∧
  (∀ (s : State) (t : Nat) (b : By) (v : BitVec 16), Writes (.cycleWrite t b v) s (s.at_ t) b NZ_CYCLE v.toNat (fun g u =>
    u.nat NZ_CYCLE = v.toNat ∧
    (isMaster g = true → ¬ (v.toNat = g.naz.cyc ∧ g.naz.change = none) → u.naz.change =
      some (ceilDiv (g.tbNs + 2 * cycNs g) (1000 * Nat.lcm g.naz.cyc v.toNat) * (1000 * Nat.lcm g.naz.cyc v.toNat), v.toNat)) ∧
    (isMaster g = false ∨ (v.toNat = g.naz.cyc ∧ g.naz.change = none) → Frame (· ∈ [.obj NZ_CYCLE]) g u) ∧ Frame (· ∈ [.obj NZ_CYCLE, .naz]) g u))

/-- Barrier tokens (R406): a plain token passes once the writes before it are settled or its deadline has come, and completes on
its return; a vote token collects the state of its transaction (R378), a query token the decisions held here (R379, R412), a
snapshot token arms the device or is flagged (R407), the enumeration token gives a newcomer its address (R404), and a token
that does not come back starts again. -/
def Obligations.BarrierTokens : Prop :=
  (∀ (s : State) (t : Nat) (p : Fin 2) (bs : Bytes) (f : NazF), On s (islNaz p) → Comes s p nkBarrier bs f → f.src ≠ s.nat DV_ADDRESS →
    numAt f.payload 0 1 = 1 → mergedAlready s f = false →
    Yields (.plainBarrier t p bs) s (fun u =>
      (settled (s.at_ t) (max s.now t) = true ∨ numAt f.payload 8 8 ≤ (s.at_ t).tbNs →
        Sends u nkBarrier f.dst (tokenPay f.payload false (f.payload.drop 16)) ∧ mergedAlready u f = true) ∧
      (settled (s.at_ t) (max s.now t) = false → (s.at_ t).tbNs < numAt f.payload 8 8 → ⟨p.val, f.bytes, max s.now t⟩ ∈ u.naz.held) ∧
      Frame (· ∈ [.naz]) s u)) ∧
  (∀ (s : State) (t : Nat) (p : Fin 2) (bs : Bytes) (f : NazF) (k : Token), On s (islNaz p) → Comes s p nkBarrier bs f →
    numAt f.payload 0 1 = 1 → ownToken s f = some k → k.missing ≤ 1 → k.merged = none →
    Yields (.plainBarrier t p bs) s (fun u =>
      u.get NZ_BARRIERS = counted32 (s.get NZ_BARRIERS) 1 ∧ u.get NZ_BARRIER_DONE = (s.at_ t).tbNs ∧
      (∀ x ∈ u.naz.tokens, x.seq ≠ k.seq) ∧ Frame (· ∈ [.naz, .obj NZ_BARRIERS, .obj NZ_BARRIER_DONE]) s u)) ∧
  (∀ (s : State) (t : Nat) (p : Fin 2) (bs : Bytes) (f : NazF), On s (islNaz p) → Comes s p nkBarrier bs f → f.src ≠ s.nat DV_ADDRESS →
    numAt f.payload 0 1 = 2 → mergedAlready s f = false →
    Yields (.voteBarrier t p bs) s (fun u =>
      let data := f.payload.drop 16
      (tokenTx s f = none → Sends u nkBarrier f.dst (tokenPay f.payload false data)) ∧
      (∀ x, tokenTx s f = some x →
        (x.st = 5 → numAt data 1 1 = 0 → Sends u nkBarrier f.dst
          (tokenPay f.payload false (data.take 1 ++ le 1 x.result ++ fieldAt data 2 22 ++ le 4 x.fail))) ∧
        (x.st = 3 → Sends u nkBarrier f.dst (tokenPay f.payload false data)) ∧
        (x.st ≠ 3 → x.st ≠ 5 → if numAt f.payload 8 8 ≤ (s.at_ t).tbNs then Sends u nkBarrier f.dst (tokenPay f.payload true data)
          else ⟨p.val, f.bytes, max s.now t⟩ ∈ u.naz.held)) ∧
      Frame (· ∈ [.naz]) s u)) ∧
  (∀ (s : State) (t : Nat) (p : Fin 2) (bs : Bytes) (f : NazF) (k : Token) (x : Tx), On s (islNaz p) → Comes s p nkBarrier bs f →
    numAt f.payload 0 1 = 2 → ownToken s f = some k → k.missing ≤ 1 → k.merged = none → s.tx (numAt f.payload 18 2) = some x →
    x.coord = none → x.decided = false → (x.st = 2 ∨ x.st = 3) → (numAt f.payload 17 1 ≠ 0 ∨ bitOf (numAt f.payload 1 1) 0 = true) →
    Yields (.voteBarrier t p bs) s (fun u =>
      (∃ y, u.tx x.id = some y ∧ y.st = 5 ∧ y.result = (if numAt f.payload 17 1 ≠ 0 then 7 else 0x0C)) ∧
      Frame (· ∈ [.txs, .obj TX_OPEN_COUNT, .obj TX_PROOF_USED, .obj TX_ABORTS, .raised, .sessions, .naz] ++ allSlots.map .slot) s u)) ∧
  (∀ (s : State) (t : Nat) (p : Fin 2) (bs : Bytes) (f : NazF), On s (islNaz p) → Comes s p nkBarrier bs f → f.src ≠ s.nat DV_ADDRESS →
    numAt f.payload 0 1 = 3 → mergedAlready s f = false →
    Yields (.queryBarrier t p bs) s (fun u =>
      let data := f.payload.drop 16
      let first := s.txs.find? (fun x => x.coord.isSome && x.decided && decide (x.st = 3))
      (first = none → Sends u nkBarrier f.dst (tokenPay f.payload false data)) ∧
      (∀ x, first = some x → numAt data 1 1 ≠ 0xFF →
        Sends u nkBarrier f.dst (tokenPay f.payload false (commitMsg 6 0xFF (coordOf x).2 (pointField x) 0 (coordOf x).1 (x.T.getD 0) 0))) ∧
      Frame (· ∈ [.naz]) s u)) ∧
  (∀ (s : State) (t : Nat) (p : Fin 2) (bs : Bytes) (f : NazF), On s (islNaz p) → Comes s p nkBarrier bs f → f.src ≠ s.nat DV_ADDRESS →
    numAt f.payload 0 1 = 4 → mergedAlready s f = false →
    Yields (.snapshotBarrier t p bs) s (fun u =>
      let data := f.payload.drop 16
      u.naz.snap = some (numAt f.payload 8 8, snapKeys data) ∧ u.nat NZ_SNAP_STATE = 1 ∧
      Sends u nkBarrier f.dst (tokenPay f.payload (snapUndefined (snapKeys data)) data) ∧
      Frame (· ∈ [.naz, .obj NZ_SNAP_STATE]) s u)) ∧
  (∀ (s : State) (t : Nat) (p : Fin 2) (bs : Bytes) (f : NazF) (k : Token), On s (islNaz p) → Comes s p nkBarrier bs f →
    numAt f.payload 0 1 = 4 → ownToken s f = some k → k.missing ≤ 1 → k.merged = none →
    Yields (.snapshotBarrier t p bs) s (fun u =>
      (if bitOf (numAt f.payload 1 1) 0 = true ∨ numAt f.payload 8 8 < (s.at_ t).tbNs then
        u.naz.snap = none ∧ u.nat NZ_SNAP_STATE = 3 ∧ ∀ q : Fin 2, linkUp s q = true → Sends u nkCommand 0xFFFF (le 1 3 ++ zeros 3 ++ le 8 0)
      else u.naz.snap = s.naz.snap ∧ u.nat NZ_SNAP_STATE = s.nat NZ_SNAP_STATE) ∧
      Frame (· ∈ [.naz, .obj NZ_SNAP_STATE, .raised]) s u)) ∧
  (∀ (s : State) (t : Nat) (p : Fin 2) (e : EnumIn) (f : NazF) (a : Nat), On s (islNaz p) → s.nat (NZ_LINK p.val) = 2 →
    NazF.parse e.bytes = some f → f.kind = nkBarrier → f.dst = 0xFFFF → numAt f.payload 0 1 = 5 → ownToken s f = none → s.nat NZ_ROLE ≠ 1 →
    mergedAlready s f = false → s.naz.addressed = false →
    (addressFor s (decide (numAt f.payload 16 1 = 1)) (numAt f.payload 20 32) (numAt f.payload 52 32) e.held).1 = some a →
    Yields (.enumerationBarrier t p e) s (fun u =>
      u.nat DV_ADDRESS = a ∧ u.nat NZ_GEN = f.gen ∧ u.nat NZ_ROLE = 2 ∧ u.nat NZ_STATE = 2 ∧ u.nat NZ_MASTER = f.src ∧
      u.naz.addressed = true ∧ u.naz.took = some a ∧ Sends u nkAnnounce f.src (announce u) ∧
      Sends u nkBarrier f.dst (f.payload.take 2 ++ le 2 (numAt f.payload 2 2 + 1 : Nat) ++ fieldAt f.payload 4 16 ++
        mapBytes (numAt f.payload 20 32 ||| 2 ^ a) ++ f.payload.drop 52) ∧
      Frame (· ∈ [.naz, .raised, .obj DV_ADDRESS, .obj NZ_GEN, .obj NZ_ROLE, .obj NZ_STATE, .obj NZ_MASTER]) s u)) ∧
  (∀ (s : State) (t q : Nat) (k : Token), Powered s (islNaz 1) → s.naz.held = [] → s.naz.tokens = [k] → k.seq = q → k.kind = 1 →
    k.since + ns (barrierTime s + 2000) ≤ max s.now t → tokenPorts s ≠ [] →
    Yields (.barrierTimeout t q) s (fun u =>
      u.naz.tokens.length = 1 ∧ (∃ m ∈ u.naz.tokens, m.kind = 1 ∧ m.seq = (s.naz.barrierSeq + 1) % 4294967296 ∧ m.since = max s.now t ∧ m.merged = none ∧
        m.payload.drop 8 = le 8 (numAt k.payload 8 8) ++ k.payload.drop 16 ∧ Sends u nkBarrier 0xFFFF m.payload) ∧
      Frame (· ∈ [.naz]) s u))

/-- Links (R389, R410): comma alignment starts training, a millisecond without a violation brings the link up, a loss takes it
down and opens the ring; LINK frames tell foreign cascades and ring changes; SYNC measures a link's delay (R401). -/
def Obligations.LinkCommands : Prop :=
  (∀ (s : State) (t : Nat) (p : Fin 2), On s (islNaz p) →
    Yields (.commaAlignmentGained t p) s (fun u =>
      (s.nat (NZ_LINK p.val) = 0 → u.nat (NZ_LINK p.val) = 1 ∧ (u.naz.ports.get p).aligned = some (max s.now t)) ∧
      (s.nat (NZ_LINK p.val) ≠ 0 → Frame (fun _ => False) s u) ∧ Frame (· ∈ [.naz, .obj (NZ_LINK p.val)]) s u)) ∧
  (∀ (s : State) (t : Nat) (p : Fin 2) (i : Nat), On s (islNaz p) → (s.naz.ports.get p).aligned = some i → s.nat (NZ_LINK p.val) = 1 →
    s.naz.pass = none →
    Yields (.linkUp t p) s (fun u =>
      (i + ms 1 ≤ max s.now t → u.nat (NZ_LINK p.val) = 2 ∧ Raises s u [(1, islNaz p, 0x62)] ∧
        Sends u nkLink 0xFFFF (le 8 (if s.naz.addressed then s.naz.masterSerial else 0) ++ le 2 (s.get NZ_GEN) ++ le 1 p.val ++ le 1 1 ++
          le 2 (nazSelf s))) ∧
      (max s.now t < i + ms 1 → Frame (fun _ => False) s u) ∧ Frame (· ∈ [.naz, .obj (NZ_LINK p.val), .obj NZ_STATE, .raised]) s u)) ∧
  (∀ (s : State) (t : Nat) (p : Fin 2) (n : Nat), On s (islNaz p) → s.nat (NZ_LINK p.val) ≠ 0 →
    Yields (.linkDown t p n) s (fun u =>
      u.nat (NZ_LINK p.val) = 0 ∧ u.get (NZ_CODE_ERR p.val) = counted32 (s.get (NZ_CODE_ERR p.val)) n ∧
      u.get (NZ_LINK_DOWNS p.val) = counted32 (s.get (NZ_LINK_DOWNS p.val)) 1 ∧ u.naz.ports.get p = NazPort.reset ∧
      (s.naz.addressed = true → s.nat NZ_RING = 1 → u.nat NZ_RING = 2) ∧
      (s.nat NZ_RING ≠ 1 → u.nat NZ_RING = s.nat NZ_RING) ∧
      Frame (· ∈ [.obj (NZ_CODE_ERR p.val), .obj (NZ_LINK p.val), .obj (NZ_LINK_DOWNS p.val), .naz, .obj NZ_RING, .raised,
        .obj NZ_STATE]) s u)) ∧
  (∀ (s : State) (t : Nat) (p : Fin 2) (bs : Bytes) (f : NazF), On s (islNaz p) → Heard s p nkLink bs f →
    Yields (.linkFrame t p bs) s (fun u =>
      let serial := numAt f.payload 0 8
      let gen := numAt f.payload 8 2
      let port := numAt f.payload 10 1
      let addr := numAt f.payload 12 2
      let foreign := f.hop = 0 ∧ addr ≠ 0xFFFE ∧ serial ≠ s.naz.masterSerial
      (foreign → u.nat (NZ_LINK p.val) = 3 ∧ Raises s u [(1, islNaz p, 0x69)] ∧
        (u.naz.ports.get p).other = some (serial, gen, addr)) ∧
      (¬foreign → addr ≠ 0xFFFE → gen = s.nat NZ_GEN → numAt f.payload 11 1 ≠ 1 →
        (addr, port) ∈ u.naz.downs ∧ (s.nat NZ_RING = 1 → u.nat NZ_RING = 2)) ∧
      (¬foreign → addr ≠ 0xFFFE → gen = s.nat NZ_GEN → numAt f.payload 11 1 = 1 → (addr, port) ∉ u.naz.downs ∧
        (s.nat NZ_RING = 2 → u.naz.downs = [] → s.naz.line = false ∨ (addr, port) ∉ s.naz.downs → u.naz.closing = true)) ∧
      Frame (· ∈ [.naz, .obj (NZ_LINK p.val), .raised, .obj NZ_RING]) s u)) ∧
  (∀ (s : State) (t : Nat) (p : Fin 2), On s (islNaz p) → (s.nat (NZ_LINK p.val) = 2 ∨ s.nat (NZ_LINK p.val) = 3) →
    Yields (.syncExchange t p) s (fun u =>
      (u.naz.ports.get p).exchange = ((s.naz.ports.get p).exchange + 1) % 4294967296 ∧
      Sends u nkSync 0xFFFF (zeros 4 ++ le 4 (u.naz.ports.get p).exchange ++ le 8 (64 * (s.at_ t).tb : Nat) ++ le 8 0 ++ le 8 0) ∧
      Frame (· ∈ [.naz]) s u)) ∧
  (∀ (s : State) (t : Nat) (p : Fin 2) (bs : Bytes) (f : NazF), On s (islNaz p) →
    (s.nat (NZ_LINK p.val) = 2 ∨ s.nat (NZ_LINK p.val) = 3) → NazF.parse bs = some f → f.kind = nkSync → f.dst = 0xFFFF →
    Yields (.syncFrame t p bs) s (fun u =>
      let now : Nat := 64 * (s.at_ t).tb
      let d : Rat := ((now : Int) - (numAt f.payload 8 8 : Nat) - ((numAt f.payload 24 8 : Nat) - (numAt f.payload 16 8 : Nat) : Int) : Int) / 2
      (numAt f.payload 0 1 = 0 → Sends u nkSync 0xFFFF (le 1 1 ++ zeros 3 ++ fieldAt f.payload 4 12 ++ le 8 now ++ le 8 now) ∧
        Frame (· ∈ [.naz]) s u) ∧
      (numAt f.payload 0 1 ≠ 0 → numAt f.payload 4 4 = (s.naz.ports.get p).exchange →
        (u.naz.ports.get p).delays = (d :: (s.naz.ports.get p).delays).take 16 ∧
        u.get (NZ_LINK_DELAY p.val) = max 0 (rnd (linkDelay u p * 1000 / 256)) % 4294967296) ∧
      Frame (· ∈ [.naz, .obj (NZ_LINK_DELAY p.val)]) s u))

/-- Election and enumeration (R402–R405): a lower key is noted and passed on; when the window closes the device stands alone,
becomes master and starts a pass, or follows; a newcomer that announces itself is noted, and the last one completes the pass; a
join pass runs every second while a device stays outside (R403). That NZ_CYCLE governs from the start of a pass is the model's
choice (log entry 97). -/
def Obligations.ElectionCommands : Prop :=
  (∀ (s : State) (t : Nat) (p : Fin 2) (bs : Bytes) (f : NazF), On s (islNaz p) → s.nat (NZ_LINK p.val) = 2 →
    NazF.parse bs = some f → f.kind = nkElect → f.dst = 0xFFFF → s.naz.addressed = false →
    Yields (.electFrame t p bs) s (fun u =>
      let k := keyOf (numAt f.payload 0 2) (numAt f.payload 2 8)
      (if (s.naz.lowest).all (fun l => decide (k < l)) = true then
        u.naz.lowest = some k ∧ u.naz.lowerAt = max s.now t ∧ u.naz.electFrom = some (s.naz.electFrom.getD (max s.now t)) ∧
          u.nat NZ_STATE = 1 ∧ (linkUp s (otherPort p) = true → Sends u nkElect 0xFFFF f.payload)
      else Frame (fun _ => False) s u) ∧ Frame (· ∈ [.naz, .obj NZ_STATE]) s u)) ∧
  (∀ (s : State) (t e : Nat), Powered s (islNaz 1) → s.naz.electFrom = some e → e + ms 10 ≤ max s.now t →
    s.naz.lowerAt + us 100 ≤ max s.now t →
    Yields (.electionWindowClose t) s (fun u =>
      (linkUp s 0 = false → linkUp s 1 = false → u.nat NZ_ROLE = 0 ∧ u.nat NZ_STATE = 0 ∧ u.nat NZ_RING = 0 ∧ u.nat DV_ADDRESS = 0 ∧
        u.nat NZ_COUNT = 1 ∧ u.nat NZ_MASTER = 0 ∧ u.nat NZ_STANDBY = 0xFFFF ∧ u.naz.addressed = true ∧ u.naz.cyc = s.nat NZ_CYCLE) ∧
      (linkUp s 0 = true ∨ linkUp s 1 = true →
        (s.naz.lowest = none → u.naz.electFrom = none ∧ u.nat NZ_STATE = 1 ∧ Raises s u [(1, islNaz 1, 0x6A)]) ∧
        (s.naz.lowest = some (ownKey s) → s.flag NZ_MASTER_CAP = true → u.nat NZ_ROLE = 1 ∧ u.nat NZ_STATE = 2 ∧ u.nat DV_ADDRESS = 0 ∧
          u.nat NZ_MASTER = 0 ∧ u.get NZ_GEN = (s.get NZ_GEN + 1) % 4294967296 % 65536 ∧ u.naz.addressed = true ∧ u.naz.cyc = s.nat NZ_CYCLE ∧
          u.naz.pass = some ⟨false, [], 0, none, false⟩ ∧ ∃ k ∈ u.naz.tokens, k.kind = 5 ∧ Sends u nkBarrier 0xFFFF k.payload) ∧
        (∀ k, s.naz.lowest = some k → k ≠ ownKey s ∨ s.flag NZ_MASTER_CAP = false → u.nat NZ_ROLE = 2 ∧ u.naz.electFrom = none)) ∧
      Frame (· ∈ [.obj NZ_ROLE, .obj NZ_STATE, .obj NZ_RING, .obj DV_ADDRESS, .obj NZ_COUNT, .obj NZ_MASTER, .obj NZ_STANDBY, .obj NZ_GEN,
        .obj NZ_MAP_VER, .blob NZ_PRESENT, .blob NZ_LOST, .blob NZ_ORDER] ++ closeParts) s u)) ∧
  (∀ (s : State) (t e : Nat), s.naz.electFrom = some e → (max s.now t < e + ms 10 ∨ max s.now t < s.naz.lowerAt + us 100) →
    Yields (.electionWindowClose t) s (fun u => Frame (fun _ => False) s u)) ∧
  (∀ (s : State) (t : Nat) (p : Fin 2) (bs : Bytes) (f : NazF) (off : Int) (barred : List Nat) (ps : Pass), On s (islNaz p) → Heard s p nkAnnounce bs f →
    s.naz.pass = some ps → ps.taken = none →
    Yields (.announceFrame t p bs ⟨off, barred⟩) s (fun u =>
      let m := announced p f off barred
      u.naz.pass = some { ps with ann := ps.ann.filter (fun (x : Member) => decide (x.addr ≠ m.addr)) ++ [m] } ∧ Frame (· ∈ [.naz]) s u)) ∧
  (∀ (s : State) (t : Nat) (p : Fin 2) (bs : Bytes) (f : NazF) (off : Int) (barred : List Nat) (tk : Nat) (up : Bool), On s (islNaz p) →
    Heard s p nkAnnounce bs f → s.naz.pass = some ⟨false, [], 0, some tk, up⟩ →
    (List.range 256).filter (fun d => bitOf tk d && decide (d ≠ 0) && decide (d ≠ s.nat DV_ADDRESS)) = [numAt f.payload 12 2] →
    joinReason s 1 (ownChans s) (announced p f off barred) = 0 →
    Yields (.announceFrame t p bs ⟨off, barred⟩) s (fun u =>
      u.naz.pass = none ∧ u.naz.members = [announced p f off barred] ∧ u.nat NZ_COUNT = 2 ∧ u.get NZ_MASTER = s.get DV_ADDRESS % 65536 ∧
      u.naz.startT = some (startAfter (s.at_ t) % 2 ^ 64) ∧ Raises s u [(1, islNaz 1, 0x60)] ∧
      Frame (· ∈ [.raised, .naz, .obj NZ_COUNT, .obj NZ_MASTER, .obj NZ_STANDBY, .blob NZ_PRESENT, .blob NZ_LOST, .blob NZ_ORDER,
        .obj NZ_MAP_VER, .obj NZ_ADDR_LAST, .obj NZ_RING]) s u)) ∧
  (∀ (s : State) (t : Nat), Powered s (islNaz 1) → s.nat NZ_ROLE = 1 → s.naz.outside = true → s.naz.pass = none →
    s.naz.joinAt + ms 1000 ≤ max s.now t → tokenPorts s ≠ [] →
    Yields (.joinPassTimer t) s (fun u =>
      u.naz.pass = some ⟨true, [], lostMap s, none, false⟩ ∧ u.naz.joinAt = max s.now t ∧
      (∃ k ∈ u.naz.tokens, k.kind = 5 ∧ Sends u nkBarrier 0xFFFF k.payload) ∧ Frame (· ∈ [.naz]) s u))

/-- Losing devices and the master (R411, R412): a silent or cut-off device is lost and its undecided transactions abort (R379), a
master in the minority steps down, and the standby takes over with a Query barrier that has passed a majority. That it then
changes to its own NZ_CYCLE is the model's choice (log entry 97). -/
def Obligations.MasterChange : Prop :=
  (∀ (s : State) (t d : Nat), Powered s (islNaz 1) → s.nat NZ_ROLE = 1 → d ≠ s.nat DV_ADDRESS → bitOf (presentMap s) d = true →
    (3 ≤ (AL.find s.naz.missing d).getD 0 ∨ ((d, 0) ∈ s.naz.downs ∧ (d, 1) ∈ s.naz.downs)) →
    Yields (.deviceLost t d) s (fun u =>
      u.blob NZ_PRESENT = mapBytes (presentMap s - 2 ^ d) ∧ u.blob NZ_LOST = mapBytes (lostMap s ||| 2 ^ d) ∧
      u.get NZ_MAP_VER = counted32 (s.get NZ_MAP_VER) 2 ∧ (∀ m ∈ u.naz.members, m.addr ≠ d) ∧
      (∃ e ∈ u.raised, e.cls = 6 ∧ e.isl = islNaz 1 ∧ e.detail = 3) ∧
      (∀ x ∈ s.txs, s.tx x.id = some x → x.live = true → x.coord = none → (∃ q ∈ x.parts, q.1 = d) → x.decided = false →
        ∃ y, u.tx x.id = some y ∧ y.st = 5 ∧ y.result = 0x0A ∧ y.fail = d * 16777216) ∧
      Frame (· ∈ [.naz, .blob NZ_PRESENT, .blob NZ_LOST, .blob NZ_ORDER, .obj NZ_MAP_VER, .txs, .obj TX_OPEN_COUNT, .obj TX_PROOF_USED,
        .obj TX_ABORTS, .obj TX_COMMITS, .sessions] ++ allAxes.flatMap levelParts ++ allSlots.map .slot) s u)) ∧
  (∀ (s : State) (t : Nat), Powered s (islNaz 1) →
    Yields (.masterStepDown t) s (fun u =>
      (if s.nat NZ_ROLE = 1 ∧ 3 ≤ s.naz.minority then
        u.nat NZ_ROLE = 2 ∧ u.nat NZ_STATE = 4 ∧ u.naz.frozen = none ∧ u.naz.pass = none ∧ u.naz.tokens = [] ∧ u.naz.repeats = [] ∧
          u.naz.minority = 0
      else Frame (fun _ => False) s u) ∧ Frame (· ∈ [.naz, .obj NZ_ROLE, .obj NZ_STATE]) s u)) ∧
  (∀ (s : State) (t r : Nat) (k : Ranking), Powered s (islNaz 1) → s.nat NZ_ROLE = 2 → s.naz.addressed = true → s.naz.cap = true →
    1 ≤ r → 2 * r ≤ s.naz.missedRun → s.naz.takingOver = false → (r = 1 → s.nat NZ_STANDBY = s.nat DV_ADDRESS) → s.naz.starts ≠ [] →
    s.naz.applied ≠ s.naz.starts.head? → tokenPorts s ≠ [] →
    Yields (.takeover t r k) s (fun u =>
      u.naz.takingOver = true ∧ u.naz.nextStandby = k.next ∧ u.naz.keys = k.keys ∧ u.naz.reports = [] ∧ u.naz.noDecision = false ∧
      (∃ k ∈ u.naz.tokens, k.kind = 3 ∧ k.since = max s.now t ∧ Sends u nkBarrier 0xFFFF k.payload) ∧
      Sends u nkTx 0xFFFF (commitMsg 5 0 0xFFFF 0 0 0 0 0) ∧ Frame (· ∈ [.naz]) s u)) ∧
  (∀ (s : State) (t : Nat) (p : Fin 2) (bs : Bytes) (f : NazF) (k : Token), On s (islNaz p) → Comes s p nkBarrier bs f →
    numAt f.payload 0 1 = 3 → ownToken s f = some k → k.missing ≤ 1 → k.merged = none → s.naz.takingOver = true →
    2 * (numAt f.payload 2 2 + 1) ≤ nazN s →
    Yields (.queryBarrier t p bs) s (fun u => u.naz.takingOver = false ∧ u.naz.reports = [] ∧ Raises s u [(6, islNaz 1, 0x06)] ∧
      Frame (· ∈ [.naz, .raised]) s u)) ∧
  (∀ (s : State) (t : Nat) (p : Fin 2) (bs : Bytes) (f : NazF) (k : Token), On s (islNaz p) → Comes s p nkBarrier bs f →
    numAt f.payload 0 1 = 3 → ownToken s f = some k → k.missing ≤ 1 → k.merged = none → s.naz.takingOver = true →
    nazN s < 2 * (numAt f.payload 2 2 + 1) → s.txs = [] →
    Yields (.queryBarrier t p bs) s (fun u => u.naz.takingOver = false ∧ u.nat NZ_ROLE = 1 ∧ u.get NZ_MASTER = s.get DV_ADDRESS ∧
      u.nat NZ_STATE = 3 ∧ u.nat NZ_STANDBY = s.naz.nextStandby ∧ u.naz.minority = 0 ∧ u.routes = [] ∧ u.flights = [] ∧
      (tMin (nazN s) ≤ 1000 * s.nat NZ_CYCLE → s.nat NZ_CYCLE ≠ s.naz.cyc → u.naz.change.map Prod.snd = some (s.nat NZ_CYCLE)) ∧
      Frame (· ∈ [.obj NZ_ROLE, .obj NZ_MASTER, .obj NZ_STATE, .obj NZ_STANDBY] ++ cycleParts ++ closeParts ++
        allAxes.flatMap (fun (a : Fin 4) => [.obj (A_TORQUE_CMD a), .obj (A_POS_REF a), .obj (A_PROF_SPEED a), .obj (A_PROF_ACCEL a),
          .obj (A_RENDER_STATE a), .obj (A_SNATCH_STATE a)])) s u))

/-- CAN frames (R422–R427): a frame taken goes to its entry or is lost and lowers the receive counter; one sent returns its entry
with status 2; a lost or failed one-shot returns with 5, an aborted one with 3; an error moves the counters and the state, up to
bus-off (R423); a protocol exception integrates again. -/
def Obligations.CanFrames : Prop :=
  (∀ (s : State) (t : Nat) (b : Fin 2) (w : Nat) (c : CanCtl) (bs : Bytes) (sof : Nat), canFrameOk w c bs = false →
    Yields (.canFrameTaken t b w c bs sof) s (fun u => Frame (fun _ => False) s u)) ∧
  (∀ (s : State) (t : Nat) (b : Fin 2) (w : Nat) (c : CanCtl) (bs : Bytes) (sof : Nat), On s (44 + b.val) → onBus s b = true →
    (s.cb b).mode ≠ 0 → canFrameOk w c bs = true → s.nat (CB_TEC b) ≤ 127 → ((s.cb b).mode = 2 → s.nat (CB_REC b) ≤ 127) →
    Yields (.canFrameTaken t b w c bs sof) s (fun u =>
      u.get (CB_RX_DONE b) = counted32 (s.get (CB_RX_DONE b)) 1 ∧ u.nat (CB_STATE b) = 2 ∧
      ((s.cb b).mode = 2 → u.get (CB_REC b) = s.get (CB_REC b)) ∧
      ((s.cb b).mode ≠ 2 → s.nat (CB_REC b) ≤ 127 → u.nat (CB_REC b) = s.nat (CB_REC b) - 1) ∧
      ((s.cb b).mode ≠ 2 → 127 < s.nat (CB_REC b) → 119 ≤ u.nat (CB_REC b) ∧ u.nat (CB_REC b) ≤ 127) ∧
      (forEngine s b w = false → ∀ e, entries.find? (fun e => entryMatches s b w e) = some e →
        u.nat (CB_Q_ID b e) = w ∧ u.nat (CB_Q_FLAGS b e) = c.fdf.toNat + 2 * c.brs.toNat + 4 * c.esi.toNat ∧ u.nat (CB_Q_LEN b e) = c.len ∧
        u.blob (CB_Q_DATA b e) = bs ∧ u.nat (CB_Q_STAMP b e) = (s.at_ t).stampOf sof ∧
        u.nat (CB_Q_STATUS b e) = 1 ∧ u.nat (CB_Q_OWNER b e) = 0 ∧
        Frame (· ∈ [.obj (CB_RX_DONE b), .obj (CB_REC b), .obj (CB_STATE b), .freeCtr, .can b, .obj (CB_Q_ID b e), .obj (CB_Q_FLAGS b e),
          .obj (CB_Q_LEN b e), .blob (CB_Q_DATA b e), .obj (CB_Q_STAMP b e), .obj (CB_Q_STATUS b e), .obj (CB_Q_OWNER b e)]) s u) ∧
      (forEngine s b w = false → entries.find? (fun e => entryMatches s b w e) = none →
        u.get (CB_RX_LOST b) = counted32 (s.get (CB_RX_LOST b)) 1 ∧
        Frame (· ∈ [.obj (CB_RX_DONE b), .obj (CB_REC b), .obj (CB_STATE b), .freeCtr, .can b, .obj (CB_RX_LOST b), .raised]) s u) ∧
      (forEngine s b w = true → Frame (· ∈ [.obj (CB_RX_DONE b), .obj (CB_REC b), .obj (CB_STATE b), .freeCtr, .can b]) s u))) ∧
  (∀ (s : State) (t : Nat) (b : Fin 2) (e : Fin 64) (sof tdc : Nat), On s (44 + b.val) → onBus s b = true → (s.cb b).mode = 1 →
    offered s b sof = some (some e) → s.nat (CB_TEC b) ≤ 128 → s.nat (CB_REC b) ≤ 127 →
    Yields (.canFrameSent t b (some e) sof tdc) s (fun u =>
      u.get (CB_TX_DONE b) = counted32 (s.get (CB_TX_DONE b)) 1 ∧ u.nat (CB_TEC b) = s.nat (CB_TEC b) - 1 ∧ u.nat (CB_STATE b) = 2 ∧
      u.nat (CB_Q_STATUS b e) = 2 ∧ u.nat (CB_Q_OWNER b e) = 0 ∧
      u.nat (CB_Q_STAMP b e) = (s.at_ t).stampOf sof ∧
      (s.flag (CB_TDC_EN b) = true → bitOf (s.nat (CB_Q_FLAGS b e)) 1 = true → u.nat (CB_TDC_MEAS b) = min 127 tdc) ∧
      Frame (· ∈ [.obj (CB_TX_DONE b), .obj (CB_TEC b), .obj (CB_STATE b), .obj (CB_Q_STATUS b e), .obj (CB_Q_OWNER b e),
        .obj (CB_Q_STAMP b e), .obj (CB_TDC_MEAS b), .can b]) s u)) ∧
  (∀ (s : State) (t : Nat) (b : Fin 2) (f : EngFrame) (sof tdc : Nat), On s (44 + b.val) → onBus s b = true → (s.cb b).mode = 1 →
    offered s b sof = some none → engineFirst (engineAt s b sof) = some f → s.nat (CB_TEC b) ≤ 128 → s.nat (CB_REC b) ≤ 127 →
    Yields (.canFrameSent t b none sof tdc) s (fun u =>
      u.get (CB_TX_DONE b) = counted32 (s.get (CB_TX_DONE b)) 1 ∧ u.nat (CB_TEC b) = s.nat (CB_TEC b) - 1 ∧
      (u.cb b).engine = (s.cb b).engine.erase f ∧
      Frame (· ∈ [.obj (CB_TX_DONE b), .obj (CB_TEC b), .obj (CB_STATE b), .obj (CB_TDC_MEAS b), .can b]) s u)) ∧
  (∀ (s : State) (t : Nat) (b : Fin 2) (q : Option (Fin 64)) (sof tdc : Nat), On s (44 + b.val) → offered s b sof ≠ some q →
    Yields (.canFrameSent t b q sof tdc) s (fun u => Frame (fun _ => False) s u)) ∧
  (∀ (s : State) (t : Nat) (b : Fin 2) (e : Fin 64), On s (44 + b.val) → mayBeOn s b e = false →
    Yields (.arbitrationLost t b (some e)) s (fun u => Frame (fun _ => False) s u)) ∧
  (∀ (s : State) (t : Nat) (b : Fin 2) (e : Fin 64), On s (44 + b.val) → mayBeOn s b e = true → txOwned s b e = true →
    Yields (.arbitrationLost t b (some e)) s (fun u =>
      (if e.val ∈ (s.cb b).aborting then u.nat (CB_Q_STATUS b e) = 3 ∧ u.nat (CB_Q_OWNER b e) = 0
      else if bitOf (s.nat (CB_Q_FLAGS b e)) 3 = true then u.nat (CB_Q_STATUS b e) = 5 ∧ u.nat (CB_Q_OWNER b e) = 0
      else Frame (fun _ => False) s u) ∧
      Frame (· ∈ [.obj (CB_Q_STATUS b e), .obj (CB_Q_OWNER b e), .can b]) s u)) ∧
  (∀ (s : State) (t : Nat) (b : Fin 2) (q : Option (Fin 64)) (tx : Bool) (n : IsoStep), On s (44 + b.val) → onBus s b = true →
    Yields (.canBusError t b q tx n) s (fun u =>
      let tec := if tx then min 256 (s.nat (CB_TEC b) + isoStep true n) else s.nat (CB_TEC b)
      let rec_ := if tx then s.nat (CB_REC b) else min 255 (s.nat (CB_REC b) + isoStep false n)
      u.get (CB_ERRORS b) = counted32 (s.get (CB_ERRORS b)) 1 ∧
      ((s.cb b).mode = 2 → u.nat (CB_STATE b) = 1 ∧ Frame (· ∈ [.obj (CB_ERRORS b), .obj (CB_STATE b)]) s u) ∧
      ((s.cb b).mode ≠ 2 → u.nat (CB_TEC b) = tec ∧ u.nat (CB_REC b) = rec_ ∧
        u.nat (CB_STATE b) = (if 255 < tec then (if s.flag (CB_AUTO_RECOVER b) then 5 else 4) else if 127 < tec ∨ 127 < rec_ then 3 else 2)) ∧
      ((s.cb b).mode ≠ 2 → 255 < tec → (∀ e : Fin 64, txOwned u b e = false) ∧ u.session (sidCan b) = none ∧ (u.cb b).engine = [] ∧
        u.get (CB_BUSOFF_COUNT b) = counted32 (s.get (CB_BUSOFF_COUNT b)) 1) ∧
      ((s.cb b).mode ≠ 2 → tec ≤ 255 →
        Frame (· ∈ [.obj (CB_ERRORS b), .obj (CB_TEC b), .obj (CB_REC b), .obj (CB_STATE b), .raised, .can b] ++ entryParts b) s u) ∧
      Frame (· ∈ [.obj (CB_ERRORS b), .obj (CB_TEC b), .obj (CB_REC b)] ++ busOffParts b) s u)) ∧
  (∀ (s : State) (t : Nat) (b : Fin 2), On s (44 + b.val) → onBus s b = true →
    Yields (.protocolException t b) s (fun u =>
      u.get (CB_PEXC b) = counted32 (s.get (CB_PEXC b)) 1 ∧ u.nat (CB_STATE b) = 1 ∧
      Frame (· ∈ [.obj (CB_PEXC b), .obj (CB_STATE b), .raised, .can b]) s u))

/-- CAN modes and entries (R420–R429): integration joins the bus and opens the reserved session, a written mode takes effect at the
next idle bus, bus-off is left by a recovery, entries are given to hardware and taken back, and the NMT commands for this node set
its state, pre-operational with the boot-up frame, and reset nothing (R429). -/
def Obligations.CanModes : Prop :=
  (∀ (s : State) (t : Nat) (b : Fin 2), On s (44 + b.val) →
    Yields (.busIntegrationComplete t b) s (fun u =>
      (s.nat (CB_STATE b) = 1 → u.nat (CB_STATE b) = (if 127 < s.nat (CB_TEC b) ∨ 127 < s.nat (CB_REC b) then 3 else 2) ∧
        (127 < s.nat (CB_TEC b) ∨ 127 < s.nat (CB_REC b) → ∃ l, Raises s u ((0xA, 44 + b.val, 0x70) :: l)) ∧
        (u.session (sidCan b)).isSome = true ∧ (s.flag (CB_NMT_AUTO b) = true → u.nat (CB_NMT_STATE b) = 5)) ∧
      (s.nat (CB_STATE b) ≠ 1 → Frame (fun _ => False) s u) ∧
      Frame (· ∈ [.can b, .obj (CB_STATE b), .obj (CB_NMT_STATE b), .sessions, .best, .bestAt, .obj SS_COUNT, .obj SS_GUAR_SUM, .obj SS_ROUTES,
        .raised]) s u)) ∧
  (∀ (s : State) (t : Nat) (b : By) (c : Fin 2) (m : BitVec 8), On s (44 + c.val) →
    Writes (.canModeWrite t b c m) s (s.at_ t) b (CB_MODE c) m.toNat (fun g u =>
      u.nat (CB_MODE c) = m.toNat ∧
      ((g.cb c).mode = m.toNat → (u.cb c).asked = none ∧ (u.cb c).mode = (g.cb c).mode) ∧
      ((g.cb c).mode ≠ m.toNat → (g.cb c).mode = 0 → (u.cb c).mode = m.toNat ∧ (u.cb c).asked = none ∧ u.nat (CB_STATE c) = 1) ∧
      ((g.cb c).mode ≠ m.toNat → (g.cb c).mode ≠ 0 → (u.cb c).mode = (g.cb c).mode ∧ (u.cb c).asked = some m.toNat) ∧
      Frame (· ∈ [.obj (CB_MODE c), .obj (CB_STATE c), .can c]) g u)) ∧
  (∀ (s : State) (t : Nat) (b : By) (c : Fin 2) (m : BitVec 8), s.nat (IS_STATE (44 + c.val)) = 3 → m ≠ 0 →
    Writes (.canModeWrite t b c m) s (s.at_ t) b (CB_MODE c) m.toNat (fun g u =>
      u.nat (CB_MODE c) = m.toNat ∧ (u.cb c).asked = some m.toNat ∧
      (g.nat (PW_DOM_STATE (114 + c.val)) = 0 → u.nat (PW_DOM_STATE (114 + c.val)) = 1) ∧
      Frame (· ∈ [.obj (CB_MODE c), .can c, .obj (PW_DOM_STATE (114 + c.val)), .obj PW_DAMP_QUEUE, .obj PW_DAMP_MAX_Q]) g u)) ∧
  (∀ (s : State) (t : Nat) (b : Fin 2) (v : Nat), On s (44 + b.val) → (s.cb b).asked = some v → s.nat (CB_STATE b) < 4 →
    Yields (.modeChangeAtIdle t b) s (fun u =>
      (u.cb b).mode = v ∧ (u.cb b).asked = none ∧
      (v = 0 → u.nat (CB_STATE b) = 0 ∧ (u.cb b).engine = [] ∧ (u.cb b).sdo = none ∧ ∀ e : Fin 64, txOwned u b e = false) ∧
      (v ≠ 0 → (s.cb b).mode = 0 → u.nat (CB_STATE b) = 1) ∧
      (v ≠ 0 → Frame (· ∈ [.can b, .obj (CB_STATE b)]) s u) ∧
      Frame (· ∈ [.can b, .obj (CB_STATE b), .obj (PW_DOM_STATE (114 + b.val)), .obj PW_DAMP_QUEUE, .obj PW_DAMP_MAX_Q,
        .obj (IS_STATE (44 + b.val))] ++ entryParts b) s u)) ∧
  (∀ (s : State) (t : Nat) (b : By) (c : Fin 2), Writes (.recover t b c) s (s.at_ t) b (CB_RECOVER c) 1 (fun g u =>
    u.nat (CB_STATE c) = (if g.nat (CB_STATE c) = 4 then 5 else g.nat (CB_STATE c)) ∧ Frame (· ∈ [.obj (CB_STATE c)]) g u)) ∧
  (∀ (s : State) (t : Nat) (b : Fin 2), On s (44 + b.val) → s.nat (CB_STATE b) = 5 → (s.cb b).asked = none →
    Yields (.busOffRecovered t b) s (fun u =>
      u.get (CB_TEC b) = 0 ∧ u.get (CB_REC b) = 0 ∧ u.nat (CB_STATE b) = 2 ∧ (u.session (sidCan b)).isSome = true ∧
      u.nat (CB_NMT_STATE b) = 0x7F ∧
      ((s.cb b).mode = 1 → (u.cb b).engine = (s.cb b).engine ++ [⟨0x700 + s.nat (CB_NODE_ID b), 0, [0], max s.now t⟩]) ∧
      (∃ l, Raises s u ((0xA, 44 + b.val, 0x72) :: l)) ∧
      Frame (· ∈ [.obj (CB_TEC b), .obj (CB_REC b), .obj (CB_STATE b), .obj (CB_NMT_STATE b), .can b, .sessions, .best, .bestAt,
        .obj SS_COUNT, .obj SS_GUAR_SUM, .obj SS_ROUTES, .raised]) s u)) ∧
  (∀ (s : State) (t : Nat) (b : By) (c : Fin 2) (q : Fin 64), Writes (.queueAck t b c q) s (s.at_ t) b (CB_Q_ACK c q) 1 (fun g u =>
    u.nat (CB_Q_OWNER c q) = 1 ∧ u.nat (CB_Q_STATUS c q) = 0 ∧ AL.find (u.cb c).ackAt q.val = some g.now ∧
    Frame (· ∈ [.obj (CB_Q_OWNER c q), .obj (CB_Q_STATUS c q), .can c]) g u)) ∧
  (∀ (s : State) (t : Nat) (b : By) (c : Fin 2) (q : Fin 64), Writes (.queueAbort t b c q) s (s.at_ t) b (CB_Q_ABORT c q) 1 (fun g u =>
    ((u.nat (CB_Q_OWNER c q) = 0 ∧ u.nat (CB_Q_STATUS c q) = 3) ∨ (mayBeOn g c q = true ∧ q.val ∈ (u.cb c).aborting)) ∧
    (mayBeOn g c q = false → u.nat (CB_Q_OWNER c q) = 0 ∧ u.nat (CB_Q_STATUS c q) = 3) ∧
    Frame (· ∈ [.freeCtr, .can c, .obj (CB_Q_OWNER c q), .obj (CB_Q_STATUS c q)]) g u)) ∧
  (∀ (s : State) (t : Nat) (b : Fin 2) (node : Nat), On s (44 + b.val) → onBus s b = true → (node = 0 ∨ node = s.nat (CB_NODE_ID b)) →
    Yields (.nmtStart t b node) s (fun u => u.nat (CB_NMT_STATE b) = 5 ∧ Frame (· ∈ [.obj (CB_NMT_STATE b)]) s u) ∧
    Yields (.nmtStop t b node) s (fun u => u.nat (CB_NMT_STATE b) = 4 ∧ Frame (· ∈ [.obj (CB_NMT_STATE b)]) s u)) ∧
  (∀ (s : State) (t : Nat) (b : Fin 2) (node : Nat) (c : Instr), c = .nmtPreOperational t b node ∨ c = .nmtResetNode t b node ∨
      c = .nmtResetCommunication t b node → On s (44 + b.val) → onBus s b = true → (node = 0 ∨ node = s.nat (CB_NODE_ID b)) →
    Yields c s (fun u => u.nat (CB_NMT_STATE b) = 0x7F ∧
      ((s.cb b).mode = 1 → (u.cb b).engine = (s.cb b).engine ++ [⟨0x700 + s.nat (CB_NODE_ID b), 0, [0], max s.now t⟩]) ∧
      ((s.cb b).mode ≠ 1 → u.cb b = s.cb b) ∧ Frame (· ∈ [.obj (CB_NMT_STATE b), .can b]) s u)) ∧
  (∀ (s : State) (t : Nat) (b : Fin 2) (node : Nat) (c : Instr), c = .nmtStart t b node ∨ c = .nmtStop t b node ∨
      c = .nmtPreOperational t b node ∨ c = .nmtResetNode t b node ∨ c = .nmtResetCommunication t b node → On s (44 + b.val) →
    onBus s b = false ∨ (node ≠ 0 ∧ node ≠ s.nat (CB_NODE_ID b)) → Yields c s (fun u => Frame (fun _ => False) s u))

/-- PDOs (R430, R431): an RPDO is held for SYNC, written at receipt, or lost; SYNC writes what is held and sends every nth TPDO; an
event-driven TPDO is sent when its time has come and it is not inhibited. -/
def Obligations.PdoCommands : Prop :=
  (∀ (s : State) (t : Nat) (b : Fin 2) (i : Fin 4) (bs : Bytes), On s (44 + b.val) → pdoRuns s b = true → pdoValid s b i = true →
    (bs.length < pdoBytes s b i ∨ s.nat (CB_PDO_TYPE b i) ≤ 240) →
    Yields (.rpdo t b i bs) s (fun u =>
      (bs.length < pdoBytes s b i → u.get (CB_PDO_LOST b) = counted32 (s.get (CB_PDO_LOST b)) 1 ∧ Frame (· ∈ [.obj (CB_PDO_LOST b)]) s u) ∧
      (pdoBytes s b i ≤ bs.length → AL.find (u.cb b).held i.val = some bs ∧ Frame (· ∈ [.can b]) s u))) ∧
  (∀ (s : State) (t : Nat) (b : Fin 2) (i : Fin 4) (a : Fin 4) (v : BitVec 32), On s (44 + b.val) → pdoRuns s b = true →
    pdoValid s b i = true → 240 < s.nat (CB_PDO_TYPE b i) → mapOfPdo s b i = [(A_TARGET_SPEED a, 32)] →
    accepts (s.at_ t) ⟨sidCan b, 9 + b.val⟩ (A_TARGET_SPEED a) (le 4 v.toInt) = true →
    Yields (.rpdo t b i (le 4 v.toInt)) s (fun u => u.get (A_TARGET_SPEED a) = v.toInt ∧
      Frame (· ∈ [.obj (A_TARGET_SPEED a), .txs] ++ portParts (9 + b.val)) (paid (s.at_ t) ⟨sidCan b, 9 + b.val⟩) u)) ∧
  (∀ (s : State) (t : Nat) (b : Fin 2), On s (44 + b.val) → pdoRuns s b = false →
    Yields (.canSync t b) s (fun u => Frame (fun _ => False) s u)) ∧
  (∀ (s : State) (t : Nat) (b : Fin 2) (i : Fin 4) (a : Fin 4) (v : BitVec 32), On s (44 + b.val) → pdoRuns s b = true →
    pdoValid s b i = true → (s.cb b).held = [(i.val, le 4 v.toInt)] → mapOfPdo s b i = [(A_TARGET_SPEED a, 32)] →
    (∀ j ∈ [4, 5, 6, 7], pdoValid s b j = false) →
    accepts (s.at_ t) ⟨sidCan b, 9 + b.val⟩ (A_TARGET_SPEED a) (le 4 v.toInt) = true →
    Yields (.canSync t b) s (fun u => u.get (A_TARGET_SPEED a) = v.toInt ∧ (u.cb b).held = [] ∧
      Frame (· ∈ [.can b, .obj (A_TARGET_SPEED a), .txs] ++ portParts (9 + b.val))
        (paid (s.at_ t) ⟨sidCan b, 9 + b.val⟩) u)) ∧
  (∀ (s : State) (t : Nat) (b : Fin 2) (a : Fin 4), On s (44 + b.val) → pdoRuns s b = true → (s.cb b).mode = 1 → (s.cb b).held = [] →
    pdoValid s b 4 = true → (∀ j ∈ [5, 6, 7], pdoValid s b j = false) → s.nat (CB_PDO_TYPE b 4) ≤ 240 →
    mapOfPdo s b 4 = [(A_TARGET_SPEED a, 32)] → ReadsSpeed (s.at_ t) (sidCan b) a → inhibitOver (s.at_ t) b 4 = true →
    Yields (.canSync t b) s (fun u =>
      let k := (AL.find (s.cb b).syncs 4).getD 0 + 1
      (k < s.nat (CB_PDO_TYPE b 4) → AL.find (u.cb b).syncs 4 = some k ∧ (u.cb b).engine = (s.cb b).engine) ∧
      (s.nat (CB_PDO_TYPE b 4) ≤ k → (u.cb b).engine = (s.cb b).engine ++ [⟨s.nat (CB_PDO_COBID b 4) % 2 ^ 30, s.nat (CB_PDO_FD b 4),
        le 4 (s.get (A_TARGET_SPEED a)), max s.now t⟩] ∧ AL.find (u.cb b).sentAt 4 = some (max s.now t)) ∧
      Frame (· ∈ [.can b] ++ portParts (9 + b.val)) s u)) ∧
  (∀ (s : State) (t : Nat) (b : Fin 2) (i : Fin 4) (a : Fin 4), On s (44 + b.val) → pdoRuns s b = true → (s.cb b).mode = 1 →
    pdoValid s b (4 + i.val) = true → 240 < s.nat (CB_PDO_TYPE b (4 + i.val)) → s.nat (CB_PDO_EVENT b (4 + i.val)) ≠ 0 →
    (∀ e, AL.find (s.cb b).eventAt (4 + i.val) = some e → e + ms (s.nat (CB_PDO_EVENT b (4 + i.val))) ≤ max s.now t) →
    mapOfPdo s b (4 + i.val) = [(A_TARGET_SPEED a, 32)] → ReadsSpeed (s.at_ t) (sidCan b) a → inhibitOver (s.at_ t) b (4 + i.val) = true →
    Yields (.tpdoEvent t b i) s (fun u =>
      (u.cb b).engine = (s.cb b).engine ++ [⟨s.nat (CB_PDO_COBID b (4 + i.val)) % 2 ^ 30, s.nat (CB_PDO_FD b (4 + i.val)),
        le 4 (s.get (A_TARGET_SPEED a)), max s.now t⟩] ∧
      AL.find (u.cb b).sentAt (4 + i.val) = some (max s.now t) ∧ AL.find (u.cb b).eventAt (4 + i.val) = some (max s.now t) ∧
      Frame (· ∈ [.can b] ++ portParts (9 + b.val)) s u))

/-- The clock reference, steps of the timebase and the journal (R441–R450): loss and return of the reference and the end of
holdover (R450), a step that counts and keeps what has elapsed (R442), the queue and the ring of the journal (R447), and a clock
or handshake fault of a running, watched island, which is shown, counted and decided by the table (R448, R449). -/
def Obligations.ClockCommands : Prop :=
  (∀ (s : State) (t : Nat), On s islTimebase → (s.nat TB_REF_STATE = 1 ∨ s.nat TB_REF_STATE = 2) →
    Yields (.referenceLoss t) s (fun u => u.nat TB_REF_STATE = 3 ∧ u.holdAt = some (max s.now t) ∧ Raises s u [(5, islTimebase, 5)] ∧
      Frame (· ∈ [.obj TB_REF_STATE, .holdAt, .raised]) s u)) ∧
  (∀ (s : State) (t h : Nat), On s islTimebase → s.nat TB_REF_STATE = 3 → s.holdAt = some h → max s.now t ≤ h + ms (s.nat TB_HOLDOVER) →
    Yields (.referenceReturn t) s (fun u => u.nat TB_REF_STATE = 2 ∧ u.holdAt = none ∧ Raises s u [(1, islTimebase, 0x78)] ∧
      Frame (· ∈ [.obj TB_REF_STATE, .holdAt, .raised]) s u)) ∧
  (∀ (s : State) (t h : Nat), On s islTimebase → s.nat TB_REF_STATE = 3 → s.holdAt = some h → h + ms (s.nat TB_HOLDOVER) ≤ max s.now t →
    Yields (.holdoverExpiry t) s (fun u => (∀ x : Fin 6, HeldOff u x) ∧ u.holdAt = none ∧ u.nat TB_REF_STATE = 3 ∧
      Frame (· ∈ .holdAt :: isolateParts) s u)) ∧
  (∀ (s : State) (t : Nat) (b : By) (v : BitVec 64), Writes (.timebaseSet t b v) s (s.at_ t) b TB_SET v.toNat (fun g u =>
    u.tb = 5 * ceilDiv (4 * v.toNat) 5 ∧ (v.toNat % 5 ≠ 4 → u.tbNs = v.toNat) ∧ u.now = g.now ∧ u.get TB_STEPS = counted32 (g.get TB_STEPS) 1 ∧
    u.get TB_LAST_STEP = (u.tbNs : Int) - g.tbNs ∧
    (∀ i : Fin 10, (g.nat (SS_LOCK_EXPIRY i) = 0 → u.nat (SS_LOCK_EXPIRY i) = 0) ∧
      (g.nat (SS_LOCK_EXPIRY i) ≠ 0 → (u.nat (SS_LOCK_EXPIRY i) : Int) =
        max 0 ((g.nat (SS_LOCK_EXPIRY i) : Int) + u.get TB_LAST_STEP))) ∧
    (∃ l, Raises g u ((1, islTimebase, 0x79) :: l)) ∧ Frame (· ∈ stepParts) g u)) ∧
  (∀ (s : State) (t i : Nat) (e : Entry), On s islJournal → s.raised[i]? = some e →
    Yields (.journalEntry t i) s (fun u =>
      let k := if s.jarr.1 = max s.now t then min s.jarr.2 s.jq.length else 0
      let n := s.jq.length - k
      u.raised = s.raised.eraseIdx i ∧ u.jarr.1 = max s.now t ∧ u.jq.take n = s.jq.take n ∧
      (((s.jq.drop n).map (·.isl)).Pairwise (· ≤ ·) → ((u.jq.drop n).map (·.isl)).Pairwise (· ≤ ·)) ∧
      (s.jq.length < queueSize → List.Perm u.jq (s.jq ++ [e]) ∧ (k = 0 → u.jq = s.jq ++ [e]) ∧ u.jarr.2 = k + 1 ∧
        u.nat JL_QUEUE = s.jq.length + 1 ∧ Frame (· ∈ [.raised, .jq, .jarr, .obj JL_QUEUE]) s u) ∧
      (s.jq.length = queueSize → u.jdrop = s.jdrop + 1 ∧ u.get JL_DROPPED = counted32 (s.get JL_DROPPED) 1 ∧
        (k = 0 → u.jq = s.jq) ∧ u.jarr.2 = k ∧ Frame (· ∈ [.raised, .jq, .jarr, .jdrop, .obj JL_DROPPED]) s u))) ∧
  (∀ (s : State) (t : Nat), On s islMram ∨ s.jq = [] → Yields (.journalWrite t) s (fun u => s.jq = [] → Frame (fun _ => False) s u)) ∧
  (∀ (s : State) (t : Nat) (e : Entry) (r : List Entry), On s islJournal → On s islMram → s.jq = e :: r → r.length < queueSize →
    Yields (.journalWrite t) s (fun u =>
      u.ring = e :: s.ring.take (ringSize - 1) ∧ u.get JL_NEXT = counted32 (s.get JL_NEXT) 1 ∧
      u.get JL_FIRST = (if ringSize ≤ s.ring.length then counted32 (s.get JL_FIRST) 1 else s.get JL_FIRST) ∧
      (s.jdrop = 0 → u.jq = r) ∧
      (0 < s.jdrop → u.jdrop = 0 ∧ (u.jq.map (fun e => (e.cls, e.detail))) = r.map (fun e => (e.cls, e.detail)) ++ [(0, 1)]) ∧
      u.nat JL_QUEUE = u.jq.length ∧
      Frame (· ∈ [.jq, .jdrop, .ring, .obj JL_NEXT, .obj JL_FIRST, .obj JL_VER, .obj JL_QUEUE]) s u)) ∧
  (∀ (s : State) (t : Nat) (i : Fin 64), On s islSelfTest → On s i.val → i.val ≠ 60 → i.val ≠ 63 →
    Yields (.clockFault t i) s (fun u => Faulted s u i.val 1)) ∧
  (∀ (s : State) (t : Nat) (i : Fin 64), On s islSelfTest → On s i.val →
    Yields (.handshakeFault t i) s (fun u => Faulted s u i.val 2))

/-- Modes (R491–R493, R500): a mode written waits for the next axis update, crash-stop and hold follow their request bits, and a
duty is taken as the target. -/
def Obligations.ModeCommands : Prop :=
  (∀ (s : State) (t : Nat) (b : By) (a : Fin 4) (m : BitVec 8), Writes (.modeWrite t b a m) s (s.at_ t) b (A_MODE a) m.toNat (fun g u =>
    (u.ax a).modeDue = (if m.toNat = g.nat (A_MODE a) then none else some m.toNat) ∧ u.get (A_MODE a) = g.get (A_MODE a) ∧
    Frame (· ∈ [.ax a]) g u)) ∧
  (∀ (s : State) (t : Nat) (b : By) (a : Fin 4) (on : Bool),
    Writes (.crashStopRequest t b a on) s (s.at_ t) b (A_EMERG_REQ a) (emergReq s a 1 on) (fun g u =>
      u.get (A_EMERG_REQ a) = emergReq s a 1 on ∧ bitOf (u.nat (A_EMERG_REQ a)) 0 = on ∧
      (on = false → bitOf (u.nat (A_EMERG_STATE a)) 0 = false) ∧
      (on = true → g.nat (SF_STATE a) ≠ 0 → bitOf (u.nat (A_EMERG_STATE a)) 0 = true) ∧
      (on = true → g.nat (SF_STATE a) ≠ 0 → bitOf (g.nat (A_EMERG_STATE a)) 0 = false →
        u.get (A_MD_DUTY a) = 0 ∧ u.get (A_MD_NOW a) = 0 ∧ u.get (A_RENDER_STATE a) = 0 ∧
        u.get (A_MODE a) = (if g.nat (A_MODE a) = 6 then g.get (A_TUNE_BASE a) else g.get (A_MODE a))) ∧
      (on = bitOf (g.nat (A_EMERG_STATE a)) 0 → bitOf (g.nat (A_EMERG_REQ a)) 1 = bitOf (g.nat (A_EMERG_STATE a)) 2 →
        Frame (· ∈ [.obj (A_EMERG_REQ a)]) g u) ∧
      Frame (· ∈ [.obj (A_EMERG_REQ a), .obj (A_MD_DUTY a), .obj (A_MD_NOW a), .obj (A_MODE a), .obj (A_RENDER_STATE a),
        .obj (A_GEAR_STATE a), .obj (A_GEAR_NEXT_DEN a), .raised] ++ profileParts a) g u)) ∧
  (∀ (s : State) (t : Nat) (b : By) (a : Fin 4) (on : Bool),
    Writes (.holdRequest t b a on) s (s.at_ t) b (A_EMERG_REQ a) (emergReq s a 2 on) (fun g u =>
      u.get (A_EMERG_REQ a) = emergReq s a 2 on ∧ bitOf (u.nat (A_EMERG_REQ a)) 1 = on ∧
      (on = false → bitOf (u.nat (A_EMERG_STATE a)) 2 = false) ∧
      (on = true → g.nat (SF_STATE a) ≠ 0 → bitOf (u.nat (A_EMERG_STATE a)) 2 = true) ∧
      (on = true → g.nat (SF_STATE a) ≠ 0 → bitOf (g.nat (A_EMERG_STATE a)) 2 = false → u.get (A_RENDER_STATE a) = 0) ∧
      (on = bitOf (g.nat (A_EMERG_STATE a)) 2 → bitOf (g.nat (A_EMERG_REQ a)) 0 = bitOf (g.nat (A_EMERG_STATE a)) 0 →
        Frame (· ∈ [.obj (A_EMERG_REQ a)]) g u) ∧
      Frame (· ∈ [.obj (A_EMERG_REQ a), .obj (A_MD_DUTY a), .obj (A_MD_NOW a), .obj (A_MODE a), .obj (A_RENDER_STATE a),
        .obj (A_GEAR_STATE a), .obj (A_GEAR_NEXT_DEN a), .raised] ++ profileParts a) g u)) ∧
  (∀ (s : State) (t : Nat) (b : By) (a : Fin 4) (v : BitVec 16),
    Writes (.manualDutyTarget t b a v) s (s.at_ t) b (A_MD_DUTY a) v.toNat (fun g u =>
      u.get (A_MD_DUTY a) = v.toInt ∧ Frame (· ∈ [.obj (A_MD_DUTY a)]) g u))

/-- Supplies (R456–R461): a warning starts Derate and its hold ends it, VBAK is lost and restored, a main failure resets the device
and hands Hearth over, and the return goes back to the main rails. -/
def Obligations.SupplyCommands : Prop :=
  (∀ (s : State) (t : Nat) (r : Fin 5) (mv : Nat), On s islPower → deviceUp s = true →
    Yields (.railWarning t r (.below mv)) s (fun u =>
      let l := (queued s).filter (fun d => decide (domClass d = 3))
      u.nat PW_RAIL_STATUS = s.nat PW_RAIL_STATUS ||| 2 ^ r.val ∧ u.get PW_WARNINGS = counted32 (s.get PW_WARNINGS) 1 ∧
      u.nat PW_STATE = 1 ∧ u.power = { s.power with warnedAt := max s.now t, waiting := s.power.waiting ++ l } ∧
      (∀ d ∈ l, u.nat (PW_DOM_STATE d) = 0) ∧ queued u = (queued s).filter (fun d => decide (domClass d ≠ 3)) ∧
      Raises s u [(0xB, islPower, 1)] ∧
      Frame (· ∈ [.obj PW_RAIL_STATUS, .obj PW_WARNINGS, .obj PW_STATE, .power, .raised, .obj PW_DAMP_QUEUE, .obj PW_DAMP_MAX_Q] ++
        l.map (fun d => .obj (PW_DOM_STATE d))) s u)) ∧
  (∀ (s : State) (t : Nat) (r : Fin 5), On s islPower → deviceUp s = true →
    Yields (.railWarning t r .recovered) s (fun u =>
      (∀ j : Fin 7, bitOf (u.nat PW_RAIL_STATUS) j = (decide (j.val ≠ r.val) && bitOf (s.nat PW_RAIL_STATUS) j)) ∧
      u.power = { s.power with warnedAt := max s.now t } ∧ Frame (· ∈ [.obj PW_RAIL_STATUS, .power]) s u)) ∧
  (∀ (s : State) (t : Nat), On s islPower → deviceUp s = true → s.nat PW_STATE = 1 → s.nat PW_RAIL_STATUS &&& 0x1F = 0 →
    s.power.warnedAt + ms (s.nat PW_DERATE_HOLD) ≤ max s.now t → (∀ d ∈ s.power.waiting, s.nat (PW_DOM_STATE d) = 0) →
    Yields (.derateEnd t) s (fun u =>
      u.nat PW_STATE = 0 ∧
      (∀ d ∈ s.power.waiting, u.nat (PW_DOM_STATE d) = 1) ∧ u.power = { s.power with waiting := [] } ∧
      Raises s u [(0xB, islPower, 2)] ∧
      Frame (· ∈ [.obj PW_STATE, .power, .raised, .obj PW_DAMP_QUEUE, .obj PW_DAMP_MAX_Q] ++
        s.power.waiting.map (fun d => .obj (PW_DOM_STATE d))) s u)) ∧
  (∀ (s : State) (t mv : Nat), On s islPower → s.power.source = 0 → s.power.vbak = true →
    Yields (.vbakLost t mv) s (fun u => bitOf (u.nat PW_RAIL_STATUS) 6 = true ∧ u.power = { s.power with vbak := false } ∧
      Raises s u [(0xB, islPower, 5)] ∧ Frame (· ∈ [.obj PW_RAIL_STATUS, .power, .raised]) s u)) ∧
  (∀ (s : State) (t mv : Nat), On s islPower → s.power.source = 0 → s.power.vbak = false →
    Yields (.vbakRestored t mv) s (fun u => bitOf (u.nat PW_RAIL_STATUS) 6 = false ∧ u.power = { s.power with vbak := true } ∧
      Raises s u [(0xB, islPower, 6)] ∧ Frame (· ∈ [.obj PW_RAIL_STATUS, .power, .raised]) s u)) ∧
  (∀ (s : State) (t : Nat), On s islPower →
    Yields (.vpdGood t) s (fun u => bitOf (u.nat PW_RAIL_STATUS) 5 = false ∧
      (deviceUp s = true → ∀ (n : Fin 18) (high : Bool), preDriverOn s (2 * n.val + if high then 0 else 1) = true → PinLeft s u n high) ∧
      Frame (· ∈ .obj PW_RAIL_STATUS :: allHbs.map .hb) s u)) ∧
  (∀ (s : State) (t : Nat) (r : Fin 4) (mv : Nat), s.power.source = 0 →
    Yields (.mainFailure t r mv) s (fun u => Restarted s u ∧ bitOf (u.nat PW_RAIL_STATUS) r = true ∧ u.power.held = true ∧
      (s.power.vbak = true → u.power.source = 1 ∧ u.power.supply = s.power.supply) ∧
      (s.power.vbak = false → u.power.source = 0 ∧ u.power.lost = true ∧ u.power.supply = []))) ∧
  (∀ (s : State) (t : Nat) (r : Fin 4) (mv : Nat), s.power.source = 3 →
    Yields (.mainFailure t r mv) s (fun u => bitOf (u.nat PW_RAIL_STATUS) r = true ∧ u.power.source = 2 ∧
      u.power.dwellFrom = max s.now t ∧ u.get PW_BACKUPS = counted32 (s.get PW_BACKUPS) 1 ∧ u.nat PW_LAST_BACKUP = u.tbNs ∧
      Frame (· ∈ [.obj PW_RAIL_STATUS, .power, .freeCtr, .obj PW_BACKUPS, .obj PW_LAST_BACKUP]) s u)) ∧
  (∀ (s : State) (t : Nat), s.power.source = 1 →
    Yields (.hearthHandoverDone t) s (fun u => u.power.source = 2 ∧ u.power.dwellFrom = max s.now t ∧
      u.get PW_BACKUPS = counted32 (s.get PW_BACKUPS) 1 ∧ u.nat PW_LAST_BACKUP = u.tbNs ∧
      (u.tbOff - s.tbOff).natAbs ≤ (max s.now t - s.power.countAt) / 10000 ∧
      Frame (· ∈ [.power, .freeCtr, .obj PW_BACKUPS, .obj PW_LAST_BACKUP]) s u)) ∧
  (∀ (s : State) (t good : Nat), s.power.source = 2 → s.power.dwellFrom + us (s.nat PW_DWELL) ≤ max s.now t →
    good + us (s.nat PW_GOOD_TIME) ≤ max s.now t →
    Yields (.returnStart t good) s (fun u => u.power = { s.power with source := 3 } ∧
      (∀ j : Fin 7, bitOf (u.nat PW_RAIL_STATUS) j = (decide (4 ≤ j.val) && bitOf (s.nat PW_RAIL_STATUS) j)) ∧
      Frame (· ∈ [.power, .obj PW_RAIL_STATUS]) s u)) ∧
  (∀ (s : State) (t : Nat), s.power.source = 3 → s.power.resetLow = true →
    Yields (.returnComplete t) s (fun u => u.power.source = 0 ∧ u.power.held = s.power.held ∧ u.nat PW_LAST_RETURN = u.tbNs ∧
      Frame (· ∈ [.power, .freeCtr, .obj PW_LAST_RETURN]) s u)) ∧
  (∀ (s : State) (t : Nat), s.power.source = 3 → s.power.resetLow = false →
    Yields (.returnComplete t) s (fun u => u.power.source = 0 ∧ u.power.held = false ∧ u.nat PW_LAST_RETURN = u.tbNs ∧
      (u.tbOff - s.tbOff).natAbs ≤ (max s.now t - s.power.countAt) / 10000 ∧
      (∀ d ∈ allDomains, keptOff s d = false → u.nat (PW_DOM_STATE d) = 1) ∧
      Frame (· ∈ [.power, .freeCtr, .obj PW_LAST_RETURN, .obj PW_RAIL_STATUS, .obj TB_REF_STATE, .obj PW_DAMP_QUEUE, .obj PW_DAMP_MAX_Q] ++
        allDomains.map (fun d => .obj (PW_DOM_STATE d))) s u)) ∧
  (∀ (s : State) (t : Nat), s.power.source ≠ 0 →
    Yields (.hearthPowerLost t) s (fun u =>
      u.power = { s.power with source := 0, held := true, lost := true, vbak := false, supply := [], dropped := 0 } ∧
      bitOf (u.nat PW_RAIL_STATUS) 6 = true ∧ u.get PW_LAST_BACKUP = 0 ∧
      Frame (· ∈ [.power, .obj PW_RAIL_STATUS, .obj PW_LAST_BACKUP]) s u))

/-- Resets and domains (R455, R465–R468): RESET_N resets the device, leaving reset queues the domains, Damper admits them in order
within its bounds, a domain comes on or fails, and the JTAG test is woken. -/
def Obligations.DomainCommands : Prop :=
  (∀ (s : State) (t good : Nat), s.power.source ≠ 0 →
    Yields (.resetN t) s (fun u => u.power = { s.power with resetLow := true } ∧ Frame (· ∈ [.power]) s u) ∧
    Yields (.leavingReset t good) s (fun u => u.power = { s.power with resetLow := false } ∧ Frame (· ∈ [.power]) s u)) ∧
  (∀ (s : State) (t : Nat), s.power.source = 0 →
    Yields (.resetN t) s (fun u => Restarted s u ∧ u.power.held = true ∧ u.power.resetLow = true ∧ u.power.source = 0 ∧ u.power.vbak = s.power.vbak ∧
      (∀ d ∈ allDomains, u.nat (PW_DOM_STATE d) = 0) ∧ ∀ i : Fin 64, i.val ≠ islPower → i.val ≠ 60 → u.nat (IS_STATE i) = 3)) ∧
  (∀ (s : State) (t good : Nat), s.power.source = 0 → s.power.held = true → good + us (s.nat PW_GOOD_TIME) ≤ max s.now t →
    Yields (.leavingReset t good) s (fun u => u.power = { s.power with held := false, outAt := max s.now t, resetLow := false } ∧ u.nat TB_REF_STATE = 1 ∧
      (∀ d ∈ allDomains, keptOff s d = false → u.nat (PW_DOM_STATE d) = 1) ∧
      (∀ d ∈ allDomains, keptOff s d = true → u.nat (PW_DOM_STATE d) = s.nat (PW_DOM_STATE d)) ∧
      u.nat PW_DAMP_QUEUE = (queued u).length ∧
      Frame (· ∈ [.power, .obj PW_RAIL_STATUS, .obj TB_REF_STATE, .obj PW_DAMP_QUEUE, .obj PW_DAMP_MAX_Q] ++
        allDomains.map (fun d => .obj (PW_DOM_STATE d))) s u)) ∧
  (∀ (s : State) (t : Nat), On s islPower → deviceUp s = true → (recentWakes (s.at_ t)).length ≤ 8 →
    ((recentWakes (s.at_ t)).map (fun e => domStep e.1)).sum ≤ 300 →
    Yields (.damperTick t) s (fun u =>
      let w := recentWakes u
      let sum := (w.map (fun e => domStep e.1)).sum
      let n := (queued s).length - (queued u).length
      queued u = (queued s).drop n ∧ (∀ d ∈ (queued s).take n, u.nat (PW_DOM_STATE d) = 2 ∧ (d, max s.now t) ∈ w) ∧
      w.length ≤ 8 ∧ sum ≤ 300 ∧ u.get PW_DAMP_WAKES = counted32 (s.get PW_DAMP_WAKES) n ∧
      (queued u = [] ∨ w.length = 8 → u.get PW_DAMP_HOLDS = s.get PW_DAMP_HOLDS) ∧
      (w.length < 8 → ∀ d, (queued u).head? = some d → 300 < sum + domStep d ∧
        u.get PW_DAMP_HOLDS = counted32 (s.get PW_DAMP_HOLDS) 1) ∧
      Frame (· ∈ [.power, .obj PW_DAMP_HOLDS, .obj PW_DAMP_WAKES, .obj PW_DAMP_QUEUE, .obj PW_DAMP_MAX_Q] ++
        (queued s).map (fun d => .obj (PW_DOM_STATE d))) s u)) ∧
  (∀ (s : State) (t : Nat) (d : Fin 132), On s islPower → s.nat (PW_DOM_STATE d) = 2 →
    (∀ b : Fin 2, d.val = 114 + b.val → (s.cb b).asked = none) →
    Yields (.domainOn t d) s (fun u => u.nat (PW_DOM_STATE d) = 3 ∧
      (∀ i, domIsland d = some i → u.nat (IS_STATE i) = (if s.nat (IS_STATE i) = 3 then 0 else s.nat (IS_STATE i))) ∧
      (∀ n : Fin 18, d.val / 2 = n.val → vpdGood s = true → PinLeft s u n (decide (d.val % 2 = 0))) ∧
      (36 ≤ d.val → Frame (fun z => z = .obj (PW_DOM_STATE d) ∨ ∃ i, domIsland d = some i ∧ z = .obj (IS_STATE i)) s u) ∧
      Frame (fun z => z ∈ .obj (PW_DOM_STATE d) :: allHbs.map .hb ∨ ∃ i, domIsland d = some i ∧ z = .obj (IS_STATE i)) s u)) ∧
  (∀ (s : State) (t : Nat) (d : Fin 132) (own : Fin 64), On s islPower → s.nat (PW_DOM_STATE d) = 2 →
    Yields (.domainWakeFailed t d own) s (fun u => u.nat (PW_DOM_STATE d) = 4 ∧ (∃ l, Raises s u ((0xB, islPower, 9) :: l)) ∧
      FaultDecided s u (wakeFaultIsland d own) ∧ Frame (fun z => z = .obj (PW_DOM_STATE d) ∨ outage z) s u)) ∧
  (∀ (s : State) (t : Nat), On s islPower → deviceUp s = true → s.nat (PW_DOM_STATE 131) ≠ 4 →
    Yields (.tapLeavingTestLogicReset ⟨t, true⟩) s (fun u => u.nat (PW_DOM_STATE 131) = 0 ∧ 131 ∉ u.power.waiting ∧
      (s.nat (IS_STATE 63) = 0 → u.nat (IS_STATE 63) = 3) ∧
      Frame (· ∈ [.power, .obj (PW_DOM_STATE 131), .obj PW_DAMP_QUEUE, .obj PW_DAMP_MAX_Q, .obj (IS_STATE 63)]) s u)) ∧
  (∀ (s : State) (t : Nat), On s islPower → deviceUp s = true → s.nat (IS_STATE 63) = 3 → s.nat (PW_DOM_STATE 131) = 0 →
    Yields (.tapLeavingTestLogicReset ⟨t, false⟩) s (fun u =>
      (s.nat PW_STATE ≠ 1 → u.nat (PW_DOM_STATE 131) = 1 ∧ u.power = s.power) ∧
      (s.nat PW_STATE = 1 → 131 ∈ u.power.waiting ∧ u.nat (PW_DOM_STATE 131) = 0) ∧
      Frame (· ∈ [.power, .obj (PW_DOM_STATE 131), .obj PW_DAMP_QUEUE, .obj PW_DAMP_MAX_Q]) s u))

/-- R469: a single-bit error of SRAM is counted; a double-bit error is counted, journalled and decided as a fault of the bank's
owner, and in proofing it aborts the transactions that it touches and is no store fault. -/
def Obligations.SramCommands : Prop :=
  (∀ (s : State) (t : Nat) (m : Fin 16), On s islPower →
    Yields (.sramSingleBitError t m) s (fun u => u.get PW_SRAM_CORR = counted32 (s.get PW_SRAM_CORR) 1 ∧
      (6 ≤ m.val → Frame (· ∈ [.obj PW_SRAM_CORR]) s u) ∧ Frame (· ∈ .obj PW_SRAM_CORR :: portParts 13) s u)) ∧
  (∀ (s : State) (t : Nat) (m : Fin 16) (proofing : Bool) (ids : List Nat) (own : Fin 64), On s islPower →
    (proofing = false ∨ 6 ≤ m.val) →
    Yields (.sramDoubleBitError t m proofing ids own) s (fun u => u.get PW_SRAM_UNCORR = counted32 (s.get PW_SRAM_UNCORR) 1 ∧
      (∃ l, Raises s u ((0xB, islPower, 0xA) :: l)) ∧ FaultDecided s u (bankOwner m own) ∧
      Frame (fun z => z ∈ .obj PW_SRAM_UNCORR :: portParts 13 ∨ outage z) s u)) ∧
  (∀ (s : State) (t : Nat) (m : Fin 16) (ids : List Nat) (own : Fin 64), On s islPower → m.val < 6 →
    Yields (.sramDoubleBitError t m true ids own) s (fun u => u.get PW_SRAM_UNCORR = counted32 (s.get PW_SRAM_UNCORR) 1 ∧
      (∃ l, Raises s u ((0xB, islPower, 0xA) :: l)) ∧
      (∀ i ∈ ids, ∀ x, s.tx i = some x → x.live = true → ∃ y, u.tx i = some y ∧ y.st = 5 ∧ y.result = 5) ∧
      Frame (· ∈ portParts 13 ++ [.obj PW_SRAM_UNCORR, .raised, .txs, .obj TX_OPEN_COUNT, .obj TX_PROOF_USED, .obj TX_ABORTS, .sessions, .naz,
        .obj NZ_SNAP_STATE] ++ allSlots.map .slot) s u))

/-- The reset sequence (R300, R462–R464, R510) and booting (R507, R509, R511, R513): steps 1 to 4, then the bank that boots, with
the parameter set restored. -/
def Obligations.BootCommands : Prop :=
  (∀ (s : State) (t : Nat) (bad : List Nat) (agree testA testB : Bool), deviceUp s = true → s.power.stage = 0 → allUp s = false →
    Yields (.resetSequence t bad agree testA testB) s (fun u => Frame (fun _ => False) s u)) ∧
  (∀ (s : State) (t : Nat) (bad : List Nat) (agree testA testB : Bool), deviceUp s = true → s.power.stage = 0 → allUp s = true →
    (∀ b : Fin 2, (s.cb b).asked = none) →
    Yields (.resetSequence t bad agree testA testB) s (fun u =>
      u.power.stage = 1 ∧ u.power.service = false ∧ u.power.supply = [] ∧ u.power.lost = false ∧ (s.power.lost = true → u.tb = 0) ∧
      u.nat TB_REF_STATE = 2 ∧ u.naz.electFrom = some (max s.now t) ∧
      (∀ d ∈ allDomains, s.nat (PW_DOM_STATE d) ≠ 4 → keptOff s d = false → u.nat (PW_DOM_STATE d) = 3 ∧
        ∀ i, domIsland d = some i → (s.nat (IS_STATE i) = 0 ∨ s.nat (IS_STATE i) = 3) → u.nat (IS_STATE i) = 0) ∧
      (u.chan 0).selfBad = !testA ∧ (u.chan 1).selfBad = !testB ∧
      (bestImage s = none → u.nat SF_CFG_STATE = 0) ∧
      (∀ m, bestImage s = some m → u.nat SF_CFG_GEN = m.gen ∧
        (agree = true ∧ checkValue m.vals = m.crc → u.nat SF_CFG_STATE = 4 ∧ (∀ c : Fin 2, (u.chan c).conf = m.vals) ∧
          u.cfgDue = true ∧ u.get SF_CRC_CONFIRMED = m.crc ∧ ∀ k ∈ sfyKeys, u.get k = valIn m.vals k) ∧
        (¬(agree = true ∧ checkValue m.vals = m.crc) → u.nat SF_CFG_STATE = 5 ∧ ∀ k ∈ sfyKeys, u.get k = Catalog.default k)) ∧
      (∀ k : Fin 64, u.flag (SS_KEY_SET k) =
        (decide (u.blob (SS_KEY k) ≠ []) && !(bad.any (fun b => decide (b / 256 = 0x1230 + k.val))))) ∧
      Frame (fun z => z ∈ [.power, .naz, .raised, .tongs, .cfgDue, .obj SF_CFG_STATE, .obj SF_CRC_CONFIRMED, .obj SF_CFG_GEN,
          .obj SF_LAST_CODE, .obj NZ_STATE, .obj TB_REF_STATE, .obj HP_PROVISIONED, .obj PW_DAMP_QUEUE, .obj PW_DAMP_MAX_Q] ++
        configParts ++ safeParts ++ closeParts ++ allDomains.map (fun d => .obj (PW_DOM_STATE d)) ++ (List.range 64).flatMap (fun i =>
          [.obj (IS_STATE i), .obj (SS_KEY_SET i), .obj (SS_KEY_EN i)]) ∨ (∃ k ∈ bad, keptKey k = true ∧ (z = .obj k ∨ z = .blob k))) s u)) ∧
  (∀ (s : State) (t : Nat) (v0 v1 : Option FwImg) (rec : Option (Fin 2 × Nat)) (set : Option (Nat × List (Nat × Bytes))),
    deviceUp s = true → s.power.stage = 1 → bootable s v0 = false → bootable s v1 = false →
    Yields (.bankLoaded t v0 v1 rec set) s (fun u => u.power = { s.power with stage := 2 } ∧ u.nat FW_STATE = 0 ∧
      Raises s u [(5, islSelfTest, 0x83)] ∧ Frame (· ∈ [.power, .fw, .raised, .obj FW_STATE, .obj FW_BOOT_BANK]) s u)) ∧
  (∀ (s : State) (t : Nat) (v0 v1 : Option FwImg) (rec : Option (Fin 2 × Nat)), deviceUp s = true → s.power.stage = 1 →
    (bootable s v0 = true ∨ bootable s v1 = true) →
    Yields (.bankLoaded t v0 v1 rec none) s (fun u =>
      let i0 := if bootable s v0 = true then v0 else none
      let i1 := if bootable s v1 = true then v1 else none
      let first := firstBank rec i0 i1
      let bank := if (if first = 0 then i0 else i1).isSome then first else 1 - first
      let img := if bank = 0 then i0 else i1
      u.nat FW_ACTIVE = bank ∧ u.fw.running = img ∧ (∀ i, img = some i → u.get FW_VERSION = i.version ∧ u.get FW_SEC_VERSION = i.sec) ∧
      u.nat FW_STATE = 1 ∧ u.nat FW_PAIRS = 3 ∧ u.power = { s.power with stage := 2, service := true } ∧
      (∀ r, rec = some r → u.nat FW_BOOT_BANK = r.1.val ∧ u.fw.bootGen = r.2) ∧ u.nat FW_PARAM_STATE = 0 ∧ u.nat FW_PARAM_GEN = 0 ∧
      Raises s u (if bank = first then [] else [(1, islBoot, 0x86)]) ∧
      Frame (· ∈ [.power, .fw, .raised, .obj FW_ACTIVE, .obj FW_VERSION, .obj FW_SEC_VERSION, .obj FW_STATE, .obj FW_PAIRS,
        .obj FW_BOOT_BANK, .obj FW_PARAM_STATE, .obj FW_PARAM_GEN]) s u)) ∧
  (∀ (s : State) (t gen key v : Nat) (bs : Bytes) (i : FwImg), deviceUp s = true → s.power.stage = 1 → bootable s (some i) = true →
    Catalog.find key = none → 100 ≤ v → v ≤ 60000 →
    Yields (.bankLoaded t (some i) none none (some (gen, [(key, bs), (FW_TRIAL_TIME, le 2 v)]))) s (fun u =>
      u.nat FW_ACTIVE = 0 ∧ u.nat FW_STATE = 1 ∧ u.power.service = true ∧ u.nat FW_TRIAL_TIME = v ∧ u.nat FW_PARAM_STATE = 1 ∧
      u.nat FW_PARAM_GEN = gen ∧ u.get FW_PARAM_FAILS = counted32 (s.get FW_PARAM_FAILS) 1 ∧ Raises s u [(1, islBoot, 0x88)] ∧
      Frame (· ∈ [.power, .fw, .raised, .txs, .obj FW_ACTIVE, .obj FW_VERSION, .obj FW_SEC_VERSION, .obj FW_STATE, .obj FW_PAIRS,
        .obj FW_TRIAL_TIME, .obj FW_PARAM_STATE, .obj FW_PARAM_GEN, .obj FW_PARAM_FAILS] ++ portParts 0) s u))

/-- The core pairs (R330, R506): a mismatch stops a pair, its restart returns it, and a queue that nobody serves restarts both;
each fails an image on trial (R517). -/
def Obligations.PairCommands : Prop :=
  (∀ (s : State) (t : Nat) (i : Fin 2) (granted : Bool), On s (40 + i.val) → bitOf (s.nat FW_PAIRS) i = true →
    Yields (.lockstepMismatch t i granted) s (fun u =>
      bitOf (u.nat FW_PAIRS) i = false ∧ u.get FW_LOCKSTEP_ERR = counted32 (s.get FW_LOCKSTEP_ERR) 1 ∧
      u.get (ST_GRANTS i) = (if granted then counted32 (s.get (ST_GRANTS i)) 1 else s.get (ST_GRANTS i)) ∧
      u.get ST_DEAD_CYCLES = (if granted then counted32 (s.get ST_DEAD_CYCLES) 1 else s.get ST_DEAD_CYCLES) ∧
      Raises s u [(5, 40 + i.val, 0x80)] ∧
      (if s.nat FW_UPD_STATE = 4 ∧ s.fw.handing = 0 then u.nat FW_UPD_STATE = 3 ∧ u.nat FW_STATE = 2 ∧ u.fw = { s.fw with handing := 2 }
      else u.get FW_UPD_STATE = s.get FW_UPD_STATE ∧ u.get FW_STATE = s.get FW_STATE ∧ u.fw = s.fw) ∧
      u.port = (if granted then { s.port with last := i } else s.port) ∧
      u.get ST_MAX_WAIT = (if granted then max 1 (s.get ST_MAX_WAIT) else s.get ST_MAX_WAIT) ∧
      Frame (· ∈ [.obj FW_PAIRS, .obj FW_LOCKSTEP_ERR, .obj (ST_GRANTS i), .obj ST_DEAD_CYCLES, .obj ST_MAX_WAIT, .port, .raised,
        .obj FW_UPD_STATE, .obj FW_STATE, .fw]) s u)) ∧
  (∀ (s : State) (t : Nat) (i : Fin 2), On s (40 + i.val) →
    Yields (.pairRestartComplete t i) s (fun u => bitOf (u.nat FW_PAIRS) i = true ∧ bitOf (u.nat FW_PAIRS) (1 - i.val) = bitOf (s.nat FW_PAIRS) (1 - i.val) ∧
      Frame (· ∈ [.obj FW_PAIRS]) s u)) ∧
  (∀ (s : State) (t : Nat), Powered s islSelfTest → s.queue ≠ [] → s.fw.takenAt + ms 10 ≤ max s.now t → s.fw.handing = 0 →
    s.nat FW_STATE ≠ 0 →
    Yields (.watchdogRestart t) s (fun u =>
      u.get FW_RESTARTS = counted32 (s.get FW_RESTARTS) 1 ∧ Raises s u [(5, 40, 0x81)] ∧ u.nat FW_UPD_STATE = 3 ∧ u.nat FW_STATE = 2 ∧
      u.fw = { s.fw with handing := if s.nat FW_UPD_STATE = 4 then 2 else 3 + 8 * s.nat FW_UPD_STATE } ∧
      Frame (· ∈ [.obj FW_RESTARTS, .raised, .obj FW_UPD_STATE, .obj FW_STATE, .fw]) s u))

/-- The SRAM copy of an image (R507, R509, R514): started afresh, extended, checked, and programmed into the other bank. -/
def Obligations.ImageCommands : Prop :=
  (∀ (s : State) (t : Nat) (b : By) (v : BitVec 32), Writes (.imageOffset t b v.toNat) s (s.at_ t) b FW_IMG_OFFSET v.toNat (fun g u =>
    (v = 0 → u.nat FW_IMG_OFFSET = 0 ∧ u.nat FW_IMG_STATE = 0 ∧ u.fw = { g.fw with img := [], ready := none }) ∧
    (v ≠ 0 → g.get FW_IMG_OFFSET = v.toNat ∧ Frame (fun _ => False) g u) ∧
    Frame (· ∈ [.obj FW_IMG_OFFSET, .obj FW_IMG_STATE, .fw]) g u)) ∧
  (∀ (s : State) (t : Nat) (b : By) (bs : Bytes), accepts (s.at_ t) b FW_IMG_DATA bs = true →
    Yields (.imageData t b bs) s (fun u => .result 0 [] ∈ u.outs ∧ u.fw = { s.fw with img := s.fw.img ++ bs, ready := none } ∧
      u.nat FW_IMG_OFFSET = s.fw.img.length + bs.length ∧ u.nat FW_IMG_STATE = 1 ∧
      Frame (· ∈ [.obj FW_IMG_OFFSET, .obj FW_IMG_STATE, .fw]) (ready (s.at_ t) b FW_IMG_DATA bs.length) u)) ∧
  (∀ (s : State) (t : Nat) (b : By), Writes (.imageVerify t b 1) s (s.at_ t) b FW_IMG_VERIFY 1 (fun g u =>
    u.nat FW_IMG_RESULT = imageCode g g.fw.img ∧ u.get FW_IMG_VERSION = (headerOf g.fw.img).version ∧ u.fw = g.fw ∧
    (if imageCode g g.fw.img = 0 then u.nat FW_IMG_STATE = 2 ∧
      .flash (0x100000 * spareBank g) (g.fw.img.take (256 + ofLe (fieldAt g.fw.img 8 4))) ∈ u.outs ∧ u.raised = g.raised
    else u.nat FW_IMG_STATE = 4 ∧ Raises g u [(1, islBoot, 0x81)]) ∧
    Frame (· ∈ [.obj FW_IMG_STATE, .obj FW_IMG_RESULT, .obj FW_IMG_VERSION, .raised]) g u)) ∧
  (∀ (s : State) (t : Nat) (b : By), Writes (.imageVerify t b 0) s (s.at_ t) b FW_IMG_VERIFY 0 (fun g u => Frame (fun _ => False) g u)) ∧
  (∀ (s : State) (t : Nat), On s islBoot → s.nat FW_IMG_STATE = 2 → (s.nat FW_STATE ≠ 0 ∨ s.power.stage ≠ 2) →
    Yields (.imageProgrammed t true) s (fun u => u.nat FW_IMG_STATE = 3 ∧ u.fw = { s.fw with ready := some (headerOf s.fw.img) } ∧
      Raises s u [(1, islBoot, 0x80)] ∧ Frame (· ∈ [.obj FW_IMG_STATE, .fw, .raised]) s u)) ∧
  (∀ (s : State) (t : Nat), On s islBoot → s.nat FW_IMG_STATE = 2 → s.nat FW_STATE = 0 → s.power.stage = 2 →
    Yields (.imageProgrammed t true) s (fun u => Restarted s u ∧ u.power.stage = 0 ∧ u.power.held = false)) ∧
  (∀ (s : State) (t : Nat), On s islBoot → s.nat FW_IMG_STATE = 2 →
    Yields (.imageProgrammed t false) s (fun u => u.nat FW_IMG_STATE = 4 ∧ u.nat FW_IMG_RESULT = 8 ∧
      Raises s u [(1, islBoot, 0x81)] ∧ Frame (· ∈ [.obj FW_IMG_STATE, .obj FW_IMG_RESULT, .raised]) s u))

/-- Hand-overs (R515–R517): at a quiet instant or given up, to the new image on trial, back to the old one or to the same after a
restart; a trial that passes writes the boot record. -/
def Obligations.UpdateCommands : Prop :=
  (∀ (s : State) (t a : Nat) (i : FwImg), On s islBoot → s.fw.armedAt = some a → s.fw.ready = some i → s.nat FW_UPD_STATE = 2 →
    a ≤ max s.now t → quiet s = true →
    Yields (.handOver t) s (fun u => u.nat FW_ACTIVATE = 0 ∧ u.nat FW_UPD_STATE = 3 ∧ u.nat FW_STATE = 2 ∧
      u.fw = { s.fw with armedAt := none, handing := 1 } ∧
      Frame (· ∈ [.obj FW_ACTIVATE, .obj FW_UPD_STATE, .obj FW_STATE, .fw]) s u)) ∧
  (∀ (s : State) (t a : Nat), On s islBoot → s.fw.armedAt = some a → s.nat FW_UPD_STATE = 2 →
    a + ms (s.nat FW_QUIET_TIMEOUT) ≤ max s.now t →
    Yields (.quietTimeout t) s (fun u => u.nat FW_ACTIVATE = 0 ∧ u.nat FW_UPD_STATE = 7 ∧ u.fw = { s.fw with armedAt := none } ∧
      Raises s u [(1, islBoot, 0x85)] ∧ Frame (· ∈ [.obj FW_ACTIVATE, .obj FW_UPD_STATE, .fw, .raised]) s u)) ∧
  (∀ (s : State) (t pause : Nat) (good : Bool) (i : FwImg), On s islBoot → s.fw.handing = 1 → s.fw.ready = some i →
    Yields (.handOverEnd t pause good) s (fun u => u.nat FW_ACTIVE = spareBank s ∧ u.get FW_VERSION = i.version ∧
      u.get FW_SEC_VERSION = i.sec ∧ u.nat FW_PAUSE_LAST = min pause 12000 ∧ u.nat FW_IMG_STATE = 5 ∧
      u.fw = { s.fw with running := some i, held := s.fw.running, handing := if good then 0 else 2, takenAt := max s.now t,
                         trialFrom := max s.now t } ∧
      u.nat FW_UPD_STATE = (if good then 4 else 3) ∧ u.nat FW_STATE = (if good then 3 else 2) ∧ Raises s u [(1, islBoot, 0x82)] ∧
      Frame (· ∈ [.obj FW_ACTIVE, .obj FW_VERSION, .obj FW_SEC_VERSION, .obj FW_PAUSE_LAST, .obj FW_IMG_STATE, .obj FW_UPD_STATE,
        .obj FW_STATE, .fw, .raised]) s u)) ∧
  (∀ (s : State) (t pause : Nat) (good : Bool) (i : FwImg), On s islBoot → s.fw.handing = 2 → s.fw.held = some i →
    Yields (.handOverEnd t pause good) s (fun u => u.nat FW_ACTIVE = spareBank s ∧ u.get FW_VERSION = i.version ∧
      u.get FW_SEC_VERSION = i.sec ∧ u.nat FW_PAUSE_LAST = min pause 12000 ∧ u.nat FW_IMG_STATE = 0 ∧
      u.fw = { s.fw with running := some i, held := none, ready := none, handing := 0, takenAt := max s.now t } ∧
      u.nat FW_UPD_STATE = 6 ∧ u.nat FW_STATE = 1 ∧ Raises s u [(1, islBoot, 0x82), (1, islBoot, 0x84)] ∧
      Frame (· ∈ [.obj FW_ACTIVE, .obj FW_VERSION, .obj FW_SEC_VERSION, .obj FW_PAUSE_LAST, .obj FW_IMG_STATE, .obj FW_UPD_STATE,
        .obj FW_STATE, .fw, .raised]) s u)) ∧
  (∀ (s : State) (t pause : Nat) (good : Bool), On s islBoot → 3 ≤ s.fw.handing →
    Yields (.handOverEnd t pause good) s (fun u => u.nat FW_PAUSE_LAST = min pause 12000 ∧ u.nat FW_PAIRS = 3 ∧
      u.nat FW_UPD_STATE = s.fw.handing / 8 ∧ u.nat FW_STATE = (if s.fw.handing / 8 = 4 then 3 else 1) ∧
      u.fw = { s.fw with handing := 0, takenAt := max s.now t } ∧ Raises s u [(1, islBoot, 0x82)] ∧
      Frame (· ∈ [.obj FW_PAUSE_LAST, .obj FW_PAIRS, .obj FW_UPD_STATE, .obj FW_STATE, .fw, .raised]) s u)) ∧
  (∀ (s : State) (t : Nat), On s islBoot → s.nat FW_UPD_STATE = 4 → s.fw.handing = 0 →
    s.fw.trialFrom + ms (s.nat FW_TRIAL_TIME) ≤ max s.now t →
    Yields (.trialEnd t) s (fun u => u.nat FW_BOOT_BANK = s.nat FW_ACTIVE ∧ u.nat FW_UPD_STATE = 5 ∧ u.nat FW_IMG_STATE = 0 ∧
      u.nat FW_STATE = 1 ∧ u.fw = { s.fw with held := none, ready := none, bootGen := (s.fw.bootGen + 1) % 4294967296 } ∧
      .flash 0x280000 (bootRecord (s.nat FW_ACTIVE) ((s.fw.bootGen + 1) % 4294967296)) ∈ u.outs ∧ Raises s u [(1, islBoot, 0x83)] ∧
      Frame (· ∈ [.obj FW_BOOT_BANK, .obj FW_UPD_STATE, .obj FW_IMG_STATE, .obj FW_STATE, .fw, .raised]) s u))

/-- The parameter set (R512, R513), the fuses (R519), the ADC reference round (R520, R521) and the hold for repair (R522). -/
def Obligations.ServiceCommands : Prop :=
  (∀ (s : State) (t : Nat) (b : By), Writes (.paramSave t b 1) s (s.at_ t) b FW_PARAM_SAVE 1 (fun g u =>
    u.nat FW_PARAM_STATE = 3 ∧ u.fw = { g.fw with saving := true } ∧
    (let gen := g.nat FW_PARAM_GEN + 1
     .flash (paramArea gen + 32) (paramSet g gen).2 ∈ u.outs ∧ .flash (paramArea gen) (paramSet g gen).1 ∈ u.outs) ∧
    Frame (· ∈ [.obj FW_PARAM_STATE, .fw]) g u)) ∧
  (∀ (s : State) (t : Nat) (b : By), Writes (.paramSave t b 0) s (s.at_ t) b FW_PARAM_SAVE 0 (fun g u => Frame (fun _ => False) g u)) ∧
  (∀ (s : State) (t : Nat), On s islBoot → s.fw.saving = true →
    Yields (.paramSaveComplete t) s (fun u => u.nat FW_PARAM_GEN = s.nat FW_PARAM_GEN + 1 ∧ u.nat FW_PARAM_STATE = 4 ∧
      u.fw = { s.fw with saving := false } ∧ Raises s u [(1, islBoot, 0x87)] ∧
      Frame (· ∈ [.obj FW_PARAM_GEN, .obj FW_PARAM_STATE, .fw, .raised]) s u)) ∧
  (∀ (s : State) (t : Nat) (b : By), Writes (.paramErase t b 1) s (s.at_ t) b FW_PARAM_ERASE 1 (fun g u =>
    u.nat FW_PARAM_GEN = 0 ∧ .flashErase 0x200000 0x40000 ∈ u.outs ∧ .flashErase 0x240000 0x40000 ∈ u.outs ∧
    Frame (· ∈ [.obj FW_PARAM_GEN]) g u)) ∧
  (∀ (s : State) (t : Nat) (b : By), Writes (.paramErase t b 0) s (s.at_ t) b FW_PARAM_ERASE 0 (fun g u => Frame (fun _ => False) g u)) ∧
  (∀ (s : State) (t : Nat) (b : By) (i : FwImg), s.fw.running = some i →
    Writes (.securityCommit t b 1) s (s.at_ t) b FW_SEC_COMMIT 1 (fun g u =>
      g.nat FW_SEC_MIN < i.sec ∧ u.nat FW_SEC_MIN = i.sec ∧ Raises g u [(1, islBoot, 0x8A)] ∧
      Frame (· ∈ [.obj FW_SEC_MIN, .raised]) g u)) ∧
  (∀ (s : State) (t : Nat) (b : By), Writes (.securityCommit t b 0) s (s.at_ t) b FW_SEC_COMMIT 0 (fun g u => Frame (fun _ => False) g u)) ∧
  (∀ (s : State) (t : Nat) (b : By) (v : Fin 16), Writes (.keyRevoke t b v.val) s (s.at_ t) b FW_KEY_REVOKE v.val (fun g u =>
    u.nat FW_KEY_STATE = g.nat FW_KEY_STATE ||| v.val ∧ (∀ i, g.fw.running = some i → i.key < 4 → bitOf v.val i.key = false) ∧
    Frame (· ∈ [.obj FW_KEY_STATE]) g u)) ∧
  (∀ (s : State) (t : Nat) (x : Fin 6) (z0 h0 z1 h1 v : Int), On s islSelfTest → Runs s x →
    (∀ a, s.fw.rounds.get x = some a → a + ms (s.nat FW_ST_PERIOD) ≤ max s.now t) →
    Yields (.adcSelfTest t x z0 h0 z1 h1 v) s (fun u =>
      let tol := s.get FW_ST_REF_TOL
      let off0 := tol < (z0.natAbs : Int) ∨ tol < ((h0 - 4096).natAbs : Int)
      let off1 := tol < (z1.natAbs : Int) ∨ tol < ((h1 - 4096).natAbs : Int)
      let offV := tol < ((v - 2048).natAbs : Int)
      u.fw.rounds.get x = some (max s.now t) ∧
      (¬(off0 ∨ off1 ∨ offV) → u.get FW_ST_PASSES = counted32 (s.get FW_ST_PASSES) 1 ∧ Frame (· ∈ [.fw, .obj FW_ST_PASSES]) s u) ∧
      (off0 ∨ off1 ∨ offV → u.get FW_ST_FAILS = counted32 (s.get FW_ST_FAILS) 1 ∧ HeldOff u x ∧
        (∃ l, Raises s u ((5, islSelfTest, 0x82) :: l)) ∧ Frame (· ∈ [.fw, .obj FW_ST_FAILS] ++ isolateParts) s u))) ∧
  (∀ (s : State) (t : Nat) (b : By) (x : Fin 6) (v : Fin 2), Writes (.sectionService t b x v.val) s (s.at_ t) b (S_SERVICE x) v.val (fun g u =>
    u.nat (S_SERVICE x) = v.val ∧ (v = 1 → g.nat (S_STATE x) = 0 ∨ g.nat (S_STATE x) = 4) ∧ Frame (· ∈ [.obj (S_SERVICE x)]) g u))
end

