-- ==== Sys2Proof/Laws/Bytes.lean ====
section
/-! SUPPORT. Numbers written as bytes and read back, and NazLink frames read back from their bytes. -/

namespace Sys2Proof.Machine

/-- n bytes are written. -/
theorem le_length (n : Nat) (v : Int) : (le n v).length = n := by simp [le]

/-- The least significant byte comes first. -/
theorem le_succ (n : Nat) (v : Int) : le (n + 1) v = BitVec.ofInt 8 v :: le n (v / 256) := by
  unfold le
  rw [List.range_succ_eq_map]
  simp only [List.map_cons, List.map_map]
  congr 1
  · simp
  · apply List.map_congr_left
    intro i _
    simp only [Function.comp]
    congr 1
    rw [Int.ediv_ediv_of_nonneg (by norm_num)]
    congr 1
    push_cast
    rw [pow_succ]
    ring

/-- Bytes read back the number they were written from, modulo their range. -/
theorem ofLe_le (n v : Nat) : ofLe (le n (v : Int)) = v % 256 ^ n := by
  induction n generalizing v with
  | zero => simp [le, ofLe, Nat.mod_one]
  | succ n ih =>
    rw [le_succ]
    have h : ((v : Int) / 256) = ((v / 256 : Nat) : Int) := by push_cast; rfl
    rw [h]
    simp only [ofLe, ih]
    rw [pow_succ', Nat.mod_mul]
    simp

/-- One byte keeps the CRC within 32 bits. -/
theorem crcByte_lt (c : Nat) (b : Byte) (h : c < 2 ^ 32) : crcByte 0x82F63B78 c b < 2 ^ 32 := by
  unfold crcByte
  have step : ∀ l : List Nat, ∀ c < 2 ^ 32, l.foldl (fun c _ => crcBit 0x82F63B78 c) c < 2 ^ 32 := by
    intro l
    induction l with
    | nil => intro c h; exact h
    | cons a l ih =>
      intro c h
      refine ih _ ?_
      unfold crcBit
      beta_reduce
      split
      · exact Nat.xor_lt_two_pow (by omega) (by norm_num)
      · omega
  exact step _ _ (Nat.xor_lt_two_pow h (lt_trans b.isLt (by norm_num)))

/-- The CRC is a 32-bit number (R294). -/
theorem crc32c_lt (bs : Bytes) : crc32c bs < 2 ^ 32 := by
  unfold crc32c
  refine Nat.xor_lt_two_pow ?_ (by norm_num)
  have step : ∀ l : Bytes, ∀ c < 2 ^ 32, l.foldl (crcByte 0x82F63B78) c < 2 ^ 32 := by
    intro l
    induction l with
    | nil => intro c h; exact h
    | cons a l ih => intro c h; exact ih _ (crcByte_lt c a h)
  exact step bs _ (by norm_num)

/-- A frame whose fields fit is read back from its bytes (R391). -/
theorem NazF.parse_bytes (f : NazF) (h1 : f.kind < 256) (h2 : f.flags < 256) (h3 : f.dst < 65536) (h4 : f.src < 65536)
    (h5 : f.gen < 65536) (h6 : f.seq < 65536) (h7 : f.hop < 256) (h8 : f.payload.length ≤ 1232) : NazF.parse f.bytes = some f := by
  obtain ⟨k, fl, d, s, g, q, h, p⟩ := f
  simp only at h1 h2 h3 h4 h5 h6 h7 h8
  have hl : p.length % 65536 = p.length := Nat.mod_eq_of_lt (by omega)
  set b : Bytes := le 1 k ++ le 1 fl ++ le 2 d ++ le 2 s ++ le 2 p.length ++ le 2 g ++ le 2 q ++ le 1 h ++ zeros 3 ++ p with hb
  have hbl : b.length = p.length + 16 := by simp [hb, le_length, zeros]; omega
  have hB : NazF.bytes ⟨k, fl, d, s, g, q, h, p⟩ = b ++ le 4 (crc32c b) := rfl
  have fld : ∀ (pre mid post : Bytes) (o n : Nat), b ++ le 4 (crc32c b) = pre ++ mid ++ post → pre.length = o → mid.length = n →
      fieldAt (b ++ le 4 (crc32c b)) o n = mid := by
    intro pre mid post o n e ho hn
    subst ho hn
    rw [e]
    simp [fieldAt]
  have f0 : fieldAt (b ++ le 4 (crc32c b)) 0 1 = le 1 k := fld [] _ (le 1 fl ++ le 2 d ++ le 2 s ++ le 2 p.length ++ le 2 g ++
    le 2 q ++ le 1 h ++ zeros 3 ++ p ++ le 4 (crc32c b)) _ _ (by rw [hb]; simp only [List.append_assoc, List.nil_append]) rfl (le_length _ _)
  have f1 : fieldAt (b ++ le 4 (crc32c b)) 1 1 = le 1 fl := fld (le 1 k) _ (le 2 d ++ le 2 s ++ le 2 p.length ++ le 2 g ++
    le 2 q ++ le 1 h ++ zeros 3 ++ p ++ le 4 (crc32c b)) _ _ (by rw [hb]; simp only [List.append_assoc]) (by simp [le_length]) (le_length _ _)
  have f2 : fieldAt (b ++ le 4 (crc32c b)) 2 2 = le 2 d := fld (le 1 k ++ le 1 fl) _ (le 2 s ++ le 2 p.length ++ le 2 g ++
    le 2 q ++ le 1 h ++ zeros 3 ++ p ++ le 4 (crc32c b)) _ _ (by rw [hb]; simp only [List.append_assoc]) (by simp [le_length]) (le_length _ _)
  have f4 : fieldAt (b ++ le 4 (crc32c b)) 4 2 = le 2 s := fld (le 1 k ++ le 1 fl ++ le 2 d) _ (le 2 p.length ++ le 2 g ++
    le 2 q ++ le 1 h ++ zeros 3 ++ p ++ le 4 (crc32c b)) _ _ (by rw [hb]; simp only [List.append_assoc]) (by simp [le_length]) (le_length _ _)
  have f6 : fieldAt (b ++ le 4 (crc32c b)) 6 2 = le 2 p.length := fld (le 1 k ++ le 1 fl ++ le 2 d ++ le 2 s) _ (le 2 g ++
    le 2 q ++ le 1 h ++ zeros 3 ++ p ++ le 4 (crc32c b)) _ _ (by rw [hb]; simp only [List.append_assoc]) (by simp [le_length]) (le_length _ _)
  have f8 : fieldAt (b ++ le 4 (crc32c b)) 8 2 = le 2 g := fld (le 1 k ++ le 1 fl ++ le 2 d ++ le 2 s ++ le 2 p.length) _ (
    le 2 q ++ le 1 h ++ zeros 3 ++ p ++ le 4 (crc32c b)) _ _ (by rw [hb]; simp only [List.append_assoc]) (by simp [le_length]) (le_length _ _)
  have f10 : fieldAt (b ++ le 4 (crc32c b)) 10 2 = le 2 q := fld (le 1 k ++ le 1 fl ++ le 2 d ++ le 2 s ++ le 2 p.length ++ le 2 g) _ (
    le 1 h ++ zeros 3 ++ p ++ le 4 (crc32c b)) _ _ (by rw [hb]; simp only [List.append_assoc]) (by simp [le_length]) (le_length _ _)
  have f12 : fieldAt (b ++ le 4 (crc32c b)) 12 1 = le 1 h := fld (le 1 k ++ le 1 fl ++ le 2 d ++ le 2 s ++ le 2 p.length ++ le 2 g ++
    le 2 q) _ (zeros 3 ++ p ++ le 4 (crc32c b)) _ _ (by rw [hb]; simp only [List.append_assoc]) (by simp [le_length]) (le_length _ _)
  have f16 : fieldAt (b ++ le 4 (crc32c b)) 16 p.length = p := fld (le 1 k ++ le 1 fl ++ le 2 d ++ le 2 s ++ le 2 p.length ++ le 2 g ++
    le 2 q ++ le 1 h ++ zeros 3) _ (le 4 (crc32c b)) _ _ (by rw [hb]) (by simp [le_length, zeros]) rfl
  have fc : fieldAt (b ++ le 4 (crc32c b)) (p.length + 16) 4 = le 4 (crc32c b) := fld b _ [] _ _ (by simp) hbl (le_length _ _)
  have ht : (b ++ le 4 (crc32c b)).take (p.length + 16) = b := by rw [← hbl]; simp
  have hlen : (b ++ le 4 (crc32c b)).length = p.length + 20 := by simp [hbl, le_length]
  have hc := crc32c_lt b
  rw [hB]
  unfold NazF.parse
  simp only [numAt, f0, f1, f2, f4, f6, f8, f10, f12, ofLe_le, pow_one, Nat.reducePow, hl, f16, fc, ht, hlen]
  rw [if_pos ⟨trivial, by omega, h8, Nat.mod_eq_of_lt (by simpa using hc)⟩]
  congr 1
  simp only [NazF.mk.injEq, and_true]
  omega

end Sys2Proof.Machine
end

