-- ==== Sys2Proof/Laws/Exec.lean ====
section
/-! SUPPORT. The meaning of each command, one equation per constructor, so that no proof unfolds the dispatch. -/

namespace Sys2Proof.Machine

theorem exec_sequencerEvaluation (t : Nat) (x : Fin 6) (s : State) : exec (.sequencerEvaluation t x) s = execSequencerEvaluation t x s := rfl
theorem exec_stepChange (t : Nat) (x : Fin 6) (s : State) : exec (.stepChange t x) s = execStepChange t x s := rfl
theorem exec_lockedRotor (t : Nat) (x : Fin 6) (s : State) : exec (.lockedRotor t x) s = execLockedRotor t x s := rfl
theorem exec_joinStart (t : Nat) (b : By) (x : Fin 6) (s : State) : exec (.joinStart t b x) s = execJoinStart t b x s := rfl
theorem exec_leaveStart (t : Nat) (b : By) (x : Fin 6) (s : State) : exec (.leaveStart t b x) s = execLeaveStart t b x s := rfl
theorem exec_joinAngleValid (t : Nat) (x : Fin 6) (s : State) : exec (.joinAngleValid t x) s = execJoinAngleValid t x s := rfl
theorem exec_prechargePulse (t : Nat) (x : Fin 6) (s : State) : exec (.prechargePulse t x) s = execPrechargePulse t x s := rfl
theorem exec_prechargeComplete (t : Nat) (x : Fin 6) (s : State) : exec (.prechargeComplete t x) s = execPrechargeComplete t x s := rfl
theorem exec_joinRampEnd (t : Nat) (x : Fin 6) (s : State) : exec (.joinRampEnd t x) s = execJoinRampEnd t x s := rfl
theorem exec_leaveRampEnd (t : Nat) (x : Fin 6) (s : State) : exec (.leaveRampEnd t x) s = execLeaveRampEnd t x s := rfl
theorem exec_voltageAdcConversion (t : Nat) (x : Fin 6) (ch : Fin 4) (v : BitVec 12) (s : State) : exec (.voltageAdcConversion t x ch v) s = execVoltageAdcConversion t x ch v s := rfl
theorem exec_fluxObserverUpdate (t : Nat) (x : Fin 6) (s : State) : exec (.fluxObserverUpdate t x) s = execFluxObserverUpdate t x s := rfl
theorem exec_fusionUpdate (t : Nat) (a : Fin 4) (s : State) : exec (.fusionUpdate t a) s = execFusionUpdate t a s := rfl
theorem exec_cascadeFusion (t : Nat) (a : Fin 4) (s : State) : exec (.cascadeFusion t a) s = execCascadeFusion t a s := rfl
theorem exec_alignEnd (t : Nat) (a : Fin 4) (s : State) : exec (.alignEnd t a) s = execAlignEnd t a s := rfl
theorem exec_rampHandoverSpeed (t : Nat) (a : Fin 4) (s : State) : exec (.rampHandoverSpeed t a) s = execRampHandoverSpeed t a s := rfl
theorem exec_handoverCheck (t : Nat) (a : Fin 4) (s : State) : exec (.handoverCheck t a) s = execHandoverCheck t a s := rfl
theorem exec_handoverTimeout (t : Nat) (a : Fin 4) (s : State) : exec (.handoverTimeout t a) s = execHandoverTimeout t a s := rfl
theorem exec_blendEnd (t : Nat) (a : Fin 4) (s : State) : exec (.blendEnd t a) s = execBlendEnd t a s := rfl
theorem exec_coastRecovery (t : Nat) (a : Fin 4) (s : State) : exec (.coastRecovery t a) s = execCoastRecovery t a s := rfl
theorem exec_coastTimeExpiry (t : Nat) (a : Fin 4) (s : State) : exec (.coastTimeExpiry t a) s = execCoastTimeExpiry t a s := rfl
theorem exec_startRetry (t : Nat) (a : Fin 4) (s : State) : exec (.startRetry t a) s = execStartRetry t a s := rfl
theorem exec_periodBoundary (t : Nat) (xs : BitVec 6) (s : State) : exec (.periodBoundary t xs) s = execPeriodBoundary t xs s := rfl
theorem exec_loadAllRequest (t : Nat) (b : By) (s : State) : exec (.loadAllRequest t b) s = execLoadAllRequest t b s := rfl
theorem exec_liveValueArrival (t : Nat) (x : Fin 6) (y : BitVec 32) (s : State) : exec (.liveValueArrival t x y) s = execLiveValueArrival t x y s := rfl
theorem exec_turnOffEdge (t : Nat) (x : Fin 6) (s : State) : exec (.turnOffEdge t x) s = execTurnOffEdge t x s := rfl
theorem exec_turnOnRelease (t : Nat) (n : Fin 18) (s : State) : exec (.turnOnRelease t n) s = execTurnOnRelease t n s := rfl
theorem exec_edgePhaseEnd (t : Nat) (n : Fin 18) (high : Bool) (s : State) : exec (.edgePhaseEnd t n high) s = execEdgePhaseEnd t n high s := rfl
theorem exec_statusLevelAccepted (t : Nat) (n : Fin 18) (band : Fin 5) (s : State) : exec (.statusLevelAccepted t n band) s = execStatusLevelAccepted t n band s := rfl
theorem exec_handshakeTimeout (t : Nat) (n : Fin 18) (s : State) : exec (.handshakeTimeout t n) s = execHandshakeTimeout t n s := rfl
theorem exec_switchNodeTransition (t : Nat) (n : Fin 18) (upper : Bool) (above : Bool) (s : State) : exec (.switchNodeTransition t n upper above) s = execSwitchNodeTransition t n upper above s := rfl
theorem exec_refreshLowRun (t : Nat) (n : Fin 18) (s : State) : exec (.refreshLowRun t n) s = execRefreshLowRun t n s := rfl
theorem exec_refreshPulseEnd (t : Nat) (n : Fin 18) (s : State) : exec (.refreshPulseEnd t n) s = execRefreshPulseEnd t n s := rfl
theorem exec_currentAdcConversion (t : Nat) (x : Fin 6) (iu : BitVec 14) (iv : BitVec 14) (s : State) : exec (.currentAdcConversion t x iu iv) s = execCurrentAdcConversion t x iu iv s := rfl
theorem exec_dcLinkOvervoltage (t : Nat) (x : Fin 6) (s : State) : exec (.dcLinkOvervoltage t x) s = execDcLinkOvervoltage t x s := rfl
theorem exec_vpdMonitorTrip (t : Nat) (s : State) : exec (.vpdMonitorTrip t) s = execVpdMonitorTrip t s := rfl
theorem exec_brakeChopperPeriod (t : Nat) (x : Fin 6) (s : State) : exec (.brakeChopperPeriod t x) s = execBrakeChopperPeriod t x s := rfl
theorem exec_faultClear (t : Nat) (b : By) (x : Fin 6) (s : State) : exec (.faultClear t b x) s = execFaultClear t b x s := rfl
theorem exec_uvAutoclear (t : Nat) (n : Fin 18) (s : State) : exec (.uvAutoclear t n) s = execUvAutoclear t n s := rfl
theorem exec_deviceClear (t : Nat) (b : By) (s : State) : exec (.deviceClear t b) s = execDeviceClear t b s := rfl
theorem exec_slotTimer (t : Nat) (k : Fin 48) (s : State) : exec (.slotTimer t k) s = execSlotTimer t k s := rfl
theorem exec_slotRunIssue (t : Nat) (l : Fin 6) (s : State) : exec (.slotRunIssue t l) s = execSlotRunIssue t l s := rfl
theorem exec_slotOutput (t : Nat) (k : Fin 48) (pass : Residue) (s : State) : exec (.slotOutput t k pass) s = execSlotOutput t k pass s := rfl
theorem exec_slotEnable (t : Nat) (b : By) (k : Fin 48) (on : Bool) (s : State) : exec (.slotEnable t b k on) s = execSlotEnable t b k on s := rfl
theorem exec_historyReset (t : Nat) (b : By) (k : Fin 48) (s : State) : exec (.historyReset t b k) s = execHistoryReset t b k s := rfl
theorem exec_historyPreload (t : Nat) (b : By) (k : Fin 48) (v : BitVec 32) (s : State) : exec (.historyPreload t b k v) s = execHistoryPreload t b k v s := rfl
theorem exec_coefficientWriteApplied (t : Nat) (k : Fin 48) (s : State) : exec (.coefficientWriteApplied t k) s = execCoefficientWriteApplied t k s := rfl
theorem exec_rotationStart (t : Nat) (s : State) : exec (.rotationStart t) s = execRotationStart t s := rfl
theorem exec_rotateNow (t : Nat) (b : By) (s : State) : exec (.rotateNow t b) s = execRotateNow t b s := rfl
theorem exec_rotationCopy (t : Nat) (k : Fin 48) (s : State) : exec (.rotationCopy t k) s = execRotationCopy t k s := rfl
theorem exec_twinComparisonEnd (t : Nat) (mismatch : Option (Fin 48)) (y yt : BitVec 32) (s : State) : exec (.twinComparisonEnd t mismatch y yt) s = execTwinComparisonEnd t mismatch y yt s := rfl
theorem exec_laneSelfTestEnd (t : Nat) (p : Fin 7) (pass : Bool) (s : State) : exec (.laneSelfTestEnd t p pass) s = execLaneSelfTestEnd t p pass s := rfl
theorem exec_laneTakeover (t : Nat) (l : Fin 6) (s : State) : exec (.laneTakeover t l) s = execLaneTakeover t l s := rfl
theorem exec_axisUpdate (t : Nat) (a : Fin 4) (s : State) : exec (.axisUpdate t a) s = execAxisUpdate t a s := rfl
theorem exec_snatchEvaluation (t : Nat) (a : Fin 4) (s : State) : exec (.snatchEvaluation t a) s = execSnatchEvaluation t a s := rfl
theorem exec_snatchEnd (t : Nat) (a : Fin 4) (s : State) : exec (.snatchEnd t a) s = execSnatchEnd t a s := rfl
theorem exec_snatchRearmed (t : Nat) (a : Fin 4) (s : State) : exec (.snatchRearmed t a) s = execSnatchRearmed t a s := rfl
theorem exec_snatchArm (t : Nat) (b : By) (a : Fin 4) (id : BitVec 16) (s : State) : exec (.snatchArm t b a id) s = execSnatchArm t b a id s := rfl
theorem exec_snatchDiscard (t : Nat) (b : By) (a : Fin 4) (s : State) : exec (.snatchDiscard t b a) s = execSnatchDiscard t b a s := rfl
theorem exec_tensionFeedback (t : Nat) (b : By) (a : Fin 4) (v : BitVec 32) (s : State) : exec (.tensionFeedback t b a v) s = execTensionFeedback t b a v s := rfl
theorem exec_tensionFeedbackLost (t : Nat) (a : Fin 4) (s : State) : exec (.tensionFeedbackLost t a) s = execTensionFeedbackLost t a s := rfl
theorem exec_temperatureStale (t : Nat) (x : Fin 6) (s : State) : exec (.temperatureStale t x) s = execTemperatureStale t x s := rfl
theorem exec_deviceTorqueLost (t : Nat) (a : Fin 4) (s : State) : exec (.deviceTorqueLost t a) s = execDeviceTorqueLost t a s := rfl
theorem exec_encoderChange (t : Nat) (e : EncIn) (a b : Bool) (s : State) : exec (.encoderChange t e a b) s = execEncoderChange t e a b s := rfl
theorem exec_indexPulse (t : Nat) (e : EncIn) (s : State) : exec (.indexPulse t e) s = execIndexPulse t e s := rfl
theorem exec_encoderStatusClear (t : Nat) (b : By) (e : Fin 2) (s : State) : exec (.encoderStatusClear t b e) s = execEncoderStatusClear t b e s := rfl
theorem exec_homeSet (t : Nat) (b : By) (a : Fin 4) (v : BitVec 64) (s : State) : exec (.homeSet t b a v) s = execHomeSet t b a v s := rfl
theorem exec_referenceRun (t : Nat) (b : By) (a : Fin 4) (s : State) : exec (.referenceRun t b a) s = execReferenceRun t b a s := rfl
theorem exec_referenceRunTimeout (t : Nat) (a : Fin 4) (s : State) : exec (.referenceRunTimeout t a) s = execReferenceRunTimeout t a s := rfl
theorem exec_profileUpdate (t : Nat) (a : Fin 4) (s : State) : exec (.profileUpdate t a) s = execProfileUpdate t a s := rfl
theorem exec_moveStart (t : Nat) (b : By) (a : Fin 4) (s : State) : exec (.moveStart t b a) s = execMoveStart t b a s := rfl
theorem exec_stopWrite (t : Nat) (b : By) (a : Fin 4) (s : State) : exec (.stopWrite t b a) s = execStopWrite t b a s := rfl
theorem exec_followingError (t : Nat) (a : Fin 4) (s : State) : exec (.followingError t a) s = execFollowingError t a s := rfl
theorem exec_masterPositionLost (t : Nat) (a : Fin 4) (s : State) : exec (.masterPositionLost t a) s = execMasterPositionLost t a s := rfl
theorem exec_generatorStep (t : Nat) (g : Fin 4) (s : State) : exec (.generatorStep t g) s = execGeneratorStep t g s := rfl
theorem exec_generatorArm (t : Nat) (b : By) (g : Fin 4) (s : State) : exec (.generatorArm t b g) s = execGeneratorArm t b g s := rfl
theorem exec_generatorStop (t : Nat) (b : By) (g : Fin 4) (s : State) : exec (.generatorStop t b g) s = execGeneratorStop t b g s := rfl
theorem exec_injectionDone (t : Nat) (g : Fin 4) (s : State) : exec (.injectionDone t g) s = execInjectionDone t g s := rfl
theorem exec_captureClaim (t : Nat) (b : By) (s : State) : exec (.captureClaim t b) s = execCaptureClaim t b s := rfl
theorem exec_captureRelease (t : Nat) (b : By) (s : State) : exec (.captureRelease t b) s = execCaptureRelease t b s := rfl
theorem exec_captureTick (t : Nat) (s : State) : exec (.captureTick t) s = execCaptureTick t s := rfl
theorem exec_captureArm (t : Nat) (b : By) (s : State) : exec (.captureArm t b) s = execCaptureArm t b s := rfl
theorem exec_captureDataRead (t : Nat) (b : By) (s : State) : exec (.captureDataRead t b) s = execCaptureDataRead t b s := rfl
theorem exec_monitoringCycle (t : Nat) (fresh : BitVec 2) (pass : BitVec 2) (c : TongsIn) (s : State) :
    exec (.monitoringCycle t fresh pass c) s = execMonitoringCycle t fresh pass c s := rfl
theorem exec_channelExchange (t : Nat) (c : Fin 2) (s : State) : exec (.channelExchange t c) s = execChannelExchange t c s := rfl
theorem exec_stoInputAccepted (t : Nat) (c : Fin 2) (high : Bool) (s : State) : exec (.stoInputAccepted t c high) s = execStoInputAccepted t c high s := rfl
theorem exec_stoDiscrepancy (t : Nat) (s : State) : exec (.stoDiscrepancy t) s = execStoDiscrepancy t s := rfl
theorem exec_sbcDelayExpiry (t : Nat) (a : Fin 4) (s : State) : exec (.sbcDelayExpiry t a) s = execSbcDelayExpiry t a s := rfl
theorem exec_brakeOpenWrite (t : Nat) (b : By) (on : Bool) (s : State) : exec (.brakeOpenWrite t b on) s = execBrakeOpenWrite t b on s := rfl
theorem exec_localWordWrite (t : Nat) (b : By) (a : Fin 4) (w : BitVec 16) (s : State) : exec (.localWordWrite t b a w) s = execLocalWordWrite t b a w s := rfl
theorem exec_commissioningOpen (t : Nat) (b : By) (s : State) : exec (.commissioningOpen t b) s = execCommissioningOpen t b s := rfl
theorem exec_commissioningAbandon (t : Nat) (b : By) (s : State) : exec (.commissioningAbandon t b) s = execCommissioningAbandon t b s := rfl
theorem exec_seal (t : Nat) (b : By) (s : State) : exec (.seal t b) s = execSeal t b s := rfl
theorem exec_unseal (t : Nat) (b : By) (s : State) : exec (.unseal t b) s = execUnseal t b s := rfl
theorem exec_checkValueComputed (t : Nat) (badA : Option (BitVec 32)) (badB : Option (BitVec 32)) (s : State) : exec (.checkValueComputed t badA badB) s = execCheckValueComputed t badA badB s := rfl
theorem exec_crcConfirm (t : Nat) (b : By) (v : BitVec 32) (s : State) : exec (.crcConfirm t b v) s = execCrcConfirm t b v s := rfl
theorem exec_configurationStored (t : Nat) (s : State) : exec (.configurationStored t) s = execConfigurationStored t s := rfl
theorem exec_controlTelegram (t : Nat) (p : Fin 2) (bs : Bytes) (s : State) : exec (.controlTelegram t p bs) s = execControlTelegram t p bs s := rfl
theorem exec_statusTelegram (t : Nat) (s : State) : exec (.statusTelegram t) s = execStatusTelegram t s := rfl
theorem exec_telegramWatchdog (t : Nat) (s : State) : exec (.telegramWatchdog t) s = execTelegramWatchdog t s := rfl
theorem exec_singleNetworkTimeout (t : Nat) (s : State) : exec (.singleNetworkTimeout t) s = execSingleNetworkTimeout t s := rfl
theorem exec_objectWrite (t : Nat) (b : By) (dev : BitVec 8) (key : BitVec 24) (bs : Bytes) (s : State) : exec (.objectWrite t b dev key bs) s = execObjectWrite t b dev key bs s := rfl
theorem exec_readRecord (t : Nat) (b : By) (dev : BitVec 8) (key : BitVec 24) (s : State) : exec (.readRecord t b dev key) s = execReadRecord t b dev key s := rfl
theorem exec_describeRecord (t : Nat) (b : By) (dev : BitVec 8) (key : BitVec 24) (s : State) : exec (.describeRecord t b dev key) s = execDescribeRecord t b dev key s := rfl
theorem exec_subscribeRecord (t : Nat) (b : By) (dev : BitVec 8) (key : BitVec 24) (bs : Bytes) (s : State) : exec (.subscribeRecord t b dev key bs) s = execSubscribeRecord t b dev key bs s := rfl
theorem exec_unsubscribeRecord (t : Nat) (b : By) (dev : BitVec 8) (key : BitVec 24) (s : State) : exec (.unsubscribeRecord t b dev key) s = execUnsubscribeRecord t b dev key s := rfl
theorem exec_notifyFrame (t : Nat) (sid : Nat) (s : State) : exec (.notifyFrame t sid) s = execNotifyFrame t sid s := rfl
theorem exec_openFrame (t : Nat) (p : Fin 3) (src : Bytes) (bs : Bytes) (s : State) : exec (.openFrame t p src bs) s = execOpenFrame t p src bs s := rfl
theorem exec_confirmFrame (t : Nat) (p : Fin 3) (src : Bytes) (bs : Bytes) (s : State) : exec (.confirmFrame t p src bs) s = execConfirmFrame t p src bs s := rfl
theorem exec_openingTimeout (t : Nat) (sid : Nat) (s : State) : exec (.openingTimeout t sid) s = execOpeningTimeout t sid s := rfl
theorem exec_requestFrame (t : Nat) (p : Fin 3) (src : Bytes) (bs : Bytes) (s : State) : exec (.requestFrame t p src bs) s = execRequestFrame t p src bs s := rfl
theorem exec_requestServed (t : Nat) (c : Fin 2) (s : State) : exec (.requestServed t c) s = execRequestServed t c s := rfl
theorem exec_keepaliveFrame (t : Nat) (p : Fin 3) (src : Bytes) (bs : Bytes) (s : State) : exec (.keepaliveFrame t p src bs) s = execKeepaliveFrame t p src bs s := rfl
theorem exec_closeFrame (t : Nat) (p : Fin 3) (src : Bytes) (bs : Bytes) (s : State) : exec (.closeFrame t p src bs) s = execCloseFrame t p src bs s := rfl
theorem exec_sessionIdleTimeout (t : Nat) (sid : Nat) (s : State) : exec (.sessionIdleTimeout t sid) s = execSessionIdleTimeout t sid s := rfl
theorem exec_closeSelectedSession (t : Nat) (b : By) (s : State) : exec (.closeSelectedSession t b) s = execCloseSelectedSession t b s := rfl
theorem exec_identifierHoldEnd (t : Nat) (s : State) : exec (.identifierHoldEnd t) s = execIdentifierHoldEnd t s := rfl
theorem exec_lockTake (t : Nat) (b : By) (w : BitVec 28) (s : State) : exec (.lockTake t b w) s = execLockTake t b w s := rfl
theorem exec_lockRelease (t : Nat) (b : By) (w : BitVec 28) (s : State) : exec (.lockRelease t b w) s = execLockRelease t b w s := rfl
theorem exec_lockLeaseExpiry (t : Nat) (j1 : Fin 10) (s : State) : exec (.lockLeaseExpiry t j1) s = execLockLeaseExpiry t j1 s := rfl
theorem exec_keyWrite (t : Nat) (b : By) (k : Fin 64) (bs : Bytes) (s : State) : exec (.keyWrite t b k bs) s = execKeyWrite t b k bs s := rfl
theorem exec_keySlotEnable (t : Nat) (b : By) (k : Fin 64) (on : Bool) (s : State) : exec (.keySlotEnable t b k on) s = execKeySlotEnable t b k on s := rfl
theorem exec_hostFrame (t : Nat) (ws : List (BitVec 32)) (s : State) : exec (.hostFrame t ws) s = execHostFrame t ws s := rfl
theorem exec_hostDeselect (t : Nat) (good : Nat) (part : Nat) (bad : Nat) (s : State) : exec (.hostDeselect t good part bad) s = execHostDeselect t good part bad s := rfl
theorem exec_sdoTransfer (t : Nat) (b : Fin 2) (bs : Bytes) (s : State) : exec (.sdoTransfer t b bs) s = execSdoTransfer t b bs s := rfl
theorem exec_sdoSegmentTimeout (t : Nat) (b : Fin 2) (s : State) : exec (.sdoSegmentTimeout t b) s = execSdoSegmentTimeout t b s := rfl
theorem exec_ethernetFrame (t : Nat) (p : Fin 2) (bs : Bytes) (s : State) : exec (.ethernetFrame t p bs) s = execEthernetFrame t p bs s := rfl
theorem exec_neighbourSolicitation (t : Nat) (p : Fin 2) (src : Bytes) (target : Bytes) (s : State) : exec (.neighbourSolicitation t p src target) s = execNeighbourSolicitation t p src target s := rfl
theorem exec_echoRequest (t : Nat) (p : Fin 2) (src : Bytes) (dst : Bytes) (bs : Bytes) (s : State) : exec (.echoRequest t p src dst bs) s = execEchoRequest t p src dst bs s := rfl
theorem exec_fieldPortLinkChange (t : Nat) (p : Fin 2) (link : Bool) (speed : Nat) (full : Bool) (s : State) : exec (.fieldPortLinkChange t p link speed full) s = execFieldPortLinkChange t p link speed full s := rfl
theorem exec_txOpen (t : Nat) (b : By) (s : State) : exec (.txOpen t b) s = execTxOpen t b s := rfl
theorem exec_txCur (t : Nat) (b : By) (id : BitVec 16) (s : State) : exec (.txCur t b id) s = execTxCur t b id s := rfl
theorem exec_txCommit (t : Nat) (b : By) (s : State) : exec (.txCommit t b) s = execTxCommit t b s := rfl
theorem exec_preparationComplete (t : Nat) (id : Nat) (s : State) : exec (.preparationComplete t id) s = execPreparationComplete t id s := rfl
theorem exec_commitInstant (t : Nat) (id : Nat) (s : State) : exec (.commitInstant t id) s = execCommitInstant t id s := rfl
theorem exec_writeBackComplete (t : Nat) (id : Nat) (s : State) : exec (.writeBackComplete t id) s = execWriteBackComplete t id s := rfl
theorem exec_txAbort (t : Nat) (b : By) (s : State) : exec (.txAbort t b) s = execTxAbort t b s := rfl
theorem exec_txSel (t : Nat) (b : By) (id : BitVec 16) (s : State) : exec (.txSel t b id) s = execTxSel t b id s := rfl
theorem exec_prepareMsg (t : Nat) (p : Fin 2) (c : PrepareIn) (s : State) : exec (.prepareMsg t p c) s = execPrepareMsg t p c s := rfl
theorem exec_voteMsg (t : Nat) (p : Fin 2) (bs : Bytes) (s : State) : exec (.voteMsg t p bs) s = execVoteMsg t p bs s := rfl
theorem exec_decideMsg (t : Nat) (p : Fin 2) (bs : Bytes) (s : State) : exec (.decideMsg t p bs) s = execDecideMsg t p bs s := rfl
theorem exec_doneMsg (t : Nat) (p : Fin 2) (bs : Bytes) (s : State) : exec (.doneMsg t p bs) s = execDoneMsg t p bs s := rfl
theorem exec_queryMsg (t : Nat) (p : Fin 2) (bs : Bytes) (s : State) : exec (.queryMsg t p bs) s = execQueryMsg t p bs s := rfl
theorem exec_stateMsg (t : Nat) (p : Fin 2) (bs : Bytes) (s : State) : exec (.stateMsg t p bs) s = execStateMsg t p bs s := rfl
theorem exec_prepareTimeout (t : Nat) (id : Nat) (s : State) : exec (.prepareTimeout t id) s = execPrepareTimeout t id s := rfl
theorem exec_participantDecisionTimeout (t : Nat) (id : Nat) (s : State) : exec (.participantDecisionTimeout t id) s = execParticipantDecisionTimeout t id s := rfl
theorem exec_fenceWrite (t : Nat) (b : By) (f : Fin 16) (s : State) : exec (.fenceWrite t b f) s = execFenceWrite t b f s := rfl
theorem exec_fenceAccepted (t : Nat) (f : Fin 16) (s : State) : exec (.fenceAccepted t f) s = execFenceAccepted t f s := rfl
theorem exec_fenceCompletion (t : Nat) (f : Fin 16) (s : State) : exec (.fenceCompletion t f) s = execFenceCompletion t f s := rfl
theorem exec_cycleStart (t : Nat) (s : State) : exec (.cycleStart t) s = execCycleStart t s := rfl
theorem exec_cycleFrameSend (t : Nat) (s : State) : exec (.cycleFrameSend t) s = execCycleFrameSend t s := rfl
theorem exec_cycleFrame (t : Nat) (p : Fin 2) (c : CycleIn) (s : State) : exec (.cycleFrame t p c) s = execCycleFrame t p c s := rfl
theorem exec_cycleMissed (t : Nat) (s : State) : exec (.cycleMissed t) s = execCycleMissed t s := rfl
theorem exec_deviceFrameSend (t : Nat) (s : State) : exec (.deviceFrameSend t) s = execDeviceFrameSend t s := rfl
theorem exec_deviceFrame (t : Nat) (p : Fin 2) (bs : Bytes) (s : State) : exec (.deviceFrame t p bs) s = execDeviceFrame t p bs s := rfl
theorem exec_axisFrame (t : Nat) (p : Fin 2) (bs : Bytes) (s : State) : exec (.axisFrame t p bs) s = execAxisFrame t p bs s := rfl
theorem exec_mposFrame (t : Nat) (p : Fin 2) (bs : Bytes) (s : State) : exec (.mposFrame t p bs) s = execMposFrame t p bs s := rfl
theorem exec_cascadeResetCommand (t : Nat) (p : Fin 2) (bs : Bytes) (s : State) : exec (.cascadeResetCommand t p bs) s = execCascadeResetCommand t p bs s := rfl
theorem exec_passCompleteCommand (t : Nat) (p : Fin 2) (c : PassIn) (s : State) : exec (.passCompleteCommand t p c) s = execPassCompleteCommand t p c s := rfl
theorem exec_snapshotVoidCommand (t : Nat) (p : Fin 2) (bs : Bytes) (s : State) : exec (.snapshotVoidCommand t p bs) s = execSnapshotVoidCommand t p bs s := rfl
theorem exec_cycleChangeCommand (t : Nat) (p : Fin 2) (bs : Bytes) (s : State) : exec (.cycleChangeCommand t p bs) s = execCycleChangeCommand t p bs s := rfl
theorem exec_plainBarrier (t : Nat) (p : Fin 2) (bs : Bytes) (s : State) : exec (.plainBarrier t p bs) s = execPlainBarrier t p bs s := rfl
theorem exec_voteBarrier (t : Nat) (p : Fin 2) (bs : Bytes) (s : State) : exec (.voteBarrier t p bs) s = execVoteBarrier t p bs s := rfl
theorem exec_queryBarrier (t : Nat) (p : Fin 2) (bs : Bytes) (s : State) : exec (.queryBarrier t p bs) s = execQueryBarrier t p bs s := rfl
theorem exec_snapshotBarrier (t : Nat) (p : Fin 2) (bs : Bytes) (s : State) : exec (.snapshotBarrier t p bs) s = execSnapshotBarrier t p bs s := rfl
theorem exec_enumerationBarrier (t : Nat) (p : Fin 2) (e : EnumIn) (s : State) : exec (.enumerationBarrier t p e) s = execEnumerationBarrier t p e s := rfl
theorem exec_barrierTimeout (t : Nat) (q : Nat) (s : State) : exec (.barrierTimeout t q) s = execBarrierTimeout t q s := rfl
theorem exec_announceFrame (t : Nat) (p : Fin 2) (bs : Bytes) (n : Newcomer) (s : State) : exec (.announceFrame t p bs n) s = execAnnounceFrame t p bs n s := rfl
theorem exec_electFrame (t : Nat) (p : Fin 2) (bs : Bytes) (s : State) : exec (.electFrame t p bs) s = execElectFrame t p bs s := rfl
theorem exec_linkFrame (t : Nat) (p : Fin 2) (bs : Bytes) (s : State) : exec (.linkFrame t p bs) s = execLinkFrame t p bs s := rfl
theorem exec_syncExchange (t : Nat) (p : Fin 2) (s : State) : exec (.syncExchange t p) s = execSyncExchange t p s := rfl
theorem exec_syncFrame (t : Nat) (p : Fin 2) (bs : Bytes) (s : State) : exec (.syncFrame t p bs) s = execSyncFrame t p bs s := rfl
theorem exec_routedRequest (t : Nat) (p : Fin 2) (bs : Bytes) (s : State) : exec (.routedRequest t p bs) s = execRoutedRequest t p bs s := rfl
theorem exec_routedResponse (t : Nat) (p : Fin 2) (bs : Bytes) (s : State) : exec (.routedResponse t p bs) s = execRoutedResponse t p bs s := rfl
theorem exec_linkUp (t : Nat) (p : Fin 2) (s : State) : exec (.linkUp t p) s = execLinkUp t p s := rfl
theorem exec_linkDown (t : Nat) (p : Fin 2) (n : Nat) (s : State) : exec (.linkDown t p n) s = execLinkDown t p n s := rfl
theorem exec_electionWindowClose (t : Nat) (s : State) : exec (.electionWindowClose t) s = execElectionWindowClose t s := rfl
theorem exec_joinPassTimer (t : Nat) (s : State) : exec (.joinPassTimer t) s = execJoinPassTimer t s := rfl
theorem exec_barrierGo (t : Nat) (b : By) (s : State) : exec (.barrierGo t b) s = execBarrierGo t b s := rfl
theorem exec_snapGo (t : Nat) (b : By) (s : State) : exec (.snapGo t b) s = execSnapGo t b s := rfl
theorem exec_snapshotLatch (t : Nat) (s : State) : exec (.snapshotLatch t) s = execSnapshotLatch t s := rfl
theorem exec_cascadeReset (t : Nat) (b : By) (s : State) : exec (.cascadeReset t b) s = execCascadeReset t b s := rfl
theorem exec_cycleWrite (t : Nat) (b : By) (v : BitVec 16) (s : State) : exec (.cycleWrite t b v) s = execCycleWrite t b v s := rfl
theorem exec_deviceLost (t : Nat) (d : Nat) (s : State) : exec (.deviceLost t d) s = execDeviceLost t d s := rfl
theorem exec_masterStepDown (t : Nat) (s : State) : exec (.masterStepDown t) s = execMasterStepDown t s := rfl
theorem exec_takeover (t : Nat) (r : Nat) (k : Ranking) (s : State) : exec (.takeover t r k) s = execTakeover t r k s := rfl
theorem exec_canFrameTaken (t : Nat) (b : Fin 2) (w : Nat) (c : CanCtl) (bs : Bytes) (sof : Nat) (s : State) : exec (.canFrameTaken t b w c bs sof) s = execCanFrameTaken t b w c bs sof s := rfl
theorem exec_canFrameSent (t : Nat) (b : Fin 2) (q : Option (Fin 64)) (sof : Nat) (tdc : Nat) (s : State) : exec (.canFrameSent t b q sof tdc) s = execCanFrameSent t b q sof tdc s := rfl
theorem exec_arbitrationLost (t : Nat) (b : Fin 2) (q : Option (Fin 64)) (s : State) : exec (.arbitrationLost t b q) s = execArbitrationLost t b q s := rfl
theorem exec_canBusError (t : Nat) (b : Fin 2) (q : Option (Fin 64)) (tx : Bool) (n : IsoStep) (s : State) : exec (.canBusError t b q tx n) s = execCanBusError t b q tx n s := rfl
theorem exec_protocolException (t : Nat) (b : Fin 2) (s : State) : exec (.protocolException t b) s = execProtocolException t b s := rfl
theorem exec_busIntegrationComplete (t : Nat) (b : Fin 2) (s : State) : exec (.busIntegrationComplete t b) s = execBusIntegrationComplete t b s := rfl
theorem exec_canModeWrite (t : Nat) (b : By) (c : Fin 2) (m : BitVec 8) (s : State) : exec (.canModeWrite t b c m) s = execCanModeWrite t b c m s := rfl
theorem exec_modeChangeAtIdle (t : Nat) (b : Fin 2) (s : State) : exec (.modeChangeAtIdle t b) s = execModeChangeAtIdle t b s := rfl
theorem exec_recover (t : Nat) (b : By) (c : Fin 2) (s : State) : exec (.recover t b c) s = execRecover t b c s := rfl
theorem exec_busOffRecovered (t : Nat) (b : Fin 2) (s : State) : exec (.busOffRecovered t b) s = execBusOffRecovered t b s := rfl
theorem exec_queueAck (t : Nat) (b : By) (c : Fin 2) (q : Fin 64) (s : State) : exec (.queueAck t b c q) s = execQueueAck t b c q s := rfl
theorem exec_queueAbort (t : Nat) (b : By) (c : Fin 2) (q : Fin 64) (s : State) : exec (.queueAbort t b c q) s = execQueueAbort t b c q s := rfl
theorem exec_nmtStart (t : Nat) (b : Fin 2) (node : Nat) (s : State) : exec (.nmtStart t b node) s = execNmtStart t b node s := rfl
theorem exec_nmtStop (t : Nat) (b : Fin 2) (node : Nat) (s : State) : exec (.nmtStop t b node) s = execNmtStop t b node s := rfl
theorem exec_nmtPreOperational (t : Nat) (b : Fin 2) (node : Nat) (s : State) : exec (.nmtPreOperational t b node) s = execNmtPreOperational t b node s := rfl
theorem exec_nmtResetNode (t : Nat) (b : Fin 2) (node : Nat) (s : State) : exec (.nmtResetNode t b node) s = execNmtResetNode t b node s := rfl
theorem exec_nmtResetCommunication (t : Nat) (b : Fin 2) (node : Nat) (s : State) : exec (.nmtResetCommunication t b node) s = execNmtResetCommunication t b node s := rfl
theorem exec_canSync (t : Nat) (b : Fin 2) (s : State) : exec (.canSync t b) s = execCanSync t b s := rfl
theorem exec_rpdo (t : Nat) (b : Fin 2) (j1 : Fin 4) (bs : Bytes) (s : State) : exec (.rpdo t b j1 bs) s = execRpdo t b j1 bs s := rfl
theorem exec_tpdoEvent (t : Nat) (b : Fin 2) (j1 : Fin 4) (s : State) : exec (.tpdoEvent t b j1) s = execTpdoEvent t b j1 s := rfl
theorem exec_referenceLoss (t : Nat) (s : State) : exec (.referenceLoss t) s = execReferenceLoss t s := rfl
theorem exec_referenceReturn (t : Nat) (s : State) : exec (.referenceReturn t) s = execReferenceReturn t s := rfl
theorem exec_holdoverExpiry (t : Nat) (s : State) : exec (.holdoverExpiry t) s = execHoldoverExpiry t s := rfl
theorem exec_timebaseSet (t : Nat) (b : By) (v : BitVec 64) (s : State) : exec (.timebaseSet t b v) s = execTimebaseSet t b v s := rfl
theorem exec_journalEntry (t : Nat) (j1 : Nat) (s : State) : exec (.journalEntry t j1) s = execJournalEntry t j1 s := rfl
theorem exec_journalWrite (t : Nat) (s : State) : exec (.journalWrite t) s = execJournalWrite t s := rfl
theorem exec_clockFault (t : Nat) (j1 : Fin 64) (s : State) : exec (.clockFault t j1) s = execClockFault t j1 s := rfl
theorem exec_handshakeFault (t : Nat) (j1 : Fin 64) (s : State) : exec (.handshakeFault t j1) s = execHandshakeFault t j1 s := rfl
theorem exec_railWarning (t : Nat) (r : Fin 5) (mv : RailLevel) (s : State) : exec (.railWarning t r mv) s = execRailWarning t r mv s := rfl
theorem exec_derateEnd (t : Nat) (s : State) : exec (.derateEnd t) s = execDerateEnd t s := rfl
theorem exec_mainFailure (t : Nat) (r : Fin 4) (mv : Nat) (s : State) : exec (.mainFailure t r mv) s = execMainFailure t r mv s := rfl
theorem exec_hearthHandoverDone (t : Nat) (s : State) : exec (.hearthHandoverDone t) s = execHearthHandoverDone t s := rfl
theorem exec_returnStart (t : Nat) (good : Nat) (s : State) : exec (.returnStart t good) s = execReturnStart t good s := rfl
theorem exec_returnComplete (t : Nat) (s : State) : exec (.returnComplete t) s = execReturnComplete t s := rfl
theorem exec_vbakLost (t : Nat) (mv : Nat) (s : State) : exec (.vbakLost t mv) s = execVbakLost t mv s := rfl
theorem exec_vbakRestored (t : Nat) (mv : Nat) (s : State) : exec (.vbakRestored t mv) s = execVbakRestored t mv s := rfl
theorem exec_resetN (t : Nat) (s : State) : exec (.resetN t) s = execResetN t s := rfl
theorem exec_leavingReset (t : Nat) (good : Nat) (s : State) : exec (.leavingReset t good) s = execLeavingReset t good s := rfl
theorem exec_damperTick (t : Nat) (s : State) : exec (.damperTick t) s = execDamperTick t s := rfl
theorem exec_domainOn (t : Nat) (d : Fin 132) (s : State) : exec (.domainOn t d) s = execDomainOn t d s := rfl
theorem exec_domainWakeFailed (t : Nat) (d : Fin 132) (own : Fin 64) (s : State) : exec (.domainWakeFailed t d own) s = execDomainWakeFailed t d own s := rfl
theorem exec_sramSingleBitError (t : Nat) (m : Fin 16) (s : State) : exec (.sramSingleBitError t m) s = execSramSingleBitError t m s := rfl
theorem exec_sramDoubleBitError (t : Nat) (m : Fin 16) (proofing : Bool) (ids : List Nat) (own : Fin 64) (s : State) : exec (.sramDoubleBitError t m proofing ids own) s = execSramDoubleBitError t m proofing ids own s := rfl
theorem exec_modeWrite (t : Nat) (b : By) (a : Fin 4) (m : BitVec 8) (s : State) : exec (.modeWrite t b a m) s = execModeWrite t b a m s := rfl
theorem exec_crashStopRequest (t : Nat) (b : By) (a : Fin 4) (on : Bool) (s : State) : exec (.crashStopRequest t b a on) s = execCrashStopRequest t b a on s := rfl
theorem exec_holdRequest (t : Nat) (b : By) (a : Fin 4) (on : Bool) (s : State) : exec (.holdRequest t b a on) s = execHoldRequest t b a on s := rfl
theorem exec_manualDutyTarget (t : Nat) (b : By) (a : Fin 4) (v : BitVec 16) (s : State) : exec (.manualDutyTarget t b a v) s = execManualDutyTarget t b a v s := rfl
theorem exec_lockstepMismatch (t : Nat) (j1 : Fin 2) (granted : Bool) (s : State) : exec (.lockstepMismatch t j1 granted) s = execLockstepMismatch t j1 granted s := rfl
theorem exec_pairRestartComplete (t : Nat) (j1 : Fin 2) (s : State) : exec (.pairRestartComplete t j1) s = execPairRestartComplete t j1 s := rfl
theorem exec_watchdogRestart (t : Nat) (s : State) : exec (.watchdogRestart t) s = execWatchdogRestart t s := rfl
theorem exec_resetSequence (t : Nat) (bad : List Nat) (agree : Bool) (testA : Bool) (testB : Bool) (s : State) : exec (.resetSequence t bad agree testA testB) s = execResetSequence t bad agree testA testB s := rfl
theorem exec_bankLoaded (t : Nat) (v0 : Option FwImg) (v1 : Option FwImg) (rec : Option (Fin 2 × Nat)) (set : Option (Nat × List (Nat × Bytes))) (s : State) : exec (.bankLoaded t v0 v1 rec set) s = execBankLoaded t v0 v1 rec set s := rfl
theorem exec_paramSave (t : Nat) (b : By) (v : Nat) (s : State) : exec (.paramSave t b v) s = execParamSave t b v s := rfl
theorem exec_paramSaveComplete (t : Nat) (s : State) : exec (.paramSaveComplete t) s = execParamSaveComplete t s := rfl
theorem exec_paramErase (t : Nat) (b : By) (v : Nat) (s : State) : exec (.paramErase t b v) s = execParamErase t b v s := rfl
theorem exec_imageData (t : Nat) (b : By) (bs : Bytes) (s : State) : exec (.imageData t b bs) s = execImageData t b bs s := rfl
theorem exec_imageOffset (t : Nat) (b : By) (v : Nat) (s : State) : exec (.imageOffset t b v) s = execImageOffset t b v s := rfl
theorem exec_imageVerify (t : Nat) (b : By) (v : Nat) (s : State) : exec (.imageVerify t b v) s = execImageVerify t b v s := rfl
theorem exec_imageProgrammed (t : Nat) (ok : Bool) (s : State) : exec (.imageProgrammed t ok) s = execImageProgrammed t ok s := rfl
theorem exec_handOver (t : Nat) (s : State) : exec (.handOver t) s = execHandOver t s := rfl
theorem exec_handOverEnd (t : Nat) (pause : Nat) (good : Bool) (s : State) : exec (.handOverEnd t pause good) s = execHandOverEnd t pause good s := rfl
theorem exec_quietTimeout (t : Nat) (s : State) : exec (.quietTimeout t) s = execQuietTimeout t s := rfl
theorem exec_trialEnd (t : Nat) (s : State) : exec (.trialEnd t) s = execTrialEnd t s := rfl
theorem exec_securityCommit (t : Nat) (b : By) (v : Nat) (s : State) : exec (.securityCommit t b v) s = execSecurityCommit t b v s := rfl
theorem exec_keyRevoke (t : Nat) (b : By) (v : Nat) (s : State) : exec (.keyRevoke t b v) s = execKeyRevoke t b v s := rfl
theorem exec_adcSelfTest (t : Nat) (x : Fin 6) (z0 : Int) (h0 : Int) (z1 : Int) (h1 : Int) (v : Int) (s : State) : exec (.adcSelfTest t x z0 h0 z1 h1 v) s = execAdcSelfTest t x z0 h0 z1 h1 v s := rfl
theorem exec_sectionService (t : Nat) (b : By) (x : Fin 6) (v : Nat) (s : State) : exec (.sectionService t b x v) s = execSectionService t b x v s := rfl
theorem exec_commaAlignmentGained (t : Nat) (p : Fin 2) (s : State) : exec (.commaAlignmentGained t p) s = execCommaAlignmentGained t p s := rfl
theorem exec_vpdGood (t : Nat) (s : State) : exec (.vpdGood t) s = execVpdGood t s := rfl
theorem exec_referenceRunComplete (t : Nat) (a : Fin 4) (s : State) : exec (.referenceRunComplete t a) s = execReferenceRunComplete t a s := rfl
theorem exec_tapLeavingTestLogicReset (t : TapIn) (s : State) : exec (.tapLeavingTestLogicReset t) s = execTapLeavingTestLogicReset t s := rfl
theorem exec_hearthPowerLost (t : Nat) (s : State) : exec (.hearthPowerLost t) s = execHearthPowerLost t s := rfl

end Sys2Proof.Machine
end

