-- ==== Sys2Proof/Laws/State.lean ====
section
/-! SUPPORT. What each update of the state leaves alone, one lemma per field and update, and what reading an object gives after
each of them. -/

namespace Sys2Proof.Machine

variable (s : State)

/-! ### set -/

@[simp] theorem State.set_now (k : Nat) (v : Int) : (s.set k v).now = s.now := rfl
@[simp] theorem State.set_tbOff (k : Nat) (v : Int) : (s.set k v).tbOff = s.tbOff := rfl
@[simp] theorem State.set_tbFrac (k : Nat) (v : Int) : (s.set k v).tbFrac = s.tbFrac := rfl
@[simp] theorem State.set_blobs (k : Nat) (v : Int) : (s.set k v).blobs = s.blobs := rfl
@[simp] theorem State.set_secs (k : Nat) (v : Int) : (s.set k v).secs = s.secs := rfl
@[simp] theorem State.set_hbs (k : Nat) (v : Int) : (s.set k v).hbs = s.hbs := rfl
@[simp] theorem State.set_axes (k : Nat) (v : Int) : (s.set k v).axes = s.axes := rfl
@[simp] theorem State.set_encs (k : Nat) (v : Int) : (s.set k v).encs = s.encs := rfl
@[simp] theorem State.set_slots (k : Nat) (v : Int) : (s.set k v).slots = s.slots := rfl
@[simp] theorem State.set_lanes (k : Nat) (v : Int) : (s.set k v).lanes = s.lanes := rfl
@[simp] theorem State.set_port (k : Nat) (v : Int) : (s.set k v).port = s.port := rfl
@[simp] theorem State.set_rereading (k : Nat) (v : Int) : (s.set k v).rereading = s.rereading := rfl
@[simp] theorem State.set_gens (k : Nat) (v : Int) : (s.set k v).gens = s.gens := rfl
@[simp] theorem State.set_cap (k : Nat) (v : Int) : (s.set k v).cap = s.cap := rfl
@[simp] theorem State.set_tongs (k : Nat) (v : Int) : (s.set k v).tongs = s.tongs := rfl
@[simp] theorem State.set_discAt (k : Nat) (v : Int) : (s.set k v).discAt = s.discAt := rfl
@[simp] theorem State.set_disc (k : Nat) (v : Int) : (s.set k v).disc = s.disc := rfl
@[simp] theorem State.set_leftZero (k : Nat) (v : Int) : (s.set k v).leftZero = s.leftZero := rfl
@[simp] theorem State.set_latch (k : Nat) (v : Int) : (s.set k v).latch = s.latch := rfl
@[simp] theorem State.set_images (k : Nat) (v : Int) : (s.set k v).images = s.images := rfl
@[simp] theorem State.set_confirming (k : Nat) (v : Int) : (s.set k v).confirming = s.confirming := rfl
@[simp] theorem State.set_cfgDue (k : Nat) (v : Int) : (s.set k v).cfgDue = s.cfgDue := rfl
@[simp] theorem State.set_jq (k : Nat) (v : Int) : (s.set k v).jq = s.jq := rfl
@[simp] theorem State.set_jdrop (k : Nat) (v : Int) : (s.set k v).jdrop = s.jdrop := rfl
@[simp] theorem State.set_jarr (k : Nat) (v : Int) : (s.set k v).jarr = s.jarr := rfl
@[simp] theorem State.set_ring (k : Nat) (v : Int) : (s.set k v).ring = s.ring := rfl
@[simp] theorem State.set_holdAt (k : Nat) (v : Int) : (s.set k v).holdAt = s.holdAt := rfl
@[simp] theorem State.set_sessions (k : Nat) (v : Int) : (s.set k v).sessions = s.sessions := rfl
@[simp] theorem State.set_freed (k : Nat) (v : Int) : (s.set k v).freed = s.freed := rfl
@[simp] theorem State.set_locks (k : Nat) (v : Int) : (s.set k v).locks = s.locks := rfl
@[simp] theorem State.set_best (k : Nat) (v : Int) : (s.set k v).best = s.best := rfl
@[simp] theorem State.set_bestAt (k : Nat) (v : Int) : (s.set k v).bestAt = s.bestAt := rfl
@[simp] theorem State.set_queue (k : Nat) (v : Int) : (s.set k v).queue = s.queue := rfl
@[simp] theorem State.set_flights (k : Nat) (v : Int) : (s.set k v).flights = s.flights := rfl
@[simp] theorem State.set_routes (k : Nat) (v : Int) : (s.set k v).routes = s.routes := rfl
@[simp] theorem State.set_hostOut (k : Nat) (v : Int) : (s.set k v).hostOut = s.hostOut := rfl
@[simp] theorem State.set_opens (k : Nat) (v : Int) : (s.set k v).opens = s.opens := rfl
@[simp] theorem State.set_last06 (k : Nat) (v : Int) : (s.set k v).last06 = s.last06 := rfl
@[simp] theorem State.set_last07 (k : Nat) (v : Int) : (s.set k v).last07 = s.last07 := rfl
@[simp] theorem State.set_last08 (k : Nat) (v : Int) : (s.set k v).last08 = s.last08 := rfl
@[simp] theorem State.set_txs (k : Nat) (v : Int) : (s.set k v).txs = s.txs := rfl
@[simp] theorem State.set_txUse (k : Nat) (v : Int) : (s.set k v).txUse = s.txUse := rfl
@[simp] theorem State.set_fences (k : Nat) (v : Int) : (s.set k v).fences = s.fences := rfl
@[simp] theorem State.set_heldW (k : Nat) (v : Int) : (s.set k v).heldW = s.heldW := rfl
@[simp] theorem State.set_naz (k : Nat) (v : Int) : (s.set k v).naz = s.naz := rfl
@[simp] theorem State.set_can (k : Nat) (v : Int) : (s.set k v).can = s.can := rfl
@[simp] theorem State.set_power (k : Nat) (v : Int) : (s.set k v).power = s.power := rfl
@[simp] theorem State.set_fw (k : Nat) (v : Int) : (s.set k v).fw = s.fw := rfl
@[simp] theorem State.set_raised (k : Nat) (v : Int) : (s.set k v).raised = s.raised := rfl
@[simp] theorem State.set_outs (k : Nat) (v : Int) : (s.set k v).outs = s.outs := rfl
@[simp] theorem State.set_freeCtr (k : Nat) (v : Int) : (s.set k v).freeCtr = s.freeCtr := rfl
@[simp] theorem State.set_pending (k : Nat) (v : Int) : (s.set k v).pending = s.pending := rfl
@[simp] theorem State.set_blob (k : Nat) (v : Int) (j : Nat) : (s.set k v).blob j = s.blob j := rfl
@[simp] theorem State.set_cfgOf (k : Nat) (v : Int) (c : Fin 2) (j : Nat) : (s.set k v).cfgOf c j = s.cfgOf c j := rfl
@[simp] theorem State.set_cfg (k : Nat) (v : Int) (j : Nat) : (s.set k v).cfg j = s.cfg j := rfl

/-! ### setBlob -/

@[simp] theorem State.setBlob_now (k : Nat) (v : Bytes) : (s.setBlob k v).now = s.now := rfl
@[simp] theorem State.setBlob_tbOff (k : Nat) (v : Bytes) : (s.setBlob k v).tbOff = s.tbOff := rfl
@[simp] theorem State.setBlob_tbFrac (k : Nat) (v : Bytes) : (s.setBlob k v).tbFrac = s.tbFrac := rfl
@[simp] theorem State.setBlob_dict (k : Nat) (v : Bytes) : (s.setBlob k v).dict = s.dict := rfl
@[simp] theorem State.setBlob_secs (k : Nat) (v : Bytes) : (s.setBlob k v).secs = s.secs := rfl
@[simp] theorem State.setBlob_hbs (k : Nat) (v : Bytes) : (s.setBlob k v).hbs = s.hbs := rfl
@[simp] theorem State.setBlob_axes (k : Nat) (v : Bytes) : (s.setBlob k v).axes = s.axes := rfl
@[simp] theorem State.setBlob_encs (k : Nat) (v : Bytes) : (s.setBlob k v).encs = s.encs := rfl
@[simp] theorem State.setBlob_slots (k : Nat) (v : Bytes) : (s.setBlob k v).slots = s.slots := rfl
@[simp] theorem State.setBlob_lanes (k : Nat) (v : Bytes) : (s.setBlob k v).lanes = s.lanes := rfl
@[simp] theorem State.setBlob_port (k : Nat) (v : Bytes) : (s.setBlob k v).port = s.port := rfl
@[simp] theorem State.setBlob_rereading (k : Nat) (v : Bytes) : (s.setBlob k v).rereading = s.rereading := rfl
@[simp] theorem State.setBlob_gens (k : Nat) (v : Bytes) : (s.setBlob k v).gens = s.gens := rfl
@[simp] theorem State.setBlob_cap (k : Nat) (v : Bytes) : (s.setBlob k v).cap = s.cap := rfl
@[simp] theorem State.setBlob_tongs (k : Nat) (v : Bytes) : (s.setBlob k v).tongs = s.tongs := rfl
@[simp] theorem State.setBlob_discAt (k : Nat) (v : Bytes) : (s.setBlob k v).discAt = s.discAt := rfl
@[simp] theorem State.setBlob_disc (k : Nat) (v : Bytes) : (s.setBlob k v).disc = s.disc := rfl
@[simp] theorem State.setBlob_leftZero (k : Nat) (v : Bytes) : (s.setBlob k v).leftZero = s.leftZero := rfl
@[simp] theorem State.setBlob_latch (k : Nat) (v : Bytes) : (s.setBlob k v).latch = s.latch := rfl
@[simp] theorem State.setBlob_images (k : Nat) (v : Bytes) : (s.setBlob k v).images = s.images := rfl
@[simp] theorem State.setBlob_confirming (k : Nat) (v : Bytes) : (s.setBlob k v).confirming = s.confirming := rfl
@[simp] theorem State.setBlob_cfgDue (k : Nat) (v : Bytes) : (s.setBlob k v).cfgDue = s.cfgDue := rfl
@[simp] theorem State.setBlob_jq (k : Nat) (v : Bytes) : (s.setBlob k v).jq = s.jq := rfl
@[simp] theorem State.setBlob_jdrop (k : Nat) (v : Bytes) : (s.setBlob k v).jdrop = s.jdrop := rfl
@[simp] theorem State.setBlob_jarr (k : Nat) (v : Bytes) : (s.setBlob k v).jarr = s.jarr := rfl
@[simp] theorem State.setBlob_ring (k : Nat) (v : Bytes) : (s.setBlob k v).ring = s.ring := rfl
@[simp] theorem State.setBlob_holdAt (k : Nat) (v : Bytes) : (s.setBlob k v).holdAt = s.holdAt := rfl
@[simp] theorem State.setBlob_sessions (k : Nat) (v : Bytes) : (s.setBlob k v).sessions = s.sessions := rfl
@[simp] theorem State.setBlob_freed (k : Nat) (v : Bytes) : (s.setBlob k v).freed = s.freed := rfl
@[simp] theorem State.setBlob_locks (k : Nat) (v : Bytes) : (s.setBlob k v).locks = s.locks := rfl
@[simp] theorem State.setBlob_best (k : Nat) (v : Bytes) : (s.setBlob k v).best = s.best := rfl
@[simp] theorem State.setBlob_bestAt (k : Nat) (v : Bytes) : (s.setBlob k v).bestAt = s.bestAt := rfl
@[simp] theorem State.setBlob_queue (k : Nat) (v : Bytes) : (s.setBlob k v).queue = s.queue := rfl
@[simp] theorem State.setBlob_flights (k : Nat) (v : Bytes) : (s.setBlob k v).flights = s.flights := rfl
@[simp] theorem State.setBlob_routes (k : Nat) (v : Bytes) : (s.setBlob k v).routes = s.routes := rfl
@[simp] theorem State.setBlob_hostOut (k : Nat) (v : Bytes) : (s.setBlob k v).hostOut = s.hostOut := rfl
@[simp] theorem State.setBlob_opens (k : Nat) (v : Bytes) : (s.setBlob k v).opens = s.opens := rfl
@[simp] theorem State.setBlob_last06 (k : Nat) (v : Bytes) : (s.setBlob k v).last06 = s.last06 := rfl
@[simp] theorem State.setBlob_last07 (k : Nat) (v : Bytes) : (s.setBlob k v).last07 = s.last07 := rfl
@[simp] theorem State.setBlob_last08 (k : Nat) (v : Bytes) : (s.setBlob k v).last08 = s.last08 := rfl
@[simp] theorem State.setBlob_txs (k : Nat) (v : Bytes) : (s.setBlob k v).txs = s.txs := rfl
@[simp] theorem State.setBlob_txUse (k : Nat) (v : Bytes) : (s.setBlob k v).txUse = s.txUse := rfl
@[simp] theorem State.setBlob_fences (k : Nat) (v : Bytes) : (s.setBlob k v).fences = s.fences := rfl
@[simp] theorem State.setBlob_heldW (k : Nat) (v : Bytes) : (s.setBlob k v).heldW = s.heldW := rfl
@[simp] theorem State.setBlob_naz (k : Nat) (v : Bytes) : (s.setBlob k v).naz = s.naz := rfl
@[simp] theorem State.setBlob_can (k : Nat) (v : Bytes) : (s.setBlob k v).can = s.can := rfl
@[simp] theorem State.setBlob_power (k : Nat) (v : Bytes) : (s.setBlob k v).power = s.power := rfl
@[simp] theorem State.setBlob_fw (k : Nat) (v : Bytes) : (s.setBlob k v).fw = s.fw := rfl
@[simp] theorem State.setBlob_raised (k : Nat) (v : Bytes) : (s.setBlob k v).raised = s.raised := rfl
@[simp] theorem State.setBlob_outs (k : Nat) (v : Bytes) : (s.setBlob k v).outs = s.outs := rfl
@[simp] theorem State.setBlob_freeCtr (k : Nat) (v : Bytes) : (s.setBlob k v).freeCtr = s.freeCtr := rfl
@[simp] theorem State.setBlob_pending (k : Nat) (v : Bytes) : (s.setBlob k v).pending = s.pending := rfl
@[simp] theorem State.setBlob_get (k : Nat) (v : Bytes) (j : Nat) : (s.setBlob k v).get j = s.get j := rfl
@[simp] theorem State.setBlob_nat (k : Nat) (v : Bytes) (j : Nat) : (s.setBlob k v).nat j = s.nat j := rfl
@[simp] theorem State.setBlob_flag (k : Nat) (v : Bytes) (j : Nat) : (s.setBlob k v).flag j = s.flag j := rfl
@[simp] theorem State.setBlob_cfgOf (k : Nat) (v : Bytes) (c : Fin 2) (j : Nat) : (s.setBlob k v).cfgOf c j = s.cfgOf c j := rfl
@[simp] theorem State.setBlob_cfg (k : Nat) (v : Bytes) (j : Nat) : (s.setBlob k v).cfg j = s.cfg j := rfl

/-! ### emit -/

@[simp] theorem State.emit_now (o : Out) : (s.emit o).now = s.now := rfl
@[simp] theorem State.emit_tbOff (o : Out) : (s.emit o).tbOff = s.tbOff := rfl
@[simp] theorem State.emit_tbFrac (o : Out) : (s.emit o).tbFrac = s.tbFrac := rfl
@[simp] theorem State.emit_dict (o : Out) : (s.emit o).dict = s.dict := rfl
@[simp] theorem State.emit_blobs (o : Out) : (s.emit o).blobs = s.blobs := rfl
@[simp] theorem State.emit_secs (o : Out) : (s.emit o).secs = s.secs := rfl
@[simp] theorem State.emit_hbs (o : Out) : (s.emit o).hbs = s.hbs := rfl
@[simp] theorem State.emit_axes (o : Out) : (s.emit o).axes = s.axes := rfl
@[simp] theorem State.emit_encs (o : Out) : (s.emit o).encs = s.encs := rfl
@[simp] theorem State.emit_slots (o : Out) : (s.emit o).slots = s.slots := rfl
@[simp] theorem State.emit_lanes (o : Out) : (s.emit o).lanes = s.lanes := rfl
@[simp] theorem State.emit_port (o : Out) : (s.emit o).port = s.port := rfl
@[simp] theorem State.emit_rereading (o : Out) : (s.emit o).rereading = s.rereading := rfl
@[simp] theorem State.emit_gens (o : Out) : (s.emit o).gens = s.gens := rfl
@[simp] theorem State.emit_cap (o : Out) : (s.emit o).cap = s.cap := rfl
@[simp] theorem State.emit_tongs (o : Out) : (s.emit o).tongs = s.tongs := rfl
@[simp] theorem State.emit_discAt (o : Out) : (s.emit o).discAt = s.discAt := rfl
@[simp] theorem State.emit_disc (o : Out) : (s.emit o).disc = s.disc := rfl
@[simp] theorem State.emit_leftZero (o : Out) : (s.emit o).leftZero = s.leftZero := rfl
@[simp] theorem State.emit_latch (o : Out) : (s.emit o).latch = s.latch := rfl
@[simp] theorem State.emit_images (o : Out) : (s.emit o).images = s.images := rfl
@[simp] theorem State.emit_confirming (o : Out) : (s.emit o).confirming = s.confirming := rfl
@[simp] theorem State.emit_cfgDue (o : Out) : (s.emit o).cfgDue = s.cfgDue := rfl
@[simp] theorem State.emit_jq (o : Out) : (s.emit o).jq = s.jq := rfl
@[simp] theorem State.emit_jdrop (o : Out) : (s.emit o).jdrop = s.jdrop := rfl
@[simp] theorem State.emit_jarr (o : Out) : (s.emit o).jarr = s.jarr := rfl
@[simp] theorem State.emit_ring (o : Out) : (s.emit o).ring = s.ring := rfl
@[simp] theorem State.emit_holdAt (o : Out) : (s.emit o).holdAt = s.holdAt := rfl
@[simp] theorem State.emit_sessions (o : Out) : (s.emit o).sessions = s.sessions := rfl
@[simp] theorem State.emit_freed (o : Out) : (s.emit o).freed = s.freed := rfl
@[simp] theorem State.emit_locks (o : Out) : (s.emit o).locks = s.locks := rfl
@[simp] theorem State.emit_best (o : Out) : (s.emit o).best = s.best := rfl
@[simp] theorem State.emit_bestAt (o : Out) : (s.emit o).bestAt = s.bestAt := rfl
@[simp] theorem State.emit_queue (o : Out) : (s.emit o).queue = s.queue := rfl
@[simp] theorem State.emit_flights (o : Out) : (s.emit o).flights = s.flights := rfl
@[simp] theorem State.emit_routes (o : Out) : (s.emit o).routes = s.routes := rfl
@[simp] theorem State.emit_hostOut (o : Out) : (s.emit o).hostOut = s.hostOut := rfl
@[simp] theorem State.emit_opens (o : Out) : (s.emit o).opens = s.opens := rfl
@[simp] theorem State.emit_last06 (o : Out) : (s.emit o).last06 = s.last06 := rfl
@[simp] theorem State.emit_last07 (o : Out) : (s.emit o).last07 = s.last07 := rfl
@[simp] theorem State.emit_last08 (o : Out) : (s.emit o).last08 = s.last08 := rfl
@[simp] theorem State.emit_txs (o : Out) : (s.emit o).txs = s.txs := rfl
@[simp] theorem State.emit_txUse (o : Out) : (s.emit o).txUse = s.txUse := rfl
@[simp] theorem State.emit_fences (o : Out) : (s.emit o).fences = s.fences := rfl
@[simp] theorem State.emit_heldW (o : Out) : (s.emit o).heldW = s.heldW := rfl
@[simp] theorem State.emit_naz (o : Out) : (s.emit o).naz = s.naz := rfl
@[simp] theorem State.emit_can (o : Out) : (s.emit o).can = s.can := rfl
@[simp] theorem State.emit_power (o : Out) : (s.emit o).power = s.power := rfl
@[simp] theorem State.emit_fw (o : Out) : (s.emit o).fw = s.fw := rfl
@[simp] theorem State.emit_raised (o : Out) : (s.emit o).raised = s.raised := rfl
@[simp] theorem State.emit_freeCtr (o : Out) : (s.emit o).freeCtr = s.freeCtr := rfl
@[simp] theorem State.emit_pending (o : Out) : (s.emit o).pending = s.pending := rfl
@[simp] theorem State.emit_get (o : Out) (j : Nat) : (s.emit o).get j = s.get j := rfl
@[simp] theorem State.emit_nat (o : Out) (j : Nat) : (s.emit o).nat j = s.nat j := rfl
@[simp] theorem State.emit_flag (o : Out) (j : Nat) : (s.emit o).flag j = s.flag j := rfl
@[simp] theorem State.emit_blob (o : Out) (j : Nat) : (s.emit o).blob j = s.blob j := rfl
@[simp] theorem State.emit_cfgOf (o : Out) (c : Fin 2) (j : Nat) : (s.emit o).cfgOf c j = s.cfgOf c j := rfl
@[simp] theorem State.emit_cfg (o : Out) (j : Nat) : (s.emit o).cfg j = s.cfg j := rfl

/-! ### journal -/

@[simp] theorem State.journal_now (cls isl detail src : Nat) (data : Bytes) : (s.journal cls isl detail src data).now = s.now := rfl
@[simp] theorem State.journal_tbOff (cls isl detail src : Nat) (data : Bytes) : (s.journal cls isl detail src data).tbOff = s.tbOff := rfl
@[simp] theorem State.journal_tbFrac (cls isl detail src : Nat) (data : Bytes) : (s.journal cls isl detail src data).tbFrac = s.tbFrac := rfl
@[simp] theorem State.journal_dict (cls isl detail src : Nat) (data : Bytes) : (s.journal cls isl detail src data).dict = s.dict := rfl
@[simp] theorem State.journal_blobs (cls isl detail src : Nat) (data : Bytes) : (s.journal cls isl detail src data).blobs = s.blobs := rfl
@[simp] theorem State.journal_secs (cls isl detail src : Nat) (data : Bytes) : (s.journal cls isl detail src data).secs = s.secs := rfl
@[simp] theorem State.journal_hbs (cls isl detail src : Nat) (data : Bytes) : (s.journal cls isl detail src data).hbs = s.hbs := rfl
@[simp] theorem State.journal_axes (cls isl detail src : Nat) (data : Bytes) : (s.journal cls isl detail src data).axes = s.axes := rfl
@[simp] theorem State.journal_encs (cls isl detail src : Nat) (data : Bytes) : (s.journal cls isl detail src data).encs = s.encs := rfl
@[simp] theorem State.journal_slots (cls isl detail src : Nat) (data : Bytes) : (s.journal cls isl detail src data).slots = s.slots := rfl
@[simp] theorem State.journal_lanes (cls isl detail src : Nat) (data : Bytes) : (s.journal cls isl detail src data).lanes = s.lanes := rfl
@[simp] theorem State.journal_port (cls isl detail src : Nat) (data : Bytes) : (s.journal cls isl detail src data).port = s.port := rfl
@[simp] theorem State.journal_rereading (cls isl detail src : Nat) (data : Bytes) : (s.journal cls isl detail src data).rereading = s.rereading := rfl
@[simp] theorem State.journal_gens (cls isl detail src : Nat) (data : Bytes) : (s.journal cls isl detail src data).gens = s.gens := rfl
@[simp] theorem State.journal_cap (cls isl detail src : Nat) (data : Bytes) : (s.journal cls isl detail src data).cap = s.cap := rfl
@[simp] theorem State.journal_tongs (cls isl detail src : Nat) (data : Bytes) : (s.journal cls isl detail src data).tongs = s.tongs := rfl
@[simp] theorem State.journal_discAt (cls isl detail src : Nat) (data : Bytes) : (s.journal cls isl detail src data).discAt = s.discAt := rfl
@[simp] theorem State.journal_disc (cls isl detail src : Nat) (data : Bytes) : (s.journal cls isl detail src data).disc = s.disc := rfl
@[simp] theorem State.journal_leftZero (cls isl detail src : Nat) (data : Bytes) : (s.journal cls isl detail src data).leftZero = s.leftZero := rfl
@[simp] theorem State.journal_latch (cls isl detail src : Nat) (data : Bytes) : (s.journal cls isl detail src data).latch = s.latch := rfl
@[simp] theorem State.journal_images (cls isl detail src : Nat) (data : Bytes) : (s.journal cls isl detail src data).images = s.images := rfl
@[simp] theorem State.journal_confirming (cls isl detail src : Nat) (data : Bytes) : (s.journal cls isl detail src data).confirming = s.confirming := rfl
@[simp] theorem State.journal_cfgDue (cls isl detail src : Nat) (data : Bytes) : (s.journal cls isl detail src data).cfgDue = s.cfgDue := rfl
@[simp] theorem State.journal_jq (cls isl detail src : Nat) (data : Bytes) : (s.journal cls isl detail src data).jq = s.jq := rfl
@[simp] theorem State.journal_jdrop (cls isl detail src : Nat) (data : Bytes) : (s.journal cls isl detail src data).jdrop = s.jdrop := rfl
@[simp] theorem State.journal_jarr (cls isl detail src : Nat) (data : Bytes) : (s.journal cls isl detail src data).jarr = s.jarr := rfl
@[simp] theorem State.journal_ring (cls isl detail src : Nat) (data : Bytes) : (s.journal cls isl detail src data).ring = s.ring := rfl
@[simp] theorem State.journal_holdAt (cls isl detail src : Nat) (data : Bytes) : (s.journal cls isl detail src data).holdAt = s.holdAt := rfl
@[simp] theorem State.journal_sessions (cls isl detail src : Nat) (data : Bytes) : (s.journal cls isl detail src data).sessions = s.sessions := rfl
@[simp] theorem State.journal_freed (cls isl detail src : Nat) (data : Bytes) : (s.journal cls isl detail src data).freed = s.freed := rfl
@[simp] theorem State.journal_locks (cls isl detail src : Nat) (data : Bytes) : (s.journal cls isl detail src data).locks = s.locks := rfl
@[simp] theorem State.journal_best (cls isl detail src : Nat) (data : Bytes) : (s.journal cls isl detail src data).best = s.best := rfl
@[simp] theorem State.journal_bestAt (cls isl detail src : Nat) (data : Bytes) : (s.journal cls isl detail src data).bestAt = s.bestAt := rfl
@[simp] theorem State.journal_queue (cls isl detail src : Nat) (data : Bytes) : (s.journal cls isl detail src data).queue = s.queue := rfl
@[simp] theorem State.journal_flights (cls isl detail src : Nat) (data : Bytes) : (s.journal cls isl detail src data).flights = s.flights := rfl
@[simp] theorem State.journal_routes (cls isl detail src : Nat) (data : Bytes) : (s.journal cls isl detail src data).routes = s.routes := rfl
@[simp] theorem State.journal_hostOut (cls isl detail src : Nat) (data : Bytes) : (s.journal cls isl detail src data).hostOut = s.hostOut := rfl
@[simp] theorem State.journal_opens (cls isl detail src : Nat) (data : Bytes) : (s.journal cls isl detail src data).opens = s.opens := rfl
@[simp] theorem State.journal_last06 (cls isl detail src : Nat) (data : Bytes) : (s.journal cls isl detail src data).last06 = s.last06 := rfl
@[simp] theorem State.journal_last07 (cls isl detail src : Nat) (data : Bytes) : (s.journal cls isl detail src data).last07 = s.last07 := rfl
@[simp] theorem State.journal_last08 (cls isl detail src : Nat) (data : Bytes) : (s.journal cls isl detail src data).last08 = s.last08 := rfl
@[simp] theorem State.journal_txs (cls isl detail src : Nat) (data : Bytes) : (s.journal cls isl detail src data).txs = s.txs := rfl
@[simp] theorem State.journal_txUse (cls isl detail src : Nat) (data : Bytes) : (s.journal cls isl detail src data).txUse = s.txUse := rfl
@[simp] theorem State.journal_fences (cls isl detail src : Nat) (data : Bytes) : (s.journal cls isl detail src data).fences = s.fences := rfl
@[simp] theorem State.journal_heldW (cls isl detail src : Nat) (data : Bytes) : (s.journal cls isl detail src data).heldW = s.heldW := rfl
@[simp] theorem State.journal_naz (cls isl detail src : Nat) (data : Bytes) : (s.journal cls isl detail src data).naz = s.naz := rfl
@[simp] theorem State.journal_can (cls isl detail src : Nat) (data : Bytes) : (s.journal cls isl detail src data).can = s.can := rfl
@[simp] theorem State.journal_power (cls isl detail src : Nat) (data : Bytes) : (s.journal cls isl detail src data).power = s.power := rfl
@[simp] theorem State.journal_fw (cls isl detail src : Nat) (data : Bytes) : (s.journal cls isl detail src data).fw = s.fw := rfl
@[simp] theorem State.journal_outs (cls isl detail src : Nat) (data : Bytes) : (s.journal cls isl detail src data).outs = s.outs := rfl
@[simp] theorem State.journal_freeCtr (cls isl detail src : Nat) (data : Bytes) : (s.journal cls isl detail src data).freeCtr = s.freeCtr := rfl
@[simp] theorem State.journal_pending (cls isl detail src : Nat) (data : Bytes) : (s.journal cls isl detail src data).pending = s.pending := rfl
@[simp] theorem State.journal_get (cls isl detail src : Nat) (data : Bytes) (j : Nat) : (s.journal cls isl detail src data).get j = s.get j := rfl
@[simp] theorem State.journal_nat (cls isl detail src : Nat) (data : Bytes) (j : Nat) : (s.journal cls isl detail src data).nat j = s.nat j := rfl
@[simp] theorem State.journal_flag (cls isl detail src : Nat) (data : Bytes) (j : Nat) : (s.journal cls isl detail src data).flag j = s.flag j := rfl
@[simp] theorem State.journal_blob (cls isl detail src : Nat) (data : Bytes) (j : Nat) : (s.journal cls isl detail src data).blob j = s.blob j := rfl
@[simp] theorem State.journal_cfgOf (cls isl detail src : Nat) (data : Bytes) (c : Fin 2) (j : Nat) : (s.journal cls isl detail src data).cfgOf c j = s.cfgOf c j := rfl
@[simp] theorem State.journal_cfg (cls isl detail src : Nat) (data : Bytes) (j : Nat) : (s.journal cls isl detail src data).cfg j = s.cfg j := rfl

/-! ### atTime -/

@[simp] theorem State.atTime_dict (t : Nat) : (s.at_ t).dict = s.dict := rfl
@[simp] theorem State.atTime_blobs (t : Nat) : (s.at_ t).blobs = s.blobs := rfl
@[simp] theorem State.atTime_secs (t : Nat) : (s.at_ t).secs = s.secs := rfl
@[simp] theorem State.atTime_hbs (t : Nat) : (s.at_ t).hbs = s.hbs := rfl
@[simp] theorem State.atTime_axes (t : Nat) : (s.at_ t).axes = s.axes := rfl
@[simp] theorem State.atTime_encs (t : Nat) : (s.at_ t).encs = s.encs := rfl
@[simp] theorem State.atTime_slots (t : Nat) : (s.at_ t).slots = s.slots := rfl
@[simp] theorem State.atTime_lanes (t : Nat) : (s.at_ t).lanes = s.lanes := rfl
@[simp] theorem State.atTime_port (t : Nat) : (s.at_ t).port = s.port := rfl
@[simp] theorem State.atTime_rereading (t : Nat) : (s.at_ t).rereading = s.rereading := rfl
@[simp] theorem State.atTime_gens (t : Nat) : (s.at_ t).gens = s.gens := rfl
@[simp] theorem State.atTime_cap (t : Nat) : (s.at_ t).cap = s.cap := rfl
@[simp] theorem State.atTime_tongs (t : Nat) : (s.at_ t).tongs = s.tongs := rfl
@[simp] theorem State.atTime_discAt (t : Nat) : (s.at_ t).discAt = s.discAt := rfl
@[simp] theorem State.atTime_disc (t : Nat) : (s.at_ t).disc = s.disc := rfl
@[simp] theorem State.atTime_leftZero (t : Nat) : (s.at_ t).leftZero = s.leftZero := rfl
@[simp] theorem State.atTime_latch (t : Nat) : (s.at_ t).latch = s.latch := rfl
@[simp] theorem State.atTime_images (t : Nat) : (s.at_ t).images = s.images := rfl
@[simp] theorem State.atTime_confirming (t : Nat) : (s.at_ t).confirming = s.confirming := rfl
@[simp] theorem State.atTime_cfgDue (t : Nat) : (s.at_ t).cfgDue = s.cfgDue := rfl
@[simp] theorem State.atTime_jq (t : Nat) : (s.at_ t).jq = s.jq := rfl
@[simp] theorem State.atTime_jdrop (t : Nat) : (s.at_ t).jdrop = s.jdrop := rfl
@[simp] theorem State.atTime_jarr (t : Nat) : (s.at_ t).jarr = s.jarr := rfl
@[simp] theorem State.atTime_ring (t : Nat) : (s.at_ t).ring = s.ring := rfl
@[simp] theorem State.atTime_holdAt (t : Nat) : (s.at_ t).holdAt = s.holdAt := rfl
@[simp] theorem State.atTime_sessions (t : Nat) : (s.at_ t).sessions = s.sessions := rfl
@[simp] theorem State.atTime_freed (t : Nat) : (s.at_ t).freed = s.freed := rfl
@[simp] theorem State.atTime_locks (t : Nat) : (s.at_ t).locks = s.locks := rfl
@[simp] theorem State.atTime_best (t : Nat) : (s.at_ t).best = s.best := rfl
@[simp] theorem State.atTime_bestAt (t : Nat) : (s.at_ t).bestAt = s.bestAt := rfl
@[simp] theorem State.atTime_queue (t : Nat) : (s.at_ t).queue = s.queue := rfl
@[simp] theorem State.atTime_flights (t : Nat) : (s.at_ t).flights = s.flights := rfl
@[simp] theorem State.atTime_routes (t : Nat) : (s.at_ t).routes = s.routes := rfl
@[simp] theorem State.atTime_hostOut (t : Nat) : (s.at_ t).hostOut = s.hostOut := rfl
@[simp] theorem State.atTime_opens (t : Nat) : (s.at_ t).opens = s.opens := rfl
@[simp] theorem State.atTime_last06 (t : Nat) : (s.at_ t).last06 = s.last06 := rfl
@[simp] theorem State.atTime_last07 (t : Nat) : (s.at_ t).last07 = s.last07 := rfl
@[simp] theorem State.atTime_last08 (t : Nat) : (s.at_ t).last08 = s.last08 := rfl
@[simp] theorem State.atTime_txs (t : Nat) : (s.at_ t).txs = s.txs := rfl
@[simp] theorem State.atTime_txUse (t : Nat) : (s.at_ t).txUse = s.txUse := rfl
@[simp] theorem State.atTime_fences (t : Nat) : (s.at_ t).fences = s.fences := rfl
@[simp] theorem State.atTime_heldW (t : Nat) : (s.at_ t).heldW = s.heldW := rfl
@[simp] theorem State.atTime_naz (t : Nat) : (s.at_ t).naz = s.naz := rfl
@[simp] theorem State.atTime_can (t : Nat) : (s.at_ t).can = s.can := rfl
@[simp] theorem State.atTime_power (t : Nat) : (s.at_ t).power = s.power := rfl
@[simp] theorem State.atTime_fw (t : Nat) : (s.at_ t).fw = s.fw := rfl
@[simp] theorem State.atTime_raised (t : Nat) : (s.at_ t).raised = s.raised := rfl
@[simp] theorem State.atTime_freeCtr (t : Nat) : (s.at_ t).freeCtr = s.freeCtr := rfl
@[simp] theorem State.atTime_pending (t : Nat) : (s.at_ t).pending = s.pending := rfl
@[simp] theorem State.atTime_get (t : Nat) (j : Nat) : (s.at_ t).get j = s.get j := rfl
@[simp] theorem State.atTime_nat (t : Nat) (j : Nat) : (s.at_ t).nat j = s.nat j := rfl
@[simp] theorem State.atTime_flag (t : Nat) (j : Nat) : (s.at_ t).flag j = s.flag j := rfl
@[simp] theorem State.atTime_blob (t : Nat) (j : Nat) : (s.at_ t).blob j = s.blob j := rfl
@[simp] theorem State.atTime_cfgOf (t : Nat) (c : Fin 2) (j : Nat) : (s.at_ t).cfgOf c j = s.cfgOf c j := rfl
@[simp] theorem State.atTime_cfg (t : Nat) (j : Nat) : (s.at_ t).cfg j = s.cfg j := rfl

/-! ### modSec -/

@[simp] theorem State.modSec_now (x : Fin 6) (f : Sec → Sec) : (s.modSec x f).now = s.now := rfl
@[simp] theorem State.modSec_tbOff (x : Fin 6) (f : Sec → Sec) : (s.modSec x f).tbOff = s.tbOff := rfl
@[simp] theorem State.modSec_tbFrac (x : Fin 6) (f : Sec → Sec) : (s.modSec x f).tbFrac = s.tbFrac := rfl
@[simp] theorem State.modSec_dict (x : Fin 6) (f : Sec → Sec) : (s.modSec x f).dict = s.dict := rfl
@[simp] theorem State.modSec_blobs (x : Fin 6) (f : Sec → Sec) : (s.modSec x f).blobs = s.blobs := rfl
@[simp] theorem State.modSec_hbs (x : Fin 6) (f : Sec → Sec) : (s.modSec x f).hbs = s.hbs := rfl
@[simp] theorem State.modSec_axes (x : Fin 6) (f : Sec → Sec) : (s.modSec x f).axes = s.axes := rfl
@[simp] theorem State.modSec_encs (x : Fin 6) (f : Sec → Sec) : (s.modSec x f).encs = s.encs := rfl
@[simp] theorem State.modSec_slots (x : Fin 6) (f : Sec → Sec) : (s.modSec x f).slots = s.slots := rfl
@[simp] theorem State.modSec_lanes (x : Fin 6) (f : Sec → Sec) : (s.modSec x f).lanes = s.lanes := rfl
@[simp] theorem State.modSec_port (x : Fin 6) (f : Sec → Sec) : (s.modSec x f).port = s.port := rfl
@[simp] theorem State.modSec_rereading (x : Fin 6) (f : Sec → Sec) : (s.modSec x f).rereading = s.rereading := rfl
@[simp] theorem State.modSec_gens (x : Fin 6) (f : Sec → Sec) : (s.modSec x f).gens = s.gens := rfl
@[simp] theorem State.modSec_cap (x : Fin 6) (f : Sec → Sec) : (s.modSec x f).cap = s.cap := rfl
@[simp] theorem State.modSec_tongs (x : Fin 6) (f : Sec → Sec) : (s.modSec x f).tongs = s.tongs := rfl
@[simp] theorem State.modSec_discAt (x : Fin 6) (f : Sec → Sec) : (s.modSec x f).discAt = s.discAt := rfl
@[simp] theorem State.modSec_disc (x : Fin 6) (f : Sec → Sec) : (s.modSec x f).disc = s.disc := rfl
@[simp] theorem State.modSec_leftZero (x : Fin 6) (f : Sec → Sec) : (s.modSec x f).leftZero = s.leftZero := rfl
@[simp] theorem State.modSec_latch (x : Fin 6) (f : Sec → Sec) : (s.modSec x f).latch = s.latch := rfl
@[simp] theorem State.modSec_images (x : Fin 6) (f : Sec → Sec) : (s.modSec x f).images = s.images := rfl
@[simp] theorem State.modSec_confirming (x : Fin 6) (f : Sec → Sec) : (s.modSec x f).confirming = s.confirming := rfl
@[simp] theorem State.modSec_cfgDue (x : Fin 6) (f : Sec → Sec) : (s.modSec x f).cfgDue = s.cfgDue := rfl
@[simp] theorem State.modSec_jq (x : Fin 6) (f : Sec → Sec) : (s.modSec x f).jq = s.jq := rfl
@[simp] theorem State.modSec_jdrop (x : Fin 6) (f : Sec → Sec) : (s.modSec x f).jdrop = s.jdrop := rfl
@[simp] theorem State.modSec_jarr (x : Fin 6) (f : Sec → Sec) : (s.modSec x f).jarr = s.jarr := rfl
@[simp] theorem State.modSec_ring (x : Fin 6) (f : Sec → Sec) : (s.modSec x f).ring = s.ring := rfl
@[simp] theorem State.modSec_holdAt (x : Fin 6) (f : Sec → Sec) : (s.modSec x f).holdAt = s.holdAt := rfl
@[simp] theorem State.modSec_sessions (x : Fin 6) (f : Sec → Sec) : (s.modSec x f).sessions = s.sessions := rfl
@[simp] theorem State.modSec_freed (x : Fin 6) (f : Sec → Sec) : (s.modSec x f).freed = s.freed := rfl
@[simp] theorem State.modSec_locks (x : Fin 6) (f : Sec → Sec) : (s.modSec x f).locks = s.locks := rfl
@[simp] theorem State.modSec_best (x : Fin 6) (f : Sec → Sec) : (s.modSec x f).best = s.best := rfl
@[simp] theorem State.modSec_bestAt (x : Fin 6) (f : Sec → Sec) : (s.modSec x f).bestAt = s.bestAt := rfl
@[simp] theorem State.modSec_queue (x : Fin 6) (f : Sec → Sec) : (s.modSec x f).queue = s.queue := rfl
@[simp] theorem State.modSec_flights (x : Fin 6) (f : Sec → Sec) : (s.modSec x f).flights = s.flights := rfl
@[simp] theorem State.modSec_routes (x : Fin 6) (f : Sec → Sec) : (s.modSec x f).routes = s.routes := rfl
@[simp] theorem State.modSec_hostOut (x : Fin 6) (f : Sec → Sec) : (s.modSec x f).hostOut = s.hostOut := rfl
@[simp] theorem State.modSec_opens (x : Fin 6) (f : Sec → Sec) : (s.modSec x f).opens = s.opens := rfl
@[simp] theorem State.modSec_last06 (x : Fin 6) (f : Sec → Sec) : (s.modSec x f).last06 = s.last06 := rfl
@[simp] theorem State.modSec_last07 (x : Fin 6) (f : Sec → Sec) : (s.modSec x f).last07 = s.last07 := rfl
@[simp] theorem State.modSec_last08 (x : Fin 6) (f : Sec → Sec) : (s.modSec x f).last08 = s.last08 := rfl
@[simp] theorem State.modSec_txs (x : Fin 6) (f : Sec → Sec) : (s.modSec x f).txs = s.txs := rfl
@[simp] theorem State.modSec_txUse (x : Fin 6) (f : Sec → Sec) : (s.modSec x f).txUse = s.txUse := rfl
@[simp] theorem State.modSec_fences (x : Fin 6) (f : Sec → Sec) : (s.modSec x f).fences = s.fences := rfl
@[simp] theorem State.modSec_heldW (x : Fin 6) (f : Sec → Sec) : (s.modSec x f).heldW = s.heldW := rfl
@[simp] theorem State.modSec_naz (x : Fin 6) (f : Sec → Sec) : (s.modSec x f).naz = s.naz := rfl
@[simp] theorem State.modSec_can (x : Fin 6) (f : Sec → Sec) : (s.modSec x f).can = s.can := rfl
@[simp] theorem State.modSec_power (x : Fin 6) (f : Sec → Sec) : (s.modSec x f).power = s.power := rfl
@[simp] theorem State.modSec_fw (x : Fin 6) (f : Sec → Sec) : (s.modSec x f).fw = s.fw := rfl
@[simp] theorem State.modSec_raised (x : Fin 6) (f : Sec → Sec) : (s.modSec x f).raised = s.raised := rfl
@[simp] theorem State.modSec_outs (x : Fin 6) (f : Sec → Sec) : (s.modSec x f).outs = s.outs := rfl
@[simp] theorem State.modSec_freeCtr (x : Fin 6) (f : Sec → Sec) : (s.modSec x f).freeCtr = s.freeCtr := rfl
@[simp] theorem State.modSec_pending (x : Fin 6) (f : Sec → Sec) : (s.modSec x f).pending = s.pending := rfl
@[simp] theorem State.modSec_get (x : Fin 6) (f : Sec → Sec) (j : Nat) : (s.modSec x f).get j = s.get j := rfl
@[simp] theorem State.modSec_nat (x : Fin 6) (f : Sec → Sec) (j : Nat) : (s.modSec x f).nat j = s.nat j := rfl
@[simp] theorem State.modSec_flag (x : Fin 6) (f : Sec → Sec) (j : Nat) : (s.modSec x f).flag j = s.flag j := rfl
@[simp] theorem State.modSec_blob (x : Fin 6) (f : Sec → Sec) (j : Nat) : (s.modSec x f).blob j = s.blob j := rfl
@[simp] theorem State.modSec_cfgOf (x : Fin 6) (f : Sec → Sec) (c : Fin 2) (j : Nat) : (s.modSec x f).cfgOf c j = s.cfgOf c j := rfl
@[simp] theorem State.modSec_cfg (x : Fin 6) (f : Sec → Sec) (j : Nat) : (s.modSec x f).cfg j = s.cfg j := rfl

/-! ### modPwm -/

@[simp] theorem State.modPwm_now (x : Fin 6) (f : Pwm → Pwm) : (s.modPwm x f).now = s.now := rfl
@[simp] theorem State.modPwm_tbOff (x : Fin 6) (f : Pwm → Pwm) : (s.modPwm x f).tbOff = s.tbOff := rfl
@[simp] theorem State.modPwm_tbFrac (x : Fin 6) (f : Pwm → Pwm) : (s.modPwm x f).tbFrac = s.tbFrac := rfl
@[simp] theorem State.modPwm_dict (x : Fin 6) (f : Pwm → Pwm) : (s.modPwm x f).dict = s.dict := rfl
@[simp] theorem State.modPwm_blobs (x : Fin 6) (f : Pwm → Pwm) : (s.modPwm x f).blobs = s.blobs := rfl
@[simp] theorem State.modPwm_hbs (x : Fin 6) (f : Pwm → Pwm) : (s.modPwm x f).hbs = s.hbs := rfl
@[simp] theorem State.modPwm_axes (x : Fin 6) (f : Pwm → Pwm) : (s.modPwm x f).axes = s.axes := rfl
@[simp] theorem State.modPwm_encs (x : Fin 6) (f : Pwm → Pwm) : (s.modPwm x f).encs = s.encs := rfl
@[simp] theorem State.modPwm_slots (x : Fin 6) (f : Pwm → Pwm) : (s.modPwm x f).slots = s.slots := rfl
@[simp] theorem State.modPwm_lanes (x : Fin 6) (f : Pwm → Pwm) : (s.modPwm x f).lanes = s.lanes := rfl
@[simp] theorem State.modPwm_port (x : Fin 6) (f : Pwm → Pwm) : (s.modPwm x f).port = s.port := rfl
@[simp] theorem State.modPwm_rereading (x : Fin 6) (f : Pwm → Pwm) : (s.modPwm x f).rereading = s.rereading := rfl
@[simp] theorem State.modPwm_gens (x : Fin 6) (f : Pwm → Pwm) : (s.modPwm x f).gens = s.gens := rfl
@[simp] theorem State.modPwm_cap (x : Fin 6) (f : Pwm → Pwm) : (s.modPwm x f).cap = s.cap := rfl
@[simp] theorem State.modPwm_tongs (x : Fin 6) (f : Pwm → Pwm) : (s.modPwm x f).tongs = s.tongs := rfl
@[simp] theorem State.modPwm_discAt (x : Fin 6) (f : Pwm → Pwm) : (s.modPwm x f).discAt = s.discAt := rfl
@[simp] theorem State.modPwm_disc (x : Fin 6) (f : Pwm → Pwm) : (s.modPwm x f).disc = s.disc := rfl
@[simp] theorem State.modPwm_leftZero (x : Fin 6) (f : Pwm → Pwm) : (s.modPwm x f).leftZero = s.leftZero := rfl
@[simp] theorem State.modPwm_latch (x : Fin 6) (f : Pwm → Pwm) : (s.modPwm x f).latch = s.latch := rfl
@[simp] theorem State.modPwm_images (x : Fin 6) (f : Pwm → Pwm) : (s.modPwm x f).images = s.images := rfl
@[simp] theorem State.modPwm_confirming (x : Fin 6) (f : Pwm → Pwm) : (s.modPwm x f).confirming = s.confirming := rfl
@[simp] theorem State.modPwm_cfgDue (x : Fin 6) (f : Pwm → Pwm) : (s.modPwm x f).cfgDue = s.cfgDue := rfl
@[simp] theorem State.modPwm_jq (x : Fin 6) (f : Pwm → Pwm) : (s.modPwm x f).jq = s.jq := rfl
@[simp] theorem State.modPwm_jdrop (x : Fin 6) (f : Pwm → Pwm) : (s.modPwm x f).jdrop = s.jdrop := rfl
@[simp] theorem State.modPwm_jarr (x : Fin 6) (f : Pwm → Pwm) : (s.modPwm x f).jarr = s.jarr := rfl
@[simp] theorem State.modPwm_ring (x : Fin 6) (f : Pwm → Pwm) : (s.modPwm x f).ring = s.ring := rfl
@[simp] theorem State.modPwm_holdAt (x : Fin 6) (f : Pwm → Pwm) : (s.modPwm x f).holdAt = s.holdAt := rfl
@[simp] theorem State.modPwm_sessions (x : Fin 6) (f : Pwm → Pwm) : (s.modPwm x f).sessions = s.sessions := rfl
@[simp] theorem State.modPwm_freed (x : Fin 6) (f : Pwm → Pwm) : (s.modPwm x f).freed = s.freed := rfl
@[simp] theorem State.modPwm_locks (x : Fin 6) (f : Pwm → Pwm) : (s.modPwm x f).locks = s.locks := rfl
@[simp] theorem State.modPwm_best (x : Fin 6) (f : Pwm → Pwm) : (s.modPwm x f).best = s.best := rfl
@[simp] theorem State.modPwm_bestAt (x : Fin 6) (f : Pwm → Pwm) : (s.modPwm x f).bestAt = s.bestAt := rfl
@[simp] theorem State.modPwm_queue (x : Fin 6) (f : Pwm → Pwm) : (s.modPwm x f).queue = s.queue := rfl
@[simp] theorem State.modPwm_flights (x : Fin 6) (f : Pwm → Pwm) : (s.modPwm x f).flights = s.flights := rfl
@[simp] theorem State.modPwm_routes (x : Fin 6) (f : Pwm → Pwm) : (s.modPwm x f).routes = s.routes := rfl
@[simp] theorem State.modPwm_hostOut (x : Fin 6) (f : Pwm → Pwm) : (s.modPwm x f).hostOut = s.hostOut := rfl
@[simp] theorem State.modPwm_opens (x : Fin 6) (f : Pwm → Pwm) : (s.modPwm x f).opens = s.opens := rfl
@[simp] theorem State.modPwm_last06 (x : Fin 6) (f : Pwm → Pwm) : (s.modPwm x f).last06 = s.last06 := rfl
@[simp] theorem State.modPwm_last07 (x : Fin 6) (f : Pwm → Pwm) : (s.modPwm x f).last07 = s.last07 := rfl
@[simp] theorem State.modPwm_last08 (x : Fin 6) (f : Pwm → Pwm) : (s.modPwm x f).last08 = s.last08 := rfl
@[simp] theorem State.modPwm_txs (x : Fin 6) (f : Pwm → Pwm) : (s.modPwm x f).txs = s.txs := rfl
@[simp] theorem State.modPwm_txUse (x : Fin 6) (f : Pwm → Pwm) : (s.modPwm x f).txUse = s.txUse := rfl
@[simp] theorem State.modPwm_fences (x : Fin 6) (f : Pwm → Pwm) : (s.modPwm x f).fences = s.fences := rfl
@[simp] theorem State.modPwm_heldW (x : Fin 6) (f : Pwm → Pwm) : (s.modPwm x f).heldW = s.heldW := rfl
@[simp] theorem State.modPwm_naz (x : Fin 6) (f : Pwm → Pwm) : (s.modPwm x f).naz = s.naz := rfl
@[simp] theorem State.modPwm_can (x : Fin 6) (f : Pwm → Pwm) : (s.modPwm x f).can = s.can := rfl
@[simp] theorem State.modPwm_power (x : Fin 6) (f : Pwm → Pwm) : (s.modPwm x f).power = s.power := rfl
@[simp] theorem State.modPwm_fw (x : Fin 6) (f : Pwm → Pwm) : (s.modPwm x f).fw = s.fw := rfl
@[simp] theorem State.modPwm_raised (x : Fin 6) (f : Pwm → Pwm) : (s.modPwm x f).raised = s.raised := rfl
@[simp] theorem State.modPwm_outs (x : Fin 6) (f : Pwm → Pwm) : (s.modPwm x f).outs = s.outs := rfl
@[simp] theorem State.modPwm_freeCtr (x : Fin 6) (f : Pwm → Pwm) : (s.modPwm x f).freeCtr = s.freeCtr := rfl
@[simp] theorem State.modPwm_pending (x : Fin 6) (f : Pwm → Pwm) : (s.modPwm x f).pending = s.pending := rfl
@[simp] theorem State.modPwm_get (x : Fin 6) (f : Pwm → Pwm) (j : Nat) : (s.modPwm x f).get j = s.get j := rfl
@[simp] theorem State.modPwm_nat (x : Fin 6) (f : Pwm → Pwm) (j : Nat) : (s.modPwm x f).nat j = s.nat j := rfl
@[simp] theorem State.modPwm_flag (x : Fin 6) (f : Pwm → Pwm) (j : Nat) : (s.modPwm x f).flag j = s.flag j := rfl
@[simp] theorem State.modPwm_blob (x : Fin 6) (f : Pwm → Pwm) (j : Nat) : (s.modPwm x f).blob j = s.blob j := rfl
@[simp] theorem State.modPwm_cfgOf (x : Fin 6) (f : Pwm → Pwm) (c : Fin 2) (j : Nat) : (s.modPwm x f).cfgOf c j = s.cfgOf c j := rfl
@[simp] theorem State.modPwm_cfg (x : Fin 6) (f : Pwm → Pwm) (j : Nat) : (s.modPwm x f).cfg j = s.cfg j := rfl

/-! ### modHb -/

@[simp] theorem State.modHb_now (n : Fin 18) (f : Hb → Hb) : (s.modHb n f).now = s.now := rfl
@[simp] theorem State.modHb_tbOff (n : Fin 18) (f : Hb → Hb) : (s.modHb n f).tbOff = s.tbOff := rfl
@[simp] theorem State.modHb_tbFrac (n : Fin 18) (f : Hb → Hb) : (s.modHb n f).tbFrac = s.tbFrac := rfl
@[simp] theorem State.modHb_dict (n : Fin 18) (f : Hb → Hb) : (s.modHb n f).dict = s.dict := rfl
@[simp] theorem State.modHb_blobs (n : Fin 18) (f : Hb → Hb) : (s.modHb n f).blobs = s.blobs := rfl
@[simp] theorem State.modHb_secs (n : Fin 18) (f : Hb → Hb) : (s.modHb n f).secs = s.secs := rfl
@[simp] theorem State.modHb_axes (n : Fin 18) (f : Hb → Hb) : (s.modHb n f).axes = s.axes := rfl
@[simp] theorem State.modHb_encs (n : Fin 18) (f : Hb → Hb) : (s.modHb n f).encs = s.encs := rfl
@[simp] theorem State.modHb_slots (n : Fin 18) (f : Hb → Hb) : (s.modHb n f).slots = s.slots := rfl
@[simp] theorem State.modHb_lanes (n : Fin 18) (f : Hb → Hb) : (s.modHb n f).lanes = s.lanes := rfl
@[simp] theorem State.modHb_port (n : Fin 18) (f : Hb → Hb) : (s.modHb n f).port = s.port := rfl
@[simp] theorem State.modHb_rereading (n : Fin 18) (f : Hb → Hb) : (s.modHb n f).rereading = s.rereading := rfl
@[simp] theorem State.modHb_gens (n : Fin 18) (f : Hb → Hb) : (s.modHb n f).gens = s.gens := rfl
@[simp] theorem State.modHb_cap (n : Fin 18) (f : Hb → Hb) : (s.modHb n f).cap = s.cap := rfl
@[simp] theorem State.modHb_tongs (n : Fin 18) (f : Hb → Hb) : (s.modHb n f).tongs = s.tongs := rfl
@[simp] theorem State.modHb_discAt (n : Fin 18) (f : Hb → Hb) : (s.modHb n f).discAt = s.discAt := rfl
@[simp] theorem State.modHb_disc (n : Fin 18) (f : Hb → Hb) : (s.modHb n f).disc = s.disc := rfl
@[simp] theorem State.modHb_leftZero (n : Fin 18) (f : Hb → Hb) : (s.modHb n f).leftZero = s.leftZero := rfl
@[simp] theorem State.modHb_latch (n : Fin 18) (f : Hb → Hb) : (s.modHb n f).latch = s.latch := rfl
@[simp] theorem State.modHb_images (n : Fin 18) (f : Hb → Hb) : (s.modHb n f).images = s.images := rfl
@[simp] theorem State.modHb_confirming (n : Fin 18) (f : Hb → Hb) : (s.modHb n f).confirming = s.confirming := rfl
@[simp] theorem State.modHb_cfgDue (n : Fin 18) (f : Hb → Hb) : (s.modHb n f).cfgDue = s.cfgDue := rfl
@[simp] theorem State.modHb_jq (n : Fin 18) (f : Hb → Hb) : (s.modHb n f).jq = s.jq := rfl
@[simp] theorem State.modHb_jdrop (n : Fin 18) (f : Hb → Hb) : (s.modHb n f).jdrop = s.jdrop := rfl
@[simp] theorem State.modHb_jarr (n : Fin 18) (f : Hb → Hb) : (s.modHb n f).jarr = s.jarr := rfl
@[simp] theorem State.modHb_ring (n : Fin 18) (f : Hb → Hb) : (s.modHb n f).ring = s.ring := rfl
@[simp] theorem State.modHb_holdAt (n : Fin 18) (f : Hb → Hb) : (s.modHb n f).holdAt = s.holdAt := rfl
@[simp] theorem State.modHb_sessions (n : Fin 18) (f : Hb → Hb) : (s.modHb n f).sessions = s.sessions := rfl
@[simp] theorem State.modHb_freed (n : Fin 18) (f : Hb → Hb) : (s.modHb n f).freed = s.freed := rfl
@[simp] theorem State.modHb_locks (n : Fin 18) (f : Hb → Hb) : (s.modHb n f).locks = s.locks := rfl
@[simp] theorem State.modHb_best (n : Fin 18) (f : Hb → Hb) : (s.modHb n f).best = s.best := rfl
@[simp] theorem State.modHb_bestAt (n : Fin 18) (f : Hb → Hb) : (s.modHb n f).bestAt = s.bestAt := rfl
@[simp] theorem State.modHb_queue (n : Fin 18) (f : Hb → Hb) : (s.modHb n f).queue = s.queue := rfl
@[simp] theorem State.modHb_flights (n : Fin 18) (f : Hb → Hb) : (s.modHb n f).flights = s.flights := rfl
@[simp] theorem State.modHb_routes (n : Fin 18) (f : Hb → Hb) : (s.modHb n f).routes = s.routes := rfl
@[simp] theorem State.modHb_hostOut (n : Fin 18) (f : Hb → Hb) : (s.modHb n f).hostOut = s.hostOut := rfl
@[simp] theorem State.modHb_opens (n : Fin 18) (f : Hb → Hb) : (s.modHb n f).opens = s.opens := rfl
@[simp] theorem State.modHb_last06 (n : Fin 18) (f : Hb → Hb) : (s.modHb n f).last06 = s.last06 := rfl
@[simp] theorem State.modHb_last07 (n : Fin 18) (f : Hb → Hb) : (s.modHb n f).last07 = s.last07 := rfl
@[simp] theorem State.modHb_last08 (n : Fin 18) (f : Hb → Hb) : (s.modHb n f).last08 = s.last08 := rfl
@[simp] theorem State.modHb_txs (n : Fin 18) (f : Hb → Hb) : (s.modHb n f).txs = s.txs := rfl
@[simp] theorem State.modHb_txUse (n : Fin 18) (f : Hb → Hb) : (s.modHb n f).txUse = s.txUse := rfl
@[simp] theorem State.modHb_fences (n : Fin 18) (f : Hb → Hb) : (s.modHb n f).fences = s.fences := rfl
@[simp] theorem State.modHb_heldW (n : Fin 18) (f : Hb → Hb) : (s.modHb n f).heldW = s.heldW := rfl
@[simp] theorem State.modHb_naz (n : Fin 18) (f : Hb → Hb) : (s.modHb n f).naz = s.naz := rfl
@[simp] theorem State.modHb_can (n : Fin 18) (f : Hb → Hb) : (s.modHb n f).can = s.can := rfl
@[simp] theorem State.modHb_power (n : Fin 18) (f : Hb → Hb) : (s.modHb n f).power = s.power := rfl
@[simp] theorem State.modHb_fw (n : Fin 18) (f : Hb → Hb) : (s.modHb n f).fw = s.fw := rfl
@[simp] theorem State.modHb_raised (n : Fin 18) (f : Hb → Hb) : (s.modHb n f).raised = s.raised := rfl
@[simp] theorem State.modHb_outs (n : Fin 18) (f : Hb → Hb) : (s.modHb n f).outs = s.outs := rfl
@[simp] theorem State.modHb_freeCtr (n : Fin 18) (f : Hb → Hb) : (s.modHb n f).freeCtr = s.freeCtr := rfl
@[simp] theorem State.modHb_pending (n : Fin 18) (f : Hb → Hb) : (s.modHb n f).pending = s.pending := rfl
@[simp] theorem State.modHb_get (n : Fin 18) (f : Hb → Hb) (j : Nat) : (s.modHb n f).get j = s.get j := rfl
@[simp] theorem State.modHb_nat (n : Fin 18) (f : Hb → Hb) (j : Nat) : (s.modHb n f).nat j = s.nat j := rfl
@[simp] theorem State.modHb_flag (n : Fin 18) (f : Hb → Hb) (j : Nat) : (s.modHb n f).flag j = s.flag j := rfl
@[simp] theorem State.modHb_blob (n : Fin 18) (f : Hb → Hb) (j : Nat) : (s.modHb n f).blob j = s.blob j := rfl
@[simp] theorem State.modHb_cfgOf (n : Fin 18) (f : Hb → Hb) (c : Fin 2) (j : Nat) : (s.modHb n f).cfgOf c j = s.cfgOf c j := rfl
@[simp] theorem State.modHb_cfg (n : Fin 18) (f : Hb → Hb) (j : Nat) : (s.modHb n f).cfg j = s.cfg j := rfl

/-! ### modAx -/

@[simp] theorem State.modAx_now (a : Fin 4) (f : Axis → Axis) : (s.modAx a f).now = s.now := rfl
@[simp] theorem State.modAx_tbOff (a : Fin 4) (f : Axis → Axis) : (s.modAx a f).tbOff = s.tbOff := rfl
@[simp] theorem State.modAx_tbFrac (a : Fin 4) (f : Axis → Axis) : (s.modAx a f).tbFrac = s.tbFrac := rfl
@[simp] theorem State.modAx_dict (a : Fin 4) (f : Axis → Axis) : (s.modAx a f).dict = s.dict := rfl
@[simp] theorem State.modAx_blobs (a : Fin 4) (f : Axis → Axis) : (s.modAx a f).blobs = s.blobs := rfl
@[simp] theorem State.modAx_secs (a : Fin 4) (f : Axis → Axis) : (s.modAx a f).secs = s.secs := rfl
@[simp] theorem State.modAx_hbs (a : Fin 4) (f : Axis → Axis) : (s.modAx a f).hbs = s.hbs := rfl
@[simp] theorem State.modAx_encs (a : Fin 4) (f : Axis → Axis) : (s.modAx a f).encs = s.encs := rfl
@[simp] theorem State.modAx_slots (a : Fin 4) (f : Axis → Axis) : (s.modAx a f).slots = s.slots := rfl
@[simp] theorem State.modAx_lanes (a : Fin 4) (f : Axis → Axis) : (s.modAx a f).lanes = s.lanes := rfl
@[simp] theorem State.modAx_port (a : Fin 4) (f : Axis → Axis) : (s.modAx a f).port = s.port := rfl
@[simp] theorem State.modAx_rereading (a : Fin 4) (f : Axis → Axis) : (s.modAx a f).rereading = s.rereading := rfl
@[simp] theorem State.modAx_gens (a : Fin 4) (f : Axis → Axis) : (s.modAx a f).gens = s.gens := rfl
@[simp] theorem State.modAx_cap (a : Fin 4) (f : Axis → Axis) : (s.modAx a f).cap = s.cap := rfl
@[simp] theorem State.modAx_tongs (a : Fin 4) (f : Axis → Axis) : (s.modAx a f).tongs = s.tongs := rfl
@[simp] theorem State.modAx_discAt (a : Fin 4) (f : Axis → Axis) : (s.modAx a f).discAt = s.discAt := rfl
@[simp] theorem State.modAx_disc (a : Fin 4) (f : Axis → Axis) : (s.modAx a f).disc = s.disc := rfl
@[simp] theorem State.modAx_leftZero (a : Fin 4) (f : Axis → Axis) : (s.modAx a f).leftZero = s.leftZero := rfl
@[simp] theorem State.modAx_latch (a : Fin 4) (f : Axis → Axis) : (s.modAx a f).latch = s.latch := rfl
@[simp] theorem State.modAx_images (a : Fin 4) (f : Axis → Axis) : (s.modAx a f).images = s.images := rfl
@[simp] theorem State.modAx_confirming (a : Fin 4) (f : Axis → Axis) : (s.modAx a f).confirming = s.confirming := rfl
@[simp] theorem State.modAx_cfgDue (a : Fin 4) (f : Axis → Axis) : (s.modAx a f).cfgDue = s.cfgDue := rfl
@[simp] theorem State.modAx_jq (a : Fin 4) (f : Axis → Axis) : (s.modAx a f).jq = s.jq := rfl
@[simp] theorem State.modAx_jdrop (a : Fin 4) (f : Axis → Axis) : (s.modAx a f).jdrop = s.jdrop := rfl
@[simp] theorem State.modAx_jarr (a : Fin 4) (f : Axis → Axis) : (s.modAx a f).jarr = s.jarr := rfl
@[simp] theorem State.modAx_ring (a : Fin 4) (f : Axis → Axis) : (s.modAx a f).ring = s.ring := rfl
@[simp] theorem State.modAx_holdAt (a : Fin 4) (f : Axis → Axis) : (s.modAx a f).holdAt = s.holdAt := rfl
@[simp] theorem State.modAx_sessions (a : Fin 4) (f : Axis → Axis) : (s.modAx a f).sessions = s.sessions := rfl
@[simp] theorem State.modAx_freed (a : Fin 4) (f : Axis → Axis) : (s.modAx a f).freed = s.freed := rfl
@[simp] theorem State.modAx_locks (a : Fin 4) (f : Axis → Axis) : (s.modAx a f).locks = s.locks := rfl
@[simp] theorem State.modAx_best (a : Fin 4) (f : Axis → Axis) : (s.modAx a f).best = s.best := rfl
@[simp] theorem State.modAx_bestAt (a : Fin 4) (f : Axis → Axis) : (s.modAx a f).bestAt = s.bestAt := rfl
@[simp] theorem State.modAx_queue (a : Fin 4) (f : Axis → Axis) : (s.modAx a f).queue = s.queue := rfl
@[simp] theorem State.modAx_flights (a : Fin 4) (f : Axis → Axis) : (s.modAx a f).flights = s.flights := rfl
@[simp] theorem State.modAx_routes (a : Fin 4) (f : Axis → Axis) : (s.modAx a f).routes = s.routes := rfl
@[simp] theorem State.modAx_hostOut (a : Fin 4) (f : Axis → Axis) : (s.modAx a f).hostOut = s.hostOut := rfl
@[simp] theorem State.modAx_opens (a : Fin 4) (f : Axis → Axis) : (s.modAx a f).opens = s.opens := rfl
@[simp] theorem State.modAx_last06 (a : Fin 4) (f : Axis → Axis) : (s.modAx a f).last06 = s.last06 := rfl
@[simp] theorem State.modAx_last07 (a : Fin 4) (f : Axis → Axis) : (s.modAx a f).last07 = s.last07 := rfl
@[simp] theorem State.modAx_last08 (a : Fin 4) (f : Axis → Axis) : (s.modAx a f).last08 = s.last08 := rfl
@[simp] theorem State.modAx_txs (a : Fin 4) (f : Axis → Axis) : (s.modAx a f).txs = s.txs := rfl
@[simp] theorem State.modAx_txUse (a : Fin 4) (f : Axis → Axis) : (s.modAx a f).txUse = s.txUse := rfl
@[simp] theorem State.modAx_fences (a : Fin 4) (f : Axis → Axis) : (s.modAx a f).fences = s.fences := rfl
@[simp] theorem State.modAx_heldW (a : Fin 4) (f : Axis → Axis) : (s.modAx a f).heldW = s.heldW := rfl
@[simp] theorem State.modAx_naz (a : Fin 4) (f : Axis → Axis) : (s.modAx a f).naz = s.naz := rfl
@[simp] theorem State.modAx_can (a : Fin 4) (f : Axis → Axis) : (s.modAx a f).can = s.can := rfl
@[simp] theorem State.modAx_power (a : Fin 4) (f : Axis → Axis) : (s.modAx a f).power = s.power := rfl
@[simp] theorem State.modAx_fw (a : Fin 4) (f : Axis → Axis) : (s.modAx a f).fw = s.fw := rfl
@[simp] theorem State.modAx_raised (a : Fin 4) (f : Axis → Axis) : (s.modAx a f).raised = s.raised := rfl
@[simp] theorem State.modAx_outs (a : Fin 4) (f : Axis → Axis) : (s.modAx a f).outs = s.outs := rfl
@[simp] theorem State.modAx_freeCtr (a : Fin 4) (f : Axis → Axis) : (s.modAx a f).freeCtr = s.freeCtr := rfl
@[simp] theorem State.modAx_pending (a : Fin 4) (f : Axis → Axis) : (s.modAx a f).pending = s.pending := rfl
@[simp] theorem State.modAx_get (a : Fin 4) (f : Axis → Axis) (j : Nat) : (s.modAx a f).get j = s.get j := rfl
@[simp] theorem State.modAx_nat (a : Fin 4) (f : Axis → Axis) (j : Nat) : (s.modAx a f).nat j = s.nat j := rfl
@[simp] theorem State.modAx_flag (a : Fin 4) (f : Axis → Axis) (j : Nat) : (s.modAx a f).flag j = s.flag j := rfl
@[simp] theorem State.modAx_blob (a : Fin 4) (f : Axis → Axis) (j : Nat) : (s.modAx a f).blob j = s.blob j := rfl
@[simp] theorem State.modAx_cfgOf (a : Fin 4) (f : Axis → Axis) (c : Fin 2) (j : Nat) : (s.modAx a f).cfgOf c j = s.cfgOf c j := rfl
@[simp] theorem State.modAx_cfg (a : Fin 4) (f : Axis → Axis) (j : Nat) : (s.modAx a f).cfg j = s.cfg j := rfl

/-! ### modEnc -/

@[simp] theorem State.modEnc_now (e : Fin 2) (f : Enc → Enc) : (s.modEnc e f).now = s.now := rfl
@[simp] theorem State.modEnc_tbOff (e : Fin 2) (f : Enc → Enc) : (s.modEnc e f).tbOff = s.tbOff := rfl
@[simp] theorem State.modEnc_tbFrac (e : Fin 2) (f : Enc → Enc) : (s.modEnc e f).tbFrac = s.tbFrac := rfl
@[simp] theorem State.modEnc_dict (e : Fin 2) (f : Enc → Enc) : (s.modEnc e f).dict = s.dict := rfl
@[simp] theorem State.modEnc_blobs (e : Fin 2) (f : Enc → Enc) : (s.modEnc e f).blobs = s.blobs := rfl
@[simp] theorem State.modEnc_secs (e : Fin 2) (f : Enc → Enc) : (s.modEnc e f).secs = s.secs := rfl
@[simp] theorem State.modEnc_hbs (e : Fin 2) (f : Enc → Enc) : (s.modEnc e f).hbs = s.hbs := rfl
@[simp] theorem State.modEnc_axes (e : Fin 2) (f : Enc → Enc) : (s.modEnc e f).axes = s.axes := rfl
@[simp] theorem State.modEnc_slots (e : Fin 2) (f : Enc → Enc) : (s.modEnc e f).slots = s.slots := rfl
@[simp] theorem State.modEnc_lanes (e : Fin 2) (f : Enc → Enc) : (s.modEnc e f).lanes = s.lanes := rfl
@[simp] theorem State.modEnc_port (e : Fin 2) (f : Enc → Enc) : (s.modEnc e f).port = s.port := rfl
@[simp] theorem State.modEnc_rereading (e : Fin 2) (f : Enc → Enc) : (s.modEnc e f).rereading = s.rereading := rfl
@[simp] theorem State.modEnc_gens (e : Fin 2) (f : Enc → Enc) : (s.modEnc e f).gens = s.gens := rfl
@[simp] theorem State.modEnc_cap (e : Fin 2) (f : Enc → Enc) : (s.modEnc e f).cap = s.cap := rfl
@[simp] theorem State.modEnc_tongs (e : Fin 2) (f : Enc → Enc) : (s.modEnc e f).tongs = s.tongs := rfl
@[simp] theorem State.modEnc_discAt (e : Fin 2) (f : Enc → Enc) : (s.modEnc e f).discAt = s.discAt := rfl
@[simp] theorem State.modEnc_disc (e : Fin 2) (f : Enc → Enc) : (s.modEnc e f).disc = s.disc := rfl
@[simp] theorem State.modEnc_leftZero (e : Fin 2) (f : Enc → Enc) : (s.modEnc e f).leftZero = s.leftZero := rfl
@[simp] theorem State.modEnc_latch (e : Fin 2) (f : Enc → Enc) : (s.modEnc e f).latch = s.latch := rfl
@[simp] theorem State.modEnc_images (e : Fin 2) (f : Enc → Enc) : (s.modEnc e f).images = s.images := rfl
@[simp] theorem State.modEnc_confirming (e : Fin 2) (f : Enc → Enc) : (s.modEnc e f).confirming = s.confirming := rfl
@[simp] theorem State.modEnc_cfgDue (e : Fin 2) (f : Enc → Enc) : (s.modEnc e f).cfgDue = s.cfgDue := rfl
@[simp] theorem State.modEnc_jq (e : Fin 2) (f : Enc → Enc) : (s.modEnc e f).jq = s.jq := rfl
@[simp] theorem State.modEnc_jdrop (e : Fin 2) (f : Enc → Enc) : (s.modEnc e f).jdrop = s.jdrop := rfl
@[simp] theorem State.modEnc_jarr (e : Fin 2) (f : Enc → Enc) : (s.modEnc e f).jarr = s.jarr := rfl
@[simp] theorem State.modEnc_ring (e : Fin 2) (f : Enc → Enc) : (s.modEnc e f).ring = s.ring := rfl
@[simp] theorem State.modEnc_holdAt (e : Fin 2) (f : Enc → Enc) : (s.modEnc e f).holdAt = s.holdAt := rfl
@[simp] theorem State.modEnc_sessions (e : Fin 2) (f : Enc → Enc) : (s.modEnc e f).sessions = s.sessions := rfl
@[simp] theorem State.modEnc_freed (e : Fin 2) (f : Enc → Enc) : (s.modEnc e f).freed = s.freed := rfl
@[simp] theorem State.modEnc_locks (e : Fin 2) (f : Enc → Enc) : (s.modEnc e f).locks = s.locks := rfl
@[simp] theorem State.modEnc_best (e : Fin 2) (f : Enc → Enc) : (s.modEnc e f).best = s.best := rfl
@[simp] theorem State.modEnc_bestAt (e : Fin 2) (f : Enc → Enc) : (s.modEnc e f).bestAt = s.bestAt := rfl
@[simp] theorem State.modEnc_queue (e : Fin 2) (f : Enc → Enc) : (s.modEnc e f).queue = s.queue := rfl
@[simp] theorem State.modEnc_flights (e : Fin 2) (f : Enc → Enc) : (s.modEnc e f).flights = s.flights := rfl
@[simp] theorem State.modEnc_routes (e : Fin 2) (f : Enc → Enc) : (s.modEnc e f).routes = s.routes := rfl
@[simp] theorem State.modEnc_hostOut (e : Fin 2) (f : Enc → Enc) : (s.modEnc e f).hostOut = s.hostOut := rfl
@[simp] theorem State.modEnc_opens (e : Fin 2) (f : Enc → Enc) : (s.modEnc e f).opens = s.opens := rfl
@[simp] theorem State.modEnc_last06 (e : Fin 2) (f : Enc → Enc) : (s.modEnc e f).last06 = s.last06 := rfl
@[simp] theorem State.modEnc_last07 (e : Fin 2) (f : Enc → Enc) : (s.modEnc e f).last07 = s.last07 := rfl
@[simp] theorem State.modEnc_last08 (e : Fin 2) (f : Enc → Enc) : (s.modEnc e f).last08 = s.last08 := rfl
@[simp] theorem State.modEnc_txs (e : Fin 2) (f : Enc → Enc) : (s.modEnc e f).txs = s.txs := rfl
@[simp] theorem State.modEnc_txUse (e : Fin 2) (f : Enc → Enc) : (s.modEnc e f).txUse = s.txUse := rfl
@[simp] theorem State.modEnc_fences (e : Fin 2) (f : Enc → Enc) : (s.modEnc e f).fences = s.fences := rfl
@[simp] theorem State.modEnc_heldW (e : Fin 2) (f : Enc → Enc) : (s.modEnc e f).heldW = s.heldW := rfl
@[simp] theorem State.modEnc_naz (e : Fin 2) (f : Enc → Enc) : (s.modEnc e f).naz = s.naz := rfl
@[simp] theorem State.modEnc_can (e : Fin 2) (f : Enc → Enc) : (s.modEnc e f).can = s.can := rfl
@[simp] theorem State.modEnc_power (e : Fin 2) (f : Enc → Enc) : (s.modEnc e f).power = s.power := rfl
@[simp] theorem State.modEnc_fw (e : Fin 2) (f : Enc → Enc) : (s.modEnc e f).fw = s.fw := rfl
@[simp] theorem State.modEnc_raised (e : Fin 2) (f : Enc → Enc) : (s.modEnc e f).raised = s.raised := rfl
@[simp] theorem State.modEnc_outs (e : Fin 2) (f : Enc → Enc) : (s.modEnc e f).outs = s.outs := rfl
@[simp] theorem State.modEnc_freeCtr (e : Fin 2) (f : Enc → Enc) : (s.modEnc e f).freeCtr = s.freeCtr := rfl
@[simp] theorem State.modEnc_pending (e : Fin 2) (f : Enc → Enc) : (s.modEnc e f).pending = s.pending := rfl
@[simp] theorem State.modEnc_get (e : Fin 2) (f : Enc → Enc) (j : Nat) : (s.modEnc e f).get j = s.get j := rfl
@[simp] theorem State.modEnc_nat (e : Fin 2) (f : Enc → Enc) (j : Nat) : (s.modEnc e f).nat j = s.nat j := rfl
@[simp] theorem State.modEnc_flag (e : Fin 2) (f : Enc → Enc) (j : Nat) : (s.modEnc e f).flag j = s.flag j := rfl
@[simp] theorem State.modEnc_blob (e : Fin 2) (f : Enc → Enc) (j : Nat) : (s.modEnc e f).blob j = s.blob j := rfl
@[simp] theorem State.modEnc_cfgOf (e : Fin 2) (f : Enc → Enc) (c : Fin 2) (j : Nat) : (s.modEnc e f).cfgOf c j = s.cfgOf c j := rfl
@[simp] theorem State.modEnc_cfg (e : Fin 2) (f : Enc → Enc) (j : Nat) : (s.modEnc e f).cfg j = s.cfg j := rfl

/-! ### modSlot -/

@[simp] theorem State.modSlot_now (k : Fin 48) (f : Slot → Slot) : (s.modSlot k f).now = s.now := rfl
@[simp] theorem State.modSlot_tbOff (k : Fin 48) (f : Slot → Slot) : (s.modSlot k f).tbOff = s.tbOff := rfl
@[simp] theorem State.modSlot_tbFrac (k : Fin 48) (f : Slot → Slot) : (s.modSlot k f).tbFrac = s.tbFrac := rfl
@[simp] theorem State.modSlot_dict (k : Fin 48) (f : Slot → Slot) : (s.modSlot k f).dict = s.dict := rfl
@[simp] theorem State.modSlot_blobs (k : Fin 48) (f : Slot → Slot) : (s.modSlot k f).blobs = s.blobs := rfl
@[simp] theorem State.modSlot_secs (k : Fin 48) (f : Slot → Slot) : (s.modSlot k f).secs = s.secs := rfl
@[simp] theorem State.modSlot_hbs (k : Fin 48) (f : Slot → Slot) : (s.modSlot k f).hbs = s.hbs := rfl
@[simp] theorem State.modSlot_axes (k : Fin 48) (f : Slot → Slot) : (s.modSlot k f).axes = s.axes := rfl
@[simp] theorem State.modSlot_encs (k : Fin 48) (f : Slot → Slot) : (s.modSlot k f).encs = s.encs := rfl
@[simp] theorem State.modSlot_lanes (k : Fin 48) (f : Slot → Slot) : (s.modSlot k f).lanes = s.lanes := rfl
@[simp] theorem State.modSlot_port (k : Fin 48) (f : Slot → Slot) : (s.modSlot k f).port = s.port := rfl
@[simp] theorem State.modSlot_rereading (k : Fin 48) (f : Slot → Slot) : (s.modSlot k f).rereading = s.rereading := rfl
@[simp] theorem State.modSlot_gens (k : Fin 48) (f : Slot → Slot) : (s.modSlot k f).gens = s.gens := rfl
@[simp] theorem State.modSlot_cap (k : Fin 48) (f : Slot → Slot) : (s.modSlot k f).cap = s.cap := rfl
@[simp] theorem State.modSlot_tongs (k : Fin 48) (f : Slot → Slot) : (s.modSlot k f).tongs = s.tongs := rfl
@[simp] theorem State.modSlot_discAt (k : Fin 48) (f : Slot → Slot) : (s.modSlot k f).discAt = s.discAt := rfl
@[simp] theorem State.modSlot_disc (k : Fin 48) (f : Slot → Slot) : (s.modSlot k f).disc = s.disc := rfl
@[simp] theorem State.modSlot_leftZero (k : Fin 48) (f : Slot → Slot) : (s.modSlot k f).leftZero = s.leftZero := rfl
@[simp] theorem State.modSlot_latch (k : Fin 48) (f : Slot → Slot) : (s.modSlot k f).latch = s.latch := rfl
@[simp] theorem State.modSlot_images (k : Fin 48) (f : Slot → Slot) : (s.modSlot k f).images = s.images := rfl
@[simp] theorem State.modSlot_confirming (k : Fin 48) (f : Slot → Slot) : (s.modSlot k f).confirming = s.confirming := rfl
@[simp] theorem State.modSlot_cfgDue (k : Fin 48) (f : Slot → Slot) : (s.modSlot k f).cfgDue = s.cfgDue := rfl
@[simp] theorem State.modSlot_jq (k : Fin 48) (f : Slot → Slot) : (s.modSlot k f).jq = s.jq := rfl
@[simp] theorem State.modSlot_jdrop (k : Fin 48) (f : Slot → Slot) : (s.modSlot k f).jdrop = s.jdrop := rfl
@[simp] theorem State.modSlot_jarr (k : Fin 48) (f : Slot → Slot) : (s.modSlot k f).jarr = s.jarr := rfl
@[simp] theorem State.modSlot_ring (k : Fin 48) (f : Slot → Slot) : (s.modSlot k f).ring = s.ring := rfl
@[simp] theorem State.modSlot_holdAt (k : Fin 48) (f : Slot → Slot) : (s.modSlot k f).holdAt = s.holdAt := rfl
@[simp] theorem State.modSlot_sessions (k : Fin 48) (f : Slot → Slot) : (s.modSlot k f).sessions = s.sessions := rfl
@[simp] theorem State.modSlot_freed (k : Fin 48) (f : Slot → Slot) : (s.modSlot k f).freed = s.freed := rfl
@[simp] theorem State.modSlot_locks (k : Fin 48) (f : Slot → Slot) : (s.modSlot k f).locks = s.locks := rfl
@[simp] theorem State.modSlot_best (k : Fin 48) (f : Slot → Slot) : (s.modSlot k f).best = s.best := rfl
@[simp] theorem State.modSlot_bestAt (k : Fin 48) (f : Slot → Slot) : (s.modSlot k f).bestAt = s.bestAt := rfl
@[simp] theorem State.modSlot_queue (k : Fin 48) (f : Slot → Slot) : (s.modSlot k f).queue = s.queue := rfl
@[simp] theorem State.modSlot_flights (k : Fin 48) (f : Slot → Slot) : (s.modSlot k f).flights = s.flights := rfl
@[simp] theorem State.modSlot_routes (k : Fin 48) (f : Slot → Slot) : (s.modSlot k f).routes = s.routes := rfl
@[simp] theorem State.modSlot_hostOut (k : Fin 48) (f : Slot → Slot) : (s.modSlot k f).hostOut = s.hostOut := rfl
@[simp] theorem State.modSlot_opens (k : Fin 48) (f : Slot → Slot) : (s.modSlot k f).opens = s.opens := rfl
@[simp] theorem State.modSlot_last06 (k : Fin 48) (f : Slot → Slot) : (s.modSlot k f).last06 = s.last06 := rfl
@[simp] theorem State.modSlot_last07 (k : Fin 48) (f : Slot → Slot) : (s.modSlot k f).last07 = s.last07 := rfl
@[simp] theorem State.modSlot_last08 (k : Fin 48) (f : Slot → Slot) : (s.modSlot k f).last08 = s.last08 := rfl
@[simp] theorem State.modSlot_txs (k : Fin 48) (f : Slot → Slot) : (s.modSlot k f).txs = s.txs := rfl
@[simp] theorem State.modSlot_txUse (k : Fin 48) (f : Slot → Slot) : (s.modSlot k f).txUse = s.txUse := rfl
@[simp] theorem State.modSlot_fences (k : Fin 48) (f : Slot → Slot) : (s.modSlot k f).fences = s.fences := rfl
@[simp] theorem State.modSlot_heldW (k : Fin 48) (f : Slot → Slot) : (s.modSlot k f).heldW = s.heldW := rfl
@[simp] theorem State.modSlot_naz (k : Fin 48) (f : Slot → Slot) : (s.modSlot k f).naz = s.naz := rfl
@[simp] theorem State.modSlot_can (k : Fin 48) (f : Slot → Slot) : (s.modSlot k f).can = s.can := rfl
@[simp] theorem State.modSlot_power (k : Fin 48) (f : Slot → Slot) : (s.modSlot k f).power = s.power := rfl
@[simp] theorem State.modSlot_fw (k : Fin 48) (f : Slot → Slot) : (s.modSlot k f).fw = s.fw := rfl
@[simp] theorem State.modSlot_raised (k : Fin 48) (f : Slot → Slot) : (s.modSlot k f).raised = s.raised := rfl
@[simp] theorem State.modSlot_outs (k : Fin 48) (f : Slot → Slot) : (s.modSlot k f).outs = s.outs := rfl
@[simp] theorem State.modSlot_freeCtr (k : Fin 48) (f : Slot → Slot) : (s.modSlot k f).freeCtr = s.freeCtr := rfl
@[simp] theorem State.modSlot_pending (k : Fin 48) (f : Slot → Slot) : (s.modSlot k f).pending = s.pending := rfl
@[simp] theorem State.modSlot_get (k : Fin 48) (f : Slot → Slot) (j : Nat) : (s.modSlot k f).get j = s.get j := rfl
@[simp] theorem State.modSlot_nat (k : Fin 48) (f : Slot → Slot) (j : Nat) : (s.modSlot k f).nat j = s.nat j := rfl
@[simp] theorem State.modSlot_flag (k : Fin 48) (f : Slot → Slot) (j : Nat) : (s.modSlot k f).flag j = s.flag j := rfl
@[simp] theorem State.modSlot_blob (k : Fin 48) (f : Slot → Slot) (j : Nat) : (s.modSlot k f).blob j = s.blob j := rfl
@[simp] theorem State.modSlot_cfgOf (k : Fin 48) (f : Slot → Slot) (c : Fin 2) (j : Nat) : (s.modSlot k f).cfgOf c j = s.cfgOf c j := rfl
@[simp] theorem State.modSlot_cfg (k : Fin 48) (f : Slot → Slot) (j : Nat) : (s.modSlot k f).cfg j = s.cfg j := rfl

/-! ### modGen -/

@[simp] theorem State.modGen_now (g : Fin 4) (f : Gen → Gen) : (s.modGen g f).now = s.now := rfl
@[simp] theorem State.modGen_tbOff (g : Fin 4) (f : Gen → Gen) : (s.modGen g f).tbOff = s.tbOff := rfl
@[simp] theorem State.modGen_tbFrac (g : Fin 4) (f : Gen → Gen) : (s.modGen g f).tbFrac = s.tbFrac := rfl
@[simp] theorem State.modGen_dict (g : Fin 4) (f : Gen → Gen) : (s.modGen g f).dict = s.dict := rfl
@[simp] theorem State.modGen_blobs (g : Fin 4) (f : Gen → Gen) : (s.modGen g f).blobs = s.blobs := rfl
@[simp] theorem State.modGen_secs (g : Fin 4) (f : Gen → Gen) : (s.modGen g f).secs = s.secs := rfl
@[simp] theorem State.modGen_hbs (g : Fin 4) (f : Gen → Gen) : (s.modGen g f).hbs = s.hbs := rfl
@[simp] theorem State.modGen_axes (g : Fin 4) (f : Gen → Gen) : (s.modGen g f).axes = s.axes := rfl
@[simp] theorem State.modGen_encs (g : Fin 4) (f : Gen → Gen) : (s.modGen g f).encs = s.encs := rfl
@[simp] theorem State.modGen_slots (g : Fin 4) (f : Gen → Gen) : (s.modGen g f).slots = s.slots := rfl
@[simp] theorem State.modGen_lanes (g : Fin 4) (f : Gen → Gen) : (s.modGen g f).lanes = s.lanes := rfl
@[simp] theorem State.modGen_port (g : Fin 4) (f : Gen → Gen) : (s.modGen g f).port = s.port := rfl
@[simp] theorem State.modGen_rereading (g : Fin 4) (f : Gen → Gen) : (s.modGen g f).rereading = s.rereading := rfl
@[simp] theorem State.modGen_cap (g : Fin 4) (f : Gen → Gen) : (s.modGen g f).cap = s.cap := rfl
@[simp] theorem State.modGen_tongs (g : Fin 4) (f : Gen → Gen) : (s.modGen g f).tongs = s.tongs := rfl
@[simp] theorem State.modGen_discAt (g : Fin 4) (f : Gen → Gen) : (s.modGen g f).discAt = s.discAt := rfl
@[simp] theorem State.modGen_disc (g : Fin 4) (f : Gen → Gen) : (s.modGen g f).disc = s.disc := rfl
@[simp] theorem State.modGen_leftZero (g : Fin 4) (f : Gen → Gen) : (s.modGen g f).leftZero = s.leftZero := rfl
@[simp] theorem State.modGen_latch (g : Fin 4) (f : Gen → Gen) : (s.modGen g f).latch = s.latch := rfl
@[simp] theorem State.modGen_images (g : Fin 4) (f : Gen → Gen) : (s.modGen g f).images = s.images := rfl
@[simp] theorem State.modGen_confirming (g : Fin 4) (f : Gen → Gen) : (s.modGen g f).confirming = s.confirming := rfl
@[simp] theorem State.modGen_cfgDue (g : Fin 4) (f : Gen → Gen) : (s.modGen g f).cfgDue = s.cfgDue := rfl
@[simp] theorem State.modGen_jq (g : Fin 4) (f : Gen → Gen) : (s.modGen g f).jq = s.jq := rfl
@[simp] theorem State.modGen_jdrop (g : Fin 4) (f : Gen → Gen) : (s.modGen g f).jdrop = s.jdrop := rfl
@[simp] theorem State.modGen_jarr (g : Fin 4) (f : Gen → Gen) : (s.modGen g f).jarr = s.jarr := rfl
@[simp] theorem State.modGen_ring (g : Fin 4) (f : Gen → Gen) : (s.modGen g f).ring = s.ring := rfl
@[simp] theorem State.modGen_holdAt (g : Fin 4) (f : Gen → Gen) : (s.modGen g f).holdAt = s.holdAt := rfl
@[simp] theorem State.modGen_sessions (g : Fin 4) (f : Gen → Gen) : (s.modGen g f).sessions = s.sessions := rfl
@[simp] theorem State.modGen_freed (g : Fin 4) (f : Gen → Gen) : (s.modGen g f).freed = s.freed := rfl
@[simp] theorem State.modGen_locks (g : Fin 4) (f : Gen → Gen) : (s.modGen g f).locks = s.locks := rfl
@[simp] theorem State.modGen_best (g : Fin 4) (f : Gen → Gen) : (s.modGen g f).best = s.best := rfl
@[simp] theorem State.modGen_bestAt (g : Fin 4) (f : Gen → Gen) : (s.modGen g f).bestAt = s.bestAt := rfl
@[simp] theorem State.modGen_queue (g : Fin 4) (f : Gen → Gen) : (s.modGen g f).queue = s.queue := rfl
@[simp] theorem State.modGen_flights (g : Fin 4) (f : Gen → Gen) : (s.modGen g f).flights = s.flights := rfl
@[simp] theorem State.modGen_routes (g : Fin 4) (f : Gen → Gen) : (s.modGen g f).routes = s.routes := rfl
@[simp] theorem State.modGen_hostOut (g : Fin 4) (f : Gen → Gen) : (s.modGen g f).hostOut = s.hostOut := rfl
@[simp] theorem State.modGen_opens (g : Fin 4) (f : Gen → Gen) : (s.modGen g f).opens = s.opens := rfl
@[simp] theorem State.modGen_last06 (g : Fin 4) (f : Gen → Gen) : (s.modGen g f).last06 = s.last06 := rfl
@[simp] theorem State.modGen_last07 (g : Fin 4) (f : Gen → Gen) : (s.modGen g f).last07 = s.last07 := rfl
@[simp] theorem State.modGen_last08 (g : Fin 4) (f : Gen → Gen) : (s.modGen g f).last08 = s.last08 := rfl
@[simp] theorem State.modGen_txs (g : Fin 4) (f : Gen → Gen) : (s.modGen g f).txs = s.txs := rfl
@[simp] theorem State.modGen_txUse (g : Fin 4) (f : Gen → Gen) : (s.modGen g f).txUse = s.txUse := rfl
@[simp] theorem State.modGen_fences (g : Fin 4) (f : Gen → Gen) : (s.modGen g f).fences = s.fences := rfl
@[simp] theorem State.modGen_heldW (g : Fin 4) (f : Gen → Gen) : (s.modGen g f).heldW = s.heldW := rfl
@[simp] theorem State.modGen_naz (g : Fin 4) (f : Gen → Gen) : (s.modGen g f).naz = s.naz := rfl
@[simp] theorem State.modGen_can (g : Fin 4) (f : Gen → Gen) : (s.modGen g f).can = s.can := rfl
@[simp] theorem State.modGen_power (g : Fin 4) (f : Gen → Gen) : (s.modGen g f).power = s.power := rfl
@[simp] theorem State.modGen_fw (g : Fin 4) (f : Gen → Gen) : (s.modGen g f).fw = s.fw := rfl
@[simp] theorem State.modGen_raised (g : Fin 4) (f : Gen → Gen) : (s.modGen g f).raised = s.raised := rfl
@[simp] theorem State.modGen_outs (g : Fin 4) (f : Gen → Gen) : (s.modGen g f).outs = s.outs := rfl
@[simp] theorem State.modGen_freeCtr (g : Fin 4) (f : Gen → Gen) : (s.modGen g f).freeCtr = s.freeCtr := rfl
@[simp] theorem State.modGen_pending (g : Fin 4) (f : Gen → Gen) : (s.modGen g f).pending = s.pending := rfl
@[simp] theorem State.modGen_get (g : Fin 4) (f : Gen → Gen) (j : Nat) : (s.modGen g f).get j = s.get j := rfl
@[simp] theorem State.modGen_nat (g : Fin 4) (f : Gen → Gen) (j : Nat) : (s.modGen g f).nat j = s.nat j := rfl
@[simp] theorem State.modGen_flag (g : Fin 4) (f : Gen → Gen) (j : Nat) : (s.modGen g f).flag j = s.flag j := rfl
@[simp] theorem State.modGen_blob (g : Fin 4) (f : Gen → Gen) (j : Nat) : (s.modGen g f).blob j = s.blob j := rfl
@[simp] theorem State.modGen_cfgOf (g : Fin 4) (f : Gen → Gen) (c : Fin 2) (j : Nat) : (s.modGen g f).cfgOf c j = s.cfgOf c j := rfl
@[simp] theorem State.modGen_cfg (g : Fin 4) (f : Gen → Gen) (j : Nat) : (s.modGen g f).cfg j = s.cfg j := rfl

/-! ### modChan -/

@[simp] theorem State.modChan_now (c : Fin 2) (f : Chan → Chan) : (s.modChan c f).now = s.now := rfl
@[simp] theorem State.modChan_tbOff (c : Fin 2) (f : Chan → Chan) : (s.modChan c f).tbOff = s.tbOff := rfl
@[simp] theorem State.modChan_tbFrac (c : Fin 2) (f : Chan → Chan) : (s.modChan c f).tbFrac = s.tbFrac := rfl
@[simp] theorem State.modChan_dict (c : Fin 2) (f : Chan → Chan) : (s.modChan c f).dict = s.dict := rfl
@[simp] theorem State.modChan_blobs (c : Fin 2) (f : Chan → Chan) : (s.modChan c f).blobs = s.blobs := rfl
@[simp] theorem State.modChan_secs (c : Fin 2) (f : Chan → Chan) : (s.modChan c f).secs = s.secs := rfl
@[simp] theorem State.modChan_hbs (c : Fin 2) (f : Chan → Chan) : (s.modChan c f).hbs = s.hbs := rfl
@[simp] theorem State.modChan_axes (c : Fin 2) (f : Chan → Chan) : (s.modChan c f).axes = s.axes := rfl
@[simp] theorem State.modChan_encs (c : Fin 2) (f : Chan → Chan) : (s.modChan c f).encs = s.encs := rfl
@[simp] theorem State.modChan_slots (c : Fin 2) (f : Chan → Chan) : (s.modChan c f).slots = s.slots := rfl
@[simp] theorem State.modChan_lanes (c : Fin 2) (f : Chan → Chan) : (s.modChan c f).lanes = s.lanes := rfl
@[simp] theorem State.modChan_port (c : Fin 2) (f : Chan → Chan) : (s.modChan c f).port = s.port := rfl
@[simp] theorem State.modChan_rereading (c : Fin 2) (f : Chan → Chan) : (s.modChan c f).rereading = s.rereading := rfl
@[simp] theorem State.modChan_gens (c : Fin 2) (f : Chan → Chan) : (s.modChan c f).gens = s.gens := rfl
@[simp] theorem State.modChan_cap (c : Fin 2) (f : Chan → Chan) : (s.modChan c f).cap = s.cap := rfl
@[simp] theorem State.modChan_discAt (c : Fin 2) (f : Chan → Chan) : (s.modChan c f).discAt = s.discAt := rfl
@[simp] theorem State.modChan_disc (c : Fin 2) (f : Chan → Chan) : (s.modChan c f).disc = s.disc := rfl
@[simp] theorem State.modChan_leftZero (c : Fin 2) (f : Chan → Chan) : (s.modChan c f).leftZero = s.leftZero := rfl
@[simp] theorem State.modChan_latch (c : Fin 2) (f : Chan → Chan) : (s.modChan c f).latch = s.latch := rfl
@[simp] theorem State.modChan_images (c : Fin 2) (f : Chan → Chan) : (s.modChan c f).images = s.images := rfl
@[simp] theorem State.modChan_confirming (c : Fin 2) (f : Chan → Chan) : (s.modChan c f).confirming = s.confirming := rfl
@[simp] theorem State.modChan_cfgDue (c : Fin 2) (f : Chan → Chan) : (s.modChan c f).cfgDue = s.cfgDue := rfl
@[simp] theorem State.modChan_jq (c : Fin 2) (f : Chan → Chan) : (s.modChan c f).jq = s.jq := rfl
@[simp] theorem State.modChan_jdrop (c : Fin 2) (f : Chan → Chan) : (s.modChan c f).jdrop = s.jdrop := rfl
@[simp] theorem State.modChan_jarr (c : Fin 2) (f : Chan → Chan) : (s.modChan c f).jarr = s.jarr := rfl
@[simp] theorem State.modChan_ring (c : Fin 2) (f : Chan → Chan) : (s.modChan c f).ring = s.ring := rfl
@[simp] theorem State.modChan_holdAt (c : Fin 2) (f : Chan → Chan) : (s.modChan c f).holdAt = s.holdAt := rfl
@[simp] theorem State.modChan_sessions (c : Fin 2) (f : Chan → Chan) : (s.modChan c f).sessions = s.sessions := rfl
@[simp] theorem State.modChan_freed (c : Fin 2) (f : Chan → Chan) : (s.modChan c f).freed = s.freed := rfl
@[simp] theorem State.modChan_locks (c : Fin 2) (f : Chan → Chan) : (s.modChan c f).locks = s.locks := rfl
@[simp] theorem State.modChan_best (c : Fin 2) (f : Chan → Chan) : (s.modChan c f).best = s.best := rfl
@[simp] theorem State.modChan_bestAt (c : Fin 2) (f : Chan → Chan) : (s.modChan c f).bestAt = s.bestAt := rfl
@[simp] theorem State.modChan_queue (c : Fin 2) (f : Chan → Chan) : (s.modChan c f).queue = s.queue := rfl
@[simp] theorem State.modChan_flights (c : Fin 2) (f : Chan → Chan) : (s.modChan c f).flights = s.flights := rfl
@[simp] theorem State.modChan_routes (c : Fin 2) (f : Chan → Chan) : (s.modChan c f).routes = s.routes := rfl
@[simp] theorem State.modChan_hostOut (c : Fin 2) (f : Chan → Chan) : (s.modChan c f).hostOut = s.hostOut := rfl
@[simp] theorem State.modChan_opens (c : Fin 2) (f : Chan → Chan) : (s.modChan c f).opens = s.opens := rfl
@[simp] theorem State.modChan_last06 (c : Fin 2) (f : Chan → Chan) : (s.modChan c f).last06 = s.last06 := rfl
@[simp] theorem State.modChan_last07 (c : Fin 2) (f : Chan → Chan) : (s.modChan c f).last07 = s.last07 := rfl
@[simp] theorem State.modChan_last08 (c : Fin 2) (f : Chan → Chan) : (s.modChan c f).last08 = s.last08 := rfl
@[simp] theorem State.modChan_txs (c : Fin 2) (f : Chan → Chan) : (s.modChan c f).txs = s.txs := rfl
@[simp] theorem State.modChan_txUse (c : Fin 2) (f : Chan → Chan) : (s.modChan c f).txUse = s.txUse := rfl
@[simp] theorem State.modChan_fences (c : Fin 2) (f : Chan → Chan) : (s.modChan c f).fences = s.fences := rfl
@[simp] theorem State.modChan_heldW (c : Fin 2) (f : Chan → Chan) : (s.modChan c f).heldW = s.heldW := rfl
@[simp] theorem State.modChan_naz (c : Fin 2) (f : Chan → Chan) : (s.modChan c f).naz = s.naz := rfl
@[simp] theorem State.modChan_can (c : Fin 2) (f : Chan → Chan) : (s.modChan c f).can = s.can := rfl
@[simp] theorem State.modChan_power (c : Fin 2) (f : Chan → Chan) : (s.modChan c f).power = s.power := rfl
@[simp] theorem State.modChan_fw (c : Fin 2) (f : Chan → Chan) : (s.modChan c f).fw = s.fw := rfl
@[simp] theorem State.modChan_raised (c : Fin 2) (f : Chan → Chan) : (s.modChan c f).raised = s.raised := rfl
@[simp] theorem State.modChan_outs (c : Fin 2) (f : Chan → Chan) : (s.modChan c f).outs = s.outs := rfl
@[simp] theorem State.modChan_freeCtr (c : Fin 2) (f : Chan → Chan) : (s.modChan c f).freeCtr = s.freeCtr := rfl
@[simp] theorem State.modChan_pending (c : Fin 2) (f : Chan → Chan) : (s.modChan c f).pending = s.pending := rfl
@[simp] theorem State.modChan_get (c : Fin 2) (f : Chan → Chan) (j : Nat) : (s.modChan c f).get j = s.get j := rfl
@[simp] theorem State.modChan_nat (c : Fin 2) (f : Chan → Chan) (j : Nat) : (s.modChan c f).nat j = s.nat j := rfl
@[simp] theorem State.modChan_flag (c : Fin 2) (f : Chan → Chan) (j : Nat) : (s.modChan c f).flag j = s.flag j := rfl
@[simp] theorem State.modChan_blob (c : Fin 2) (f : Chan → Chan) (j : Nat) : (s.modChan c f).blob j = s.blob j := rfl

/-! ### modNaz -/

@[simp] theorem State.modNaz_now (f : Naz → Naz) : (s.modNaz f).now = s.now := rfl
@[simp] theorem State.modNaz_tbOff (f : Naz → Naz) : (s.modNaz f).tbOff = s.tbOff := rfl
@[simp] theorem State.modNaz_tbFrac (f : Naz → Naz) : (s.modNaz f).tbFrac = s.tbFrac := rfl
@[simp] theorem State.modNaz_dict (f : Naz → Naz) : (s.modNaz f).dict = s.dict := rfl
@[simp] theorem State.modNaz_blobs (f : Naz → Naz) : (s.modNaz f).blobs = s.blobs := rfl
@[simp] theorem State.modNaz_secs (f : Naz → Naz) : (s.modNaz f).secs = s.secs := rfl
@[simp] theorem State.modNaz_hbs (f : Naz → Naz) : (s.modNaz f).hbs = s.hbs := rfl
@[simp] theorem State.modNaz_axes (f : Naz → Naz) : (s.modNaz f).axes = s.axes := rfl
@[simp] theorem State.modNaz_encs (f : Naz → Naz) : (s.modNaz f).encs = s.encs := rfl
@[simp] theorem State.modNaz_slots (f : Naz → Naz) : (s.modNaz f).slots = s.slots := rfl
@[simp] theorem State.modNaz_lanes (f : Naz → Naz) : (s.modNaz f).lanes = s.lanes := rfl
@[simp] theorem State.modNaz_port (f : Naz → Naz) : (s.modNaz f).port = s.port := rfl
@[simp] theorem State.modNaz_rereading (f : Naz → Naz) : (s.modNaz f).rereading = s.rereading := rfl
@[simp] theorem State.modNaz_gens (f : Naz → Naz) : (s.modNaz f).gens = s.gens := rfl
@[simp] theorem State.modNaz_cap (f : Naz → Naz) : (s.modNaz f).cap = s.cap := rfl
@[simp] theorem State.modNaz_tongs (f : Naz → Naz) : (s.modNaz f).tongs = s.tongs := rfl
@[simp] theorem State.modNaz_discAt (f : Naz → Naz) : (s.modNaz f).discAt = s.discAt := rfl
@[simp] theorem State.modNaz_disc (f : Naz → Naz) : (s.modNaz f).disc = s.disc := rfl
@[simp] theorem State.modNaz_leftZero (f : Naz → Naz) : (s.modNaz f).leftZero = s.leftZero := rfl
@[simp] theorem State.modNaz_latch (f : Naz → Naz) : (s.modNaz f).latch = s.latch := rfl
@[simp] theorem State.modNaz_images (f : Naz → Naz) : (s.modNaz f).images = s.images := rfl
@[simp] theorem State.modNaz_confirming (f : Naz → Naz) : (s.modNaz f).confirming = s.confirming := rfl
@[simp] theorem State.modNaz_cfgDue (f : Naz → Naz) : (s.modNaz f).cfgDue = s.cfgDue := rfl
@[simp] theorem State.modNaz_jq (f : Naz → Naz) : (s.modNaz f).jq = s.jq := rfl
@[simp] theorem State.modNaz_jdrop (f : Naz → Naz) : (s.modNaz f).jdrop = s.jdrop := rfl
@[simp] theorem State.modNaz_jarr (f : Naz → Naz) : (s.modNaz f).jarr = s.jarr := rfl
@[simp] theorem State.modNaz_ring (f : Naz → Naz) : (s.modNaz f).ring = s.ring := rfl
@[simp] theorem State.modNaz_holdAt (f : Naz → Naz) : (s.modNaz f).holdAt = s.holdAt := rfl
@[simp] theorem State.modNaz_sessions (f : Naz → Naz) : (s.modNaz f).sessions = s.sessions := rfl
@[simp] theorem State.modNaz_freed (f : Naz → Naz) : (s.modNaz f).freed = s.freed := rfl
@[simp] theorem State.modNaz_locks (f : Naz → Naz) : (s.modNaz f).locks = s.locks := rfl
@[simp] theorem State.modNaz_best (f : Naz → Naz) : (s.modNaz f).best = s.best := rfl
@[simp] theorem State.modNaz_bestAt (f : Naz → Naz) : (s.modNaz f).bestAt = s.bestAt := rfl
@[simp] theorem State.modNaz_queue (f : Naz → Naz) : (s.modNaz f).queue = s.queue := rfl
@[simp] theorem State.modNaz_flights (f : Naz → Naz) : (s.modNaz f).flights = s.flights := rfl
@[simp] theorem State.modNaz_routes (f : Naz → Naz) : (s.modNaz f).routes = s.routes := rfl
@[simp] theorem State.modNaz_hostOut (f : Naz → Naz) : (s.modNaz f).hostOut = s.hostOut := rfl
@[simp] theorem State.modNaz_opens (f : Naz → Naz) : (s.modNaz f).opens = s.opens := rfl
@[simp] theorem State.modNaz_last06 (f : Naz → Naz) : (s.modNaz f).last06 = s.last06 := rfl
@[simp] theorem State.modNaz_last07 (f : Naz → Naz) : (s.modNaz f).last07 = s.last07 := rfl
@[simp] theorem State.modNaz_last08 (f : Naz → Naz) : (s.modNaz f).last08 = s.last08 := rfl
@[simp] theorem State.modNaz_txs (f : Naz → Naz) : (s.modNaz f).txs = s.txs := rfl
@[simp] theorem State.modNaz_txUse (f : Naz → Naz) : (s.modNaz f).txUse = s.txUse := rfl
@[simp] theorem State.modNaz_fences (f : Naz → Naz) : (s.modNaz f).fences = s.fences := rfl
@[simp] theorem State.modNaz_heldW (f : Naz → Naz) : (s.modNaz f).heldW = s.heldW := rfl
@[simp] theorem State.modNaz_can (f : Naz → Naz) : (s.modNaz f).can = s.can := rfl
@[simp] theorem State.modNaz_power (f : Naz → Naz) : (s.modNaz f).power = s.power := rfl
@[simp] theorem State.modNaz_fw (f : Naz → Naz) : (s.modNaz f).fw = s.fw := rfl
@[simp] theorem State.modNaz_raised (f : Naz → Naz) : (s.modNaz f).raised = s.raised := rfl
@[simp] theorem State.modNaz_outs (f : Naz → Naz) : (s.modNaz f).outs = s.outs := rfl
@[simp] theorem State.modNaz_freeCtr (f : Naz → Naz) : (s.modNaz f).freeCtr = s.freeCtr := rfl
@[simp] theorem State.modNaz_pending (f : Naz → Naz) : (s.modNaz f).pending = s.pending := rfl
@[simp] theorem State.modNaz_get (f : Naz → Naz) (j : Nat) : (s.modNaz f).get j = s.get j := rfl
@[simp] theorem State.modNaz_nat (f : Naz → Naz) (j : Nat) : (s.modNaz f).nat j = s.nat j := rfl
@[simp] theorem State.modNaz_flag (f : Naz → Naz) (j : Nat) : (s.modNaz f).flag j = s.flag j := rfl
@[simp] theorem State.modNaz_blob (f : Naz → Naz) (j : Nat) : (s.modNaz f).blob j = s.blob j := rfl
@[simp] theorem State.modNaz_cfgOf (f : Naz → Naz) (c : Fin 2) (j : Nat) : (s.modNaz f).cfgOf c j = s.cfgOf c j := rfl
@[simp] theorem State.modNaz_cfg (f : Naz → Naz) (j : Nat) : (s.modNaz f).cfg j = s.cfg j := rfl

/-! ### modCan -/

@[simp] theorem State.modCan_now (b : Fin 2) (f : Can → Can) : (s.modCan b f).now = s.now := rfl
@[simp] theorem State.modCan_tbOff (b : Fin 2) (f : Can → Can) : (s.modCan b f).tbOff = s.tbOff := rfl
@[simp] theorem State.modCan_tbFrac (b : Fin 2) (f : Can → Can) : (s.modCan b f).tbFrac = s.tbFrac := rfl
@[simp] theorem State.modCan_dict (b : Fin 2) (f : Can → Can) : (s.modCan b f).dict = s.dict := rfl
@[simp] theorem State.modCan_blobs (b : Fin 2) (f : Can → Can) : (s.modCan b f).blobs = s.blobs := rfl
@[simp] theorem State.modCan_secs (b : Fin 2) (f : Can → Can) : (s.modCan b f).secs = s.secs := rfl
@[simp] theorem State.modCan_hbs (b : Fin 2) (f : Can → Can) : (s.modCan b f).hbs = s.hbs := rfl
@[simp] theorem State.modCan_axes (b : Fin 2) (f : Can → Can) : (s.modCan b f).axes = s.axes := rfl
@[simp] theorem State.modCan_encs (b : Fin 2) (f : Can → Can) : (s.modCan b f).encs = s.encs := rfl
@[simp] theorem State.modCan_slots (b : Fin 2) (f : Can → Can) : (s.modCan b f).slots = s.slots := rfl
@[simp] theorem State.modCan_lanes (b : Fin 2) (f : Can → Can) : (s.modCan b f).lanes = s.lanes := rfl
@[simp] theorem State.modCan_port (b : Fin 2) (f : Can → Can) : (s.modCan b f).port = s.port := rfl
@[simp] theorem State.modCan_rereading (b : Fin 2) (f : Can → Can) : (s.modCan b f).rereading = s.rereading := rfl
@[simp] theorem State.modCan_gens (b : Fin 2) (f : Can → Can) : (s.modCan b f).gens = s.gens := rfl
@[simp] theorem State.modCan_cap (b : Fin 2) (f : Can → Can) : (s.modCan b f).cap = s.cap := rfl
@[simp] theorem State.modCan_tongs (b : Fin 2) (f : Can → Can) : (s.modCan b f).tongs = s.tongs := rfl
@[simp] theorem State.modCan_discAt (b : Fin 2) (f : Can → Can) : (s.modCan b f).discAt = s.discAt := rfl
@[simp] theorem State.modCan_disc (b : Fin 2) (f : Can → Can) : (s.modCan b f).disc = s.disc := rfl
@[simp] theorem State.modCan_leftZero (b : Fin 2) (f : Can → Can) : (s.modCan b f).leftZero = s.leftZero := rfl
@[simp] theorem State.modCan_latch (b : Fin 2) (f : Can → Can) : (s.modCan b f).latch = s.latch := rfl
@[simp] theorem State.modCan_images (b : Fin 2) (f : Can → Can) : (s.modCan b f).images = s.images := rfl
@[simp] theorem State.modCan_confirming (b : Fin 2) (f : Can → Can) : (s.modCan b f).confirming = s.confirming := rfl
@[simp] theorem State.modCan_cfgDue (b : Fin 2) (f : Can → Can) : (s.modCan b f).cfgDue = s.cfgDue := rfl
@[simp] theorem State.modCan_jq (b : Fin 2) (f : Can → Can) : (s.modCan b f).jq = s.jq := rfl
@[simp] theorem State.modCan_jdrop (b : Fin 2) (f : Can → Can) : (s.modCan b f).jdrop = s.jdrop := rfl
@[simp] theorem State.modCan_jarr (b : Fin 2) (f : Can → Can) : (s.modCan b f).jarr = s.jarr := rfl
@[simp] theorem State.modCan_ring (b : Fin 2) (f : Can → Can) : (s.modCan b f).ring = s.ring := rfl
@[simp] theorem State.modCan_holdAt (b : Fin 2) (f : Can → Can) : (s.modCan b f).holdAt = s.holdAt := rfl
@[simp] theorem State.modCan_sessions (b : Fin 2) (f : Can → Can) : (s.modCan b f).sessions = s.sessions := rfl
@[simp] theorem State.modCan_freed (b : Fin 2) (f : Can → Can) : (s.modCan b f).freed = s.freed := rfl
@[simp] theorem State.modCan_locks (b : Fin 2) (f : Can → Can) : (s.modCan b f).locks = s.locks := rfl
@[simp] theorem State.modCan_best (b : Fin 2) (f : Can → Can) : (s.modCan b f).best = s.best := rfl
@[simp] theorem State.modCan_bestAt (b : Fin 2) (f : Can → Can) : (s.modCan b f).bestAt = s.bestAt := rfl
@[simp] theorem State.modCan_queue (b : Fin 2) (f : Can → Can) : (s.modCan b f).queue = s.queue := rfl
@[simp] theorem State.modCan_flights (b : Fin 2) (f : Can → Can) : (s.modCan b f).flights = s.flights := rfl
@[simp] theorem State.modCan_routes (b : Fin 2) (f : Can → Can) : (s.modCan b f).routes = s.routes := rfl
@[simp] theorem State.modCan_hostOut (b : Fin 2) (f : Can → Can) : (s.modCan b f).hostOut = s.hostOut := rfl
@[simp] theorem State.modCan_opens (b : Fin 2) (f : Can → Can) : (s.modCan b f).opens = s.opens := rfl
@[simp] theorem State.modCan_last06 (b : Fin 2) (f : Can → Can) : (s.modCan b f).last06 = s.last06 := rfl
@[simp] theorem State.modCan_last07 (b : Fin 2) (f : Can → Can) : (s.modCan b f).last07 = s.last07 := rfl
@[simp] theorem State.modCan_last08 (b : Fin 2) (f : Can → Can) : (s.modCan b f).last08 = s.last08 := rfl
@[simp] theorem State.modCan_txs (b : Fin 2) (f : Can → Can) : (s.modCan b f).txs = s.txs := rfl
@[simp] theorem State.modCan_txUse (b : Fin 2) (f : Can → Can) : (s.modCan b f).txUse = s.txUse := rfl
@[simp] theorem State.modCan_fences (b : Fin 2) (f : Can → Can) : (s.modCan b f).fences = s.fences := rfl
@[simp] theorem State.modCan_heldW (b : Fin 2) (f : Can → Can) : (s.modCan b f).heldW = s.heldW := rfl
@[simp] theorem State.modCan_naz (b : Fin 2) (f : Can → Can) : (s.modCan b f).naz = s.naz := rfl
@[simp] theorem State.modCan_power (b : Fin 2) (f : Can → Can) : (s.modCan b f).power = s.power := rfl
@[simp] theorem State.modCan_fw (b : Fin 2) (f : Can → Can) : (s.modCan b f).fw = s.fw := rfl
@[simp] theorem State.modCan_raised (b : Fin 2) (f : Can → Can) : (s.modCan b f).raised = s.raised := rfl
@[simp] theorem State.modCan_outs (b : Fin 2) (f : Can → Can) : (s.modCan b f).outs = s.outs := rfl
@[simp] theorem State.modCan_freeCtr (b : Fin 2) (f : Can → Can) : (s.modCan b f).freeCtr = s.freeCtr := rfl
@[simp] theorem State.modCan_pending (b : Fin 2) (f : Can → Can) : (s.modCan b f).pending = s.pending := rfl
@[simp] theorem State.modCan_get (b : Fin 2) (f : Can → Can) (j : Nat) : (s.modCan b f).get j = s.get j := rfl
@[simp] theorem State.modCan_nat (b : Fin 2) (f : Can → Can) (j : Nat) : (s.modCan b f).nat j = s.nat j := rfl
@[simp] theorem State.modCan_flag (b : Fin 2) (f : Can → Can) (j : Nat) : (s.modCan b f).flag j = s.flag j := rfl
@[simp] theorem State.modCan_blob (b : Fin 2) (f : Can → Can) (j : Nat) : (s.modCan b f).blob j = s.blob j := rfl
@[simp] theorem State.modCan_cfgOf (b : Fin 2) (f : Can → Can) (c : Fin 2) (j : Nat) : (s.modCan b f).cfgOf c j = s.cfgOf c j := rfl
@[simp] theorem State.modCan_cfg (b : Fin 2) (f : Can → Can) (j : Nat) : (s.modCan b f).cfg j = s.cfg j := rfl

/-! ### modPower -/

@[simp] theorem State.modPower_now (f : Power → Power) : (s.modPower f).now = s.now := rfl
@[simp] theorem State.modPower_tbOff (f : Power → Power) : (s.modPower f).tbOff = s.tbOff := rfl
@[simp] theorem State.modPower_tbFrac (f : Power → Power) : (s.modPower f).tbFrac = s.tbFrac := rfl
@[simp] theorem State.modPower_dict (f : Power → Power) : (s.modPower f).dict = s.dict := rfl
@[simp] theorem State.modPower_blobs (f : Power → Power) : (s.modPower f).blobs = s.blobs := rfl
@[simp] theorem State.modPower_secs (f : Power → Power) : (s.modPower f).secs = s.secs := rfl
@[simp] theorem State.modPower_hbs (f : Power → Power) : (s.modPower f).hbs = s.hbs := rfl
@[simp] theorem State.modPower_axes (f : Power → Power) : (s.modPower f).axes = s.axes := rfl
@[simp] theorem State.modPower_encs (f : Power → Power) : (s.modPower f).encs = s.encs := rfl
@[simp] theorem State.modPower_slots (f : Power → Power) : (s.modPower f).slots = s.slots := rfl
@[simp] theorem State.modPower_lanes (f : Power → Power) : (s.modPower f).lanes = s.lanes := rfl
@[simp] theorem State.modPower_port (f : Power → Power) : (s.modPower f).port = s.port := rfl
@[simp] theorem State.modPower_rereading (f : Power → Power) : (s.modPower f).rereading = s.rereading := rfl
@[simp] theorem State.modPower_gens (f : Power → Power) : (s.modPower f).gens = s.gens := rfl
@[simp] theorem State.modPower_cap (f : Power → Power) : (s.modPower f).cap = s.cap := rfl
@[simp] theorem State.modPower_tongs (f : Power → Power) : (s.modPower f).tongs = s.tongs := rfl
@[simp] theorem State.modPower_discAt (f : Power → Power) : (s.modPower f).discAt = s.discAt := rfl
@[simp] theorem State.modPower_disc (f : Power → Power) : (s.modPower f).disc = s.disc := rfl
@[simp] theorem State.modPower_leftZero (f : Power → Power) : (s.modPower f).leftZero = s.leftZero := rfl
@[simp] theorem State.modPower_latch (f : Power → Power) : (s.modPower f).latch = s.latch := rfl
@[simp] theorem State.modPower_images (f : Power → Power) : (s.modPower f).images = s.images := rfl
@[simp] theorem State.modPower_confirming (f : Power → Power) : (s.modPower f).confirming = s.confirming := rfl
@[simp] theorem State.modPower_cfgDue (f : Power → Power) : (s.modPower f).cfgDue = s.cfgDue := rfl
@[simp] theorem State.modPower_jq (f : Power → Power) : (s.modPower f).jq = s.jq := rfl
@[simp] theorem State.modPower_jdrop (f : Power → Power) : (s.modPower f).jdrop = s.jdrop := rfl
@[simp] theorem State.modPower_jarr (f : Power → Power) : (s.modPower f).jarr = s.jarr := rfl
@[simp] theorem State.modPower_ring (f : Power → Power) : (s.modPower f).ring = s.ring := rfl
@[simp] theorem State.modPower_holdAt (f : Power → Power) : (s.modPower f).holdAt = s.holdAt := rfl
@[simp] theorem State.modPower_sessions (f : Power → Power) : (s.modPower f).sessions = s.sessions := rfl
@[simp] theorem State.modPower_freed (f : Power → Power) : (s.modPower f).freed = s.freed := rfl
@[simp] theorem State.modPower_locks (f : Power → Power) : (s.modPower f).locks = s.locks := rfl
@[simp] theorem State.modPower_best (f : Power → Power) : (s.modPower f).best = s.best := rfl
@[simp] theorem State.modPower_bestAt (f : Power → Power) : (s.modPower f).bestAt = s.bestAt := rfl
@[simp] theorem State.modPower_queue (f : Power → Power) : (s.modPower f).queue = s.queue := rfl
@[simp] theorem State.modPower_flights (f : Power → Power) : (s.modPower f).flights = s.flights := rfl
@[simp] theorem State.modPower_routes (f : Power → Power) : (s.modPower f).routes = s.routes := rfl
@[simp] theorem State.modPower_hostOut (f : Power → Power) : (s.modPower f).hostOut = s.hostOut := rfl
@[simp] theorem State.modPower_opens (f : Power → Power) : (s.modPower f).opens = s.opens := rfl
@[simp] theorem State.modPower_last06 (f : Power → Power) : (s.modPower f).last06 = s.last06 := rfl
@[simp] theorem State.modPower_last07 (f : Power → Power) : (s.modPower f).last07 = s.last07 := rfl
@[simp] theorem State.modPower_last08 (f : Power → Power) : (s.modPower f).last08 = s.last08 := rfl
@[simp] theorem State.modPower_txs (f : Power → Power) : (s.modPower f).txs = s.txs := rfl
@[simp] theorem State.modPower_txUse (f : Power → Power) : (s.modPower f).txUse = s.txUse := rfl
@[simp] theorem State.modPower_fences (f : Power → Power) : (s.modPower f).fences = s.fences := rfl
@[simp] theorem State.modPower_heldW (f : Power → Power) : (s.modPower f).heldW = s.heldW := rfl
@[simp] theorem State.modPower_naz (f : Power → Power) : (s.modPower f).naz = s.naz := rfl
@[simp] theorem State.modPower_can (f : Power → Power) : (s.modPower f).can = s.can := rfl
@[simp] theorem State.modPower_fw (f : Power → Power) : (s.modPower f).fw = s.fw := rfl
@[simp] theorem State.modPower_raised (f : Power → Power) : (s.modPower f).raised = s.raised := rfl
@[simp] theorem State.modPower_outs (f : Power → Power) : (s.modPower f).outs = s.outs := rfl
@[simp] theorem State.modPower_freeCtr (f : Power → Power) : (s.modPower f).freeCtr = s.freeCtr := rfl
@[simp] theorem State.modPower_pending (f : Power → Power) : (s.modPower f).pending = s.pending := rfl
@[simp] theorem State.modPower_get (f : Power → Power) (j : Nat) : (s.modPower f).get j = s.get j := rfl
@[simp] theorem State.modPower_nat (f : Power → Power) (j : Nat) : (s.modPower f).nat j = s.nat j := rfl
@[simp] theorem State.modPower_flag (f : Power → Power) (j : Nat) : (s.modPower f).flag j = s.flag j := rfl
@[simp] theorem State.modPower_blob (f : Power → Power) (j : Nat) : (s.modPower f).blob j = s.blob j := rfl
@[simp] theorem State.modPower_cfgOf (f : Power → Power) (c : Fin 2) (j : Nat) : (s.modPower f).cfgOf c j = s.cfgOf c j := rfl
@[simp] theorem State.modPower_cfg (f : Power → Power) (j : Nat) : (s.modPower f).cfg j = s.cfg j := rfl

/-! ### modFw -/

@[simp] theorem State.modFw_now (f : Fw → Fw) : (s.modFw f).now = s.now := rfl
@[simp] theorem State.modFw_tbOff (f : Fw → Fw) : (s.modFw f).tbOff = s.tbOff := rfl
@[simp] theorem State.modFw_tbFrac (f : Fw → Fw) : (s.modFw f).tbFrac = s.tbFrac := rfl
@[simp] theorem State.modFw_dict (f : Fw → Fw) : (s.modFw f).dict = s.dict := rfl
@[simp] theorem State.modFw_blobs (f : Fw → Fw) : (s.modFw f).blobs = s.blobs := rfl
@[simp] theorem State.modFw_secs (f : Fw → Fw) : (s.modFw f).secs = s.secs := rfl
@[simp] theorem State.modFw_hbs (f : Fw → Fw) : (s.modFw f).hbs = s.hbs := rfl
@[simp] theorem State.modFw_axes (f : Fw → Fw) : (s.modFw f).axes = s.axes := rfl
@[simp] theorem State.modFw_encs (f : Fw → Fw) : (s.modFw f).encs = s.encs := rfl
@[simp] theorem State.modFw_slots (f : Fw → Fw) : (s.modFw f).slots = s.slots := rfl
@[simp] theorem State.modFw_lanes (f : Fw → Fw) : (s.modFw f).lanes = s.lanes := rfl
@[simp] theorem State.modFw_port (f : Fw → Fw) : (s.modFw f).port = s.port := rfl
@[simp] theorem State.modFw_rereading (f : Fw → Fw) : (s.modFw f).rereading = s.rereading := rfl
@[simp] theorem State.modFw_gens (f : Fw → Fw) : (s.modFw f).gens = s.gens := rfl
@[simp] theorem State.modFw_cap (f : Fw → Fw) : (s.modFw f).cap = s.cap := rfl
@[simp] theorem State.modFw_tongs (f : Fw → Fw) : (s.modFw f).tongs = s.tongs := rfl
@[simp] theorem State.modFw_discAt (f : Fw → Fw) : (s.modFw f).discAt = s.discAt := rfl
@[simp] theorem State.modFw_disc (f : Fw → Fw) : (s.modFw f).disc = s.disc := rfl
@[simp] theorem State.modFw_leftZero (f : Fw → Fw) : (s.modFw f).leftZero = s.leftZero := rfl
@[simp] theorem State.modFw_latch (f : Fw → Fw) : (s.modFw f).latch = s.latch := rfl
@[simp] theorem State.modFw_images (f : Fw → Fw) : (s.modFw f).images = s.images := rfl
@[simp] theorem State.modFw_confirming (f : Fw → Fw) : (s.modFw f).confirming = s.confirming := rfl
@[simp] theorem State.modFw_cfgDue (f : Fw → Fw) : (s.modFw f).cfgDue = s.cfgDue := rfl
@[simp] theorem State.modFw_jq (f : Fw → Fw) : (s.modFw f).jq = s.jq := rfl
@[simp] theorem State.modFw_jdrop (f : Fw → Fw) : (s.modFw f).jdrop = s.jdrop := rfl
@[simp] theorem State.modFw_jarr (f : Fw → Fw) : (s.modFw f).jarr = s.jarr := rfl
@[simp] theorem State.modFw_ring (f : Fw → Fw) : (s.modFw f).ring = s.ring := rfl
@[simp] theorem State.modFw_holdAt (f : Fw → Fw) : (s.modFw f).holdAt = s.holdAt := rfl
@[simp] theorem State.modFw_sessions (f : Fw → Fw) : (s.modFw f).sessions = s.sessions := rfl
@[simp] theorem State.modFw_freed (f : Fw → Fw) : (s.modFw f).freed = s.freed := rfl
@[simp] theorem State.modFw_locks (f : Fw → Fw) : (s.modFw f).locks = s.locks := rfl
@[simp] theorem State.modFw_best (f : Fw → Fw) : (s.modFw f).best = s.best := rfl
@[simp] theorem State.modFw_bestAt (f : Fw → Fw) : (s.modFw f).bestAt = s.bestAt := rfl
@[simp] theorem State.modFw_queue (f : Fw → Fw) : (s.modFw f).queue = s.queue := rfl
@[simp] theorem State.modFw_flights (f : Fw → Fw) : (s.modFw f).flights = s.flights := rfl
@[simp] theorem State.modFw_routes (f : Fw → Fw) : (s.modFw f).routes = s.routes := rfl
@[simp] theorem State.modFw_hostOut (f : Fw → Fw) : (s.modFw f).hostOut = s.hostOut := rfl
@[simp] theorem State.modFw_opens (f : Fw → Fw) : (s.modFw f).opens = s.opens := rfl
@[simp] theorem State.modFw_last06 (f : Fw → Fw) : (s.modFw f).last06 = s.last06 := rfl
@[simp] theorem State.modFw_last07 (f : Fw → Fw) : (s.modFw f).last07 = s.last07 := rfl
@[simp] theorem State.modFw_last08 (f : Fw → Fw) : (s.modFw f).last08 = s.last08 := rfl
@[simp] theorem State.modFw_txs (f : Fw → Fw) : (s.modFw f).txs = s.txs := rfl
@[simp] theorem State.modFw_txUse (f : Fw → Fw) : (s.modFw f).txUse = s.txUse := rfl
@[simp] theorem State.modFw_fences (f : Fw → Fw) : (s.modFw f).fences = s.fences := rfl
@[simp] theorem State.modFw_heldW (f : Fw → Fw) : (s.modFw f).heldW = s.heldW := rfl
@[simp] theorem State.modFw_naz (f : Fw → Fw) : (s.modFw f).naz = s.naz := rfl
@[simp] theorem State.modFw_can (f : Fw → Fw) : (s.modFw f).can = s.can := rfl
@[simp] theorem State.modFw_power (f : Fw → Fw) : (s.modFw f).power = s.power := rfl
@[simp] theorem State.modFw_raised (f : Fw → Fw) : (s.modFw f).raised = s.raised := rfl
@[simp] theorem State.modFw_outs (f : Fw → Fw) : (s.modFw f).outs = s.outs := rfl
@[simp] theorem State.modFw_freeCtr (f : Fw → Fw) : (s.modFw f).freeCtr = s.freeCtr := rfl
@[simp] theorem State.modFw_pending (f : Fw → Fw) : (s.modFw f).pending = s.pending := rfl
@[simp] theorem State.modFw_get (f : Fw → Fw) (j : Nat) : (s.modFw f).get j = s.get j := rfl
@[simp] theorem State.modFw_nat (f : Fw → Fw) (j : Nat) : (s.modFw f).nat j = s.nat j := rfl
@[simp] theorem State.modFw_flag (f : Fw → Fw) (j : Nat) : (s.modFw f).flag j = s.flag j := rfl
@[simp] theorem State.modFw_blob (f : Fw → Fw) (j : Nat) : (s.modFw f).blob j = s.blob j := rfl
@[simp] theorem State.modFw_cfgOf (f : Fw → Fw) (c : Fin 2) (j : Nat) : (s.modFw f).cfgOf c j = s.cfgOf c j := rfl
@[simp] theorem State.modFw_cfg (f : Fw → Fw) (j : Nat) : (s.modFw f).cfg j = s.cfg j := rfl

/-! ### modTx -/

@[simp] theorem State.modTx_now (i : Nat) (f : Tx → Tx) : (s.modTx i f).now = s.now := rfl
@[simp] theorem State.modTx_tbOff (i : Nat) (f : Tx → Tx) : (s.modTx i f).tbOff = s.tbOff := rfl
@[simp] theorem State.modTx_tbFrac (i : Nat) (f : Tx → Tx) : (s.modTx i f).tbFrac = s.tbFrac := rfl
@[simp] theorem State.modTx_dict (i : Nat) (f : Tx → Tx) : (s.modTx i f).dict = s.dict := rfl
@[simp] theorem State.modTx_blobs (i : Nat) (f : Tx → Tx) : (s.modTx i f).blobs = s.blobs := rfl
@[simp] theorem State.modTx_secs (i : Nat) (f : Tx → Tx) : (s.modTx i f).secs = s.secs := rfl
@[simp] theorem State.modTx_hbs (i : Nat) (f : Tx → Tx) : (s.modTx i f).hbs = s.hbs := rfl
@[simp] theorem State.modTx_axes (i : Nat) (f : Tx → Tx) : (s.modTx i f).axes = s.axes := rfl
@[simp] theorem State.modTx_encs (i : Nat) (f : Tx → Tx) : (s.modTx i f).encs = s.encs := rfl
@[simp] theorem State.modTx_slots (i : Nat) (f : Tx → Tx) : (s.modTx i f).slots = s.slots := rfl
@[simp] theorem State.modTx_lanes (i : Nat) (f : Tx → Tx) : (s.modTx i f).lanes = s.lanes := rfl
@[simp] theorem State.modTx_port (i : Nat) (f : Tx → Tx) : (s.modTx i f).port = s.port := rfl
@[simp] theorem State.modTx_rereading (i : Nat) (f : Tx → Tx) : (s.modTx i f).rereading = s.rereading := rfl
@[simp] theorem State.modTx_gens (i : Nat) (f : Tx → Tx) : (s.modTx i f).gens = s.gens := rfl
@[simp] theorem State.modTx_cap (i : Nat) (f : Tx → Tx) : (s.modTx i f).cap = s.cap := rfl
@[simp] theorem State.modTx_tongs (i : Nat) (f : Tx → Tx) : (s.modTx i f).tongs = s.tongs := rfl
@[simp] theorem State.modTx_discAt (i : Nat) (f : Tx → Tx) : (s.modTx i f).discAt = s.discAt := rfl
@[simp] theorem State.modTx_disc (i : Nat) (f : Tx → Tx) : (s.modTx i f).disc = s.disc := rfl
@[simp] theorem State.modTx_leftZero (i : Nat) (f : Tx → Tx) : (s.modTx i f).leftZero = s.leftZero := rfl
@[simp] theorem State.modTx_latch (i : Nat) (f : Tx → Tx) : (s.modTx i f).latch = s.latch := rfl
@[simp] theorem State.modTx_images (i : Nat) (f : Tx → Tx) : (s.modTx i f).images = s.images := rfl
@[simp] theorem State.modTx_confirming (i : Nat) (f : Tx → Tx) : (s.modTx i f).confirming = s.confirming := rfl
@[simp] theorem State.modTx_cfgDue (i : Nat) (f : Tx → Tx) : (s.modTx i f).cfgDue = s.cfgDue := rfl
@[simp] theorem State.modTx_jq (i : Nat) (f : Tx → Tx) : (s.modTx i f).jq = s.jq := rfl
@[simp] theorem State.modTx_jdrop (i : Nat) (f : Tx → Tx) : (s.modTx i f).jdrop = s.jdrop := rfl
@[simp] theorem State.modTx_jarr (i : Nat) (f : Tx → Tx) : (s.modTx i f).jarr = s.jarr := rfl
@[simp] theorem State.modTx_ring (i : Nat) (f : Tx → Tx) : (s.modTx i f).ring = s.ring := rfl
@[simp] theorem State.modTx_holdAt (i : Nat) (f : Tx → Tx) : (s.modTx i f).holdAt = s.holdAt := rfl
@[simp] theorem State.modTx_sessions (i : Nat) (f : Tx → Tx) : (s.modTx i f).sessions = s.sessions := rfl
@[simp] theorem State.modTx_freed (i : Nat) (f : Tx → Tx) : (s.modTx i f).freed = s.freed := rfl
@[simp] theorem State.modTx_locks (i : Nat) (f : Tx → Tx) : (s.modTx i f).locks = s.locks := rfl
@[simp] theorem State.modTx_best (i : Nat) (f : Tx → Tx) : (s.modTx i f).best = s.best := rfl
@[simp] theorem State.modTx_bestAt (i : Nat) (f : Tx → Tx) : (s.modTx i f).bestAt = s.bestAt := rfl
@[simp] theorem State.modTx_queue (i : Nat) (f : Tx → Tx) : (s.modTx i f).queue = s.queue := rfl
@[simp] theorem State.modTx_flights (i : Nat) (f : Tx → Tx) : (s.modTx i f).flights = s.flights := rfl
@[simp] theorem State.modTx_routes (i : Nat) (f : Tx → Tx) : (s.modTx i f).routes = s.routes := rfl
@[simp] theorem State.modTx_hostOut (i : Nat) (f : Tx → Tx) : (s.modTx i f).hostOut = s.hostOut := rfl
@[simp] theorem State.modTx_opens (i : Nat) (f : Tx → Tx) : (s.modTx i f).opens = s.opens := rfl
@[simp] theorem State.modTx_last06 (i : Nat) (f : Tx → Tx) : (s.modTx i f).last06 = s.last06 := rfl
@[simp] theorem State.modTx_last07 (i : Nat) (f : Tx → Tx) : (s.modTx i f).last07 = s.last07 := rfl
@[simp] theorem State.modTx_last08 (i : Nat) (f : Tx → Tx) : (s.modTx i f).last08 = s.last08 := rfl
@[simp] theorem State.modTx_txUse (i : Nat) (f : Tx → Tx) : (s.modTx i f).txUse = s.txUse := rfl
@[simp] theorem State.modTx_fences (i : Nat) (f : Tx → Tx) : (s.modTx i f).fences = s.fences := rfl
@[simp] theorem State.modTx_heldW (i : Nat) (f : Tx → Tx) : (s.modTx i f).heldW = s.heldW := rfl
@[simp] theorem State.modTx_naz (i : Nat) (f : Tx → Tx) : (s.modTx i f).naz = s.naz := rfl
@[simp] theorem State.modTx_can (i : Nat) (f : Tx → Tx) : (s.modTx i f).can = s.can := rfl
@[simp] theorem State.modTx_power (i : Nat) (f : Tx → Tx) : (s.modTx i f).power = s.power := rfl
@[simp] theorem State.modTx_fw (i : Nat) (f : Tx → Tx) : (s.modTx i f).fw = s.fw := rfl
@[simp] theorem State.modTx_raised (i : Nat) (f : Tx → Tx) : (s.modTx i f).raised = s.raised := rfl
@[simp] theorem State.modTx_outs (i : Nat) (f : Tx → Tx) : (s.modTx i f).outs = s.outs := rfl
@[simp] theorem State.modTx_freeCtr (i : Nat) (f : Tx → Tx) : (s.modTx i f).freeCtr = s.freeCtr := rfl
@[simp] theorem State.modTx_pending (i : Nat) (f : Tx → Tx) : (s.modTx i f).pending = s.pending := rfl
@[simp] theorem State.modTx_get (i : Nat) (f : Tx → Tx) (j : Nat) : (s.modTx i f).get j = s.get j := rfl
@[simp] theorem State.modTx_nat (i : Nat) (f : Tx → Tx) (j : Nat) : (s.modTx i f).nat j = s.nat j := rfl
@[simp] theorem State.modTx_flag (i : Nat) (f : Tx → Tx) (j : Nat) : (s.modTx i f).flag j = s.flag j := rfl
@[simp] theorem State.modTx_blob (i : Nat) (f : Tx → Tx) (j : Nat) : (s.modTx i f).blob j = s.blob j := rfl
@[simp] theorem State.modTx_cfgOf (i : Nat) (f : Tx → Tx) (c : Fin 2) (j : Nat) : (s.modTx i f).cfgOf c j = s.cfgOf c j := rfl
@[simp] theorem State.modTx_cfg (i : Nat) (f : Tx → Tx) (j : Nat) : (s.modTx i f).cfg j = s.cfg j := rfl

/-! ### modSession -/

@[simp] theorem State.modSession_now (i : Nat) (f : Session → Session) : (s.modSession i f).now = s.now := rfl
@[simp] theorem State.modSession_tbOff (i : Nat) (f : Session → Session) : (s.modSession i f).tbOff = s.tbOff := rfl
@[simp] theorem State.modSession_tbFrac (i : Nat) (f : Session → Session) : (s.modSession i f).tbFrac = s.tbFrac := rfl
@[simp] theorem State.modSession_dict (i : Nat) (f : Session → Session) : (s.modSession i f).dict = s.dict := rfl
@[simp] theorem State.modSession_blobs (i : Nat) (f : Session → Session) : (s.modSession i f).blobs = s.blobs := rfl
@[simp] theorem State.modSession_secs (i : Nat) (f : Session → Session) : (s.modSession i f).secs = s.secs := rfl
@[simp] theorem State.modSession_hbs (i : Nat) (f : Session → Session) : (s.modSession i f).hbs = s.hbs := rfl
@[simp] theorem State.modSession_axes (i : Nat) (f : Session → Session) : (s.modSession i f).axes = s.axes := rfl
@[simp] theorem State.modSession_encs (i : Nat) (f : Session → Session) : (s.modSession i f).encs = s.encs := rfl
@[simp] theorem State.modSession_slots (i : Nat) (f : Session → Session) : (s.modSession i f).slots = s.slots := rfl
@[simp] theorem State.modSession_lanes (i : Nat) (f : Session → Session) : (s.modSession i f).lanes = s.lanes := rfl
@[simp] theorem State.modSession_port (i : Nat) (f : Session → Session) : (s.modSession i f).port = s.port := rfl
@[simp] theorem State.modSession_rereading (i : Nat) (f : Session → Session) : (s.modSession i f).rereading = s.rereading := rfl
@[simp] theorem State.modSession_gens (i : Nat) (f : Session → Session) : (s.modSession i f).gens = s.gens := rfl
@[simp] theorem State.modSession_cap (i : Nat) (f : Session → Session) : (s.modSession i f).cap = s.cap := rfl
@[simp] theorem State.modSession_tongs (i : Nat) (f : Session → Session) : (s.modSession i f).tongs = s.tongs := rfl
@[simp] theorem State.modSession_discAt (i : Nat) (f : Session → Session) : (s.modSession i f).discAt = s.discAt := rfl
@[simp] theorem State.modSession_disc (i : Nat) (f : Session → Session) : (s.modSession i f).disc = s.disc := rfl
@[simp] theorem State.modSession_leftZero (i : Nat) (f : Session → Session) : (s.modSession i f).leftZero = s.leftZero := rfl
@[simp] theorem State.modSession_latch (i : Nat) (f : Session → Session) : (s.modSession i f).latch = s.latch := rfl
@[simp] theorem State.modSession_images (i : Nat) (f : Session → Session) : (s.modSession i f).images = s.images := rfl
@[simp] theorem State.modSession_confirming (i : Nat) (f : Session → Session) : (s.modSession i f).confirming = s.confirming := rfl
@[simp] theorem State.modSession_cfgDue (i : Nat) (f : Session → Session) : (s.modSession i f).cfgDue = s.cfgDue := rfl
@[simp] theorem State.modSession_jq (i : Nat) (f : Session → Session) : (s.modSession i f).jq = s.jq := rfl
@[simp] theorem State.modSession_jdrop (i : Nat) (f : Session → Session) : (s.modSession i f).jdrop = s.jdrop := rfl
@[simp] theorem State.modSession_jarr (i : Nat) (f : Session → Session) : (s.modSession i f).jarr = s.jarr := rfl
@[simp] theorem State.modSession_ring (i : Nat) (f : Session → Session) : (s.modSession i f).ring = s.ring := rfl
@[simp] theorem State.modSession_holdAt (i : Nat) (f : Session → Session) : (s.modSession i f).holdAt = s.holdAt := rfl
@[simp] theorem State.modSession_freed (i : Nat) (f : Session → Session) : (s.modSession i f).freed = s.freed := rfl
@[simp] theorem State.modSession_locks (i : Nat) (f : Session → Session) : (s.modSession i f).locks = s.locks := rfl
@[simp] theorem State.modSession_best (i : Nat) (f : Session → Session) : (s.modSession i f).best = s.best := rfl
@[simp] theorem State.modSession_bestAt (i : Nat) (f : Session → Session) : (s.modSession i f).bestAt = s.bestAt := rfl
@[simp] theorem State.modSession_queue (i : Nat) (f : Session → Session) : (s.modSession i f).queue = s.queue := rfl
@[simp] theorem State.modSession_flights (i : Nat) (f : Session → Session) : (s.modSession i f).flights = s.flights := rfl
@[simp] theorem State.modSession_routes (i : Nat) (f : Session → Session) : (s.modSession i f).routes = s.routes := rfl
@[simp] theorem State.modSession_hostOut (i : Nat) (f : Session → Session) : (s.modSession i f).hostOut = s.hostOut := rfl
@[simp] theorem State.modSession_opens (i : Nat) (f : Session → Session) : (s.modSession i f).opens = s.opens := rfl
@[simp] theorem State.modSession_last06 (i : Nat) (f : Session → Session) : (s.modSession i f).last06 = s.last06 := rfl
@[simp] theorem State.modSession_last07 (i : Nat) (f : Session → Session) : (s.modSession i f).last07 = s.last07 := rfl
@[simp] theorem State.modSession_last08 (i : Nat) (f : Session → Session) : (s.modSession i f).last08 = s.last08 := rfl
@[simp] theorem State.modSession_txs (i : Nat) (f : Session → Session) : (s.modSession i f).txs = s.txs := rfl
@[simp] theorem State.modSession_txUse (i : Nat) (f : Session → Session) : (s.modSession i f).txUse = s.txUse := rfl
@[simp] theorem State.modSession_fences (i : Nat) (f : Session → Session) : (s.modSession i f).fences = s.fences := rfl
@[simp] theorem State.modSession_heldW (i : Nat) (f : Session → Session) : (s.modSession i f).heldW = s.heldW := rfl
@[simp] theorem State.modSession_naz (i : Nat) (f : Session → Session) : (s.modSession i f).naz = s.naz := rfl
@[simp] theorem State.modSession_can (i : Nat) (f : Session → Session) : (s.modSession i f).can = s.can := rfl
@[simp] theorem State.modSession_power (i : Nat) (f : Session → Session) : (s.modSession i f).power = s.power := rfl
@[simp] theorem State.modSession_fw (i : Nat) (f : Session → Session) : (s.modSession i f).fw = s.fw := rfl
@[simp] theorem State.modSession_raised (i : Nat) (f : Session → Session) : (s.modSession i f).raised = s.raised := rfl
@[simp] theorem State.modSession_outs (i : Nat) (f : Session → Session) : (s.modSession i f).outs = s.outs := rfl
@[simp] theorem State.modSession_freeCtr (i : Nat) (f : Session → Session) : (s.modSession i f).freeCtr = s.freeCtr := rfl
@[simp] theorem State.modSession_pending (i : Nat) (f : Session → Session) : (s.modSession i f).pending = s.pending := rfl
@[simp] theorem State.modSession_get (i : Nat) (f : Session → Session) (j : Nat) : (s.modSession i f).get j = s.get j := rfl
@[simp] theorem State.modSession_nat (i : Nat) (f : Session → Session) (j : Nat) : (s.modSession i f).nat j = s.nat j := rfl
@[simp] theorem State.modSession_flag (i : Nat) (f : Session → Session) (j : Nat) : (s.modSession i f).flag j = s.flag j := rfl
@[simp] theorem State.modSession_blob (i : Nat) (f : Session → Session) (j : Nat) : (s.modSession i f).blob j = s.blob j := rfl
@[simp] theorem State.modSession_cfgOf (i : Nat) (f : Session → Session) (c : Fin 2) (j : Nat) : (s.modSession i f).cfgOf c j = s.cfgOf c j := rfl
@[simp] theorem State.modSession_cfg (i : Nat) (f : Session → Session) (j : Nat) : (s.modSession i f).cfg j = s.cfg j := rfl

end Sys2Proof.Machine
end

