-- ==== Sys2Proof/Laws/Objects.lean ====
section
/-! SUPPORT. Reading objects after writing them; the canonical form of the object store; what `each` and the end of every
command do. -/

namespace Sys2Proof.Machine
open Obj

/-! ### Association lists -/

theorem AL.find_insert {α : Type} (l : List (Nat × α)) (k j : Nat) (v : α) :
    AL.find (AL.insert l k v) j = if j = k then some v else AL.find l j := by
  induction l with
  | nil => simp [AL.insert, AL.find, eq_comm]
  | cons p r ih =>
    obtain ⟨a, w⟩ := p
    unfold AL.insert
    split
    · simp [AL.find, eq_comm]
    · split
      · subst_vars
        by_cases h : j = a
        · simp [AL.find, h]
        · simp [AL.find, h, Ne.symm h]
      · by_cases h : j = a
        · subst h
          simp [AL.find]
          intro h'; subst h'; contradiction
        · simp [AL.find, ih, Ne.symm h]

theorem AL.find_erase {α : Type} (l : List (Nat × α)) (k j : Nat) :
    AL.find (AL.erase l k) j = if j = k then none else AL.find l j := by
  induction l with
  | nil => simp [AL.erase, AL.find]
  | cons p r ih =>
    obtain ⟨a, w⟩ := p
    unfold AL.erase
    by_cases h : a = k
    · subst h
      by_cases hj : j = a
      · simp [hj] at ih ⊢; exact ih
      · simp [ih, hj, AL.find, Ne.symm hj]
    · by_cases hj : j = a
      · subst hj; simp [AL.find, h]
      · simp [AL.find, h, ih, Ne.symm hj]

/-! ### Objects -/

theorem State.get_set (s : State) (k j : Nat) (v : Int) : (s.set k v).get j = if j = k then v else s.get j := by
  unfold State.set State.get AL.put
  by_cases h : v = Catalog.default k
  · by_cases hj : j = k <;> simp [h, hj, AL.find_erase]
  · by_cases hj : j = k <;> simp [h, hj, AL.find_insert]

@[simp] theorem State.get_set_self (s : State) (k : Nat) (v : Int) : (s.set k v).get k = v := by simp [State.get_set]

theorem State.get_set_ne (s : State) {k j : Nat} (v : Int) (h : j ≠ k) : (s.set k v).get j = s.get j := by simp [State.get_set, h]

theorem State.nat_set (s : State) (k j : Nat) (v : Int) : (s.set k v).nat j = if j = k then v.toNat else s.nat j := by
  unfold State.nat; rw [State.get_set]; split <;> rfl

theorem State.flag_set (s : State) (k j : Nat) (v : Int) : (s.set k v).flag j = if j = k then decide (v ≠ 0) else s.flag j := by
  unfold State.flag; rw [State.get_set]; split <;> rfl

theorem State.blob_setBlob (s : State) (k j : Nat) (v : Bytes) : (s.setBlob k v).blob j = if j = k then v else s.blob j := by
  unfold State.setBlob State.blob AL.put
  by_cases h : v = []
  · by_cases hj : j = k <;> simp [h, hj, AL.find_erase]
  · by_cases hj : j = k <;> simp [h, hj, AL.find_insert]

@[simp] theorem State.blob_setBlob_self (s : State) (k : Nat) (v : Bytes) : (s.setBlob k v).blob k = v := by simp [State.blob_setBlob]

/-! ### The canonical form (R322) -/

/-- Every listed key lies above a bound, and the keys rise. -/
def AL.above {α : Type} (b : Option Nat) : List (Nat × α) → Prop
  | [] => True
  | (k, _) :: r => (∀ m, b = some m → m < k) ∧ AL.above (some k) r

theorem AL.rising_iff {α : Type} (l : List (Nat × α)) : AL.rising l = true ↔ AL.above none l := by
  induction l with
  | nil => simp [AL.rising, AL.above]
  | cons p r ih =>
    obtain ⟨a, v⟩ := p
    cases r with
    | nil => simp [AL.rising, AL.above]
    | cons q r =>
      obtain ⟨b, w⟩ := q
      simp only [AL.rising, AL.above, Bool.and_eq_true, decide_eq_true_eq, ih] at *
      constructor
      · rintro ⟨h1, h2⟩; exact ⟨by simp, fun m hm => by cases hm; exact h1, h2.2⟩
      · rintro ⟨-, h1, h2⟩; exact ⟨h1 a rfl, by simp, h2⟩

theorem AL.above_weaken {α : Type} {b : Option Nat} {l : List (Nat × α)} {c : Nat} (h : AL.above (some c) l)
    (hb : ∀ m, b = some m → m < c) : AL.above b l := by
  cases l with
  | nil => trivial
  | cons p r =>
    obtain ⟨a, v⟩ := p
    exact ⟨fun m hm => Nat.lt_trans (hb m hm) (h.1 c rfl), h.2⟩

theorem AL.above_erase {α : Type} (l : List (Nat × α)) (k : Nat) (b : Option Nat) (h : AL.above b l) : AL.above b (AL.erase l k) := by
  induction l generalizing b with
  | nil => trivial
  | cons p r ih =>
    obtain ⟨a, v⟩ := p
    unfold AL.erase
    split
    · exact ih b (AL.above_weaken h.2 h.1)
    · exact ⟨h.1, ih _ h.2⟩

theorem AL.above_insert {α : Type} (l : List (Nat × α)) (k : Nat) (v : α) (b : Option Nat) (h : AL.above b l)
    (hb : ∀ m, b = some m → m < k) : AL.above b (AL.insert l k v) := by
  induction l generalizing b with
  | nil => exact ⟨hb, trivial⟩
  | cons p r ih =>
    obtain ⟨a, w⟩ := p
    unfold AL.insert
    split
    · rename_i hk; exact ⟨hb, fun m hm => by cases hm; exact hk, h.2⟩
    · split
      · rename_i hk; subst hk; exact ⟨h.1, h.2⟩
      · rename_i h1 h2
        exact ⟨h.1, ih _ h.2 (fun m hm => by cases hm; omega)⟩

theorem AL.mem_erase {α : Type} {l : List (Nat × α)} {k : Nat} {e : Nat × α} (h : e ∈ AL.erase l k) : e ∈ l := by
  induction l with
  | nil => cases h
  | cons p r ih =>
    obtain ⟨a, v⟩ := p
    unfold AL.erase at h
    split at h
    · exact List.mem_cons_of_mem _ (ih h)
    · rcases List.mem_cons.mp h with h | h
      · exact h ▸ List.mem_cons_self
      · exact List.mem_cons_of_mem _ (ih h)

theorem AL.mem_insert {α : Type} {l : List (Nat × α)} {k : Nat} {v : α} {e : Nat × α} (h : e ∈ AL.insert l k v) :
    e = (k, v) ∨ e ∈ l := by
  induction l with
  | nil => simpa [AL.insert] using h
  | cons p r ih =>
    obtain ⟨a, w⟩ := p
    unfold AL.insert at h
    split at h
    · simpa using h
    · split at h
      · rcases List.mem_cons.mp h with h | h
        · exact .inl h
        · exact .inr (List.mem_cons_of_mem _ h)
      · rcases List.mem_cons.mp h with h | h
        · exact .inr (h ▸ List.mem_cons_self)
        · exact (ih h).imp id (List.mem_cons_of_mem _)

/-- Writing an object keeps the store in its canonical form. -/
theorem Dict.wf_put (d : List (Nat × Int)) (k : Nat) (v : Int) (h : Dict.wf d = true) :
    Dict.wf (AL.put d k (Catalog.default k) v) = true := by
  unfold Dict.wf at *
  rw [Bool.and_eq_true, AL.rising_iff, List.all_eq_true] at *
  unfold AL.put
  split
  · exact ⟨AL.above_erase _ _ _ h.1, fun e he => h.2 e (AL.mem_erase he)⟩
  · rename_i hv
    exact ⟨AL.above_insert _ _ _ _ h.1 (by simp), fun e he => by
      rcases AL.mem_insert he with rfl | he
      · simpa using hv
      · exact h.2 e he⟩

theorem State.set_wf (s : State) (k : Nat) (v : Int) (h : Dict.wf s.dict = true) : Dict.wf (s.set k v).dict = true :=
  Dict.wf_put s.dict k v h

/-- Writing a STR or BLOB object keeps that store in its canonical form. -/
theorem Blobs.wf_put (d : List (Nat × Bytes)) (k : Nat) (v : Bytes) (h : Blobs.wf d = true) : Blobs.wf (AL.put d k [] v) = true := by
  unfold Blobs.wf at *
  rw [Bool.and_eq_true, AL.rising_iff, List.all_eq_true] at *
  unfold AL.put
  split
  · exact ⟨AL.above_erase _ _ _ h.1, fun e he => h.2 e (AL.mem_erase he)⟩
  · rename_i hv
    exact ⟨AL.above_insert _ _ _ _ h.1 (by simp), fun e he => by
      rcases AL.mem_insert he with rfl | he
      · simpa using hv
      · exact h.2 e he⟩

theorem State.setBlob_wf (s : State) (k : Nat) (v : Bytes) (h : Blobs.wf s.blobs = true) : Blobs.wf (s.setBlob k v).blobs = true :=
  Blobs.wf_put s.blobs k v h

/-! ### Records of instances -/

theorem vget_set_self {α : Type} {n : Nat} (v : Vector α n) (i : Fin n) (x : α) : (v.set i.val x i.isLt).get i = x := by
  change (v.set i.val x i.isLt)[i.val] = x
  simp

theorem vget_set_ne {α : Type} {n : Nat} (v : Vector α n) {i j : Fin n} (x : α) (h : j ≠ i) :
    (v.set i.val x i.isLt).get j = v.get j := by
  have : i.val ≠ j.val := fun e => h (Fin.ext e.symm)
  change (v.set i.val x i.isLt)[j.val] = v[j.val]
  simp [this]

@[simp] theorem State.sec_modSec_self (s : State) (x : Fin 6) (f : Sec → Sec) : (s.modSec x f).sec x = f (s.sec x) :=
  vget_set_self _ _ _

theorem State.sec_modSec_ne (s : State) {x j : Fin 6} (f : Sec → Sec) (h : j ≠ x) : (s.modSec x f).sec j = s.sec j :=
  vget_set_ne _ _ h

@[simp] theorem State.hb_modHb_self (s : State) (n : Fin 18) (f : Hb → Hb) : (s.modHb n f).hb n = f (s.hb n) :=
  vget_set_self _ _ _

theorem State.hb_modHb_ne (s : State) {n j : Fin 18} (f : Hb → Hb) (h : j ≠ n) : (s.modHb n f).hb j = s.hb j :=
  vget_set_ne _ _ h

@[simp] theorem State.ax_modAx_self (s : State) (a : Fin 4) (f : Axis → Axis) : (s.modAx a f).ax a = f (s.ax a) :=
  vget_set_self _ _ _

theorem State.ax_modAx_ne (s : State) {a j : Fin 4} (f : Axis → Axis) (h : j ≠ a) : (s.modAx a f).ax j = s.ax j :=
  vget_set_ne _ _ h

@[simp] theorem State.enc_modEnc_self (s : State) (e : Fin 2) (f : Enc → Enc) : (s.modEnc e f).enc e = f (s.enc e) :=
  vget_set_self _ _ _

theorem State.enc_modEnc_ne (s : State) {e j : Fin 2} (f : Enc → Enc) (h : j ≠ e) : (s.modEnc e f).enc j = s.enc j :=
  vget_set_ne _ _ h

@[simp] theorem State.slot_modSlot_self (s : State) (k : Fin 48) (f : Slot → Slot) : (s.modSlot k f).slot k = f (s.slot k) :=
  vget_set_self _ _ _

theorem State.slot_modSlot_ne (s : State) {k j : Fin 48} (f : Slot → Slot) (h : j ≠ k) : (s.modSlot k f).slot j = s.slot j :=
  vget_set_ne _ _ h

@[simp] theorem State.gen_modGen_self (s : State) (g : Fin 4) (f : Gen → Gen) : (s.modGen g f).gen g = f (s.gen g) :=
  vget_set_self _ _ _

theorem State.gen_modGen_ne (s : State) {g j : Fin 4} (f : Gen → Gen) (h : j ≠ g) : (s.modGen g f).gen j = s.gen j :=
  vget_set_ne _ _ h

@[simp] theorem State.cb_modCan_self (s : State) (b : Fin 2) (f : Can → Can) : (s.modCan b f).cb b = f (s.cb b) :=
  vget_set_self _ _ _

theorem State.cb_modCan_ne (s : State) {b j : Fin 2} (f : Can → Can) (h : j ≠ b) : (s.modCan b f).cb j = s.cb j :=
  vget_set_ne _ _ h

/-! ### Lists of changes -/

/-- What every change of a list keeps, the list keeps. -/
theorem State.each_keeps {β : Type} (P : State → Prop) (l : List β) (f : β → State → State) (s : State)
    (h : ∀ b s, P s → P (f b s)) (hs : P s) : P (s.each l f) := by
  unfold State.each
  induction l generalizing s with
  | nil => exact hs
  | cons b r ih => exact ih (f b s) (h b s hs)

theorem State.each_same {β γ : Type} (g : State → γ) (l : List β) (f : β → State → State) (s : State)
    (h : ∀ b s, g (f b s) = g s) : g (s.each l f) = g s :=
  State.each_keeps (fun u => g u = g s) l f s (fun b u hu => (h b u).trans hu) rfl

end Sys2Proof.Machine
end

