-- ==== Sys2Proof/Laws/Settle.lean ====
section
/-! SUPPORT. What the end of every command does: the three objects per axis that it writes, and everything it leaves. -/

namespace Sys2Proof.Machine
open Obj

/-- An object that the end of a command writes (R29, R35, R493). -/
def shownKey (k : Nat) : Bool := allAxes.any (fun a => decide (k = A_SECTIONS a ∨ k = A_CASCADE_SECTIONS a ∨ k = A_EMERG_STATE a))

theorem shownKey_false {k : Nat} (h : shownKey k = false) (a : Fin 4) :
    k ≠ A_SECTIONS a ∧ k ≠ A_CASCADE_SECTIONS a ∧ k ≠ A_EMERG_STATE a := by
  have := List.any_eq_false.mp h a (by simp [allAxes])
  simpa [not_or] using this

theorem State.countsOf_get (s : State) (a : Fin 4) {k : Nat} (h : shownKey k = false) : (s.countsOf a).get k = s.get k := by
  obtain ⟨h1, h2, -⟩ := shownKey_false h a
  simp only [State.countsOf]
  rw [State.get_set_ne _ _ h2, State.get_set_ne _ _ h1]

theorem State.renderBit_get (s : State) (a : Fin 4) {k : Nat} (h : shownKey k = false) : (s.renderBit a).get k = s.get k := by
  obtain ⟨-, -, h3⟩ := shownKey_false h a
  simp only [State.renderBit]
  rw [State.get_set_ne _ _ h3]

theorem State.settle_get (s : State) {k : Nat} (h : shownKey k = false) : s.settle.get k = s.get k :=
  State.each_same (fun u => u.get k) _ _ _ (fun a u => by rw [State.renderBit_get _ _ h, State.countsOf_get _ _ h])

theorem State.settle_nat (s : State) {k : Nat} (h : shownKey k = false) : s.settle.nat k = s.nat k := by
  simp [State.nat, State.settle_get s h]

theorem State.settle_flag (s : State) {k : Nat} (h : shownKey k = false) : s.settle.flag k = s.flag k := by
  simp [State.flag, State.settle_get s h]

@[simp] theorem State.settle_now (s : State) : s.settle.now = s.now := State.each_same (fun u => u.now) _ _ _ (fun _ _ => rfl)
@[simp] theorem State.settle_tbOff (s : State) : s.settle.tbOff = s.tbOff := State.each_same (fun u => u.tbOff) _ _ _ (fun _ _ => rfl)
@[simp] theorem State.settle_tbFrac (s : State) : s.settle.tbFrac = s.tbFrac := State.each_same (fun u => u.tbFrac) _ _ _ (fun _ _ => rfl)
@[simp] theorem State.settle_blobs (s : State) : s.settle.blobs = s.blobs := State.each_same (fun u => u.blobs) _ _ _ (fun _ _ => rfl)
@[simp] theorem State.settle_secs (s : State) : s.settle.secs = s.secs := State.each_same (fun u => u.secs) _ _ _ (fun _ _ => rfl)
@[simp] theorem State.settle_hbs (s : State) : s.settle.hbs = s.hbs := State.each_same (fun u => u.hbs) _ _ _ (fun _ _ => rfl)
@[simp] theorem State.settle_axes (s : State) : s.settle.axes = s.axes := State.each_same (fun u => u.axes) _ _ _ (fun _ _ => rfl)
@[simp] theorem State.settle_encs (s : State) : s.settle.encs = s.encs := State.each_same (fun u => u.encs) _ _ _ (fun _ _ => rfl)
@[simp] theorem State.settle_slots (s : State) : s.settle.slots = s.slots := State.each_same (fun u => u.slots) _ _ _ (fun _ _ => rfl)
@[simp] theorem State.settle_lanes (s : State) : s.settle.lanes = s.lanes := State.each_same (fun u => u.lanes) _ _ _ (fun _ _ => rfl)
@[simp] theorem State.settle_port (s : State) : s.settle.port = s.port := State.each_same (fun u => u.port) _ _ _ (fun _ _ => rfl)
@[simp] theorem State.settle_rereading (s : State) : s.settle.rereading = s.rereading := State.each_same (fun u => u.rereading) _ _ _ (fun _ _ => rfl)
@[simp] theorem State.settle_gens (s : State) : s.settle.gens = s.gens := State.each_same (fun u => u.gens) _ _ _ (fun _ _ => rfl)
@[simp] theorem State.settle_cap (s : State) : s.settle.cap = s.cap := State.each_same (fun u => u.cap) _ _ _ (fun _ _ => rfl)
@[simp] theorem State.settle_tongs (s : State) : s.settle.tongs = s.tongs := State.each_same (fun u => u.tongs) _ _ _ (fun _ _ => rfl)
@[simp] theorem State.settle_discAt (s : State) : s.settle.discAt = s.discAt := State.each_same (fun u => u.discAt) _ _ _ (fun _ _ => rfl)
@[simp] theorem State.settle_disc (s : State) : s.settle.disc = s.disc := State.each_same (fun u => u.disc) _ _ _ (fun _ _ => rfl)
@[simp] theorem State.settle_leftZero (s : State) : s.settle.leftZero = s.leftZero := State.each_same (fun u => u.leftZero) _ _ _ (fun _ _ => rfl)
@[simp] theorem State.settle_latch (s : State) : s.settle.latch = s.latch := State.each_same (fun u => u.latch) _ _ _ (fun _ _ => rfl)
@[simp] theorem State.settle_images (s : State) : s.settle.images = s.images := State.each_same (fun u => u.images) _ _ _ (fun _ _ => rfl)
@[simp] theorem State.settle_confirming (s : State) : s.settle.confirming = s.confirming := State.each_same (fun u => u.confirming) _ _ _ (fun _ _ => rfl)
@[simp] theorem State.settle_cfgDue (s : State) : s.settle.cfgDue = s.cfgDue := State.each_same (fun u => u.cfgDue) _ _ _ (fun _ _ => rfl)
@[simp] theorem State.settle_jq (s : State) : s.settle.jq = s.jq := State.each_same (fun u => u.jq) _ _ _ (fun _ _ => rfl)
@[simp] theorem State.settle_jdrop (s : State) : s.settle.jdrop = s.jdrop := State.each_same (fun u => u.jdrop) _ _ _ (fun _ _ => rfl)
@[simp] theorem State.settle_jarr (s : State) : s.settle.jarr = s.jarr := State.each_same (fun u => u.jarr) _ _ _ (fun _ _ => rfl)
@[simp] theorem State.settle_ring (s : State) : s.settle.ring = s.ring := State.each_same (fun u => u.ring) _ _ _ (fun _ _ => rfl)
@[simp] theorem State.settle_holdAt (s : State) : s.settle.holdAt = s.holdAt := State.each_same (fun u => u.holdAt) _ _ _ (fun _ _ => rfl)
@[simp] theorem State.settle_sessions (s : State) : s.settle.sessions = s.sessions := State.each_same (fun u => u.sessions) _ _ _ (fun _ _ => rfl)
@[simp] theorem State.settle_freed (s : State) : s.settle.freed = s.freed := State.each_same (fun u => u.freed) _ _ _ (fun _ _ => rfl)
@[simp] theorem State.settle_locks (s : State) : s.settle.locks = s.locks := State.each_same (fun u => u.locks) _ _ _ (fun _ _ => rfl)
@[simp] theorem State.settle_best (s : State) : s.settle.best = s.best := State.each_same (fun u => u.best) _ _ _ (fun _ _ => rfl)
@[simp] theorem State.settle_bestAt (s : State) : s.settle.bestAt = s.bestAt := State.each_same (fun u => u.bestAt) _ _ _ (fun _ _ => rfl)
@[simp] theorem State.settle_queue (s : State) : s.settle.queue = s.queue := State.each_same (fun u => u.queue) _ _ _ (fun _ _ => rfl)
@[simp] theorem State.settle_flights (s : State) : s.settle.flights = s.flights := State.each_same (fun u => u.flights) _ _ _ (fun _ _ => rfl)
@[simp] theorem State.settle_routes (s : State) : s.settle.routes = s.routes := State.each_same (fun u => u.routes) _ _ _ (fun _ _ => rfl)
@[simp] theorem State.settle_hostOut (s : State) : s.settle.hostOut = s.hostOut := State.each_same (fun u => u.hostOut) _ _ _ (fun _ _ => rfl)
@[simp] theorem State.settle_opens (s : State) : s.settle.opens = s.opens := State.each_same (fun u => u.opens) _ _ _ (fun _ _ => rfl)
@[simp] theorem State.settle_last06 (s : State) : s.settle.last06 = s.last06 := State.each_same (fun u => u.last06) _ _ _ (fun _ _ => rfl)
@[simp] theorem State.settle_last07 (s : State) : s.settle.last07 = s.last07 := State.each_same (fun u => u.last07) _ _ _ (fun _ _ => rfl)
@[simp] theorem State.settle_last08 (s : State) : s.settle.last08 = s.last08 := State.each_same (fun u => u.last08) _ _ _ (fun _ _ => rfl)
@[simp] theorem State.settle_txs (s : State) : s.settle.txs = s.txs := State.each_same (fun u => u.txs) _ _ _ (fun _ _ => rfl)
@[simp] theorem State.settle_txUse (s : State) : s.settle.txUse = s.txUse := State.each_same (fun u => u.txUse) _ _ _ (fun _ _ => rfl)
@[simp] theorem State.settle_fences (s : State) : s.settle.fences = s.fences := State.each_same (fun u => u.fences) _ _ _ (fun _ _ => rfl)
@[simp] theorem State.settle_heldW (s : State) : s.settle.heldW = s.heldW := State.each_same (fun u => u.heldW) _ _ _ (fun _ _ => rfl)
@[simp] theorem State.settle_naz (s : State) : s.settle.naz = s.naz := State.each_same (fun u => u.naz) _ _ _ (fun _ _ => rfl)
@[simp] theorem State.settle_can (s : State) : s.settle.can = s.can := State.each_same (fun u => u.can) _ _ _ (fun _ _ => rfl)
@[simp] theorem State.settle_power (s : State) : s.settle.power = s.power := State.each_same (fun u => u.power) _ _ _ (fun _ _ => rfl)
@[simp] theorem State.settle_fw (s : State) : s.settle.fw = s.fw := State.each_same (fun u => u.fw) _ _ _ (fun _ _ => rfl)
@[simp] theorem State.settle_raised (s : State) : s.settle.raised = s.raised := State.each_same (fun u => u.raised) _ _ _ (fun _ _ => rfl)
@[simp] theorem State.settle_outs (s : State) : s.settle.outs = s.outs := State.each_same (fun u => u.outs) _ _ _ (fun _ _ => rfl)
@[simp] theorem State.settle_freeCtr (s : State) : s.settle.freeCtr = s.freeCtr := State.each_same (fun u => u.freeCtr) _ _ _ (fun _ _ => rfl)
@[simp] theorem State.settle_pending (s : State) : s.settle.pending = s.pending := State.each_same (fun u => u.pending) _ _ _ (fun _ _ => rfl)
@[simp] theorem State.settle_blob (s : State) (k : Nat) : s.settle.blob k = s.blob k := by simp [State.blob]

/-- Only objects of 0x50–0x53 are shown. -/
theorem shownKey_of {k : Nat} (h : k < 0x500000 ∨ 0x540000 ≤ k) : shownKey k = false := by
  unfold shownKey
  rw [List.any_eq_false]
  intro a _
  simp only [decide_eq_true_eq, A_SECTIONS, A_CASCADE_SECTIONS, A_EMERG_STATE]
  omega

end Sys2Proof.Machine
end

