-- ==== Sys2Proof/Laws/Only.lean ====
section
/-! SUPPORT. Frames: what the named operations over the state leave alone, one lemma each, in the form that a chain of operations
applies one after the other. -/

namespace Sys2Proof.Safety
open Sys2Proof.Machine Sys2Proof.Machine.Obj

variable {P : Part → Prop} {s u : State}

/-- Every part of a list may change. -/
def Covers (P : Part → Prop) (l : List Part) : Prop := ∀ p ∈ l, P p

theorem Only.refl : Only P s s := by
  intro p _; cases p <;> simp [Part.same]

theorem Only.trans {v : State} (h : Only P s u) (h' : Only P u v) : Only P s v := by
  intro p hp
  have a := h p hp
  have b := h' p hp
  cases p <;> simp only [Part.same] at * <;> simp_all

theorem Only.mono {Q : Part → Prop} (h : Only P s u) (hq : ∀ p, P p → Q p) : Only Q s u := fun p hp => h p (fun h => hp (hq p h))

theorem Only.ite {c : Prop} [Decidable c] {a b : State} (ha : c → Only P s a) (hb : ¬ c → Only P s b) : Only P s (if c then a else b) := by
  split
  · exact ha ‹_›
  · exact hb ‹_›

theorem Only.set {k : Nat} {v : Int} (h : Only P s u) (hk : P (.obj k)) : Only P s (u.set k v) := by
  intro p hp
  have a := h p hp
  cases p with
  | obj j =>
    have : j ≠ k := fun e => hp (e ▸ hk)
    simpa [Part.same, State.get_set, this] using a
  | _ => exact a

theorem Only.setFlag {k : Nat} {b : Bool} (h : Only P s u) (hk : P (.obj k)) : Only P s (u.setFlag k b) := h.set hk
theorem Only.addCount {k n : Nat} (h : Only P s u) (hk : P (.obj k)) : Only P s (u.addCount k n) := h.set hk
theorem Only.inc {k : Nat} (h : Only P s u) (hk : P (.obj k)) : Only P s (u.inc k) := h.set hk
theorem Only.orBits {k m : Nat} (h : Only P s u) (hk : P (.obj k)) : Only P s (u.orBits k m) := h.set hk
theorem Only.clearBits {k m : Nat} (h : Only P s u) (hk : P (.obj k)) : Only P s (u.clearBits k m) := h.set hk

theorem Only.setBlob {k : Nat} {v : Bytes} (h : Only P s u) (hk : P (.blob k)) : Only P s (u.setBlob k v) := by
  intro p hp
  have a := h p hp
  cases p with
  | blob j =>
    have : j ≠ k := fun e => hp (e ▸ hk)
    simpa [Part.same, State.blob_setBlob, this] using a
  | _ => exact a

theorem Only.modSec {x : Fin 6} {f : Sec → Sec} (h : Only P s u) (hk : P (.sec x)) : Only P s (u.modSec x f) := by
  intro p hp
  have a := h p hp
  cases p with
  | sec j =>
    have : j ≠ x := fun e => hp (e ▸ hk)
    simpa [Part.same, State.sec_modSec_ne u f this] using a
  | _ => exact a

theorem Only.modHb {x : Fin 18} {f : Hb → Hb} (h : Only P s u) (hk : P (.hb x)) : Only P s (u.modHb x f) := by
  intro p hp
  have a := h p hp
  cases p with
  | hb j =>
    have : j ≠ x := fun e => hp (e ▸ hk)
    simpa [Part.same, State.hb_modHb_ne u f this] using a
  | _ => exact a

theorem Only.modAx {x : Fin 4} {f : Axis → Axis} (h : Only P s u) (hk : P (.ax x)) : Only P s (u.modAx x f) := by
  intro p hp
  have a := h p hp
  cases p with
  | ax j =>
    have : j ≠ x := fun e => hp (e ▸ hk)
    simpa [Part.same, State.ax_modAx_ne u f this] using a
  | _ => exact a

theorem Only.modEnc {x : Fin 2} {f : Enc → Enc} (h : Only P s u) (hk : P (.enc x)) : Only P s (u.modEnc x f) := by
  intro p hp
  have a := h p hp
  cases p with
  | enc j =>
    have : j ≠ x := fun e => hp (e ▸ hk)
    simpa [Part.same, State.enc_modEnc_ne u f this] using a
  | _ => exact a

theorem Only.modSlot {x : Fin 48} {f : Slot → Slot} (h : Only P s u) (hk : P (.slot x)) : Only P s (u.modSlot x f) := by
  intro p hp
  have a := h p hp
  cases p with
  | slot j =>
    have : j ≠ x := fun e => hp (e ▸ hk)
    simpa [Part.same, State.slot_modSlot_ne u f this] using a
  | _ => exact a

theorem Only.modGen {x : Fin 4} {f : Gen → Gen} (h : Only P s u) (hk : P (.gen x)) : Only P s (u.modGen x f) := by
  intro p hp
  have a := h p hp
  cases p with
  | gen j =>
    have : j ≠ x := fun e => hp (e ▸ hk)
    simpa [Part.same, State.gen_modGen_ne u f this] using a
  | _ => exact a

theorem Only.modCan {x : Fin 2} {f : Can → Can} (h : Only P s u) (hk : P (.can x)) : Only P s (u.modCan x f) := by
  intro p hp
  have a := h p hp
  cases p with
  | can j =>
    have : j ≠ x := fun e => hp (e ▸ hk)
    simpa [Part.same, State.cb_modCan_ne u f this] using a
  | _ => exact a

theorem Only.modPwm {x : Fin 6} {f : Pwm → Pwm} (h : Only P s u) (hk : P (.sec x)) : Only P s (u.modPwm x f) := h.modSec hk

/-- A record update that keeps every part outside P. -/
theorem Only.with_ {v : State} (h : Only P s u) (hv : ∀ p, ¬ P p → p.same u v) : Only P s v := h.trans hv

theorem Only.emit {o : Out} (h : Only P s u) (hk : P .outs) : Only P s (u.emit o) :=
  h.with_ (fun p hp => by cases p <;> first | rfl | exact ⟨rfl, rfl, rfl⟩ | exact absurd hk hp)

theorem Only.journal {cls isl detail src : Nat} {data : Bytes} (h : Only P s u) (hk : P .raised) :
    Only P s (u.journal cls isl detail src data) :=
  h.with_ (fun p hp => by cases p <;> first | rfl | exact ⟨rfl, rfl, rfl⟩ | exact absurd hk hp)

theorem Only.free (h : Only P s u) (hk : P .freeCtr) : Only P s u.free.2 :=
  h.with_ (fun p hp => by cases p <;> first | rfl | exact ⟨rfl, rfl, rfl⟩ | exact absurd hk hp)

theorem Only.each {β : Type} {l : List β} {f : β → State → State} (h : Only P s u)
    (hf : ∀ b v, Only P s v → Only P s (f b v)) : Only P s (u.each l f) :=
  State.each_keeps (fun v => Only P s v) l f u hf h

theorem Only.each_mem {β : Type} {l : List β} {f : β → State → State} (h : Only P s u)
    (hf : ∀ b v, b ∈ l → Only P s v → Only P s (f b v)) : Only P s (u.each l f) := by
  unfold State.each
  induction l generalizing u with
  | nil => exact h
  | cons b r ih => exact ih (hf b u List.mem_cons_self h) (fun c v hc => hf c v (List.mem_cons_of_mem _ hc))

theorem Only.foldl {β : Type} {l : List β} {f : State → β → State} (h : Only P s u)
    (hf : ∀ b v, Only P s v → Only P s (f v b)) : Only P s (l.foldl f u) := by
  induction l generalizing u with
  | nil => exact h
  | cons b r ih => exact ih (hf b u h)

/-- The same where a value is carried beside the state. -/
theorem Only.foldl_pair {α β : Type} {l : List β} {a : α} {f : α × State → β → α × State} (h : Only P s u)
    (hf : ∀ b q, Only P s q.2 → Only P s (f q b).2) : Only P s (l.foldl f (a, u)).2 := by
  suffices ∀ q : α × State, Only P s q.2 → Only P s (l.foldl f q).2 from this (a, u) h
  induction l with
  | nil => exact fun q hq => hq
  | cons b r ih => exact fun q hq => ih (f q b) (hf b q hq)

/-- The state of a pair. -/
theorem Only.of_pair {α : Type} {q : α × State} {c : α} {v : State} (e : q = (c, v)) (h : Only P s q.2) : Only P s v := by
  subst e; exact h

theorem Only.at_ {t : Nat} (h : Only P s u) (hc : P .clock) (ho : P .outs) : Only P s (u.at_ t) :=
  h.with_ (fun p hp => by cases p <;> first | rfl | exact absurd hc hp | exact absurd ho hp)

/-! ### Updates of stores -/

theorem Only.w_lanes {v0 : Lanes} (h : Only P s u) (h1 : P .lanes) : Only P s { u with lanes := v0 } :=
  h.with_ (fun p hp => by cases p <;> first | rfl | exact ⟨rfl, rfl, rfl⟩ | contradiction)
theorem Only.w_port {v0 : Port} (h : Only P s u) (h1 : P .port) : Only P s { u with port := v0 } :=
  h.with_ (fun p hp => by cases p <;> first | rfl | exact ⟨rfl, rfl, rfl⟩ | contradiction)
theorem Only.w_rereading {v0 : Bool} (h : Only P s u) (h1 : P .rereading) : Only P s { u with rereading := v0 } :=
  h.with_ (fun p hp => by cases p <;> first | rfl | exact ⟨rfl, rfl, rfl⟩ | contradiction)
theorem Only.w_cap {v0 : Cap} (h : Only P s u) (h1 : P .cap) : Only P s { u with cap := v0 } :=
  h.with_ (fun p hp => by cases p <;> first | rfl | exact ⟨rfl, rfl, rfl⟩ | contradiction)
theorem Only.w_tongs {v0 : Vector Chan 2} (h : Only P s u) (h1 : P .tongs) : Only P s { u with tongs := v0 } :=
  h.with_ (fun p hp => by cases p <;> first | rfl | exact ⟨rfl, rfl, rfl⟩ | contradiction)
theorem Only.w_latch {v0 : Vector (Option (Nat × Nat)) 4} (h : Only P s u) (h1 : P .latch) : Only P s { u with latch := v0 } :=
  h.with_ (fun p hp => by cases p <;> first | rfl | exact ⟨rfl, rfl, rfl⟩ | contradiction)
theorem Only.w_disc {v0 : Bool} (h : Only P s u) (h1 : P .disc) : Only P s { u with disc := v0 } :=
  h.with_ (fun p hp => by cases p <;> first | rfl | exact ⟨rfl, rfl, rfl⟩ | contradiction)
theorem Only.w_leftZero {v0 : Bool} (h : Only P s u) (h1 : P .leftZero) : Only P s { u with leftZero := v0 } :=
  h.with_ (fun p hp => by cases p <;> first | rfl | exact ⟨rfl, rfl, rfl⟩ | contradiction)
theorem Only.w_images {v0 : List Image} (h : Only P s u) (h1 : P .images) : Only P s { u with images := v0 } :=
  h.with_ (fun p hp => by cases p <;> first | rfl | exact ⟨rfl, rfl, rfl⟩ | contradiction)
theorem Only.w_confirming {v0 : Option (Nat × List (Nat × Int))} (h : Only P s u) (h1 : P .confirming) : Only P s { u with confirming := v0 } :=
  h.with_ (fun p hp => by cases p <;> first | rfl | exact ⟨rfl, rfl, rfl⟩ | contradiction)
theorem Only.w_cfgDue {v0 : Bool} (h : Only P s u) (h1 : P .cfgDue) : Only P s { u with cfgDue := v0 } :=
  h.with_ (fun p hp => by cases p <;> first | rfl | exact ⟨rfl, rfl, rfl⟩ | contradiction)
theorem Only.w_jq {v0 : List Entry} (h : Only P s u) (h1 : P .jq) : Only P s { u with jq := v0 } :=
  h.with_ (fun p hp => by cases p <;> first | rfl | exact ⟨rfl, rfl, rfl⟩ | contradiction)
theorem Only.w_jdrop {v0 : Nat} (h : Only P s u) (h1 : P .jdrop) : Only P s { u with jdrop := v0 } :=
  h.with_ (fun p hp => by cases p <;> first | rfl | exact ⟨rfl, rfl, rfl⟩ | contradiction)
theorem Only.w_jarr {v0 : Nat × Nat} (h : Only P s u) (h1 : P .jarr) : Only P s { u with jarr := v0 } :=
  h.with_ (fun p hp => by cases p <;> first | rfl | exact ⟨rfl, rfl, rfl⟩ | contradiction)
theorem Only.w_ring {v0 : List Entry} (h : Only P s u) (h1 : P .ring) : Only P s { u with ring := v0 } :=
  h.with_ (fun p hp => by cases p <;> first | rfl | exact ⟨rfl, rfl, rfl⟩ | contradiction)
theorem Only.w_holdAt {v0 : Option Nat} (h : Only P s u) (h1 : P .holdAt) : Only P s { u with holdAt := v0 } :=
  h.with_ (fun p hp => by cases p <;> first | rfl | exact ⟨rfl, rfl, rfl⟩ | contradiction)
theorem Only.w_sessions {v0 : List Session} (h : Only P s u) (h1 : P .sessions) : Only P s { u with sessions := v0 } :=
  h.with_ (fun p hp => by cases p <;> first | rfl | exact ⟨rfl, rfl, rfl⟩ | contradiction)
theorem Only.w_freed {v0 : List (Nat × Nat)} (h : Only P s u) (h1 : P .freed) : Only P s { u with freed := v0 } :=
  h.with_ (fun p hp => by cases p <;> first | rfl | exact ⟨rfl, rfl, rfl⟩ | contradiction)
theorem Only.w_locks {v0 : Vector (Option Lock) 10} (h : Only P s u) (h1 : P .locks) : Only P s { u with locks := v0 } :=
  h.with_ (fun p hp => by cases p <;> first | rfl | exact ⟨rfl, rfl, rfl⟩ | contradiction)
theorem Only.w_best {v0 : Rat} (h : Only P s u) (h1 : P .best) : Only P s { u with best := v0 } :=
  h.with_ (fun p hp => by cases p <;> first | rfl | exact ⟨rfl, rfl, rfl⟩ | contradiction)
theorem Only.w_queue {v0 : List AppReq} (h : Only P s u) (h1 : P .queue) : Only P s { u with queue := v0 } :=
  h.with_ (fun p hp => by cases p <;> first | rfl | exact ⟨rfl, rfl, rfl⟩ | contradiction)
theorem Only.w_flights {v0 : List Flight} (h : Only P s u) (h1 : P .flights) : Only P s { u with flights := v0 } :=
  h.with_ (fun p hp => by cases p <;> first | rfl | exact ⟨rfl, rfl, rfl⟩ | contradiction)
theorem Only.w_routes {v0 : List (Nat × Nat)} (h : Only P s u) (h1 : P .routes) : Only P s { u with routes := v0 } :=
  h.with_ (fun p hp => by cases p <;> first | rfl | exact ⟨rfl, rfl, rfl⟩ | contradiction)
theorem Only.w_hostOut {v0 : List (List Nat)} (h : Only P s u) (h1 : P .hostOut) : Only P s { u with hostOut := v0 } :=
  h.with_ (fun p hp => by cases p <;> first | rfl | exact ⟨rfl, rfl, rfl⟩ | contradiction)
theorem Only.w_opens {v0 : Vector (Nat × Nat) 3} (h : Only P s u) (h1 : P .opens) : Only P s { u with opens := v0 } :=
  h.with_ (fun p hp => by cases p <;> first | rfl | exact ⟨rfl, rfl, rfl⟩ | contradiction)
theorem Only.w_last06 {v0 : Vector (Option Nat × Nat) 3} (h : Only P s u) (h1 : P .last06) : Only P s { u with last06 := v0 } :=
  h.with_ (fun p hp => by cases p <;> first | rfl | exact ⟨rfl, rfl, rfl⟩ | contradiction)
theorem Only.w_last07 {v0 : Vector (Option Nat × Nat) 3} (h : Only P s u) (h1 : P .last07) : Only P s { u with last07 := v0 } :=
  h.with_ (fun p hp => by cases p <;> first | rfl | exact ⟨rfl, rfl, rfl⟩ | contradiction)
theorem Only.w_last08 {v0 : Option Nat × Nat} (h : Only P s u) (h1 : P .last08) : Only P s { u with last08 := v0 } :=
  h.with_ (fun p hp => by cases p <;> first | rfl | exact ⟨rfl, rfl, rfl⟩ | contradiction)
theorem Only.w_txs {v0 : List Tx} (h : Only P s u) (h1 : P .txs) : Only P s { u with txs := v0 } :=
  h.with_ (fun p hp => by cases p <;> first | rfl | exact ⟨rfl, rfl, rfl⟩ | contradiction)
theorem Only.w_fences {v0 : List Fence} (h : Only P s u) (h1 : P .fences) : Only P s { u with fences := v0 } :=
  h.with_ (fun p hp => by cases p <;> first | rfl | exact ⟨rfl, rfl, rfl⟩ | contradiction)
theorem Only.w_heldW {v0 : List Held} (h : Only P s u) (h1 : P .heldW) : Only P s { u with heldW := v0 } :=
  h.with_ (fun p hp => by cases p <;> first | rfl | exact ⟨rfl, rfl, rfl⟩ | contradiction)
theorem Only.w_naz {v0 : Naz} (h : Only P s u) (h1 : P .naz) : Only P s { u with naz := v0 } :=
  h.with_ (fun p hp => by cases p <;> first | rfl | exact ⟨rfl, rfl, rfl⟩ | contradiction)
theorem Only.w_power {v0 : Power} (h : Only P s u) (h1 : P .power) : Only P s { u with power := v0 } :=
  h.with_ (fun p hp => by cases p <;> first | rfl | exact ⟨rfl, rfl, rfl⟩ | contradiction)
theorem Only.w_fw {v0 : Fw} (h : Only P s u) (h1 : P .fw) : Only P s { u with fw := v0 } :=
  h.with_ (fun p hp => by cases p <;> first | rfl | exact ⟨rfl, rfl, rfl⟩ | contradiction)
theorem Only.w_raised {v0 : List Entry} (h : Only P s u) (h1 : P .raised) : Only P s { u with raised := v0 } :=
  h.with_ (fun p hp => by cases p <;> first | rfl | exact ⟨rfl, rfl, rfl⟩ | contradiction)
theorem Only.w_freeCtr {v0 : Nat} (h : Only P s u) (h1 : P .freeCtr) : Only P s { u with freeCtr := v0 } :=
  h.with_ (fun p hp => by cases p <;> first | rfl | exact ⟨rfl, rfl, rfl⟩ | contradiction)
theorem Only.w_tbOff {v0 : Int} (h : Only P s u) (h1 : P .clock) : Only P s { u with tbOff := v0 } :=
  h.with_ (fun p hp => by cases p <;> first | rfl | exact ⟨rfl, rfl, rfl⟩ | contradiction)
theorem Only.w_flights_routes {v0 : List Flight} {v1 : List (Nat × Nat)} (h : Only P s u) (h1 : P .flights) (h2 : P .routes) : Only P s { u with flights := v0, routes := v1 } :=
  h.with_ (fun p hp => by cases p <;> first | rfl | exact ⟨rfl, rfl, rfl⟩ | contradiction)
theorem Only.w_jq_jdrop {v0 : List Entry} {v1 : Nat} (h : Only P s u) (h1 : P .jq) (h2 : P .jdrop) : Only P s { u with jq := v0, jdrop := v1 } :=
  h.with_ (fun p hp => by cases p <;> first | rfl | exact ⟨rfl, rfl, rfl⟩ | contradiction)
theorem Only.w_jq_jarr {v0 : List Entry} {v1 : Nat × Nat} (h : Only P s u) (h1 : P .jq) (h2 : P .jarr) : Only P s { u with jq := v0, jarr := v1 } :=
  h.with_ (fun p hp => by cases p <;> first | rfl | exact ⟨rfl, rfl, rfl⟩ | contradiction)
theorem Only.w_jq_jarr_jdrop {v0 : List Entry} {v1 : Nat × Nat} {v2 : Nat} (h : Only P s u) (h1 : P .jq) (h2 : P .jarr) (h3 : P .jdrop) : Only P s { u with jq := v0, jarr := v1, jdrop := v2 } :=
  h.with_ (fun p hp => by cases p <;> first | rfl | exact ⟨rfl, rfl, rfl⟩ | contradiction)
theorem Only.w_queue_flights {v0 : List AppReq} {v1 : List Flight} (h : Only P s u) (h1 : P .queue) (h2 : P .flights) : Only P s { u with queue := v0, flights := v1 } :=
  h.with_ (fun p hp => by cases p <;> first | rfl | exact ⟨rfl, rfl, rfl⟩ | contradiction)
theorem Only.w_sessions_best_bestAt {v0 : List Session} {v1 : Rat} {v2 : Nat} (h : Only P s u) (h1 : P .sessions) (h2 : P .best) (h3 : P .bestAt) : Only P s { u with sessions := v0, best := v1, bestAt := v2 } :=
  h.with_ (fun p hp => by cases p <;> first | rfl | exact ⟨rfl, rfl, rfl⟩ | contradiction)
theorem Only.w_sessions_freed_queue_flights_routes {v0 : List Session} {v1 : List (Nat × Nat)} {v2 : List AppReq} {v3 : List Flight} {v4 : List (Nat × Nat)} (h : Only P s u) (h1 : P .sessions) (h2 : P .freed) (h3 : P .queue) (h4 : P .flights) (h5 : P .routes) : Only P s { u with sessions := v0, freed := v1, queue := v2, flights := v3, routes := v4 } :=
  h.with_ (fun p hp => by cases p <;> first | rfl | exact ⟨rfl, rfl, rfl⟩ | contradiction)
theorem Only.w_txs_txUse {v0 : List Tx} {v1 : List (Nat × Nat)} (h : Only P s u) (h1 : P .txs) (h2 : P .txUse) : Only P s { u with txs := v0, txUse := v1 } :=
  h.with_ (fun p hp => by cases p <;> first | rfl | exact ⟨rfl, rfl, rfl⟩ | contradiction)
theorem Only.w_discAt_disc {v0 : Option Nat} {v1 : Bool} (h : Only P s u) (h1 : P .discAt) (h2 : P .disc) : Only P s { u with discAt := v0, disc := v1 } :=
  h.with_ (fun p hp => by cases p <;> first | rfl | exact ⟨rfl, rfl, rfl⟩ | contradiction)
theorem Only.w_images_confirming {v0 : List Image} {v1 : Option (Nat × List (Nat × Int))} (h : Only P s u) (h1 : P .images) (h2 : P .confirming) : Only P s { u with images := v0, confirming := v1 } :=
  h.with_ (fun p hp => by cases p <;> first | rfl | exact ⟨rfl, rfl, rfl⟩ | contradiction)
theorem Only.w_tbOff_tbFrac {v0 : Int} {v1 : Int} (h : Only P s u) (h1 : P .clock) : Only P s { u with tbOff := v0, tbFrac := v1 } :=
  h.with_ (fun p hp => by cases p <;> first | rfl | exact ⟨rfl, rfl, rfl⟩ | contradiction)
theorem Only.w_sessions_freed {v0 : List Session} {v1 : List (Nat × Nat)} (h : Only P s u) (h1 : P .sessions) (h2 : P .freed) : Only P s { u with sessions := v0, freed := v1 } :=
  h.with_ (fun p hp => by cases p <;> first | rfl | exact ⟨rfl, rfl, rfl⟩ | contradiction)

/-! ### The end of a command -/

theorem Only.settle (h : Only P s u) (h1 : ∀ a : Fin 4, P (.obj (A_SECTIONS a))) (h2 : ∀ a : Fin 4, P (.obj (A_CASCADE_SECTIONS a)))
    (h3 : ∀ a : Fin 4, P (.obj (A_EMERG_STATE a))) : Only P s u.settle :=
  h.each (fun a _ hv => ((hv.set (h1 a)).set (h2 a)).set (h3 a))

theorem Only.ends (h : Only (fun p => P p ∨ p ∈ ends) s u) : Frame P s u.settle := by
  have ha : ∀ (a : Fin 4) (k : Nat), k = A_SECTIONS a ∨ k = A_CASCADE_SECTIONS a ∨ k = A_EMERG_STATE a → Part.obj k ∈ Safety.ends := by
    intro a k hk
    refine List.mem_cons_of_mem _ (List.mem_cons_of_mem _ (List.mem_flatMap.mpr ⟨a, List.mem_finRange a, ?_⟩))
    rcases hk with rfl | rfl | rfl <;> simp
  exact h.settle (fun a => .inr (ha a _ (.inl rfl))) (fun a => .inr (ha a _ (.inr (.inl rfl)))) (fun a => .inr (ha a _ (.inr (.inr rfl))))

/-- The frame of a command that always has its effect. -/
theorem Frame.of_done {v : State} (h : done v = .next u) (hv : Only (fun p => P p ∨ p ∈ ends) s v) : Frame P s u := by
  cases h; exact hv.ends

/-- The frame of a happening on an island: that of its effect. -/
theorem Frame.of_runOn {i : Nat} {f : State → State} {v : State} (h : runOn i v f = .next u) (hv : Only (fun p => P p ∨ p ∈ ends) s v)
    (hf : Only (fun p => P p ∨ p ∈ ends) s (f v)) : Frame P s u :=
  Frame.of_done h (Only.ite (fun _ => hf) (fun _ => hv))

theorem Frame.of_runPowered {i : Nat} {f : State → State} {v : State} (h : runPowered i v f = .next u)
    (hv : Only (fun p => P p ∨ p ∈ ends) s v) (hf : Only (fun p => P p ∨ p ∈ ends) s (f v)) : Frame P s u :=
  Frame.of_done h (Only.ite (fun _ => hv) (fun _ => hf))

/-- A happening on an island that runs has its effect. -/
theorem runOn_on {i : Nat} {f : State → State} (h : runs s i = true) : runOn i s f = .next (f s).settle := by
  simp [runOn, done, h]

/-- A happening on an island that does not run has none. -/
theorem runOn_off {i : Nat} {f : State → State} (h : runs s i = false) : runOn i s f = .next s.settle := by
  simp [runOn, done, h]

theorem runPowered_on {i : Nat} {f : State → State} (h : s.nat (IS_STATE i) ≠ 3) : runPowered i s f = .next (f s).settle := by
  simp [runPowered, done, h]

end Sys2Proof.Safety
end

