-- ==== Sys2Proof/Laws/OnlyGate.lean ====
section
/-! SUPPORT. Frames of the operations of the store port, the gate pins, sections, Quench and PWM: the parts of the state that each may change. -/

set_option linter.all false

namespace Sys2Proof.Safety
open Sys2Proof.Machine Sys2Proof.Machine.Obj

variable {P : Part → Prop} {s u : State}

/-! ### Port -/

theorem State.countGrant_only {rq : Nat} {wait : Nat} (h : Only P s u) (h1 : P (.obj (ST_GRANTS rq))) (h2 : P (.obj ST_MAX_WAIT)) :
    Only P s (State.countGrant u rq wait) := by
  with_reducible
    unfold State.countGrant
    repeat' first | assumption | apply Only.set | apply Only.inc | apply Only.ite | intro _ | dsimp only | split

theorem State.portCycle_only (h : Only P s u) (h1 : ∀ (y1 : Nat), P (.obj (ST_GRANTS y1))) (h2 : P (.obj ST_MAX_WAIT)) (h3 : P (.obj ST_BUSY)) (h4 : P .port) :
    Only P s (State.portCycle u) := by
  with_reducible
    unfold State.portCycle
    repeat' first | assumption | apply Only.inc | apply State.countGrant_only | exact h1 _ | intro _ | exact Only.of_pair ‹_ = (_, _)› ‹_› | apply Only.of_pair ‹_ = (_, _)› | dsimp only | split | apply Only.w_port

theorem State.servePort_only {l : List (Nat × Nat)} (h : Only P s u) (h1 : P .port) (h2 : ∀ (y1 : Nat), P (.obj (ST_GRANTS y1))) (h3 : P (.obj ST_MAX_WAIT)) (h4 : P (.obj ST_BUSY)) :
    Only P s (State.servePort u l) := by
  with_reducible
    unfold State.servePort
    repeat' first | assumption | apply Only.each | apply State.portCycle_only | exact h2 _ | intro _ | dsimp only | split | apply Only.w_port

theorem State.transfers_only {rq : Nat} {n : Nat} (h : Only P s u) (h1 : P (.obj (ST_GRANTS rq))) (h2 : P (.obj ST_MAX_WAIT)) (h3 : P (.obj ST_BUSY)) (h4 : P .port) :
    Only P s (State.transfers u rq n) := by
  with_reducible
    unfold State.transfers
    repeat' first | assumption | apply Only.addCount | apply Only.ite | apply State.countGrant_only | intro _ | dsimp only | split | apply Only.w_port

theorem State.withdrawGrant_only {rq : Nat} (h : Only P s u) (h1 : P (.obj (ST_GRANTS rq))) (h2 : P (.obj ST_MAX_WAIT)) (h3 : P (.obj ST_DEAD_CYCLES)) (h4 : P .port) :
    Only P s (State.withdrawGrant u rq) := by
  with_reducible
    unfold State.withdrawGrant
    repeat' first | assumption | apply Only.inc | apply State.countGrant_only | intro _ | dsimp only | split | apply Only.w_port

/-! ### Flags -/

theorem State.jSeq_only {x : Fin 6} {detail : Nat} (h : Only P s u) (h1 : P .raised) :
    Only P s (State.jSeq u x detail) := by
  with_reducible
    unfold State.jSeq
    repeat' first | assumption | apply Only.journal | intro _ | dsimp only | split

theorem State.jPwm_only {x : Fin 6} {detail : Nat} {hbn : Nat} {refPeriod : Nat} {refPresc : Nat} (h : Only P s u) (h1 : P .raised) :
    Only P s (State.jPwm u x detail hbn refPeriod refPresc) := by
  with_reducible
    unfold State.jPwm
    repeat' first | assumption | apply Only.journal | intro _ | dsimp only | split

theorem State.jGate_only {n : Fin 18} {detail : Nat} {kind : Nat} {tsw : Nat} (h : Only P s u) (h1 : P .raised) :
    Only P s (State.jGate u n detail kind tsw) := by
  with_reducible
    unfold State.jGate
    repeat' first | assumption | apply Only.journal | apply Only.ite | intro _ | dsimp only | split

theorem State.jSecData_only {isl : Nat} {cls : Nat} {detail : Nat} {src : Nat} {x : Fin 6} {data : Bytes} (h : Only P s u) (h1 : P .raised) (h2 : P (.obj (S_Q_LAST ↑x))) :
    Only P s (State.jSecData u isl cls detail src x data) := by
  with_reducible
    unfold State.jSecData
    repeat' first | assumption | apply Only.set | apply Only.journal | intro _ | dsimp only | split

theorem State.jSectionAt_only {isl : Nat} {cls : Nat} {detail : Nat} {src : Nat} {x : Fin 6} {n : Option (Fin 18)} {before : Nat} (h : Only P s u) (h1 : P .raised) (h2 : P (.obj (S_Q_LAST ↑x))) :
    Only P s (State.jSectionAt u isl cls detail src x n before) := by
  with_reducible
    unfold State.jSectionAt
    repeat' first | assumption | apply State.jSecData_only | intro _ | exact Only.of_pair ‹_ = (_, _)› ‹_› | apply Only.of_pair ‹_ = (_, _)› | dsimp only | split

theorem State.jSection_only {cls : Nat} {detail : Nat} {src : Nat} {x : Fin 6} {n : Option (Fin 18)} {before : Nat} (h : Only P s u) (h1 : P .raised) (h2 : P (.obj (S_Q_LAST ↑x))) :
    Only P s (State.jSection u cls detail src x n before) := by
  with_reducible
    unfold State.jSection
    repeat' first | assumption | apply State.jSectionAt_only | intro _ | dsimp only | split

theorem State.jAxisAt_only {isl : Nat} {a : Fin 4} {detail : Nat} (h : Only P s u) (h1 : P .raised) :
    Only P s (State.jAxisAt u isl a detail) := by
  with_reducible
    unfold State.jAxisAt
    repeat' first | assumption | apply Only.journal | intro _ | dsimp only | split

theorem State.jAxis_only {a : Fin 4} {detail : Nat} (h : Only P s u) (h1 : P .raised) :
    Only P s (State.jAxis u a detail) := by
  with_reducible
    unfold State.jAxis
    repeat' first | assumption | apply State.jAxisAt_only | intro _ | dsimp only | split

theorem State.jDevice_only {detail : Nat} (h : Only P s u) (h1 : P .raised) :
    Only P s (State.jDevice u detail) := by
  with_reducible
    unfold State.jDevice
    repeat' first | assumption | apply Only.journal | intro _ | dsimp only | split

theorem State.jFus_only {a : Option (Fin 4)} {x : Option (Fin 6)} {dev : Nat} {err : Int} {detail : Nat} (h : Only P s u) (h1 : P .raised) :
    Only P s (State.jFus u a x dev err detail) := by
  with_reducible
    unfold State.jFus
    repeat' first | assumption | apply Only.journal | intro _ | exact Only.of_pair ‹_ = (_, _)› ‹_› | apply Only.of_pair ‹_ = (_, _)› | dsimp only | split

theorem State.jLoad_only {cls : Nat} {detail : Nat} {src : Nat} {a : Fin 4} (h : Only P s u) (h1 : P .raised) :
    Only P s (State.jLoad u cls detail src a) := by
  with_reducible
    unfold State.jLoad
    repeat' first | assumption | apply Only.journal | intro _ | dsimp only | split

theorem State.jMotion_only {cls : Nat} {isl : Nat} {detail : Nat} {src : Nat} {a : Option (Fin 4)} {e : Option (Fin 2)} {v : Int} (h : Only P s u) (h1 : P .raised) :
    Only P s (State.jMotion u cls isl detail src a e v) := by
  with_reducible
    unfold State.jMotion
    repeat' first | assumption | apply Only.journal | intro _ | exact Only.of_pair ‹_ = (_, _)› ‹_› | apply Only.of_pair ‹_ = (_, _)› | dsimp only | split

theorem State.jMode_only {a : Fin 4} {detail : Nat} {before : Nat} (h : Only P s u) (h1 : P .raised) :
    Only P s (State.jMode u a detail before) := by
  with_reducible
    unfold State.jMode
    repeat' first | assumption | apply Only.journal | intro _ | dsimp only | split

theorem State.jClock_only {cls : Nat} {isl : Nat} {detail : Nat} {src : Nat} {island : Nat} {step : Int} {dropped : Nat} (h : Only P s u) (h1 : P .raised) :
    Only P s (State.jClock u cls isl detail src island step dropped) := by
  with_reducible
    unfold State.jClock
    repeat' first | assumption | apply Only.journal | apply Only.ite | intro _ | dsimp only | split

theorem State.jClip_only {isl : Nat} {detail : Nat} {key : Nat} {requester : Nat} {asked : Int} {applied : Int} {readback : Nat} (h : Only P s u) (h1 : P .raised) (h2 : P (.obj SF_ANV_CLIPS)) :
    Only P s (State.jClip u isl detail key requester asked applied readback) := by
  with_reducible
    unfold State.jClip
    repeat' first | assumption | apply Only.inc | apply Only.journal | intro _ | dsimp only | split

/-! ### Domains -/

theorem State.modPower_only {f : Power → Power} (h : Only P s u) (h1 : P .power) :
    Only P s (State.modPower u f) := by
  with_reducible
    unfold State.modPower
    repeat' first | assumption | intro _ | dsimp only | split | apply Only.w_power

theorem State.syncQueue_only (h : Only P s u) (h1 : P (.obj PW_DAMP_QUEUE)) (h2 : P (.obj PW_DAMP_MAX_Q)) :
    Only P s (State.syncQueue u) := by
  with_reducible
    unfold State.syncQueue
    repeat' first | assumption | apply Only.set | intro _ | dsimp only | split

theorem State.queueDomain_only {d : Nat} (h : Only P s u) (h1 : P .power) (h2 : P (.obj (PW_DOM_STATE d))) (h3 : P (.obj PW_DAMP_QUEUE)) (h4 : P (.obj PW_DAMP_MAX_Q)) :
    Only P s (State.queueDomain u d) := by
  with_reducible
    unfold State.queueDomain
    repeat' first | assumption | apply Only.set | apply Only.ite | apply State.modPower_only | apply State.syncQueue_only | intro _ | dsimp only | split

theorem State.wake_only {d : Nat} (h : Only P s u) (h1 : P .power) (h2 : P (.obj (PW_DOM_STATE d))) (h3 : P (.obj PW_DAMP_QUEUE)) (h4 : P (.obj PW_DAMP_MAX_Q)) :
    Only P s (State.wake u d) := by
  with_reducible
    unfold State.wake
    repeat' first | assumption | apply Only.ite | apply State.queueDomain_only | intro _ | exact Only.of_pair ‹_ = (_, _)› ‹_› | apply Only.of_pair ‹_ = (_, _)› | dsimp only | split

theorem State.holdBack_only (h : Only P s u) (h1 : ∀ (y1 : Nat), P (.obj (PW_DOM_STATE y1))) (h2 : P .power) (h3 : P (.obj PW_DAMP_QUEUE)) (h4 : P (.obj PW_DAMP_MAX_Q)) :
    Only P s (State.holdBack u) := by
  with_reducible
    unfold State.holdBack
    repeat' first | assumption | apply Only.set | apply Only.each | apply State.modPower_only | apply State.syncQueue_only | exact h1 _ | intro _ | dsimp only | split

theorem State.sleep_only {d : Nat} (h : Only P s u) (h1 : P (.obj (PW_DOM_STATE d))) (h2 : P .power) (h3 : P (.obj PW_DAMP_QUEUE)) (h4 : P (.obj PW_DAMP_MAX_Q)) (h5 : ∀ (y1 : Nat), P (.obj (IS_STATE y1))) :
    Only P s (State.sleep u d) := by
  with_reducible
    unfold State.sleep
    repeat' first | assumption | apply Only.set | apply Only.ite | apply State.modPower_only | apply State.syncQueue_only | exact h5 _ | intro _ | exact Only.of_pair ‹_ = (_, _)› ‹_› | apply Only.of_pair ‹_ = (_, _)› | dsimp only | split

/-! ### Gate -/

theorem secOf_hbOf (x : Fin 6) (p : Fin 3) : secOf (hbOf x p) = x := by
  apply Fin.ext; simp only [secOf, hbOf]; omega

theorem State.expect_only {n : Fin 18} (h : Only P s u) (h1 : P (.hb n)) :
    Only P s (State.expect u n) := by
  with_reducible
    unfold State.expect
    repeat' first | assumption | apply Only.modHb | apply Only.ite | intro _ | dsimp only | split

theorem State.noteEdge_only {n : Fin 18} {code : Nat} (h : Only P s u) (h1 : P (.obj (S_GATE_I ↑n))) (h2 : P (.sec (secOf n))) :
    Only P s (State.noteEdge u n code) := by
  with_reducible
    unfold State.noteEdge
    repeat' first | assumption | apply Only.set | apply Only.modSec | intro _ | dsimp only | split

theorem State.issueOff_only {n : Fin 18} {high : Bool} {code : Nat} {measured : Bool} (h : Only P s u) (h1 : P (.hb n)) (h2 : P (.obj (S_GATE_I ↑n))) (h3 : P (.sec (secOf n))) :
    Only P s (State.issueOff u n high code measured) := by
  with_reducible
    unfold State.issueOff
    repeat' first | assumption | apply Only.modHb | apply Only.ite | apply State.expect_only | apply State.noteEdge_only | intro _ | dsimp only | split

theorem State.cancelOn_only {n : Fin 18} {high : Bool} (h : Only P s u) (h1 : P (.hb n)) :
    Only P s (State.cancelOn u n high) := by
  with_reducible
    unfold State.cancelOn
    repeat' first | assumption | apply Only.modHb | apply Only.ite | intro _ | exact Only.of_pair ‹_ = (_, _)› ‹_› | apply Only.of_pair ‹_ = (_, _)› | dsimp only | split

theorem State.commandOn_only {n : Fin 18} {high : Bool} (h : Only P s u) (h1 : P (.hb n)) :
    Only P s (State.commandOn u n high) := by
  with_reducible
    unfold State.commandOn
    repeat' first | assumption | apply Only.modHb | apply Only.ite | intro _ | exact Only.of_pair ‹_ = (_, _)› ‹_› | apply Only.of_pair ‹_ = (_, _)› | dsimp only | split

theorem State.toOff_only {n : Fin 18} {high : Bool} (h : Only P s u) (h1 : P (.hb n)) (h2 : P (.obj (S_GATE_I ↑n))) (h3 : P (.sec (secOf n))) :
    Only P s (State.toOff u n high) := by
  with_reducible
    unfold State.toOff
    repeat' first | assumption | apply Only.ite | apply State.cancelOn_only | apply State.issueOff_only | intro _ | dsimp only | split

theorem State.driveHb_only {n : Fin 18} (h : Only P s u) (h1 : P (.hb n)) (h2 : P (.obj (S_GATE_I ↑n))) (h3 : P (.sec (secOf n))) :
    Only P s (State.driveHb u n) := by
  with_reducible
    unfold State.driveHb
    repeat' first | assumption | apply Only.ite | apply State.commandOn_only | apply State.toOff_only | intro _ | exact Only.of_pair ‹_ = (_, _)› ‹_› | apply Only.of_pair ‹_ = (_, _)› | dsimp only | split

theorem State.cutOnTime_only {x : Fin 6} (h : Only P s u) (h1 : P (.sec x)) :
    Only P s (State.cutOnTime u x) := by
  with_reducible
    unfold State.cutOnTime
    repeat' first | assumption | apply Only.modPwm | apply Only.ite | intro _ | dsimp only | split

theorem State.drive_only {x : Fin 6} (h : Only P s u) (h1 : ∀ (y1 : Fin 3), P (.hb (hbOf x y1))) (h2 : ∀ (y1 : Fin 3), P (.obj (S_GATE_I ↑(hbOf x y1)))) (h3 : P (.sec x)) :
    Only P s (State.drive u x) := by
  with_reducible
    unfold State.drive
    repeat' first | assumption | apply Only.each | apply State.cutOnTime_only | apply State.driveHb_only | rw [secOf_hbOf] | exact h1 _ | exact h2 _ | intro _ | dsimp only | split

theorem State.allOff_only {x : Fin 6} (h : Only P s u) (h1 : ∀ (y1 : Fin 3), P (.hb (hbOf x y1))) (h2 : ∀ (y1 : Fin 3), P (.obj (S_GATE_I ↑(hbOf x y1)))) (h3 : P (.sec x)) :
    Only P s (State.allOff u x) := by
  with_reducible
    unfold State.allOff
    repeat' first | assumption | apply Only.each | apply Only.ite | apply State.toOff_only | rw [secOf_hbOf] | exact h1 _ | exact h2 _ | intro _ | dsimp only | split

/-! ### Section -/

theorem State.requestStop_only {a : Fin 4} {dec : Nat} (h : Only P s u) (h1 : P (.ax a)) :
    Only P s (State.requestStop u a dec) := by
  with_reducible
    unfold State.requestStop
    repeat' first | assumption | apply Only.modAx | apply Only.ite | intro _ | dsimp only | split

theorem State.followStop_only {a : Fin 4} (h : Only P s u) (h1 : P (.ax a)) :
    Only P s (State.followStop u a) := by
  with_reducible
    unfold State.followStop
    repeat' first | assumption | apply Only.modAx | intro _ | dsimp only | split

theorem State.enterLevelBy_only {a : Fin 4} {bit : Nat} {reaction : Nat} (h : Only P s u) (h1 : P (.ax a)) (h2 : P (.obj (A_FAULT_STATE ↑a))) :
    Only P s (State.enterLevelBy u a bit reaction) := by
  with_reducible
    unfold State.enterLevelBy
    repeat' first | assumption | apply Only.set | apply Only.modAx | apply Only.ite | apply State.followStop_only | apply State.requestStop_only | intro _ | dsimp only | split

theorem State.enterLevel_only {a : Fin 4} {bit : Nat} (h : Only P s u) (h1 : P (.ax a)) (h2 : P (.obj (A_FAULT_STATE ↑a))) :
    Only P s (State.enterLevel u a bit) := by
  with_reducible
    unfold State.enterLevel
    repeat' first | assumption | apply State.enterLevelBy_only | intro _ | dsimp only | split

theorem State.leaveLevel_only {a : Fin 4} {bit : Nat} (h : Only P s u) (h1 : P (.ax a)) (h2 : P (.obj (A_FAULT_STATE ↑a))) :
    Only P s (State.leaveLevel u a bit) := by
  with_reducible
    unfold State.leaveLevel
    repeat' first | assumption | apply Only.set | apply Only.modAx | apply Only.ite | intro _ | dsimp only | split

theorem State.checkAxis_only {a : Fin 4} (h : Only P s u) (h1 : P (.ax a)) (h2 : P .raised) (h3 : P (.obj (A_FAULT_STATE ↑a))) :
    Only P s (State.checkAxis u a) := by
  with_reducible
    unfold State.checkAxis
    repeat' first | assumption | apply Only.modAx | apply Only.journal | apply Only.ite | apply State.enterLevel_only | apply State.jAxis_only | apply State.leaveLevel_only | intro _ | dsimp only | split

theorem State.countsOf_only {a : Fin 4} (h : Only P s u) (h1 : P (.obj (A_SECTIONS ↑a))) (h2 : P (.obj (A_CASCADE_SECTIONS ↑a))) :
    Only P s (State.countsOf u a) := by
  with_reducible
    unfold State.countsOf
    repeat' first | assumption | apply Only.set | apply Only.ite | intro _ | dsimp only | split | apply Only.foldl | apply Only.foldl_pair

theorem State.recount_only (h : Only P s u) (h1 : ∀ (y1 : Fin 4), P (.obj (A_SECTIONS ↑y1))) (h2 : ∀ (y1 : Fin 4), P (.obj (A_CASCADE_SECTIONS ↑y1))) (h3 : ∀ (y1 : Fin 4), P (.ax y1)) (h4 : P .raised) (h5 : ∀ (y1 : Fin 4), P (.obj (A_FAULT_STATE ↑y1))) :
    Only P s (State.recount u) := by
  with_reducible
    unfold State.recount
    repeat' first | assumption | apply Only.each | apply State.checkAxis_only | apply State.countsOf_only | exact h1 _ | exact h2 _ | exact h3 _ | exact h5 _ | intro _ | dsimp only | split

theorem State.setSecState_only {x : Fin 6} {v : Nat} (h : Only P s u) (h1 : P (.obj (S_STATE ↑x))) (h2 : P (.obj (S_DEG_PHASE ↑x))) (h3 : P (.obj (S_STEP ↑x))) (h4 : P (.obj (S_FUS_STATE ↑x))) (h5 : P (.sec x)) (h6 : P (.obj (S_LOCK_STATE ↑x))) :
    Only P s (State.setSecState u x v) := by
  with_reducible
    unfold State.setSecState
    repeat' first | assumption | apply Only.set | apply Only.modSec | apply Only.ite | intro _ | dsimp only | split

theorem State.enterStep_only {x : Fin 6} {k : Nat} (h : Only P s u) (h1 : P (.obj (S_STEP ↑x))) (h2 : P (.obj (S_COMM_COUNT ↑x))) (h3 : P (.obj (S_LOCK_STATE ↑x))) (h4 : P (.sec x)) (h5 : ∀ (y1 : Fin 3), P (.hb (hbOf x y1))) (h6 : ∀ (y1 : Fin 3), P (.obj (S_GATE_I ↑(hbOf x y1)))) :
    Only P s (State.enterStep u x k) := by
  with_reducible
    unfold State.enterStep
    repeat' first | assumption | apply Only.set | apply Only.inc | apply Only.modSec | apply Only.modPwm | apply Only.ite | apply State.drive_only | exact h5 _ | exact h6 _ | intro _ | exact Only.of_pair ‹_ = (_, _)› ‹_› | apply Only.of_pair ‹_ = (_, _)› | dsimp only | split

theorem State.refreshDone_only {n : Fin 18} (h : Only P s u) (h1 : P (.obj S_BLW_ACTIVE)) (h2 : P (.hb n)) :
    Only P s (State.refreshDone u n) := by
  with_reducible
    unfold State.refreshDone
    repeat' first | assumption | apply Only.set | apply Only.modHb | intro _ | dsimp only | split

theorem State.endWaits_only {n : Fin 18} (h : Only P s u) (h1 : P (.obj S_BLW_ACTIVE)) (h2 : P (.hb n)) (h3 : P (.sec (secOf n))) :
    Only P s (State.endWaits u n) := by
  with_reducible
    unfold State.endWaits
    repeat' first | assumption | apply Only.modHb | apply Only.modPwm | apply Only.ite | apply State.refreshDone_only | intro _ | dsimp only | split

theorem State.dropPulse_only {n : Fin 18} (h : Only P s u) (h1 : P (.hb n)) (h2 : P (.obj S_BLW_ACTIVE)) :
    Only P s (State.dropPulse u n) := by
  with_reducible
    unfold State.dropPulse
    repeat' first | assumption | apply Only.ite | apply State.cancelOn_only | apply State.refreshDone_only | intro _ | dsimp only | split

theorem State.joinFail_only {x : Fin 6} (h : Only P s u) (h1 : P (.obj (S_ENABLE ↑x))) (h2 : ∀ (y1 : Fin 3), P (.hb (hbOf x y1))) (h3 : P (.obj S_BLW_ACTIVE)) (h4 : P (.sec x)) (h5 : ∀ (y1 : Fin 3), P (.obj (S_GATE_I ↑(hbOf x y1)))) (h6 : P (.obj (S_STATE ↑x))) (h7 : P (.obj (S_DEG_PHASE ↑x))) (h8 : P (.obj (S_STEP ↑x))) (h9 : P (.obj (S_FUS_STATE ↑x))) (h10 : P (.obj (S_LOCK_STATE ↑x))) (h11 : P .raised) (h12 : ∀ (y1 : Fin 4), P (.obj (A_SECTIONS ↑y1))) (h13 : ∀ (y1 : Fin 4), P (.obj (A_CASCADE_SECTIONS ↑y1))) (h14 : ∀ (y1 : Fin 4), P (.ax y1)) (h15 : ∀ (y1 : Fin 4), P (.obj (A_FAULT_STATE ↑y1))) :
    Only P s (State.joinFail u x) := by
  with_reducible
    unfold State.joinFail
    repeat' first | assumption | apply Only.set | apply Only.modSec | apply Only.each | apply Only.ite | apply State.allOff_only | apply State.dropPulse_only | apply State.jSeq_only | apply State.recount_only | apply State.setSecState_only | rw [secOf_hbOf] | exact h2 _ | exact h5 _ | exact h12 _ | exact h13 _ | exact h14 _ | exact h15 _ | intro _ | dsimp only | split

theorem State.enableOne_only {x : Fin 6} (h : Only P s u) (h1 : P (.obj (S_ENABLE ↑x))) (h2 : P (.sec x)) (h3 : ∀ (y1 : Fin 3), P (.hb (hbOf x y1))) (h4 : P (.obj S_BLW_ACTIVE)) (h5 : ∀ (y1 : Fin 3), P (.obj (S_GATE_I ↑(hbOf x y1)))) (h6 : P (.obj (S_STATE ↑x))) (h7 : P (.obj (S_DEG_PHASE ↑x))) (h8 : P (.obj (S_STEP ↑x))) (h9 : P (.obj (S_FUS_STATE ↑x))) (h10 : P (.obj (S_LOCK_STATE ↑x))) (h11 : P .raised) (h12 : ∀ (y1 : Fin 4), P (.obj (A_SECTIONS ↑y1))) (h13 : ∀ (y1 : Fin 4), P (.obj (A_CASCADE_SECTIONS ↑y1))) (h14 : ∀ (y1 : Fin 4), P (.ax y1)) (h15 : ∀ (y1 : Fin 4), P (.obj (A_FAULT_STATE ↑y1))) :
    Only P s (State.enableOne u x) := by
  with_reducible
    unfold State.enableOne
    repeat' first | assumption | apply Only.set | apply Only.modSec | apply Only.ite | apply State.joinFail_only | exact h3 _ | exact h5 _ | exact h12 _ | exact h13 _ | exact h14 _ | exact h15 _ | intro _ | exact Only.of_pair ‹_ = (_, _)› ‹_› | apply Only.of_pair ‹_ = (_, _)› | dsimp only | split

theorem State.enableZero_only {x : Fin 6} (h : Only P s u) (h1 : P (.obj (S_ENABLE ↑x))) (h2 : ∀ (y1 : Fin 3), P (.hb (hbOf x y1))) (h3 : P (.obj S_BLW_ACTIVE)) (h4 : P (.sec x)) (h5 : ∀ (y1 : Fin 3), P (.obj (S_GATE_I ↑(hbOf x y1)))) (h6 : P (.obj (S_STATE ↑x))) (h7 : P (.obj (S_DEG_PHASE ↑x))) (h8 : P (.obj (S_STEP ↑x))) (h9 : P (.obj (S_FUS_STATE ↑x))) (h10 : P (.obj (S_LOCK_STATE ↑x))) (h11 : P .raised) (h12 : ∀ (y1 : Fin 4), P (.obj (A_SECTIONS ↑y1))) (h13 : ∀ (y1 : Fin 4), P (.obj (A_CASCADE_SECTIONS ↑y1))) (h14 : ∀ (y1 : Fin 4), P (.ax y1)) (h15 : ∀ (y1 : Fin 4), P (.obj (A_FAULT_STATE ↑y1))) :
    Only P s (State.enableZero u x) := by
  with_reducible
    unfold State.enableZero
    repeat' first | assumption | apply Only.set | apply Only.modSec | apply Only.ite | apply State.joinFail_only | exact h2 _ | exact h5 _ | exact h12 _ | exact h13 _ | exact h14 _ | exact h15 _ | intro _ | exact Only.of_pair ‹_ = (_, _)› ‹_› | apply Only.of_pair ‹_ = (_, _)› | dsimp only | split

theorem State.refreshBegin_only {n : Fin 18} {pre : Bool} (h : Only P s u) (h1 : P (.obj S_BLW_ACTIVE)) (h2 : P (.obj (S_BLW_COUNT ↑n))) (h3 : P (.hb n)) :
    Only P s (State.refreshBegin u n pre) := by
  with_reducible
    unfold State.refreshBegin
    repeat' first | assumption | apply Only.addCount | apply Only.inc | apply Only.modHb | apply Only.ite | apply State.commandOn_only | intro _ | dsimp only | split

theorem State.prechargePulse_only {x : Fin 6} (h : Only P s u) (h1 : P (.sec x)) (h2 : P (.obj S_BLW_ACTIVE)) (h3 : ∀ (y1 : Fin 18), P (.obj (S_BLW_COUNT ↑y1))) (h4 : ∀ (y1 : Fin 18), P (.hb y1)) :
    Only P s (State.prechargePulse u x) := by
  with_reducible
    unfold State.prechargePulse
    repeat' first | assumption | apply Only.modSec | apply Only.ite | apply State.refreshBegin_only | rw [secOf_hbOf] | exact h3 _ | exact h4 _ | intro _ | exact Only.of_pair ‹_ = (_, _)› ‹_› | apply Only.of_pair ‹_ = (_, _)› | dsimp only | split

theorem State.watchLevel_only {n : Fin 18} (h : Only P s u) (h1 : P (.hb n)) :
    Only P s (State.watchLevel u n) := by
  with_reducible
    unfold State.watchLevel
    repeat' first | assumption | apply Only.modHb | apply Only.ite | intro _ | dsimp only | split

theorem State.startPrecharge_only {x : Fin 6} (h : Only P s u) (h1 : P (.sec x)) (h2 : P (.obj S_BLW_ACTIVE)) (h3 : ∀ (y1 : Fin 18), P (.obj (S_BLW_COUNT ↑y1))) (h4 : ∀ (y1 : Fin 18), P (.hb y1)) :
    Only P s (State.startPrecharge u x) := by
  with_reducible
    unfold State.startPrecharge
    repeat' first | assumption | apply Only.modSec | apply Only.each | apply State.prechargePulse_only | apply State.watchLevel_only | rw [secOf_hbOf] | exact h3 _ | exact h4 _ | intro _ | dsimp only | split

theorem State.prechargeNext_only {n : Fin 18} (h : Only P s u) (h1 : P (.sec (secOf n))) :
    Only P s (State.prechargeNext u n) := by
  with_reducible
    unfold State.prechargeNext
    repeat' first | assumption | apply Only.modSec | apply Only.ite | intro _ | dsimp only | split

/-! ### Quench -/

theorem State.quenchHb_only {n : Fin 18} {cause : Nat} (h : Only P s u) (h1 : P (.obj S_BLW_ACTIVE)) (h2 : P (.hb n)) (h3 : P (.sec (secOf n))) (h4 : P (.obj (S_GATE_I ↑n))) :
    Only P s (State.quenchHb u n cause) := by
  with_reducible
    unfold State.quenchHb
    repeat' first | assumption | apply Only.modHb | apply Only.modPwm | apply Only.ite | apply State.endWaits_only | apply State.issueOff_only | intro _ | dsimp only | split

theorem State.tripHb_only {n : Fin 18} {cause : Nat} (h : Only P s u) (h1 : P (.obj S_BLW_ACTIVE)) (h2 : P (.hb n)) (h3 : P (.sec (secOf n))) (h4 : P (.obj (S_GATE_I ↑n))) (h5 : P (.obj (S_Q_LATCH ↑(secOf n)))) (h6 : P (.obj (S_Q_CAUSE ↑n))) (h7 : P (.obj (S_Q_COUNT ↑n))) (h8 : P (.obj (S_Q_TRIPS ↑(secOf n)))) :
    Only P s (State.tripHb u n cause) := by
  with_reducible
    unfold State.tripHb
    repeat' first | assumption | apply Only.inc | apply Only.orBits | apply Only.modHb | apply Only.ite | apply State.quenchHb_only | intro _ | dsimp only | split

theorem State.isolateQuiet_only {x : Fin 6} (h : Only P s u) (h1 : P (.sec x)) (h2 : P (.obj S_BLW_ACTIVE)) (h3 : ∀ (y1 : Fin 3), P (.hb (hbOf x y1))) (h4 : ∀ (y1 : Fin 3), P (.obj (S_GATE_I ↑(hbOf x y1)))) (h5 : P (.obj (S_ENABLE ↑x))) (h6 : P (.obj (S_STATE ↑x))) (h7 : P (.obj (S_DEG_PHASE ↑x))) (h8 : P (.obj (S_STEP ↑x))) (h9 : P (.obj (S_FUS_STATE ↑x))) (h10 : P (.obj (S_LOCK_STATE ↑x))) :
    Only P s (State.isolateQuiet u x) := by
  with_reducible
    unfold State.isolateQuiet
    repeat' first | assumption | apply Only.set | apply Only.modSec | apply Only.each | apply Only.ite | apply State.quenchHb_only | apply State.setSecState_only | rw [secOf_hbOf] | exact h3 _ | exact h4 _ | intro _ | dsimp only | split

theorem State.isolateCore_only {isl : Nat} {x : Fin 6} {detail : Nat} (h : Only P s u) (h1 : P (.sec x)) (h2 : P (.obj S_BLW_ACTIVE)) (h3 : ∀ (y1 : Fin 3), P (.hb (hbOf x y1))) (h4 : ∀ (y1 : Fin 3), P (.obj (S_GATE_I ↑(hbOf x y1)))) (h5 : P (.obj (S_ENABLE ↑x))) (h6 : P (.obj (S_STATE ↑x))) (h7 : P (.obj (S_DEG_PHASE ↑x))) (h8 : P (.obj (S_STEP ↑x))) (h9 : P (.obj (S_FUS_STATE ↑x))) (h10 : P (.obj (S_LOCK_STATE ↑x))) (h11 : P .raised) (h12 : P (.obj (S_Q_LAST ↑x))) :
    Only P s (State.isolateCore u isl x detail) := by
  with_reducible
    unfold State.isolateCore
    repeat' first | assumption | apply State.isolateQuiet_only | apply State.jSectionAt_only | exact h3 _ | exact h4 _ | intro _ | dsimp only | split

theorem State.deviceFault_only {bit : Nat} {detail : Nat} (h : Only P s u) (h1 : P (.obj S_BLW_ACTIVE)) (h2 : ∀ (y1 : Fin 18), P (.hb y1)) (h3 : ∀ (y1 : Fin 18), P (.obj (S_GATE_I ↑y1))) (h4 : ∀ (y1 : Fin 6), P (.sec y1)) (h5 : ∀ (y1 : Fin 6), P (.obj (S_ENABLE ↑y1))) (h6 : ∀ (y1 : Fin 6), P (.obj (S_STATE ↑y1))) (h7 : ∀ (y1 : Fin 6), P (.obj (S_DEG_PHASE ↑y1))) (h8 : ∀ (y1 : Fin 6), P (.obj (S_STEP ↑y1))) (h9 : ∀ (y1 : Fin 6), P (.obj (S_FUS_STATE ↑y1))) (h10 : ∀ (y1 : Fin 6), P (.obj (S_LOCK_STATE ↑y1))) (h11 : P .raised) (h12 : ∀ (y1 : Fin 6), P (.obj (S_Q_LAST ↑y1))) (h13 : ∀ (y1 : Fin 4), P (.obj (A_SECTIONS ↑y1))) (h14 : ∀ (y1 : Fin 4), P (.obj (A_CASCADE_SECTIONS ↑y1))) (h15 : ∀ (y1 : Fin 4), P (.ax y1)) (h16 : ∀ (y1 : Fin 4), P (.obj (A_FAULT_STATE ↑y1))) (h17 : P (.obj S_DEV_FAULT)) :
    Only P s (State.deviceFault u bit detail) := by
  with_reducible
    unfold State.deviceFault
    repeat' first | assumption | apply Only.orBits | apply Only.each | apply Only.ite | apply State.isolateCore_only | apply State.jDevice_only | apply State.joinFail_only | apply State.quenchHb_only | apply State.recount_only | exact h2 _ | exact h3 _ | exact h4 _ | exact h5 _ | exact h6 _ | exact h7 _ | exact h8 _ | exact h9 _ | exact h10 _ | exact h12 _ | exact h13 _ | exact h14 _ | exact h15 _ | exact h16 _ | intro _ | dsimp only | split

theorem State.checkDevice_only (h : Only P s u) (h1 : P (.obj S_BLW_ACTIVE)) (h2 : ∀ (y1 : Fin 18), P (.hb y1)) (h3 : ∀ (y1 : Fin 18), P (.obj (S_GATE_I ↑y1))) (h4 : ∀ (y1 : Fin 6), P (.sec y1)) (h5 : ∀ (y1 : Fin 6), P (.obj (S_ENABLE ↑y1))) (h6 : ∀ (y1 : Fin 6), P (.obj (S_STATE ↑y1))) (h7 : ∀ (y1 : Fin 6), P (.obj (S_DEG_PHASE ↑y1))) (h8 : ∀ (y1 : Fin 6), P (.obj (S_STEP ↑y1))) (h9 : ∀ (y1 : Fin 6), P (.obj (S_FUS_STATE ↑y1))) (h10 : ∀ (y1 : Fin 6), P (.obj (S_LOCK_STATE ↑y1))) (h11 : P .raised) (h12 : ∀ (y1 : Fin 6), P (.obj (S_Q_LAST ↑y1))) (h13 : ∀ (y1 : Fin 4), P (.obj (A_SECTIONS ↑y1))) (h14 : ∀ (y1 : Fin 4), P (.obj (A_CASCADE_SECTIONS ↑y1))) (h15 : ∀ (y1 : Fin 4), P (.ax y1)) (h16 : ∀ (y1 : Fin 4), P (.obj (A_FAULT_STATE ↑y1))) (h17 : P (.obj S_DEV_FAULT)) :
    Only P s (State.checkDevice u) := by
  with_reducible
    unfold State.checkDevice
    repeat' first | assumption | apply Only.ite | apply State.deviceFault_only | exact h2 _ | exact h3 _ | exact h4 _ | exact h5 _ | exact h6 _ | exact h7 _ | exact h8 _ | exact h9 _ | exact h10 _ | exact h12 _ | exact h13 _ | exact h14 _ | exact h15 _ | exact h16 _ | intro _ | dsimp only | split

theorem State.isolateAt_only {isl : Nat} {x : Fin 6} {detail : Nat} (h : Only P s u) (h1 : P (.obj S_BLW_ACTIVE)) (h2 : P .raised) (h3 : ∀ (y1 : Fin 4), P (.obj (A_SECTIONS ↑y1))) (h4 : ∀ (y1 : Fin 4), P (.obj (A_CASCADE_SECTIONS ↑y1))) (h5 : ∀ (y1 : Fin 4), P (.ax y1)) (h6 : ∀ (y1 : Fin 4), P (.obj (A_FAULT_STATE ↑y1))) (h7 : ∀ (y1 : Fin 18), P (.hb y1)) (h8 : ∀ (y1 : Fin 18), P (.obj (S_GATE_I ↑y1))) (h9 : ∀ (y1 : Fin 6), P (.sec y1)) (h10 : ∀ (y1 : Fin 6), P (.obj (S_ENABLE ↑y1))) (h11 : ∀ (y1 : Fin 6), P (.obj (S_STATE ↑y1))) (h12 : ∀ (y1 : Fin 6), P (.obj (S_DEG_PHASE ↑y1))) (h13 : ∀ (y1 : Fin 6), P (.obj (S_STEP ↑y1))) (h14 : ∀ (y1 : Fin 6), P (.obj (S_FUS_STATE ↑y1))) (h15 : ∀ (y1 : Fin 6), P (.obj (S_LOCK_STATE ↑y1))) (h16 : ∀ (y1 : Fin 6), P (.obj (S_Q_LAST ↑y1))) (h17 : P (.obj S_DEV_FAULT)) :
    Only P s (State.isolateAt u isl x detail) := by
  with_reducible
    unfold State.isolateAt
    repeat' first | assumption | apply Only.ite | apply State.checkDevice_only | apply State.isolateCore_only | apply State.recount_only | exact h3 _ | exact h4 _ | exact h5 _ | exact h6 _ | exact h7 _ | exact h8 _ | exact h9 _ | exact h10 _ | exact h11 _ | exact h12 _ | exact h13 _ | exact h14 _ | exact h15 _ | exact h16 _ | intro _ | dsimp only | split

theorem State.isolate_only {x : Fin 6} {detail : Nat} (h : Only P s u) (h1 : P (.obj S_BLW_ACTIVE)) (h2 : P .raised) (h3 : ∀ (y1 : Fin 4), P (.obj (A_SECTIONS ↑y1))) (h4 : ∀ (y1 : Fin 4), P (.obj (A_CASCADE_SECTIONS ↑y1))) (h5 : ∀ (y1 : Fin 4), P (.ax y1)) (h6 : ∀ (y1 : Fin 4), P (.obj (A_FAULT_STATE ↑y1))) (h7 : ∀ (y1 : Fin 18), P (.hb y1)) (h8 : ∀ (y1 : Fin 18), P (.obj (S_GATE_I ↑y1))) (h9 : ∀ (y1 : Fin 6), P (.sec y1)) (h10 : ∀ (y1 : Fin 6), P (.obj (S_ENABLE ↑y1))) (h11 : ∀ (y1 : Fin 6), P (.obj (S_STATE ↑y1))) (h12 : ∀ (y1 : Fin 6), P (.obj (S_DEG_PHASE ↑y1))) (h13 : ∀ (y1 : Fin 6), P (.obj (S_STEP ↑y1))) (h14 : ∀ (y1 : Fin 6), P (.obj (S_FUS_STATE ↑y1))) (h15 : ∀ (y1 : Fin 6), P (.obj (S_LOCK_STATE ↑y1))) (h16 : ∀ (y1 : Fin 6), P (.obj (S_Q_LAST ↑y1))) (h17 : P (.obj S_DEV_FAULT)) :
    Only P s (State.isolate u x detail) := by
  with_reducible
    unfold State.isolate
    repeat' first | assumption | apply State.isolateAt_only | exact h3 _ | exact h4 _ | exact h5 _ | exact h6 _ | exact h7 _ | exact h8 _ | exact h9 _ | exact h10 _ | exact h11 _ | exact h12 _ | exact h13 _ | exact h14 _ | exact h15 _ | exact h16 _ | intro _ | dsimp only | split

theorem State.isolateOne_only {x : Fin 6} {isl : Nat} {detail : Nat} {src : Nat} {island : Nat} (h : Only P s u) (h1 : P (.sec x)) (h2 : P (.obj S_BLW_ACTIVE)) (h3 : ∀ (y1 : Fin 3), P (.hb (hbOf x y1))) (h4 : ∀ (y1 : Fin 3), P (.obj (S_GATE_I ↑(hbOf x y1)))) (h5 : P (.obj (S_ENABLE ↑x))) (h6 : P (.obj (S_STATE ↑x))) (h7 : P (.obj (S_DEG_PHASE ↑x))) (h8 : P (.obj (S_STEP ↑x))) (h9 : P (.obj (S_FUS_STATE ↑x))) (h10 : P (.obj (S_LOCK_STATE ↑x))) (h11 : ∀ (y1 : Fin 4), P (.obj (A_SECTIONS ↑y1))) (h12 : ∀ (y1 : Fin 4), P (.obj (A_CASCADE_SECTIONS ↑y1))) (h13 : ∀ (y1 : Fin 4), P (.ax y1)) (h14 : P .raised) (h15 : ∀ (y1 : Fin 4), P (.obj (A_FAULT_STATE ↑y1))) (h16 : P (.obj (S_Q_LAST ↑x))) :
    Only P s (State.isolateOne u x isl detail src island) := by
  with_reducible
    unfold State.isolateOne
    repeat' first | assumption | apply Only.set | apply Only.modSec | apply Only.ite | apply State.isolateQuiet_only | apply State.jClock_only | apply State.recount_only | exact h3 _ | exact h4 _ | exact h11 _ | exact h12 _ | exact h13 _ | exact h15 _ | intro _ | dsimp only | split

theorem State.isolateHeld_only {l : List (Fin 6)} {isl : Nat} {detail : Nat} {src : Nat} {island : Nat} (h : Only P s u) (h1 : ∀ (y1 : Fin 6), P (.sec y1)) (h2 : P (.obj S_BLW_ACTIVE)) (h3 : ∀ (y1 : Fin 6), P (.obj (S_ENABLE ↑y1))) (h4 : ∀ (y1 : Fin 6), P (.obj (S_STATE ↑y1))) (h5 : ∀ (y1 : Fin 6), P (.obj (S_DEG_PHASE ↑y1))) (h6 : ∀ (y1 : Fin 6), P (.obj (S_STEP ↑y1))) (h7 : ∀ (y1 : Fin 6), P (.obj (S_FUS_STATE ↑y1))) (h8 : ∀ (y1 : Fin 6), P (.obj (S_LOCK_STATE ↑y1))) (h9 : ∀ (y1 : Fin 4), P (.obj (A_SECTIONS ↑y1))) (h10 : ∀ (y1 : Fin 4), P (.obj (A_CASCADE_SECTIONS ↑y1))) (h11 : ∀ (y1 : Fin 4), P (.ax y1)) (h12 : P .raised) (h13 : ∀ (y1 : Fin 4), P (.obj (A_FAULT_STATE ↑y1))) (h14 : ∀ (y1 : Fin 6), P (.obj (S_Q_LAST ↑y1))) (h15 : ∀ (y1 : Fin 18), P (.hb y1)) (h16 : ∀ (y1 : Fin 18), P (.obj (S_GATE_I ↑y1))) (h17 : P (.obj S_DEV_FAULT)) :
    Only P s (State.isolateHeld u l isl detail src island) := by
  with_reducible
    unfold State.isolateHeld
    repeat' first | assumption | apply Only.each | apply State.checkDevice_only | apply State.isolateOne_only | exact h1 _ | exact h3 _ | exact h4 _ | exact h5 _ | exact h6 _ | exact h7 _ | exact h8 _ | exact h9 _ | exact h10 _ | exact h11 _ | exact h13 _ | exact h14 _ | exact h15 _ | exact h16 _ | intro _ | dsimp only | split

theorem State.jFw_only {cls : Nat} {isl : Nat} {detail : Nat} {src : Nat} {bank : Nat} {row : Nat} {island : Nat} {version : Nat} {value : Nat} {n : Nat} (h : Only P s u) (h1 : P .raised) :
    Only P s (State.jFw u cls isl detail src bank row island version value n) := by
  with_reducible
    unfold State.jFw
    repeat' first | assumption | apply Only.journal | intro _ | dsimp only | split

theorem State.selfTestFail_only {x : Fin 6} {check : Nat} {island : Nat} {value : Nat} (h : Only P s u) (h1 : P (.obj FW_ST_FAILS)) (h2 : P .raised) (h3 : ∀ (y1 : Fin 6), P (.sec y1)) (h4 : P (.obj S_BLW_ACTIVE)) (h5 : ∀ (y1 : Fin 6), P (.obj (S_ENABLE ↑y1))) (h6 : ∀ (y1 : Fin 6), P (.obj (S_STATE ↑y1))) (h7 : ∀ (y1 : Fin 6), P (.obj (S_DEG_PHASE ↑y1))) (h8 : ∀ (y1 : Fin 6), P (.obj (S_STEP ↑y1))) (h9 : ∀ (y1 : Fin 6), P (.obj (S_FUS_STATE ↑y1))) (h10 : ∀ (y1 : Fin 6), P (.obj (S_LOCK_STATE ↑y1))) (h11 : ∀ (y1 : Fin 4), P (.obj (A_SECTIONS ↑y1))) (h12 : ∀ (y1 : Fin 4), P (.obj (A_CASCADE_SECTIONS ↑y1))) (h13 : ∀ (y1 : Fin 4), P (.ax y1)) (h14 : ∀ (y1 : Fin 4), P (.obj (A_FAULT_STATE ↑y1))) (h15 : ∀ (y1 : Fin 6), P (.obj (S_Q_LAST ↑y1))) (h16 : ∀ (y1 : Fin 18), P (.hb y1)) (h17 : ∀ (y1 : Fin 18), P (.obj (S_GATE_I ↑y1))) (h18 : P (.obj S_DEV_FAULT)) :
    Only P s (State.selfTestFail u x check island value) := by
  with_reducible
    unfold State.selfTestFail
    repeat' first | assumption | apply Only.inc | apply State.isolateHeld_only | apply State.jFw_only | exact h3 _ | exact h5 _ | exact h6 _ | exact h7 _ | exact h8 _ | exact h9 _ | exact h10 _ | exact h11 _ | exact h12 _ | exact h13 _ | exact h14 _ | exact h15 _ | exact h16 _ | exact h17 _ | intro _ | dsimp only | split

theorem State.sectionOutcome_only {x : Fin 6} {k : Nat} {p : Fin 3} {detail : Nat} (h : Only P s u) (h1 : P (.obj S_BLW_ACTIVE)) (h2 : P .raised) (h3 : ∀ (y1 : Fin 4), P (.obj (A_SECTIONS ↑y1))) (h4 : ∀ (y1 : Fin 4), P (.obj (A_CASCADE_SECTIONS ↑y1))) (h5 : ∀ (y1 : Fin 4), P (.ax y1)) (h6 : ∀ (y1 : Fin 4), P (.obj (A_FAULT_STATE ↑y1))) (h7 : ∀ (y1 : Fin 18), P (.hb y1)) (h8 : ∀ (y1 : Fin 18), P (.obj (S_GATE_I ↑y1))) (h9 : ∀ (y1 : Fin 6), P (.sec y1)) (h10 : ∀ (y1 : Fin 6), P (.obj (S_ENABLE ↑y1))) (h11 : ∀ (y1 : Fin 6), P (.obj (S_STATE ↑y1))) (h12 : ∀ (y1 : Fin 6), P (.obj (S_DEG_PHASE ↑y1))) (h13 : ∀ (y1 : Fin 6), P (.obj (S_STEP ↑y1))) (h14 : ∀ (y1 : Fin 6), P (.obj (S_FUS_STATE ↑y1))) (h15 : ∀ (y1 : Fin 6), P (.obj (S_LOCK_STATE ↑y1))) (h16 : ∀ (y1 : Fin 6), P (.obj (S_Q_LAST ↑y1))) (h17 : P (.obj S_DEV_FAULT)) :
    Only P s (State.sectionOutcome u x k p detail) := by
  with_reducible
    unfold State.sectionOutcome
    repeat' first | assumption | apply Only.modSec | apply Only.ite | apply State.isolate_only | apply State.joinFail_only | exact h3 _ | exact h4 _ | exact h5 _ | exact h6 _ | exact h7 _ | exact h8 _ | exact h9 _ | exact h10 _ | exact h11 _ | exact h12 _ | exact h13 _ | exact h14 _ | exact h15 _ | exact h16 _ | intro _ | dsimp only | split

theorem State.trip_only {x : Fin 6} {l : List (Fin 3 × Nat)} (h : Only P s u) (h1 : P (.obj S_BLW_ACTIVE)) (h2 : ∀ (y1 : Fin 18), P (.hb y1)) (h3 : ∀ (y1 : Fin 18), P (.obj (S_GATE_I ↑y1))) (h4 : P (.obj (S_Q_LATCH ↑x))) (h5 : ∀ (y1 : Fin 18), P (.obj (S_Q_CAUSE ↑y1))) (h6 : ∀ (y1 : Fin 18), P (.obj (S_Q_COUNT ↑y1))) (h7 : P (.obj (S_Q_TRIPS ↑x))) (h8 : P .raised) (h9 : ∀ (y1 : Fin 4), P (.obj (A_SECTIONS ↑y1))) (h10 : ∀ (y1 : Fin 4), P (.obj (A_CASCADE_SECTIONS ↑y1))) (h11 : ∀ (y1 : Fin 4), P (.ax y1)) (h12 : ∀ (y1 : Fin 4), P (.obj (A_FAULT_STATE ↑y1))) (h13 : ∀ (y1 : Fin 6), P (.sec y1)) (h14 : ∀ (y1 : Fin 6), P (.obj (S_ENABLE ↑y1))) (h15 : ∀ (y1 : Fin 6), P (.obj (S_STATE ↑y1))) (h16 : ∀ (y1 : Fin 6), P (.obj (S_DEG_PHASE ↑y1))) (h17 : ∀ (y1 : Fin 6), P (.obj (S_STEP ↑y1))) (h18 : ∀ (y1 : Fin 6), P (.obj (S_FUS_STATE ↑y1))) (h19 : ∀ (y1 : Fin 6), P (.obj (S_LOCK_STATE ↑y1))) (h20 : ∀ (y1 : Fin 6), P (.obj (S_Q_LAST ↑y1))) (h21 : P (.obj S_DEV_FAULT)) :
    Only P s (State.trip u x l) := by
  with_reducible
    unfold State.trip
    repeat' first | assumption | apply Only.each | apply State.jSecData_only | apply State.sectionOutcome_only | apply State.tripHb_only | rw [secOf_hbOf] | exact h2 _ | exact h3 _ | exact h5 _ | exact h6 _ | exact h9 _ | exact h10 _ | exact h11 _ | exact h12 _ | exact h13 _ | exact h14 _ | exact h15 _ | exact h16 _ | exact h17 _ | exact h18 _ | exact h19 _ | exact h20 _ | intro _ | exact Only.of_pair ‹_ = (_, _)› ‹_› | apply Only.of_pair ‹_ = (_, _)› | dsimp only | split

theorem State.tripOvervoltage_only {x : Fin 6} (h : Only P s u) (h1 : P (.obj S_BLW_ACTIVE)) (h2 : P (.obj (S_Q_LATCH ↑x))) (h3 : ∀ (y1 : Fin 3), P (.obj (S_Q_CAUSE ↑(hbOf x y1)))) (h4 : ∀ (y1 : Fin 3), P (.obj (S_Q_COUNT ↑(hbOf x y1)))) (h5 : P (.obj (S_Q_TRIPS ↑x))) (h6 : P .raised) (h7 : ∀ (y1 : Fin 4), P (.obj (A_SECTIONS ↑y1))) (h8 : ∀ (y1 : Fin 4), P (.obj (A_CASCADE_SECTIONS ↑y1))) (h9 : ∀ (y1 : Fin 4), P (.ax y1)) (h10 : ∀ (y1 : Fin 4), P (.obj (A_FAULT_STATE ↑y1))) (h11 : ∀ (y1 : Fin 18), P (.hb y1)) (h12 : ∀ (y1 : Fin 18), P (.obj (S_GATE_I ↑y1))) (h13 : ∀ (y1 : Fin 6), P (.sec y1)) (h14 : ∀ (y1 : Fin 6), P (.obj (S_ENABLE ↑y1))) (h15 : ∀ (y1 : Fin 6), P (.obj (S_STATE ↑y1))) (h16 : ∀ (y1 : Fin 6), P (.obj (S_DEG_PHASE ↑y1))) (h17 : ∀ (y1 : Fin 6), P (.obj (S_STEP ↑y1))) (h18 : ∀ (y1 : Fin 6), P (.obj (S_FUS_STATE ↑y1))) (h19 : ∀ (y1 : Fin 6), P (.obj (S_LOCK_STATE ↑y1))) (h20 : ∀ (y1 : Fin 6), P (.obj (S_Q_LAST ↑y1))) (h21 : P (.obj S_DEV_FAULT)) :
    Only P s (State.tripOvervoltage u x) := by
  with_reducible
    unfold State.tripOvervoltage
    repeat' first | assumption | apply Only.each | apply Only.ite | apply State.isolate_only | apply State.jSection_only | apply State.joinFail_only | apply State.tripHb_only | rw [secOf_hbOf] | exact h3 _ | exact h4 _ | exact h7 _ | exact h8 _ | exact h9 _ | exact h10 _ | exact h11 _ | exact h12 _ | exact h13 _ | exact h14 _ | exact h15 _ | exact h16 _ | exact h17 _ | exact h18 _ | exact h19 _ | exact h20 _ | intro _ | dsimp only | split

theorem State.tripVpd_only (h : Only P s u) (h1 : P (.obj S_BLW_ACTIVE)) (h2 : ∀ (y1 : Fin 18), P (.hb y1)) (h3 : ∀ (y1 : Fin 18), P (.obj (S_GATE_I ↑y1))) (h4 : ∀ (y1 : Fin 18), P (.obj (S_Q_LATCH ↑(secOf y1)))) (h5 : ∀ (y1 : Fin 18), P (.obj (S_Q_CAUSE ↑y1))) (h6 : ∀ (y1 : Fin 18), P (.obj (S_Q_COUNT ↑y1))) (h7 : ∀ (y1 : Fin 18), P (.obj (S_Q_TRIPS ↑(secOf y1)))) (h8 : ∀ (y1 : Fin 6), P (.sec y1)) (h9 : ∀ (y1 : Fin 6), P (.obj (S_ENABLE ↑y1))) (h10 : ∀ (y1 : Fin 6), P (.obj (S_STATE ↑y1))) (h11 : ∀ (y1 : Fin 6), P (.obj (S_DEG_PHASE ↑y1))) (h12 : ∀ (y1 : Fin 6), P (.obj (S_STEP ↑y1))) (h13 : ∀ (y1 : Fin 6), P (.obj (S_FUS_STATE ↑y1))) (h14 : ∀ (y1 : Fin 6), P (.obj (S_LOCK_STATE ↑y1))) (h15 : P .raised) (h16 : ∀ (y1 : Fin 6), P (.obj (S_Q_LAST ↑y1))) (h17 : ∀ (y1 : Fin 4), P (.obj (A_SECTIONS ↑y1))) (h18 : ∀ (y1 : Fin 4), P (.obj (A_CASCADE_SECTIONS ↑y1))) (h19 : ∀ (y1 : Fin 4), P (.ax y1)) (h20 : ∀ (y1 : Fin 4), P (.obj (A_FAULT_STATE ↑y1))) (h21 : P (.obj S_DEV_FAULT)) :
    Only P s (State.tripVpd u) := by
  with_reducible
    unfold State.tripVpd
    repeat' first | assumption | apply Only.each | apply State.deviceFault_only | apply State.tripHb_only | exact h2 _ | exact h3 _ | exact h4 _ | exact h5 _ | exact h6 _ | exact h7 _ | exact h8 _ | exact h9 _ | exact h10 _ | exact h11 _ | exact h12 _ | exact h13 _ | exact h14 _ | exact h16 _ | exact h17 _ | exact h18 _ | exact h19 _ | exact h20 _ | intro _ | dsimp only | split

theorem State.initCodes_only {n : Fin 18} (h : Only P s u) (h1 : ∀ (y1 : Nat), P (.obj (codeKey n y1))) (h2 : P .raised) (h3 : P (.obj SF_ANV_CLIPS)) :
    Only P s (State.initCodes u n) := by
  with_reducible
    unfold State.initCodes
    repeat' first | assumption | apply Only.set | apply Only.each | apply Only.ite | apply State.jClip_only | exact h1 _ | intro _ | dsimp only | split

theorem State.leaveIsolated_only {x : Fin 6} (h : Only P s u) (h1 : ∀ (y1 : Fin 3) (y2 : Nat), P (.obj (codeKey (hbOf x y1) y2))) (h2 : P .raised) (h3 : P (.obj SF_ANV_CLIPS)) (h4 : P (.obj (S_STATE ↑x))) (h5 : P (.obj (S_DEG_PHASE ↑x))) (h6 : P (.obj (S_STEP ↑x))) (h7 : P (.obj (S_FUS_STATE ↑x))) (h8 : P (.sec x)) (h9 : P (.obj (S_LOCK_STATE ↑x))) :
    Only P s (State.leaveIsolated u x) := by
  with_reducible
    unfold State.leaveIsolated
    repeat' first | assumption | apply Only.each | apply Only.ite | apply State.initCodes_only | apply State.setSecState_only | rw [secOf_hbOf] | exact h1 _ _ | intro _ | dsimp only | split

theorem State.clearSection_only {x : Fin 6} (h : Only P s u) (h1 : ∀ (y1 : Fin 3) (y2 : Nat), P (.obj (codeKey (hbOf x y1) y2))) (h2 : P .raised) (h3 : P (.obj SF_ANV_CLIPS)) (h4 : ∀ (y1 : Fin 3), P (.obj (S_Q_CAUSE ↑(hbOf x y1)))) (h5 : P (.obj (S_Q_LATCH ↑x))) (h6 : P (.obj (S_STATE ↑x))) (h7 : P (.obj (S_DEG_PHASE ↑x))) (h8 : P (.obj (S_STEP ↑x))) (h9 : P (.obj (S_FUS_STATE ↑x))) (h10 : P (.sec x)) (h11 : P (.obj (S_LOCK_STATE ↑x))) (h12 : P (.obj (S_Q_LAST ↑x))) :
    Only P s (State.clearSection u x) := by
  with_reducible
    unfold State.clearSection
    repeat' first | assumption | apply Only.set | apply Only.each | apply Only.ite | apply State.initCodes_only | apply State.jSection_only | apply State.leaveIsolated_only | rw [secOf_hbOf] | exact h1 _ _ | exact h4 _ | intro _ | dsimp only | split

theorem State.autoClear_only {n : Fin 18} (h : Only P s u) (h1 : P (.obj (S_Q_LATCH ↑(secOf n)))) (h2 : P (.obj (S_Q_CAUSE ↑n))) (h3 : ∀ (y1 : Fin 18) (y2 : Nat), P (.obj (codeKey y1 y2))) (h4 : P .raised) (h5 : P (.obj SF_ANV_CLIPS)) (h6 : P (.obj (S_STATE ↑(secOf n)))) (h7 : P (.obj (S_DEG_PHASE ↑(secOf n)))) (h8 : P (.obj (S_STEP ↑(secOf n)))) (h9 : P (.obj (S_FUS_STATE ↑(secOf n)))) (h10 : P (.sec (secOf n))) (h11 : P (.obj (S_LOCK_STATE ↑(secOf n)))) (h12 : P (.obj (S_Q_LAST ↑(secOf n)))) :
    Only P s (State.autoClear u n) := by
  with_reducible
    unfold State.autoClear
    repeat' first | assumption | apply Only.set | apply Only.clearBits | apply Only.ite | apply State.jSection_only | apply State.leaveIsolated_only | exact h3 _ _ | intro _ | dsimp only | split

theorem State.clearDevice_only (h : Only P s u) (h1 : P (.obj S_DEV_FAULT)) (h2 : ∀ (y1 : Fin 18), P (.obj (S_Q_CAUSE ↑y1))) (h3 : ∀ (y1 : Fin 18), P (.obj (S_Q_LATCH ↑(secOf y1)))) (h4 : ∀ (y1 : Fin 6) (y2 : Fin 3) (y3 : Nat), P (.obj (codeKey (hbOf y1 y2) y3))) (h5 : P .raised) (h6 : P (.obj SF_ANV_CLIPS)) (h7 : ∀ (y1 : Fin 6), P (.obj (S_STATE ↑y1))) (h8 : ∀ (y1 : Fin 6), P (.obj (S_DEG_PHASE ↑y1))) (h9 : ∀ (y1 : Fin 6), P (.obj (S_STEP ↑y1))) (h10 : ∀ (y1 : Fin 6), P (.obj (S_FUS_STATE ↑y1))) (h11 : ∀ (y1 : Fin 6), P (.sec y1)) (h12 : ∀ (y1 : Fin 6), P (.obj (S_LOCK_STATE ↑y1))) (h13 : ∀ (y1 : Fin 4), P (.obj (A_SECTIONS ↑y1))) (h14 : ∀ (y1 : Fin 4), P (.obj (A_CASCADE_SECTIONS ↑y1))) (h15 : ∀ (y1 : Fin 4), P (.ax y1)) (h16 : ∀ (y1 : Fin 4), P (.obj (A_FAULT_STATE ↑y1))) :
    Only P s (State.clearDevice u) := by
  with_reducible
    unfold State.clearDevice
    repeat' first | assumption | apply Only.set | apply Only.clearBits | apply Only.each | apply Only.ite | apply State.jDevice_only | apply State.leaveIsolated_only | apply State.recount_only | rw [secOf_hbOf] | exact h2 _ | exact h3 _ | exact h4 _ _ _ | exact h7 _ | exact h8 _ | exact h9 _ | exact h10 _ | exact h11 _ | exact h12 _ | exact h13 _ | exact h14 _ | exact h15 _ | exact h16 _ | intro _ | dsimp only | split

/-! ### Share -/

theorem State.reshare_only {a : Fin 4} (h : Only P s u) (h1 : ∀ (y1 : Fin 6), P (.sec y1)) :
    Only P s (State.reshare u a) := by
  with_reducible
    unfold State.reshare
    repeat' first | assumption | apply Only.modSec | exact h1 _ | intro _ | dsimp only | split | apply Only.foldl | apply Only.foldl_pair

theorem State.renderBit_only {a : Fin 4} (h : Only P s u) (h1 : P (.obj (A_EMERG_STATE ↑a))) :
    Only P s (State.renderBit u a) := by
  with_reducible
    unfold State.renderBit
    repeat' first | assumption | apply Only.set | apply Only.ite | intro _ | dsimp only | split

/-! ### Commutation -/

theorem State.dirUpdate_only {a : Fin 4} (h : Only P s u) (h1 : P (.obj (A_DIR ↑a))) (h2 : P (.obj (A_REV_PENDING ↑a))) (h3 : ∀ (y1 : Fin 6) (y2 : Fin 3), P (.hb (hbOf y1 y2))) (h4 : ∀ (y1 : Fin 6) (y2 : Fin 3), P (.obj (S_GATE_I ↑(hbOf y1 y2)))) (h5 : ∀ (y1 : Fin 6), P (.sec y1)) (h6 : P .raised) :
    Only P s (State.dirUpdate u a) := by
  with_reducible
    unfold State.dirUpdate
    repeat' first | assumption | apply Only.set | apply Only.each | apply Only.ite | apply State.drive_only | apply State.jSeq_only | exact h3 _ _ | exact h4 _ _ | exact h5 _ | intro _ | dsimp only | split

theorem State.evaluate_only {x : Fin 6} (h : Only P s u) (h1 : ∀ (y1 : Fin 4), P (.obj (A_DIR ↑y1))) (h2 : ∀ (y1 : Fin 4), P (.obj (A_REV_PENDING ↑y1))) (h3 : ∀ (y1 : Fin 6) (y2 : Fin 3), P (.hb (hbOf y1 y2))) (h4 : ∀ (y1 : Fin 6) (y2 : Fin 3), P (.obj (S_GATE_I ↑(hbOf y1 y2)))) (h5 : ∀ (y1 : Fin 6), P (.sec y1)) (h6 : P .raised) (h7 : P (.obj (S_ENABLE ↑x))) (h8 : ∀ (y1 : Fin 3), P (.hb (hbOf x y1))) (h9 : P (.obj S_BLW_ACTIVE)) (h10 : ∀ (y1 : Fin 3), P (.obj (S_GATE_I ↑(hbOf x y1)))) (h11 : P (.obj (S_STATE ↑x))) (h12 : P (.obj (S_DEG_PHASE ↑x))) (h13 : P (.obj (S_STEP ↑x))) (h14 : P (.obj (S_FUS_STATE ↑x))) (h15 : P (.obj (S_LOCK_STATE ↑x))) (h16 : ∀ (y1 : Fin 4), P (.obj (A_SECTIONS ↑y1))) (h17 : ∀ (y1 : Fin 4), P (.obj (A_CASCADE_SECTIONS ↑y1))) (h18 : ∀ (y1 : Fin 4), P (.ax y1)) (h19 : ∀ (y1 : Fin 4), P (.obj (A_FAULT_STATE ↑y1))) (h20 : P (.obj (S_SKIP_COUNT ↑x))) (h21 : P (.obj (S_COMM_COUNT ↑x))) :
    Only P s (State.evaluate u x) := by
  with_reducible
    unfold State.evaluate
    repeat' first | assumption | apply Only.inc | apply Only.modSec | apply Only.ite | apply State.dirUpdate_only | apply State.enterStep_only | apply State.jSeq_only | apply State.joinFail_only | exact h1 _ | exact h2 _ | exact h3 _ _ | exact h4 _ _ | exact h5 _ | exact h8 _ | exact h10 _ | exact h16 _ | exact h17 _ | exact h18 _ | exact h19 _ | intro _ | exact Only.of_pair ‹_ = (_, _)› ‹_› | apply Only.of_pair ‹_ = (_, _)› | dsimp only | split

theorem State.stepChange_only {x : Fin 6} (h : Only P s u) (h1 : P (.obj (S_STEP ↑x))) (h2 : P (.obj (S_COMM_COUNT ↑x))) (h3 : P (.obj (S_LOCK_STATE ↑x))) (h4 : P (.sec x)) (h5 : ∀ (y1 : Fin 3), P (.hb (hbOf x y1))) (h6 : ∀ (y1 : Fin 3), P (.obj (S_GATE_I ↑(hbOf x y1)))) :
    Only P s (State.stepChange u x) := by
  with_reducible
    unfold State.stepChange
    repeat' first | assumption | apply Only.ite | apply State.enterStep_only | exact h5 _ | exact h6 _ | intro _ | exact Only.of_pair ‹_ = (_, _)› ‹_› | apply Only.of_pair ‹_ = (_, _)› | dsimp only | split

theorem State.lockedRotor_only {x : Fin 6} (h : Only P s u) (h1 : P (.obj (S_LOCK_STATE ↑x))) (h2 : P .raised) (h3 : ∀ (y1 : Fin 6), P (.sec y1)) (h4 : P (.obj (S_ENABLE ↑x))) (h5 : ∀ (y1 : Fin 3), P (.hb (hbOf x y1))) (h6 : P (.obj S_BLW_ACTIVE)) (h7 : ∀ (y1 : Fin 3), P (.obj (S_GATE_I ↑(hbOf x y1)))) (h8 : P (.obj (S_STATE ↑x))) (h9 : P (.obj (S_DEG_PHASE ↑x))) (h10 : P (.obj (S_STEP ↑x))) (h11 : P (.obj (S_FUS_STATE ↑x))) (h12 : ∀ (y1 : Fin 4), P (.obj (A_SECTIONS ↑y1))) (h13 : ∀ (y1 : Fin 4), P (.obj (A_CASCADE_SECTIONS ↑y1))) (h14 : ∀ (y1 : Fin 4), P (.ax y1)) (h15 : ∀ (y1 : Fin 4), P (.obj (A_FAULT_STATE ↑y1))) :
    Only P s (State.lockedRotor u x) := by
  with_reducible
    unfold State.lockedRotor
    repeat' first | assumption | apply Only.set | apply Only.modSec | apply Only.ite | apply State.enableZero_only | apply State.jSeq_only | apply State.reshare_only | exact h3 _ | exact h5 _ | exact h7 _ | exact h12 _ | exact h13 _ | exact h14 _ | exact h15 _ | intro _ | exact Only.of_pair ‹_ = (_, _)› ‹_› | apply Only.of_pair ‹_ = (_, _)› | dsimp only | split

theorem State.joinAngleValid_only {x : Fin 6} (h : Only P s u) (h1 : P (.sec x)) (h2 : P (.obj S_BLW_ACTIVE)) (h3 : ∀ (y1 : Fin 18), P (.obj (S_BLW_COUNT ↑y1))) (h4 : ∀ (y1 : Fin 18), P (.hb y1)) :
    Only P s (State.joinAngleValid u x) := by
  with_reducible
    unfold State.joinAngleValid
    repeat' first | assumption | apply Only.ite | apply State.startPrecharge_only | exact h3 _ | exact h4 _ | intro _ | exact Only.of_pair ‹_ = (_, _)› ‹_› | apply Only.of_pair ‹_ = (_, _)› | dsimp only | split

theorem State.prechargeComplete_only {x : Fin 6} (h : Only P s u) (h1 : P (.sec x)) :
    Only P s (State.prechargeComplete u x) := by
  with_reducible
    unfold State.prechargeComplete
    repeat' first | assumption | apply Only.modSec | apply Only.ite | rw [secOf_hbOf] | intro _ | exact Only.of_pair ‹_ = (_, _)› ‹_› | apply Only.of_pair ‹_ = (_, _)› | dsimp only | split

theorem State.joinRampEnd_only {x : Fin 6} (h : Only P s u) (h1 : P (.sec x)) (h2 : P (.obj (S_STATE ↑x))) (h3 : P (.obj (S_DEG_PHASE ↑x))) (h4 : P (.obj (S_STEP ↑x))) (h5 : P (.obj (S_FUS_STATE ↑x))) (h6 : P (.obj (S_LOCK_STATE ↑x))) (h7 : P .raised) (h8 : ∀ (y1 : Fin 4), P (.obj (A_SECTIONS ↑y1))) (h9 : ∀ (y1 : Fin 4), P (.obj (A_CASCADE_SECTIONS ↑y1))) (h10 : ∀ (y1 : Fin 4), P (.ax y1)) (h11 : ∀ (y1 : Fin 4), P (.obj (A_FAULT_STATE ↑y1))) :
    Only P s (State.joinRampEnd u x) := by
  with_reducible
    unfold State.joinRampEnd
    repeat' first | assumption | apply Only.modSec | apply Only.ite | apply State.jSeq_only | apply State.recount_only | apply State.setSecState_only | exact h8 _ | exact h9 _ | exact h10 _ | exact h11 _ | intro _ | exact Only.of_pair ‹_ = (_, _)› ‹_› | apply Only.of_pair ‹_ = (_, _)› | dsimp only | split

theorem State.leaveRampEnd_only {x : Fin 6} (h : Only P s u) (h1 : P (.sec x)) :
    Only P s (State.leaveRampEnd u x) := by
  with_reducible
    unfold State.leaveRampEnd
    repeat' first | assumption | apply Only.modSec | apply Only.ite | intro _ | exact Only.of_pair ‹_ = (_, _)› ‹_› | apply Only.of_pair ‹_ = (_, _)› | dsimp only | split

/-! ### Pwm -/

theorem State.loadValues_only {x : Fin 6} {vs : List (Nat × Int)} (h : Only P s u) (h1 : P (.sec x)) (h2 : P .raised) (h3 : P (.obj SF_ANV_CLIPS)) (h4 : P (.obj (S_LOAD_REFUSED ↑x))) :
    Only P s (State.loadValues u x vs) := by
  with_reducible
    unfold State.loadValues
    repeat' first | assumption | apply Only.inc | apply Only.modPwm | apply Only.ite | apply State.jClip_only | apply State.jPwm_only | intro _ | dsimp only | split | apply Only.foldl | apply Only.foldl_pair

theorem State.loads_only {x : Fin 6} (h : Only P s u) (h1 : P (.sec x)) (h2 : P (.obj S_LOADALL_PEND)) (h3 : P .raised) (h4 : P (.obj SF_ANV_CLIPS)) (h5 : P (.obj (S_LOAD_REFUSED ↑x))) :
    Only P s (State.loads u x) := by
  with_reducible
    unfold State.loads
    repeat' first | assumption | apply Only.clearBits | apply Only.modPwm | apply Only.ite | apply State.loadValues_only | intro _ | exact Only.of_pair ‹_ = (_, _)› ‹_› | apply Only.of_pair ‹_ = (_, _)› | dsimp only | split

theorem State.openPeriod_only {x : Fin 6} (h : Only P s u) (h1 : P (.obj (S_TMIN_RAISE ↑x))) (h2 : P (.obj (S_PULSE_SUPPRESS ↑x))) :
    Only P s (State.openPeriod u x).2 := by
  with_reducible
    unfold State.openPeriod
    repeat' first | assumption | apply Only.inc | intro _ | exact Only.of_pair ‹_ = (_, _)› ‹_› | apply Only.of_pair ‹_ = (_, _)› | dsimp only | split

theorem State.placeOff_only {x : Fin 6} {edge : Nat} (h : Only P s u) (h1 : P (.obj (S_TMIN_HOLD ↑x))) (h2 : P (.sec x)) (h3 : P (.obj (S_CMP_ACTIVE ↑x))) :
    Only P s (State.placeOff u x edge) := by
  with_reducible
    unfold State.placeOff
    repeat' first | assumption | apply Only.set | apply Only.inc | apply Only.modPwm | apply Only.ite | intro _ | exact Only.of_pair ‹_ = (_, _)› ‹_› | apply Only.of_pair ‹_ = (_, _)› | dsimp only | split

theorem State.live_only {x : Fin 6} {y : Int} (h : Only P s u) (h1 : P (.obj (S_LIVE_HELD ↑x))) (h2 : P (.obj (S_LIVE_LATE ↑x))) (h3 : P (.sec x)) (h4 : P (.obj (S_CMP_ACTIVE ↑x))) (h5 : P (.obj (S_TMIN_HOLD ↑x))) (h6 : P (.obj (S_LIVE_FORCED ↑x))) :
    Only P s (State.live u x y) := by
  with_reducible
    unfold State.live
    repeat' first | assumption | apply Only.set | apply Only.inc | apply Only.modPwm | apply Only.ite | apply State.placeOff_only | intro _ | dsimp only | split

theorem State.endOnTime_only {x : Fin 6} (h : Only P s u) (h1 : P (.sec x)) (h2 : ∀ (y1 : Fin 3), P (.hb (hbOf x y1))) (h3 : ∀ (y1 : Fin 3), P (.obj (S_GATE_I ↑(hbOf x y1)))) :
    Only P s (State.endOnTime u x) := by
  with_reducible
    unfold State.endOnTime
    repeat' first | assumption | apply Only.modPwm | apply State.drive_only | exact h2 _ | exact h3 _ | intro _ | dsimp only | split

theorem State.closePeriod_only {x : Fin 6} (h : Only P s u) (h1 : P (.sec x)) (h2 : ∀ (y1 : Fin 3), P (.hb (hbOf x y1))) (h3 : ∀ (y1 : Fin 3), P (.obj (S_GATE_I ↑(hbOf x y1)))) :
    Only P s (State.closePeriod u x) := by
  with_reducible
    unfold State.closePeriod
    repeat' first | assumption | apply Only.ite | apply State.endOnTime_only | exact h2 _ | exact h3 _ | intro _ | dsimp only | split

theorem State.withdraw_only {x : Fin 6} (h : Only P s u) (h1 : ∀ (y1 : Fin 18), P (.hb y1)) (h2 : P (.sec x)) (h3 : P (.obj (S_LATE_RELEASE ↑x))) (h4 : P .raised) :
    Only P s (State.withdraw u x) := by
  with_reducible
    unfold State.withdraw
    repeat' first | assumption | apply Only.inc | apply Only.modPwm | apply State.cancelOn_only | apply State.jPwm_only | exact h1 _ | intro _ | exact Only.of_pair ‹_ = (_, _)› ‹_› | apply Only.of_pair ‹_ = (_, _)› | dsimp only | split

theorem State.sampleSign_only {x : Fin 6} (h : Only P s u) (h1 : P (.sec x)) :
    Only P s (State.sampleSign u x) := by
  with_reducible
    unfold State.sampleSign
    repeat' first | assumption | apply Only.modSec | apply Only.ite | intro _ | exact Only.of_pair ‹_ = (_, _)› ‹_› | apply Only.of_pair ‹_ = (_, _)› | dsimp only | split

theorem State.boundaryState_only {x : Fin 6} (h : Only P s u) (h1 : P (.obj S_BLW_ACTIVE)) (h2 : P .raised) (h3 : ∀ (y1 : Fin 4), P (.obj (A_SECTIONS ↑y1))) (h4 : ∀ (y1 : Fin 4), P (.obj (A_CASCADE_SECTIONS ↑y1))) (h5 : ∀ (y1 : Fin 4), P (.ax y1)) (h6 : ∀ (y1 : Fin 4), P (.obj (A_FAULT_STATE ↑y1))) (h7 : ∀ (y1 : Fin 18), P (.hb y1)) (h8 : ∀ (y1 : Fin 18), P (.obj (S_GATE_I ↑y1))) (h9 : ∀ (y1 : Fin 6), P (.sec y1)) (h10 : ∀ (y1 : Fin 6), P (.obj (S_ENABLE ↑y1))) (h11 : ∀ (y1 : Fin 6), P (.obj (S_STATE ↑y1))) (h12 : ∀ (y1 : Fin 6), P (.obj (S_DEG_PHASE ↑y1))) (h13 : ∀ (y1 : Fin 6), P (.obj (S_STEP ↑y1))) (h14 : ∀ (y1 : Fin 6), P (.obj (S_FUS_STATE ↑y1))) (h15 : ∀ (y1 : Fin 6), P (.obj (S_LOCK_STATE ↑y1))) (h16 : ∀ (y1 : Fin 6), P (.obj (S_Q_LAST ↑y1))) (h17 : P (.obj S_DEV_FAULT)) (h18 : P (.obj (S_COMM_COUNT ↑x))) :
    Only P s (State.boundaryState u x) := by
  with_reducible
    unfold State.boundaryState
    repeat' first | assumption | apply Only.set | apply Only.modSec | apply Only.ite | apply State.allOff_only | apply State.enterStep_only | apply State.isolate_only | apply State.jSeq_only | apply State.recount_only | apply State.setSecState_only | exact h3 _ | exact h4 _ | exact h5 _ | exact h6 _ | exact h7 _ | exact h8 _ | exact h9 _ | exact h10 _ | exact h11 _ | exact h12 _ | exact h13 _ | exact h14 _ | exact h15 _ | exact h16 _ | intro _ | exact Only.of_pair ‹_ = (_, _)› ‹_› | apply Only.of_pair ‹_ = (_, _)› | dsimp only | split

theorem State.boundaryShare_only {x : Fin 6} {deg : Bool} (h : Only P s u) (h1 : ∀ (y1 : Fin 6), P (.sec y1)) :
    Only P s (State.boundaryShare u x deg) := by
  with_reducible
    unfold State.boundaryShare
    repeat' first | assumption | apply Only.modSec | apply Only.ite | apply State.reshare_only | exact h1 _ | intro _ | exact Only.of_pair ‹_ = (_, _)› ‹_› | apply Only.of_pair ‹_ = (_, _)› | dsimp only | split

theorem State.kick_only {x : Fin 6} {counts : Bool} (h : Only P s u) (h1 : P (.sec x)) (h2 : P (.obj (S_LIVE_HELD ↑x))) (h3 : P (.obj (S_ABSENT_KICK ↑x))) :
    Only P s (State.kick u x counts) := by
  with_reducible
    unfold State.kick
    repeat' first | assumption | apply Only.set | apply Only.inc | apply Only.modPwm | apply Only.ite | intro _ | dsimp only | split

theorem State.openNew_only {x : Fin 6} (h : Only P s u) (h1 : P (.obj (S_TMIN_RAISE ↑x))) (h2 : P (.obj (S_PULSE_SUPPRESS ↑x))) (h3 : P (.sec x)) (h4 : P (.obj (S_CMP_ACTIVE ↑x))) :
    Only P s (State.openNew u x) := by
  with_reducible
    unfold State.openNew
    repeat' first | assumption | apply Only.set | apply Only.modPwm | apply Only.ite | apply State.openPeriod_only | intro _ | exact Only.of_pair ‹_ = (_, _)› ‹_› | apply Only.of_pair ‹_ = (_, _)› | dsimp only | split

theorem State.boundary_only {x : Fin 6} (h : Only P s u) (h1 : P (.obj S_LOADALL_PEND)) (h2 : P .raised) (h3 : P (.obj SF_ANV_CLIPS)) (h4 : P (.obj (S_LOAD_REFUSED ↑x))) (h5 : ∀ (y1 : Fin 18), P (.hb y1)) (h6 : P (.obj (S_LATE_RELEASE ↑x))) (h7 : P (.obj S_BLW_ACTIVE)) (h8 : ∀ (y1 : Fin 4), P (.obj (A_SECTIONS ↑y1))) (h9 : ∀ (y1 : Fin 4), P (.obj (A_CASCADE_SECTIONS ↑y1))) (h10 : ∀ (y1 : Fin 4), P (.ax y1)) (h11 : ∀ (y1 : Fin 4), P (.obj (A_FAULT_STATE ↑y1))) (h12 : ∀ (y1 : Fin 18), P (.obj (S_GATE_I ↑y1))) (h13 : ∀ (y1 : Fin 6), P (.sec y1)) (h14 : ∀ (y1 : Fin 6), P (.obj (S_ENABLE ↑y1))) (h15 : ∀ (y1 : Fin 6), P (.obj (S_STATE ↑y1))) (h16 : ∀ (y1 : Fin 6), P (.obj (S_DEG_PHASE ↑y1))) (h17 : ∀ (y1 : Fin 6), P (.obj (S_STEP ↑y1))) (h18 : ∀ (y1 : Fin 6), P (.obj (S_FUS_STATE ↑y1))) (h19 : ∀ (y1 : Fin 6), P (.obj (S_LOCK_STATE ↑y1))) (h20 : ∀ (y1 : Fin 6), P (.obj (S_Q_LAST ↑y1))) (h21 : P (.obj S_DEV_FAULT)) (h22 : P (.obj (S_COMM_COUNT ↑x))) (h23 : P (.obj (S_LOAD_MODE ↑x))) (h24 : P (.obj (S_DUTY ↑x))) (h25 : P (.obj (S_LIVE_HELD ↑x))) (h26 : P (.obj (S_ABSENT_KICK ↑x))) (h27 : P (.obj (S_TMIN_RAISE ↑x))) (h28 : P (.obj (S_PULSE_SUPPRESS ↑x))) (h29 : P (.obj (S_CMP_ACTIVE ↑x))) :
    Only P s (State.boundary u x) := by
  with_reducible
    unfold State.boundary
    repeat' first | assumption | apply Only.set | apply Only.modSec | apply Only.modPwm | apply Only.ite | apply State.boundaryShare_only | apply State.boundaryState_only | apply State.closePeriod_only | apply State.kick_only | apply State.loads_only | apply State.openNew_only | apply State.sampleSign_only | apply State.withdraw_only | exact h5 _ | exact h8 _ | exact h9 _ | exact h10 _ | exact h11 _ | exact h12 _ | exact h13 _ | exact h14 _ | exact h15 _ | exact h16 _ | exact h17 _ | exact h18 _ | exact h19 _ | exact h20 _ | intro _ | exact Only.of_pair ‹_ = (_, _)› ‹_› | apply Only.of_pair ‹_ = (_, _)› | dsimp only | split

theorem State.grantRefresh_only {n : Fin 18} (h : Only P s u) (h1 : P (.hb n)) (h2 : P (.obj (S_GATE_I ↑n))) (h3 : P (.sec (secOf n))) (h4 : P (.obj S_BLW_ACTIVE)) (h5 : P (.obj (S_BLW_COUNT ↑n))) :
    Only P s (State.grantRefresh u n) := by
  with_reducible
    unfold State.grantRefresh
    repeat' first | assumption | apply State.refreshBegin_only | apply State.toOff_only | intro _ | dsimp only | split

theorem State.compete_only {fuel : Nat} {l : List (Fin 18)} (h : Only P s u) (h1 : ∀ (y1 : Fin 18), P (.hb y1)) (h2 : ∀ (y1 : Fin 18), P (.obj (S_GATE_I ↑y1))) (h3 : ∀ (y1 : Fin 18), P (.sec (secOf y1))) (h4 : P (.obj S_BLW_ACTIVE)) (h5 : ∀ (y1 : Fin 18), P (.obj (S_BLW_COUNT ↑y1))) (h6 : ∀ (y1 : Fin 18), P (.obj (S_BLW_FORCED ↑y1))) (h7 : P .raised) (h8 : P (.obj S_BLW_DEFERRED)) :
    Only P s (State.compete u fuel l) := by
  induction fuel generalizing u l with
  | zero => ?_
  | succ m ih => ?_
  all_goals first
    | exact h
    | (with_reducible
        unfold State.compete
        repeat' first | assumption | apply Only.inc | apply Only.ite | apply State.grantRefresh_only | apply State.jGate_only | apply ih | exact h1 _ | exact h2 _ | exact h3 _ | exact h5 _ | exact h6 _ | intro _ | exact Only.of_pair ‹_ = (_, _)› ‹_› | apply Only.of_pair ‹_ = (_, _)› | dsimp only | split)

theorem State.startPeriod_only {x : Fin 6} (h : Only P s u) (h1 : ∀ (y1 : Fin 3), P (.hb (hbOf x y1))) (h2 : ∀ (y1 : Fin 3), P (.obj (S_GATE_I ↑(hbOf x y1)))) (h3 : P (.sec x)) (h4 : P (.obj (S_TMIN_HOLD ↑x))) (h5 : P (.obj (S_CMP_ACTIVE ↑x))) :
    Only P s (State.startPeriod u x) := by
  with_reducible
    unfold State.startPeriod
    repeat' first | assumption | apply Only.modPwm | apply Only.ite | apply State.drive_only | apply State.placeOff_only | exact h1 _ | exact h2 _ | intro _ | exact Only.of_pair ‹_ = (_, _)› ‹_› | apply Only.of_pair ‹_ = (_, _)› | dsimp only | split

theorem State.boundaries_only {xs : BitVec 6} (h : Only P s u) (h1 : P (.obj S_LOADALL_PEND)) (h2 : P .raised) (h3 : P (.obj SF_ANV_CLIPS)) (h4 : ∀ (y1 : Fin 6), P (.obj (S_LOAD_REFUSED ↑y1))) (h5 : ∀ (y1 : Fin 18), P (.hb y1)) (h6 : ∀ (y1 : Fin 6), P (.obj (S_LATE_RELEASE ↑y1))) (h7 : P (.obj S_BLW_ACTIVE)) (h8 : ∀ (y1 : Fin 4), P (.obj (A_SECTIONS ↑y1))) (h9 : ∀ (y1 : Fin 4), P (.obj (A_CASCADE_SECTIONS ↑y1))) (h10 : ∀ (y1 : Fin 4), P (.ax y1)) (h11 : ∀ (y1 : Fin 4), P (.obj (A_FAULT_STATE ↑y1))) (h12 : ∀ (y1 : Fin 18), P (.obj (S_GATE_I ↑y1))) (h13 : ∀ (y1 : Fin 6), P (.sec y1)) (h14 : ∀ (y1 : Fin 6), P (.obj (S_ENABLE ↑y1))) (h15 : ∀ (y1 : Fin 6), P (.obj (S_STATE ↑y1))) (h16 : ∀ (y1 : Fin 6), P (.obj (S_DEG_PHASE ↑y1))) (h17 : ∀ (y1 : Fin 6), P (.obj (S_STEP ↑y1))) (h18 : ∀ (y1 : Fin 6), P (.obj (S_FUS_STATE ↑y1))) (h19 : ∀ (y1 : Fin 6), P (.obj (S_LOCK_STATE ↑y1))) (h20 : ∀ (y1 : Fin 6), P (.obj (S_Q_LAST ↑y1))) (h21 : P (.obj S_DEV_FAULT)) (h22 : ∀ (y1 : Fin 6), P (.obj (S_COMM_COUNT ↑y1))) (h23 : ∀ (y1 : Fin 6), P (.obj (S_LOAD_MODE ↑y1))) (h24 : ∀ (y1 : Fin 6), P (.obj (S_DUTY ↑y1))) (h25 : ∀ (y1 : Fin 6), P (.obj (S_LIVE_HELD ↑y1))) (h26 : ∀ (y1 : Fin 6), P (.obj (S_ABSENT_KICK ↑y1))) (h27 : ∀ (y1 : Fin 6), P (.obj (S_TMIN_RAISE ↑y1))) (h28 : ∀ (y1 : Fin 6), P (.obj (S_PULSE_SUPPRESS ↑y1))) (h29 : ∀ (y1 : Fin 6), P (.obj (S_CMP_ACTIVE ↑y1))) (h30 : ∀ (y1 : Fin 18), P (.obj (S_BLW_COUNT ↑y1))) (h31 : ∀ (y1 : Fin 18), P (.obj (S_BLW_FORCED ↑y1))) (h32 : P (.obj S_BLW_DEFERRED)) (h33 : ∀ (y1 : Fin 6), P (.obj (S_TMIN_HOLD ↑y1))) :
    Only P s (State.boundaries u xs) := by
  with_reducible
    unfold State.boundaries
    repeat' first | assumption | apply Only.each | apply State.boundary_only | apply State.compete_only | apply State.startPeriod_only | exact h4 _ | exact h5 _ | exact h6 _ | exact h8 _ | exact h9 _ | exact h10 _ | exact h11 _ | exact h12 _ | exact h13 _ | exact h14 _ | exact h15 _ | exact h16 _ | exact h17 _ | exact h18 _ | exact h19 _ | exact h20 _ | exact h22 _ | exact h23 _ | exact h24 _ | exact h25 _ | exact h26 _ | exact h27 _ | exact h28 _ | exact h29 _ | exact h30 _ | exact h31 _ | exact h33 _ | intro _ | exact Only.of_pair ‹_ = (_, _)› ‹_› | apply Only.of_pair ‹_ = (_, _)› | dsimp only | split

theorem State.loadAll_only {at_ : Nat} (h : Only P s u) (h1 : ∀ (y1 : Fin 6), P (.sec y1)) (h2 : P (.obj S_LOADALL_PEND)) :
    Only P s (State.loadAll u at_) := by
  with_reducible
    unfold State.loadAll
    repeat' first | assumption | apply Only.orBits | apply Only.modPwm | apply Only.each | apply Only.ite | exact h1 _ | intro _ | dsimp only | split

/-! ### GateEvents -/

theorem State.notePeriodRelease_only {n : Fin 18} {high : Bool} (h : Only P s u) (h1 : P (.sec (secOf n))) (h2 : P (.obj (S_TMIN_HOLD ↑(secOf n)))) (h3 : P (.obj (S_CMP_ACTIVE ↑(secOf n)))) :
    Only P s (State.notePeriodRelease u n high) := by
  with_reducible
    unfold State.notePeriodRelease
    repeat' first | assumption | apply Only.modPwm | apply Only.ite | apply State.placeOff_only | intro _ | exact Only.of_pair ‹_ = (_, _)› ‹_› | apply Only.of_pair ‹_ = (_, _)› | dsimp only | split

theorem State.release_only {n : Fin 18} (h : Only P s u) (h1 : P (.hb n)) (h2 : P (.obj (S_GATE_I ↑n))) (h3 : P (.sec (secOf n))) (h4 : P (.obj (S_TMIN_HOLD ↑(secOf n)))) (h5 : P (.obj (S_CMP_ACTIVE ↑(secOf n)))) :
    Only P s (State.release u n) := by
  with_reducible
    unfold State.release
    repeat' first | assumption | apply Only.modHb | apply Only.ite | apply State.expect_only | apply State.noteEdge_only | apply State.notePeriodRelease_only | intro _ | exact Only.of_pair ‹_ = (_, _)› ‹_› | apply Only.of_pair ‹_ = (_, _)› | dsimp only | split

theorem State.edgeEnd_only {n : Fin 18} {high : Bool} (h : Only P s u) (h1 : P (.hb n)) :
    Only P s (State.edgeEnd u n high) := by
  with_reducible
    unfold State.edgeEnd
    repeat' first | assumption | apply Only.modHb | apply Only.ite | intro _ | exact Only.of_pair ‹_ = (_, _)› ‹_› | apply Only.of_pair ‹_ = (_, _)› | dsimp only | split

theorem State.level3_only {n : Fin 18} (h : Only P s u) (h1 : P (.obj (S_ENABLE ↑(secOf n)))) (h2 : ∀ (y1 : Fin 18), P (.hb y1)) (h3 : P (.obj S_BLW_ACTIVE)) (h4 : P (.sec (secOf n))) (h5 : ∀ (y1 : Fin 18), P (.obj (S_GATE_I ↑y1))) (h6 : P (.obj (S_STATE ↑(secOf n)))) (h7 : P (.obj (S_DEG_PHASE ↑(secOf n)))) (h8 : P (.obj (S_STEP ↑(secOf n)))) (h9 : P (.obj (S_FUS_STATE ↑(secOf n)))) (h10 : P (.obj (S_LOCK_STATE ↑(secOf n)))) (h11 : P .raised) (h12 : ∀ (y1 : Fin 4), P (.obj (A_SECTIONS ↑y1))) (h13 : ∀ (y1 : Fin 4), P (.obj (A_CASCADE_SECTIONS ↑y1))) (h14 : ∀ (y1 : Fin 4), P (.ax y1)) (h15 : ∀ (y1 : Fin 4), P (.obj (A_FAULT_STATE ↑y1))) (h16 : P (.obj (S_Q_LATCH ↑(secOf n)))) (h17 : ∀ (y1 : Fin 18), P (.obj (S_Q_CAUSE ↑y1))) (h18 : ∀ (y1 : Fin 18), P (.obj (S_Q_COUNT ↑y1))) (h19 : P (.obj (S_Q_TRIPS ↑(secOf n)))) (h20 : ∀ (y1 : Fin 6), P (.sec y1)) (h21 : ∀ (y1 : Fin 6), P (.obj (S_ENABLE ↑y1))) (h22 : ∀ (y1 : Fin 6), P (.obj (S_STATE ↑y1))) (h23 : ∀ (y1 : Fin 6), P (.obj (S_DEG_PHASE ↑y1))) (h24 : ∀ (y1 : Fin 6), P (.obj (S_STEP ↑y1))) (h25 : ∀ (y1 : Fin 6), P (.obj (S_FUS_STATE ↑y1))) (h26 : ∀ (y1 : Fin 6), P (.obj (S_LOCK_STATE ↑y1))) (h27 : ∀ (y1 : Fin 6), P (.obj (S_Q_LAST ↑y1))) (h28 : P (.obj S_DEV_FAULT)) :
    Only P s (State.level3 u n) := by
  with_reducible
    unfold State.level3
    repeat' first | assumption | apply Only.ite | apply State.joinFail_only | apply State.trip_only | exact h2 _ | exact h5 _ | exact h12 _ | exact h13 _ | exact h14 _ | exact h15 _ | exact h17 _ | exact h18 _ | exact h20 _ | exact h21 _ | exact h22 _ | exact h23 _ | exact h24 _ | exact h25 _ | exact h26 _ | exact h27 _ | intro _ | dsimp only | split

theorem State.acceptBand_only {n : Fin 18} {band : Fin 5} (h : Only P s u) (h1 : P (.obj (S_HSS_LEVEL ↑n))) (h2 : P (.obj (S_HSS_OVR ↑n))) (h3 : P .raised) (h4 : P (.obj (S_ENABLE ↑(secOf n)))) (h5 : ∀ (y1 : Fin 18), P (.hb y1)) (h6 : P (.obj S_BLW_ACTIVE)) (h7 : P (.sec (secOf n))) (h8 : ∀ (y1 : Fin 18), P (.obj (S_GATE_I ↑y1))) (h9 : P (.obj (S_STATE ↑(secOf n)))) (h10 : P (.obj (S_DEG_PHASE ↑(secOf n)))) (h11 : P (.obj (S_STEP ↑(secOf n)))) (h12 : P (.obj (S_FUS_STATE ↑(secOf n)))) (h13 : P (.obj (S_LOCK_STATE ↑(secOf n)))) (h14 : ∀ (y1 : Fin 4), P (.obj (A_SECTIONS ↑y1))) (h15 : ∀ (y1 : Fin 4), P (.obj (A_CASCADE_SECTIONS ↑y1))) (h16 : ∀ (y1 : Fin 4), P (.ax y1)) (h17 : ∀ (y1 : Fin 4), P (.obj (A_FAULT_STATE ↑y1))) (h18 : P (.obj (S_Q_LATCH ↑(secOf n)))) (h19 : ∀ (y1 : Fin 18), P (.obj (S_Q_CAUSE ↑y1))) (h20 : ∀ (y1 : Fin 18), P (.obj (S_Q_COUNT ↑y1))) (h21 : P (.obj (S_Q_TRIPS ↑(secOf n)))) (h22 : ∀ (y1 : Fin 6), P (.sec y1)) (h23 : ∀ (y1 : Fin 6), P (.obj (S_ENABLE ↑y1))) (h24 : ∀ (y1 : Fin 6), P (.obj (S_STATE ↑y1))) (h25 : ∀ (y1 : Fin 6), P (.obj (S_DEG_PHASE ↑y1))) (h26 : ∀ (y1 : Fin 6), P (.obj (S_STEP ↑y1))) (h27 : ∀ (y1 : Fin 6), P (.obj (S_FUS_STATE ↑y1))) (h28 : ∀ (y1 : Fin 6), P (.obj (S_LOCK_STATE ↑y1))) (h29 : ∀ (y1 : Fin 6), P (.obj (S_Q_LAST ↑y1))) (h30 : P (.obj S_DEV_FAULT)) :
    Only P s (State.acceptBand u n band) := by
  with_reducible
    unfold State.acceptBand
    repeat' first | assumption | apply Only.set | apply Only.inc | apply Only.modHb | apply Only.ite | apply State.jGate_only | apply State.level3_only | apply State.watchLevel_only | exact h5 _ | exact h8 _ | exact h14 _ | exact h15 _ | exact h16 _ | exact h17 _ | exact h19 _ | exact h20 _ | exact h22 _ | exact h23 _ | exact h24 _ | exact h25 _ | exact h26 _ | exact h27 _ | exact h28 _ | exact h29 _ | intro _ | dsimp only | split

theorem State.handshakeTimeout_only {n : Fin 18} (h : Only P s u) (h1 : P (.obj S_BLW_ACTIVE)) (h2 : ∀ (y1 : Fin 18), P (.hb y1)) (h3 : ∀ (y1 : Fin 18), P (.obj (S_GATE_I ↑y1))) (h4 : P (.obj (S_Q_LATCH ↑(secOf n)))) (h5 : ∀ (y1 : Fin 18), P (.obj (S_Q_CAUSE ↑y1))) (h6 : ∀ (y1 : Fin 18), P (.obj (S_Q_COUNT ↑y1))) (h7 : P (.obj (S_Q_TRIPS ↑(secOf n)))) (h8 : P .raised) (h9 : ∀ (y1 : Fin 4), P (.obj (A_SECTIONS ↑y1))) (h10 : ∀ (y1 : Fin 4), P (.obj (A_CASCADE_SECTIONS ↑y1))) (h11 : ∀ (y1 : Fin 4), P (.ax y1)) (h12 : ∀ (y1 : Fin 4), P (.obj (A_FAULT_STATE ↑y1))) (h13 : ∀ (y1 : Fin 6), P (.sec y1)) (h14 : ∀ (y1 : Fin 6), P (.obj (S_ENABLE ↑y1))) (h15 : ∀ (y1 : Fin 6), P (.obj (S_STATE ↑y1))) (h16 : ∀ (y1 : Fin 6), P (.obj (S_DEG_PHASE ↑y1))) (h17 : ∀ (y1 : Fin 6), P (.obj (S_STEP ↑y1))) (h18 : ∀ (y1 : Fin 6), P (.obj (S_FUS_STATE ↑y1))) (h19 : ∀ (y1 : Fin 6), P (.obj (S_LOCK_STATE ↑y1))) (h20 : ∀ (y1 : Fin 6), P (.obj (S_Q_LAST ↑y1))) (h21 : P (.obj S_DEV_FAULT)) :
    Only P s (State.handshakeTimeout u n) := by
  with_reducible
    unfold State.handshakeTimeout
    repeat' first | assumption | apply Only.ite | apply State.trip_only | exact h2 _ | exact h3 _ | exact h5 _ | exact h6 _ | exact h9 _ | exact h10 _ | exact h11 _ | exact h12 _ | exact h13 _ | exact h14 _ | exact h15 _ | exact h16 _ | exact h17 _ | exact h18 _ | exact h19 _ | exact h20 _ | intro _ | exact Only.of_pair ‹_ = (_, _)› ‹_› | apply Only.of_pair ‹_ = (_, _)› | dsimp only | split

theorem State.temper_only {n : Fin 18} {k : Nat} {t : Rat} (h : Only P s u) (h1 : P (.obj (tswKey n k))) (h2 : P (.obj (S_TMP_OUTSIDE ↑n))) (h3 : P .raised) (h4 : P (.hb n)) (h5 : P (.obj (codeKey n k))) :
    Only P s (State.temper u n k t) := by
  with_reducible
    unfold State.temper
    repeat' first | assumption | apply Only.set | apply Only.inc | apply Only.modHb | apply Only.ite | apply State.jGate_only | intro _ | exact Only.of_pair ‹_ = (_, _)› ‹_› | apply Only.of_pair ‹_ = (_, _)› | dsimp only | split

theorem State.crossing_only {n : Fin 18} {upper : Bool} {above : Bool} (h : Only P s u) (h1 : P (.hb n)) (h2 : ∀ (y1 : Nat), P (.obj y1)) (h3 : P (.obj (S_TMP_OUTSIDE ↑n))) (h4 : P .raised) (h5 : ∀ (y1 : Nat), P (.obj (codeKey n y1))) :
    Only P s (State.crossing u n upper above) := by
  with_reducible
    unfold State.crossing
    repeat' first | assumption | apply Only.modHb | apply Only.ite | apply State.temper_only | exact h2 _ | exact h5 _ | intro _ | exact Only.of_pair ‹_ = (_, _)› ‹_› | apply Only.of_pair ‹_ = (_, _)› | dsimp only | split

theorem State.lowRun_only {n : Fin 18} (h : Only P s u) (h1 : P (.hb n)) :
    Only P s (State.lowRun u n) := by
  with_reducible
    unfold State.lowRun
    repeat' first | assumption | apply Only.modHb | apply Only.ite | intro _ | exact Only.of_pair ‹_ = (_, _)› ‹_› | apply Only.of_pair ‹_ = (_, _)› | dsimp only | split

theorem State.pulseEnd_only {n : Fin 18} (h : Only P s u) (h1 : P (.hb n)) (h2 : P (.obj (S_GATE_I ↑n))) (h3 : P (.sec (secOf n))) (h4 : P (.obj S_BLW_ACTIVE)) :
    Only P s (State.pulseEnd u n) := by
  with_reducible
    unfold State.pulseEnd
    repeat' first | assumption | apply Only.ite | apply State.driveHb_only | apply State.prechargeNext_only | apply State.refreshDone_only | apply State.toOff_only | intro _ | exact Only.of_pair ‹_ = (_, _)› ‹_› | apply Only.of_pair ‹_ = (_, _)› | dsimp only | split

end Sys2Proof.Safety
end

