-- ==== Sys2Proof/Laws/Keeps.lean ====
section
/-! SUPPORT. What the commands to the gate pins leave of a section's record: everything but
the instant of its last edge and how the on-time under way ends. -/

namespace Sys2Proof.Safety
open Sys2Proof.Machine Sys2Proof.Machine.Obj

/-- The record of a section without the instant of its last gate edge (R65) and the end of its on-time (R109). -/
def coreOf (c : Sec) : Sec :=
  { c with bemf := { c.bemf with edgeAt := none },
           pwm := { c.pwm with onTime := false, offIssued := false, relPending := none, absent := false } }

/-- Every section keeps its record but for those. -/
def SecKeeps (s u : State) : Prop := ∀ y, coreOf (u.sec y) = coreOf (s.sec y)

theorem SecKeeps.refl (s : State) : SecKeeps s s := fun _ => rfl

theorem SecKeeps.trans {s u w : State} (h : SecKeeps s u) (k : SecKeeps u w) : SecKeeps s w := fun y => (k y).trans (h y)

/-- What leaves every section's record alone keeps it. -/
theorem SecKeeps.of_secs {s u : State} (h : u.secs = s.secs) : SecKeeps s u := fun y => by
  unfold State.sec
  rw [h]

theorem SecKeeps.each {β : Type} {l : List β} {f : β → State → State} (hf : ∀ b s, SecKeeps s (f b s)) (s : State) :
    SecKeeps s (s.each l f) := by
  unfold State.each
  induction l generalizing s with
  | nil => exact .refl s
  | cons b r ih => exact (hf b s).trans (ih _)

theorem State.noteEdge_keeps (s : State) (n : Fin 18) (c : Nat) : SecKeeps s (s.noteEdge n c) := fun y => by
  unfold State.noteEdge
  by_cases h : y = secOf n
  · subst h
    rw [State.sec_modSec_self]
    rfl
  · rw [State.sec_modSec_ne _ _ h]
    rfl

theorem State.expect_keeps (s : State) (n : Fin 18) : SecKeeps s (s.expect n) := .of_secs rfl

theorem State.issueOff_keeps (s : State) (n : Fin 18) (high : Bool) (c : Nat) (m : Bool) : SecKeeps s (s.issueOff n high c m) := by
  unfold State.issueOff
  split
  · refine .trans ?_ (State.expect_keeps _ _)
    refine .trans ?_ (State.noteEdge_keeps _ _ _)
    exact .of_secs rfl
  · exact .refl s

theorem State.cancelOn_keeps (s : State) (n : Fin 18) (high : Bool) : SecKeeps s (s.cancelOn n high) := .of_secs rfl

theorem State.commandOn_keeps (s : State) (n : Fin 18) (high : Bool) : SecKeeps s (s.commandOn n high) := by
  unfold State.commandOn
  split
  · exact .refl s
  · split
    · split
      · exact .refl s
      · exact .of_secs rfl
    · exact .of_secs rfl

theorem State.toOff_keeps (s : State) (n : Fin 18) (high : Bool) : SecKeeps s (s.toOff n high) :=
  (State.cancelOn_keeps s n high).trans (State.issueOff_keeps _ _ _ _ _)

theorem State.driveHb_keeps (s : State) (n : Fin 18) : SecKeeps s (s.driveHb n) := by
  unfold State.driveHb
  split
  · dsimp only
    have h1 : SecKeeps s (if (desired s n).1 then s else s.toOff n true) := by
      split
      · exact .refl s
      · exact State.toOff_keeps s n true
    refine h1.trans ?_
    generalize (if (desired s n).1 then s else s.toOff n true) = u
    have h2 : SecKeeps u (if (desired s n).2 then u else u.toOff n false) := by
      split
      · exact .refl u
      · exact State.toOff_keeps u n false
    refine h2.trans ?_
    generalize (if (desired s n).2 then u else u.toOff n false) = w
    split
    · exact State.commandOn_keeps w n true
    · split
      · exact State.commandOn_keeps w n false
      · exact .refl w
  · exact .refl s

theorem State.cutOnTime_keeps (s : State) (x : Fin 6) : SecKeeps s (s.cutOnTime x) := fun y => by
  unfold State.cutOnTime State.modPwm
  split
  · rfl
  · by_cases h : y = x
    · subst h
      rw [State.sec_modSec_self]
      rfl
    · rw [State.sec_modSec_ne _ _ h]

theorem State.drive_keeps (s : State) (x : Fin 6) : SecKeeps s (s.drive x) :=
  .trans (SecKeeps.each (fun p s => State.driveHb_keeps s (hbOf x p)) s) (State.cutOnTime_keeps _ _)

theorem State.allOff_keeps (s : State) (x : Fin 6) : SecKeeps s (s.allOff x) :=
  SecKeeps.each (fun p s => by
    refine (State.toOff_keeps s (hbOf x p) true).trans ?_
    dsimp only
    split
    · exact State.toOff_keeps _ (hbOf x p) false
    · exact .refl _) s

theorem State.refreshBegin_keeps (s : State) (n : Fin 18) (pre : Bool) : SecKeeps s (s.refreshBegin n pre) := by
  unfold State.refreshBegin
  dsimp only
  refine .trans ?_ (State.commandOn_keeps _ _ _)
  exact .of_secs rfl

theorem State.settle_keeps (s : State) : SecKeeps s s.settle := .of_secs (State.settle_secs s)

theorem SecKeeps.written {s u : State} (h : SecKeeps s u) (y : Fin 6) : (u.sec y).pwm.written = (s.sec y).pwm.written := by
  have := congrArg (fun c => Sec.pwm c |>.written) (h y)
  exact this

theorem SecKeeps.forced {s u : State} (h : SecKeeps s u) (y : Fin 6) : (u.sec y).pwm.forced = (s.sec y).pwm.forced := by
  have := congrArg (fun c => Sec.pwm c |>.forced) (h y)
  exact this

theorem SecKeeps.join {s u : State} (h : SecKeeps s u) (y : Fin 6) : (u.sec y).join = (s.sec y).join := by
  have := congrArg Sec.join (h y)
  exact this

theorem SecKeeps.placed {s u : State} (h : SecKeeps s u) (y : Fin 6) : (u.sec y).placed = (s.sec y).placed := by
  have := congrArg Sec.placed (h y)
  exact this

theorem SecKeeps.precharge {s u : State} (h : SecKeeps s u) (y : Fin 6) : (u.sec y).precharge = (s.sec y).precharge := by
  have := congrArg Sec.precharge (h y)
  exact this

theorem SecKeeps.ramp {s u : State} (h : SecKeeps s u) (y : Fin 6) : (u.sec y).ramp = (s.sec y).ramp := by
  have := congrArg Sec.ramp (h y)
  exact this

end Sys2Proof.Safety
end

