-- ==== Sys2Proof/Laws/OnlyLoop.lean ====
section
/-! SUPPORT. Frames of the operations of the compensators, protection, observer, motion, tuning and load share: the parts of the state that each may change. -/

set_option linter.all false

namespace Sys2Proof.Safety
open Sys2Proof.Machine Sys2Proof.Machine.Obj

variable {P : Part → Prop} {s u : State}

/-! ### Crucible -/

theorem State.requestAt_only {k : Fin 48} {at_ : Nat} {v : Option Int} (h : Only P s u) (h1 : P (.slot k)) (h2 : P (.obj (K_OVERRUN ↑k))) :
    Only P s (State.requestAt u k at_ v) := by
  with_reducible
    unfold State.requestAt
    repeat' first | assumption | apply Only.inc | apply Only.modSlot | intro _ | exact Only.of_pair ‹_ = (_, _)› ‹_› | apply Only.of_pair ‹_ = (_, _)› | dsimp only | split

theorem State.takeInbound_only {k : Fin 48} (h : Only P s u) (h1 : P (.slot k)) (h2 : P (.obj (K_OVERRUN ↑k))) :
    Only P s (State.takeInbound u k) := by
  with_reducible
    unfold State.takeInbound
    repeat' first | assumption | apply Only.modSlot | apply Only.each | apply Only.ite | apply State.requestAt_only | intro _ | dsimp only | split

theorem State.requestRun_only {k : Fin 48} {v : Option Int} (h : Only P s u) (h1 : P (.slot k)) (h2 : P (.obj (K_OVERRUN ↑k))) :
    Only P s (State.requestRun u k v) := by
  with_reducible
    unfold State.requestRun
    repeat' first | assumption | apply State.requestAt_only | apply State.takeInbound_only | intro _ | dsimp only | split

theorem State.noteArrival_only {sel : Nat} (h : Only P s u) (h1 : P .cap) :
    Only P s (State.noteArrival u sel) := by
  with_reducible
    unfold State.noteArrival
    repeat' first | assumption | apply Only.ite | intro _ | dsimp only | split | apply Only.w_cap | apply Only.foldl | apply Only.foldl_pair

theorem State.arrive_only {sel : Nat} {v : Int} (h : Only P s u) (h1 : P .cap) (h2 : ∀ (y1 : Fin 48), P (.slot y1)) (h3 : ∀ (y1 : Fin 48), P (.obj (K_OVERRUN ↑y1))) :
    Only P s (State.arrive u sel v) := by
  with_reducible
    unfold State.arrive
    repeat' first | assumption | apply Only.each | apply Only.ite | apply State.noteArrival_only | apply State.requestRun_only | exact h2 _ | exact h3 _ | intro _ | dsimp only | split

theorem State.chain_only {j : Fin 48} {v : Int} (h : Only P s u) (h1 : P .freeCtr) (h2 : P .cap) (h3 : ∀ (y1 : Fin 48), P (.slot y1)) (h4 : ∀ (y1 : Fin 48), P (.obj (K_OVERRUN ↑y1))) :
    Only P s (State.chain u j v) := by
  with_reducible
    unfold State.chain
    repeat' first | assumption | apply Only.modSlot | apply Only.free | apply Only.each | apply Only.ite | apply State.noteArrival_only | apply State.takeInbound_only | exact h3 _ | exact h4 _ | intro _ | exact Only.of_pair ‹_ = (_, _)› ‹_› | apply Only.of_pair ‹_ = (_, _)› | dsimp only | split

theorem State.slotTimer_only {k : Fin 48} (h : Only P s u) (h1 : P (.slot k)) (h2 : P (.obj (K_OVERRUN ↑k))) :
    Only P s (State.slotTimer u k) := by
  with_reducible
    unfold State.slotTimer
    repeat' first | assumption | apply Only.ite | apply State.requestRun_only | intro _ | dsimp only | split

theorem State.setLane_only {p : Nat} {v : Nat} (h : Only P s u) (h1 : P (.obj (K_LANE_STATE p))) (h2 : P (.obj (PW_DOM_STATE (72 + p)))) (h3 : P .power) (h4 : P (.obj PW_DAMP_QUEUE)) (h5 : P (.obj PW_DAMP_MAX_Q)) (h6 : ∀ (y1 : Nat), P (.obj (IS_STATE y1))) (h7 : P (.obj K_SPARE_AVAIL)) :
    Only P s (State.setLane u p v) := by
  with_reducible
    unfold State.setLane
    repeat' first | assumption | apply Only.set | apply Only.setFlag | apply Only.ite | apply State.sleep_only | exact h6 _ | intro _ | dsimp only | split

theorem State.handLane_only {l : Nat} {q : Nat} (h : Only P s u) (h1 : P (.obj (K_LANE_MAP l))) (h2 : P (.obj (PW_DOM_STATE (72 + q)))) (h3 : P .power) (h4 : P (.obj PW_DAMP_QUEUE)) (h5 : P (.obj PW_DAMP_MAX_Q)) (h6 : ∀ (y1 : Nat), P (.obj (IS_STATE y1))) (h7 : P (.obj K_SPARE_AVAIL)) (h8 : ∀ (y1 : Nat), P (.obj (K_LANE_STATE y1))) (h9 : ∀ (y1 : Nat), P (.obj (PW_DOM_STATE y1))) :
    Only P s (State.handLane u l q) := by
  with_reducible
    unfold State.handLane
    repeat' first | assumption | apply Only.set | apply State.setLane_only | exact h6 _ | exact h8 _ | exact h9 _ | intro _ | dsimp only | split

theorem State.handIfOver_only (h : Only P s u) (h1 : P .lanes) (h2 : ∀ (y1 : Nat), P (.obj (K_LANE_MAP y1))) (h3 : ∀ (y1 : Nat), P (.obj (PW_DOM_STATE y1))) (h4 : P .power) (h5 : P (.obj PW_DAMP_QUEUE)) (h6 : P (.obj PW_DAMP_MAX_Q)) (h7 : ∀ (y1 : Nat), P (.obj (IS_STATE y1))) (h8 : P (.obj K_SPARE_AVAIL)) (h9 : ∀ (y1 : Nat), P (.obj (K_LANE_STATE y1))) :
    Only P s (State.handIfOver u) := by
  with_reducible
    unfold State.handIfOver
    repeat' first | assumption | apply Only.ite | apply State.handLane_only | exact h2 _ | exact h3 _ | exact h7 _ | exact h9 _ | intro _ | exact Only.of_pair ‹_ = (_, _)› ‹_› | apply Only.of_pair ‹_ = (_, _)› | dsimp only | split | apply Only.w_lanes

theorem State.handSlot_only {k : Fin 48} (h : Only P s u) (h1 : P .lanes) :
    Only P s (State.handSlot u k) := by
  with_reducible
    unfold State.handSlot
    repeat' first | assumption | apply Only.ite | intro _ | exact Only.of_pair ‹_ = (_, _)› ‹_› | apply Only.of_pair ‹_ = (_, _)› | dsimp only | split | apply Only.w_lanes

theorem State.issueRun_only {k : Fin 48} {cyc : Nat} {arrived : Nat} {v : Option Int} (h : Only P s u) (h1 : P .lanes) (h2 : P (.slot k)) (h3 : ∀ (y1 : Nat), P (.obj (K_LANE_MAP y1))) (h4 : ∀ (y1 : Nat), P (.obj (PW_DOM_STATE y1))) (h5 : P .power) (h6 : P (.obj PW_DAMP_QUEUE)) (h7 : P (.obj PW_DAMP_MAX_Q)) (h8 : ∀ (y1 : Nat), P (.obj (IS_STATE y1))) (h9 : P (.obj K_SPARE_AVAIL)) (h10 : ∀ (y1 : Nat), P (.obj (K_LANE_STATE y1))) :
    Only P s (State.issueRun u k cyc arrived v) := by
  with_reducible
    unfold State.issueRun
    repeat' first | assumption | apply Only.modSlot | apply State.handIfOver_only | apply State.handSlot_only | exact h3 _ | exact h4 _ | exact h8 _ | exact h10 _ | intro _ | exact Only.of_pair ‹_ = (_, _)› ‹_› | apply Only.of_pair ‹_ = (_, _)› | dsimp only | split

theorem State.issue_only {l : Fin 6} (h : Only P s u) (h1 : ∀ (y1 : Fin 48), P (.slot y1)) (h2 : ∀ (y1 : Fin 48), P (.obj (K_OVERRUN ↑y1))) (h3 : P .lanes) (h4 : ∀ (y1 : Nat), P (.obj (K_LANE_MAP y1))) (h5 : ∀ (y1 : Nat), P (.obj (PW_DOM_STATE y1))) (h6 : P .power) (h7 : P (.obj PW_DAMP_QUEUE)) (h8 : P (.obj PW_DAMP_MAX_Q)) (h9 : ∀ (y1 : Nat), P (.obj (IS_STATE y1))) (h10 : P (.obj K_SPARE_AVAIL)) (h11 : ∀ (y1 : Nat), P (.obj (K_LANE_STATE y1))) :
    Only P s (State.issue u l) := by
  with_reducible
    unfold State.issue
    repeat' first | assumption | apply Only.each | apply Only.ite | apply State.issueRun_only | apply State.takeInbound_only | exact h1 _ | exact h2 _ | exact h4 _ | exact h5 _ | exact h9 _ | exact h11 _ | intro _ | exact Only.of_pair ‹_ = (_, _)› ‹_› | apply Only.of_pair ‹_ = (_, _)› | dsimp only | split | apply Only.w_lanes

theorem State.jLane_only {cls : Nat} {detail : Nat} {phys : Nat} {logical : Nat} {k : Option (Fin 48)} {other : Nat} {y : Int} {yt : Int} (h : Only P s u) (h1 : P .raised) :
    Only P s (State.jLane u cls detail phys logical k other y yt) := by
  with_reducible
    unfold State.jLane
    repeat' first | assumption | apply Only.journal | intro _ | exact Only.of_pair ‹_ = (_, _)› ‹_› | apply Only.of_pair ‹_ = (_, _)› | dsimp only | split

theorem State.jTune_only {detail : Nat} {g : Option (Fin 4)} {cause : Nat} (h : Only P s u) (h1 : P .raised) :
    Only P s (State.jTune u detail g cause) := by
  with_reducible
    unfold State.jTune
    repeat' first | assumption | apply Only.journal | intro _ | exact Only.of_pair ‹_ = (_, _)› ‹_› | apply Only.of_pair ‹_ = (_, _)› | dsimp only | split

theorem State.endGen_only {g : Fin 4} {st : Nat} {detail : Nat} {cause : Nat} (h : Only P s u) (h1 : P (.obj (G_STATE ↑g))) (h2 : P (.obj (G_VALUE ↑g))) (h3 : P (.gen g)) (h4 : P .raised) :
    Only P s (State.endGen u g st detail cause) := by
  with_reducible
    unfold State.endGen
    repeat' first | assumption | apply Only.set | apply Only.modGen | apply State.jTune_only | intro _ | dsimp only | split

theorem State.loseSink_only {p : Nat} {k : Fin 48} (h : Only P s u) (h1 : P (.obj S_BLW_ACTIVE)) (h2 : P .raised) (h3 : ∀ (y1 : Fin 4), P (.obj (A_SECTIONS ↑y1))) (h4 : ∀ (y1 : Fin 4), P (.obj (A_CASCADE_SECTIONS ↑y1))) (h5 : ∀ (y1 : Fin 4), P (.ax y1)) (h6 : ∀ (y1 : Fin 4), P (.obj (A_FAULT_STATE ↑y1))) (h7 : ∀ (y1 : Fin 18), P (.hb y1)) (h8 : ∀ (y1 : Fin 18), P (.obj (S_GATE_I ↑y1))) (h9 : ∀ (y1 : Fin 6), P (.sec y1)) (h10 : ∀ (y1 : Fin 6), P (.obj (S_ENABLE ↑y1))) (h11 : ∀ (y1 : Fin 6), P (.obj (S_STATE ↑y1))) (h12 : ∀ (y1 : Fin 6), P (.obj (S_DEG_PHASE ↑y1))) (h13 : ∀ (y1 : Fin 6), P (.obj (S_STEP ↑y1))) (h14 : ∀ (y1 : Fin 6), P (.obj (S_FUS_STATE ↑y1))) (h15 : ∀ (y1 : Fin 6), P (.obj (S_LOCK_STATE ↑y1))) (h16 : ∀ (y1 : Fin 6), P (.obj (S_Q_LAST ↑y1))) (h17 : P (.obj S_DEV_FAULT)) (h18 : ∀ (y1 : Nat), P (.obj (A_FAULT_STATE y1))) :
    Only P s (State.loseSink u p k) := by
  with_reducible
    unfold State.loseSink
    repeat' first | assumption | apply Only.ite | apply State.enterLevel_only | apply State.isolateAt_only | apply State.jAxisAt_only | exact h3 _ | exact h4 _ | exact h5 _ | exact h6 _ | exact h7 _ | exact h8 _ | exact h9 _ | exact h10 _ | exact h11 _ | exact h12 _ | exact h13 _ | exact h14 _ | exact h15 _ | exact h16 _ | exact h18 _ | intro _ | dsimp only | split

theorem State.loseLane_only {l : Nat} {p : Nat} (h : Only P s u) (h1 : P (.obj (K_LANE_MAP l))) (h2 : P .raised) (h3 : P .lanes) (h4 : ∀ (y1 : Fin 48), P (.slot y1)) (h5 : ∀ (y1 : Fin 4), P (.obj (G_STATE ↑y1))) (h6 : ∀ (y1 : Fin 4), P (.obj (G_VALUE ↑y1))) (h7 : ∀ (y1 : Fin 4), P (.gen y1)) (h8 : P (.obj S_BLW_ACTIVE)) (h9 : ∀ (y1 : Fin 4), P (.obj (A_SECTIONS ↑y1))) (h10 : ∀ (y1 : Fin 4), P (.obj (A_CASCADE_SECTIONS ↑y1))) (h11 : ∀ (y1 : Fin 4), P (.ax y1)) (h12 : ∀ (y1 : Fin 4), P (.obj (A_FAULT_STATE ↑y1))) (h13 : ∀ (y1 : Fin 18), P (.hb y1)) (h14 : ∀ (y1 : Fin 18), P (.obj (S_GATE_I ↑y1))) (h15 : ∀ (y1 : Fin 6), P (.sec y1)) (h16 : ∀ (y1 : Fin 6), P (.obj (S_ENABLE ↑y1))) (h17 : ∀ (y1 : Fin 6), P (.obj (S_STATE ↑y1))) (h18 : ∀ (y1 : Fin 6), P (.obj (S_DEG_PHASE ↑y1))) (h19 : ∀ (y1 : Fin 6), P (.obj (S_STEP ↑y1))) (h20 : ∀ (y1 : Fin 6), P (.obj (S_FUS_STATE ↑y1))) (h21 : ∀ (y1 : Fin 6), P (.obj (S_LOCK_STATE ↑y1))) (h22 : ∀ (y1 : Fin 6), P (.obj (S_Q_LAST ↑y1))) (h23 : P (.obj S_DEV_FAULT)) (h24 : ∀ (y1 : Nat), P (.obj (A_FAULT_STATE y1))) :
    Only P s (State.loseLane u l p) := by
  with_reducible
    unfold State.loseLane
    repeat' first | assumption | apply Only.set | apply Only.modSlot | apply Only.each | apply Only.ite | apply State.endGen_only | apply State.jLane_only | apply State.loseSink_only | exact h4 _ | exact h5 _ | exact h6 _ | exact h7 _ | exact h9 _ | exact h10 _ | exact h11 _ | exact h12 _ | exact h13 _ | exact h14 _ | exact h15 _ | exact h16 _ | exact h17 _ | exact h18 _ | exact h19 _ | exact h20 _ | exact h21 _ | exact h22 _ | exact h24 _ | intro _ | dsimp only | split | apply Only.w_lanes

theorem State.dropRuns_only {p : Nat} {k : Fin 48} (h : Only P s u) (h1 : P (.slot k)) :
    Only P s (State.dropRuns u p k) := by
  with_reducible
    unfold State.dropRuns
    repeat' first | assumption | apply Only.modSlot | apply Only.ite | intro _ | exact Only.of_pair ‹_ = (_, _)› ‹_› | apply Only.of_pair ‹_ = (_, _)› | dsimp only | split | apply Only.foldl | apply Only.foldl_pair

theorem State.loseSpare_only {p : Nat} (h : Only P s u) (h1 : P .lanes) :
    Only P s (State.loseSpare u p) := by
  with_reducible
    unfold State.loseSpare
    repeat' first | assumption | apply Only.ite | intro _ | exact Only.of_pair ‹_ = (_, _)› ‹_› | apply Only.of_pair ‹_ = (_, _)› | dsimp only | split | apply Only.w_lanes

theorem State.failLane_only {p : Nat} (h : Only P s u) (h1 : ∀ (y1 : Fin 48), P (.slot y1)) (h2 : P .lanes) (h3 : P (.obj (PW_DOM_STATE (72 + p)))) (h4 : P .power) (h5 : P (.obj PW_DAMP_QUEUE)) (h6 : P (.obj PW_DAMP_MAX_Q)) (h7 : ∀ (y1 : Nat), P (.obj (IS_STATE y1))) (h8 : P (.obj K_SPARE_AVAIL)) (h9 : P .raised) (h10 : ∀ (y1 : Nat), P (.obj (K_LANE_MAP y1))) (h11 : ∀ (y1 : Nat), P (.obj (K_LANE_STATE y1))) (h12 : ∀ (y1 : Nat), P (.obj (PW_DOM_STATE y1))) (h13 : ∀ (y1 : Fin 4), P (.obj (G_STATE ↑y1))) (h14 : ∀ (y1 : Fin 4), P (.obj (G_VALUE ↑y1))) (h15 : ∀ (y1 : Fin 4), P (.gen y1)) (h16 : P (.obj S_BLW_ACTIVE)) (h17 : ∀ (y1 : Fin 4), P (.obj (A_SECTIONS ↑y1))) (h18 : ∀ (y1 : Fin 4), P (.obj (A_CASCADE_SECTIONS ↑y1))) (h19 : ∀ (y1 : Fin 4), P (.ax y1)) (h20 : ∀ (y1 : Fin 4), P (.obj (A_FAULT_STATE ↑y1))) (h21 : ∀ (y1 : Fin 18), P (.hb y1)) (h22 : ∀ (y1 : Fin 18), P (.obj (S_GATE_I ↑y1))) (h23 : ∀ (y1 : Fin 6), P (.sec y1)) (h24 : ∀ (y1 : Fin 6), P (.obj (S_ENABLE ↑y1))) (h25 : ∀ (y1 : Fin 6), P (.obj (S_STATE ↑y1))) (h26 : ∀ (y1 : Fin 6), P (.obj (S_DEG_PHASE ↑y1))) (h27 : ∀ (y1 : Fin 6), P (.obj (S_STEP ↑y1))) (h28 : ∀ (y1 : Fin 6), P (.obj (S_FUS_STATE ↑y1))) (h29 : ∀ (y1 : Fin 6), P (.obj (S_LOCK_STATE ↑y1))) (h30 : ∀ (y1 : Fin 6), P (.obj (S_Q_LAST ↑y1))) (h31 : P (.obj S_DEV_FAULT)) (h32 : ∀ (y1 : Nat), P (.obj (A_FAULT_STATE y1))) :
    Only P s (State.failLane u p) := by
  with_reducible
    unfold State.failLane
    repeat' first | assumption | apply Only.set | apply Only.each | apply State.dropRuns_only | apply State.jLane_only | apply State.loseLane_only | apply State.loseSpare_only | apply State.setLane_only | exact h1 _ | exact h7 _ | exact h10 _ | exact h11 _ | exact h12 _ | exact h13 _ | exact h14 _ | exact h15 _ | exact h17 _ | exact h18 _ | exact h19 _ | exact h20 _ | exact h21 _ | exact h22 _ | exact h23 _ | exact h24 _ | exact h25 _ | exact h26 _ | exact h27 _ | exact h28 _ | exact h29 _ | exact h30 _ | exact h32 _ | intro _ | exact Only.of_pair ‹_ = (_, _)› ‹_› | apply Only.of_pair ‹_ = (_, _)› | dsimp only | split | apply Only.w_lanes

theorem State.residueFault_only {k : Fin 48} {p : Nat} (h : Only P s u) (h1 : P (.obj K_RESIDUE_FAULTS)) (h2 : P .raised) (h3 : P .lanes) (h4 : ∀ (y1 : Fin 48), P (.slot y1)) (h5 : P (.obj (PW_DOM_STATE (72 + p)))) (h6 : P .power) (h7 : P (.obj PW_DAMP_QUEUE)) (h8 : P (.obj PW_DAMP_MAX_Q)) (h9 : ∀ (y1 : Nat), P (.obj (IS_STATE y1))) (h10 : P (.obj K_SPARE_AVAIL)) (h11 : ∀ (y1 : Nat), P (.obj (K_LANE_MAP y1))) (h12 : ∀ (y1 : Nat), P (.obj (K_LANE_STATE y1))) (h13 : ∀ (y1 : Nat), P (.obj (PW_DOM_STATE y1))) (h14 : ∀ (y1 : Fin 4), P (.obj (G_STATE ↑y1))) (h15 : ∀ (y1 : Fin 4), P (.obj (G_VALUE ↑y1))) (h16 : ∀ (y1 : Fin 4), P (.gen y1)) (h17 : P (.obj S_BLW_ACTIVE)) (h18 : ∀ (y1 : Fin 4), P (.obj (A_SECTIONS ↑y1))) (h19 : ∀ (y1 : Fin 4), P (.obj (A_CASCADE_SECTIONS ↑y1))) (h20 : ∀ (y1 : Fin 4), P (.ax y1)) (h21 : ∀ (y1 : Fin 4), P (.obj (A_FAULT_STATE ↑y1))) (h22 : ∀ (y1 : Fin 18), P (.hb y1)) (h23 : ∀ (y1 : Fin 18), P (.obj (S_GATE_I ↑y1))) (h24 : ∀ (y1 : Fin 6), P (.sec y1)) (h25 : ∀ (y1 : Fin 6), P (.obj (S_ENABLE ↑y1))) (h26 : ∀ (y1 : Fin 6), P (.obj (S_STATE ↑y1))) (h27 : ∀ (y1 : Fin 6), P (.obj (S_DEG_PHASE ↑y1))) (h28 : ∀ (y1 : Fin 6), P (.obj (S_STEP ↑y1))) (h29 : ∀ (y1 : Fin 6), P (.obj (S_FUS_STATE ↑y1))) (h30 : ∀ (y1 : Fin 6), P (.obj (S_LOCK_STATE ↑y1))) (h31 : ∀ (y1 : Fin 6), P (.obj (S_Q_LAST ↑y1))) (h32 : P (.obj S_DEV_FAULT)) (h33 : ∀ (y1 : Nat), P (.obj (A_FAULT_STATE y1))) :
    Only P s (State.residueFault u k p) := by
  with_reducible
    unfold State.residueFault
    repeat' first | assumption | apply Only.inc | apply Only.ite | apply State.failLane_only | apply State.jLane_only | exact h4 _ | exact h9 _ | exact h11 _ | exact h12 _ | exact h13 _ | exact h14 _ | exact h15 _ | exact h16 _ | exact h18 _ | exact h19 _ | exact h20 _ | exact h21 _ | exact h22 _ | exact h23 _ | exact h24 _ | exact h25 _ | exact h26 _ | exact h27 _ | exact h28 _ | exact h29 _ | exact h30 _ | exact h31 _ | exact h33 _ | intro _ | exact Only.of_pair ‹_ = (_, _)› ‹_› | apply Only.of_pair ‹_ = (_, _)› | dsimp only | split | apply Only.w_lanes

theorem State.axisInput_only {k : Fin 48} {a : Fin 4} {q : Nat} {y : Int} (h : Only P s u) (h1 : P (.ax a)) :
    Only P s (State.axisInput u k a q y) := by
  with_reducible
    unfold State.axisInput
    repeat' first | assumption | apply Only.modAx | intro _ | exact Only.of_pair ‹_ = (_, _)› ‹_› | apply Only.of_pair ‹_ = (_, _)› | dsimp only | split

theorem State.deliver_only {k : Fin 48} {y : Int} (h : Only P s u) (h1 : P .outs) (h2 : ∀ (y1 : Fin 4), P (.ax y1)) (h3 : ∀ (y1 : Nat), P (.obj (A_FAULT_STATE y1))) :
    Only P s (State.deliver u k y) := by
  with_reducible
    unfold State.deliver
    repeat' first | assumption | apply Only.emit | apply Only.ite | apply State.axisInput_only | apply State.leaveLevel_only | exact h2 _ | exact h3 _ | intro _ | exact Only.of_pair ‹_ = (_, _)› ‹_› | apply Only.of_pair ‹_ = (_, _)› | dsimp only | split

theorem State.completeRun_only {k : Fin 48} {r : Run} {h0 : Hist} (h : Only P s u) (h1 : P (.obj (K_X ↑k))) (h2 : P (.obj (K_RUNS ↑k))) (h3 : P (.obj (K_SAT_COUNT ↑k))) (h4 : P (.obj (K_CLAMP_COUNT ↑k))) (h5 : P (.obj (K_Y ↑k))) (h6 : P (.obj (K_LAST_DELAY ↑k))) (h7 : P (.obj (K_MAX_DELAY ↑k))) (h8 : P .outs) (h9 : ∀ (y1 : Fin 4), P (.ax y1)) (h10 : ∀ (y1 : Nat), P (.obj (A_FAULT_STATE y1))) (h11 : P .freeCtr) (h12 : P .cap) (h13 : ∀ (y1 : Fin 48), P (.slot y1)) (h14 : ∀ (y1 : Fin 48), P (.obj (K_OVERRUN ↑y1))) :
    Only P s (State.completeRun u k r h0) := by
  with_reducible
    unfold State.completeRun
    repeat' first | assumption | apply Only.set | apply Only.inc | apply Only.modSlot | apply Only.ite | apply State.chain_only | apply State.deliver_only | exact h9 _ | exact h10 _ | exact h13 _ | exact h14 _ | intro _ | exact Only.of_pair ‹_ = (_, _)› ‹_› | apply Only.of_pair ‹_ = (_, _)› | dsimp only | split

theorem State.twinRun_only {k : Fin 48} {r : Run} {compared : Bool} (h : Only P s u) (h1 : P .lanes) :
    Only P s (State.twinRun u k r compared) := by
  with_reducible
    unfold State.twinRun
    repeat' first | assumption | apply Only.ite | intro _ | exact Only.of_pair ‹_ = (_, _)› ‹_› | apply Only.of_pair ‹_ = (_, _)› | dsimp only | split | apply Only.w_lanes

theorem State.slotOutput_only {k : Fin 48} {pass : Bool} {twinPass : Bool} (h : Only P s u) (h1 : P .lanes) (h2 : P (.obj (K_X ↑k))) (h3 : P (.obj (K_RUNS ↑k))) (h4 : P (.obj (K_SAT_COUNT ↑k))) (h5 : P (.obj (K_CLAMP_COUNT ↑k))) (h6 : P (.obj (K_Y ↑k))) (h7 : P (.obj (K_LAST_DELAY ↑k))) (h8 : P (.obj (K_MAX_DELAY ↑k))) (h9 : P .outs) (h10 : ∀ (y1 : Fin 4), P (.ax y1)) (h11 : ∀ (y1 : Nat), P (.obj (A_FAULT_STATE y1))) (h12 : P .freeCtr) (h13 : P .cap) (h14 : ∀ (y1 : Fin 48), P (.slot y1)) (h15 : ∀ (y1 : Fin 48), P (.obj (K_OVERRUN ↑y1))) (h16 : P (.obj K_RESIDUE_FAULTS)) (h17 : P .raised) (h18 : ∀ (y1 : Nat), P (.obj (PW_DOM_STATE y1))) (h19 : P .power) (h20 : P (.obj PW_DAMP_QUEUE)) (h21 : P (.obj PW_DAMP_MAX_Q)) (h22 : ∀ (y1 : Nat), P (.obj (IS_STATE y1))) (h23 : P (.obj K_SPARE_AVAIL)) (h24 : ∀ (y1 : Nat), P (.obj (K_LANE_MAP y1))) (h25 : ∀ (y1 : Nat), P (.obj (K_LANE_STATE y1))) (h26 : ∀ (y1 : Fin 4), P (.obj (G_STATE ↑y1))) (h27 : ∀ (y1 : Fin 4), P (.obj (G_VALUE ↑y1))) (h28 : ∀ (y1 : Fin 4), P (.gen y1)) (h29 : P (.obj S_BLW_ACTIVE)) (h30 : ∀ (y1 : Fin 4), P (.obj (A_SECTIONS ↑y1))) (h31 : ∀ (y1 : Fin 4), P (.obj (A_CASCADE_SECTIONS ↑y1))) (h32 : ∀ (y1 : Fin 4), P (.obj (A_FAULT_STATE ↑y1))) (h33 : ∀ (y1 : Fin 18), P (.hb y1)) (h34 : ∀ (y1 : Fin 18), P (.obj (S_GATE_I ↑y1))) (h35 : ∀ (y1 : Fin 6), P (.sec y1)) (h36 : ∀ (y1 : Fin 6), P (.obj (S_ENABLE ↑y1))) (h37 : ∀ (y1 : Fin 6), P (.obj (S_STATE ↑y1))) (h38 : ∀ (y1 : Fin 6), P (.obj (S_DEG_PHASE ↑y1))) (h39 : ∀ (y1 : Fin 6), P (.obj (S_STEP ↑y1))) (h40 : ∀ (y1 : Fin 6), P (.obj (S_FUS_STATE ↑y1))) (h41 : ∀ (y1 : Fin 6), P (.obj (S_LOCK_STATE ↑y1))) (h42 : ∀ (y1 : Fin 6), P (.obj (S_Q_LAST ↑y1))) (h43 : P (.obj S_DEV_FAULT)) :
    Only P s (State.slotOutput u k pass twinPass) := by
  with_reducible
    unfold State.slotOutput
    repeat' first | assumption | apply Only.modSlot | apply Only.ite | apply State.completeRun_only | apply State.residueFault_only | apply State.twinRun_only | exact h10 _ | exact h11 _ | exact h14 _ | exact h15 _ | exact h18 _ | exact h22 _ | exact h24 _ | exact h25 _ | exact h26 _ | exact h27 _ | exact h28 _ | exact h30 _ | exact h31 _ | exact h32 _ | exact h33 _ | exact h34 _ | exact h35 _ | exact h36 _ | exact h37 _ | exact h38 _ | exact h39 _ | exact h40 _ | exact h41 _ | exact h42 _ | intro _ | exact Only.of_pair ‹_ = (_, _)› ‹_› | apply Only.of_pair ‹_ = (_, _)› | dsimp only | split

theorem State.histDirect_only {k : Fin 48} {op : HistOp} (h : Only P s u) (h1 : P (.slot k)) :
    Only P s (State.histDirect u k op) := by
  with_reducible
    unfold State.histDirect
    repeat' first | assumption | apply Only.modSlot | apply Only.ite | intro _ | dsimp only | split

theorem State.prepareSlot_only {k : Fin 48} {vs : List (Nat × Int)} (h : Only P s u) (h1 : P (.slot k)) :
    Only P s (State.prepareSlot u k vs) := by
  with_reducible
    unfold State.prepareSlot
    repeat' first | assumption | apply Only.modSlot | intro _ | dsimp only | split | apply Only.foldl | apply Only.foldl_pair

theorem State.unprepareSlot_only {k : Fin 48} (h : Only P s u) (h1 : P (.slot k)) :
    Only P s (State.unprepareSlot u k) := by
  with_reducible
    unfold State.unprepareSlot
    repeat' first | assumption | apply Only.modSlot | intro _ | dsimp only | split

theorem State.flipSlot_only {k : Fin 48} (h : Only P s u) (h1 : P (.slot k)) (h2 : P (.obj (K_BANK ↑k))) (h3 : P (.obj S_BLW_ACTIVE)) (h4 : P .raised) (h5 : ∀ (y1 : Fin 4), P (.obj (A_SECTIONS ↑y1))) (h6 : ∀ (y1 : Fin 4), P (.obj (A_CASCADE_SECTIONS ↑y1))) (h7 : ∀ (y1 : Fin 4), P (.ax y1)) (h8 : ∀ (y1 : Fin 4), P (.obj (A_FAULT_STATE ↑y1))) (h9 : ∀ (y1 : Fin 18), P (.hb y1)) (h10 : ∀ (y1 : Fin 18), P (.obj (S_GATE_I ↑y1))) (h11 : ∀ (y1 : Fin 6), P (.sec y1)) (h12 : ∀ (y1 : Fin 6), P (.obj (S_ENABLE ↑y1))) (h13 : ∀ (y1 : Fin 6), P (.obj (S_STATE ↑y1))) (h14 : ∀ (y1 : Fin 6), P (.obj (S_DEG_PHASE ↑y1))) (h15 : ∀ (y1 : Fin 6), P (.obj (S_STEP ↑y1))) (h16 : ∀ (y1 : Fin 6), P (.obj (S_FUS_STATE ↑y1))) (h17 : ∀ (y1 : Fin 6), P (.obj (S_LOCK_STATE ↑y1))) (h18 : ∀ (y1 : Fin 6), P (.obj (S_Q_LAST ↑y1))) (h19 : P (.obj S_DEV_FAULT)) (h20 : ∀ (y1 : Nat), P (.obj (A_FAULT_STATE y1))) :
    Only P s (State.flipSlot u k) := by
  with_reducible
    unfold State.flipSlot
    repeat' first | assumption | apply Only.set | apply Only.modSlot | apply Only.ite | apply State.loseSink_only | exact h5 _ | exact h6 _ | exact h7 _ | exact h8 _ | exact h9 _ | exact h10 _ | exact h11 _ | exact h12 _ | exact h13 _ | exact h14 _ | exact h15 _ | exact h16 _ | exact h17 _ | exact h18 _ | exact h20 _ | intro _ | dsimp only | split

theorem State.setComing_only {k : Fin 48} {l : List (Nat × Nat × Int × Nat)} (h : Only P s u) (h1 : P .lanes) :
    Only P s (State.setComing u k l) := by
  with_reducible
    unfold State.setComing
    repeat' first | assumption | intro _ | exact Only.of_pair ‹_ = (_, _)› ‹_› | apply Only.of_pair ‹_ = (_, _)› | dsimp only | split | apply Only.w_lanes

theorem State.sendCoef_only {k : Fin 48} {sub : Nat} {v : Int} (h : Only P s u) (h1 : P .lanes) (h2 : P (.obj (K_SET_VER ↑k))) :
    Only P s (State.sendCoef u k sub v) := by
  with_reducible
    unfold State.sendCoef
    repeat' first | assumption | apply Only.addCount | apply State.setComing_only | intro _ | dsimp only | split

theorem State.applyCoef_only {k : Fin 48} (h : Only P s u) (h1 : P .lanes) (h2 : P (.slot k)) :
    Only P s (State.applyCoef u k) := by
  with_reducible
    unfold State.applyCoef
    repeat' first | assumption | apply Only.modSlot | apply Only.ite | apply State.setComing_only | intro _ | exact Only.of_pair ‹_ = (_, _)› ‹_› | apply Only.of_pair ‹_ = (_, _)› | dsimp only | split

theorem State.overtake_only {k : Fin 48} {subs : List Nat} (h : Only P s u) (h1 : P .lanes) :
    Only P s (State.overtake u k subs) := by
  with_reducible
    unfold State.overtake
    repeat' first | assumption | apply State.setComing_only | intro _ | dsimp only | split

theorem State.verFlip_only {k : Fin 48} (h : Only P s u) (h1 : P (.obj (K_SET_VER ↑k))) :
    Only P s (State.verFlip u k) := by
  with_reducible
    unfold State.verFlip
    repeat' first | assumption | apply Only.addCount | apply Only.ite | intro _ | dsimp only | split

theorem State.startRotation_only (h : Only P s u) (h1 : P .lanes) (h2 : ∀ (y1 : Nat), P (.obj (K_LANE_STATE y1))) (h3 : ∀ (y1 : Nat), P (.obj (PW_DOM_STATE y1))) (h4 : P .power) (h5 : P (.obj PW_DAMP_QUEUE)) (h6 : P (.obj PW_DAMP_MAX_Q)) (h7 : ∀ (y1 : Nat), P (.obj (IS_STATE y1))) (h8 : P (.obj K_SPARE_AVAIL)) :
    Only P s (State.startRotation u) := by
  with_reducible
    unfold State.startRotation
    repeat' first | assumption | apply Only.ite | apply State.setLane_only | exact h2 _ | exact h3 _ | exact h7 _ | intro _ | exact Only.of_pair ‹_ = (_, _)› ‹_› | apply Only.of_pair ‹_ = (_, _)› | dsimp only | split | apply Only.w_lanes

theorem State.rotationCopy_only {k : Fin 48} (h : Only P s u) (h1 : P .lanes) :
    Only P s (State.rotationCopy u k) := by
  with_reducible
    unfold State.rotationCopy
    repeat' first | assumption | apply Only.ite | intro _ | exact Only.of_pair ‹_ = (_, _)› ‹_› | apply Only.of_pair ‹_ = (_, _)› | dsimp only | split | apply Only.w_lanes

theorem State.twinEnd_only {mismatch : Option (Fin 48)} {y : Int} {yt : Int} (h : Only P s u) (h1 : P .lanes) (h2 : ∀ (y1 : Nat), P (.obj (K_LANE_STATE y1))) (h3 : ∀ (y1 : Nat), P (.obj (PW_DOM_STATE y1))) (h4 : P .power) (h5 : P (.obj PW_DAMP_QUEUE)) (h6 : P (.obj PW_DAMP_MAX_Q)) (h7 : ∀ (y1 : Nat), P (.obj (IS_STATE y1))) (h8 : P (.obj K_SPARE_AVAIL)) (h9 : P .raised) (h10 : ∀ (y1 : Nat), P (.obj (K_LANE_MAP y1))) :
    Only P s (State.twinEnd u mismatch y yt) := by
  with_reducible
    unfold State.twinEnd
    repeat' first | assumption | apply Only.ite | apply State.handIfOver_only | apply State.jLane_only | apply State.setLane_only | exact h2 _ | exact h3 _ | exact h7 _ | exact h10 _ | intro _ | exact Only.of_pair ‹_ = (_, _)› ‹_› | apply Only.of_pair ‹_ = (_, _)› | dsimp only | split | apply Only.w_lanes

theorem State.selfTestEnd_only {p : Nat} {pass : Bool} (h : Only P s u) (h1 : P .lanes) (h2 : ∀ (y1 : Nat), P (.obj (K_LANE_MAP y1))) (h3 : P (.obj (PW_DOM_STATE (72 + p)))) (h4 : P .power) (h5 : P (.obj PW_DAMP_QUEUE)) (h6 : P (.obj PW_DAMP_MAX_Q)) (h7 : ∀ (y1 : Nat), P (.obj (IS_STATE y1))) (h8 : P (.obj K_SPARE_AVAIL)) (h9 : ∀ (y1 : Nat), P (.obj (K_LANE_STATE y1))) (h10 : ∀ (y1 : Nat), P (.obj (PW_DOM_STATE y1))) (h11 : P .raised) (h12 : P (.obj K_TWIN_MISMATCH)) :
    Only P s (State.selfTestEnd u p pass) := by
  with_reducible
    unfold State.selfTestEnd
    repeat' first | assumption | apply Only.inc | apply Only.ite | apply State.handLane_only | apply State.jLane_only | apply State.setLane_only | exact h2 _ | exact h7 _ | exact h9 _ | exact h10 _ | intro _ | exact Only.of_pair ‹_ = (_, _)› ‹_› | apply Only.of_pair ‹_ = (_, _)› | dsimp only | split | apply Only.w_lanes

/-! ### Protect -/

theorem State.brakeAccount_only {x : Fin 6} (h : Only P s u) (h1 : P (.sec x)) (h2 : P (.obj (S_BRK_TIME ↑x))) :
    Only P s (State.brakeAccount u x) := by
  with_reducible
    unfold State.brakeAccount
    repeat' first | assumption | apply Only.set | apply Only.modSec | apply Only.ite | intro _ | exact Only.of_pair ‹_ = (_, _)› ‹_› | apply Only.of_pair ‹_ = (_, _)› | dsimp only | split

theorem State.brakeSample_only {x : Fin 6} {v : Int} (h : Only P s u) (h1 : P (.sec x)) (h2 : P (.obj (S_BRK_TIME ↑x))) (h3 : P (.obj (S_BRK_DUTY ↑x))) :
    Only P s (State.brakeSample u x v) := by
  with_reducible
    unfold State.brakeSample
    repeat' first | assumption | apply Only.set | apply Only.modSec | apply Only.ite | apply State.brakeAccount_only | intro _ | exact Only.of_pair ‹_ = (_, _)› ‹_› | apply Only.of_pair ‹_ = (_, _)› | dsimp only | split

theorem State.brakePeriod_only {x : Fin 6} (h : Only P s u) (h1 : P (.sec x)) (h2 : P (.obj (S_BRK_TIME ↑x))) (h3 : P (.obj (S_BRK_DUTY ↑x))) :
    Only P s (State.brakePeriod u x) := by
  with_reducible
    unfold State.brakePeriod
    repeat' first | assumption | apply Only.set | apply Only.modSec | apply Only.ite | apply State.brakeAccount_only | intro _ | dsimp only | split

theorem State.putCmp_only {x : Fin 6} {p : Fin 3} {c : PhaseCmp} (h : Only P s u) (h1 : P (.sec x)) :
    Only P s (State.putCmp u x p c) := by
  with_reducible
    unfold State.putCmp
    repeat' first | assumption | apply Only.modSec | intro _ | exact Only.of_pair ‹_ = (_, _)› ‹_› | apply Only.of_pair ‹_ = (_, _)› | dsimp only | split

theorem State.discardSample_only {x : Fin 6} {p : Fin 3} (h : Only P s u) (h1 : P (.sec x)) :
    Only P s (State.discardSample u x p) := by
  with_reducible
    unfold State.discardSample
    repeat' first | assumption | apply State.putCmp_only | intro _ | dsimp only | split

theorem State.judgeSample_only {x : Fin 6} {p : Fin 3} (h : Only P s u) (h1 : P (.sec x)) (h2 : P (.obj (S_BEMF_EVENTS ↑x))) :
    Only P s (State.judgeSample u x p) := by
  with_reducible
    unfold State.judgeSample
    repeat' first | assumption | apply Only.inc | apply Only.modSec | apply Only.ite | apply State.putCmp_only | intro _ | exact Only.of_pair ‹_ = (_, _)› ‹_› | apply Only.of_pair ‹_ = (_, _)› | dsimp only | split

theorem State.bemfRound_only {x : Fin 6} (h : Only P s u) (h1 : P (.sec x)) (h2 : P (.obj (S_BEMF_EVENTS ↑x))) :
    Only P s (State.bemfRound u x) := by
  with_reducible
    unfold State.bemfRound
    repeat' first | assumption | apply Only.modSec | apply Only.each | apply Only.ite | apply State.discardSample_only | apply State.judgeSample_only | intro _ | exact Only.of_pair ‹_ = (_, _)› ‹_› | apply Only.of_pair ‹_ = (_, _)› | dsimp only | split

theorem State.checkNode_only {x : Fin 6} {p : Fin 3} {v : Nat} (h : Only P s u) (h1 : P (.hb (hbOf x p))) (h2 : P (.obj FW_ST_FAILS)) (h3 : P .raised) (h4 : ∀ (y1 : Fin 6), P (.sec y1)) (h5 : P (.obj S_BLW_ACTIVE)) (h6 : ∀ (y1 : Fin 6), P (.obj (S_ENABLE ↑y1))) (h7 : ∀ (y1 : Fin 6), P (.obj (S_STATE ↑y1))) (h8 : ∀ (y1 : Fin 6), P (.obj (S_DEG_PHASE ↑y1))) (h9 : ∀ (y1 : Fin 6), P (.obj (S_STEP ↑y1))) (h10 : ∀ (y1 : Fin 6), P (.obj (S_FUS_STATE ↑y1))) (h11 : ∀ (y1 : Fin 6), P (.obj (S_LOCK_STATE ↑y1))) (h12 : ∀ (y1 : Fin 4), P (.obj (A_SECTIONS ↑y1))) (h13 : ∀ (y1 : Fin 4), P (.obj (A_CASCADE_SECTIONS ↑y1))) (h14 : ∀ (y1 : Fin 4), P (.ax y1)) (h15 : ∀ (y1 : Fin 4), P (.obj (A_FAULT_STATE ↑y1))) (h16 : ∀ (y1 : Fin 6), P (.obj (S_Q_LAST ↑y1))) (h17 : ∀ (y1 : Fin 18), P (.hb y1)) (h18 : ∀ (y1 : Fin 18), P (.obj (S_GATE_I ↑y1))) (h19 : P (.obj S_DEV_FAULT)) :
    Only P s (State.checkNode u x p v) := by
  with_reducible
    unfold State.checkNode
    repeat' first | assumption | apply Only.modHb | apply Only.ite | apply State.selfTestFail_only | rw [secOf_hbOf] | exact h4 _ | exact h6 _ | exact h7 _ | exact h8 _ | exact h9 _ | exact h10 _ | exact h11 _ | exact h12 _ | exact h13 _ | exact h14 _ | exact h15 _ | exact h16 _ | exact h17 _ | exact h18 _ | intro _ | dsimp only | split

theorem State.voltage_only {x : Fin 6} {ch : Fin 4} {v : Nat} (h : Only P s u) (h1 : ∀ (y1 : Fin 18), P (.hb y1)) (h2 : P (.obj FW_ST_FAILS)) (h3 : P .raised) (h4 : ∀ (y1 : Fin 6), P (.sec y1)) (h5 : P (.obj S_BLW_ACTIVE)) (h6 : ∀ (y1 : Fin 6), P (.obj (S_ENABLE ↑y1))) (h7 : ∀ (y1 : Fin 6), P (.obj (S_STATE ↑y1))) (h8 : ∀ (y1 : Fin 6), P (.obj (S_DEG_PHASE ↑y1))) (h9 : ∀ (y1 : Fin 6), P (.obj (S_STEP ↑y1))) (h10 : ∀ (y1 : Fin 6), P (.obj (S_FUS_STATE ↑y1))) (h11 : ∀ (y1 : Fin 6), P (.obj (S_LOCK_STATE ↑y1))) (h12 : ∀ (y1 : Fin 4), P (.obj (A_SECTIONS ↑y1))) (h13 : ∀ (y1 : Fin 4), P (.obj (A_CASCADE_SECTIONS ↑y1))) (h14 : ∀ (y1 : Fin 4), P (.ax y1)) (h15 : ∀ (y1 : Fin 4), P (.obj (A_FAULT_STATE ↑y1))) (h16 : ∀ (y1 : Fin 6), P (.obj (S_Q_LAST ↑y1))) (h17 : ∀ (y1 : Fin 18), P (.obj (S_GATE_I ↑y1))) (h18 : P (.obj S_DEV_FAULT)) (h19 : P (.obj (S_DC_LINK ↑x))) (h20 : P (.obj (S_BEMF_EVENTS ↑x))) (h21 : P (.obj (S_BRK_TIME ↑x))) (h22 : P (.obj (S_BRK_DUTY ↑x))) (h23 : P .cap) (h24 : ∀ (y1 : Fin 48), P (.slot y1)) (h25 : ∀ (y1 : Fin 48), P (.obj (K_OVERRUN ↑y1))) :
    Only P s (State.voltage u x ch v) := by
  with_reducible
    unfold State.voltage
    repeat' first | assumption | apply Only.set | apply Only.modSec | apply State.arrive_only | apply State.bemfRound_only | apply State.brakeSample_only | apply State.checkNode_only | exact h1 _ | exact h4 _ | exact h6 _ | exact h7 _ | exact h8 _ | exact h9 _ | exact h10 _ | exact h11 _ | exact h12 _ | exact h13 _ | exact h14 _ | exact h15 _ | exact h16 _ | exact h17 _ | exact h24 _ | exact h25 _ | intro _ | exact Only.of_pair ‹_ = (_, _)› ‹_› | apply Only.of_pair ‹_ = (_, _)› | dsimp only | split

theorem State.overcurrent_only {x : Fin 6} (h : Only P s u) (h1 : P (.obj S_BLW_ACTIVE)) (h2 : ∀ (y1 : Fin 18), P (.hb y1)) (h3 : ∀ (y1 : Fin 18), P (.obj (S_GATE_I ↑y1))) (h4 : P (.obj (S_Q_LATCH ↑x))) (h5 : ∀ (y1 : Fin 18), P (.obj (S_Q_CAUSE ↑y1))) (h6 : ∀ (y1 : Fin 18), P (.obj (S_Q_COUNT ↑y1))) (h7 : P (.obj (S_Q_TRIPS ↑x))) (h8 : P .raised) (h9 : ∀ (y1 : Fin 4), P (.obj (A_SECTIONS ↑y1))) (h10 : ∀ (y1 : Fin 4), P (.obj (A_CASCADE_SECTIONS ↑y1))) (h11 : ∀ (y1 : Fin 4), P (.ax y1)) (h12 : ∀ (y1 : Fin 4), P (.obj (A_FAULT_STATE ↑y1))) (h13 : ∀ (y1 : Fin 6), P (.sec y1)) (h14 : ∀ (y1 : Fin 6), P (.obj (S_ENABLE ↑y1))) (h15 : ∀ (y1 : Fin 6), P (.obj (S_STATE ↑y1))) (h16 : ∀ (y1 : Fin 6), P (.obj (S_DEG_PHASE ↑y1))) (h17 : ∀ (y1 : Fin 6), P (.obj (S_STEP ↑y1))) (h18 : ∀ (y1 : Fin 6), P (.obj (S_FUS_STATE ↑y1))) (h19 : ∀ (y1 : Fin 6), P (.obj (S_LOCK_STATE ↑y1))) (h20 : ∀ (y1 : Fin 6), P (.obj (S_Q_LAST ↑y1))) (h21 : P (.obj S_DEV_FAULT)) :
    Only P s (State.overcurrent u x) := by
  with_reducible
    unfold State.overcurrent
    repeat' first | assumption | apply Only.modHb | apply Only.each | apply Only.ite | apply State.trip_only | rw [secOf_hbOf] | exact h2 _ | exact h3 _ | exact h5 _ | exact h6 _ | exact h9 _ | exact h10 _ | exact h11 _ | exact h12 _ | exact h13 _ | exact h14 _ | exact h15 _ | exact h16 _ | exact h17 _ | exact h18 _ | exact h19 _ | exact h20 _ | intro _ | dsimp only | split

theorem State.checkSum_only {x : Fin 6} {sum : Int} (h : Only P s u) (h1 : P (.obj FW_ST_FAILS)) (h2 : P .raised) (h3 : ∀ (y1 : Fin 6), P (.sec y1)) (h4 : P (.obj S_BLW_ACTIVE)) (h5 : ∀ (y1 : Fin 6), P (.obj (S_ENABLE ↑y1))) (h6 : ∀ (y1 : Fin 6), P (.obj (S_STATE ↑y1))) (h7 : ∀ (y1 : Fin 6), P (.obj (S_DEG_PHASE ↑y1))) (h8 : ∀ (y1 : Fin 6), P (.obj (S_STEP ↑y1))) (h9 : ∀ (y1 : Fin 6), P (.obj (S_FUS_STATE ↑y1))) (h10 : ∀ (y1 : Fin 6), P (.obj (S_LOCK_STATE ↑y1))) (h11 : ∀ (y1 : Fin 4), P (.obj (A_SECTIONS ↑y1))) (h12 : ∀ (y1 : Fin 4), P (.obj (A_CASCADE_SECTIONS ↑y1))) (h13 : ∀ (y1 : Fin 4), P (.ax y1)) (h14 : ∀ (y1 : Fin 4), P (.obj (A_FAULT_STATE ↑y1))) (h15 : ∀ (y1 : Fin 6), P (.obj (S_Q_LAST ↑y1))) (h16 : ∀ (y1 : Fin 18), P (.hb y1)) (h17 : ∀ (y1 : Fin 18), P (.obj (S_GATE_I ↑y1))) (h18 : P (.obj S_DEV_FAULT)) :
    Only P s (State.checkSum u x sum) := by
  with_reducible
    unfold State.checkSum
    repeat' first | assumption | apply Only.modSec | apply Only.ite | apply State.selfTestFail_only | exact h3 _ | exact h5 _ | exact h6 _ | exact h7 _ | exact h8 _ | exact h9 _ | exact h10 _ | exact h11 _ | exact h12 _ | exact h13 _ | exact h14 _ | exact h15 _ | exact h16 _ | exact h17 _ | intro _ | exact Only.of_pair ‹_ = (_, _)› ‹_› | apply Only.of_pair ‹_ = (_, _)› | dsimp only | split

theorem State.current_only {x : Fin 6} {iu : Int} {iv : Int} (h : Only P s u) (h1 : P (.obj S_BLW_ACTIVE)) (h2 : ∀ (y1 : Fin 18), P (.hb y1)) (h3 : ∀ (y1 : Fin 18), P (.obj (S_GATE_I ↑y1))) (h4 : P (.obj (S_Q_LATCH ↑x))) (h5 : ∀ (y1 : Fin 18), P (.obj (S_Q_CAUSE ↑y1))) (h6 : ∀ (y1 : Fin 18), P (.obj (S_Q_COUNT ↑y1))) (h7 : P (.obj (S_Q_TRIPS ↑x))) (h8 : P .raised) (h9 : ∀ (y1 : Fin 4), P (.obj (A_SECTIONS ↑y1))) (h10 : ∀ (y1 : Fin 4), P (.obj (A_CASCADE_SECTIONS ↑y1))) (h11 : ∀ (y1 : Fin 4), P (.ax y1)) (h12 : ∀ (y1 : Fin 4), P (.obj (A_FAULT_STATE ↑y1))) (h13 : ∀ (y1 : Fin 6), P (.sec y1)) (h14 : ∀ (y1 : Fin 6), P (.obj (S_ENABLE ↑y1))) (h15 : ∀ (y1 : Fin 6), P (.obj (S_STATE ↑y1))) (h16 : ∀ (y1 : Fin 6), P (.obj (S_DEG_PHASE ↑y1))) (h17 : ∀ (y1 : Fin 6), P (.obj (S_STEP ↑y1))) (h18 : ∀ (y1 : Fin 6), P (.obj (S_FUS_STATE ↑y1))) (h19 : ∀ (y1 : Fin 6), P (.obj (S_LOCK_STATE ↑y1))) (h20 : ∀ (y1 : Fin 6), P (.obj (S_Q_LAST ↑y1))) (h21 : P (.obj S_DEV_FAULT)) (h22 : P (.obj FW_ST_FAILS)) (h23 : P .cap) (h24 : ∀ (y1 : Fin 48), P (.slot y1)) (h25 : ∀ (y1 : Fin 48), P (.obj (K_OVERRUN ↑y1))) :
    Only P s (State.current u x iu iv) := by
  with_reducible
    unfold State.current
    repeat' first | assumption | apply Only.modSec | apply Only.modHb | apply Only.each | apply Only.ite | apply State.arrive_only | apply State.checkSum_only | apply State.endOnTime_only | apply State.overcurrent_only | rw [secOf_hbOf] | exact h2 _ | exact h3 _ | exact h5 _ | exact h6 _ | exact h9 _ | exact h10 _ | exact h11 _ | exact h12 _ | exact h13 _ | exact h14 _ | exact h15 _ | exact h16 _ | exact h17 _ | exact h18 _ | exact h19 _ | exact h20 _ | exact h24 _ | exact h25 _ | intro _ | exact Only.of_pair ‹_ = (_, _)› ‹_› | apply Only.of_pair ‹_ = (_, _)› | dsimp only | split

theorem State.vpdTrip_only (h : Only P s u) (h1 : P (.obj PW_RAIL_STATUS)) (h2 : P (.obj S_BLW_ACTIVE)) (h3 : ∀ (y1 : Fin 18), P (.hb y1)) (h4 : ∀ (y1 : Fin 18), P (.obj (S_GATE_I ↑y1))) (h5 : ∀ (y1 : Fin 18), P (.obj (S_Q_LATCH ↑(secOf y1)))) (h6 : ∀ (y1 : Fin 18), P (.obj (S_Q_CAUSE ↑y1))) (h7 : ∀ (y1 : Fin 18), P (.obj (S_Q_COUNT ↑y1))) (h8 : ∀ (y1 : Fin 18), P (.obj (S_Q_TRIPS ↑(secOf y1)))) (h9 : ∀ (y1 : Fin 6), P (.sec y1)) (h10 : ∀ (y1 : Fin 6), P (.obj (S_ENABLE ↑y1))) (h11 : ∀ (y1 : Fin 6), P (.obj (S_STATE ↑y1))) (h12 : ∀ (y1 : Fin 6), P (.obj (S_DEG_PHASE ↑y1))) (h13 : ∀ (y1 : Fin 6), P (.obj (S_STEP ↑y1))) (h14 : ∀ (y1 : Fin 6), P (.obj (S_FUS_STATE ↑y1))) (h15 : ∀ (y1 : Fin 6), P (.obj (S_LOCK_STATE ↑y1))) (h16 : P .raised) (h17 : ∀ (y1 : Fin 6), P (.obj (S_Q_LAST ↑y1))) (h18 : ∀ (y1 : Fin 4), P (.obj (A_SECTIONS ↑y1))) (h19 : ∀ (y1 : Fin 4), P (.obj (A_CASCADE_SECTIONS ↑y1))) (h20 : ∀ (y1 : Fin 4), P (.ax y1)) (h21 : ∀ (y1 : Fin 4), P (.obj (A_FAULT_STATE ↑y1))) (h22 : P (.obj S_DEV_FAULT)) :
    Only P s (State.vpdTrip u) := by
  with_reducible
    unfold State.vpdTrip
    repeat' first | assumption | apply Only.orBits | apply Only.modHb | apply Only.each | apply State.tripVpd_only | exact h3 _ | exact h4 _ | exact h5 _ | exact h6 _ | exact h7 _ | exact h8 _ | exact h9 _ | exact h10 _ | exact h11 _ | exact h12 _ | exact h13 _ | exact h14 _ | exact h15 _ | exact h17 _ | exact h18 _ | exact h19 _ | exact h20 _ | exact h21 _ | intro _ | dsimp only | split

/-! ### Observer -/

theorem State.fluxUpdate_only {x : Fin 6} (h : Only P s u) (h1 : P (.sec x)) :
    Only P s (State.fluxUpdate u x) := by
  with_reducible
    unfold State.fluxUpdate
    repeat' first | assumption | apply Only.modSec | rw [secOf_hbOf] | intro _ | exact Only.of_pair ‹_ = (_, _)› ‹_› | apply Only.of_pair ‹_ = (_, _)› | dsimp only | split

theorem State.present_only {a : Fin 4} {x : Fin 6} (h : Only P s u) (h1 : P (.obj (S_EST_WEIGHT ↑x))) (h2 : P (.sec x)) (h3 : P (.obj (S_EST_ANGLE ↑x))) (h4 : P (.obj (S_EST_FE ↑x))) :
    Only P s (State.present u a x) := by
  with_reducible
    unfold State.present
    repeat' first | assumption | apply Only.set | apply Only.modSec | apply Only.ite | intro _ | exact Only.of_pair ‹_ = (_, _)› ‹_› | apply Only.of_pair ‹_ = (_, _)› | dsimp only | split

theorem State.blendPreload_only {a : Fin 4} (h : Only P s u) (h1 : P (.ax a)) (h2 : ∀ (y1 : Fin 48), P (.slot y1)) :
    Only P s (State.blendPreload u a) := by
  with_reducible
    unfold State.blendPreload
    repeat' first | assumption | apply Only.modAx | apply Only.each | apply Only.ite | apply State.histDirect_only | exact h2 _ | intro _ | dsimp only | split

theorem State.enterStageAt_only {a : Fin 4} {st : Nat} {t0 : Nat} (h : Only P s u) (h1 : P (.obj (A_START_STAGE ↑a))) (h2 : P (.ax a)) (h3 : ∀ (y1 : Fin 48), P (.slot y1)) (h4 : ∀ (y1 : Fin 6) (y2 : Fin 3), P (.hb (hbOf y1 y2))) (h5 : ∀ (y1 : Fin 6) (y2 : Fin 3), P (.obj (S_GATE_I ↑(hbOf y1 y2)))) (h6 : ∀ (y1 : Fin 6), P (.sec y1)) (h7 : P .raised) :
    Only P s (State.enterStageAt u a st t0) := by
  with_reducible
    unfold State.enterStageAt
    repeat' first | assumption | apply Only.set | apply Only.modAx | apply Only.each | apply Only.ite | apply State.blendPreload_only | apply State.drive_only | apply State.jFus_only | exact h3 _ | exact h4 _ _ | exact h5 _ _ | exact h6 _ | intro _ | exact Only.of_pair ‹_ = (_, _)› ‹_› | apply Only.of_pair ‹_ = (_, _)› | dsimp only | split

theorem State.enterStage_only {a : Fin 4} {st : Nat} (h : Only P s u) (h1 : P (.obj (A_START_STAGE ↑a))) (h2 : P (.ax a)) (h3 : ∀ (y1 : Fin 48), P (.slot y1)) (h4 : ∀ (y1 : Fin 6) (y2 : Fin 3), P (.hb (hbOf y1 y2))) (h5 : ∀ (y1 : Fin 6) (y2 : Fin 3), P (.obj (S_GATE_I ↑(hbOf y1 y2)))) (h6 : ∀ (y1 : Fin 6), P (.sec y1)) (h7 : P .raised) :
    Only P s (State.enterStage u a st) := by
  with_reducible
    unfold State.enterStage
    repeat' first | assumption | apply State.enterStageAt_only | exact h3 _ | exact h4 _ _ | exact h5 _ _ | exact h6 _ | intro _ | dsimp only | split

theorem State.syncStage_only {a : Fin 4} (h : Only P s u) (h1 : P (.obj (A_START_STAGE ↑a))) (h2 : P (.ax a)) (h3 : ∀ (y1 : Fin 48), P (.slot y1)) (h4 : ∀ (y1 : Fin 6) (y2 : Fin 3), P (.hb (hbOf y1 y2))) (h5 : ∀ (y1 : Fin 6) (y2 : Fin 3), P (.obj (S_GATE_I ↑(hbOf y1 y2)))) (h6 : ∀ (y1 : Fin 6), P (.sec y1)) (h7 : P .raised) :
    Only P s (State.syncStage u a) := by
  with_reducible
    unfold State.syncStage
    repeat' first | assumption | apply Only.set | apply Only.modAx | apply Only.each | apply Only.ite | apply State.drive_only | apply State.enterStage_only | exact h3 _ | exact h4 _ _ | exact h5 _ _ | exact h6 _ | intro _ | dsimp only | split

theorem State.decideStage_only {a : Fin 4} {st : Nat} (h : Only P s u) (h1 : P (.obj (A_START_STAGE ↑a))) (h2 : P (.ax a)) (h3 : ∀ (y1 : Fin 48), P (.slot y1)) (h4 : ∀ (y1 : Fin 6) (y2 : Fin 3), P (.hb (hbOf y1 y2))) (h5 : ∀ (y1 : Fin 6) (y2 : Fin 3), P (.obj (S_GATE_I ↑(hbOf y1 y2)))) (h6 : ∀ (y1 : Fin 6), P (.sec y1)) (h7 : P .raised) :
    Only P s (State.decideStage u a st) := by
  with_reducible
    unfold State.decideStage
    repeat' first | assumption | apply Only.modAx | apply Only.ite | apply State.enterStage_only | exact h3 _ | exact h4 _ _ | exact h5 _ _ | exact h6 _ | intro _ | dsimp only | split

theorem State.refPhaseAt_only {a : Fin 4} {p : Nat} {t0 : Nat} (h : Only P s u) (h1 : P (.ax a)) (h2 : ∀ (y1 : Fin 48), P (.slot y1)) (h3 : ∀ (y1 : Fin 6) (y2 : Fin 3), P (.hb (hbOf y1 y2))) (h4 : ∀ (y1 : Fin 6) (y2 : Fin 3), P (.obj (S_GATE_I ↑(hbOf y1 y2)))) (h5 : ∀ (y1 : Fin 6), P (.sec y1)) :
    Only P s (State.refPhaseAt u a p t0) := by
  with_reducible
    unfold State.refPhaseAt
    repeat' first | assumption | apply Only.modAx | apply Only.each | apply Only.ite | apply State.blendPreload_only | apply State.drive_only | exact h2 _ | exact h3 _ _ | exact h4 _ _ | exact h5 _ | intro _ | dsimp only | split

theorem State.refPhase_only {a : Fin 4} {p : Nat} (h : Only P s u) (h1 : P (.ax a)) (h2 : ∀ (y1 : Fin 48), P (.slot y1)) (h3 : ∀ (y1 : Fin 6) (y2 : Fin 3), P (.hb (hbOf y1 y2))) (h4 : ∀ (y1 : Fin 6) (y2 : Fin 3), P (.obj (S_GATE_I ↑(hbOf y1 y2)))) (h5 : ∀ (y1 : Fin 6), P (.sec y1)) :
    Only P s (State.refPhase u a p) := by
  with_reducible
    unfold State.refPhase
    repeat' first | assumption | apply State.refPhaseAt_only | exact h2 _ | exact h3 _ _ | exact h4 _ _ | exact h5 _ | intro _ | dsimp only | split

theorem State.decideRef_only {a : Fin 4} {p : Nat} (h : Only P s u) (h1 : P (.ax a)) (h2 : ∀ (y1 : Fin 48), P (.slot y1)) (h3 : ∀ (y1 : Fin 6) (y2 : Fin 3), P (.hb (hbOf y1 y2))) (h4 : ∀ (y1 : Fin 6) (y2 : Fin 3), P (.obj (S_GATE_I ↑(hbOf y1 y2)))) (h5 : ∀ (y1 : Fin 6), P (.sec y1)) :
    Only P s (State.decideRef u a p) := by
  with_reducible
    unfold State.decideRef
    repeat' first | assumption | apply Only.modAx | apply Only.ite | apply State.refPhase_only | exact h2 _ | exact h3 _ _ | exact h4 _ _ | exact h5 _ | intro _ | dsimp only | split

theorem State.retargetAt_only {a : Fin 4} {dir : Int} {tgt : Rat} {t0 : Nat} (h : Only P s u) (h1 : P (.ax a)) :
    Only P s (State.retargetAt u a dir tgt t0) := by
  with_reducible
    unfold State.retargetAt
    repeat' first | assumption | apply Only.modAx | intro _ | dsimp only | split

theorem State.retarget_only {a : Fin 4} {dir : Int} {tgt : Rat} (h : Only P s u) (h1 : P (.ax a)) :
    Only P s (State.retarget u a dir tgt) := by
  with_reducible
    unfold State.retarget
    repeat' first | assumption | apply State.retargetAt_only | intro _ | dsimp only | split

theorem State.startUpdate_only {a : Fin 4} (h : Only P s u) (h1 : P (.obj (A_DIR ↑a))) (h2 : P (.ax a)) (h3 : P (.obj (A_START_STAGE ↑a))) (h4 : ∀ (y1 : Fin 48), P (.slot y1)) (h5 : ∀ (y1 : Fin 6) (y2 : Fin 3), P (.hb (hbOf y1 y2))) (h6 : ∀ (y1 : Fin 6) (y2 : Fin 3), P (.obj (S_GATE_I ↑(hbOf y1 y2)))) (h7 : ∀ (y1 : Fin 6), P (.sec y1)) (h8 : P .raised) :
    Only P s (State.startUpdate u a) := by
  with_reducible
    unfold State.startUpdate
    repeat' first | assumption | apply Only.set | apply Only.modAx | apply Only.ite | apply State.decideStage_only | apply State.retarget_only | exact h4 _ | exact h5 _ _ | exact h6 _ _ | exact h7 _ | intro _ | dsimp only | split

theorem State.qualifySec_only {a : Fin 4} {x : Fin 6} (h : Only P s u) (h1 : P (.obj (S_EST_ERR ↑x))) (h2 : P (.obj (S_FUS_STATE ↑x))) (h3 : P (.sec x)) (h4 : P (.obj (S_FUS_DROPS ↑x))) (h5 : P .raised) (h6 : P (.obj (S_ENABLE ↑x))) (h7 : ∀ (y1 : Fin 3), P (.hb (hbOf x y1))) (h8 : P (.obj S_BLW_ACTIVE)) (h9 : ∀ (y1 : Fin 3), P (.obj (S_GATE_I ↑(hbOf x y1)))) (h10 : P (.obj (S_STATE ↑x))) (h11 : P (.obj (S_DEG_PHASE ↑x))) (h12 : P (.obj (S_STEP ↑x))) (h13 : P (.obj (S_LOCK_STATE ↑x))) (h14 : ∀ (y1 : Fin 4), P (.obj (A_SECTIONS ↑y1))) (h15 : ∀ (y1 : Fin 4), P (.obj (A_CASCADE_SECTIONS ↑y1))) (h16 : ∀ (y1 : Fin 4), P (.ax y1)) (h17 : ∀ (y1 : Fin 4), P (.obj (A_FAULT_STATE ↑y1))) :
    Only P s (State.qualifySec u a x) := by
  with_reducible
    unfold State.qualifySec
    repeat' first | assumption | apply Only.set | apply Only.inc | apply Only.modSec | apply Only.ite | apply State.enableZero_only | apply State.jFus_only | exact h7 _ | exact h9 _ | exact h14 _ | exact h15 _ | exact h16 _ | exact h17 _ | intro _ | exact Only.of_pair ‹_ = (_, _)› ‹_› | apply Only.of_pair ‹_ = (_, _)› | dsimp only | split

theorem State.runningEnds_only {a : Fin 4} (h : Only P s u) (h1 : P (.obj (A_START_STAGE ↑a))) (h2 : P (.ax a)) (h3 : ∀ (y1 : Fin 48), P (.slot y1)) (h4 : ∀ (y1 : Fin 6) (y2 : Fin 3), P (.hb (hbOf y1 y2))) (h5 : ∀ (y1 : Fin 6) (y2 : Fin 3), P (.obj (S_GATE_I ↑(hbOf y1 y2)))) (h6 : ∀ (y1 : Fin 6), P (.sec y1)) (h7 : P .raised) :
    Only P s (State.runningEnds u a) := by
  with_reducible
    unfold State.runningEnds
    repeat' first | assumption | apply Only.ite | apply State.decideStage_only | exact h3 _ | exact h4 _ _ | exact h5 _ _ | exact h6 _ | intro _ | dsimp only | split

theorem State.commMeas_only {a : Fin 4} (h : Only P s u) (h1 : P (.ax a)) (h2 : ∀ (y1 : Fin 2), P (.obj (A_ENC_COMM_MEAS ↑y1))) :
    Only P s (State.commMeas u a) := by
  with_reducible
    unfold State.commMeas
    repeat' first | assumption | apply Only.set | apply Only.modAx | apply Only.ite | exact h2 _ | intro _ | exact Only.of_pair ‹_ = (_, _)› ‹_› | apply Only.of_pair ‹_ = (_, _)› | dsimp only | split

theorem State.posUpdate_only {a : Fin 4} (h : Only P s u) (h1 : P (.obj (A_POS_ACT ↑a))) :
    Only P s (State.posUpdate u a) := by
  with_reducible
    unfold State.posUpdate
    repeat' first | assumption | apply Only.set | intro _ | dsimp only | split

theorem State.fusion_only {a : Fin 4} (h : Only P s u) (h1 : ∀ (y1 : Fin 6), P (.obj (S_EST_WEIGHT ↑y1))) (h2 : ∀ (y1 : Fin 6), P (.sec y1)) (h3 : ∀ (y1 : Fin 6), P (.obj (S_EST_ANGLE ↑y1))) (h4 : ∀ (y1 : Fin 6), P (.obj (S_EST_FE ↑y1))) (h5 : P (.obj (A_FUS_ANGLE ↑a))) (h6 : P (.obj (A_FUS_VALID ↑a))) (h7 : P (.obj (A_FUS_FE ↑a))) (h8 : P (.obj (A_FUS_COUNT ↑a))) (h9 : ∀ (y1 : Fin 6), P (.obj (S_EST_ERR ↑y1))) (h10 : ∀ (y1 : Fin 6), P (.obj (S_FUS_STATE ↑y1))) (h11 : ∀ (y1 : Fin 6), P (.obj (S_FUS_DROPS ↑y1))) (h12 : P .raised) (h13 : ∀ (y1 : Fin 6), P (.obj (S_ENABLE ↑y1))) (h14 : ∀ (y1 : Fin 6) (y2 : Fin 3), P (.hb (hbOf y1 y2))) (h15 : P (.obj S_BLW_ACTIVE)) (h16 : ∀ (y1 : Fin 6) (y2 : Fin 3), P (.obj (S_GATE_I ↑(hbOf y1 y2)))) (h17 : ∀ (y1 : Fin 6), P (.obj (S_STATE ↑y1))) (h18 : ∀ (y1 : Fin 6), P (.obj (S_DEG_PHASE ↑y1))) (h19 : ∀ (y1 : Fin 6), P (.obj (S_STEP ↑y1))) (h20 : ∀ (y1 : Fin 6), P (.obj (S_LOCK_STATE ↑y1))) (h21 : ∀ (y1 : Fin 4), P (.obj (A_SECTIONS ↑y1))) (h22 : ∀ (y1 : Fin 4), P (.obj (A_CASCADE_SECTIONS ↑y1))) (h23 : ∀ (y1 : Fin 4), P (.ax y1)) (h24 : ∀ (y1 : Fin 4), P (.obj (A_FAULT_STATE ↑y1))) (h25 : P (.obj (A_POS_ACT ↑a))) (h26 : ∀ (y1 : Fin 2), P (.obj (A_ENC_COMM_MEAS ↑y1))) (h27 : P (.obj (A_START_STAGE ↑a))) (h28 : ∀ (y1 : Fin 48), P (.slot y1)) :
    Only P s (State.fusion u a) := by
  with_reducible
    unfold State.fusion
    repeat' first | assumption | apply Only.set | apply Only.setFlag | apply Only.modAx | apply Only.each | apply Only.ite | apply State.commMeas_only | apply State.posUpdate_only | apply State.present_only | apply State.qualifySec_only | apply State.runningEnds_only | exact h1 _ | exact h2 _ | exact h3 _ | exact h4 _ | exact h9 _ | exact h10 _ | exact h11 _ | exact h13 _ | exact h14 _ _ | exact h16 _ _ | exact h17 _ | exact h18 _ | exact h19 _ | exact h20 _ | exact h21 _ | exact h22 _ | exact h23 _ | exact h24 _ | exact h26 _ | exact h28 _ | intro _ | exact Only.of_pair ‹_ = (_, _)› ‹_› | apply Only.of_pair ‹_ = (_, _)› | dsimp only | split

theorem State.cascadeFuse_only {a : Fin 4} (h : Only P s u) (h1 : P (.ax a)) (h2 : P .raised) (h3 : P (.obj (A_FUS_DEV_DROPPED ↑a))) :
    Only P s (State.cascadeFuse u a) := by
  with_reducible
    unfold State.cascadeFuse
    repeat' first | assumption | apply Only.set | apply Only.modAx | apply Only.ite | apply State.jFus_only | intro _ | exact Only.of_pair ‹_ = (_, _)› ‹_› | apply Only.of_pair ‹_ = (_, _)› | dsimp only | split | apply Only.foldl | apply Only.foldl_pair

theorem State.applyCascade_only {a : Fin 4} {th : Rat} {fe : Rat} {T : Nat} {valid : Bool} (h : Only P s u) (h1 : P (.ax a)) (h2 : P (.obj (A_FUS_CORR ↑a))) :
    Only P s (State.applyCascade u a th fe T valid) := by
  with_reducible
    unfold State.applyCascade
    repeat' first | assumption | apply Only.set | apply Only.modAx | apply Only.ite | intro _ | exact Only.of_pair ‹_ = (_, _)› ‹_› | apply Only.of_pair ‹_ = (_, _)› | dsimp only | split

/-! ### Motion -/

theorem State.encoderFault_only {e : Fin 2} (h : Only P s u) (h1 : P (.obj (A_ENC_STATUS ↑e))) (h2 : P .raised) (h3 : P (.enc e)) (h4 : ∀ (y1 : Fin 4), P (.ax y1)) (h5 : ∀ (y1 : Fin 4), P (.obj (A_FAULT_STATE ↑y1))) :
    Only P s (State.encoderFault u e) := by
  with_reducible
    unfold State.encoderFault
    repeat' first | assumption | apply Only.orBits | apply Only.modEnc | apply Only.ite | apply State.enterLevel_only | apply State.jMotion_only | exact h4 _ | exact h5 _ | intro _ | exact Only.of_pair ‹_ = (_, _)› ‹_› | apply Only.of_pair ‹_ = (_, _)› | dsimp only | split

theorem State.illegalChange_only {e : Fin 2} (h : Only P s u) (h1 : P (.obj (A_ENC_ILLEGAL ↑e))) (h2 : P (.obj (A_ENC_STATUS ↑e))) (h3 : P .raised) (h4 : P (.enc e)) (h5 : ∀ (y1 : Fin 4), P (.ax y1)) (h6 : ∀ (y1 : Fin 4), P (.obj (A_FAULT_STATE ↑y1))) :
    Only P s (State.illegalChange u e) := by
  with_reducible
    unfold State.illegalChange
    repeat' first | assumption | apply Only.inc | apply Only.orBits | apply Only.modEnc | apply Only.ite | apply State.encoderFault_only | apply State.jMotion_only | exact h5 _ | exact h6 _ | intro _ | exact Only.of_pair ‹_ = (_, _)› ‹_› | apply Only.of_pair ‹_ = (_, _)› | dsimp only | split

theorem State.indexMissing_only {e : Fin 2} (h : Only P s u) (h1 : P (.obj (A_ENC_STATUS ↑e))) (h2 : P .raised) (h3 : P (.enc e)) :
    Only P s (State.indexMissing u e) := by
  with_reducible
    unfold State.indexMissing
    repeat' first | assumption | apply Only.orBits | apply Only.modEnc | apply Only.ite | apply State.jMotion_only | intro _ | dsimp only | split

theorem State.moveCount_only {e : Fin 2} {d : Int} (h : Only P s u) (h1 : P (.obj (A_ENC_COUNT ↑e))) (h2 : ∀ (y1 : Fin 4), P (.obj (A_POS_ACT ↑y1))) :
    Only P s (State.moveCount u e d) := by
  with_reducible
    unfold State.moveCount
    repeat' first | assumption | apply Only.set | apply Only.ite | apply State.posUpdate_only | exact h2 _ | intro _ | exact Only.of_pair ‹_ = (_, _)› ‹_› | apply Only.of_pair ‹_ = (_, _)› | dsimp only | split

theorem State.encoderChange_only {e : Fin 2} {a : Bool} {b : Bool} (h : Only P s u) (h1 : P (.enc e)) (h2 : P (.obj (A_ENC_ILLEGAL ↑e))) (h3 : P (.obj (A_ENC_STATUS ↑e))) (h4 : P .raised) (h5 : ∀ (y1 : Fin 4), P (.ax y1)) (h6 : ∀ (y1 : Fin 4), P (.obj (A_FAULT_STATE ↑y1))) (h7 : P (.obj (A_ENC_COUNT ↑e))) (h8 : ∀ (y1 : Fin 4), P (.obj (A_POS_ACT ↑y1))) :
    Only P s (State.encoderChange u e a b) := by
  with_reducible
    unfold State.encoderChange
    repeat' first | assumption | apply Only.modEnc | apply Only.ite | apply State.illegalChange_only | apply State.indexMissing_only | apply State.moveCount_only | exact h5 _ | exact h6 _ | exact h8 _ | intro _ | dsimp only | split

theorem State.encoderSpeed_only {e : Fin 2} (h : Only P s u) (h1 : P (.enc e)) (h2 : P (.obj (A_ENC_SPEED ↑e))) (h3 : P .freeCtr) :
    Only P s (State.encoderSpeed u e) := by
  with_reducible
    unfold State.encoderSpeed
    repeat' first | assumption | apply Only.set | apply Only.modEnc | apply Only.free | apply Only.ite | intro _ | exact Only.of_pair ‹_ = (_, _)› ‹_› | apply Only.of_pair ‹_ = (_, _)› | dsimp only | split

theorem State.syncRef_only {a : Fin 4} (h : Only P s u) (h1 : P (.obj (A_REF_STATE ↑a))) :
    Only P s (State.syncRef u a) := by
  with_reducible
    unfold State.syncRef
    repeat' first | assumption | apply Only.set | apply Only.ite | intro _ | exact Only.of_pair ‹_ = (_, _)› ‹_› | apply Only.of_pair ‹_ = (_, _)› | dsimp only | split

theorem State.syncMotion_only (h : Only P s u) (h1 : ∀ (y1 : Fin 4), P (.obj (A_POS_ACT ↑y1))) (h2 : ∀ (y1 : Fin 4), P (.obj (A_START_STAGE ↑y1))) (h3 : ∀ (y1 : Fin 4), P (.ax y1)) (h4 : ∀ (y1 : Fin 48), P (.slot y1)) (h5 : ∀ (y1 : Fin 6) (y2 : Fin 3), P (.hb (hbOf y1 y2))) (h6 : ∀ (y1 : Fin 6) (y2 : Fin 3), P (.obj (S_GATE_I ↑(hbOf y1 y2)))) (h7 : ∀ (y1 : Fin 6), P (.sec y1)) (h8 : P .raised) (h9 : ∀ (y1 : Fin 4), P (.obj (A_REF_STATE ↑y1))) :
    Only P s (State.syncMotion u) := by
  with_reducible
    unfold State.syncMotion
    repeat' first | assumption | apply Only.each | apply State.posUpdate_only | apply State.syncRef_only | apply State.syncStage_only | exact h1 _ | exact h2 _ | exact h3 _ | exact h4 _ | exact h5 _ _ | exact h6 _ _ | exact h7 _ | exact h9 _ | intro _ | dsimp only | split

theorem State.indexPulse_only {e : Fin 2} (h : Only P s u) (h1 : P (.enc e)) (h2 : P (.obj (A_ENC_IDX_REF ↑e))) (h3 : P (.obj (A_ENC_STATUS ↑e))) (h4 : ∀ (y1 : Fin 4), P (.ax y1)) (h5 : ∀ (y1 : Fin 48), P (.slot y1)) (h6 : ∀ (y1 : Fin 6) (y2 : Fin 3), P (.hb (hbOf y1 y2))) (h7 : ∀ (y1 : Fin 6) (y2 : Fin 3), P (.obj (S_GATE_I ↑(hbOf y1 y2)))) (h8 : ∀ (y1 : Fin 6), P (.sec y1)) (h9 : ∀ (y1 : Fin 4), P (.obj (A_REF_STATE ↑y1))) (h10 : P (.obj (A_ENC_IDX_ERR ↑e))) (h11 : P .raised) (h12 : ∀ (y1 : Fin 4), P (.obj (A_FAULT_STATE ↑y1))) (h13 : P (.obj (A_ENC_COUNT ↑e))) (h14 : ∀ (y1 : Fin 4), P (.obj (A_POS_ACT ↑y1))) (h15 : P (.obj (A_ENC_IDX_FLAGS ↑e))) :
    Only P s (State.indexPulse u e) := by
  with_reducible
    unfold State.indexPulse
    repeat' first | assumption | apply Only.set | apply Only.inc | apply Only.orBits | apply Only.modEnc | apply Only.ite | apply State.decideRef_only | apply State.encoderFault_only | apply State.jMotion_only | apply State.moveCount_only | apply State.syncRef_only | exact h4 _ | exact h5 _ | exact h6 _ _ | exact h7 _ _ | exact h8 _ | exact h9 _ | exact h12 _ | exact h14 _ | intro _ | exact Only.of_pair ‹_ = (_, _)› ‹_› | apply Only.of_pair ‹_ = (_, _)› | dsimp only | split

theorem State.clearEncoder_only {e : Fin 2} (h : Only P s u) (h1 : P (.obj (A_ENC_STATUS ↑e))) (h2 : P (.enc e)) (h3 : ∀ (y1 : Fin 4), P (.ax y1)) (h4 : ∀ (y1 : Fin 4), P (.obj (A_FAULT_STATE ↑y1))) :
    Only P s (State.clearEncoder u e) := by
  with_reducible
    unfold State.clearEncoder
    repeat' first | assumption | apply Only.clearBits | apply Only.modEnc | apply Only.each | apply Only.ite | apply State.leaveLevel_only | exact h3 _ | exact h4 _ | intro _ | exact Only.of_pair ‹_ = (_, _)› ‹_› | apply Only.of_pair ‹_ = (_, _)› | dsimp only | split

theorem State.assignEncoder_only {e : Fin 2} {v : Int} (h : Only P s u) (h1 : ∀ (y1 : Fin 4), P (.ax y1)) (h2 : P (.obj (A_ENC_AXIS ↑e))) (h3 : P (.obj (A_ENC_COMM_MEAS ↑e))) (h4 : ∀ (y1 : Fin 4), P (.obj (A_POS_ACT ↑y1))) (h5 : ∀ (y1 : Fin 4), P (.obj (A_START_STAGE ↑y1))) (h6 : ∀ (y1 : Fin 48), P (.slot y1)) (h7 : ∀ (y1 : Fin 6) (y2 : Fin 3), P (.hb (hbOf y1 y2))) (h8 : ∀ (y1 : Fin 6) (y2 : Fin 3), P (.obj (S_GATE_I ↑(hbOf y1 y2)))) (h9 : ∀ (y1 : Fin 6), P (.sec y1)) (h10 : P .raised) (h11 : ∀ (y1 : Fin 4), P (.obj (A_REF_STATE ↑y1))) :
    Only P s (State.assignEncoder u e v) := by
  with_reducible
    unfold State.assignEncoder
    repeat' first | assumption | apply Only.set | apply Only.modAx | apply Only.ite | apply State.syncMotion_only | exact h1 _ | exact h4 _ | exact h5 _ | exact h6 _ | exact h7 _ _ | exact h8 _ _ | exact h9 _ | exact h11 _ | intro _ | exact Only.of_pair ‹_ = (_, _)› ‹_› | apply Only.of_pair ‹_ = (_, _)› | dsimp only | split

theorem State.setHome_only {a : Fin 4} {p : Int} (h : Only P s u) (h1 : P (.ax a)) (h2 : P (.obj (A_POS_ACT ↑a))) (h3 : P (.obj (A_POS_REF ↑a))) :
    Only P s (State.setHome u a p) := by
  with_reducible
    unfold State.setHome
    repeat' first | assumption | apply Only.set | apply Only.modAx | apply State.posUpdate_only | intro _ | dsimp only | split

theorem State.setProfile_only {a : Fin 4} {p : Rat} {v : Rat} {acc : Rat} (h : Only P s u) (h1 : P (.ax a)) (h2 : P (.obj (A_POS_REF ↑a))) (h3 : P (.obj (A_PROF_SPEED ↑a))) (h4 : P (.obj (A_PROF_ACCEL ↑a))) :
    Only P s (State.setProfile u a p v acc) := by
  with_reducible
    unfold State.setProfile
    repeat' first | assumption | apply Only.set | apply Only.modAx | intro _ | dsimp only | split

theorem State.enterMotion_only {a : Fin 4} (h : Only P s u) (h1 : P (.ax a)) (h2 : P (.obj (A_POS_REF ↑a))) (h3 : P (.obj (A_PROF_SPEED ↑a))) (h4 : P (.obj (A_PROF_ACCEL ↑a))) (h5 : P (.obj (A_PROF_STATE ↑a))) :
    Only P s (State.enterMotion u a) := by
  with_reducible
    unfold State.enterMotion
    repeat' first | assumption | apply Only.set | apply Only.modAx | apply State.setProfile_only | intro _ | dsimp only | split

theorem State.refRun_only {a : Fin 4} (h : Only P s u) (h1 : P (.obj (A_REF_STATE ↑a))) (h2 : P (.ax a)) (h3 : ∀ (y1 : Fin 48), P (.slot y1)) (h4 : ∀ (y1 : Fin 6) (y2 : Fin 3), P (.hb (hbOf y1 y2))) (h5 : ∀ (y1 : Fin 6) (y2 : Fin 3), P (.obj (S_GATE_I ↑(hbOf y1 y2)))) (h6 : ∀ (y1 : Fin 6), P (.sec y1)) :
    Only P s (State.refRun u a) := by
  with_reducible
    unfold State.refRun
    repeat' first | assumption | apply Only.set | apply Only.ite | apply State.decideRef_only | exact h3 _ | exact h4 _ _ | exact h5 _ _ | exact h6 _ | intro _ | exact Only.of_pair ‹_ = (_, _)› ‹_› | apply Only.of_pair ‹_ = (_, _)› | dsimp only | split

theorem State.refFail_only {a : Fin 4} {t0 : Nat} (h : Only P s u) (h1 : P (.obj (A_REF_STATE ↑a))) (h2 : P (.ax a)) (h3 : ∀ (y1 : Fin 48), P (.slot y1)) (h4 : ∀ (y1 : Fin 6) (y2 : Fin 3), P (.hb (hbOf y1 y2))) (h5 : ∀ (y1 : Fin 6) (y2 : Fin 3), P (.obj (S_GATE_I ↑(hbOf y1 y2)))) (h6 : ∀ (y1 : Fin 6), P (.sec y1)) (h7 : P .raised) :
    Only P s (State.refFail u a t0) := by
  with_reducible
    unfold State.refFail
    repeat' first | assumption | apply Only.set | apply State.jMotion_only | apply State.refPhaseAt_only | exact h3 _ | exact h4 _ _ | exact h5 _ _ | exact h6 _ | intro _ | dsimp only | split

theorem State.refDone_only {a : Fin 4} {t0 : Nat} (h : Only P s u) (h1 : P (.obj (A_REF_STATE ↑a))) (h2 : P (.ax a)) (h3 : ∀ (y1 : Fin 48), P (.slot y1)) (h4 : ∀ (y1 : Fin 6) (y2 : Fin 3), P (.hb (hbOf y1 y2))) (h5 : ∀ (y1 : Fin 6) (y2 : Fin 3), P (.obj (S_GATE_I ↑(hbOf y1 y2)))) (h6 : ∀ (y1 : Fin 6), P (.sec y1)) (h7 : P (.obj (A_POS_REF ↑a))) (h8 : P (.obj (A_PROF_SPEED ↑a))) (h9 : P (.obj (A_PROF_ACCEL ↑a))) (h10 : P .raised) :
    Only P s (State.refDone u a t0) := by
  with_reducible
    unfold State.refDone
    repeat' first | assumption | apply Only.set | apply Only.modAx | apply State.jMotion_only | apply State.refPhaseAt_only | apply State.setProfile_only | exact h3 _ | exact h4 _ _ | exact h5 _ _ | exact h6 _ | intro _ | dsimp only | split

theorem State.takeRef_only {a : Fin 4} {p : Nat} {t0 : Nat} (h : Only P s u) (h1 : P (.obj (A_REF_STATE ↑a))) (h2 : P (.ax a)) (h3 : ∀ (y1 : Fin 48), P (.slot y1)) (h4 : ∀ (y1 : Fin 6) (y2 : Fin 3), P (.hb (hbOf y1 y2))) (h5 : ∀ (y1 : Fin 6) (y2 : Fin 3), P (.obj (S_GATE_I ↑(hbOf y1 y2)))) (h6 : ∀ (y1 : Fin 6), P (.sec y1)) (h7 : P (.obj (A_POS_REF ↑a))) (h8 : P (.obj (A_PROF_SPEED ↑a))) (h9 : P (.obj (A_PROF_ACCEL ↑a))) (h10 : P .raised) :
    Only P s (State.takeRef u a p t0) := by
  with_reducible
    unfold State.takeRef
    repeat' first | assumption | apply State.refDone_only | apply State.refFail_only | apply State.refPhaseAt_only | exact h3 _ | exact h4 _ _ | exact h5 _ _ | exact h6 _ | intro _ | exact Only.of_pair ‹_ = (_, _)› ‹_› | apply Only.of_pair ‹_ = (_, _)› | dsimp only | split

theorem State.decideEnd_only {a : Fin 4} {p : Nat} (h : Only P s u) (h1 : P (.obj (A_REF_STATE ↑a))) (h2 : P (.ax a)) (h3 : ∀ (y1 : Fin 48), P (.slot y1)) (h4 : ∀ (y1 : Fin 6) (y2 : Fin 3), P (.hb (hbOf y1 y2))) (h5 : ∀ (y1 : Fin 6) (y2 : Fin 3), P (.obj (S_GATE_I ↑(hbOf y1 y2)))) (h6 : ∀ (y1 : Fin 6), P (.sec y1)) (h7 : P (.obj (A_POS_REF ↑a))) (h8 : P (.obj (A_PROF_SPEED ↑a))) (h9 : P (.obj (A_PROF_ACCEL ↑a))) (h10 : P .raised) :
    Only P s (State.decideEnd u a p) := by
  with_reducible
    unfold State.decideEnd
    repeat' first | assumption | apply Only.modAx | apply Only.ite | apply State.takeRef_only | exact h3 _ | exact h4 _ _ | exact h5 _ _ | exact h6 _ | intro _ | dsimp only | split

theorem State.refTimeout_only {a : Fin 4} (h : Only P s u) (h1 : P (.obj (A_REF_STATE ↑a))) (h2 : P (.ax a)) (h3 : ∀ (y1 : Fin 48), P (.slot y1)) (h4 : ∀ (y1 : Fin 6) (y2 : Fin 3), P (.hb (hbOf y1 y2))) (h5 : ∀ (y1 : Fin 6) (y2 : Fin 3), P (.obj (S_GATE_I ↑(hbOf y1 y2)))) (h6 : ∀ (y1 : Fin 6), P (.sec y1)) (h7 : P (.obj (A_POS_REF ↑a))) (h8 : P (.obj (A_PROF_SPEED ↑a))) (h9 : P (.obj (A_PROF_ACCEL ↑a))) (h10 : P .raised) :
    Only P s (State.refTimeout u a) := by
  with_reducible
    unfold State.refTimeout
    repeat' first | assumption | apply Only.ite | apply State.decideEnd_only | exact h3 _ | exact h4 _ _ | exact h5 _ _ | exact h6 _ | intro _ | dsimp only | split

theorem State.refComplete_only {a : Fin 4} (h : Only P s u) (h1 : P (.obj (A_REF_STATE ↑a))) (h2 : P (.ax a)) (h3 : ∀ (y1 : Fin 48), P (.slot y1)) (h4 : ∀ (y1 : Fin 6) (y2 : Fin 3), P (.hb (hbOf y1 y2))) (h5 : ∀ (y1 : Fin 6) (y2 : Fin 3), P (.obj (S_GATE_I ↑(hbOf y1 y2)))) (h6 : ∀ (y1 : Fin 6), P (.sec y1)) (h7 : P (.obj (A_POS_REF ↑a))) (h8 : P (.obj (A_PROF_SPEED ↑a))) (h9 : P (.obj (A_PROF_ACCEL ↑a))) (h10 : P .raised) :
    Only P s (State.refComplete u a) := by
  with_reducible
    unfold State.refComplete
    repeat' first | assumption | apply Only.ite | apply State.decideEnd_only | exact h3 _ | exact h4 _ _ | exact h5 _ _ | exact h6 _ | intro _ | dsimp only | split

theorem State.profileStep_only {a : Fin 4} (h : Only P s u) (h1 : P (.ax a)) (h2 : P (.obj (A_POS_REF ↑a))) (h3 : P (.obj (A_PROF_SPEED ↑a))) (h4 : P (.obj (A_PROF_ACCEL ↑a))) (h5 : P (.obj (A_PROF_STATE ↑a))) :
    Only P s (State.profileStep u a) := by
  with_reducible
    unfold State.profileStep
    repeat' first | assumption | apply Only.set | apply Only.modAx | apply Only.ite | apply State.setProfile_only | intro _ | dsimp only | split

theorem State.followStep_only {a : Fin 4} (h : Only P s u) (h1 : P (.ax a)) (h2 : P (.obj (A_POS_REF ↑a))) (h3 : P (.obj (A_PROF_SPEED ↑a))) (h4 : P (.obj (A_PROF_ACCEL ↑a))) (h5 : P (.obj (A_PROF_STATE ↑a))) :
    Only P s (State.followStep u a) := by
  with_reducible
    unfold State.followStep
    repeat' first | assumption | apply Only.set | apply Only.modAx | apply Only.ite | apply State.setProfile_only | intro _ | dsimp only | split

theorem State.armChange_only {a : Fin 4} (h : Only P s u) (h1 : P (.obj (A_GEAR_STATE ↑a))) (h2 : P (.ax a)) :
    Only P s (State.armChange u a) := by
  with_reducible
    unfold State.armChange
    repeat' first | assumption | apply Only.set | apply Only.modAx | apply Only.ite | intro _ | dsimp only | split

theorem State.gearStep_only {a : Fin 4} (h : Only P s u) (h1 : P (.ax a)) (h2 : P (.obj (A_POS_REF ↑a))) (h3 : P (.obj (A_PROF_SPEED ↑a))) (h4 : P (.obj (A_PROF_ACCEL ↑a))) (h5 : P (.obj (A_GEAR_STATE ↑a))) (h6 : P .raised) (h7 : P (.obj (A_GEAR_NUM ↑a))) (h8 : P (.obj (A_GEAR_DEN ↑a))) (h9 : P (.obj (A_GEAR_NEXT_DEN ↑a))) :
    Only P s (State.gearStep u a) := by
  with_reducible
    unfold State.gearStep
    repeat' first | assumption | apply Only.set | apply Only.modAx | apply Only.ite | apply State.jMotion_only | apply State.setProfile_only | intro _ | exact Only.of_pair ‹_ = (_, _)› ‹_› | apply Only.of_pair ‹_ = (_, _)› | dsimp only | split

theorem State.enterStopping_only {a : Fin 4} (h : Only P s u) (h1 : P (.obj (A_GEAR_STATE ↑a))) (h2 : P (.obj (A_GEAR_NEXT_DEN ↑a))) (h3 : P (.obj (A_PROF_STATE ↑a))) (h4 : P (.ax a)) :
    Only P s (State.enterStopping u a) := by
  with_reducible
    unfold State.enterStopping
    repeat' first | assumption | apply Only.set | apply Only.modAx | apply Only.ite | intro _ | dsimp only | split

theorem State.enterFollow_only {a : Fin 4} (h : Only P s u) (h1 : P (.obj (A_GEAR_STATE ↑a))) (h2 : P (.obj (A_GEAR_NEXT_DEN ↑a))) (h3 : P (.obj (A_PROF_STATE ↑a))) (h4 : P (.ax a)) :
    Only P s (State.enterFollow u a) := by
  with_reducible
    unfold State.enterFollow
    repeat' first | assumption | apply Only.modAx | apply State.enterStopping_only | intro _ | dsimp only | split

theorem State.profileCauses_only {a : Fin 4} (h : Only P s u) (h1 : P (.obj (A_GEAR_STATE ↑a))) (h2 : P (.obj (A_GEAR_NEXT_DEN ↑a))) (h3 : P (.obj (A_PROF_STATE ↑a))) (h4 : P (.ax a)) :
    Only P s (State.profileCauses u a) := by
  with_reducible
    unfold State.profileCauses
    repeat' first | assumption | apply Only.modAx | apply Only.ite | apply State.enterFollow_only | apply State.enterStopping_only | intro _ | dsimp only | split

theorem State.followJudge_only {a : Fin 4} (h : Only P s u) (h1 : P (.ax a)) (h2 : P (.obj (A_FAULT_STATE ↑a))) :
    Only P s (State.followJudge u a) := by
  with_reducible
    unfold State.followJudge
    repeat' first | assumption | apply Only.modAx | apply Only.ite | apply State.leaveLevel_only | intro _ | dsimp only | split

theorem State.profileUpdate_only {a : Fin 4} (h : Only P s u) (h1 : P (.obj (A_GEAR_STATE ↑a))) (h2 : P (.obj (A_GEAR_NEXT_DEN ↑a))) (h3 : P (.obj (A_PROF_STATE ↑a))) (h4 : P (.ax a)) (h5 : P (.obj (A_MASTER_POS ↑a))) (h6 : P (.obj (A_MASTER_SPEED ↑a))) (h7 : P (.obj (A_POS_REF ↑a))) (h8 : P (.obj (A_PROF_SPEED ↑a))) (h9 : P (.obj (A_PROF_ACCEL ↑a))) (h10 : P .raised) (h11 : P (.obj (A_GEAR_NUM ↑a))) (h12 : P (.obj (A_GEAR_DEN ↑a))) (h13 : P .cap) (h14 : ∀ (y1 : Fin 48), P (.slot y1)) (h15 : ∀ (y1 : Fin 48), P (.obj (K_OVERRUN ↑y1))) (h16 : P (.obj (A_FAULT_STATE ↑a))) :
    Only P s (State.profileUpdate u a) := by
  with_reducible
    unfold State.profileUpdate
    repeat' first | assumption | apply Only.set | apply Only.modAx | apply Only.ite | apply State.arrive_only | apply State.followJudge_only | apply State.followStep_only | apply State.gearStep_only | apply State.profileCauses_only | apply State.profileStep_only | exact h14 _ | exact h15 _ | intro _ | exact Only.of_pair ‹_ = (_, _)› ‹_› | apply Only.of_pair ‹_ = (_, _)› | dsimp only | split

theorem State.followingError_only {a : Fin 4} (h : Only P s u) (h1 : P .raised) (h2 : P (.ax a)) (h3 : P (.obj (A_FAULT_STATE ↑a))) :
    Only P s (State.followingError u a) := by
  with_reducible
    unfold State.followingError
    repeat' first | assumption | apply Only.ite | apply State.enterLevel_only | apply State.jMotion_only | intro _ | dsimp only | split

theorem State.masterLost_only {a : Fin 4} (h : Only P s u) (h1 : P (.obj (A_MASTER_AGE ↑a))) (h2 : P .raised) (h3 : P (.ax a)) (h4 : P (.obj (A_FAULT_STATE ↑a))) :
    Only P s (State.masterLost u a) := by
  with_reducible
    unfold State.masterLost
    repeat' first | assumption | apply Only.set | apply Only.ite | apply State.enterLevel_only | apply State.jMotion_only | apply State.requestStop_only | intro _ | dsimp only | split

theorem State.moveStart_only {a : Fin 4} (h : Only P s u) (h1 : P (.ax a)) (h2 : P (.obj (A_PROF_STATE ↑a))) :
    Only P s (State.moveStart u a) := by
  with_reducible
    unfold State.moveStart
    repeat' first | assumption | apply Only.set | apply Only.modAx | apply Only.ite | intro _ | exact Only.of_pair ‹_ = (_, _)› ‹_› | apply Only.of_pair ‹_ = (_, _)› | dsimp only | split

/-! ### Tuning -/

theorem State.armGen_only {g : Fin 4} (h : Only P s u) (h1 : P (.obj (G_STATE ↑g))) (h2 : P (.obj (G_STEPS ↑g))) (h3 : P (.gen g)) :
    Only P s (State.armGen u g) := by
  with_reducible
    unfold State.armGen
    repeat' first | assumption | apply Only.set | apply Only.modGen | apply Only.ite | intro _ | dsimp only | split

theorem State.stopGen_only {g : Fin 4} (h : Only P s u) (h1 : P (.gen g)) :
    Only P s (State.stopGen u g) := by
  with_reducible
    unfold State.stopGen
    repeat' first | assumption | apply Only.modGen | apply Only.ite | intro _ | dsimp only | split

theorem State.injectionDone_only {g : Fin 4} (h : Only P s u) (h1 : P (.gen g)) (h2 : P (.obj (G_STATE ↑g))) (h3 : P (.obj (G_VALUE ↑g))) (h4 : P .raised) :
    Only P s (State.injectionDone u g) := by
  with_reducible
    unfold State.injectionDone
    repeat' first | assumption | apply Only.modGen | apply Only.ite | apply State.endGen_only | intro _ | exact Only.of_pair ‹_ = (_, _)› ‹_› | apply Only.of_pair ‹_ = (_, _)› | dsimp only | split

theorem State.startGen_only {g : Fin 4} (h : Only P s u) (h1 : P (.gen g)) (h2 : P (.obj (G_STATE ↑g))) (h3 : P .raised) :
    Only P s (State.startGen u g) := by
  with_reducible
    unfold State.startGen
    repeat' first | assumption | apply Only.set | apply Only.modGen | apply State.jTune_only | intro _ | dsimp only | split

theorem State.runGen_only {g : Fin 4} (h : Only P s u) (h1 : P (.gen g)) (h2 : P (.obj (G_VALUE ↑g))) (h3 : P (.obj (G_STEPS ↑g))) :
    Only P s (State.runGen u g) := by
  with_reducible
    unfold State.runGen
    repeat' first | assumption | apply Only.set | apply Only.inc | apply Only.modGen | intro _ | exact Only.of_pair ‹_ = (_, _)› ‹_› | apply Only.of_pair ‹_ = (_, _)› | dsimp only | split

theorem State.advanceGen_only {g : Fin 4} (h : Only P s u) (h1 : P (.obj (G_STATE ↑g))) (h2 : P (.obj (G_VALUE ↑g))) (h3 : P (.gen g)) (h4 : P .raised) (h5 : P (.obj (G_STEPS ↑g))) :
    Only P s (State.advanceGen u g) := by
  with_reducible
    unfold State.advanceGen
    repeat' first | assumption | apply Only.ite | apply State.endGen_only | apply State.injectionDone_only | apply State.runGen_only | apply State.startGen_only | intro _ | exact Only.of_pair ‹_ = (_, _)› ‹_› | apply Only.of_pair ‹_ = (_, _)› | dsimp only | split

theorem State.genStep_only {g : Fin 4} (h : Only P s u) (h1 : P (.obj (G_STATE ↑g))) (h2 : P (.obj (G_VALUE ↑g))) (h3 : P (.gen g)) (h4 : P .raised) (h5 : P (.obj (G_STEPS ↑g))) (h6 : P .cap) (h7 : ∀ (y1 : Fin 48), P (.slot y1)) (h8 : ∀ (y1 : Fin 48), P (.obj (K_OVERRUN ↑y1))) :
    Only P s (State.genStep u g) := by
  with_reducible
    unfold State.genStep
    repeat' first | assumption | apply Only.ite | apply State.advanceGen_only | apply State.arrive_only | exact h7 _ | exact h8 _ | intro _ | dsimp only | split

theorem State.capWaiting_only (h : Only P s u) (h1 : P (.obj C_STATE)) :
    Only P s (State.capWaiting u) := by
  with_reducible
    unfold State.capWaiting
    repeat' first | assumption | apply Only.set | apply Only.ite | intro _ | dsimp only | split

theorem State.capRecord_only {cur : Vector Int 32} (h : Only P s u) (h1 : P .cap) (h2 : P (.obj C_RECORDS)) :
    Only P s (State.capRecord u cur) := by
  with_reducible
    unfold State.capRecord
    repeat' first | assumption | apply Only.set | apply Only.ite | intro _ | exact Only.of_pair ‹_ = (_, _)› ‹_› | apply Only.of_pair ‹_ = (_, _)› | dsimp only | split | apply Only.w_cap | apply Only.foldl | apply Only.foldl_pair

theorem State.capComplete_only (h : Only P s u) (h1 : P .cap) (h2 : P (.obj C_STATE)) (h3 : P (.obj C_TRIG_REC)) (h4 : P (.obj C_VERSION)) (h5 : P .raised) :
    Only P s (State.capComplete u) := by
  with_reducible
    unfold State.capComplete
    repeat' first | assumption | apply Only.set | apply Only.inc | apply State.jTune_only | intro _ | dsimp only | split | apply Only.w_cap

theorem State.capAbort_only {cause : Nat} (h : Only P s u) (h1 : P .freeCtr) (h2 : P .cap) (h3 : P (.obj C_STATE)) (h4 : P (.obj C_VERSION)) (h5 : P .raised) :
    Only P s (State.capAbort u cause) := by
  with_reducible
    unfold State.capAbort
    repeat' first | assumption | apply Only.set | apply Only.inc | apply Only.free | apply Only.ite | apply State.jTune_only | intro _ | exact Only.of_pair ‹_ = (_, _)› ‹_› | apply Only.of_pair ‹_ = (_, _)› | dsimp only | split | apply Only.w_cap

theorem State.capArm_only (h : Only P s u) (h1 : P .cap) (h2 : P (.obj C_STATE)) (h3 : P (.obj C_RECORDS)) (h4 : P (.obj C_TRIG_REC)) (h5 : P (.obj C_TRIG_STAMP)) (h6 : P (.obj C_VERSION)) :
    Only P s (State.capArm u) := by
  with_reducible
    unfold State.capArm
    repeat' first | assumption | apply Only.set | apply Only.inc | intro _ | dsimp only | split | apply Only.w_cap

theorem State.capBytes_only (h : Only P s u) (h1 : P .freeCtr) :
    Only P s (State.capBytes u).2 := by
  with_reducible
    unfold State.capBytes
    repeat' first | assumption | apply Only.free | apply Only.ite | intro _ | exact Only.of_pair ‹_ = (_, _)› ‹_› | apply Only.of_pair ‹_ = (_, _)› | dsimp only | split

theorem State.claimEnd_only (h : Only P s u) (h1 : P (.obj C_CLAIM)) (h2 : P (.obj C_OWNER)) (h3 : ∀ (y1 : Fin 4), P (.obj (G_STATE ↑y1))) (h4 : ∀ (y1 : Fin 4), P (.obj (G_VALUE ↑y1))) (h5 : ∀ (y1 : Fin 4), P (.gen y1)) (h6 : P .raised) (h7 : P .freeCtr) (h8 : P .cap) (h9 : P (.obj C_STATE)) (h10 : P (.obj C_VERSION)) :
    Only P s (State.claimEnd u) := by
  with_reducible
    unfold State.claimEnd
    repeat' first | assumption | apply Only.set | apply Only.each | apply Only.ite | apply State.capAbort_only | apply State.endGen_only | exact h3 _ | exact h4 _ | exact h5 _ | intro _ | dsimp only | split

/-! ### Loads -/

theorem State.setRender_only {a : Fin 4} {st : Nat} (h : Only P s u) (h1 : P (.obj (A_RENDER_STATE ↑a))) (h2 : P (.ax a)) (h3 : P (.obj (A_POS_REF ↑a))) (h4 : P (.obj (A_PROF_SPEED ↑a))) (h5 : P (.obj (A_PROF_ACCEL ↑a))) (h6 : P (.obj (A_PROF_STATE ↑a))) :
    Only P s (State.setRender u a st) := by
  with_reducible
    unfold State.setRender
    repeat' first | assumption | apply Only.set | apply Only.modAx | apply Only.ite | apply State.setProfile_only | intro _ | dsimp only | split

theorem State.renderEnd_only {a : Fin 4} (h : Only P s u) (h1 : P (.obj (A_RENDER_STATE ↑a))) (h2 : P (.ax a)) (h3 : P (.obj (A_POS_REF ↑a))) (h4 : P (.obj (A_PROF_SPEED ↑a))) (h5 : P (.obj (A_PROF_ACCEL ↑a))) (h6 : P (.obj (A_PROF_STATE ↑a))) (h7 : P .raised) :
    Only P s (State.renderEnd u a) := by
  with_reducible
    unfold State.renderEnd
    repeat' first | assumption | apply Only.ite | apply State.jLoad_only | apply State.setRender_only | intro _ | dsimp only | split

theorem State.clearDuty_only {a : Fin 4} (h : Only P s u) (h1 : P (.obj (A_MD_DUTY ↑a))) (h2 : P (.obj (A_MD_NOW ↑a))) (h3 : P (.ax a)) :
    Only P s (State.clearDuty u a) := by
  with_reducible
    unfold State.clearDuty
    repeat' first | assumption | apply Only.set | apply Only.modAx | intro _ | dsimp only | split

theorem State.modeActs_only {a : Fin 4} {old : Nat} {new : Nat} (h : Only P s u) (h1 : P (.obj (A_RENDER_STATE ↑a))) (h2 : P (.ax a)) (h3 : P (.obj (A_POS_REF ↑a))) (h4 : P (.obj (A_PROF_SPEED ↑a))) (h5 : P (.obj (A_PROF_ACCEL ↑a))) (h6 : P (.obj (A_PROF_STATE ↑a))) (h7 : P .raised) (h8 : P (.obj (A_GEAR_STATE ↑a))) (h9 : P (.obj (A_MD_DUTY ↑a))) (h10 : P (.obj (A_MD_NOW ↑a))) (h11 : P (.obj (A_START_STAGE ↑a))) (h12 : ∀ (y1 : Fin 48), P (.slot y1)) (h13 : ∀ (y1 : Fin 6) (y2 : Fin 3), P (.hb (hbOf y1 y2))) (h14 : ∀ (y1 : Fin 6) (y2 : Fin 3), P (.obj (S_GATE_I ↑(hbOf y1 y2)))) (h15 : ∀ (y1 : Fin 6), P (.sec y1)) :
    Only P s (State.modeActs u a old new) := by
  with_reducible
    unfold State.modeActs
    repeat' first | assumption | apply Only.set | apply Only.modAx | apply Only.each | apply Only.ite | apply State.clearDuty_only | apply State.drive_only | apply State.enterMotion_only | apply State.enterStage_only | apply State.renderEnd_only | exact h12 _ | exact h13 _ _ | exact h14 _ _ | exact h15 _ | intro _ | dsimp only | split

theorem State.changeMode_only {a : Fin 4} {m : Nat} (h : Only P s u) (h1 : P (.obj (A_TUNE_BASE ↑a))) (h2 : P (.obj (A_MODE ↑a))) (h3 : P (.obj (A_RENDER_STATE ↑a))) (h4 : P (.ax a)) (h5 : P (.obj (A_POS_REF ↑a))) (h6 : P (.obj (A_PROF_SPEED ↑a))) (h7 : P (.obj (A_PROF_ACCEL ↑a))) (h8 : P (.obj (A_PROF_STATE ↑a))) (h9 : P .raised) (h10 : P (.obj (A_GEAR_STATE ↑a))) (h11 : P (.obj (A_MD_DUTY ↑a))) (h12 : P (.obj (A_MD_NOW ↑a))) (h13 : P (.obj (A_START_STAGE ↑a))) (h14 : ∀ (y1 : Fin 48), P (.slot y1)) (h15 : ∀ (y1 : Fin 6) (y2 : Fin 3), P (.hb (hbOf y1 y2))) (h16 : ∀ (y1 : Fin 6) (y2 : Fin 3), P (.obj (S_GATE_I ↑(hbOf y1 y2)))) (h17 : ∀ (y1 : Fin 6), P (.sec y1)) :
    Only P s (State.changeMode u a m) := by
  with_reducible
    unfold State.changeMode
    repeat' first | assumption | apply Only.set | apply Only.ite | apply State.jMode_only | apply State.modeActs_only | exact h14 _ | exact h15 _ _ | exact h16 _ _ | exact h17 _ | intro _ | dsimp only | split

theorem State.enterCrash_only {a : Fin 4} (h : Only P s u) (h1 : P (.obj (A_EMERG_STATE ↑a))) (h2 : P (.obj (A_MD_DUTY ↑a))) (h3 : P (.obj (A_MD_NOW ↑a))) (h4 : P (.ax a)) (h5 : P (.obj (A_MODE ↑a))) (h6 : P (.obj (A_RENDER_STATE ↑a))) (h7 : P (.obj (A_POS_REF ↑a))) (h8 : P (.obj (A_PROF_SPEED ↑a))) (h9 : P (.obj (A_PROF_ACCEL ↑a))) (h10 : P (.obj (A_PROF_STATE ↑a))) (h11 : P .raised) :
    Only P s (State.enterCrash u a) := by
  with_reducible
    unfold State.enterCrash
    repeat' first | assumption | apply Only.set | apply Only.orBits | apply Only.ite | apply State.clearDuty_only | apply State.followStop_only | apply State.jMode_only | apply State.renderEnd_only | intro _ | dsimp only | split

theorem State.enterHold_only {a : Fin 4} (h : Only P s u) (h1 : P (.obj (A_EMERG_STATE ↑a))) (h2 : P (.obj (A_RENDER_STATE ↑a))) (h3 : P (.ax a)) (h4 : P (.obj (A_POS_REF ↑a))) (h5 : P (.obj (A_PROF_SPEED ↑a))) (h6 : P (.obj (A_PROF_ACCEL ↑a))) (h7 : P (.obj (A_PROF_STATE ↑a))) (h8 : P .raised) :
    Only P s (State.enterHold u a) := by
  with_reducible
    unfold State.enterHold
    repeat' first | assumption | apply Only.orBits | apply State.followStop_only | apply State.jMode_only | apply State.renderEnd_only | intro _ | dsimp only | split

theorem State.emergency_only {a : Fin 4} (h : Only P s u) (h1 : P (.obj (A_EMERG_STATE ↑a))) (h2 : P (.obj (A_MD_DUTY ↑a))) (h3 : P (.obj (A_MD_NOW ↑a))) (h4 : P (.ax a)) (h5 : P (.obj (A_MODE ↑a))) (h6 : P (.obj (A_RENDER_STATE ↑a))) (h7 : P (.obj (A_POS_REF ↑a))) (h8 : P (.obj (A_PROF_SPEED ↑a))) (h9 : P (.obj (A_PROF_ACCEL ↑a))) (h10 : P (.obj (A_PROF_STATE ↑a))) (h11 : P .raised) :
    Only P s (State.emergency u a) := by
  with_reducible
    unfold State.emergency
    repeat' first | assumption | apply Only.clearBits | apply Only.ite | apply State.enterCrash_only | apply State.enterHold_only | apply State.jMode_only | intro _ | dsimp only | split

theorem State.limp_only {a : Fin 4} (h : Only P s u) (h1 : P (.obj (A_EMERG_STATE ↑a))) (h2 : P .raised) :
    Only P s (State.limp u a) := by
  with_reducible
    unfold State.limp
    repeat' first | assumption | apply Only.orBits | apply Only.clearBits | apply Only.ite | apply State.jMode_only | intro _ | dsimp only | split

theorem State.toRender_only {a : Fin 4} {st : Nat} {detail : Nat} (h : Only P s u) (h1 : P (.obj (A_RENDER_STATE ↑a))) (h2 : P (.ax a)) (h3 : P (.obj (A_POS_REF ↑a))) (h4 : P (.obj (A_PROF_SPEED ↑a))) (h5 : P (.obj (A_PROF_ACCEL ↑a))) (h6 : P (.obj (A_PROF_STATE ↑a))) (h7 : P .raised) :
    Only P s (State.toRender u a st detail) := by
  with_reducible
    unfold State.toRender
    repeat' first | assumption | apply State.jLoad_only | apply State.setRender_only | intro _ | dsimp only | split

theorem State.enterRender_only {a : Fin 4} (h : Only P s u) (h1 : P (.ax a)) (h2 : P (.obj (A_RENDER_STATE ↑a))) (h3 : P (.obj (A_POS_REF ↑a))) (h4 : P (.obj (A_PROF_SPEED ↑a))) (h5 : P (.obj (A_PROF_ACCEL ↑a))) (h6 : P (.obj (A_PROF_STATE ↑a))) (h7 : P .raised) :
    Only P s (State.enterRender u a) := by
  with_reducible
    unfold State.enterRender
    repeat' first | assumption | apply Only.modAx | apply Only.ite | apply State.toRender_only | intro _ | dsimp only | split

theorem State.renderMoves_only {a : Fin 4} (h : Only P s u) (h1 : P (.ax a)) (h2 : P (.obj (A_RENDER_STATE ↑a))) (h3 : P (.obj (A_POS_REF ↑a))) (h4 : P (.obj (A_PROF_SPEED ↑a))) (h5 : P (.obj (A_PROF_ACCEL ↑a))) (h6 : P (.obj (A_PROF_STATE ↑a))) (h7 : P .raised) :
    Only P s (State.renderMoves u a) := by
  with_reducible
    unfold State.renderMoves
    repeat' first | assumption | apply Only.ite | apply State.enterRender_only | apply State.toRender_only | intro _ | exact Only.of_pair ‹_ = (_, _)› ‹_› | apply Only.of_pair ‹_ = (_, _)› | dsimp only | split

theorem State.tension_only {a : Fin 4} (h : Only P s u) (h1 : P (.ax a)) (h2 : P (.obj (A_RENDER_STATE ↑a))) (h3 : P (.obj (A_POS_REF ↑a))) (h4 : P (.obj (A_PROF_SPEED ↑a))) (h5 : P (.obj (A_PROF_ACCEL ↑a))) (h6 : P (.obj (A_PROF_STATE ↑a))) (h7 : P .raised) (h8 : P (.obj (A_FAULT_STATE ↑a))) (h9 : P .cap) (h10 : ∀ (y1 : Fin 48), P (.slot y1)) (h11 : ∀ (y1 : Fin 48), P (.obj (K_OVERRUN ↑y1))) :
    Only P s (State.tension u a) := by
  with_reducible
    unfold State.tension
    repeat' first | assumption | apply Only.modAx | apply Only.ite | apply State.arrive_only | apply State.leaveLevel_only | apply State.renderMoves_only | exact h10 _ | exact h11 _ | intro _ | exact Only.of_pair ‹_ = (_, _)› ‹_› | apply Only.of_pair ‹_ = (_, _)› | dsimp only | split

theorem State.render_only {a : Fin 4} (h : Only P s u) (h1 : P (.obj (A_RENDER_STATE ↑a))) (h2 : P (.ax a)) (h3 : P (.obj (A_POS_REF ↑a))) (h4 : P (.obj (A_PROF_SPEED ↑a))) (h5 : P (.obj (A_PROF_ACCEL ↑a))) (h6 : P (.obj (A_PROF_STATE ↑a))) (h7 : P .raised) (h8 : P (.obj (A_RENDER_LEN ↑a))) :
    Only P s (State.render u a) := by
  with_reducible
    unfold State.render
    repeat' first | assumption | apply Only.set | apply Only.modAx | apply Only.ite | apply State.renderEnd_only | apply State.setRender_only | apply State.toRender_only | intro _ | dsimp only | split

theorem State.meetPaths_only {a : Fin 4} (h : Only P s u) (h1 : ∀ (y1 : Fin 48), P (.slot y1)) :
    Only P s (State.meetPaths u a) := by
  with_reducible
    unfold State.meetPaths
    repeat' first | assumption | apply Only.each | apply Only.ite | apply State.histDirect_only | exact h1 _ | intro _ | dsimp only | split

theorem State.torque_only {a : Fin 4} (h : Only P s u) (h1 : P (.obj (A_TORQUE_SRC ↑a))) (h2 : ∀ (y1 : Fin 48), P (.slot y1)) (h3 : P (.ax a)) (h4 : P (.obj (A_REGEN_LIM ↑a))) (h5 : P (.obj (A_TLIM ↑a))) (h6 : P (.obj (A_TLIM_COUNT ↑a))) (h7 : P (.obj (A_DEV_WEIGHT ↑a))) (h8 : P (.obj (A_TORQUE_CMD ↑a))) :
    Only P s (State.torque u a) := by
  with_reducible
    unfold State.torque
    repeat' first | assumption | apply Only.set | apply Only.inc | apply Only.modAx | apply Only.ite | apply State.meetPaths_only | exact h2 _ | intro _ | exact Only.of_pair ‹_ = (_, _)› ‹_› | apply Only.of_pair ‹_ = (_, _)› | dsimp only | split

theorem State.pairMeans_only {a : Fin 4} (h : Only P s u) (h1 : ∀ (y1 : Fin 6), P (.sec y1)) :
    Only P s (State.pairMeans u a) := by
  with_reducible
    unfold State.pairMeans
    repeat' first | assumption | apply Only.modSec | apply Only.each | apply Only.ite | exact h1 _ | intro _ | dsimp only | split

theorem State.reportShare_only {a : Fin 4} {x : Fin 6} (h : Only P s u) (h1 : P (.obj (S_WEIGHT ↑x))) (h2 : P (.obj (S_SHARE ↑x))) (h3 : P (.obj (S_REF ↑x))) (h4 : P (.obj (S_TRIM ↑x))) (h5 : P (.obj (S_SHARE_ERR ↑x))) (h6 : P (.ax a)) (h7 : P .cap) (h8 : ∀ (y1 : Fin 48), P (.slot y1)) (h9 : ∀ (y1 : Fin 48), P (.obj (K_OVERRUN ↑y1))) :
    Only P s (State.reportShare u a x) := by
  with_reducible
    unfold State.reportShare
    repeat' first | assumption | apply Only.set | apply Only.modAx | apply Only.ite | apply State.arrive_only | exact h8 _ | exact h9 _ | intro _ | exact Only.of_pair ‹_ = (_, _)› ‹_› | apply Only.of_pair ‹_ = (_, _)› | dsimp only | split

theorem State.dutySlew_only {a : Fin 4} (h : Only P s u) (h1 : P (.obj (A_MD_NOW ↑a))) (h2 : P (.ax a)) :
    Only P s (State.dutySlew u a) := by
  with_reducible
    unfold State.dutySlew
    repeat' first | assumption | apply Only.set | apply Only.modAx | apply Only.ite | intro _ | dsimp only | split

theorem State.encoderSpeeds_only {a : Fin 4} (h : Only P s u) (h1 : ∀ (y1 : Fin 2), P (.enc y1)) (h2 : ∀ (y1 : Fin 2), P (.obj (A_ENC_SPEED ↑y1))) (h3 : P .freeCtr) :
    Only P s (State.encoderSpeeds u a) := by
  with_reducible
    unfold State.encoderSpeeds
    repeat' first | assumption | apply Only.each | apply Only.ite | apply State.encoderSpeed_only | exact h1 _ | exact h2 _ | intro _ | exact Only.of_pair ‹_ = (_, _)› ‹_› | apply Only.of_pair ‹_ = (_, _)› | dsimp only | split

theorem State.speedClip_only {a : Fin 4} (h : Only P s u) (h1 : P .raised) (h2 : P (.obj SF_ANV_CLIPS)) (h3 : P (.ax a)) :
    Only P s (State.speedClip u a) := by
  with_reducible
    unfold State.speedClip
    repeat' first | assumption | apply Only.modAx | apply Only.ite | apply State.jClip_only | intro _ | exact Only.of_pair ‹_ = (_, _)› ‹_› | apply Only.of_pair ‹_ = (_, _)› | dsimp only | split

theorem State.judgeKick_only {a : Fin 4} (h : Only P s u) (h1 : ∀ (y1 : Fin 6), P (.sec y1)) :
    Only P s (State.judgeKick u a) := by
  with_reducible
    unfold State.judgeKick
    repeat' first | assumption | apply Only.modPwm | apply Only.each | apply Only.ite | exact h1 _ | intro _ | dsimp only | split

theorem State.imageOfSlot_only {k : Fin 48} (h : Only P s u) (h1 : ∀ i : Fin 25, P (.obj (K_ORDER ↑k + ↑i))) (h2 : P (.obj (K_SET_VER ↑k))) :
    Only P s (State.imageOfSlot u k) := by
  unfold State.imageOfSlot
  refine Only.addCount (Only.each_mem h (fun i v hi hv => hv.set ?_)) h2
  have := h1 ⟨i, List.mem_range.mp hi⟩
  simpa [K_ORDER, Nat.mul_comm] using this

theorem State.flipArmed_only {a : Fin 4} (h : Only P s u) (h1 : ∀ (y1 : Fin 48), P (.slot y1)) (h2 : ∀ (y1 : Fin 48), P (.obj (K_BANK ↑y1))) (h3 : P (.obj S_BLW_ACTIVE)) (h4 : P .raised) (h5 : ∀ (y1 : Fin 4), P (.obj (A_SECTIONS ↑y1))) (h6 : ∀ (y1 : Fin 4), P (.obj (A_CASCADE_SECTIONS ↑y1))) (h7 : ∀ (y1 : Fin 4), P (.ax y1)) (h8 : ∀ (y1 : Fin 4), P (.obj (A_FAULT_STATE ↑y1))) (h9 : ∀ (y1 : Fin 18), P (.hb y1)) (h10 : ∀ (y1 : Fin 18), P (.obj (S_GATE_I ↑y1))) (h11 : ∀ (y1 : Fin 6), P (.sec y1)) (h12 : ∀ (y1 : Fin 6), P (.obj (S_ENABLE ↑y1))) (h13 : ∀ (y1 : Fin 6), P (.obj (S_STATE ↑y1))) (h14 : ∀ (y1 : Fin 6), P (.obj (S_DEG_PHASE ↑y1))) (h15 : ∀ (y1 : Fin 6), P (.obj (S_STEP ↑y1))) (h16 : ∀ (y1 : Fin 6), P (.obj (S_FUS_STATE ↑y1))) (h17 : ∀ (y1 : Fin 6), P (.obj (S_LOCK_STATE ↑y1))) (h18 : ∀ (y1 : Fin 6), P (.obj (S_Q_LAST ↑y1))) (h19 : P (.obj S_DEV_FAULT)) (h20 : ∀ (y1 : Nat), P (.obj (A_FAULT_STATE y1))) (h21 : ∀ (y1 : Fin 48), P (.obj (K_SET_VER ↑y1))) :
    Only P s (State.flipArmed u a) := by
  with_reducible
    unfold State.flipArmed
    repeat' first | assumption | apply Only.each | apply State.flipSlot_only | apply State.verFlip_only | exact h1 _ | exact h2 _ | exact h5 _ | exact h6 _ | exact h7 _ | exact h8 _ | exact h9 _ | exact h10 _ | exact h11 _ | exact h12 _ | exact h13 _ | exact h14 _ | exact h15 _ | exact h16 _ | exact h17 _ | exact h18 _ | exact h20 _ | exact h21 _ | intro _ | dsimp only | split

theorem State.snatchWritten_only {a : Fin 4} (h : Only P s u) (h1 : P .port) (h2 : ∀ (y1 : Nat), P (.obj (ST_GRANTS y1))) (h3 : P (.obj ST_MAX_WAIT)) (h4 : P (.obj ST_BUSY)) (h5 : ∀ (y1 : Fin 48) (y2 : Fin 25), P (.obj (K_ORDER ↑y1 + ↑y2))) (h6 : ∀ (y1 : Fin 48), P (.obj (K_SET_VER ↑y1))) :
    Only P s (State.snatchWritten u a) := by
  with_reducible
    unfold State.snatchWritten
    repeat' first | assumption | apply Only.each | apply State.imageOfSlot_only | apply State.servePort_only | exact h2 _ | exact h5 _ _ | exact h6 _ | intro _ | dsimp only | split

theorem State.snatchEnd_only {a : Fin 4} (h : Only P s u) (h1 : ∀ (y1 : Fin 48), P (.slot y1)) (h2 : ∀ (y1 : Fin 48), P (.obj (K_BANK ↑y1))) (h3 : P (.obj S_BLW_ACTIVE)) (h4 : P .raised) (h5 : ∀ (y1 : Fin 4), P (.obj (A_SECTIONS ↑y1))) (h6 : ∀ (y1 : Fin 4), P (.obj (A_CASCADE_SECTIONS ↑y1))) (h7 : ∀ (y1 : Fin 4), P (.ax y1)) (h8 : ∀ (y1 : Fin 4), P (.obj (A_FAULT_STATE ↑y1))) (h9 : ∀ (y1 : Fin 18), P (.hb y1)) (h10 : ∀ (y1 : Fin 18), P (.obj (S_GATE_I ↑y1))) (h11 : ∀ (y1 : Fin 6), P (.sec y1)) (h12 : ∀ (y1 : Fin 6), P (.obj (S_ENABLE ↑y1))) (h13 : ∀ (y1 : Fin 6), P (.obj (S_STATE ↑y1))) (h14 : ∀ (y1 : Fin 6), P (.obj (S_DEG_PHASE ↑y1))) (h15 : ∀ (y1 : Fin 6), P (.obj (S_STEP ↑y1))) (h16 : ∀ (y1 : Fin 6), P (.obj (S_FUS_STATE ↑y1))) (h17 : ∀ (y1 : Fin 6), P (.obj (S_LOCK_STATE ↑y1))) (h18 : ∀ (y1 : Fin 6), P (.obj (S_Q_LAST ↑y1))) (h19 : P (.obj S_DEV_FAULT)) (h20 : ∀ (y1 : Nat), P (.obj (A_FAULT_STATE y1))) (h21 : ∀ (y1 : Fin 48), P (.obj (K_SET_VER ↑y1))) (h22 : P (.obj (A_SNATCH_STATE ↑a))) :
    Only P s (State.snatchEnd u a) := by
  with_reducible
    unfold State.snatchEnd
    repeat' first | assumption | apply Only.set | apply Only.modAx | apply Only.ite | apply State.flipArmed_only | apply State.jLoad_only | exact h1 _ | exact h2 _ | exact h5 _ | exact h6 _ | exact h7 _ | exact h8 _ | exact h9 _ | exact h10 _ | exact h11 _ | exact h12 _ | exact h13 _ | exact h14 _ | exact h15 _ | exact h16 _ | exact h17 _ | exact h18 _ | exact h20 _ | exact h21 _ | intro _ | exact Only.of_pair ‹_ = (_, _)› ‹_› | apply Only.of_pair ‹_ = (_, _)› | dsimp only | split

theorem State.axisUpdate_only {a : Fin 4} (h : Only P s u) (h1 : P (.obj (A_TUNE_BASE ↑a))) (h2 : P (.obj (A_MODE ↑a))) (h3 : P (.obj (A_RENDER_STATE ↑a))) (h4 : P (.obj (A_POS_REF ↑a))) (h5 : P (.obj (A_PROF_SPEED ↑a))) (h6 : P (.obj (A_PROF_ACCEL ↑a))) (h7 : P (.obj (A_PROF_STATE ↑a))) (h8 : P .raised) (h9 : P (.obj (A_GEAR_STATE ↑a))) (h10 : P (.obj (A_MD_DUTY ↑a))) (h11 : P (.obj (A_MD_NOW ↑a))) (h12 : P (.obj (A_START_STAGE ↑a))) (h13 : ∀ (y1 : Fin 48), P (.slot y1)) (h14 : ∀ (y1 : Fin 6), P (.sec y1)) (h15 : ∀ (y1 : Fin 2), P (.enc y1)) (h16 : ∀ (y1 : Fin 2), P (.obj (A_ENC_SPEED ↑y1))) (h17 : P .freeCtr) (h18 : P (.obj (A_EMERG_STATE ↑a))) (h19 : P (.obj (A_DIR ↑a))) (h20 : P (.obj (A_RENDER_LEN ↑a))) (h21 : ∀ (y1 : Fin 48), P (.obj (K_BANK ↑y1))) (h22 : P (.obj S_BLW_ACTIVE)) (h23 : ∀ (y1 : Fin 4), P (.obj (A_SECTIONS ↑y1))) (h24 : ∀ (y1 : Fin 4), P (.obj (A_CASCADE_SECTIONS ↑y1))) (h25 : ∀ (y1 : Fin 4), P (.ax y1)) (h26 : ∀ (y1 : Fin 4), P (.obj (A_FAULT_STATE ↑y1))) (h27 : ∀ (y1 : Fin 18), P (.hb y1)) (h28 : ∀ (y1 : Fin 18), P (.obj (S_GATE_I ↑y1))) (h29 : ∀ (y1 : Fin 6), P (.obj (S_ENABLE ↑y1))) (h30 : ∀ (y1 : Fin 6), P (.obj (S_STATE ↑y1))) (h31 : ∀ (y1 : Fin 6), P (.obj (S_DEG_PHASE ↑y1))) (h32 : ∀ (y1 : Fin 6), P (.obj (S_STEP ↑y1))) (h33 : ∀ (y1 : Fin 6), P (.obj (S_FUS_STATE ↑y1))) (h34 : ∀ (y1 : Fin 6), P (.obj (S_LOCK_STATE ↑y1))) (h35 : ∀ (y1 : Fin 6), P (.obj (S_Q_LAST ↑y1))) (h36 : P (.obj S_DEV_FAULT)) (h37 : ∀ (y1 : Nat), P (.obj (A_FAULT_STATE y1))) (h38 : ∀ (y1 : Fin 48), P (.obj (K_SET_VER ↑y1))) (h39 : P (.obj (A_SNATCH_STATE ↑a))) (h40 : P (.obj SF_ANV_CLIPS)) (h41 : P (.obj (A_TORQUE_SRC ↑a))) (h42 : P (.obj (A_REGEN_LIM ↑a))) (h43 : P (.obj (A_TLIM ↑a))) (h44 : P (.obj (A_TLIM_COUNT ↑a))) (h45 : P (.obj (A_DEV_WEIGHT ↑a))) (h46 : P (.obj (A_TORQUE_CMD ↑a))) (h47 : P .cap) (h48 : ∀ (y1 : Fin 48), P (.obj (K_OVERRUN ↑y1))) (h49 : ∀ (y1 : Fin 6), P (.obj (S_WEIGHT ↑y1))) (h50 : ∀ (y1 : Fin 6), P (.obj (S_SHARE ↑y1))) (h51 : ∀ (y1 : Fin 6), P (.obj (S_REF ↑y1))) (h52 : ∀ (y1 : Fin 6), P (.obj (S_TRIM ↑y1))) (h53 : ∀ (y1 : Fin 6), P (.obj (S_SHARE_ERR ↑y1))) :
    Only P s (State.axisUpdate u a) := by
  with_reducible
    unfold State.axisUpdate
    repeat' first | assumption | apply Only.modAx | apply Only.each | apply Only.ite | apply State.arrive_only | apply State.changeMode_only | apply State.checkAxis_only | apply State.dutySlew_only | apply State.emergency_only | apply State.encoderSpeeds_only | apply State.judgeKick_only | apply State.limp_only | apply State.pairMeans_only | apply State.renderMoves_only | apply State.render_only | apply State.reportShare_only | apply State.reshare_only | apply State.snatchEnd_only | apply State.speedClip_only | apply State.startUpdate_only | apply State.torque_only | exact h13 _ | exact h14 _ | exact h15 _ | exact h16 _ | exact h21 _ | exact h23 _ | exact h24 _ | exact h25 _ | exact h26 _ | exact h27 _ | exact h28 _ | exact h29 _ | exact h30 _ | exact h31 _ | exact h32 _ | exact h33 _ | exact h34 _ | exact h35 _ | exact h37 _ | exact h38 _ | exact h48 _ | exact h49 _ | exact h50 _ | exact h51 _ | exact h52 _ | exact h53 _ | intro _ | exact Only.of_pair ‹_ = (_, _)› ‹_› | apply Only.of_pair ‹_ = (_, _)› | dsimp only | split

theorem State.snatchFire_only {a : Fin 4} (h : Only P s u) (h1 : P (.obj (A_SNATCH_COUNT ↑a))) (h2 : ∀ (y1 : Fin 48), P (.slot y1)) (h3 : ∀ (y1 : Fin 48), P (.obj (K_BANK ↑y1))) (h4 : P (.obj S_BLW_ACTIVE)) (h5 : P .raised) (h6 : ∀ (y1 : Fin 4), P (.obj (A_SECTIONS ↑y1))) (h7 : ∀ (y1 : Fin 4), P (.obj (A_CASCADE_SECTIONS ↑y1))) (h8 : ∀ (y1 : Fin 4), P (.ax y1)) (h9 : ∀ (y1 : Fin 4), P (.obj (A_FAULT_STATE ↑y1))) (h10 : ∀ (y1 : Fin 18), P (.hb y1)) (h11 : ∀ (y1 : Fin 18), P (.obj (S_GATE_I ↑y1))) (h12 : ∀ (y1 : Fin 6), P (.sec y1)) (h13 : ∀ (y1 : Fin 6), P (.obj (S_ENABLE ↑y1))) (h14 : ∀ (y1 : Fin 6), P (.obj (S_STATE ↑y1))) (h15 : ∀ (y1 : Fin 6), P (.obj (S_DEG_PHASE ↑y1))) (h16 : ∀ (y1 : Fin 6), P (.obj (S_STEP ↑y1))) (h17 : ∀ (y1 : Fin 6), P (.obj (S_FUS_STATE ↑y1))) (h18 : ∀ (y1 : Fin 6), P (.obj (S_LOCK_STATE ↑y1))) (h19 : ∀ (y1 : Fin 6), P (.obj (S_Q_LAST ↑y1))) (h20 : P (.obj S_DEV_FAULT)) (h21 : ∀ (y1 : Nat), P (.obj (A_FAULT_STATE y1))) (h22 : ∀ (y1 : Fin 48), P (.obj (K_SET_VER ↑y1))) (h23 : P (.obj (A_SNATCH_STATE ↑a))) :
    Only P s (State.snatchFire u a) := by
  with_reducible
    unfold State.snatchFire
    repeat' first | assumption | apply Only.set | apply Only.inc | apply Only.modAx | apply State.flipArmed_only | apply State.jLoad_only | exact h2 _ | exact h3 _ | exact h6 _ | exact h7 _ | exact h8 _ | exact h9 _ | exact h10 _ | exact h11 _ | exact h12 _ | exact h13 _ | exact h14 _ | exact h15 _ | exact h16 _ | exact h17 _ | exact h18 _ | exact h19 _ | exact h21 _ | exact h22 _ | intro _ | exact Only.of_pair ‹_ = (_, _)› ‹_› | apply Only.of_pair ‹_ = (_, _)› | dsimp only | split

theorem State.snatchEval_only {a : Fin 4} (h : Only P s u) (h1 : P (.obj (A_SNATCH_COUNT ↑a))) (h2 : ∀ (y1 : Fin 48), P (.slot y1)) (h3 : ∀ (y1 : Fin 48), P (.obj (K_BANK ↑y1))) (h4 : P (.obj S_BLW_ACTIVE)) (h5 : P .raised) (h6 : ∀ (y1 : Fin 4), P (.obj (A_SECTIONS ↑y1))) (h7 : ∀ (y1 : Fin 4), P (.obj (A_CASCADE_SECTIONS ↑y1))) (h8 : ∀ (y1 : Fin 4), P (.ax y1)) (h9 : ∀ (y1 : Fin 4), P (.obj (A_FAULT_STATE ↑y1))) (h10 : ∀ (y1 : Fin 18), P (.hb y1)) (h11 : ∀ (y1 : Fin 18), P (.obj (S_GATE_I ↑y1))) (h12 : ∀ (y1 : Fin 6), P (.sec y1)) (h13 : ∀ (y1 : Fin 6), P (.obj (S_ENABLE ↑y1))) (h14 : ∀ (y1 : Fin 6), P (.obj (S_STATE ↑y1))) (h15 : ∀ (y1 : Fin 6), P (.obj (S_DEG_PHASE ↑y1))) (h16 : ∀ (y1 : Fin 6), P (.obj (S_STEP ↑y1))) (h17 : ∀ (y1 : Fin 6), P (.obj (S_FUS_STATE ↑y1))) (h18 : ∀ (y1 : Fin 6), P (.obj (S_LOCK_STATE ↑y1))) (h19 : ∀ (y1 : Fin 6), P (.obj (S_Q_LAST ↑y1))) (h20 : P (.obj S_DEV_FAULT)) (h21 : ∀ (y1 : Nat), P (.obj (A_FAULT_STATE y1))) (h22 : ∀ (y1 : Fin 48), P (.obj (K_SET_VER ↑y1))) (h23 : P (.obj (A_SNATCH_STATE ↑a))) :
    Only P s (State.snatchEval u a) := by
  with_reducible
    unfold State.snatchEval
    repeat' first | assumption | apply Only.modAx | apply Only.ite | apply State.snatchFire_only | exact h2 _ | exact h3 _ | exact h6 _ | exact h7 _ | exact h8 _ | exact h9 _ | exact h10 _ | exact h11 _ | exact h12 _ | exact h13 _ | exact h14 _ | exact h15 _ | exact h16 _ | exact h17 _ | exact h18 _ | exact h19 _ | exact h21 _ | exact h22 _ | intro _ | exact Only.of_pair ‹_ = (_, _)› ‹_› | apply Only.of_pair ‹_ = (_, _)› | dsimp only | split

theorem State.prepareArmed_only {a : Fin 4} (h : Only P s u) (h1 : ∀ (y1 : Fin 48), P (.slot y1)) :
    Only P s (State.prepareArmed u a) := by
  with_reducible
    unfold State.prepareArmed
    repeat' first | assumption | apply Only.each | apply State.prepareSlot_only | exact h1 _ | intro _ | dsimp only | split

theorem State.snatchArm_only {a : Fin 4} {vs : List (Fin 48 × Nat × Int)} (h : Only P s u) (h1 : P (.ax a)) (h2 : ∀ (y1 : Fin 48), P (.slot y1)) (h3 : P (.obj (A_SNATCH_STATE ↑a))) :
    Only P s (State.snatchArm u a vs) := by
  with_reducible
    unfold State.snatchArm
    repeat' first | assumption | apply Only.set | apply Only.modAx | apply State.prepareArmed_only | exact h2 _ | intro _ | dsimp only | split

theorem State.snatchDiscard_only {a : Fin 4} (h : Only P s u) (h1 : P .port) (h2 : ∀ (y1 : Nat), P (.obj (ST_GRANTS y1))) (h3 : P (.obj ST_MAX_WAIT)) (h4 : P (.obj ST_BUSY)) (h5 : ∀ (y1 : Fin 48) (y2 : Fin 25), P (.obj (K_ORDER ↑y1 + ↑y2))) (h6 : ∀ (y1 : Fin 48), P (.obj (K_SET_VER ↑y1))) (h7 : ∀ (y1 : Fin 48), P (.slot y1)) (h8 : P (.ax a)) (h9 : P (.obj (A_SNATCH_STATE ↑a))) :
    Only P s (State.snatchDiscard u a) := by
  with_reducible
    unfold State.snatchDiscard
    repeat' first | assumption | apply Only.set | apply Only.modAx | apply Only.each | apply State.snatchWritten_only | apply State.unprepareSlot_only | exact h2 _ | exact h5 _ _ | exact h6 _ | exact h7 _ | intro _ | dsimp only | split

theorem State.tempWritten_only {x : Fin 6} (h : Only P s u) (h1 : P (.sec x)) (h2 : P (.obj (S_TEMP_STALE ↑x))) :
    Only P s (State.tempWritten u x) := by
  with_reducible
    unfold State.tempWritten
    repeat' first | assumption | apply Only.set | apply Only.modSec | intro _ | dsimp only | split

end Sys2Proof.Safety
end

