-- ==== Sys2Proof/Laws/OnlySafety.lean ====
section
/-! SUPPORT. Frames of the operations of Tongs, the safety configuration and the clock: the parts of the state that each may change. -/

set_option linter.all false

namespace Sys2Proof.Safety
open Sys2Proof.Machine Sys2Proof.Machine.Obj

variable {P : Part → Prop} {s u : State}

/-! ### Envelope -/

theorem Covers.envelope (h : Covers P configParts) : Covers P envelopeParts :=
  fun p hp => h p (List.mem_append.mpr (.inr hp))

theorem State.modChan_only {c : Fin 2} {f : Chan → Chan} (h : Only P s u) (h1 : P .tongs) :
    Only P s (State.modChan u c f) := by
  with_reducible
    unfold State.modChan
    repeat' first | assumption | intro _ | exact Only.of_pair ‹_ = (_, _)› ‹_› | apply Only.of_pair ‹_ = (_, _)› | dsimp only | split | apply Only.w_tongs

theorem State.fit_only {k : Nat} {lo : Int} {hi : Int} {klo : Nat} {khi : Nat} (h : Only P s u) (h1 : P (.obj k)) (h2 : P .raised) (h3 : P (.obj SF_ANV_CLIPS)) :
    Only P s (State.fit u k lo hi klo khi) := by
  with_reducible
    unfold State.fit
    repeat' first | assumption | apply Only.set | apply Only.ite | apply State.jClip_only | intro _ | dsimp only | split

theorem State.fitShadow_only {x : Fin 6} {sub : Nat} {lo : Int} {hi : Int} (h : Only P s u) (h1 : P (.sec x)) :
    Only P s (State.fitShadow u x sub lo hi) := by
  with_reducible
    unfold State.fitShadow
    repeat' first | assumption | apply Only.modPwm | apply Only.ite | intro _ | dsimp only | split

theorem State.fitPeriod_only {x : Fin 6} (h : Only P s u) (h1 : P (.obj (S_PERIOD ↑x))) (h2 : P .raised) (h3 : P (.obj SF_ANV_CLIPS)) (h4 : P (.sec x)) :
    Only P s (State.fitPeriod u x) := by
  with_reducible
    unfold State.fitPeriod
    repeat' first | assumption | apply Only.modPwm | apply Only.ite | apply State.fit_only | intro _ | dsimp only | split

theorem State.loadEnvelope_only (h : Only P s u) (h1 : Covers P envelopeParts) :
    Only P s (State.loadEnvelope u) := by
  have hc : P (.obj SF_ANV_CLIPS) := h1 _ (by simp only [envelopeParts, List.flatten_cons, List.mem_append]; exact .inl (by simp))
  have hr : P .raised := h1 _ (by simp only [envelopeParts, List.flatten_cons, List.mem_append]; exact .inl (by simp))
  have hx : ∀ (x : Fin 6) (p : Part), p ∈ [.sec x, .obj (S_DUTY_MAX x), .obj (S_PERIOD x), .obj (S_TMP_TGT_ON x), .obj (S_TMP_TGT_OFF x), .obj (S_BLW_HOLD x)] → P p := by
    intro x p hp
    refine h1 _ ?_
    simp only [envelopeParts, List.flatten_cons, List.mem_append]
    exact .inr (.inr (.inl (List.mem_flatMap.mpr ⟨x, List.mem_finRange x, hp⟩)))
  have hn : ∀ (n : Fin 18) (m : Nat), m ∈ [0, 1, 2, 3] → P (.obj (codeKey n m)) := by
    intro n m hm
    refine h1 _ ?_
    simp only [envelopeParts, List.flatten_cons, List.mem_append]
    refine .inr (.inr (.inr (.inl (List.mem_flatMap.mpr ⟨n, List.mem_finRange n, ?_⟩))))
    simp only [List.mem_cons, List.not_mem_nil, or_false] at hm
    rcases hm with rfl | rfl | rfl | rfl <;> simp
  unfold State.loadEnvelope
  refine Only.each (Only.each_mem h (fun p v hp hv => hv.set (h1 _ ?_))) (fun x v hv => ?_)
  · simp only [envelopeParts, List.flatten_cons, List.mem_append]
    exact .inr (.inl (List.mem_map.mpr ⟨p, hp, rfl⟩))
  · have hs : P (.sec x) := hx x _ (by simp)
    refine State.fit_only (Only.each_mem (Only.each (State.fitPeriod_only (State.fitShadow_only (State.fit_only hv (hx x _ (by simp)) hr hc) hs) (hx x _ (by simp)) hr hc hs) (fun p w hw => Only.each_mem hw (fun m z hm hz => State.fit_only hz (hn _ _ hm) hr hc))) (fun k w hk hw => State.fit_only hw ?_ hr hc)) (hx x _ (by simp)) hr hc
    simp only [List.mem_cons, List.not_mem_nil, or_false] at hk
    rcases hk with rfl | rfl
    · exact hx x _ (by simp)
    · exact hx x _ (by simp)

theorem State.upsetCopy_only {c : Fin 2} {i : Fin 24} {v : BitVec 32} (h : Only P s u) (h1 : P .tongs) (h2 : Covers P envelopeParts) :
    Only P s (State.upsetCopy u c i v) := by
  with_reducible
    unfold State.upsetCopy
    repeat' first | assumption | apply State.loadEnvelope_only | apply State.modChan_only | intro _ | exact Only.of_pair ‹_ = (_, _)› ‹_› | apply Only.of_pair ‹_ = (_, _)› | dsimp only | split

/-! ### Tongs -/

theorem State.modCax_only {c : Fin 2} {a : Fin 4} {f : ChAx → ChAx} (h : Only P s u) (h1 : P .tongs) :
    Only P s (State.modCax u c a f) := by
  with_reducible
    unfold State.modCax
    repeat' first | assumption | apply State.modChan_only | intro _ | exact Only.of_pair ‹_ = (_, _)› ‹_› | apply Only.of_pair ‹_ = (_, _)› | dsimp only | split

theorem State.jTongs_only {src : Nat} {detail : Nat} {chs : Nat} {data : Bytes} (h : Only P s u) (h1 : P .raised) (h2 : P (.obj SF_LAST_CODE)) :
    Only P s (State.jTongs u src detail chs data) := by
  with_reducible
    unfold State.jTongs
    repeat' first | assumption | apply Only.set | apply Only.journal | apply Only.ite | intro _ | dsimp only | split

theorem State.jSafe_only {a : Fin 4} {detail : Nat} {chs : Nat} {reaction : Nat} {ma : Int} {mb : Int} {lim : Int} (h : Only P s u) (h1 : P .raised) (h2 : P (.obj SF_LAST_CODE)) :
    Only P s (State.jSafe u a detail chs reaction ma mb lim) := by
  with_reducible
    unfold State.jSafe
    repeat' first | assumption | apply State.jTongs_only | intro _ | exact Only.of_pair ‹_ = (_, _)› ‹_› | apply Only.of_pair ‹_ = (_, _)› | dsimp only | split

theorem State.jTongsDevice_only {detail : Nat} {chs : Nat} {ma : Int} {mb : Int} {lim : Int} (h : Only P s u) (h1 : P .freeCtr) (h2 : P .raised) (h3 : P (.obj SF_LAST_CODE)) :
    Only P s (State.jTongsDevice u detail chs ma mb lim) := by
  with_reducible
    unfold State.jTongsDevice
    repeat' first | assumption | apply Only.free | apply State.jTongs_only | intro _ | exact Only.of_pair ‹_ = (_, _)› ‹_› | apply Only.of_pair ‹_ = (_, _)› | dsimp only | split

theorem State.jSafeV_only {a : Fin 4} {detail : Nat} {chs : Nat} {reaction : Nat} {lim : Int} (h : Only P s u) (h1 : P .raised) (h2 : P (.obj SF_LAST_CODE)) :
    Only P s (State.jSafeV u a detail chs reaction lim) := by
  with_reducible
    unfold State.jSafeV
    repeat' first | assumption | apply State.jSafe_only | intro _ | exact Only.of_pair ‹_ = (_, _)› ‹_› | apply Only.of_pair ‹_ = (_, _)› | dsimp only | split

theorem State.chanDecode_only {c : Fin 2} {a : Bool} {b : Bool} (h : Only P s u) (h1 : P .tongs) :
    Only P s (State.chanDecode u c a b) := by
  with_reducible
    unfold State.chanDecode
    repeat' first | assumption | apply Only.ite | apply State.modChan_only | intro _ | exact Only.of_pair ‹_ = (_, _)› ‹_› | apply Only.of_pair ‹_ = (_, _)› | dsimp only | split

theorem State.chanIndex_only {c : Fin 2} (h : Only P s u) (h1 : P .tongs) :
    Only P s (State.chanIndex u c) := by
  with_reducible
    unfold State.chanIndex
    repeat' first | assumption | apply State.modChan_only | intro _ | exact Only.of_pair ‹_ = (_, _)› ‹_› | apply Only.of_pair ‹_ = (_, _)› | dsimp only | split

theorem State.latchAxis_only {c : Fin 2} {fresh : Bool} {a : Fin 4} (h : Only P s u) (h1 : P .tongs) :
    Only P s (State.latchAxis u c fresh a) := by
  with_reducible
    unfold State.latchAxis
    repeat' first | assumption | apply Only.ite | apply State.modCax_only | intro _ | dsimp only | split

theorem State.latch__only {c : Fin 2} {fresh : Bool} {pass : Bool} (h : Only P s u) (h1 : P .tongs) :
    Only P s (State.latch_ u c fresh pass) := by
  with_reducible
    unfold State.latch_
    repeat' first | assumption | apply Only.each | apply Only.ite | apply State.latchAxis_only | apply State.modChan_only | intro _ | dsimp only | split

theorem State.takeRequests_only {c : Fin 2} {a : Fin 4} (h : Only P s u) (h1 : P .tongs) :
    Only P s (State.takeRequests u c a) := by
  with_reducible
    unfold State.takeRequests
    repeat' first | assumption | apply Only.ite | apply State.modCax_only | intro _ | exact Only.of_pair ‹_ = (_, _)› ‹_› | apply Only.of_pair ‹_ = (_, _)› | dsimp only | split | apply Only.foldl | apply Only.foldl_pair

theorem State.gate_only {n : Fin 18} (h : Only P s u) (h1 : P (.hb n)) (h2 : P (.obj S_BLW_ACTIVE)) (h3 : P (.sec (secOf n))) (h4 : P (.obj (S_GATE_I ↑n))) :
    Only P s (State.gate u n) := by
  with_reducible
    unfold State.gate
    repeat' first | assumption | apply Only.modHb | apply Only.modPwm | apply Only.ite | apply State.endWaits_only | apply State.toOff_only | intro _ | exact Only.of_pair ‹_ = (_, _)› ‹_› | apply Only.of_pair ‹_ = (_, _)› | dsimp only | split

theorem State.syncGates_only (h : Only P s u) (h1 : ∀ (y1 : Fin 18), P (.hb y1)) (h2 : P (.obj S_BLW_ACTIVE)) (h3 : ∀ (y1 : Fin 18), P (.sec (secOf y1))) (h4 : ∀ (y1 : Fin 18), P (.obj (S_GATE_I ↑y1))) :
    Only P s (State.syncGates u) := by
  with_reducible
    unfold State.syncGates
    repeat' first | assumption | apply Only.each | apply State.gate_only | exact h1 _ | exact h3 _ | exact h4 _ | intro _ | dsimp only | split

theorem State.syncAxis_only {a : Fin 4} (h : Only P s u) (h1 : P (.ax a)) (h2 : ∀ (y1 : Fin 6) (y2 : Fin 3), P (.hb (hbOf y1 y2))) (h3 : ∀ (y1 : Fin 6) (y2 : Fin 3), P (.obj (S_GATE_I ↑(hbOf y1 y2)))) (h4 : ∀ (y1 : Fin 6), P (.sec y1)) :
    Only P s (State.syncAxis u a) := by
  with_reducible
    unfold State.syncAxis
    repeat' first | assumption | apply Only.modAx | apply Only.each | apply Only.ite | apply State.drive_only | exact h2 _ _ | exact h3 _ _ | exact h4 _ | intro _ | exact Only.of_pair ‹_ = (_, _)› ‹_› | apply Only.of_pair ‹_ = (_, _)› | dsimp only | split

theorem State.holdSto_only {c : Fin 2} {a : Fin 4} (h : Only P s u) (h1 : P .tongs) (h2 : ∀ (y1 : Fin 6), P (.obj (S_ENABLE ↑y1))) (h3 : P (.obj S_BLW_ACTIVE)) (h4 : ∀ (y1 : Fin 6), P (.sec y1)) (h5 : ∀ (y1 : Fin 6), P (.obj (S_STATE ↑y1))) (h6 : ∀ (y1 : Fin 6), P (.obj (S_DEG_PHASE ↑y1))) (h7 : ∀ (y1 : Fin 6), P (.obj (S_STEP ↑y1))) (h8 : ∀ (y1 : Fin 6), P (.obj (S_FUS_STATE ↑y1))) (h9 : ∀ (y1 : Fin 6), P (.obj (S_LOCK_STATE ↑y1))) (h10 : P .raised) (h11 : ∀ (y1 : Fin 4), P (.obj (A_SECTIONS ↑y1))) (h12 : ∀ (y1 : Fin 4), P (.obj (A_CASCADE_SECTIONS ↑y1))) (h13 : ∀ (y1 : Fin 4), P (.ax y1)) (h14 : ∀ (y1 : Fin 4), P (.obj (A_FAULT_STATE ↑y1))) (h15 : P (.obj (A_MD_DUTY ↑a))) (h16 : P (.obj (A_MD_NOW ↑a))) (h17 : P (.obj (A_RENDER_STATE ↑a))) (h18 : P (.obj (A_POS_REF ↑a))) (h19 : P (.obj (A_PROF_SPEED ↑a))) (h20 : P (.obj (A_PROF_ACCEL ↑a))) (h21 : P (.obj (A_PROF_STATE ↑a))) (h22 : P (.obj SF_BRAKE_OPEN)) (h23 : ∀ (y1 : Fin 18), P (.hb y1)) (h24 : ∀ (y1 : Fin 18), P (.obj (S_GATE_I ↑y1))) :
    Only P s (State.holdSto u c a) := by
  with_reducible
    unfold State.holdSto
    repeat' first | assumption | apply Only.set | apply Only.each | apply Only.ite | apply State.clearDuty_only | apply State.enableZero_only | apply State.joinFail_only | apply State.modCax_only | apply State.renderEnd_only | apply State.syncGates_only | exact h2 _ | exact h4 _ | exact h5 _ | exact h6 _ | exact h7 _ | exact h8 _ | exact h9 _ | exact h11 _ | exact h12 _ | exact h13 _ | exact h14 _ | exact h23 _ | exact h24 _ | intro _ | exact Only.of_pair ‹_ = (_, _)› ‹_› | apply Only.of_pair ‹_ = (_, _)› | dsimp only | split

theorem State.stopBegins_only {a : Fin 4} (h : Only P s u) (h1 : P (.ax a)) (h2 : P (.obj (A_RENDER_STATE ↑a))) (h3 : P (.obj (A_POS_REF ↑a))) (h4 : P (.obj (A_PROF_SPEED ↑a))) (h5 : P (.obj (A_PROF_ACCEL ↑a))) (h6 : P (.obj (A_PROF_STATE ↑a))) (h7 : P .raised) (h8 : P (.obj (A_START_STAGE ↑a))) (h9 : ∀ (y1 : Fin 48), P (.slot y1)) (h10 : ∀ (y1 : Fin 6) (y2 : Fin 3), P (.hb (hbOf y1 y2))) (h11 : ∀ (y1 : Fin 6) (y2 : Fin 3), P (.obj (S_GATE_I ↑(hbOf y1 y2)))) (h12 : ∀ (y1 : Fin 6), P (.sec y1)) :
    Only P s (State.stopBegins u a) := by
  with_reducible
    unfold State.stopBegins
    repeat' first | assumption | apply Only.ite | apply State.enterStage_only | apply State.followStop_only | apply State.renderEnd_only | exact h9 _ | exact h10 _ _ | exact h11 _ _ | exact h12 _ | intro _ | dsimp only | split

theorem State.startStop_only {c : Fin 2} {a : Fin 4} {k : Nat} (h : Only P s u) (h1 : P .tongs) (h2 : P (.obj (A_RENDER_STATE ↑a))) (h3 : P (.obj (A_POS_REF ↑a))) (h4 : P (.obj (A_PROF_SPEED ↑a))) (h5 : P (.obj (A_PROF_ACCEL ↑a))) (h6 : P (.obj (A_PROF_STATE ↑a))) (h7 : P .raised) (h8 : P (.obj (A_START_STAGE ↑a))) (h9 : ∀ (y1 : Fin 48), P (.slot y1)) (h10 : ∀ (y1 : Fin 6), P (.sec y1)) (h11 : ∀ (y1 : Fin 6), P (.obj (S_ENABLE ↑y1))) (h12 : P (.obj S_BLW_ACTIVE)) (h13 : ∀ (y1 : Fin 6), P (.obj (S_STATE ↑y1))) (h14 : ∀ (y1 : Fin 6), P (.obj (S_DEG_PHASE ↑y1))) (h15 : ∀ (y1 : Fin 6), P (.obj (S_STEP ↑y1))) (h16 : ∀ (y1 : Fin 6), P (.obj (S_FUS_STATE ↑y1))) (h17 : ∀ (y1 : Fin 6), P (.obj (S_LOCK_STATE ↑y1))) (h18 : ∀ (y1 : Fin 4), P (.obj (A_SECTIONS ↑y1))) (h19 : ∀ (y1 : Fin 4), P (.obj (A_CASCADE_SECTIONS ↑y1))) (h20 : ∀ (y1 : Fin 4), P (.ax y1)) (h21 : ∀ (y1 : Fin 4), P (.obj (A_FAULT_STATE ↑y1))) (h22 : P (.obj (A_MD_DUTY ↑a))) (h23 : P (.obj (A_MD_NOW ↑a))) (h24 : P (.obj SF_BRAKE_OPEN)) (h25 : ∀ (y1 : Fin 18), P (.hb y1)) (h26 : ∀ (y1 : Fin 18), P (.obj (S_GATE_I ↑y1))) :
    Only P s (State.startStop u c a k) := by
  with_reducible
    unfold State.startStop
    repeat' first | assumption | apply Only.ite | apply State.holdSto_only | apply State.modCax_only | apply State.stopBegins_only | exact h9 _ | exact h10 _ | exact h11 _ | exact h13 _ | exact h14 _ | exact h15 _ | exact h16 _ | exact h17 _ | exact h18 _ | exact h19 _ | exact h20 _ | exact h21 _ | exact h25 _ | exact h26 _ | intro _ | exact Only.of_pair ‹_ = (_, _)› ‹_› | apply Only.of_pair ‹_ = (_, _)› | dsimp only | split

theorem State.endStop_only {c : Fin 2} {a : Fin 4} {still : Bool} (h : Only P s u) (h1 : P .tongs) (h2 : P (.obj SF_BRAKE_OPEN)) (h3 : ∀ (y1 : Fin 6), P (.obj (S_ENABLE ↑y1))) (h4 : P (.obj S_BLW_ACTIVE)) (h5 : ∀ (y1 : Fin 6), P (.sec y1)) (h6 : ∀ (y1 : Fin 6), P (.obj (S_STATE ↑y1))) (h7 : ∀ (y1 : Fin 6), P (.obj (S_DEG_PHASE ↑y1))) (h8 : ∀ (y1 : Fin 6), P (.obj (S_STEP ↑y1))) (h9 : ∀ (y1 : Fin 6), P (.obj (S_FUS_STATE ↑y1))) (h10 : ∀ (y1 : Fin 6), P (.obj (S_LOCK_STATE ↑y1))) (h11 : P .raised) (h12 : ∀ (y1 : Fin 4), P (.obj (A_SECTIONS ↑y1))) (h13 : ∀ (y1 : Fin 4), P (.obj (A_CASCADE_SECTIONS ↑y1))) (h14 : ∀ (y1 : Fin 4), P (.ax y1)) (h15 : ∀ (y1 : Fin 4), P (.obj (A_FAULT_STATE ↑y1))) (h16 : P (.obj (A_MD_DUTY ↑a))) (h17 : P (.obj (A_MD_NOW ↑a))) (h18 : P (.obj (A_RENDER_STATE ↑a))) (h19 : P (.obj (A_POS_REF ↑a))) (h20 : P (.obj (A_PROF_SPEED ↑a))) (h21 : P (.obj (A_PROF_ACCEL ↑a))) (h22 : P (.obj (A_PROF_STATE ↑a))) (h23 : ∀ (y1 : Fin 18), P (.hb y1)) (h24 : ∀ (y1 : Fin 18), P (.obj (S_GATE_I ↑y1))) :
    Only P s (State.endStop u c a still) := by
  with_reducible
    unfold State.endStop
    repeat' first | assumption | apply Only.set | apply Only.ite | apply State.holdSto_only | apply State.modCax_only | exact h3 _ | exact h5 _ | exact h6 _ | exact h7 _ | exact h8 _ | exact h9 _ | exact h10 _ | exact h12 _ | exact h13 _ | exact h14 _ | exact h15 _ | exact h23 _ | exact h24 _ | intro _ | dsimp only | split

theorem State.runStop_only {c : Fin 2} {a : Fin 4} (h : Only P s u) (h1 : P .tongs) (h2 : ∀ (y1 : Fin 6), P (.obj (S_ENABLE ↑y1))) (h3 : P (.obj S_BLW_ACTIVE)) (h4 : ∀ (y1 : Fin 6), P (.sec y1)) (h5 : ∀ (y1 : Fin 6), P (.obj (S_STATE ↑y1))) (h6 : ∀ (y1 : Fin 6), P (.obj (S_DEG_PHASE ↑y1))) (h7 : ∀ (y1 : Fin 6), P (.obj (S_STEP ↑y1))) (h8 : ∀ (y1 : Fin 6), P (.obj (S_FUS_STATE ↑y1))) (h9 : ∀ (y1 : Fin 6), P (.obj (S_LOCK_STATE ↑y1))) (h10 : P .raised) (h11 : ∀ (y1 : Fin 4), P (.obj (A_SECTIONS ↑y1))) (h12 : ∀ (y1 : Fin 4), P (.obj (A_CASCADE_SECTIONS ↑y1))) (h13 : ∀ (y1 : Fin 4), P (.ax y1)) (h14 : ∀ (y1 : Fin 4), P (.obj (A_FAULT_STATE ↑y1))) (h15 : P (.obj (A_MD_DUTY ↑a))) (h16 : P (.obj (A_MD_NOW ↑a))) (h17 : P (.obj (A_RENDER_STATE ↑a))) (h18 : P (.obj (A_POS_REF ↑a))) (h19 : P (.obj (A_PROF_SPEED ↑a))) (h20 : P (.obj (A_PROF_ACCEL ↑a))) (h21 : P (.obj (A_PROF_STATE ↑a))) (h22 : P (.obj SF_BRAKE_OPEN)) (h23 : ∀ (y1 : Fin 18), P (.hb y1)) (h24 : ∀ (y1 : Fin 18), P (.obj (S_GATE_I ↑y1))) (h25 : P (.obj (A_START_STAGE ↑a))) (h26 : ∀ (y1 : Fin 48), P (.slot y1)) :
    Only P s (State.runStop u c a) := by
  with_reducible
    unfold State.runStop
    repeat' first | assumption | apply Only.ite | apply State.endStop_only | apply State.holdSto_only | apply State.modCax_only | apply State.startStop_only | exact h2 _ | exact h4 _ | exact h5 _ | exact h6 _ | exact h7 _ | exact h8 _ | exact h9 _ | exact h11 _ | exact h12 _ | exact h13 _ | exact h14 _ | exact h23 _ | exact h24 _ | exact h26 _ | intro _ | dsimp only | split

theorem State.jStops_only {s0 : State} {a : Fin 4} (h : Only P s u) (h1 : P .raised) (h2 : P (.obj SF_LAST_CODE)) :
    Only P s (State.jStops s0 u a) := by
  with_reducible
    unfold State.jStops
    repeat' first | assumption | apply Only.ite | apply State.jSafeV_only | intro _ | exact Only.of_pair ‹_ = (_, _)› ‹_› | apply Only.of_pair ‹_ = (_, _)› | dsimp only | split

theorem State.runStops_only {a : Fin 4} (h : Only P s u) (h1 : P .tongs) (h2 : ∀ (y1 : Fin 6), P (.obj (S_ENABLE ↑y1))) (h3 : P (.obj S_BLW_ACTIVE)) (h4 : ∀ (y1 : Fin 6), P (.sec y1)) (h5 : ∀ (y1 : Fin 6), P (.obj (S_STATE ↑y1))) (h6 : ∀ (y1 : Fin 6), P (.obj (S_DEG_PHASE ↑y1))) (h7 : ∀ (y1 : Fin 6), P (.obj (S_STEP ↑y1))) (h8 : ∀ (y1 : Fin 6), P (.obj (S_FUS_STATE ↑y1))) (h9 : ∀ (y1 : Fin 6), P (.obj (S_LOCK_STATE ↑y1))) (h10 : P .raised) (h11 : ∀ (y1 : Fin 4), P (.obj (A_SECTIONS ↑y1))) (h12 : ∀ (y1 : Fin 4), P (.obj (A_CASCADE_SECTIONS ↑y1))) (h13 : ∀ (y1 : Fin 4), P (.ax y1)) (h14 : ∀ (y1 : Fin 4), P (.obj (A_FAULT_STATE ↑y1))) (h15 : P (.obj (A_MD_DUTY ↑a))) (h16 : P (.obj (A_MD_NOW ↑a))) (h17 : P (.obj (A_RENDER_STATE ↑a))) (h18 : P (.obj (A_POS_REF ↑a))) (h19 : P (.obj (A_PROF_SPEED ↑a))) (h20 : P (.obj (A_PROF_ACCEL ↑a))) (h21 : P (.obj (A_PROF_STATE ↑a))) (h22 : P (.obj SF_BRAKE_OPEN)) (h23 : ∀ (y1 : Fin 18), P (.hb y1)) (h24 : ∀ (y1 : Fin 18), P (.obj (S_GATE_I ↑y1))) (h25 : P (.obj (A_START_STAGE ↑a))) (h26 : ∀ (y1 : Fin 48), P (.slot y1)) (h27 : P (.obj SF_LAST_CODE)) :
    Only P s (State.runStops u a) := by
  with_reducible
    unfold State.runStops
    repeat' first | assumption | apply Only.each | apply State.jStops_only | apply State.runStop_only | exact h2 _ | exact h4 _ | exact h5 _ | exact h6 _ | exact h7 _ | exact h8 _ | exact h9 _ | exact h11 _ | exact h12 _ | exact h13 _ | exact h14 _ | exact h23 _ | exact h24 _ | exact h26 _ | intro _ | dsimp only | split

theorem State.compare_only {c : Fin 2} (h : Only P s u) (h1 : P .tongs) :
    Only P s (State.compare u c) := by
  with_reducible
    unfold State.compare
    repeat' first | assumption | apply Only.ite | apply State.modChan_only | intro _ | dsimp only | split

theorem State.watchObserver_only {c : Fin 2} (h : Only P s u) (h1 : P .tongs) :
    Only P s (State.watchObserver u c) := by
  with_reducible
    unfold State.watchObserver
    repeat' first | assumption | apply Only.ite | apply State.modChan_only | intro _ | exact Only.of_pair ‹_ = (_, _)› ‹_› | apply Only.of_pair ‹_ = (_, _)› | dsimp only | split

theorem State.jUnavailable_only {s0 : State} (h : Only P s u) (h1 : P .raised) (h2 : P (.obj SF_LAST_CODE)) :
    Only P s (State.jUnavailable s0 u) := by
  with_reducible
    unfold State.jUnavailable
    repeat' first | assumption | apply Only.ite | apply State.jSafe_only | intro _ | exact Only.of_pair ‹_ = (_, _)› ‹_› | apply Only.of_pair ‹_ = (_, _)› | dsimp only | split

theorem State.toSafe_only {c : Fin 2} {a : Fin 4} {isl : Nat} {f : Found} (h : Only P s u) (h1 : P .tongs) (h2 : P .latch) (h3 : P (.obj (A_MD_DUTY ↑a))) (h4 : P (.obj (A_MD_NOW ↑a))) (h5 : ∀ (y1 : Fin 6), P (.obj (S_ENABLE ↑y1))) (h6 : P (.obj S_BLW_ACTIVE)) (h7 : ∀ (y1 : Fin 6), P (.sec y1)) (h8 : ∀ (y1 : Fin 6), P (.obj (S_STATE ↑y1))) (h9 : ∀ (y1 : Fin 6), P (.obj (S_DEG_PHASE ↑y1))) (h10 : ∀ (y1 : Fin 6), P (.obj (S_STEP ↑y1))) (h11 : ∀ (y1 : Fin 6), P (.obj (S_FUS_STATE ↑y1))) (h12 : ∀ (y1 : Fin 6), P (.obj (S_LOCK_STATE ↑y1))) (h13 : P .raised) (h14 : ∀ (y1 : Fin 4), P (.obj (A_SECTIONS ↑y1))) (h15 : ∀ (y1 : Fin 4), P (.obj (A_CASCADE_SECTIONS ↑y1))) (h16 : ∀ (y1 : Fin 4), P (.ax y1)) (h17 : ∀ (y1 : Fin 4), P (.obj (A_FAULT_STATE ↑y1))) (h18 : P (.obj (A_RENDER_STATE ↑a))) (h19 : P (.obj (A_POS_REF ↑a))) (h20 : P (.obj (A_PROF_SPEED ↑a))) (h21 : P (.obj (A_PROF_ACCEL ↑a))) (h22 : P (.obj (A_PROF_STATE ↑a))) (h23 : P (.obj SF_BRAKE_OPEN)) (h24 : ∀ (y1 : Fin 18), P (.hb y1)) (h25 : ∀ (y1 : Fin 18), P (.obj (S_GATE_I ↑y1))) (h26 : P (.obj (A_START_STAGE ↑a))) (h27 : ∀ (y1 : Fin 48), P (.slot y1)) :
    Only P s (State.toSafe u c a isl f) := by
  with_reducible
    unfold State.toSafe
    repeat' first | assumption | apply Only.ite | apply State.clearDuty_only | apply State.modCax_only | apply State.runStop_only | exact h5 _ | exact h7 _ | exact h8 _ | exact h9 _ | exact h10 _ | exact h11 _ | exact h12 _ | exact h14 _ | exact h15 _ | exact h16 _ | exact h17 _ | exact h24 _ | exact h25 _ | exact h27 _ | intro _ | exact Only.of_pair ‹_ = (_, _)› ‹_› | apply Only.of_pair ‹_ = (_, _)› | dsimp only | split | apply Only.w_latch

theorem State.jTele_only {src : Nat} {detail : Nat} {chs : Nat} {port : Nat} {sp : Nat} {seq : Nat} {chk : Nat} {axes : Nat} (h : Only P s u) (h1 : P .raised) (h2 : P (.obj SF_LAST_CODE)) :
    Only P s (State.jTele u src detail chs port sp seq chk axes) := by
  with_reducible
    unfold State.jTele
    repeat' first | assumption | apply State.jTongs_only | intro _ | dsimp only | split

theorem State.jTelegram_only {chs : Nat} {detail : Nat} (h : Only P s u) (h1 : P .raised) (h2 : P (.obj SF_LAST_CODE)) :
    Only P s (State.jTelegram u chs detail) := by
  with_reducible
    unfold State.jTelegram
    repeat' first | assumption | apply Only.ite | apply State.jTele_only | intro _ | exact Only.of_pair ‹_ = (_, _)› ‹_› | apply Only.of_pair ‹_ = (_, _)› | dsimp only | split

theorem State.jFound_only {fa : Option Found} {fb : Option Found} {entry : State → Found → Nat → State} (h : Only P s u) (hkentry : ∀ v z1 z2, Only P s v → Only P s (entry v z1 z2)) :
    Only P s (State.jFound u fa fb entry) := by
  with_reducible
    unfold State.jFound
    repeat' first | assumption | apply Only.ite | apply hkentry | intro _ | exact Only.of_pair ‹_ = (_, _)› ‹_› | apply Only.of_pair ‹_ = (_, _)› | dsimp only | split

theorem State.jCause_only {a : Fin 4} {f : Found} {chs : Nat} (h : Only P s u) (h1 : P .raised) (h2 : P (.obj SF_LAST_CODE)) (h3 : P (.obj SF_XC_COUNT)) :
    Only P s (State.jCause u a f chs) := by
  with_reducible
    unfold State.jCause
    repeat' first | assumption | apply Only.inc | apply Only.ite | apply State.jSafe_only | intro _ | exact Only.of_pair ‹_ = (_, _)› ‹_› | apply Only.of_pair ‹_ = (_, _)› | dsimp only | split

theorem State.judgeWith_only {a : Fin 4} {fa : Option Found} {fb : Option Found} (h : Only P s u) (h1 : P .tongs) (h2 : P .latch) (h3 : P (.obj (A_MD_DUTY ↑a))) (h4 : P (.obj (A_MD_NOW ↑a))) (h5 : ∀ (y1 : Fin 6), P (.obj (S_ENABLE ↑y1))) (h6 : P (.obj S_BLW_ACTIVE)) (h7 : ∀ (y1 : Fin 6), P (.sec y1)) (h8 : ∀ (y1 : Fin 6), P (.obj (S_STATE ↑y1))) (h9 : ∀ (y1 : Fin 6), P (.obj (S_DEG_PHASE ↑y1))) (h10 : ∀ (y1 : Fin 6), P (.obj (S_STEP ↑y1))) (h11 : ∀ (y1 : Fin 6), P (.obj (S_FUS_STATE ↑y1))) (h12 : ∀ (y1 : Fin 6), P (.obj (S_LOCK_STATE ↑y1))) (h13 : P .raised) (h14 : ∀ (y1 : Fin 4), P (.obj (A_SECTIONS ↑y1))) (h15 : ∀ (y1 : Fin 4), P (.obj (A_CASCADE_SECTIONS ↑y1))) (h16 : ∀ (y1 : Fin 4), P (.ax y1)) (h17 : ∀ (y1 : Fin 4), P (.obj (A_FAULT_STATE ↑y1))) (h18 : P (.obj (A_RENDER_STATE ↑a))) (h19 : P (.obj (A_POS_REF ↑a))) (h20 : P (.obj (A_PROF_SPEED ↑a))) (h21 : P (.obj (A_PROF_ACCEL ↑a))) (h22 : P (.obj (A_PROF_STATE ↑a))) (h23 : P (.obj SF_BRAKE_OPEN)) (h24 : ∀ (y1 : Fin 18), P (.hb y1)) (h25 : ∀ (y1 : Fin 18), P (.obj (S_GATE_I ↑y1))) (h26 : P (.obj (A_START_STAGE ↑a))) (h27 : ∀ (y1 : Fin 48), P (.slot y1)) (h28 : P (.obj (SF_STATE ↑a))) (h29 : P (.obj SF_LAST_CODE)) (h30 : P (.obj SF_XC_COUNT)) :
    Only P s (State.judgeWith u a fa fb) := by
  with_reducible
    unfold State.judgeWith
    repeat' first | assumption | apply Only.set | apply Only.ite | apply State.jCause_only | apply State.jFound_only | apply State.jStops_only | apply State.toSafe_only | exact h5 _ | exact h7 _ | exact h8 _ | exact h9 _ | exact h10 _ | exact h11 _ | exact h12 _ | exact h14 _ | exact h15 _ | exact h16 _ | exact h17 _ | exact h24 _ | exact h25 _ | exact h27 _ | intro _ | exact Only.of_pair ‹_ = (_, _)› ‹_› | apply Only.of_pair ‹_ = (_, _)› | dsimp only | split

theorem State.judge_only {a : Fin 4} (h : Only P s u) (h1 : P .tongs) (h2 : P .latch) (h3 : P (.obj (A_MD_DUTY ↑a))) (h4 : P (.obj (A_MD_NOW ↑a))) (h5 : ∀ (y1 : Fin 6), P (.obj (S_ENABLE ↑y1))) (h6 : P (.obj S_BLW_ACTIVE)) (h7 : ∀ (y1 : Fin 6), P (.sec y1)) (h8 : ∀ (y1 : Fin 6), P (.obj (S_STATE ↑y1))) (h9 : ∀ (y1 : Fin 6), P (.obj (S_DEG_PHASE ↑y1))) (h10 : ∀ (y1 : Fin 6), P (.obj (S_STEP ↑y1))) (h11 : ∀ (y1 : Fin 6), P (.obj (S_FUS_STATE ↑y1))) (h12 : ∀ (y1 : Fin 6), P (.obj (S_LOCK_STATE ↑y1))) (h13 : P .raised) (h14 : ∀ (y1 : Fin 4), P (.obj (A_SECTIONS ↑y1))) (h15 : ∀ (y1 : Fin 4), P (.obj (A_CASCADE_SECTIONS ↑y1))) (h16 : ∀ (y1 : Fin 4), P (.ax y1)) (h17 : ∀ (y1 : Fin 4), P (.obj (A_FAULT_STATE ↑y1))) (h18 : P (.obj (A_RENDER_STATE ↑a))) (h19 : P (.obj (A_POS_REF ↑a))) (h20 : P (.obj (A_PROF_SPEED ↑a))) (h21 : P (.obj (A_PROF_ACCEL ↑a))) (h22 : P (.obj (A_PROF_STATE ↑a))) (h23 : P (.obj SF_BRAKE_OPEN)) (h24 : ∀ (y1 : Fin 18), P (.hb y1)) (h25 : ∀ (y1 : Fin 18), P (.obj (S_GATE_I ↑y1))) (h26 : P (.obj (A_START_STAGE ↑a))) (h27 : ∀ (y1 : Fin 48), P (.slot y1)) (h28 : P (.obj (SF_STATE ↑a))) (h29 : P (.obj SF_LAST_CODE)) (h30 : P (.obj SF_XC_COUNT)) :
    Only P s (State.judge u a) := by
  with_reducible
    unfold State.judge
    repeat' first | assumption | apply State.judgeWith_only | exact h5 _ | exact h7 _ | exact h8 _ | exact h9 _ | exact h10 _ | exact h11 _ | exact h12 _ | exact h14 _ | exact h15 _ | exact h16 _ | exact h17 _ | exact h24 _ | exact h25 _ | exact h27 _ | intro _ | exact Only.of_pair ‹_ = (_, _)› ‹_› | apply Only.of_pair ‹_ = (_, _)› | dsimp only | split

theorem State.jDiscrepancy_only {f : Found} {chs : Nat} (h : Only P s u) (h1 : P .freeCtr) (h2 : P .raised) (h3 : P (.obj SF_LAST_CODE)) (h4 : P (.obj SF_XC_COUNT)) :
    Only P s (State.jDiscrepancy u f chs) := by
  with_reducible
    unfold State.jDiscrepancy
    repeat' first | assumption | apply Only.inc | apply State.jTongsDevice_only | intro _ | exact Only.of_pair ‹_ = (_, _)› ‹_› | apply Only.of_pair ‹_ = (_, _)› | dsimp only | split

theorem State.judgeAxes_only (h : Only P s u) (h1 : P .tongs) (h2 : P .latch) (h3 : ∀ (y1 : Fin 4), P (.obj (A_MD_DUTY ↑y1))) (h4 : ∀ (y1 : Fin 4), P (.obj (A_MD_NOW ↑y1))) (h5 : ∀ (y1 : Fin 6), P (.obj (S_ENABLE ↑y1))) (h6 : P (.obj S_BLW_ACTIVE)) (h7 : ∀ (y1 : Fin 6), P (.sec y1)) (h8 : ∀ (y1 : Fin 6), P (.obj (S_STATE ↑y1))) (h9 : ∀ (y1 : Fin 6), P (.obj (S_DEG_PHASE ↑y1))) (h10 : ∀ (y1 : Fin 6), P (.obj (S_STEP ↑y1))) (h11 : ∀ (y1 : Fin 6), P (.obj (S_FUS_STATE ↑y1))) (h12 : ∀ (y1 : Fin 6), P (.obj (S_LOCK_STATE ↑y1))) (h13 : P .raised) (h14 : ∀ (y1 : Fin 4), P (.obj (A_SECTIONS ↑y1))) (h15 : ∀ (y1 : Fin 4), P (.obj (A_CASCADE_SECTIONS ↑y1))) (h16 : ∀ (y1 : Fin 4), P (.ax y1)) (h17 : ∀ (y1 : Fin 4), P (.obj (A_FAULT_STATE ↑y1))) (h18 : ∀ (y1 : Fin 4), P (.obj (A_RENDER_STATE ↑y1))) (h19 : ∀ (y1 : Fin 4), P (.obj (A_POS_REF ↑y1))) (h20 : ∀ (y1 : Fin 4), P (.obj (A_PROF_SPEED ↑y1))) (h21 : ∀ (y1 : Fin 4), P (.obj (A_PROF_ACCEL ↑y1))) (h22 : ∀ (y1 : Fin 4), P (.obj (A_PROF_STATE ↑y1))) (h23 : P (.obj SF_BRAKE_OPEN)) (h24 : ∀ (y1 : Fin 18), P (.hb y1)) (h25 : ∀ (y1 : Fin 18), P (.obj (S_GATE_I ↑y1))) (h26 : ∀ (y1 : Fin 4), P (.obj (A_START_STAGE ↑y1))) (h27 : ∀ (y1 : Fin 48), P (.slot y1)) (h28 : ∀ (y1 : Fin 4), P (.obj (SF_STATE ↑y1))) (h29 : P (.obj SF_LAST_CODE)) (h30 : P (.obj SF_XC_COUNT)) (h31 : P .freeCtr) :
    Only P s (State.judgeAxes u) := by
  with_reducible
    unfold State.judgeAxes
    repeat' first | assumption | apply Only.each | apply State.jDiscrepancy_only | apply State.jFound_only | apply State.jTelegram_only | apply State.judge_only | exact h3 _ | exact h4 _ | exact h5 _ | exact h7 _ | exact h8 _ | exact h9 _ | exact h10 _ | exact h11 _ | exact h12 _ | exact h14 _ | exact h15 _ | exact h16 _ | exact h17 _ | exact h18 _ | exact h19 _ | exact h20 _ | exact h21 _ | exact h22 _ | exact h24 _ | exact h25 _ | exact h26 _ | exact h27 _ | exact h28 _ | intro _ | exact Only.of_pair ‹_ = (_, _)› ‹_› | apply Only.of_pair ‹_ = (_, _)› | dsimp only | split

theorem State.adopt_only {c : Fin 2} {a : Fin 4} (h : Only P s u) (h1 : P .tongs) (h2 : P .latch) (h3 : P (.obj (A_MD_DUTY ↑a))) (h4 : P (.obj (A_MD_NOW ↑a))) (h5 : ∀ (y1 : Fin 6), P (.obj (S_ENABLE ↑y1))) (h6 : P (.obj S_BLW_ACTIVE)) (h7 : ∀ (y1 : Fin 6), P (.sec y1)) (h8 : ∀ (y1 : Fin 6), P (.obj (S_STATE ↑y1))) (h9 : ∀ (y1 : Fin 6), P (.obj (S_DEG_PHASE ↑y1))) (h10 : ∀ (y1 : Fin 6), P (.obj (S_STEP ↑y1))) (h11 : ∀ (y1 : Fin 6), P (.obj (S_FUS_STATE ↑y1))) (h12 : ∀ (y1 : Fin 6), P (.obj (S_LOCK_STATE ↑y1))) (h13 : P .raised) (h14 : ∀ (y1 : Fin 4), P (.obj (A_SECTIONS ↑y1))) (h15 : ∀ (y1 : Fin 4), P (.obj (A_CASCADE_SECTIONS ↑y1))) (h16 : ∀ (y1 : Fin 4), P (.ax y1)) (h17 : ∀ (y1 : Fin 4), P (.obj (A_FAULT_STATE ↑y1))) (h18 : P (.obj (A_RENDER_STATE ↑a))) (h19 : P (.obj (A_POS_REF ↑a))) (h20 : P (.obj (A_PROF_SPEED ↑a))) (h21 : P (.obj (A_PROF_ACCEL ↑a))) (h22 : P (.obj (A_PROF_STATE ↑a))) (h23 : P (.obj SF_BRAKE_OPEN)) (h24 : ∀ (y1 : Fin 18), P (.hb y1)) (h25 : ∀ (y1 : Fin 18), P (.obj (S_GATE_I ↑y1))) (h26 : P (.obj (A_START_STAGE ↑a))) (h27 : ∀ (y1 : Fin 48), P (.slot y1)) :
    Only P s (State.adopt u c a) := by
  with_reducible
    unfold State.adopt
    repeat' first | assumption | apply Only.ite | apply State.toSafe_only | exact h5 _ | exact h7 _ | exact h8 _ | exact h9 _ | exact h10 _ | exact h11 _ | exact h12 _ | exact h14 _ | exact h15 _ | exact h16 _ | exact h17 _ | exact h24 _ | exact h25 _ | exact h27 _ | intro _ | dsimp only | split

theorem State.forgive_only {c : Fin 2} (h : Only P s u) (h1 : P .tongs) :
    Only P s (State.forgive u c) := by
  with_reducible
    unfold State.forgive
    repeat' first | assumption | apply State.modChan_only | intro _ | dsimp only | split

theorem State.acknowledge_only {a : Fin 4} (h : Only P s u) (h1 : P .tongs) (h2 : P .latch) (h3 : P (.obj (SF_STATE ↑a))) (h4 : P .raised) (h5 : P (.obj SF_LAST_CODE)) :
    Only P s (State.acknowledge u a) := by
  with_reducible
    unfold State.acknowledge
    repeat' first | assumption | apply Only.set | apply Only.each | apply Only.ite | apply State.jSafeV_only | apply State.modCax_only | apply State.modChan_only | intro _ | exact Only.of_pair ‹_ = (_, _)› ‹_› | apply Only.of_pair ‹_ = (_, _)› | dsimp only | split | apply Only.w_latch

theorem State.safeHome_only {a : Fin 4} (h : Only P s u) (h1 : P .tongs) (h2 : P .raised) (h3 : P (.obj SF_LAST_CODE)) :
    Only P s (State.safeHome u a) := by
  with_reducible
    unfold State.safeHome
    repeat' first | assumption | apply Only.each | apply Only.ite | apply State.jSafeV_only | apply State.modCax_only | apply State.modChan_only | intro _ | exact Only.of_pair ‹_ = (_, _)› ‹_› | apply Only.of_pair ‹_ = (_, _)› | dsimp only | split

theorem State.settleAxis_only {a : Fin 4} (h : Only P s u) (h1 : P .tongs) :
    Only P s (State.settleAxis u a) := by
  with_reducible
    unfold State.settleAxis
    repeat' first | assumption | apply Only.each | apply Only.ite | apply State.modCax_only | intro _ | exact Only.of_pair ‹_ = (_, _)› ‹_› | apply Only.of_pair ‹_ = (_, _)› | dsimp only | split

theorem State.refRunEnds_only {a : Fin 4} (h : Only P s u) (h1 : P (.obj (A_REF_STATE ↑a))) (h2 : P (.ax a)) (h3 : ∀ (y1 : Fin 48), P (.slot y1)) (h4 : ∀ (y1 : Fin 6) (y2 : Fin 3), P (.hb (hbOf y1 y2))) (h5 : ∀ (y1 : Fin 6) (y2 : Fin 3), P (.obj (S_GATE_I ↑(hbOf y1 y2)))) (h6 : ∀ (y1 : Fin 6), P (.sec y1)) (h7 : P .raised) :
    Only P s (State.refRunEnds u a) := by
  with_reducible
    unfold State.refRunEnds
    repeat' first | assumption | apply Only.ite | apply State.refFail_only | exact h3 _ | exact h4 _ _ | exact h5 _ _ | exact h6 _ | intro _ | dsimp only | split

theorem State.report_only {a : Fin 4} (h : Only P s u) (h1 : P (.obj (SF_STATE ↑a))) (h2 : P (.obj (SF_STATUS ↑a))) (h3 : P (.obj (SF_REQ_SAFE ↑a))) (h4 : P (.obj (SF_SPEED_A ↑a))) (h5 : P (.obj (SF_SPEED_B ↑a))) (h6 : P (.obj (SF_POS_A ↑a))) (h7 : P (.obj (SF_POS_B ↑a))) (h8 : P (.obj (SF_SOS_POS ↑a))) (h9 : P (.obj (SF_CAUSE ↑a))) (h10 : P (.obj (A_REF_STATE ↑a))) (h11 : P (.ax a)) (h12 : ∀ (y1 : Fin 48), P (.slot y1)) (h13 : ∀ (y1 : Fin 6) (y2 : Fin 3), P (.hb (hbOf y1 y2))) (h14 : ∀ (y1 : Fin 6) (y2 : Fin 3), P (.obj (S_GATE_I ↑(hbOf y1 y2)))) (h15 : ∀ (y1 : Fin 6), P (.sec y1)) (h16 : P .raised) :
    Only P s (State.report u a) := by
  with_reducible
    unfold State.report
    repeat' first | assumption | apply Only.set | apply Only.ite | apply State.refRunEnds_only | apply State.syncAxis_only | exact h12 _ | exact h13 _ _ | exact h14 _ _ | exact h15 _ | intro _ | exact Only.of_pair ‹_ = (_, _)› ‹_› | apply Only.of_pair ‹_ = (_, _)› | dsimp only | split

theorem State.outputs_only {c : Fin 2} (h : Only P s u) (h1 : P .tongs) :
    Only P s (State.outputs u c) := by
  with_reducible
    unfold State.outputs
    repeat' first | assumption | apply State.modChan_only | intro _ | dsimp only | split

theorem State.syncTele_only (h : Only P s u) (h1 : P (.obj SF_TG_STATE)) (h2 : ∀ (y1 : Fin 4), P (.obj (SF_REQ_SAFE ↑y1))) :
    Only P s (State.syncTele u) := by
  with_reducible
    unfold State.syncTele
    repeat' first | assumption | apply Only.set | apply Only.each | apply Only.ite | exact h2 _ | intro _ | exact Only.of_pair ‹_ = (_, _)› ‹_› | apply Only.of_pair ‹_ = (_, _)› | dsimp only | split

theorem State.syncTongs_only (h : Only P s u) (h1 : P .leftZero) (h2 : P .tongs) (h3 : P (.obj SF_OUTPUTS)) (h4 : P (.obj SF_CH_FAULT)) (h5 : P (.obj SF_TG_STATE)) (h6 : ∀ (y1 : Fin 4), P (.obj (SF_REQ_SAFE ↑y1))) (h7 : ∀ (y1 : Fin 4), P (.obj (SF_STATE ↑y1))) (h8 : ∀ (y1 : Fin 4), P (.obj (SF_STATUS ↑y1))) (h9 : ∀ (y1 : Fin 4), P (.obj (SF_SPEED_A ↑y1))) (h10 : ∀ (y1 : Fin 4), P (.obj (SF_SPEED_B ↑y1))) (h11 : ∀ (y1 : Fin 4), P (.obj (SF_POS_A ↑y1))) (h12 : ∀ (y1 : Fin 4), P (.obj (SF_POS_B ↑y1))) (h13 : ∀ (y1 : Fin 4), P (.obj (SF_SOS_POS ↑y1))) (h14 : ∀ (y1 : Fin 4), P (.obj (SF_CAUSE ↑y1))) (h15 : ∀ (y1 : Fin 4), P (.obj (A_REF_STATE ↑y1))) (h16 : ∀ (y1 : Fin 4), P (.ax y1)) (h17 : ∀ (y1 : Fin 48), P (.slot y1)) (h18 : ∀ (y1 : Fin 6), P (.sec y1)) (h19 : P .raised) (h20 : ∀ (y1 : Fin 18), P (.hb y1)) (h21 : P (.obj S_BLW_ACTIVE)) (h22 : ∀ (y1 : Fin 18), P (.obj (S_GATE_I ↑y1))) :
    Only P s (State.syncTongs u) := by
  with_reducible
    unfold State.syncTongs
    repeat' first | assumption | apply Only.set | apply Only.each | apply Only.ite | apply State.outputs_only | apply State.report_only | apply State.syncGates_only | apply State.syncTele_only | exact h6 _ | exact h7 _ | exact h8 _ | exact h9 _ | exact h10 _ | exact h11 _ | exact h12 _ | exact h13 _ | exact h14 _ | exact h15 _ | exact h16 _ | exact h17 _ | exact h18 _ | exact h20 _ | exact h22 _ | intro _ | exact Only.of_pair ‹_ = (_, _)› ‹_› | apply Only.of_pair ‹_ = (_, _)› | dsimp only | split | apply Only.w_leftZero

theorem State.judged_only {c : Fin 2} (h : Only P s u) (h1 : P .tongs) :
    Only P s (State.judged u c) := by
  with_reducible
    unfold State.judged
    repeat' first | assumption | apply State.modChan_only | intro _ | exact Only.of_pair ‹_ = (_, _)› ‹_› | apply Only.of_pair ‹_ = (_, _)› | dsimp only | split

theorem State.leaveUnconfirmed_only (h : Only P s u) (h1 : P .tongs) (h2 : P .cfgDue) :
    Only P s (State.leaveUnconfirmed u) := by
  with_reducible
    unfold State.leaveUnconfirmed
    repeat' first | assumption | apply Only.each | apply State.modCax_only | intro _ | exact Only.of_pair ‹_ = (_, _)› ‹_› | apply Only.of_pair ‹_ = (_, _)› | dsimp only | split | apply Only.w_cfgDue

theorem State.ownCount_only {n : Nat} (h : Only P s u) (h1 : P .tongs) :
    Only P s (State.ownCount u n) := by
  with_reducible
    unfold State.ownCount
    repeat' first | assumption | apply State.modChan_only | intro _ | exact Only.of_pair ‹_ = (_, _)› ‹_› | apply Only.of_pair ‹_ = (_, _)› | dsimp only | split

theorem State.monitor_only {fresh : BitVec 2} {pass : BitVec 2} {ownB : Nat} (h : Only P s u) (h1 : P .tongs) (h2 : P .cfgDue) (h3 : P .port) (h4 : ∀ (y1 : Nat), P (.obj (ST_GRANTS y1))) (h5 : P (.obj ST_MAX_WAIT)) (h6 : P (.obj ST_BUSY)) (h7 : P .raised) (h8 : P (.obj SF_LAST_CODE)) (h9 : P .latch) (h10 : ∀ (y1 : Fin 4), P (.obj (A_MD_DUTY ↑y1))) (h11 : ∀ (y1 : Fin 4), P (.obj (A_MD_NOW ↑y1))) (h12 : ∀ (y1 : Fin 6), P (.obj (S_ENABLE ↑y1))) (h13 : P (.obj S_BLW_ACTIVE)) (h14 : ∀ (y1 : Fin 6), P (.sec y1)) (h15 : ∀ (y1 : Fin 6), P (.obj (S_STATE ↑y1))) (h16 : ∀ (y1 : Fin 6), P (.obj (S_DEG_PHASE ↑y1))) (h17 : ∀ (y1 : Fin 6), P (.obj (S_STEP ↑y1))) (h18 : ∀ (y1 : Fin 6), P (.obj (S_FUS_STATE ↑y1))) (h19 : ∀ (y1 : Fin 6), P (.obj (S_LOCK_STATE ↑y1))) (h20 : ∀ (y1 : Fin 4), P (.obj (A_SECTIONS ↑y1))) (h21 : ∀ (y1 : Fin 4), P (.obj (A_CASCADE_SECTIONS ↑y1))) (h22 : ∀ (y1 : Fin 4), P (.ax y1)) (h23 : ∀ (y1 : Fin 4), P (.obj (A_FAULT_STATE ↑y1))) (h24 : ∀ (y1 : Fin 4), P (.obj (A_RENDER_STATE ↑y1))) (h25 : ∀ (y1 : Fin 4), P (.obj (A_POS_REF ↑y1))) (h26 : ∀ (y1 : Fin 4), P (.obj (A_PROF_SPEED ↑y1))) (h27 : ∀ (y1 : Fin 4), P (.obj (A_PROF_ACCEL ↑y1))) (h28 : ∀ (y1 : Fin 4), P (.obj (A_PROF_STATE ↑y1))) (h29 : P (.obj SF_BRAKE_OPEN)) (h30 : ∀ (y1 : Fin 18), P (.hb y1)) (h31 : ∀ (y1 : Fin 18), P (.obj (S_GATE_I ↑y1))) (h32 : ∀ (y1 : Fin 4), P (.obj (A_START_STAGE ↑y1))) (h33 : ∀ (y1 : Fin 48), P (.slot y1)) (h34 : ∀ (y1 : Fin 4), P (.obj (SF_STATE ↑y1))) (h35 : P (.obj SF_XC_COUNT)) (h36 : P .freeCtr) (h37 : P .leftZero) (h38 : P (.obj SF_OUTPUTS)) (h39 : P (.obj SF_CH_FAULT)) (h40 : P (.obj SF_TG_STATE)) (h41 : ∀ (y1 : Fin 4), P (.obj (SF_REQ_SAFE ↑y1))) (h42 : ∀ (y1 : Fin 4), P (.obj (SF_STATUS ↑y1))) (h43 : ∀ (y1 : Fin 4), P (.obj (SF_SPEED_A ↑y1))) (h44 : ∀ (y1 : Fin 4), P (.obj (SF_SPEED_B ↑y1))) (h45 : ∀ (y1 : Fin 4), P (.obj (SF_POS_A ↑y1))) (h46 : ∀ (y1 : Fin 4), P (.obj (SF_POS_B ↑y1))) (h47 : ∀ (y1 : Fin 4), P (.obj (SF_SOS_POS ↑y1))) (h48 : ∀ (y1 : Fin 4), P (.obj (SF_CAUSE ↑y1))) (h49 : ∀ (y1 : Fin 4), P (.obj (A_REF_STATE ↑y1))) :
    Only P s (State.monitor u fresh pass ownB) := by
  with_reducible
    unfold State.monitor
    repeat' first | assumption | apply Only.modSec | apply Only.each | apply Only.ite | apply State.acknowledge_only | apply State.adopt_only | apply State.compare_only | apply State.forgive_only | apply State.jUnavailable_only | apply State.judgeAxes_only | apply State.judged_only | apply State.latch__only | apply State.leaveUnconfirmed_only | apply State.ownCount_only | apply State.runStops_only | apply State.safeHome_only | apply State.servePort_only | apply State.settleAxis_only | apply State.syncTongs_only | apply State.takeRequests_only | apply State.watchObserver_only | exact h4 _ | exact h10 _ | exact h11 _ | exact h12 _ | exact h14 _ | exact h15 _ | exact h16 _ | exact h17 _ | exact h18 _ | exact h19 _ | exact h20 _ | exact h21 _ | exact h22 _ | exact h23 _ | exact h24 _ | exact h25 _ | exact h26 _ | exact h27 _ | exact h28 _ | exact h30 _ | exact h31 _ | exact h32 _ | exact h33 _ | exact h34 _ | exact h41 _ | exact h42 _ | exact h43 _ | exact h44 _ | exact h45 _ | exact h46 _ | exact h47 _ | exact h48 _ | exact h49 _ | intro _ | exact Only.of_pair ‹_ = (_, _)› ‹_› | apply Only.of_pair ‹_ = (_, _)› | dsimp only | split

theorem State.takeStoInput_only {c : Fin 2} {high : Bool} (h : Only P s u) (h1 : P .tongs) (h2 : P (.obj SF_STO_IN)) (h3 : P .discAt) (h4 : P .disc) :
    Only P s (State.takeStoInput u c high) := by
  with_reducible
    unfold State.takeStoInput
    repeat' first | assumption | apply Only.set | apply Only.ite | apply State.modChan_only | intro _ | exact Only.of_pair ‹_ = (_, _)› ‹_› | apply Only.of_pair ‹_ = (_, _)› | dsimp only | split | apply Only.w_discAt_disc

/-! ### SafeConfig -/

theorem State.editTo_only {vs : List (Nat × Int)} (h : Only P s u) (h1 : Covers P configParts) :
    Only P s (State.editTo u vs) := by
  refine Only.each_mem h (fun k v hk hv => hv.set (h1 _ ?_))
  exact List.mem_append.mpr (.inl (List.mem_map_of_mem hk))

theorem State.loadConfig_only {vs : List (Nat × Int)} (h : Only P s u) (h1 : P .tongs) (h2 : Covers P envelopeParts) (h3 : P .cfgDue) :
    Only P s (State.loadConfig u vs) := by
  with_reducible
    unfold State.loadConfig
    repeat' first | assumption | apply Only.each | apply State.loadEnvelope_only | apply State.modCax_only | apply State.modChan_only | intro _ | dsimp only | split | apply Only.w_cfgDue

theorem State.jConfig_only {detail : Nat} {chk : Nat} {axes : Nat} (h : Only P s u) (h1 : P .raised) (h2 : P (.obj SF_LAST_CODE)) :
    Only P s (State.jConfig u detail chk axes) := by
  with_reducible
    unfold State.jConfig
    repeat' first | assumption | apply State.jTele_only | intro _ | dsimp only | split

theorem State.endCommission_only {st : Int} (h : Only P s u) (h1 : P (.obj SF_CFG_STATE)) (h2 : P (.obj SF_COMMISSION)) (h3 : P (.obj SF_CFG_SEAL)) (h4 : P (.obj SF_CFG_OWNER)) :
    Only P s (State.endCommission u st) := by
  with_reducible
    unfold State.endCommission
    repeat' first | assumption | apply Only.set | intro _ | dsimp only | split

theorem State.openCommission_only {sid : Nat} (h : Only P s u) (h1 : P (.obj SF_CFG_STATE)) (h2 : P (.obj SF_CFG_OWNER)) (h3 : P (.obj SF_COMMISSION)) (h4 : P .cfgDue) (h5 : P .tongs) (h6 : ∀ (y1 : Fin 6), P (.obj (S_ENABLE ↑y1))) (h7 : P (.obj S_BLW_ACTIVE)) (h8 : ∀ (y1 : Fin 6), P (.sec y1)) (h9 : ∀ (y1 : Fin 6), P (.obj (S_STATE ↑y1))) (h10 : ∀ (y1 : Fin 6), P (.obj (S_DEG_PHASE ↑y1))) (h11 : ∀ (y1 : Fin 6), P (.obj (S_STEP ↑y1))) (h12 : ∀ (y1 : Fin 6), P (.obj (S_FUS_STATE ↑y1))) (h13 : ∀ (y1 : Fin 6), P (.obj (S_LOCK_STATE ↑y1))) (h14 : P .raised) (h15 : ∀ (y1 : Fin 4), P (.obj (A_SECTIONS ↑y1))) (h16 : ∀ (y1 : Fin 4), P (.obj (A_CASCADE_SECTIONS ↑y1))) (h17 : ∀ (y1 : Fin 4), P (.ax y1)) (h18 : ∀ (y1 : Fin 4), P (.obj (A_FAULT_STATE ↑y1))) (h19 : ∀ (y1 : Fin 4), P (.obj (A_MD_DUTY ↑y1))) (h20 : ∀ (y1 : Fin 4), P (.obj (A_MD_NOW ↑y1))) (h21 : ∀ (y1 : Fin 4), P (.obj (A_RENDER_STATE ↑y1))) (h22 : ∀ (y1 : Fin 4), P (.obj (A_POS_REF ↑y1))) (h23 : ∀ (y1 : Fin 4), P (.obj (A_PROF_SPEED ↑y1))) (h24 : ∀ (y1 : Fin 4), P (.obj (A_PROF_ACCEL ↑y1))) (h25 : ∀ (y1 : Fin 4), P (.obj (A_PROF_STATE ↑y1))) (h26 : P (.obj SF_BRAKE_OPEN)) (h27 : ∀ (y1 : Fin 18), P (.hb y1)) (h28 : ∀ (y1 : Fin 18), P (.obj (S_GATE_I ↑y1))) (h29 : P .leftZero) (h30 : P (.obj SF_OUTPUTS)) (h31 : P (.obj SF_CH_FAULT)) (h32 : P (.obj SF_TG_STATE)) (h33 : ∀ (y1 : Fin 4), P (.obj (SF_REQ_SAFE ↑y1))) (h34 : ∀ (y1 : Fin 4), P (.obj (SF_STATE ↑y1))) (h35 : ∀ (y1 : Fin 4), P (.obj (SF_STATUS ↑y1))) (h36 : ∀ (y1 : Fin 4), P (.obj (SF_SPEED_A ↑y1))) (h37 : ∀ (y1 : Fin 4), P (.obj (SF_SPEED_B ↑y1))) (h38 : ∀ (y1 : Fin 4), P (.obj (SF_POS_A ↑y1))) (h39 : ∀ (y1 : Fin 4), P (.obj (SF_POS_B ↑y1))) (h40 : ∀ (y1 : Fin 4), P (.obj (SF_SOS_POS ↑y1))) (h41 : ∀ (y1 : Fin 4), P (.obj (SF_CAUSE ↑y1))) (h42 : ∀ (y1 : Fin 4), P (.obj (A_REF_STATE ↑y1))) (h43 : ∀ (y1 : Fin 48), P (.slot y1)) (h44 : P (.obj SF_LAST_CODE)) :
    Only P s (State.openCommission u sid) := by
  with_reducible
    unfold State.openCommission
    repeat' first | assumption | apply Only.set | apply Only.each | apply State.holdSto_only | apply State.jConfig_only | apply State.modCax_only | apply State.syncTongs_only | exact h6 _ | exact h8 _ | exact h9 _ | exact h10 _ | exact h11 _ | exact h12 _ | exact h13 _ | exact h15 _ | exact h16 _ | exact h17 _ | exact h18 _ | exact h19 _ | exact h20 _ | exact h21 _ | exact h22 _ | exact h23 _ | exact h24 _ | exact h25 _ | exact h27 _ | exact h28 _ | exact h33 _ | exact h34 _ | exact h35 _ | exact h36 _ | exact h37 _ | exact h38 _ | exact h39 _ | exact h40 _ | exact h41 _ | exact h42 _ | exact h43 _ | intro _ | dsimp only | split | apply Only.w_cfgDue

theorem State.abandonCommission_only (h : Only P s u) (h1 : Covers P configParts) (h2 : P (.obj SF_CFG_STATE)) (h3 : P (.obj SF_COMMISSION)) (h4 : P (.obj SF_CFG_SEAL)) (h5 : P (.obj SF_CFG_OWNER)) (h6 : P .raised) (h7 : P (.obj SF_LAST_CODE)) (h8 : P .rereading) :
    Only P s (State.abandonCommission u) := by
  with_reducible
    unfold State.abandonCommission
    repeat' first | assumption | apply Only.ite | apply State.editTo_only | apply State.endCommission_only | apply State.jConfig_only | intro _ | exact Only.of_pair ‹_ = (_, _)› ‹_› | apply Only.of_pair ‹_ = (_, _)› | dsimp only | split | apply Only.w_rereading

theorem State.rereadDone_only {m : Image} {crcA : Nat} {crcB : Nat} (h : Only P s u) (h1 : P .rereading) (h2 : P .tongs) (h3 : Covers P envelopeParts) (h4 : P .cfgDue) (h5 : P (.obj SF_CRC_CONFIRMED)) (h6 : P (.obj SF_CFG_STATE)) (h7 : P .raised) (h8 : P (.obj SF_LAST_CODE)) (h9 : P .leftZero) (h10 : P (.obj SF_OUTPUTS)) (h11 : P (.obj SF_CH_FAULT)) (h12 : P (.obj SF_TG_STATE)) (h13 : ∀ (y1 : Fin 4), P (.obj (SF_REQ_SAFE ↑y1))) (h14 : ∀ (y1 : Fin 4), P (.obj (SF_STATE ↑y1))) (h15 : ∀ (y1 : Fin 4), P (.obj (SF_STATUS ↑y1))) (h16 : ∀ (y1 : Fin 4), P (.obj (SF_SPEED_A ↑y1))) (h17 : ∀ (y1 : Fin 4), P (.obj (SF_SPEED_B ↑y1))) (h18 : ∀ (y1 : Fin 4), P (.obj (SF_POS_A ↑y1))) (h19 : ∀ (y1 : Fin 4), P (.obj (SF_POS_B ↑y1))) (h20 : ∀ (y1 : Fin 4), P (.obj (SF_SOS_POS ↑y1))) (h21 : ∀ (y1 : Fin 4), P (.obj (SF_CAUSE ↑y1))) (h22 : ∀ (y1 : Fin 4), P (.obj (A_REF_STATE ↑y1))) (h23 : ∀ (y1 : Fin 4), P (.ax y1)) (h24 : ∀ (y1 : Fin 48), P (.slot y1)) (h25 : ∀ (y1 : Fin 6), P (.sec y1)) (h26 : ∀ (y1 : Fin 18), P (.hb y1)) (h27 : P (.obj S_BLW_ACTIVE)) (h28 : ∀ (y1 : Fin 18), P (.obj (S_GATE_I ↑y1))) :
    Only P s (State.rereadDone u m crcA crcB) := by
  with_reducible
    unfold State.rereadDone
    repeat' first | assumption | apply Only.set | apply Only.ite | apply State.jConfig_only | apply State.loadConfig_only | apply State.syncTongs_only | exact h13 _ | exact h14 _ | exact h15 _ | exact h16 _ | exact h17 _ | exact h18 _ | exact h19 _ | exact h20 _ | exact h21 _ | exact h22 _ | exact h23 _ | exact h24 _ | exact h25 _ | exact h26 _ | exact h28 _ | intro _ | dsimp only | split | apply Only.w_rereading

theorem State.refuseConfig_only {code : Nat} {chk : Nat} (h : Only P s u) (h1 : P (.obj SF_CFG_RESULT)) (h2 : P .raised) (h3 : P (.obj SF_LAST_CODE)) :
    Only P s (State.refuseConfig u code chk) := by
  with_reducible
    unfold State.refuseConfig
    repeat' first | assumption | apply Only.set | apply State.jConfig_only | intro _ | dsimp only | split

theorem State.sealBegin_only (h : Only P s u) (h1 : P (.obj SF_CFG_STATE)) (h2 : P (.obj SF_CFG_SEAL)) :
    Only P s (State.sealBegin u) := by
  with_reducible
    unfold State.sealBegin
    repeat' first | assumption | apply Only.set | intro _ | dsimp only | split

theorem State.unsealNow_only (h : Only P s u) (h1 : P (.obj SF_CFG_STATE)) (h2 : P (.obj SF_CFG_SEAL)) :
    Only P s (State.unsealNow u) := by
  with_reducible
    unfold State.unsealNow
    repeat' first | assumption | apply Only.set | intro _ | dsimp only | split

theorem State.confirmBegin_only (h : Only P s u) (h1 : P (.obj SF_CFG_STATE)) (h2 : P (.obj SF_COMMISSION)) (h3 : P (.obj SF_CFG_SEAL)) (h4 : P (.obj SF_CFG_OWNER)) (h5 : P .confirming) :
    Only P s (State.confirmBegin u) := by
  with_reducible
    unfold State.confirmBegin
    repeat' first | assumption | apply State.endCommission_only | intro _ | dsimp only | split | apply Only.w_confirming

theorem State.takeWords_only {c : Fin 2} {bs : Bytes} (h : Only P s u) (h1 : P .tongs) :
    Only P s (State.takeWords u c bs) := by
  with_reducible
    unfold State.takeWords
    repeat' first | assumption | apply Only.each | apply Only.ite | apply State.modCax_only | intro _ | dsimp only | split

theorem State.addStops_only {c : Fin 2} {bs : Bytes} (h : Only P s u) (h1 : P .tongs) :
    Only P s (State.addStops u c bs) := by
  with_reducible
    unfold State.addStops
    repeat' first | assumption | apply Only.each | apply Only.ite | apply State.modCax_only | intro _ | dsimp only | split

theorem State.pair_only {c : Fin 2} {p : Fin 2} {sq : Nat} {bs : Bytes} (h : Only P s u) (h1 : P .tongs) (h2 : P (.obj SF_TG_SEQ_RX)) (h3 : P (.obj SF_TG_MISMATCH)) :
    Only P s (State.pair u c p sq bs) := by
  with_reducible
    unfold State.pair
    repeat' first | assumption | apply Only.set | apply Only.inc | apply Only.ite | apply State.addStops_only | apply State.modChan_only | apply State.takeWords_only | intro _ | exact Only.of_pair ‹_ = (_, _)› ‹_› | apply Only.of_pair ‹_ = (_, _)› | dsimp only | split

theorem State.receiveCopy_only {c : Fin 2} {p : Fin 2} {bs : Bytes} (h : Only P s u) (h1 : P (.obj SF_TG_BAD0)) (h2 : P (.obj SF_TG_BAD1)) (h3 : P .tongs) (h4 : P (.obj SF_TG_SEQ_RX)) (h5 : P (.obj SF_TG_MISMATCH)) (h6 : P (.obj SF_TG_DUP)) :
    Only P s (State.receiveCopy u c p bs) := by
  with_reducible
    unfold State.receiveCopy
    repeat' first | assumption | apply Only.inc | apply Only.ite | apply State.modChan_only | apply State.pair_only | intro _ | exact Only.of_pair ‹_ = (_, _)› ‹_› | apply Only.of_pair ‹_ = (_, _)› | dsimp only | split

theorem State.judgeTelegram_only {details : List Nat} (h : Only P s u) (h1 : P .tongs) (h2 : P .latch) (h3 : ∀ (y1 : Fin 4), P (.obj (A_MD_DUTY ↑y1))) (h4 : ∀ (y1 : Fin 4), P (.obj (A_MD_NOW ↑y1))) (h5 : ∀ (y1 : Fin 6), P (.obj (S_ENABLE ↑y1))) (h6 : P (.obj S_BLW_ACTIVE)) (h7 : ∀ (y1 : Fin 6), P (.sec y1)) (h8 : ∀ (y1 : Fin 6), P (.obj (S_STATE ↑y1))) (h9 : ∀ (y1 : Fin 6), P (.obj (S_DEG_PHASE ↑y1))) (h10 : ∀ (y1 : Fin 6), P (.obj (S_STEP ↑y1))) (h11 : ∀ (y1 : Fin 6), P (.obj (S_FUS_STATE ↑y1))) (h12 : ∀ (y1 : Fin 6), P (.obj (S_LOCK_STATE ↑y1))) (h13 : P .raised) (h14 : ∀ (y1 : Fin 4), P (.obj (A_SECTIONS ↑y1))) (h15 : ∀ (y1 : Fin 4), P (.obj (A_CASCADE_SECTIONS ↑y1))) (h16 : ∀ (y1 : Fin 4), P (.ax y1)) (h17 : ∀ (y1 : Fin 4), P (.obj (A_FAULT_STATE ↑y1))) (h18 : ∀ (y1 : Fin 4), P (.obj (A_RENDER_STATE ↑y1))) (h19 : ∀ (y1 : Fin 4), P (.obj (A_POS_REF ↑y1))) (h20 : ∀ (y1 : Fin 4), P (.obj (A_PROF_SPEED ↑y1))) (h21 : ∀ (y1 : Fin 4), P (.obj (A_PROF_ACCEL ↑y1))) (h22 : ∀ (y1 : Fin 4), P (.obj (A_PROF_STATE ↑y1))) (h23 : P (.obj SF_BRAKE_OPEN)) (h24 : ∀ (y1 : Fin 18), P (.hb y1)) (h25 : ∀ (y1 : Fin 18), P (.obj (S_GATE_I ↑y1))) (h26 : ∀ (y1 : Fin 4), P (.obj (A_START_STAGE ↑y1))) (h27 : ∀ (y1 : Fin 48), P (.slot y1)) (h28 : ∀ (y1 : Fin 4), P (.obj (SF_STATE ↑y1))) (h29 : P (.obj SF_LAST_CODE)) (h30 : P (.obj SF_XC_COUNT)) (h31 : P .leftZero) (h32 : P (.obj SF_OUTPUTS)) (h33 : P (.obj SF_CH_FAULT)) (h34 : P (.obj SF_TG_STATE)) (h35 : ∀ (y1 : Fin 4), P (.obj (SF_REQ_SAFE ↑y1))) (h36 : ∀ (y1 : Fin 4), P (.obj (SF_STATUS ↑y1))) (h37 : ∀ (y1 : Fin 4), P (.obj (SF_SPEED_A ↑y1))) (h38 : ∀ (y1 : Fin 4), P (.obj (SF_SPEED_B ↑y1))) (h39 : ∀ (y1 : Fin 4), P (.obj (SF_POS_A ↑y1))) (h40 : ∀ (y1 : Fin 4), P (.obj (SF_POS_B ↑y1))) (h41 : ∀ (y1 : Fin 4), P (.obj (SF_SOS_POS ↑y1))) (h42 : ∀ (y1 : Fin 4), P (.obj (SF_CAUSE ↑y1))) (h43 : ∀ (y1 : Fin 4), P (.obj (A_REF_STATE ↑y1))) :
    Only P s (State.judgeTelegram u details) := by
  with_reducible
    unfold State.judgeTelegram
    repeat' first | assumption | apply Only.each | apply Only.ite | apply State.jFound_only | apply State.jTelegram_only | apply State.judgeWith_only | apply State.judged_only | apply State.syncTongs_only | exact h3 _ | exact h4 _ | exact h5 _ | exact h7 _ | exact h8 _ | exact h9 _ | exact h10 _ | exact h11 _ | exact h12 _ | exact h14 _ | exact h15 _ | exact h16 _ | exact h17 _ | exact h18 _ | exact h19 _ | exact h20 _ | exact h21 _ | exact h22 _ | exact h24 _ | exact h25 _ | exact h26 _ | exact h27 _ | exact h28 _ | exact h35 _ | exact h36 _ | exact h37 _ | exact h38 _ | exact h39 _ | exact h40 _ | exact h41 _ | exact h42 _ | exact h43 _ | intro _ | exact Only.of_pair ‹_ = (_, _)› ‹_› | apply Only.of_pair ‹_ = (_, _)› | dsimp only | split

/-! ### Clock -/

theorem State.jqSync_only (h : Only P s u) (h1 : P (.obj JL_QUEUE)) :
    Only P s (State.jqSync u) := by
  with_reducible
    unfold State.jqSync
    repeat' first | assumption | apply Only.set | intro _ | dsimp only | split

theorem State.joinQueue_only {e : Entry} (h : Only P s u) (h1 : P .jq) (h2 : P .jarr) :
    Only P s (State.joinQueue u e) := by
  with_reducible
    unfold State.joinQueue
    repeat' first | assumption | apply Only.ite | intro _ | dsimp only | split | apply Only.w_jq_jarr

theorem State.toRing_only {e : Entry} (h : Only P s u) (h1 : P (.obj JL_FIRST)) (h2 : P .ring) (h3 : P (.obj JL_NEXT)) (h4 : P (.obj JL_VER)) :
    Only P s (State.toRing u e) := by
  with_reducible
    unfold State.toRing
    repeat' first | assumption | apply Only.addCount | apply Only.inc | apply Only.ite | intro _ | dsimp only | split | apply Only.w_ring

theorem State.noteDropped_only (h : Only P s u) (h1 : P .jq) (h2 : P .jdrop) :
    Only P s (State.noteDropped u) := by
  with_reducible
    unfold State.noteDropped
    repeat' first | assumption | apply Only.ite | intro _ | dsimp only | split | apply Only.w_jq_jdrop

theorem State.shiftInstants_only {d : Int} {ticks : Int} {step : Int} (h : Only P s u) (h1 : P .tongs) (h2 : ∀ (y1 : Fin 6), P (.sec y1)) (h3 : ∀ (y1 : Fin 18), P (.hb y1)) (h4 : ∀ (y1 : Fin 2), P (.enc y1)) (h5 : ∀ (y1 : Fin 4), P (.ax y1)) (h6 : ∀ (y1 : Fin 4), P (.gen y1)) (h7 : ∀ (y1 : Nat), P (.obj (SS_LOCK_EXPIRY y1))) :
    Only P s (State.shiftInstants u d ticks step) := by
  with_reducible
    unfold State.shiftInstants
    repeat' first | assumption | apply Only.set | apply Only.modHb | apply Only.modAx | apply Only.modEnc | apply Only.modGen | apply Only.modPwm | apply Only.each | apply Only.ite | apply State.modChan_only | exact h2 _ | exact h3 _ | exact h4 _ | exact h5 _ | exact h6 _ | exact h7 _ | intro _ | exact Only.of_pair ‹_ = (_, _)› ‹_› | apply Only.of_pair ‹_ = (_, _)› | dsimp only | split

theorem State.takeCount_only {x : Fin 6} (h : Only P s u) (h1 : P (.sec x)) (h2 : ∀ (y1 : Fin 3), P (.hb (hbOf x y1))) (h3 : ∀ (y1 : Fin 3), P (.obj (S_GATE_I ↑(hbOf x y1)))) (h4 : P (.obj (S_TMIN_RAISE ↑x))) (h5 : P (.obj (S_PULSE_SUPPRESS ↑x))) (h6 : P (.obj (S_CMP_ACTIVE ↑x))) :
    Only P s (State.takeCount u x) := by
  with_reducible
    unfold State.takeCount
    repeat' first | assumption | apply Only.ite | apply State.closePeriod_only | apply State.drive_only | apply State.openNew_only | exact h2 _ | exact h3 _ | intro _ | dsimp only | split

theorem State.stepTimebase_only {v : Nat} (h : Only P s u) (h1 : P .clock) (h2 : P .tongs) (h3 : ∀ (y1 : Fin 6), P (.sec y1)) (h4 : ∀ (y1 : Fin 18), P (.hb y1)) (h5 : ∀ (y1 : Fin 2), P (.enc y1)) (h6 : ∀ (y1 : Fin 4), P (.ax y1)) (h7 : ∀ (y1 : Fin 4), P (.gen y1)) (h8 : ∀ (y1 : Nat), P (.obj (SS_LOCK_EXPIRY y1))) (h9 : ∀ (y1 : Fin 6) (y2 : Fin 3), P (.obj (S_GATE_I ↑(hbOf y1 y2)))) (h10 : ∀ (y1 : Fin 6), P (.obj (S_TMIN_RAISE ↑y1))) (h11 : ∀ (y1 : Fin 6), P (.obj (S_PULSE_SUPPRESS ↑y1))) (h12 : ∀ (y1 : Fin 6), P (.obj (S_CMP_ACTIVE ↑y1))) (h13 : P (.obj TB_STEPS)) (h14 : P (.obj TB_LAST_STEP)) (h15 : P .raised) :
    Only P s (State.stepTimebase u v) := by
  with_reducible
    unfold State.stepTimebase
    repeat' first | assumption | apply Only.set | apply Only.inc | apply Only.each | apply State.jClock_only | apply State.shiftInstants_only | apply State.takeCount_only | exact h3 _ | exact h4 _ | exact h5 _ | exact h6 _ | exact h7 _ | exact h8 _ | exact h9 _ _ | exact h10 _ | exact h11 _ | exact h12 _ | intro _ | dsimp only | split | apply Only.w_tbOff

end Sys2Proof.Safety
end

