-- ==== Sys2Proof/Laws/OnlyLink.lean ====
section
/-! SUPPORT. Frames of the operations of transactions, sessions, NazLink and CAN FD: the parts of the state that each may change. -/

set_option linter.all false

namespace Sys2Proof.Safety
open Sys2Proof.Machine Sys2Proof.Machine.Obj

variable {P : Part → Prop} {s u : State}

/-! ### NazFrame -/

theorem State.modNaz_only {f : Naz → Naz} (h : Only P s u) (h1 : P .naz) :
    Only P s (State.modNaz u f) := by
  with_reducible
    unfold State.modNaz
    repeat' first | assumption | intro _ | dsimp only | split | apply Only.w_naz

theorem State.modPort_only {p : Fin 2} {f : NazPort → NazPort} (h : Only P s u) (h1 : P .naz) :
    Only P s (State.modPort u p f) := by
  with_reducible
    unfold State.modPort
    repeat' first | assumption | apply State.modNaz_only | intro _ | exact Only.of_pair ‹_ = (_, _)› ‹_› | apply Only.of_pair ‹_ = (_, _)› | dsimp only | split

theorem State.nextSeq_only {kind : Nat} (h : Only P s u) (h1 : P .naz) :
    Only P s (State.nextSeq u kind).2 := by
  with_reducible
    unfold State.nextSeq
    repeat' first | assumption | apply State.modNaz_only | intro _ | dsimp only | split

theorem State.out1_only {p : Fin 2} {f : NazF} (h : Only P s u) (h1 : P .outs) :
    Only P s (State.out1 u p f) := by
  with_reducible
    unfold State.out1
    repeat' first | assumption | apply Only.emit | apply Only.ite | intro _ | dsimp only | split

theorem State.noteAnon_only {kind : Nat} {seq : Nat} {port : Nat} {payload : Bytes} (h : Only P s u) (h1 : P .naz) :
    Only P s (State.noteAnon u kind seq port payload) := by
  with_reducible
    unfold State.noteAnon
    repeat' first | assumption | apply State.modNaz_only | intro _ | dsimp only | split

theorem State.castSeq_only {kind : Nat} {seq : Nat} {payload : Bytes} (h : Only P s u) (h1 : P .naz) (h2 : P .outs) :
    Only P s (State.castSeq u kind seq payload) := by
  with_reducible
    unfold State.castSeq
    repeat' first | assumption | apply Only.each | apply Only.ite | apply State.noteAnon_only | apply State.out1_only | intro _ | exact Only.of_pair ‹_ = (_, _)› ‹_› | apply Only.of_pair ‹_ = (_, _)› | dsimp only | split

theorem State.cast_only {kind : Nat} {payload : Bytes} (h : Only P s u) (h1 : P .naz) (h2 : P .outs) :
    Only P s (State.cast u kind payload) := by
  with_reducible
    unfold State.cast
    repeat' first | assumption | apply State.castSeq_only | apply State.nextSeq_only | intro _ | exact Only.of_pair ‹_ = (_, _)› ‹_› | apply Only.of_pair ‹_ = (_, _)› | dsimp only | split

theorem State.sendTo_only {kind : Nat} {d : Nat} {payload : Bytes} (h : Only P s u) (h1 : P .naz) (h2 : P .outs) :
    Only P s (State.sendTo u kind d payload) := by
  with_reducible
    unfold State.sendTo
    repeat' first | assumption | apply State.nextSeq_only | apply State.out1_only | intro _ | exact Only.of_pair ‹_ = (_, _)› ‹_› | apply Only.of_pair ‹_ = (_, _)› | dsimp only | split

theorem State.sendPort_only {p : Fin 2} {kind : Nat} {dst : Nat} {payload : Bytes} (h : Only P s u) (h1 : P .naz) (h2 : P .outs) :
    Only P s (State.sendPort u p kind dst payload) := by
  with_reducible
    unfold State.sendPort
    repeat' first | assumption | apply State.nextSeq_only | apply State.out1_only | intro _ | exact Only.of_pair ‹_ = (_, _)› ‹_› | apply Only.of_pair ‹_ = (_, _)› | dsimp only | split

theorem State.sendTx_only {d : Option Nat} {msg : Bytes} (h : Only P s u) (h1 : P .naz) (h2 : P .outs) :
    Only P s (State.sendTx u d msg) := by
  with_reducible
    unfold State.sendTx
    repeat' first | assumption | apply State.cast_only | apply State.sendTo_only | intro _ | exact Only.of_pair ‹_ = (_, _)› ‹_› | apply Only.of_pair ‹_ = (_, _)› | dsimp only | split

theorem State.receive_only {p : Fin 2} {kind : Nat} {own : Bool} {bs : Bytes} {k : NazF → State → State} (h : Only P s u) (h1 : P (.obj (NZ_CRC_ERR ↑p))) (h2 : P .outs) (h3 : P .naz) (hkk : ∀ z0 v, Only P s v → Only P s (k z0 v)) :
    Only P s (State.receive u p kind own bs k) := by
  with_reducible
    unfold State.receive
    repeat' first | assumption | apply Only.inc | apply Only.emit | apply Only.ite | apply State.modNaz_only | apply State.noteAnon_only | apply State.out1_only | apply hkk | intro _ | exact Only.of_pair ‹_ = (_, _)› ‹_› | apply Only.of_pair ‹_ = (_, _)› | dsimp only | split

/-! ### Tx -/

theorem State.modTx_only {id : Nat} {f : Tx → Tx} (h : Only P s u) (h1 : P .txs) :
    Only P s (State.modTx u id f) := by
  with_reducible
    unfold State.modTx
    repeat' first | assumption | apply Only.ite | intro _ | dsimp only | split | apply Only.w_txs

theorem State.syncTx_only (h : Only P s u) (h1 : P (.obj TX_OPEN_COUNT)) (h2 : P (.obj TX_PROOF_USED)) :
    Only P s (State.syncTx u) := by
  with_reducible
    unfold State.syncTx
    repeat' first | assumption | apply Only.set | intro _ | dsimp only | split

theorem State.takeSlot_only {slot : Nat} {owner : Nat} {coord : Option (Nat × Nat)} (h : Only P s u) (h1 : P .txs) (h2 : P .txUse) (h3 : P (.obj TX_OPEN_COUNT)) (h4 : P (.obj TX_PROOF_USED)) :
    Only P s (State.takeSlot u slot owner coord).2 := by
  with_reducible
    unfold State.takeSlot
    repeat' first | assumption | apply State.syncTx_only | intro _ | dsimp only | split | apply Only.w_txs_txUse

theorem State.jTx_only {cls : Nat} {detail : Nat} {t : Tx} {code : Nat} {addr : Nat} (h : Only P s u) (h1 : P .raised) :
    Only P s (State.jTx u cls detail t code addr) := by
  with_reducible
    unfold State.jTx
    repeat' first | assumption | apply Only.journal | intro _ | dsimp only | split

theorem State.abortTx_only {id : Nat} {code : Nat} {addr : Nat} (h : Only P s u) (h1 : ∀ (y1 : Fin 48), P (.slot y1)) (h2 : P .txs) (h3 : P (.obj TX_OPEN_COUNT)) (h4 : P (.obj TX_PROOF_USED)) (h5 : P (.obj TX_ABORTS)) (h6 : P .raised) (h7 : P .sessions) (h8 : P .naz) (h9 : P .outs) :
    Only P s (State.abortTx u id code addr) := by
  with_reducible
    unfold State.abortTx
    repeat' first | assumption | apply Only.inc | apply Only.each | apply Only.ite | apply State.jTx_only | apply State.modTx_only | apply State.sendTx_only | apply State.syncTx_only | apply State.unprepareSlot_only | exact h1 _ | intro _ | exact Only.of_pair ‹_ = (_, _)› ‹_› | apply Only.of_pair ‹_ = (_, _)› | dsimp only | split | apply Only.w_sessions

theorem State.abortOpen_only {sid : Nat} {code : Nat} {p : Tx → Bool} (h : Only P s u) (h1 : ∀ (y1 : Fin 48), P (.slot y1)) (h2 : P .txs) (h3 : P (.obj TX_OPEN_COUNT)) (h4 : P (.obj TX_PROOF_USED)) (h5 : P (.obj TX_ABORTS)) (h6 : P .raised) (h7 : P .sessions) (h8 : P .naz) (h9 : P .outs) :
    Only P s (State.abortOpen u sid code p).2 := by
  with_reducible
    unfold State.abortOpen
    repeat' first | assumption | apply Only.each | apply State.abortTx_only | exact h1 _ | intro _ | dsimp only | split

/-! ### Sessions -/

theorem State.modSession_only {id : Nat} {f : Session → Session} (h : Only P s u) (h1 : P .sessions) :
    Only P s (State.modSession u id f) := by
  with_reducible
    unfold State.modSession
    repeat' first | assumption | apply Only.ite | intro _ | dsimp only | split | apply Only.w_sessions

theorem State.syncSessions_only (h : Only P s u) (h1 : P (.obj SS_COUNT)) (h2 : P (.obj SS_GUAR_SUM)) (h3 : P (.obj SS_ROUTES)) :
    Only P s (State.syncSessions u) := by
  with_reducible
    unfold State.syncSessions
    repeat' first | assumption | apply Only.set | intro _ | dsimp only | split

theorem State.addSession_only {n : Session} (h : Only P s u) (h1 : P .sessions) (h2 : P (.obj SS_COUNT)) (h3 : P (.obj SS_GUAR_SUM)) (h4 : P (.obj SS_ROUTES)) :
    Only P s (State.addSession u n) := by
  with_reducible
    unfold State.addSession
    repeat' first | assumption | apply State.syncSessions_only | intro _ | dsimp only | split | apply Only.w_sessions

theorem State.settleTokens_only (h : Only P s u) (h1 : P .sessions) (h2 : P .best) (h3 : P .bestAt) :
    Only P s (State.settleTokens u) := by
  with_reducible
    unfold State.settleTokens
    repeat' first | assumption | intro _ | dsimp only | split | apply Only.w_sessions_best_bestAt

theorem State.charge_only {sid : Nat} (h : Only P s u) (h1 : P .sessions) (h2 : P .best) (h3 : P .bestAt) :
    Only P s (State.charge u sid).2 := by
  with_reducible
    unfold State.charge
    repeat' first | assumption | apply Only.ite | apply State.modSession_only | apply State.settleTokens_only | intro _ | exact Only.of_pair ‹_ = (_, _)› ‹_› | apply Only.of_pair ‹_ = (_, _)› | dsimp only | split | apply Only.w_best

theorem State.countRefused_only {sid : Nat} {code : Nat} (h : Only P s u) (h1 : P .sessions) :
    Only P s (State.countRefused u sid code) := by
  with_reducible
    unfold State.countRefused
    repeat' first | assumption | apply Only.ite | apply State.modSession_only | intro _ | dsimp only | split

theorem State.jSession_only {detail : Nat} {src : Nat} {sid : Nat} {port : Nat} {cause : Nat} {slot : Nat} {profile : Nat} {target : Nat} {expiry : Nat} {n : Nat} (h : Only P s u) (h1 : P .raised) :
    Only P s (State.jSession u detail src sid port cause slot profile target expiry n) := by
  with_reducible
    unfold State.jSession
    repeat' first | assumption | apply Only.journal | intro _ | dsimp only | split

theorem State.jSess_only {detail : Nat} {n : Session} {cause : Nat} {count : Nat} (h : Only P s u) (h1 : P .raised) :
    Only P s (State.jSess u detail n cause count) := by
  with_reducible
    unfold State.jSess
    repeat' first | assumption | apply State.jSession_only | intro _ | dsimp only | split

theorem State.setLock_only {i : Fin 10} {l : Option Lock} (h : Only P s u) (h1 : P .locks) (h2 : P (.obj (SS_LOCK_OWNER ↑i))) (h3 : P (.obj (SS_LOCK_EXPIRY ↑i))) :
    Only P s (State.setLock u i l) := by
  with_reducible
    unfold State.setLock
    repeat' first | assumption | apply Only.set | intro _ | exact Only.of_pair ‹_ = (_, _)› ‹_› | apply Only.of_pair ‹_ = (_, _)› | dsimp only | split | apply Only.w_locks

theorem State.applyLock_only {sid : Nat} {w : Nat} (h : Only P s u) (h1 : P .locks) (h2 : ∀ (y1 : Fin 10), P (.obj (SS_LOCK_OWNER ↑y1))) (h3 : ∀ (y1 : Fin 10), P (.obj (SS_LOCK_EXPIRY ↑y1))) :
    Only P s (State.applyLock u sid w) := by
  with_reducible
    unfold State.applyLock
    repeat' first | assumption | apply Only.ite | apply State.setLock_only | exact h2 _ | exact h3 _ | intro _ | exact Only.of_pair ‹_ = (_, _)› ‹_› | apply Only.of_pair ‹_ = (_, _)› | dsimp only | split

theorem State.cutTx_only {n : Session} {a : Nat} (h : Only P s u) (h1 : ∀ (y1 : Fin 48), P (.slot y1)) (h2 : P .txs) (h3 : P (.obj TX_OPEN_COUNT)) (h4 : P (.obj TX_PROOF_USED)) (h5 : P (.obj TX_ABORTS)) (h6 : P .raised) (h7 : P .sessions) (h8 : P .naz) (h9 : P .outs) :
    Only P s (State.cutTx u n a) := by
  induction a generalizing u with
  | zero => ?_
  | succ m ih => ?_
  all_goals first
    | exact h
    | (with_reducible
        unfold State.cutTx
        repeat' first | assumption | apply Only.ite | apply State.abortTx_only | apply State.jSess_only | apply ih | exact h1 _ | intro _ | exact Only.of_pair ‹_ = (_, _)› ‹_› | apply Only.of_pair ‹_ = (_, _)› | dsimp only | split)

theorem State.cutLocks_only {n : Session} {a : Nat} (h : Only P s u) (h1 : P .locks) (h2 : ∀ (y1 : Fin 10), P (.obj (SS_LOCK_OWNER ↑y1))) (h3 : ∀ (y1 : Fin 10), P (.obj (SS_LOCK_EXPIRY ↑y1))) (h4 : P .raised) :
    Only P s (State.cutLocks u n a) := by
  induction a generalizing u with
  | zero => ?_
  | succ m ih => ?_
  all_goals first
    | exact h
    | (with_reducible
        unfold State.cutLocks
        repeat' first | assumption | apply Only.ite | apply State.jSession_only | apply State.setLock_only | apply ih | exact h2 _ | exact h3 _ | intro _ | exact Only.of_pair ‹_ = (_, _)› ‹_› | apply Only.of_pair ‹_ = (_, _)› | dsimp only | split | apply Only.foldl | apply Only.foldl_pair)

theorem State.profileCut_only {j : Nat} (h : Only P s u) (h1 : P .sessions) (h2 : P .best) (h3 : P .bestAt) (h4 : P (.obj SS_COUNT)) (h5 : P (.obj SS_GUAR_SUM)) (h6 : P (.obj SS_ROUTES)) (h7 : ∀ (y1 : Fin 48), P (.slot y1)) (h8 : P .txs) (h9 : P (.obj TX_OPEN_COUNT)) (h10 : P (.obj TX_PROOF_USED)) (h11 : P (.obj TX_ABORTS)) (h12 : P .raised) (h13 : P .naz) (h14 : P .outs) (h15 : P .locks) (h16 : ∀ (y1 : Fin 10), P (.obj (SS_LOCK_OWNER ↑y1))) (h17 : ∀ (y1 : Fin 10), P (.obj (SS_LOCK_EXPIRY ↑y1))) :
    Only P s (State.profileCut u j) := by
  with_reducible
    unfold State.profileCut
    repeat' first | assumption | apply Only.each | apply Only.ite | apply State.cutLocks_only | apply State.cutTx_only | apply State.settleTokens_only | apply State.syncSessions_only | exact h7 _ | exact h16 _ | exact h17 _ | intro _ | dsimp only | split

theorem State.endSession_only {id : Nat} {detail : Nat} {cause : Nat} (h : Only P s u) (h1 : P .sessions) (h2 : P .best) (h3 : P .bestAt) (h4 : ∀ (y1 : Fin 48), P (.slot y1)) (h5 : P .txs) (h6 : P (.obj TX_OPEN_COUNT)) (h7 : P (.obj TX_PROOF_USED)) (h8 : P (.obj TX_ABORTS)) (h9 : P .raised) (h10 : P .naz) (h11 : P .outs) (h12 : P (.obj C_CLAIM)) (h13 : P (.obj C_OWNER)) (h14 : ∀ (y1 : Fin 4), P (.obj (G_STATE ↑y1))) (h15 : ∀ (y1 : Fin 4), P (.obj (G_VALUE ↑y1))) (h16 : ∀ (y1 : Fin 4), P (.gen y1)) (h17 : P .freeCtr) (h18 : P .cap) (h19 : P (.obj C_STATE)) (h20 : P (.obj C_VERSION)) (h21 : Covers P configParts) (h22 : P (.obj SF_CFG_STATE)) (h23 : P (.obj SF_COMMISSION)) (h24 : P (.obj SF_CFG_SEAL)) (h25 : P (.obj SF_CFG_OWNER)) (h26 : P (.obj SF_LAST_CODE)) (h27 : P .rereading) (h28 : P .freed) (h29 : P .queue) (h30 : P .flights) (h31 : P .routes) (h32 : P (.obj SS_COUNT)) (h33 : P (.obj SS_GUAR_SUM)) (h34 : P (.obj SS_ROUTES)) :
    Only P s (State.endSession u id detail cause) := by
  with_reducible
    unfold State.endSession
    repeat' first | assumption | apply Only.each | apply Only.ite | apply State.abandonCommission_only | apply State.abortOpen_only | apply State.claimEnd_only | apply State.jSess_only | apply State.sendTo_only | apply State.settleTokens_only | apply State.syncSessions_only | exact h4 _ | exact h14 _ | exact h15 _ | exact h16 _ | intro _ | exact Only.of_pair ‹_ = (_, _)› ‹_› | apply Only.of_pair ‹_ = (_, _)› | dsimp only | split | apply Only.w_sessions_freed_queue_flights_routes

theorem State.dropSlot_only {k : Nat} (h : Only P s u) (h1 : P .sessions) (h2 : P .best) (h3 : P .bestAt) (h4 : ∀ (y1 : Fin 48), P (.slot y1)) (h5 : P .txs) (h6 : P (.obj TX_OPEN_COUNT)) (h7 : P (.obj TX_PROOF_USED)) (h8 : P (.obj TX_ABORTS)) (h9 : P .raised) (h10 : P .naz) (h11 : P .outs) (h12 : P (.obj C_CLAIM)) (h13 : P (.obj C_OWNER)) (h14 : ∀ (y1 : Fin 4), P (.obj (G_STATE ↑y1))) (h15 : ∀ (y1 : Fin 4), P (.obj (G_VALUE ↑y1))) (h16 : ∀ (y1 : Fin 4), P (.gen y1)) (h17 : P .freeCtr) (h18 : P .cap) (h19 : P (.obj C_STATE)) (h20 : P (.obj C_VERSION)) (h21 : Covers P configParts) (h22 : P (.obj SF_CFG_STATE)) (h23 : P (.obj SF_COMMISSION)) (h24 : P (.obj SF_CFG_SEAL)) (h25 : P (.obj SF_CFG_OWNER)) (h26 : P (.obj SF_LAST_CODE)) (h27 : P .rereading) (h28 : P .freed) (h29 : P .queue) (h30 : P .flights) (h31 : P .routes) (h32 : P (.obj SS_COUNT)) (h33 : P (.obj SS_GUAR_SUM)) (h34 : P (.obj SS_ROUTES)) :
    Only P s (State.dropSlot u k) := by
  with_reducible
    unfold State.dropSlot
    repeat' first | assumption | apply Only.each | apply State.endSession_only | exact h4 _ | exact h14 _ | exact h15 _ | exact h16 _ | intro _ | dsimp only | split

theorem State.hostSession_only (h : Only P s u) (h1 : P .sessions) (h2 : P .best) (h3 : P .bestAt) (h4 : P (.obj SS_COUNT)) (h5 : P (.obj SS_GUAR_SUM)) (h6 : P (.obj SS_ROUTES)) :
    Only P s (State.hostSession u) := by
  with_reducible
    unfold State.hostSession
    repeat' first | assumption | apply Only.ite | apply State.addSession_only | apply State.settleTokens_only | intro _ | dsimp only | split

theorem State.provision_only (h : Only P s u) (h1 : P (.obj HP_PROVISIONED)) (h2 : P .sessions) (h3 : P .best) (h4 : P .bestAt) (h5 : P (.obj SS_COUNT)) (h6 : P (.obj SS_GUAR_SUM)) (h7 : P (.obj SS_ROUTES)) :
    Only P s (State.provision u) := by
  with_reducible
    unfold State.provision
    repeat' first | assumption | apply Only.setFlag | apply Only.ite | apply State.hostSession_only | intro _ | dsimp only | split

theorem State.settleHost_only (h : Only P s u) (h1 : P .sessions) (h2 : P .best) (h3 : P .bestAt) (h4 : ∀ (y1 : Fin 48), P (.slot y1)) (h5 : P .txs) (h6 : P (.obj TX_OPEN_COUNT)) (h7 : P (.obj TX_PROOF_USED)) (h8 : P (.obj TX_ABORTS)) (h9 : P .raised) (h10 : P .naz) (h11 : P .outs) (h12 : P (.obj C_CLAIM)) (h13 : P (.obj C_OWNER)) (h14 : ∀ (y1 : Fin 4), P (.obj (G_STATE ↑y1))) (h15 : ∀ (y1 : Fin 4), P (.obj (G_VALUE ↑y1))) (h16 : ∀ (y1 : Fin 4), P (.gen y1)) (h17 : P .freeCtr) (h18 : P .cap) (h19 : P (.obj C_STATE)) (h20 : P (.obj C_VERSION)) (h21 : Covers P configParts) (h22 : P (.obj SF_CFG_STATE)) (h23 : P (.obj SF_COMMISSION)) (h24 : P (.obj SF_CFG_SEAL)) (h25 : P (.obj SF_CFG_OWNER)) (h26 : P (.obj SF_LAST_CODE)) (h27 : P .rereading) (h28 : P .freed) (h29 : P .queue) (h30 : P .flights) (h31 : P .routes) (h32 : P (.obj SS_COUNT)) (h33 : P (.obj SS_GUAR_SUM)) (h34 : P (.obj SS_ROUTES)) :
    Only P s (State.settleHost u) := by
  with_reducible
    unfold State.settleHost
    repeat' first | assumption | apply Only.ite | apply State.endSession_only | exact h4 _ | exact h14 _ | exact h15 _ | exact h16 _ | intro _ | exact Only.of_pair ‹_ = (_, _)› ‹_› | apply Only.of_pair ‹_ = (_, _)› | dsimp only | split

/-! ### Response -/

theorem State.sendFrame_only {port : Nat} {dst : Bytes} {f : Bytes} (h : Only P s u) (h1 : P .outs) (h2 : P .hostOut) :
    Only P s (State.sendFrame u port dst f) := by
  with_reducible
    unfold State.sendFrame
    repeat' first | assumption | apply Only.emit | apply Only.ite | intro _ | dsimp only | split | apply Only.w_hostOut

theorem State.sendApp_only {sid : Nat} {ty : Nat} {pay : Bytes} (h : Only P s u) (h1 : P .sessions) (h2 : P .outs) (h3 : P .hostOut) :
    Only P s (State.sendApp u sid ty pay).2 := by
  with_reducible
    unfold State.sendApp
    repeat' first | assumption | apply Only.ite | apply State.modSession_only | apply State.sendFrame_only | intro _ | exact Only.of_pair ‹_ = (_, _)› ‹_› | apply Only.of_pair ‹_ = (_, _)› | dsimp only | split

theorem State.sendParts_only {sid : Nat} {ty : Nat} {a : List Bytes} (h : Only P s u) (h1 : P .sessions) (h2 : P .outs) (h3 : P .hostOut) :
    Only P s (State.sendParts u sid ty a).2 := by
  induction a generalizing u with
  | nil => ?_
  | cons e r ih => ?_
  all_goals first
    | exact h
    | (with_reducible
        unfold State.sendParts
        repeat' first | assumption | apply State.sendApp_only | apply ih | intro _ | exact Only.of_pair ‹_ = (_, _)› ‹_› | apply Only.of_pair ‹_ = (_, _)› | dsimp only | split)

theorem State.engineSend_only {b : Fin 2} {f : EngFrame} (h : Only P s u) (h1 : P (.can b)) :
    Only P s (State.engineSend u b f) := by
  with_reducible
    unfold State.engineSend
    repeat' first | assumption | apply Only.modCan | apply Only.ite | intro _ | dsimp only | split

theorem State.sdoSend_only {b : Fin 2} {bs : Bytes} (h : Only P s u) (h1 : P (.can b)) :
    Only P s (State.sdoSend u b bs) := by
  with_reducible
    unfold State.sdoSend
    repeat' first | assumption | apply State.engineSend_only | intro _ | dsimp only | split

theorem State.sdoAbort_only {b : Fin 2} {key : Nat} {code : Nat} (h : Only P s u) (h1 : P (.can b)) :
    Only P s (State.sdoAbort u b key code) := by
  with_reducible
    unfold State.sdoAbort
    repeat' first | assumption | apply Only.modCan | apply State.sdoSend_only | intro _ | dsimp only | split

theorem State.sdoReply_only {b : Fin 2} {op : Nat} {key : Nat} {code : Nat} {val : Bytes} (h : Only P s u) (h1 : P (.can b)) :
    Only P s (State.sdoReply u b op key code val) := by
  with_reducible
    unfold State.sdoReply
    repeat' first | assumption | apply Only.modCan | apply Only.ite | apply State.sdoAbort_only | apply State.sdoSend_only | intro _ | exact Only.of_pair ‹_ = (_, _)› ‹_› | apply Only.of_pair ‹_ = (_, _)› | dsimp only | split

theorem State.sendFlight_only {f : Flight} (h : Only P s u) (h1 : P .flights) (h2 : P .naz) (h3 : P .outs) (h4 : P (.can 0)) (h5 : P (.can 1)) (h6 : P .sessions) (h7 : P .hostOut) :
    Only P s (State.sendFlight u f) := by
  with_reducible
    unfold State.sendFlight
    repeat' first | assumption | apply Only.each | apply Only.ite | apply State.modSession_only | apply State.sdoReply_only | apply State.sendParts_only | apply State.sendTo_only | intro _ | exact Only.of_pair ‹_ = (_, _)› ‹_› | apply Only.of_pair ‹_ = (_, _)› | dsimp only | split | apply Only.w_flights

theorem State.finishFlight_only {f : Flight} (h : Only P s u) (h1 : P .flights) (h2 : P .naz) (h3 : P .outs) (h4 : P (.can 0)) (h5 : P (.can 1)) (h6 : P .sessions) (h7 : P .hostOut) (h8 : P .best) (h9 : P .bestAt) (h10 : ∀ (y1 : Fin 48), P (.slot y1)) (h11 : P .txs) (h12 : P (.obj TX_OPEN_COUNT)) (h13 : P (.obj TX_PROOF_USED)) (h14 : P (.obj TX_ABORTS)) (h15 : P .raised) (h16 : P (.obj C_CLAIM)) (h17 : P (.obj C_OWNER)) (h18 : ∀ (y1 : Fin 4), P (.obj (G_STATE ↑y1))) (h19 : ∀ (y1 : Fin 4), P (.obj (G_VALUE ↑y1))) (h20 : ∀ (y1 : Fin 4), P (.gen y1)) (h21 : P .freeCtr) (h22 : P .cap) (h23 : P (.obj C_STATE)) (h24 : P (.obj C_VERSION)) (h25 : Covers P configParts) (h26 : P (.obj SF_CFG_STATE)) (h27 : P (.obj SF_COMMISSION)) (h28 : P (.obj SF_CFG_SEAL)) (h29 : P (.obj SF_CFG_OWNER)) (h30 : P (.obj SF_LAST_CODE)) (h31 : P .rereading) (h32 : P .freed) (h33 : P .queue) (h34 : P .routes) (h35 : P (.obj SS_COUNT)) (h36 : P (.obj SS_GUAR_SUM)) (h37 : P (.obj SS_ROUTES)) :
    Only P s (State.finishFlight u f) := by
  with_reducible
    unfold State.finishFlight
    repeat' first | assumption | apply Only.ite | apply State.sendFlight_only | apply State.settleHost_only | exact h10 _ | exact h18 _ | exact h19 _ | exact h20 _ | intro _ | dsimp only | split

theorem State.modFlight_only {sid : Nat} {seq : Nat} {g : Flight → Flight} (h : Only P s u) (h1 : P .flights) :
    Only P s (State.modFlight u sid seq g) := by
  with_reducible
    unfold State.modFlight
    repeat' first | assumption | apply Only.ite | intro _ | dsimp only | split | apply Only.w_flights

theorem State.fill_only {sid : Nat} {seq : Nat} {i : Nat} {code : Nat} {val : Bytes} (h : Only P s u) (h1 : P .flights) (h2 : P .sessions) :
    Only P s (State.fill u sid seq i code val) := by
  with_reducible
    unfold State.fill
    repeat' first | assumption | apply Only.ite | apply State.countRefused_only | apply State.modFlight_only | intro _ | exact Only.of_pair ‹_ = (_, _)› ‹_› | apply Only.of_pair ‹_ = (_, _)› | dsimp only | split

theorem State.answer_only {sid : Nat} {seq : Nat} (h : Only P s u) (h1 : P .flights) (h2 : P .naz) (h3 : P .outs) (h4 : P (.can 0)) (h5 : P (.can 1)) (h6 : P .sessions) (h7 : P .hostOut) (h8 : P .best) (h9 : P .bestAt) (h10 : ∀ (y1 : Fin 48), P (.slot y1)) (h11 : P .txs) (h12 : P (.obj TX_OPEN_COUNT)) (h13 : P (.obj TX_PROOF_USED)) (h14 : P (.obj TX_ABORTS)) (h15 : P .raised) (h16 : P (.obj C_CLAIM)) (h17 : P (.obj C_OWNER)) (h18 : ∀ (y1 : Fin 4), P (.obj (G_STATE ↑y1))) (h19 : ∀ (y1 : Fin 4), P (.obj (G_VALUE ↑y1))) (h20 : ∀ (y1 : Fin 4), P (.gen y1)) (h21 : P .freeCtr) (h22 : P .cap) (h23 : P (.obj C_STATE)) (h24 : P (.obj C_VERSION)) (h25 : Covers P configParts) (h26 : P (.obj SF_CFG_STATE)) (h27 : P (.obj SF_COMMISSION)) (h28 : P (.obj SF_CFG_SEAL)) (h29 : P (.obj SF_CFG_OWNER)) (h30 : P (.obj SF_LAST_CODE)) (h31 : P .rereading) (h32 : P .freed) (h33 : P .queue) (h34 : P .routes) (h35 : P (.obj SS_COUNT)) (h36 : P (.obj SS_GUAR_SUM)) (h37 : P (.obj SS_ROUTES)) :
    Only P s (State.answer u sid seq) := by
  with_reducible
    unfold State.answer
    repeat' first | assumption | apply State.finishFlight_only | exact h10 _ | exact h18 _ | exact h19 _ | exact h20 _ | intro _ | exact Only.of_pair ‹_ = (_, _)› ‹_› | apply Only.of_pair ‹_ = (_, _)› | dsimp only | split

theorem State.loseRouted_only {f : Flight} (h : Only P s u) (h1 : P .flights) (h2 : P .naz) (h3 : P .outs) (h4 : P (.can 0)) (h5 : P (.can 1)) (h6 : P .sessions) (h7 : P .hostOut) (h8 : P .best) (h9 : P .bestAt) (h10 : ∀ (y1 : Fin 48), P (.slot y1)) (h11 : P .txs) (h12 : P (.obj TX_OPEN_COUNT)) (h13 : P (.obj TX_PROOF_USED)) (h14 : P (.obj TX_ABORTS)) (h15 : P .raised) (h16 : P (.obj C_CLAIM)) (h17 : P (.obj C_OWNER)) (h18 : ∀ (y1 : Fin 4), P (.obj (G_STATE ↑y1))) (h19 : ∀ (y1 : Fin 4), P (.obj (G_VALUE ↑y1))) (h20 : ∀ (y1 : Fin 4), P (.gen y1)) (h21 : P .freeCtr) (h22 : P .cap) (h23 : P (.obj C_STATE)) (h24 : P (.obj C_VERSION)) (h25 : Covers P configParts) (h26 : P (.obj SF_CFG_STATE)) (h27 : P (.obj SF_COMMISSION)) (h28 : P (.obj SF_CFG_SEAL)) (h29 : P (.obj SF_CFG_OWNER)) (h30 : P (.obj SF_LAST_CODE)) (h31 : P .rereading) (h32 : P .freed) (h33 : P .queue) (h34 : P .routes) (h35 : P (.obj SS_COUNT)) (h36 : P (.obj SS_GUAR_SUM)) (h37 : P (.obj SS_ROUTES)) :
    Only P s (State.loseRouted u f) := by
  with_reducible
    unfold State.loseRouted
    repeat' first | assumption | apply Only.ite | apply State.answer_only | apply State.modFlight_only | exact h10 _ | exact h18 _ | exact h19 _ | exact h20 _ | intro _ | dsimp only | split

theorem State.dropRoutes_only (h : Only P s u) (h1 : P .routes) (h2 : P (.obj SS_COUNT)) (h3 : P (.obj SS_GUAR_SUM)) (h4 : P (.obj SS_ROUTES)) (h5 : P .flights) (h6 : P .naz) (h7 : P .outs) (h8 : P (.can 0)) (h9 : P (.can 1)) (h10 : P .sessions) (h11 : P .hostOut) (h12 : P .best) (h13 : P .bestAt) (h14 : ∀ (y1 : Fin 48), P (.slot y1)) (h15 : P .txs) (h16 : P (.obj TX_OPEN_COUNT)) (h17 : P (.obj TX_PROOF_USED)) (h18 : P (.obj TX_ABORTS)) (h19 : P .raised) (h20 : P (.obj C_CLAIM)) (h21 : P (.obj C_OWNER)) (h22 : ∀ (y1 : Fin 4), P (.obj (G_STATE ↑y1))) (h23 : ∀ (y1 : Fin 4), P (.obj (G_VALUE ↑y1))) (h24 : ∀ (y1 : Fin 4), P (.gen y1)) (h25 : P .freeCtr) (h26 : P .cap) (h27 : P (.obj C_STATE)) (h28 : P (.obj C_VERSION)) (h29 : Covers P configParts) (h30 : P (.obj SF_CFG_STATE)) (h31 : P (.obj SF_COMMISSION)) (h32 : P (.obj SF_CFG_SEAL)) (h33 : P (.obj SF_CFG_OWNER)) (h34 : P (.obj SF_LAST_CODE)) (h35 : P .rereading) (h36 : P .freed) (h37 : P .queue) :
    Only P s (State.dropRoutes u) := by
  with_reducible
    unfold State.dropRoutes
    repeat' first | assumption | apply Only.each | apply State.abortTx_only | apply State.endSession_only | apply State.loseRouted_only | apply State.syncSessions_only | exact h14 _ | exact h22 _ | exact h23 _ | exact h24 _ | intro _ | dsimp only | split | apply Only.w_routes

/-! ### NazLink -/

theorem State.jNaz_only {cls : Nat} {isl : Nat} {detail : Nat} {src : Nat} {dev : Nat} {port : Nat} {reason : Nat} {req : Nat} {off : Int} (h : Only P s u) (h1 : P .raised) :
    Only P s (State.jNaz u cls isl detail src dev port reason req off) := by
  with_reducible
    unfold State.jNaz
    repeat' first | assumption | apply Only.journal | intro _ | dsimp only | split

theorem State.jLink_only {p : Fin 2} {cls : Nat} {detail : Nat} (h : Only P s u) (h1 : P .raised) :
    Only P s (State.jLink u p cls detail) := by
  with_reducible
    unfold State.jLink
    repeat' first | assumption | apply State.jNaz_only | intro _ | dsimp only | split

theorem State.jRing_only {cls : Nat} {detail : Nat} {dev : Nat} {reason : Nat} {req : Nat} (h : Only P s u) (h1 : P .raised) :
    Only P s (State.jRing u cls detail dev reason req) := by
  with_reducible
    unfold State.jRing
    repeat' first | assumption | apply State.jNaz_only | intro _ | exact Only.of_pair ‹_ = (_, _)› ‹_› | apply Only.of_pair ‹_ = (_, _)› | dsimp only | split

theorem State.setMaps_only {present : Nat} {lost : Nat} {order : List Nat} (h : Only P s u) (h1 : P (.blob NZ_PRESENT)) (h2 : P (.blob NZ_LOST)) (h3 : P (.blob NZ_ORDER)) (h4 : P (.obj NZ_MAP_VER)) :
    Only P s (State.setMaps u present lost order) := by
  with_reducible
    unfold State.setMaps
    repeat' first | assumption | apply Only.addCount | apply Only.setBlob | intro _ | dsimp only | split

theorem State.sendLink_only {p : Fin 2} {event : Nat} (h : Only P s u) (h1 : P .naz) (h2 : P .outs) :
    Only P s (State.sendLink u p event) := by
  with_reducible
    unfold State.sendLink
    repeat' first | assumption | apply Only.ite | apply State.cast_only | intro _ | dsimp only | split

theorem State.flood_only (h : Only P s u) (h1 : P .naz) (h2 : P .outs) :
    Only P s (State.flood u) := by
  with_reducible
    unfold State.flood
    repeat' first | assumption | apply State.cast_only | intro _ | exact Only.of_pair ‹_ = (_, _)› ‹_› | apply Only.of_pair ‹_ = (_, _)› | dsimp only | split

theorem State.beginElection_only (h : Only P s u) (h1 : P .naz) (h2 : P (.obj NZ_STATE)) (h3 : P .outs) :
    Only P s (State.beginElection u) := by
  with_reducible
    unfold State.beginElection
    repeat' first | assumption | apply Only.set | apply Only.ite | apply State.flood_only | apply State.modNaz_only | intro _ | exact Only.of_pair ‹_ = (_, _)› ‹_› | apply Only.of_pair ‹_ = (_, _)› | dsimp only | split

theorem State.startToken_only {kind : Nat} {flags : Nat} {deadline : Nat} {data : Bytes} (h : Only P s u) (h1 : P .naz) (h2 : P .outs) :
    Only P s (State.startToken u kind flags deadline data) := by
  with_reducible
    unfold State.startToken
    repeat' first | assumption | apply Only.each | apply Only.ite | apply State.modNaz_only | apply State.sendPort_only | intro _ | exact Only.of_pair ‹_ = (_, _)› ‹_› | apply Only.of_pair ‹_ = (_, _)› | dsimp only | split

theorem State.startPass_only {join : Bool} {reserved : Nat} (h : Only P s u) (h1 : P .naz) (h2 : P .outs) :
    Only P s (State.startPass u join reserved) := by
  with_reducible
    unfold State.startPass
    repeat' first | assumption | apply Only.ite | apply State.modNaz_only | apply State.startToken_only | intro _ | dsimp only | split

theorem State.restartPass_only (h : Only P s u) (h1 : P .raised) (h2 : P .naz) (h3 : P .outs) :
    Only P s (State.restartPass u) := by
  with_reducible
    unfold State.restartPass
    repeat' first | assumption | apply State.jRing_only | apply State.startPass_only | intro _ | exact Only.of_pair ‹_ = (_, _)› ‹_› | apply Only.of_pair ‹_ = (_, _)› | dsimp only | split

theorem State.judgeCap_only (h : Only P s u) (h1 : P .naz) (h2 : P .raised) :
    Only P s (State.judgeCap u) := by
  with_reducible
    unfold State.judgeCap
    repeat' first | assumption | apply Only.ite | apply State.jRing_only | apply State.modNaz_only | intro _ | dsimp only | split

theorem State.judgePoles_only {before : State} (h : Only P s u) (h1 : P .raised) (h2 : ∀ (y1 : Fin 6), P (.obj (S_ENABLE ↑y1))) (h3 : ∀ (y1 : Fin 6) (y2 : Fin 3), P (.hb (hbOf y1 y2))) (h4 : P (.obj S_BLW_ACTIVE)) (h5 : ∀ (y1 : Fin 6), P (.sec y1)) (h6 : ∀ (y1 : Fin 6) (y2 : Fin 3), P (.obj (S_GATE_I ↑(hbOf y1 y2)))) (h7 : ∀ (y1 : Fin 6), P (.obj (S_STATE ↑y1))) (h8 : ∀ (y1 : Fin 6), P (.obj (S_DEG_PHASE ↑y1))) (h9 : ∀ (y1 : Fin 6), P (.obj (S_STEP ↑y1))) (h10 : ∀ (y1 : Fin 6), P (.obj (S_FUS_STATE ↑y1))) (h11 : ∀ (y1 : Fin 6), P (.obj (S_LOCK_STATE ↑y1))) (h12 : ∀ (y1 : Fin 4), P (.obj (A_SECTIONS ↑y1))) (h13 : ∀ (y1 : Fin 4), P (.obj (A_CASCADE_SECTIONS ↑y1))) (h14 : ∀ (y1 : Fin 4), P (.ax y1)) (h15 : ∀ (y1 : Fin 4), P (.obj (A_FAULT_STATE ↑y1))) :
    Only P s (State.judgePoles u before) := by
  with_reducible
    unfold State.judgePoles
    repeat' first | assumption | apply Only.each | apply State.enableZero_only | apply State.jRing_only | exact h2 _ | exact h3 _ _ | exact h5 _ | exact h6 _ _ | exact h7 _ | exact h8 _ | exact h9 _ | exact h10 _ | exact h11 _ | exact h12 _ | exact h13 _ | exact h14 _ | exact h15 _ | intro _ | dsimp only | split

theorem State.holdAddress0_only (h : Only P s u) (h1 : P .naz) (h2 : P (.obj DV_ADDRESS)) (h3 : P (.obj NZ_COUNT)) (h4 : P (.obj NZ_MASTER)) (h5 : P (.obj NZ_STANDBY)) (h6 : P .routes) (h7 : P (.obj SS_COUNT)) (h8 : P (.obj SS_GUAR_SUM)) (h9 : P (.obj SS_ROUTES)) (h10 : P .flights) (h11 : P .outs) (h12 : P (.can 0)) (h13 : P (.can 1)) (h14 : P .sessions) (h15 : P .hostOut) (h16 : P .best) (h17 : P .bestAt) (h18 : ∀ (y1 : Fin 48), P (.slot y1)) (h19 : P .txs) (h20 : P (.obj TX_OPEN_COUNT)) (h21 : P (.obj TX_PROOF_USED)) (h22 : P (.obj TX_ABORTS)) (h23 : P .raised) (h24 : P (.obj C_CLAIM)) (h25 : P (.obj C_OWNER)) (h26 : ∀ (y1 : Fin 4), P (.obj (G_STATE ↑y1))) (h27 : ∀ (y1 : Fin 4), P (.obj (G_VALUE ↑y1))) (h28 : ∀ (y1 : Fin 4), P (.gen y1)) (h29 : P .freeCtr) (h30 : P .cap) (h31 : P (.obj C_STATE)) (h32 : P (.obj C_VERSION)) (h33 : Covers P configParts) (h34 : P (.obj SF_CFG_STATE)) (h35 : P (.obj SF_COMMISSION)) (h36 : P (.obj SF_CFG_SEAL)) (h37 : P (.obj SF_CFG_OWNER)) (h38 : P (.obj SF_LAST_CODE)) (h39 : P .rereading) (h40 : P .freed) (h41 : P .queue) :
    Only P s (State.holdAddress0 u) := by
  with_reducible
    unfold State.holdAddress0
    repeat' first | assumption | apply Only.set | apply State.dropRoutes_only | apply State.modNaz_only | exact h18 _ | exact h26 _ | exact h27 _ | exact h28 _ | intro _ | dsimp only | split

theorem State.electAgain_only (h : Only P s u) (h1 : P .naz) (h2 : P (.obj NZ_STATE)) (h3 : P .outs) :
    Only P s (State.electAgain u) := by
  with_reducible
    unfold State.electAgain
    repeat' first | assumption | apply Only.ite | apply State.beginElection_only | intro _ | dsimp only | split

theorem State.linkBack_only {d : Nat} {port : Nat} (h : Only P s u) (h1 : P .naz) :
    Only P s (State.linkBack u d port) := by
  with_reducible
    unfold State.linkBack
    repeat' first | assumption | apply State.modNaz_only | intro _ | dsimp only | split

theorem State.closeRing_only (h : Only P s u) (h1 : P .naz) :
    Only P s (State.closeRing u) := by
  with_reducible
    unfold State.closeRing
    repeat' first | assumption | apply Only.ite | apply State.modNaz_only | intro _ | dsimp only | split

theorem State.openRing_only (h : Only P s u) (h1 : P (.obj NZ_RING)) (h2 : P .naz) (h3 : P .raised) :
    Only P s (State.openRing u) := by
  with_reducible
    unfold State.openRing
    repeat' first | assumption | apply Only.set | apply Only.ite | apply State.jRing_only | apply State.modNaz_only | intro _ | dsimp only | split

theorem State.linkDown_only {p : Fin 2} {n : Nat} (h : Only P s u) (h1 : P (.obj (NZ_CODE_ERR ↑p))) (h2 : P (.obj (NZ_LINK ↑p))) (h3 : P (.obj (NZ_LINK_DOWNS ↑p))) (h4 : P .naz) (h5 : P (.obj NZ_RING)) (h6 : P .raised) (h7 : P .outs) (h8 : P (.obj NZ_STATE)) :
    Only P s (State.linkDown u p n) := by
  with_reducible
    unfold State.linkDown
    repeat' first | assumption | apply Only.set | apply Only.addCount | apply Only.inc | apply Only.ite | apply State.electAgain_only | apply State.modNaz_only | apply State.modPort_only | apply State.openRing_only | apply State.restartPass_only | apply State.sendLink_only | intro _ | exact Only.of_pair ‹_ = (_, _)› ‹_› | apply Only.of_pair ‹_ = (_, _)› | dsimp only | split

theorem State.linkFrame_only {p : Fin 2} {f : NazF} (h : Only P s u) (h1 : P .naz) (h2 : P (.obj (NZ_LINK ↑p))) (h3 : P .raised) (h4 : P (.obj NZ_STATE)) (h5 : P .outs) (h6 : P (.obj NZ_RING)) :
    Only P s (State.linkFrame u p f) := by
  with_reducible
    unfold State.linkFrame
    repeat' first | assumption | apply Only.set | apply Only.ite | apply State.closeRing_only | apply State.electAgain_only | apply State.jLink_only | apply State.linkBack_only | apply State.modNaz_only | apply State.modPort_only | apply State.openRing_only | apply State.restartPass_only | apply State.startPass_only | intro _ | dsimp only | split

theorem State.passToken_only {p : Fin 2} {f : NazF} (h : Only P s u) (h1 : P .outs) :
    Only P s (State.passToken u p f) := by
  with_reducible
    unfold State.passToken
    repeat' first | assumption | apply Only.ite | apply State.out1_only | intro _ | dsimp only | split

theorem State.markMerged_only {f : NazF} (h : Only P s u) (h1 : P .naz) :
    Only P s (State.markMerged u f) := by
  with_reducible
    unfold State.markMerged
    repeat' first | assumption | apply State.modNaz_only | intro _ | dsimp only | split

theorem State.enumerate_only {p : Fin 2} {f : NazF} {held : List (Nat × Nat)} (h : Only P s u) (h1 : P .naz) (h2 : P .outs) (h3 : P .raised) (h4 : P (.obj DV_ADDRESS)) (h5 : P (.obj NZ_GEN)) (h6 : P (.obj NZ_ROLE)) (h7 : P (.obj NZ_STATE)) (h8 : P (.obj NZ_MASTER)) :
    Only P s (State.enumerate u p f held) := by
  with_reducible
    unfold State.enumerate
    repeat' first | assumption | apply Only.set | apply Only.ite | apply State.jRing_only | apply State.judgeCap_only | apply State.markMerged_only | apply State.modNaz_only | apply State.passToken_only | apply State.sendPort_only | intro _ | exact Only.of_pair ‹_ = (_, _)› ‹_› | apply Only.of_pair ‹_ = (_, _)› | dsimp only | split

theorem State.command_only {code : Nat} {instant : Nat} {data : Bytes} (h : Only P s u) (h1 : P .naz) (h2 : P .outs) :
    Only P s (State.command u code instant data) := by
  with_reducible
    unfold State.command
    repeat' first | assumption | apply State.castSeq_only | apply State.modNaz_only | apply State.nextSeq_only | intro _ | exact Only.of_pair ‹_ = (_, _)› ‹_› | apply Only.of_pair ‹_ = (_, _)› | dsimp only | split

theorem State.passComplete_only {pay : Bytes} (h : Only P s u) (h1 : P (.obj NZ_COUNT)) (h2 : P (.obj NZ_MASTER)) (h3 : P (.obj NZ_STANDBY)) (h4 : P (.blob NZ_PRESENT)) (h5 : P (.blob NZ_LOST)) (h6 : P (.blob NZ_ORDER)) (h7 : P (.obj NZ_MAP_VER)) (h8 : P .naz) (h9 : P (.obj NZ_ADDR_LAST)) (h10 : P (.obj NZ_RING)) :
    Only P s (State.passComplete u pay) := by
  with_reducible
    unfold State.passComplete
    repeat' first | assumption | apply Only.set | apply Only.ite | apply State.modNaz_only | apply State.setMaps_only | intro _ | exact Only.of_pair ‹_ = (_, _)› ‹_› | apply Only.of_pair ‹_ = (_, _)› | dsimp only | split

theorem State.finishPass_only (h : Only P s u) (h1 : ∀ (y1 : Fin 4), P (.ax y1)) (h2 : P .raised) (h3 : P .naz) (h4 : P .outs) (h5 : P (.obj NZ_COUNT)) (h6 : P (.obj NZ_MASTER)) (h7 : P (.obj NZ_STANDBY)) (h8 : P (.blob NZ_PRESENT)) (h9 : P (.blob NZ_LOST)) (h10 : P (.blob NZ_ORDER)) (h11 : P (.obj NZ_MAP_VER)) (h12 : P (.obj NZ_ADDR_LAST)) (h13 : P (.obj NZ_RING)) :
    Only P s (State.finishPass u) := by
  with_reducible
    unfold State.finishPass
    repeat' first | assumption | apply Only.modAx | apply Only.each | apply Only.ite | apply State.command_only | apply State.jRing_only | apply State.modNaz_only | apply State.passComplete_only | exact h1 _ | intro _ | exact Only.of_pair ‹_ = (_, _)› ‹_› | apply Only.of_pair ‹_ = (_, _)› | dsimp only | split | apply Only.foldl | apply Only.foldl_pair

theorem State.enumBack_only {f : NazF} (h : Only P s u) (h1 : P .naz) (h2 : P .outs) (h3 : ∀ (y1 : Fin 4), P (.ax y1)) (h4 : P .raised) (h5 : P (.obj NZ_COUNT)) (h6 : P (.obj NZ_MASTER)) (h7 : P (.obj NZ_STANDBY)) (h8 : P (.blob NZ_PRESENT)) (h9 : P (.blob NZ_LOST)) (h10 : P (.blob NZ_ORDER)) (h11 : P (.obj NZ_MAP_VER)) (h12 : P (.obj NZ_ADDR_LAST)) (h13 : P (.obj NZ_RING)) :
    Only P s (State.enumBack u f) := by
  with_reducible
    unfold State.enumBack
    repeat' first | assumption | apply Only.ite | apply State.finishPass_only | apply State.modNaz_only | apply State.sendPort_only | exact h3 _ | intro _ | exact Only.of_pair ‹_ = (_, _)› ‹_› | apply Only.of_pair ‹_ = (_, _)› | dsimp only | split

theorem State.receiveCommand_only {p : Fin 2} {code : Nat} {bs : Bytes} {k : Bytes → State → State} (h : Only P s u) (h1 : P (.obj (NZ_CRC_ERR ↑p))) (h2 : P .outs) (h3 : P .naz) (hkk : ∀ z0 v, Only P s v → Only P s (k z0 v)) :
    Only P s (State.receiveCommand u p code bs k) := by
  with_reducible
    unfold State.receiveCommand
    repeat' first | assumption | apply Only.ite | apply State.receive_only | apply hkk | intro _ | dsimp only | split

theorem State.cycleTo_only {v : Nat} (h : Only P s u) (h1 : P .naz) (h2 : P .outs) :
    Only P s (State.cycleTo u v) := by
  with_reducible
    unfold State.cycleTo
    repeat' first | assumption | apply Only.ite | apply State.command_only | apply State.modNaz_only | intro _ | dsimp only | split

theorem State.cycleWrite_only {v : Nat} (h : Only P s u) (h1 : P (.obj NZ_CYCLE)) (h2 : P .naz) (h3 : P .outs) :
    Only P s (State.cycleWrite u v) := by
  with_reducible
    unfold State.cycleWrite
    repeat' first | assumption | apply Only.set | apply State.cycleTo_only | intro _ | dsimp only | split

theorem State.freeze_only {T : Nat} {before : Nat} (h : Only P s u) (h1 : P .naz) (h2 : ∀ (y1 : Fin 4), P (.ax y1)) :
    Only P s (State.freeze u T before) := by
  with_reducible
    unfold State.freeze
    repeat' first | assumption | apply Only.modAx | apply Only.each | apply Only.ite | apply State.modNaz_only | exact h2 _ | intro _ | exact Only.of_pair ‹_ = (_, _)› ‹_› | apply Only.of_pair ‹_ = (_, _)› | dsimp only | split

theorem State.followStart_only {a : Fin 4} {st : Nat} {t0 : Nat} (h : Only P s u) (h1 : P (.obj (A_START_STAGE ↑a))) (h2 : P (.ax a)) (h3 : ∀ (y1 : Fin 48), P (.slot y1)) (h4 : ∀ (y1 : Fin 6) (y2 : Fin 3), P (.hb (hbOf y1 y2))) (h5 : ∀ (y1 : Fin 6) (y2 : Fin 3), P (.obj (S_GATE_I ↑(hbOf y1 y2)))) (h6 : ∀ (y1 : Fin 6), P (.sec y1)) (h7 : P .raised) (h8 : P (.obj (A_REF_STATE ↑a))) :
    Only P s (State.followStart u a st t0) := by
  with_reducible
    unfold State.followStart
    repeat' first | assumption | apply Only.set | apply Only.ite | apply State.enterStageAt_only | apply State.refPhaseAt_only | apply State.retargetAt_only | exact h3 _ | exact h4 _ _ | exact h5 _ _ | exact h6 _ | intro _ | dsimp only | split

theorem State.applyBlock_only {map : Nat} {T2 : Nat} {t0 : Nat} {b : Bytes} (h : Only P s u) (h1 : ∀ (y1 : Fin 4), P (.obj (A_DEV_TORQUE ↑y1))) (h2 : ∀ (y1 : Fin 4), P (.ax y1)) (h3 : ∀ (y1 : Fin 4), P (.obj (A_START_STAGE ↑y1))) (h4 : ∀ (y1 : Fin 48), P (.slot y1)) (h5 : ∀ (y1 : Fin 6) (y2 : Fin 3), P (.hb (hbOf y1 y2))) (h6 : ∀ (y1 : Fin 6) (y2 : Fin 3), P (.obj (S_GATE_I ↑(hbOf y1 y2)))) (h7 : ∀ (y1 : Fin 6), P (.sec y1)) (h8 : P .raised) (h9 : ∀ (y1 : Fin 4), P (.obj (A_REF_STATE ↑y1))) (h10 : ∀ (y1 : Fin 4), P (.obj (A_POS_REF ↑y1))) (h11 : ∀ (y1 : Fin 4), P (.obj (A_PROF_SPEED ↑y1))) (h12 : ∀ (y1 : Fin 4), P (.obj (A_PROF_ACCEL ↑y1))) (h13 : ∀ (y1 : Fin 4), P (.obj (A_FAULT_STATE ↑y1))) :
    Only P s (State.applyBlock u map T2 t0 b) := by
  with_reducible
    unfold State.applyBlock
    repeat' first | assumption | apply Only.set | apply Only.modAx | apply Only.each | apply Only.ite | apply State.enterLevelBy_only | apply State.enterStageAt_only | apply State.followStart_only | apply State.leaveLevel_only | apply State.takeRef_only | exact h1 _ | exact h2 _ | exact h3 _ | exact h4 _ | exact h5 _ _ | exact h6 _ _ | exact h7 _ | exact h9 _ | exact h10 _ | exact h11 _ | exact h12 _ | exact h13 _ | intro _ | exact Only.of_pair ‹_ = (_, _)› ‹_› | apply Only.of_pair ‹_ = (_, _)› | dsimp only | split

theorem State.applyCycle_only {pay : Bytes} (h : Only P s u) (h1 : P .naz) (h2 : P (.obj NZ_STATE)) (h3 : ∀ (y1 : Fin 4), P (.ax y1)) (h4 : ∀ (y1 : Fin 4), P (.obj (A_DEV_TORQUE ↑y1))) (h5 : ∀ (y1 : Fin 4), P (.obj (A_START_STAGE ↑y1))) (h6 : ∀ (y1 : Fin 48), P (.slot y1)) (h7 : ∀ (y1 : Fin 6) (y2 : Fin 3), P (.hb (hbOf y1 y2))) (h8 : ∀ (y1 : Fin 6) (y2 : Fin 3), P (.obj (S_GATE_I ↑(hbOf y1 y2)))) (h9 : ∀ (y1 : Fin 6), P (.sec y1)) (h10 : P .raised) (h11 : ∀ (y1 : Fin 4), P (.obj (A_REF_STATE ↑y1))) (h12 : ∀ (y1 : Fin 4), P (.obj (A_POS_REF ↑y1))) (h13 : ∀ (y1 : Fin 4), P (.obj (A_PROF_SPEED ↑y1))) (h14 : ∀ (y1 : Fin 4), P (.obj (A_PROF_ACCEL ↑y1))) (h15 : ∀ (y1 : Fin 4), P (.obj (A_FAULT_STATE ↑y1))) :
    Only P s (State.applyCycle u pay) := by
  with_reducible
    unfold State.applyCycle
    repeat' first | assumption | apply Only.set | apply Only.modAx | apply Only.each | apply Only.ite | apply State.applyBlock_only | apply State.modNaz_only | exact h3 _ | exact h4 _ | exact h5 _ | exact h6 _ | exact h7 _ _ | exact h8 _ _ | exact h9 _ | exact h11 _ | exact h12 _ | exact h13 _ | exact h14 _ | exact h15 _ | intro _ | dsimp only | split

theorem State.applyMpos_only {before : Nat} (h : Only P s u) (h1 : ∀ (y1 : Fin 4), P (.ax y1)) (h2 : ∀ (y1 : Fin 4), P (.obj (A_MASTER_AGE ↑y1))) (h3 : ∀ (y1 : Fin 4), P (.obj (A_FAULT_STATE ↑y1))) :
    Only P s (State.applyMpos u before) := by
  with_reducible
    unfold State.applyMpos
    repeat' first | assumption | apply Only.set | apply Only.modAx | apply Only.each | apply Only.ite | apply State.leaveLevel_only | exact h1 _ | exact h2 _ | exact h3 _ | intro _ | exact Only.of_pair ‹_ = (_, _)› ‹_› | apply Only.of_pair ‹_ = (_, _)› | dsimp only | split

theorem State.keepMpos_only {ch : Nat} {T : Nat} {m : Int} {v : Int} (h : Only P s u) (h1 : P .naz) :
    Only P s (State.keepMpos u ch T m v) := by
  with_reducible
    unfold State.keepMpos
    repeat' first | assumption | apply State.modNaz_only | intro _ | dsimp only | split

theorem State.publishMpos_only {T : Nat} (h : Only P s u) (h1 : P .naz) (h2 : P .outs) :
    Only P s (State.publishMpos u T) := by
  with_reducible
    unfold State.publishMpos
    repeat' first | assumption | apply Only.each | apply Only.ite | apply State.cast_only | apply State.keepMpos_only | intro _ | dsimp only | split

theorem State.sendAxis_only {a : Fin 4} (h : Only P s u) (h1 : P .naz) (h2 : P .outs) (h3 : P (.ax a)) (h4 : P (.obj (A_FUS_CORR ↑a))) :
    Only P s (State.sendAxis u a) := by
  with_reducible
    unfold State.sendAxis
    repeat' first | assumption | apply Only.ite | apply State.applyCascade_only | apply State.cast_only | intro _ | dsimp only | split

theorem State.applyAxis_only {b : Bytes} (h : Only P s u) (h1 : ∀ (y1 : Fin 4), P (.ax y1)) (h2 : ∀ (y1 : Fin 4), P (.obj (A_FUS_CORR ↑y1))) (h3 : ∀ (y1 : Fin 4), P (.obj (A_FUS_DEV_DROPPED ↑y1))) :
    Only P s (State.applyAxis u b) := by
  with_reducible
    unfold State.applyAxis
    repeat' first | assumption | apply Only.set | apply Only.each | apply Only.ite | apply State.applyCascade_only | exact h1 _ | exact h2 _ | exact h3 _ | intro _ | dsimp only | split

theorem State.contribute_only {a : Fin 4} {d : Nat} {T : Nat} {fault : Bool} {b : Bytes} (h : Only P s u) (h1 : P (.ax a)) (h2 : P .raised) :
    Only P s (State.contribute u a d T fault b) := by
  with_reducible
    unfold State.contribute
    repeat' first | assumption | apply Only.modAx | apply Only.journal | apply Only.ite | intro _ | dsimp only | split

theorem State.holdDevice_only {d : Nat} {pay : Bytes} (h : Only P s u) (h1 : ∀ (y1 : Fin 4), P (.ax y1)) (h2 : P .raised) :
    Only P s (State.holdDevice u d pay) := by
  with_reducible
    unfold State.holdDevice
    repeat' first | assumption | apply Only.modAx | apply Only.each | apply State.contribute_only | exact h1 _ | intro _ | exact Only.of_pair ‹_ = (_, _)› ‹_› | apply Only.of_pair ‹_ = (_, _)› | dsimp only | split

theorem State.useDevice_only {d : Nat} {pay : Bytes} (h : Only P s u) (h1 : ∀ (y1 : Fin 4), P (.ax y1)) (h2 : P .raised) (h3 : ∀ (y1 : Fin 4), P (.obj (A_SECTIONS ↑y1))) (h4 : ∀ (y1 : Fin 4), P (.obj (A_CASCADE_SECTIONS ↑y1))) (h5 : ∀ (y1 : Fin 4), P (.obj (A_FAULT_STATE ↑y1))) :
    Only P s (State.useDevice u d pay) := by
  with_reducible
    unfold State.useDevice
    repeat' first | assumption | apply Only.ite | apply State.holdDevice_only | apply State.recount_only | exact h1 _ | exact h3 _ | exact h4 _ | exact h5 _ | intro _ | dsimp only | split

theorem State.keepDevice_only {d : Nat} {pay : Bytes} (h : Only P s u) (h1 : P .naz) :
    Only P s (State.keepDevice u d pay) := by
  with_reducible
    unfold State.keepDevice
    repeat' first | assumption | apply State.modNaz_only | intro _ | dsimp only | split

theorem State.cyclicData_only (h : Only P s u) (h1 : P .freeCtr) (h2 : P (.obj (ST_GRANTS 4))) (h3 : P (.obj ST_MAX_WAIT)) (h4 : P (.obj ST_BUSY)) (h5 : P .port) :
    Only P s (State.cyclicData u) := by
  with_reducible
    unfold State.cyclicData
    repeat' first | assumption | apply Only.free | apply State.transfers_only | intro _ | exact Only.of_pair ‹_ = (_, _)› ‹_› | apply Only.of_pair ‹_ = (_, _)› | dsimp only | split

theorem State.takeCycle_only {pay : Bytes} (h : Only P s u) (h1 : P .naz) (h2 : P (.obj NZ_STATE)) (h3 : ∀ (y1 : Fin 4), P (.ax y1)) (h4 : ∀ (y1 : Fin 4), P (.obj (A_DEV_TORQUE ↑y1))) (h5 : ∀ (y1 : Fin 4), P (.obj (A_START_STAGE ↑y1))) (h6 : ∀ (y1 : Fin 48), P (.slot y1)) (h7 : ∀ (y1 : Fin 6) (y2 : Fin 3), P (.hb (hbOf y1 y2))) (h8 : ∀ (y1 : Fin 6) (y2 : Fin 3), P (.obj (S_GATE_I ↑(hbOf y1 y2)))) (h9 : ∀ (y1 : Fin 6), P (.sec y1)) (h10 : P .raised) (h11 : ∀ (y1 : Fin 4), P (.obj (A_REF_STATE ↑y1))) (h12 : ∀ (y1 : Fin 4), P (.obj (A_POS_REF ↑y1))) (h13 : ∀ (y1 : Fin 4), P (.obj (A_PROF_SPEED ↑y1))) (h14 : ∀ (y1 : Fin 4), P (.obj (A_PROF_ACCEL ↑y1))) (h15 : ∀ (y1 : Fin 4), P (.obj (A_FAULT_STATE ↑y1))) :
    Only P s (State.takeCycle u pay) := by
  with_reducible
    unfold State.takeCycle
    repeat' first | assumption | apply Only.ite | apply State.applyCycle_only | apply State.modNaz_only | exact h3 _ | exact h4 _ | exact h5 _ | exact h6 _ | exact h7 _ _ | exact h8 _ _ | exact h9 _ | exact h11 _ | exact h12 _ | exact h13 _ | exact h14 _ | exact h15 _ | intro _ | dsimp only | split

theorem State.acceptCyclic_only {kind : Nat} {src : Nat} {pay : Bytes} (h : Only P s u) (h1 : P .naz) (h2 : P (.obj NZ_STATE)) (h3 : ∀ (y1 : Fin 4), P (.ax y1)) (h4 : ∀ (y1 : Fin 4), P (.obj (A_DEV_TORQUE ↑y1))) (h5 : ∀ (y1 : Fin 4), P (.obj (A_START_STAGE ↑y1))) (h6 : ∀ (y1 : Fin 48), P (.slot y1)) (h7 : ∀ (y1 : Fin 6) (y2 : Fin 3), P (.hb (hbOf y1 y2))) (h8 : ∀ (y1 : Fin 6) (y2 : Fin 3), P (.obj (S_GATE_I ↑(hbOf y1 y2)))) (h9 : ∀ (y1 : Fin 6), P (.sec y1)) (h10 : P .raised) (h11 : ∀ (y1 : Fin 4), P (.obj (A_REF_STATE ↑y1))) (h12 : ∀ (y1 : Fin 4), P (.obj (A_POS_REF ↑y1))) (h13 : ∀ (y1 : Fin 4), P (.obj (A_PROF_SPEED ↑y1))) (h14 : ∀ (y1 : Fin 4), P (.obj (A_PROF_ACCEL ↑y1))) (h15 : ∀ (y1 : Fin 4), P (.obj (A_FAULT_STATE ↑y1))) (h16 : ∀ (y1 : Fin 4), P (.obj (A_SECTIONS ↑y1))) (h17 : ∀ (y1 : Fin 4), P (.obj (A_CASCADE_SECTIONS ↑y1))) (h18 : ∀ (y1 : Fin 4), P (.obj (A_FUS_CORR ↑y1))) (h19 : ∀ (y1 : Fin 4), P (.obj (A_FUS_DEV_DROPPED ↑y1))) (h20 : P .freeCtr) (h21 : P (.obj (ST_GRANTS 4))) (h22 : P (.obj ST_MAX_WAIT)) (h23 : P (.obj ST_BUSY)) (h24 : P .port) :
    Only P s (State.acceptCyclic u kind src pay) := by
  with_reducible
    unfold State.acceptCyclic
    repeat' first | assumption | apply Only.ite | apply State.applyAxis_only | apply State.cyclicData_only | apply State.keepMpos_only | apply State.takeCycle_only | apply State.useDevice_only | exact h3 _ | exact h4 _ | exact h5 _ | exact h6 _ | exact h7 _ _ | exact h8 _ _ | exact h9 _ | exact h11 _ | exact h12 _ | exact h13 _ | exact h14 _ | exact h15 _ | exact h16 _ | exact h17 _ | exact h18 _ | exact h19 _ | intro _ | dsimp only | split

theorem State.cyclic_only {kind : Nat} {src : Nat} {pay : Bytes} (h : Only P s u) (h1 : P .naz) (h2 : P (.obj NZ_STATE)) (h3 : ∀ (y1 : Fin 4), P (.ax y1)) (h4 : ∀ (y1 : Fin 4), P (.obj (A_DEV_TORQUE ↑y1))) (h5 : ∀ (y1 : Fin 4), P (.obj (A_START_STAGE ↑y1))) (h6 : ∀ (y1 : Fin 48), P (.slot y1)) (h7 : ∀ (y1 : Fin 6) (y2 : Fin 3), P (.hb (hbOf y1 y2))) (h8 : ∀ (y1 : Fin 6) (y2 : Fin 3), P (.obj (S_GATE_I ↑(hbOf y1 y2)))) (h9 : ∀ (y1 : Fin 6), P (.sec y1)) (h10 : P .raised) (h11 : ∀ (y1 : Fin 4), P (.obj (A_REF_STATE ↑y1))) (h12 : ∀ (y1 : Fin 4), P (.obj (A_POS_REF ↑y1))) (h13 : ∀ (y1 : Fin 4), P (.obj (A_PROF_SPEED ↑y1))) (h14 : ∀ (y1 : Fin 4), P (.obj (A_PROF_ACCEL ↑y1))) (h15 : ∀ (y1 : Fin 4), P (.obj (A_FAULT_STATE ↑y1))) (h16 : ∀ (y1 : Fin 4), P (.obj (A_SECTIONS ↑y1))) (h17 : ∀ (y1 : Fin 4), P (.obj (A_CASCADE_SECTIONS ↑y1))) (h18 : ∀ (y1 : Fin 4), P (.obj (A_FUS_CORR ↑y1))) (h19 : ∀ (y1 : Fin 4), P (.obj (A_FUS_DEV_DROPPED ↑y1))) (h20 : P .freeCtr) (h21 : P (.obj (ST_GRANTS 4))) (h22 : P (.obj ST_MAX_WAIT)) (h23 : P (.obj ST_BUSY)) (h24 : P .port) :
    Only P s (State.cyclic u kind src pay) := by
  with_reducible
    unfold State.cyclic
    repeat' first | assumption | apply Only.ite | apply State.acceptCyclic_only | apply State.modNaz_only | exact h3 _ | exact h4 _ | exact h5 _ | exact h6 _ | exact h7 _ _ | exact h8 _ _ | exact h9 _ | exact h11 _ | exact h12 _ | exact h13 _ | exact h14 _ | exact h15 _ | exact h16 _ | exact h17 _ | exact h18 _ | exact h19 _ | intro _ | dsimp only | split

theorem State.changeCycle_only (h : Only P s u) (h1 : P .naz) :
    Only P s (State.changeCycle u) := by
  with_reducible
    unfold State.changeCycle
    repeat' first | assumption | apply Only.ite | apply State.modNaz_only | intro _ | exact Only.of_pair ‹_ = (_, _)› ‹_› | apply Only.of_pair ‹_ = (_, _)› | dsimp only | split

theorem State.countMissing_only {before : Nat} (h : Only P s u) (h1 : P .naz) :
    Only P s (State.countMissing u before) := by
  with_reducible
    unfold State.countMissing
    repeat' first | assumption | apply Only.ite | apply State.modNaz_only | intro _ | dsimp only | split

theorem State.repeatFrames_only (h : Only P s u) (h1 : P .naz) (h2 : P .outs) :
    Only P s (State.repeatFrames u) := by
  with_reducible
    unfold State.repeatFrames
    repeat' first | assumption | apply Only.each | apply State.castSeq_only | apply State.modNaz_only | apply State.sendTx_only | intro _ | dsimp only | split

theorem State.masterCycle_only {T : Nat} {before : Nat} (h : Only P s u) (h1 : P .naz) (h2 : ∀ (y1 : Fin 4), P (.ax y1)) (h3 : P .outs) (h4 : ∀ (y1 : Fin 4), P (.obj (A_FUS_CORR ↑y1))) :
    Only P s (State.masterCycle u T before) := by
  with_reducible
    unfold State.masterCycle
    repeat' first | assumption | apply Only.modAx | apply Only.each | apply Only.ite | apply State.countMissing_only | apply State.freeze_only | apply State.repeatFrames_only | apply State.sendAxis_only | exact h2 _ | exact h4 _ | intro _ | dsimp only | split

theorem State.cycleBegins_only (h : Only P s u) (h1 : P .naz) (h2 : P (.obj NZ_STATE)) (h3 : P (.obj NZ_RING)) (h4 : P .raised) (h5 : ∀ (y1 : Fin 4), P (.ax y1)) (h6 : ∀ (y1 : Fin 4), P (.obj (A_DEV_TORQUE ↑y1))) (h7 : ∀ (y1 : Fin 4), P (.obj (A_START_STAGE ↑y1))) (h8 : ∀ (y1 : Fin 48), P (.slot y1)) (h9 : ∀ (y1 : Fin 6) (y2 : Fin 3), P (.hb (hbOf y1 y2))) (h10 : ∀ (y1 : Fin 6) (y2 : Fin 3), P (.obj (S_GATE_I ↑(hbOf y1 y2)))) (h11 : ∀ (y1 : Fin 6), P (.sec y1)) (h12 : ∀ (y1 : Fin 4), P (.obj (A_REF_STATE ↑y1))) (h13 : ∀ (y1 : Fin 4), P (.obj (A_POS_REF ↑y1))) (h14 : ∀ (y1 : Fin 4), P (.obj (A_PROF_SPEED ↑y1))) (h15 : ∀ (y1 : Fin 4), P (.obj (A_PROF_ACCEL ↑y1))) (h16 : ∀ (y1 : Fin 4), P (.obj (A_FAULT_STATE ↑y1))) (h17 : ∀ (y1 : Fin 4), P (.obj (A_MASTER_AGE ↑y1))) (h18 : P .outs) (h19 : ∀ (y1 : Fin 4), P (.obj (A_FUS_CORR ↑y1))) :
    Only P s (State.cycleBegins u) := by
  with_reducible
    unfold State.cycleBegins
    repeat' first | assumption | apply Only.set | apply Only.modAx | apply Only.each | apply Only.ite | apply State.applyCycle_only | apply State.applyMpos_only | apply State.changeCycle_only | apply State.jRing_only | apply State.masterCycle_only | apply State.modNaz_only | apply State.publishMpos_only | exact h5 _ | exact h6 _ | exact h7 _ | exact h8 _ | exact h9 _ _ | exact h10 _ _ | exact h11 _ | exact h12 _ | exact h13 _ | exact h14 _ | exact h15 _ | exact h16 _ | exact h17 _ | exact h19 _ | intro _ | exact Only.of_pair ‹_ = (_, _)› ‹_› | apply Only.of_pair ‹_ = (_, _)› | dsimp only | split

theorem State.stepToMaster_only {ref : Rat} {T : Nat} (h : Only P s u) (h1 : P .naz) (h2 : P (.obj NZ_STATE)) (h3 : P .clock) (h4 : P .tongs) (h5 : ∀ (y1 : Fin 6), P (.sec y1)) (h6 : ∀ (y1 : Fin 18), P (.hb y1)) (h7 : ∀ (y1 : Fin 2), P (.enc y1)) (h8 : ∀ (y1 : Fin 4), P (.ax y1)) (h9 : ∀ (y1 : Fin 4), P (.gen y1)) (h10 : ∀ (y1 : Nat), P (.obj (SS_LOCK_EXPIRY y1))) (h11 : ∀ (y1 : Fin 6) (y2 : Fin 3), P (.obj (S_GATE_I ↑(hbOf y1 y2)))) (h12 : ∀ (y1 : Fin 6), P (.obj (S_TMIN_RAISE ↑y1))) (h13 : ∀ (y1 : Fin 6), P (.obj (S_PULSE_SUPPRESS ↑y1))) (h14 : ∀ (y1 : Fin 6), P (.obj (S_CMP_ACTIVE ↑y1))) (h15 : P (.obj TB_STEPS)) (h16 : P (.obj TB_LAST_STEP)) (h17 : P .raised) :
    Only P s (State.stepToMaster u ref T) := by
  with_reducible
    unfold State.stepToMaster
    repeat' first | assumption | apply Only.set | apply Only.ite | apply State.modNaz_only | apply State.stepTimebase_only | exact h5 _ | exact h6 _ | exact h7 _ | exact h8 _ | exact h9 _ | exact h10 _ | exact h11 _ _ | exact h12 _ | exact h13 _ | exact h14 _ | intro _ | exact Only.of_pair ‹_ = (_, _)› ‹_› | apply Only.of_pair ‹_ = (_, _)› | dsimp only | split

theorem State.syncJudge_only {off : Rat} (h : Only P s u) (h1 : P (.obj NZ_OFFSET)) (h2 : P .freeCtr) (h3 : P (.obj NZ_RATE)) (h4 : P .naz) (h5 : P (.obj NZ_SYNC)) (h6 : P .raised) :
    Only P s (State.syncJudge u off) := by
  with_reducible
    unfold State.syncJudge
    repeat' first | assumption | apply Only.set | apply Only.free | apply Only.ite | apply State.jNaz_only | apply State.modNaz_only | intro _ | exact Only.of_pair ‹_ = (_, _)› ‹_› | apply Only.of_pair ‹_ = (_, _)› | dsimp only | split

theorem State.cycleFrame_only {p : Fin 2} {src : Nat} {pay : Bytes} {serial : Nat} (h : Only P s u) (h1 : P .naz) (h2 : P (.obj NZ_STATE)) (h3 : P .clock) (h4 : P .tongs) (h5 : ∀ (y1 : Fin 6), P (.sec y1)) (h6 : ∀ (y1 : Fin 18), P (.hb y1)) (h7 : ∀ (y1 : Fin 2), P (.enc y1)) (h8 : ∀ (y1 : Fin 4), P (.ax y1)) (h9 : ∀ (y1 : Fin 4), P (.gen y1)) (h10 : ∀ (y1 : Nat), P (.obj (SS_LOCK_EXPIRY y1))) (h11 : ∀ (y1 : Fin 6) (y2 : Fin 3), P (.obj (S_GATE_I ↑(hbOf y1 y2)))) (h12 : ∀ (y1 : Fin 6), P (.obj (S_TMIN_RAISE ↑y1))) (h13 : ∀ (y1 : Fin 6), P (.obj (S_PULSE_SUPPRESS ↑y1))) (h14 : ∀ (y1 : Fin 6), P (.obj (S_CMP_ACTIVE ↑y1))) (h15 : P (.obj TB_STEPS)) (h16 : P (.obj TB_LAST_STEP)) (h17 : P .raised) (h18 : P (.obj NZ_OFFSET)) (h19 : P .freeCtr) (h20 : P (.obj NZ_RATE)) (h21 : P (.obj NZ_SYNC)) (h22 : P (.obj NZ_MASTER)) (h23 : P .routes) (h24 : P (.obj SS_COUNT)) (h25 : P (.obj SS_GUAR_SUM)) (h26 : P (.obj SS_ROUTES)) (h27 : P .flights) (h28 : P .outs) (h29 : P (.can 0)) (h30 : P (.can 1)) (h31 : P .sessions) (h32 : P .hostOut) (h33 : P .best) (h34 : P .bestAt) (h35 : ∀ (y1 : Fin 48), P (.slot y1)) (h36 : P .txs) (h37 : P (.obj TX_OPEN_COUNT)) (h38 : P (.obj TX_PROOF_USED)) (h39 : P (.obj TX_ABORTS)) (h40 : P (.obj C_CLAIM)) (h41 : P (.obj C_OWNER)) (h42 : ∀ (y1 : Fin 4), P (.obj (G_STATE ↑y1))) (h43 : ∀ (y1 : Fin 4), P (.obj (G_VALUE ↑y1))) (h44 : P .cap) (h45 : P (.obj C_STATE)) (h46 : P (.obj C_VERSION)) (h47 : Covers P configParts) (h48 : P (.obj SF_CFG_STATE)) (h49 : P (.obj SF_COMMISSION)) (h50 : P (.obj SF_CFG_SEAL)) (h51 : P (.obj SF_CFG_OWNER)) (h52 : P (.obj SF_LAST_CODE)) (h53 : P .rereading) (h54 : P .freed) (h55 : P .queue) (h56 : P (.obj NZ_STANDBY)) (h57 : ∀ (y1 : Fin 4), P (.obj (A_DEV_TORQUE ↑y1))) (h58 : ∀ (y1 : Fin 4), P (.obj (A_START_STAGE ↑y1))) (h59 : ∀ (y1 : Fin 4), P (.obj (A_REF_STATE ↑y1))) (h60 : ∀ (y1 : Fin 4), P (.obj (A_POS_REF ↑y1))) (h61 : ∀ (y1 : Fin 4), P (.obj (A_PROF_SPEED ↑y1))) (h62 : ∀ (y1 : Fin 4), P (.obj (A_PROF_ACCEL ↑y1))) (h63 : ∀ (y1 : Fin 4), P (.obj (A_FAULT_STATE ↑y1))) (h64 : ∀ (y1 : Fin 4), P (.obj (A_SECTIONS ↑y1))) (h65 : ∀ (y1 : Fin 4), P (.obj (A_CASCADE_SECTIONS ↑y1))) (h66 : ∀ (y1 : Fin 4), P (.obj (A_FUS_CORR ↑y1))) (h67 : ∀ (y1 : Fin 4), P (.obj (A_FUS_DEV_DROPPED ↑y1))) (h68 : P (.obj (ST_GRANTS 4))) (h69 : P (.obj ST_MAX_WAIT)) (h70 : P (.obj ST_BUSY)) (h71 : P .port) (h72 : P (.obj NZ_LATE)) :
    Only P s (State.cycleFrame u p src pay serial) := by
  with_reducible
    unfold State.cycleFrame
    repeat' first | assumption | apply Only.set | apply Only.inc | apply Only.ite | apply State.cyclic_only | apply State.dropRoutes_only | apply State.modNaz_only | apply State.stepToMaster_only | apply State.syncJudge_only | exact h5 _ | exact h6 _ | exact h7 _ | exact h8 _ | exact h9 _ | exact h10 _ | exact h11 _ _ | exact h12 _ | exact h13 _ | exact h14 _ | exact h35 _ | exact h42 _ | exact h43 _ | exact h57 _ | exact h58 _ | exact h59 _ | exact h60 _ | exact h61 _ | exact h62 _ | exact h63 _ | exact h64 _ | exact h65 _ | exact h66 _ | exact h67 _ | intro _ | dsimp only | split

/-! ### Can -/

theorem State.jCan_only {b : Fin 2} {detail : Nat} {word : Nat} (h : Only P s u) (h1 : P .raised) :
    Only P s (State.jCan u b detail word) := by
  with_reducible
    unfold State.jCan
    repeat' first | assumption | apply Only.journal | intro _ | dsimp only | split

theorem State.giveBack_only {b : Fin 2} {e : Nat} {status : Nat} (h : Only P s u) (h1 : P (.obj (CB_Q_STATUS (↑b) e))) (h2 : P (.obj (CB_Q_OWNER (↑b) e))) (h3 : P (.can b)) :
    Only P s (State.giveBack u b e status) := by
  with_reducible
    unfold State.giveBack
    repeat' first | assumption | apply Only.set | apply Only.modCan | intro _ | dsimp only | split

theorem State.giveAll_only {b : Fin 2} {status : Nat} (h : Only P s u) (h1 : ∀ (y1 : Nat), P (.obj (CB_Q_STATUS (↑b) y1))) (h2 : ∀ (y1 : Nat), P (.obj (CB_Q_OWNER (↑b) y1))) (h3 : P (.can b)) :
    Only P s (State.giveAll u b status) := by
  with_reducible
    unfold State.giveAll
    repeat' first | assumption | apply Only.each | apply State.giveBack_only | exact h1 _ | exact h2 _ | intro _ | dsimp only | split

theorem State.openCanSession_only {b : Fin 2} (h : Only P s u) (h1 : P .sessions) (h2 : P .best) (h3 : P .bestAt) (h4 : P (.obj SS_COUNT)) (h5 : P (.obj SS_GUAR_SUM)) (h6 : P (.obj SS_ROUTES)) (h7 : P .raised) :
    Only P s (State.openCanSession u b) := by
  with_reducible
    unfold State.openCanSession
    repeat' first | assumption | apply Only.ite | apply State.addSession_only | apply State.jSess_only | apply State.settleTokens_only | intro _ | dsimp only | split

theorem State.preOperational_only {b : Fin 2} (h : Only P s u) (h1 : P (.obj (CB_NMT_STATE ↑b))) (h2 : P (.can b)) :
    Only P s (State.preOperational u b) := by
  with_reducible
    unfold State.preOperational
    repeat' first | assumption | apply Only.set | apply State.engineSend_only | intro _ | dsimp only | split

theorem State.busFree_only {b : Fin 2} (h : Only P s u) (h1 : P (.can b)) :
    Only P s (State.busFree u b) := by
  with_reducible
    unfold State.busFree
    repeat' first | assumption | apply Only.modCan | intro _ | dsimp only | split

theorem State.canMode_only {b : Fin 2} {v : Nat} (h : Only P s u) (h1 : P (.can b)) (h2 : ∀ (y1 : Nat), P (.obj (CB_Q_STATUS (↑b) y1))) (h3 : ∀ (y1 : Nat), P (.obj (CB_Q_OWNER (↑b) y1))) (h4 : P (.obj (CB_STATE ↑b))) (h5 : P (.obj (PW_DOM_STATE (114 + ↑b)))) (h6 : P .power) (h7 : P (.obj PW_DAMP_QUEUE)) (h8 : P (.obj PW_DAMP_MAX_Q)) (h9 : ∀ (y1 : Nat), P (.obj (IS_STATE y1))) :
    Only P s (State.canMode u b v) := by
  with_reducible
    unfold State.canMode
    repeat' first | assumption | apply Only.set | apply Only.modCan | apply Only.ite | apply State.giveAll_only | apply State.sleep_only | exact h2 _ | exact h3 _ | exact h9 _ | intro _ | dsimp only | split

theorem State.canModeWrite_only {b : Fin 2} {v : Nat} (h : Only P s u) (h1 : P (.obj (CB_MODE ↑b))) (h2 : P (.can b)) (h3 : P .power) (h4 : P (.obj (PW_DOM_STATE (114 + ↑b)))) (h5 : P (.obj PW_DAMP_QUEUE)) (h6 : P (.obj PW_DAMP_MAX_Q)) (h7 : ∀ (y1 : Nat), P (.obj (CB_Q_STATUS (↑b) y1))) (h8 : ∀ (y1 : Nat), P (.obj (CB_Q_OWNER (↑b) y1))) (h9 : P (.obj (CB_STATE ↑b))) (h10 : ∀ (y1 : Nat), P (.obj (IS_STATE y1))) :
    Only P s (State.canModeWrite u b v) := by
  with_reducible
    unfold State.canModeWrite
    repeat' first | assumption | apply Only.set | apply Only.modCan | apply Only.ite | apply State.canMode_only | apply State.wake_only | exact h7 _ | exact h8 _ | exact h10 _ | intro _ | dsimp only | split

theorem State.activeOrPassive_only {b : Fin 2} (h : Only P s u) (h1 : P (.obj (CB_STATE ↑b))) (h2 : P .raised) :
    Only P s (State.activeOrPassive u b) := by
  with_reducible
    unfold State.activeOrPassive
    repeat' first | assumption | apply Only.set | apply Only.ite | apply State.jCan_only | intro _ | dsimp only | split

theorem State.busOff_only {b : Fin 2} (h : Only P s u) (h1 : P (.obj (CB_STATE ↑b))) (h2 : P (.obj (CB_BUSOFF_COUNT ↑b))) (h3 : P .raised) (h4 : ∀ (y1 : Nat), P (.obj (CB_Q_STATUS (↑b) y1))) (h5 : ∀ (y1 : Nat), P (.obj (CB_Q_OWNER (↑b) y1))) (h6 : P (.can b)) (h7 : P .sessions) (h8 : P .best) (h9 : P .bestAt) (h10 : ∀ (y1 : Fin 48), P (.slot y1)) (h11 : P .txs) (h12 : P (.obj TX_OPEN_COUNT)) (h13 : P (.obj TX_PROOF_USED)) (h14 : P (.obj TX_ABORTS)) (h15 : P .naz) (h16 : P .outs) (h17 : P (.obj C_CLAIM)) (h18 : P (.obj C_OWNER)) (h19 : ∀ (y1 : Fin 4), P (.obj (G_STATE ↑y1))) (h20 : ∀ (y1 : Fin 4), P (.obj (G_VALUE ↑y1))) (h21 : ∀ (y1 : Fin 4), P (.gen y1)) (h22 : P .freeCtr) (h23 : P .cap) (h24 : P (.obj C_STATE)) (h25 : P (.obj C_VERSION)) (h26 : Covers P configParts) (h27 : P (.obj SF_CFG_STATE)) (h28 : P (.obj SF_COMMISSION)) (h29 : P (.obj SF_CFG_SEAL)) (h30 : P (.obj SF_CFG_OWNER)) (h31 : P (.obj SF_LAST_CODE)) (h32 : P .rereading) (h33 : P .freed) (h34 : P .queue) (h35 : P .flights) (h36 : P .routes) (h37 : P (.obj SS_COUNT)) (h38 : P (.obj SS_GUAR_SUM)) (h39 : P (.obj SS_ROUTES)) :
    Only P s (State.busOff u b) := by
  with_reducible
    unfold State.busOff
    repeat' first | assumption | apply Only.set | apply Only.inc | apply Only.modCan | apply State.endSession_only | apply State.giveAll_only | apply State.jCan_only | exact h4 _ | exact h5 _ | exact h10 _ | exact h19 _ | exact h20 _ | exact h21 _ | intro _ | dsimp only | split

theorem State.canState_only {b : Fin 2} (h : Only P s u) (h1 : P (.obj (CB_STATE ↑b))) (h2 : P (.obj (CB_BUSOFF_COUNT ↑b))) (h3 : P .raised) (h4 : ∀ (y1 : Nat), P (.obj (CB_Q_STATUS (↑b) y1))) (h5 : ∀ (y1 : Nat), P (.obj (CB_Q_OWNER (↑b) y1))) (h6 : P (.can b)) (h7 : P .sessions) (h8 : P .best) (h9 : P .bestAt) (h10 : ∀ (y1 : Fin 48), P (.slot y1)) (h11 : P .txs) (h12 : P (.obj TX_OPEN_COUNT)) (h13 : P (.obj TX_PROOF_USED)) (h14 : P (.obj TX_ABORTS)) (h15 : P .naz) (h16 : P .outs) (h17 : P (.obj C_CLAIM)) (h18 : P (.obj C_OWNER)) (h19 : ∀ (y1 : Fin 4), P (.obj (G_STATE ↑y1))) (h20 : ∀ (y1 : Fin 4), P (.obj (G_VALUE ↑y1))) (h21 : ∀ (y1 : Fin 4), P (.gen y1)) (h22 : P .freeCtr) (h23 : P .cap) (h24 : P (.obj C_STATE)) (h25 : P (.obj C_VERSION)) (h26 : Covers P configParts) (h27 : P (.obj SF_CFG_STATE)) (h28 : P (.obj SF_COMMISSION)) (h29 : P (.obj SF_CFG_SEAL)) (h30 : P (.obj SF_CFG_OWNER)) (h31 : P (.obj SF_LAST_CODE)) (h32 : P .rereading) (h33 : P .freed) (h34 : P .queue) (h35 : P .flights) (h36 : P .routes) (h37 : P (.obj SS_COUNT)) (h38 : P (.obj SS_GUAR_SUM)) (h39 : P (.obj SS_ROUTES)) :
    Only P s (State.canState u b) := by
  with_reducible
    unfold State.canState
    repeat' first | assumption | apply Only.set | apply Only.ite | apply State.activeOrPassive_only | apply State.busOff_only | exact h4 _ | exact h5 _ | exact h10 _ | exact h19 _ | exact h20 _ | exact h21 _ | intro _ | dsimp only | split

theorem State.frameFailed_only {b : Fin 2} {q : Option (Fin 64)} (h : Only P s u) (h1 : ∀ (y1 : Fin 64), P (.obj (CB_Q_STATUS ↑b ↑y1))) (h2 : ∀ (y1 : Fin 64), P (.obj (CB_Q_OWNER ↑b ↑y1))) (h3 : P (.can b)) :
    Only P s (State.frameFailed u b q) := by
  with_reducible
    unfold State.frameFailed
    repeat' first | assumption | apply Only.ite | apply State.giveBack_only | exact h1 _ | exact h2 _ | intro _ | exact Only.of_pair ‹_ = (_, _)› ‹_› | apply Only.of_pair ‹_ = (_, _)› | dsimp only | split

theorem State.canRecover_only {b : Fin 2} (h : Only P s u) (h1 : P (.obj (CB_STATE ↑b))) :
    Only P s (State.canRecover u b) := by
  with_reducible
    unfold State.canRecover
    repeat' first | assumption | apply Only.set | apply Only.ite | intro _ | dsimp only | split

theorem State.recOk_only {b : Fin 2} (h : Only P s u) (h1 : P .freeCtr) (h2 : P (.obj (CB_REC ↑b))) :
    Only P s (State.recOk u b) := by
  with_reducible
    unfold State.recOk
    repeat' first | assumption | apply Only.set | apply Only.free | apply Only.ite | intro _ | exact Only.of_pair ‹_ = (_, _)› ‹_› | apply Only.of_pair ‹_ = (_, _)› | dsimp only | split

theorem State.qAck_only {b : Fin 2} {e : Nat} (h : Only P s u) (h1 : P (.obj (CB_Q_OWNER (↑b) e))) (h2 : P (.obj (CB_Q_STATUS (↑b) e))) (h3 : P (.can b)) :
    Only P s (State.qAck u b e) := by
  with_reducible
    unfold State.qAck
    repeat' first | assumption | apply Only.set | apply Only.modCan | intro _ | dsimp only | split

theorem State.qAbort_only {b : Fin 2} {e : Fin 64} (h : Only P s u) (h1 : P .freeCtr) (h2 : P (.can b)) (h3 : P (.obj (CB_Q_STATUS ↑b ↑e))) (h4 : P (.obj (CB_Q_OWNER ↑b ↑e))) :
    Only P s (State.qAbort u b e) := by
  with_reducible
    unfold State.qAbort
    repeat' first | assumption | apply Only.modCan | apply Only.free | apply Only.ite | apply State.giveBack_only | intro _ | exact Only.of_pair ‹_ = (_, _)› ‹_› | apply Only.of_pair ‹_ = (_, _)› | dsimp only | split

theorem State.nmt_only {b : Fin 2} {node : Nat} {f : State → State} (h : Only P s u) (hkf : ∀ v, Only P s v → Only P s (f v)) :
    Only P s (State.nmt u b node f) := by
  with_reducible
    unfold State.nmt
    repeat' first | assumption | apply Only.ite | apply hkf | intro _ | dsimp only | split

end Sys2Proof.Safety
end

