-- ==== Sys2Proof/Laws/OnlyDevice.lean ====
section
/-! SUPPORT. Frames of the operations of supplies, the dictionary, firmware and single requests: the parts of the state that each may change. -/

set_option linter.all false

namespace Sys2Proof.Safety
open Sys2Proof.Machine Sys2Proof.Machine.Obj

variable {P : Part → Prop} {s u : State}

/-! ### Power -/

theorem State.channelFault_only {c : Fin 2} (h : Only P s u) (h1 : P .tongs) (h2 : P .latch) (h3 : ∀ (y1 : Fin 4), P (.obj (A_MD_DUTY ↑y1))) (h4 : ∀ (y1 : Fin 4), P (.obj (A_MD_NOW ↑y1))) (h5 : ∀ (y1 : Fin 6), P (.obj (S_ENABLE ↑y1))) (h6 : P (.obj S_BLW_ACTIVE)) (h7 : ∀ (y1 : Fin 6), P (.sec y1)) (h8 : ∀ (y1 : Fin 6), P (.obj (S_STATE ↑y1))) (h9 : ∀ (y1 : Fin 6), P (.obj (S_DEG_PHASE ↑y1))) (h10 : ∀ (y1 : Fin 6), P (.obj (S_STEP ↑y1))) (h11 : ∀ (y1 : Fin 6), P (.obj (S_FUS_STATE ↑y1))) (h12 : ∀ (y1 : Fin 6), P (.obj (S_LOCK_STATE ↑y1))) (h13 : P .raised) (h14 : ∀ (y1 : Fin 4), P (.obj (A_SECTIONS ↑y1))) (h15 : ∀ (y1 : Fin 4), P (.obj (A_CASCADE_SECTIONS ↑y1))) (h16 : ∀ (y1 : Fin 4), P (.ax y1)) (h17 : ∀ (y1 : Fin 4), P (.obj (A_FAULT_STATE ↑y1))) (h18 : ∀ (y1 : Fin 4), P (.obj (A_RENDER_STATE ↑y1))) (h19 : ∀ (y1 : Fin 4), P (.obj (A_POS_REF ↑y1))) (h20 : ∀ (y1 : Fin 4), P (.obj (A_PROF_SPEED ↑y1))) (h21 : ∀ (y1 : Fin 4), P (.obj (A_PROF_ACCEL ↑y1))) (h22 : ∀ (y1 : Fin 4), P (.obj (A_PROF_STATE ↑y1))) (h23 : P (.obj SF_BRAKE_OPEN)) (h24 : ∀ (y1 : Fin 18), P (.hb y1)) (h25 : ∀ (y1 : Fin 18), P (.obj (S_GATE_I ↑y1))) (h26 : ∀ (y1 : Fin 4), P (.obj (A_START_STAGE ↑y1))) (h27 : ∀ (y1 : Fin 48), P (.slot y1)) (h28 : ∀ (y1 : Fin 4), P (.obj (SF_STATE ↑y1))) (h29 : P .freeCtr) (h30 : P (.obj SF_LAST_CODE)) (h31 : P (.obj SF_XC_COUNT)) (h32 : P .leftZero) (h33 : P (.obj SF_OUTPUTS)) (h34 : P (.obj SF_CH_FAULT)) (h35 : P (.obj SF_TG_STATE)) (h36 : ∀ (y1 : Fin 4), P (.obj (SF_REQ_SAFE ↑y1))) (h37 : ∀ (y1 : Fin 4), P (.obj (SF_STATUS ↑y1))) (h38 : ∀ (y1 : Fin 4), P (.obj (SF_SPEED_A ↑y1))) (h39 : ∀ (y1 : Fin 4), P (.obj (SF_SPEED_B ↑y1))) (h40 : ∀ (y1 : Fin 4), P (.obj (SF_POS_A ↑y1))) (h41 : ∀ (y1 : Fin 4), P (.obj (SF_POS_B ↑y1))) (h42 : ∀ (y1 : Fin 4), P (.obj (SF_SOS_POS ↑y1))) (h43 : ∀ (y1 : Fin 4), P (.obj (SF_CAUSE ↑y1))) (h44 : ∀ (y1 : Fin 4), P (.obj (A_REF_STATE ↑y1))) :
    Only P s (State.channelFault u c) := by
  with_reducible
    unfold State.channelFault
    repeat' first | assumption | apply Only.set | apply Only.inc | apply Only.each | apply Only.ite | apply State.jTongsDevice_only | apply State.modChan_only | apply State.syncTongs_only | apply State.toSafe_only | exact h3 _ | exact h4 _ | exact h5 _ | exact h7 _ | exact h8 _ | exact h9 _ | exact h10 _ | exact h11 _ | exact h12 _ | exact h14 _ | exact h15 _ | exact h16 _ | exact h17 _ | exact h18 _ | exact h19 _ | exact h20 _ | exact h21 _ | exact h22 _ | exact h24 _ | exact h25 _ | exact h26 _ | exact h27 _ | exact h28 _ | exact h36 _ | exact h37 _ | exact h38 _ | exact h39 _ | exact h40 _ | exact h41 _ | exact h42 _ | exact h43 _ | exact h44 _ | intro _ | exact Only.of_pair ‹_ = (_, _)› ‹_› | apply Only.of_pair ‹_ = (_, _)› | dsimp only | split

theorem State.stopIsland_only {n : Nat} (h : Only P s u) (h1 : P .power) :
    Only P s (State.stopIsland u n) := by
  with_reducible
    unfold State.stopIsland
    repeat' first | assumption | apply Only.ite | apply State.modPower_only | intro _ | dsimp only | split

theorem State.faultOutcome_only {n : Nat} (h : Only P s u) (h1 : ∀ (y1 : Fin 6), P (.sec y1)) (h2 : P (.obj S_BLW_ACTIVE)) (h3 : ∀ (y1 : Fin 6), P (.obj (S_ENABLE ↑y1))) (h4 : ∀ (y1 : Fin 6), P (.obj (S_STATE ↑y1))) (h5 : ∀ (y1 : Fin 6), P (.obj (S_DEG_PHASE ↑y1))) (h6 : ∀ (y1 : Fin 6), P (.obj (S_STEP ↑y1))) (h7 : ∀ (y1 : Fin 6), P (.obj (S_FUS_STATE ↑y1))) (h8 : ∀ (y1 : Fin 6), P (.obj (S_LOCK_STATE ↑y1))) (h9 : ∀ (y1 : Fin 4), P (.obj (A_SECTIONS ↑y1))) (h10 : ∀ (y1 : Fin 4), P (.obj (A_CASCADE_SECTIONS ↑y1))) (h11 : ∀ (y1 : Fin 4), P (.ax y1)) (h12 : P .raised) (h13 : ∀ (y1 : Fin 4), P (.obj (A_FAULT_STATE ↑y1))) (h14 : ∀ (y1 : Fin 6), P (.obj (S_Q_LAST ↑y1))) (h15 : ∀ (y1 : Fin 18), P (.hb y1)) (h16 : ∀ (y1 : Fin 18), P (.obj (S_GATE_I ↑y1))) (h17 : P (.obj S_DEV_FAULT)) (h18 : ∀ (y1 : Fin 48), P (.slot y1)) (h19 : P .lanes) (h20 : P (.obj (PW_DOM_STATE (72 + (n - 6))))) (h21 : P .power) (h22 : P (.obj PW_DAMP_QUEUE)) (h23 : P (.obj PW_DAMP_MAX_Q)) (h24 : ∀ (y1 : Nat), P (.obj (IS_STATE y1))) (h25 : P (.obj K_SPARE_AVAIL)) (h26 : ∀ (y1 : Nat), P (.obj (K_LANE_MAP y1))) (h27 : ∀ (y1 : Nat), P (.obj (K_LANE_STATE y1))) (h28 : ∀ (y1 : Nat), P (.obj (PW_DOM_STATE y1))) (h29 : ∀ (y1 : Fin 4), P (.obj (G_STATE ↑y1))) (h30 : ∀ (y1 : Fin 4), P (.obj (G_VALUE ↑y1))) (h31 : ∀ (y1 : Fin 4), P (.gen y1)) (h32 : ∀ (y1 : Nat), P (.obj (A_FAULT_STATE y1))) (h33 : ∀ (y1 : Fin 4), P (.obj (A_FUS_VALID ↑y1))) (h34 : ∀ (y1 : Fin 4), P (.obj (A_START_STAGE ↑y1))) (h35 : P .tongs) (h36 : P .latch) (h37 : ∀ (y1 : Fin 4), P (.obj (A_MD_DUTY ↑y1))) (h38 : ∀ (y1 : Fin 4), P (.obj (A_MD_NOW ↑y1))) (h39 : ∀ (y1 : Fin 4), P (.obj (A_RENDER_STATE ↑y1))) (h40 : ∀ (y1 : Fin 4), P (.obj (A_POS_REF ↑y1))) (h41 : ∀ (y1 : Fin 4), P (.obj (A_PROF_SPEED ↑y1))) (h42 : ∀ (y1 : Fin 4), P (.obj (A_PROF_ACCEL ↑y1))) (h43 : ∀ (y1 : Fin 4), P (.obj (A_PROF_STATE ↑y1))) (h44 : P (.obj SF_BRAKE_OPEN)) (h45 : ∀ (y1 : Fin 4), P (.obj (SF_STATE ↑y1))) (h46 : P .freeCtr) (h47 : P (.obj SF_LAST_CODE)) (h48 : P (.obj SF_XC_COUNT)) (h49 : P .leftZero) (h50 : P (.obj SF_OUTPUTS)) (h51 : P (.obj SF_CH_FAULT)) (h52 : P (.obj SF_TG_STATE)) (h53 : ∀ (y1 : Fin 4), P (.obj (SF_REQ_SAFE ↑y1))) (h54 : ∀ (y1 : Fin 4), P (.obj (SF_STATUS ↑y1))) (h55 : ∀ (y1 : Fin 4), P (.obj (SF_SPEED_A ↑y1))) (h56 : ∀ (y1 : Fin 4), P (.obj (SF_SPEED_B ↑y1))) (h57 : ∀ (y1 : Fin 4), P (.obj (SF_POS_A ↑y1))) (h58 : ∀ (y1 : Fin 4), P (.obj (SF_POS_B ↑y1))) (h59 : ∀ (y1 : Fin 4), P (.obj (SF_SOS_POS ↑y1))) (h60 : ∀ (y1 : Fin 4), P (.obj (SF_CAUSE ↑y1))) (h61 : ∀ (y1 : Fin 4), P (.obj (A_REF_STATE ↑y1))) (h62 : ∀ (y1 : Fin 2), P (.obj (A_ENC_STATUS ↑y1))) (h63 : P (.enc 0)) (h64 : P (.enc 1)) (h65 : P (.obj (NP_LINK 0))) (h66 : P (.obj (NP_LINK 1))) (h67 : ∀ (y1 : Fin 2), P (.obj (CB_STATE ↑y1))) (h68 : ∀ (y1 : Fin 2), P (.obj (CB_BUSOFF_COUNT ↑y1))) (h69 : ∀ (y1 : Fin 2) (y2 : Nat), P (.obj (CB_Q_STATUS (↑y1) y2))) (h70 : ∀ (y1 : Fin 2) (y2 : Nat), P (.obj (CB_Q_OWNER (↑y1) y2))) (h71 : P (.can 0)) (h72 : P .sessions) (h73 : P .best) (h74 : P .bestAt) (h75 : P .txs) (h76 : P (.obj TX_OPEN_COUNT)) (h77 : P (.obj TX_PROOF_USED)) (h78 : P (.obj TX_ABORTS)) (h79 : P .naz) (h80 : P .outs) (h81 : P (.obj C_CLAIM)) (h82 : P (.obj C_OWNER)) (h83 : P .cap) (h84 : P (.obj C_STATE)) (h85 : P (.obj C_VERSION)) (h86 : Covers P configParts) (h87 : P (.obj SF_CFG_STATE)) (h88 : P (.obj SF_COMMISSION)) (h89 : P (.obj SF_CFG_SEAL)) (h90 : P (.obj SF_CFG_OWNER)) (h91 : P .rereading) (h92 : P .freed) (h93 : P .queue) (h94 : P .flights) (h95 : P .routes) (h96 : P (.obj SS_COUNT)) (h97 : P (.obj SS_GUAR_SUM)) (h98 : P (.obj SS_ROUTES)) (h99 : P (.can 1)) (h100 : ∀ (y1 : Fin 2), P (.obj (NZ_CODE_ERR ↑y1))) (h101 : ∀ (y1 : Fin 2), P (.obj (NZ_LINK ↑y1))) (h102 : ∀ (y1 : Fin 2), P (.obj (NZ_LINK_DOWNS ↑y1))) (h103 : P (.obj NZ_RING)) (h104 : P (.obj NZ_STATE)) :
    Only P s (State.faultOutcome u n) := by
  with_reducible
    unfold State.faultOutcome
    repeat' first | assumption | apply Only.set | apply Only.each | apply Only.ite | apply State.busOff_only | apply State.channelFault_only | apply State.claimEnd_only | apply State.encoderFault_only | apply State.failLane_only | apply State.isolateHeld_only | apply State.jClock_only | apply State.linkDown_only | apply State.runningEnds_only | apply State.stopIsland_only | exact h1 _ | exact h3 _ | exact h4 _ | exact h5 _ | exact h6 _ | exact h7 _ | exact h8 _ | exact h9 _ | exact h10 _ | exact h11 _ | exact h13 _ | exact h14 _ | exact h15 _ | exact h16 _ | exact h18 _ | exact h24 _ | exact h26 _ | exact h27 _ | exact h28 _ | exact h29 _ | exact h30 _ | exact h31 _ | exact h32 _ | exact h33 _ | exact h34 _ | exact h37 _ | exact h38 _ | exact h39 _ | exact h40 _ | exact h41 _ | exact h42 _ | exact h43 _ | exact h45 _ | exact h53 _ | exact h54 _ | exact h55 _ | exact h56 _ | exact h57 _ | exact h58 _ | exact h59 _ | exact h60 _ | exact h61 _ | exact h62 _ | exact h67 _ | exact h68 _ | exact h69 _ _ | exact h70 _ _ | exact h100 _ | exact h101 _ | exact h102 _ | intro _ | exact Only.of_pair ‹_ = (_, _)› ‹_› | apply Only.of_pair ‹_ = (_, _)› | dsimp only | split

theorem State.islandFault_only {n : Nat} {kind : Nat} (h : Only P s u) (h1 : P (.obj (IS_FAULTS n))) (h2 : ∀ (y1 : Fin 6), P (.sec y1)) (h3 : P (.obj S_BLW_ACTIVE)) (h4 : ∀ (y1 : Fin 6), P (.obj (S_ENABLE ↑y1))) (h5 : ∀ (y1 : Fin 6), P (.obj (S_STATE ↑y1))) (h6 : ∀ (y1 : Fin 6), P (.obj (S_DEG_PHASE ↑y1))) (h7 : ∀ (y1 : Fin 6), P (.obj (S_STEP ↑y1))) (h8 : ∀ (y1 : Fin 6), P (.obj (S_FUS_STATE ↑y1))) (h9 : ∀ (y1 : Fin 6), P (.obj (S_LOCK_STATE ↑y1))) (h10 : ∀ (y1 : Fin 4), P (.obj (A_SECTIONS ↑y1))) (h11 : ∀ (y1 : Fin 4), P (.obj (A_CASCADE_SECTIONS ↑y1))) (h12 : ∀ (y1 : Fin 4), P (.ax y1)) (h13 : P .raised) (h14 : ∀ (y1 : Fin 4), P (.obj (A_FAULT_STATE ↑y1))) (h15 : ∀ (y1 : Fin 6), P (.obj (S_Q_LAST ↑y1))) (h16 : ∀ (y1 : Fin 18), P (.hb y1)) (h17 : ∀ (y1 : Fin 18), P (.obj (S_GATE_I ↑y1))) (h18 : P (.obj S_DEV_FAULT)) (h19 : ∀ (y1 : Fin 48), P (.slot y1)) (h20 : P .lanes) (h21 : P (.obj (PW_DOM_STATE (72 + (n - 6))))) (h22 : P .power) (h23 : P (.obj PW_DAMP_QUEUE)) (h24 : P (.obj PW_DAMP_MAX_Q)) (h25 : ∀ (y1 : Nat), P (.obj (IS_STATE y1))) (h26 : P (.obj K_SPARE_AVAIL)) (h27 : ∀ (y1 : Nat), P (.obj (K_LANE_MAP y1))) (h28 : ∀ (y1 : Nat), P (.obj (K_LANE_STATE y1))) (h29 : ∀ (y1 : Nat), P (.obj (PW_DOM_STATE y1))) (h30 : ∀ (y1 : Fin 4), P (.obj (G_STATE ↑y1))) (h31 : ∀ (y1 : Fin 4), P (.obj (G_VALUE ↑y1))) (h32 : ∀ (y1 : Fin 4), P (.gen y1)) (h33 : ∀ (y1 : Nat), P (.obj (A_FAULT_STATE y1))) (h34 : ∀ (y1 : Fin 4), P (.obj (A_FUS_VALID ↑y1))) (h35 : ∀ (y1 : Fin 4), P (.obj (A_START_STAGE ↑y1))) (h36 : P .tongs) (h37 : P .latch) (h38 : ∀ (y1 : Fin 4), P (.obj (A_MD_DUTY ↑y1))) (h39 : ∀ (y1 : Fin 4), P (.obj (A_MD_NOW ↑y1))) (h40 : ∀ (y1 : Fin 4), P (.obj (A_RENDER_STATE ↑y1))) (h41 : ∀ (y1 : Fin 4), P (.obj (A_POS_REF ↑y1))) (h42 : ∀ (y1 : Fin 4), P (.obj (A_PROF_SPEED ↑y1))) (h43 : ∀ (y1 : Fin 4), P (.obj (A_PROF_ACCEL ↑y1))) (h44 : ∀ (y1 : Fin 4), P (.obj (A_PROF_STATE ↑y1))) (h45 : P (.obj SF_BRAKE_OPEN)) (h46 : ∀ (y1 : Fin 4), P (.obj (SF_STATE ↑y1))) (h47 : P .freeCtr) (h48 : P (.obj SF_LAST_CODE)) (h49 : P (.obj SF_XC_COUNT)) (h50 : P .leftZero) (h51 : P (.obj SF_OUTPUTS)) (h52 : P (.obj SF_CH_FAULT)) (h53 : P (.obj SF_TG_STATE)) (h54 : ∀ (y1 : Fin 4), P (.obj (SF_REQ_SAFE ↑y1))) (h55 : ∀ (y1 : Fin 4), P (.obj (SF_STATUS ↑y1))) (h56 : ∀ (y1 : Fin 4), P (.obj (SF_SPEED_A ↑y1))) (h57 : ∀ (y1 : Fin 4), P (.obj (SF_SPEED_B ↑y1))) (h58 : ∀ (y1 : Fin 4), P (.obj (SF_POS_A ↑y1))) (h59 : ∀ (y1 : Fin 4), P (.obj (SF_POS_B ↑y1))) (h60 : ∀ (y1 : Fin 4), P (.obj (SF_SOS_POS ↑y1))) (h61 : ∀ (y1 : Fin 4), P (.obj (SF_CAUSE ↑y1))) (h62 : ∀ (y1 : Fin 4), P (.obj (A_REF_STATE ↑y1))) (h63 : ∀ (y1 : Fin 2), P (.obj (A_ENC_STATUS ↑y1))) (h64 : P (.enc 0)) (h65 : P (.enc 1)) (h66 : P (.obj (NP_LINK 0))) (h67 : P (.obj (NP_LINK 1))) (h68 : ∀ (y1 : Fin 2), P (.obj (CB_STATE ↑y1))) (h69 : ∀ (y1 : Fin 2), P (.obj (CB_BUSOFF_COUNT ↑y1))) (h70 : ∀ (y1 : Fin 2) (y2 : Nat), P (.obj (CB_Q_STATUS (↑y1) y2))) (h71 : ∀ (y1 : Fin 2) (y2 : Nat), P (.obj (CB_Q_OWNER (↑y1) y2))) (h72 : P (.can 0)) (h73 : P .sessions) (h74 : P .best) (h75 : P .bestAt) (h76 : P .txs) (h77 : P (.obj TX_OPEN_COUNT)) (h78 : P (.obj TX_PROOF_USED)) (h79 : P (.obj TX_ABORTS)) (h80 : P .naz) (h81 : P .outs) (h82 : P (.obj C_CLAIM)) (h83 : P (.obj C_OWNER)) (h84 : P .cap) (h85 : P (.obj C_STATE)) (h86 : P (.obj C_VERSION)) (h87 : Covers P configParts) (h88 : P (.obj SF_CFG_STATE)) (h89 : P (.obj SF_COMMISSION)) (h90 : P (.obj SF_CFG_SEAL)) (h91 : P (.obj SF_CFG_OWNER)) (h92 : P .rereading) (h93 : P .freed) (h94 : P .queue) (h95 : P .flights) (h96 : P .routes) (h97 : P (.obj SS_COUNT)) (h98 : P (.obj SS_GUAR_SUM)) (h99 : P (.obj SS_ROUTES)) (h100 : P (.can 1)) (h101 : ∀ (y1 : Fin 2), P (.obj (NZ_CODE_ERR ↑y1))) (h102 : ∀ (y1 : Fin 2), P (.obj (NZ_LINK ↑y1))) (h103 : ∀ (y1 : Fin 2), P (.obj (NZ_LINK_DOWNS ↑y1))) (h104 : P (.obj NZ_RING)) (h105 : P (.obj NZ_STATE)) :
    Only P s (State.islandFault u n kind) := by
  with_reducible
    unfold State.islandFault
    repeat' first | assumption | apply Only.set | apply Only.inc | apply Only.ite | apply State.faultOutcome_only | exact h2 _ | exact h4 _ | exact h5 _ | exact h6 _ | exact h7 _ | exact h8 _ | exact h9 _ | exact h10 _ | exact h11 _ | exact h12 _ | exact h14 _ | exact h15 _ | exact h16 _ | exact h17 _ | exact h19 _ | exact h25 _ | exact h27 _ | exact h28 _ | exact h29 _ | exact h30 _ | exact h31 _ | exact h32 _ | exact h33 _ | exact h34 _ | exact h35 _ | exact h38 _ | exact h39 _ | exact h40 _ | exact h41 _ | exact h42 _ | exact h43 _ | exact h44 _ | exact h46 _ | exact h54 _ | exact h55 _ | exact h56 _ | exact h57 _ | exact h58 _ | exact h59 _ | exact h60 _ | exact h61 _ | exact h62 _ | exact h63 _ | exact h68 _ | exact h69 _ | exact h70 _ _ | exact h71 _ _ | exact h101 _ | exact h102 _ | exact h103 _ | intro _ | dsimp only | split

theorem State.jPower_only {detail : Nat} {dom : Nat} {mv : Nat} {rail : Nat} (h : Only P s u) (h1 : P .raised) :
    Only P s (State.jPower u detail dom mv rail) := by
  with_reducible
    unfold State.jPower
    repeat' first | assumption | apply Only.journal | intro _ | dsimp only | split

theorem State.jHearth_only {detail : Nat} {mv : Nat} {rail : Nat} {count : Nat} (h : Only P s u) (h1 : P .power) :
    Only P s (State.jHearth u detail mv rail count) := by
  with_reducible
    unfold State.jHearth
    repeat' first | assumption | apply Only.ite | apply State.modPower_only | intro _ | dsimp only | split

theorem State.replaySupply_only (h : Only P s u) (h1 : P .raised) (h2 : P .power) :
    Only P s (State.replaySupply u) := by
  with_reducible
    unfold State.replaySupply
    repeat' first | assumption | apply State.modPower_only | intro _ | dsimp only | split | apply Only.w_raised

theorem State.leaveReset_only (h : Only P s u) (h1 : P .power) (h2 : P (.obj PW_RAIL_STATUS)) (h3 : P (.obj TB_REF_STATE)) (h4 : ∀ (y1 : Nat), P (.obj (PW_DOM_STATE y1))) (h5 : P (.obj PW_DAMP_QUEUE)) (h6 : P (.obj PW_DAMP_MAX_Q)) :
    Only P s (State.leaveReset u) := by
  with_reducible
    unfold State.leaveReset
    repeat' first | assumption | apply Only.set | apply Only.clearBits | apply Only.each | apply State.modPower_only | apply State.syncQueue_only | exact h4 _ | intro _ | dsimp only | split

theorem State.hearthCount_only (h : Only P s u) (h1 : P .freeCtr) (h2 : P .clock) (h3 : P .power) :
    Only P s (State.hearthCount u) := by
  with_reducible
    unfold State.hearthCount
    repeat' first | assumption | apply Only.free | apply State.modPower_only | intro _ | exact Only.of_pair ‹_ = (_, _)› ‹_› | apply Only.of_pair ‹_ = (_, _)› | dsimp only | split | apply Only.w_tbOff

theorem State.loseHearth_only (h : Only P s u) (h1 : P (.obj PW_RAIL_STATUS)) (h2 : P (.obj PW_LAST_BACKUP)) (h3 : P .power) :
    Only P s (State.loseHearth u) := by
  with_reducible
    unfold State.loseHearth
    repeat' first | assumption | apply Only.set | apply Only.orBits | apply State.modPower_only | intro _ | dsimp only | split

theorem State.enterBackup_only (h : Only P s u) (h1 : P (.obj PW_BACKUPS)) (h2 : P (.obj PW_LAST_BACKUP)) (h3 : P .power) :
    Only P s (State.enterBackup u) := by
  with_reducible
    unfold State.enterBackup
    repeat' first | assumption | apply Only.set | apply Only.inc | apply State.modPower_only | intro _ | dsimp only | split

theorem State.damper_only {a : Nat} (h : Only P s u) (h1 : P (.obj PW_DAMP_HOLDS)) (h2 : P .power) (h3 : ∀ (y1 : Nat), P (.obj (PW_DOM_STATE y1))) (h4 : P (.obj PW_DAMP_WAKES)) (h5 : P (.obj PW_DAMP_QUEUE)) (h6 : P (.obj PW_DAMP_MAX_Q)) :
    Only P s (State.damper u a) := by
  induction a generalizing u with
  | zero => ?_
  | succ m ih => ?_
  all_goals first
    | exact h
    | (with_reducible
        unfold State.damper
        repeat' first | assumption | apply Only.set | apply Only.inc | apply Only.ite | apply State.modPower_only | apply State.syncQueue_only | apply ih | exact h3 _ | intro _ | exact Only.of_pair ‹_ = (_, _)› ‹_› | apply Only.of_pair ‹_ = (_, _)› | dsimp only | split)

theorem State.drivePin_only {n : Fin 18} {high : Bool} (h : Only P s u) (h1 : P (.hb n)) :
    Only P s (State.drivePin u n high) := by
  with_reducible
    unfold State.drivePin
    repeat' first | assumption | apply Only.modHb | apply Only.ite | intro _ | dsimp only | split

theorem State.domainUp_only {d : Nat} (h : Only P s u) (h1 : P (.obj (PW_DOM_STATE d))) (h2 : ∀ (y1 : Nat), P (.obj (IS_STATE y1))) (h3 : ∀ (y1 : Fin 18), P (.hb y1)) (h4 : ∀ (y1 : Fin 2), P (.can y1)) (h5 : ∀ (y1 : Nat), P (.obj (CB_Q_STATUS (d - 114) y1))) (h6 : ∀ (y1 : Nat), P (.obj (CB_Q_OWNER (d - 114) y1))) (h7 : P (.obj (CB_STATE (d - 114)))) (h8 : P (.obj (PW_DOM_STATE (114 + (d - 114))))) (h9 : P .power) (h10 : P (.obj PW_DAMP_QUEUE)) (h11 : P (.obj PW_DAMP_MAX_Q)) :
    Only P s (State.domainUp u d) := by
  with_reducible
    unfold State.domainUp
    repeat' first | assumption | apply Only.set | apply Only.ite | apply State.canMode_only | apply State.drivePin_only | exact h2 _ | exact h3 _ | exact h4 _ | exact h5 _ | exact h6 _ | intro _ | exact Only.of_pair ‹_ = (_, _)› ‹_› | apply Only.of_pair ‹_ = (_, _)› | dsimp only | split

theorem State.eccRead_only {m : Fin 16} (h : Only P s u) (h1 : P (.obj (ST_GRANTS 13))) (h2 : P (.obj ST_MAX_WAIT)) (h3 : P (.obj ST_BUSY)) (h4 : P .port) :
    Only P s (State.eccRead u m) := by
  with_reducible
    unfold State.eccRead
    repeat' first | assumption | apply Only.ite | apply State.transfers_only | intro _ | dsimp only | split

theorem State.badRecord_only {k : Nat} (h : Only P s u) (h1 : P (.obj (SS_KEY_EN (k / 256 - 4656)))) (h2 : P (.obj k)) (h3 : P (.blob k)) (h4 : P .raised) :
    Only P s (State.badRecord u k) := by
  with_reducible
    unfold State.badRecord
    repeat' first | assumption | apply Only.set | apply Only.setBlob | apply Only.ite | apply State.jPower_only | intro _ | dsimp only | split

theorem State.keysSet_only {bad : List Nat} (h : Only P s u) (h1 : ∀ (y1 : Nat), P (.obj (SS_KEY_SET y1))) :
    Only P s (State.keysSet u bad) := by
  with_reducible
    unfold State.keysSet
    repeat' first | assumption | apply Only.setFlag | apply Only.each | exact h1 _ | intro _ | dsimp only | split

theorem State.readConfig_only {agree : Bool} (h : Only P s u) (h1 : Covers P configParts) (h2 : P (.obj SF_CFG_STATE)) (h3 : P (.obj SF_CFG_GEN)) (h4 : P .tongs) (h5 : Covers P envelopeParts) (h6 : P .cfgDue) (h7 : P (.obj SF_CRC_CONFIRMED)) (h8 : P .raised) (h9 : P (.obj SF_LAST_CODE)) :
    Only P s (State.readConfig u agree) := by
  with_reducible
    unfold State.readConfig
    repeat' first | assumption | apply Only.set | apply Only.ite | apply State.editTo_only | apply State.jConfig_only | apply State.loadConfig_only | intro _ | exact Only.of_pair ‹_ = (_, _)› ‹_› | apply Only.of_pair ‹_ = (_, _)› | dsimp only | split

/-! ### Dict -/

theorem State.ensureHost_only (h : Only P s u) (h1 : P .sessions) (h2 : P .best) (h3 : P .bestAt) (h4 : P (.obj SS_COUNT)) (h5 : P (.obj SS_GUAR_SUM)) (h6 : P (.obj SS_ROUTES)) :
    Only P s (State.ensureHost u) := by
  with_reducible
    unfold State.ensureHost
    repeat' first | assumption | apply Only.ite | apply State.hostSession_only | intro _ | dsimp only | split

theorem State.clip_only {rq : Nat} {k : Nat} {v : Int} (h : Only P s u) (h1 : P .raised) (h2 : P (.obj SF_ANV_CLIPS)) :
    Only P s (State.clip u rq k v).2 := by
  with_reducible
    unfold State.clip
    repeat' first | assumption | apply Only.ite | apply State.jClip_only | intro _ | exact Only.of_pair ‹_ = (_, _)› ‹_› | apply Only.of_pair ‹_ = (_, _)› | dsimp only | split

/-! ### Rules -/

theorem withArmed_only (h : Only P s u) (h1 : ∀ (y1 : Nat), P (.obj y1)) :
    Only P s (withArmed u) := by
  with_reducible
    unfold withArmed
    repeat' first | assumption | apply Only.set | apply Only.each | exact h1 _ | intro _ | dsimp only | split

/-! ### Firmware -/

theorem State.modFw_only {f : Fw → Fw} (h : Only P s u) (h1 : P .fw) :
    Only P s (State.modFw u f) := by
  with_reducible
    unfold State.modFw
    repeat' first | assumption | intro _ | dsimp only | split | apply Only.w_fw

theorem State.jUpd_only {detail : Nat} {src : Nat} {bank : Nat} {i : Option FwImg} (h : Only P s u) (h1 : P .raised) :
    Only P s (State.jUpd u detail src bank i) := by
  with_reducible
    unfold State.jUpd
    repeat' first | assumption | apply State.jFw_only | intro _ | dsimp only | split

theorem State.imgOffset_only {v : Nat} (h : Only P s u) (h1 : P (.obj FW_IMG_OFFSET)) (h2 : P (.obj FW_IMG_STATE)) (h3 : P .fw) :
    Only P s (State.imgOffset u v) := by
  with_reducible
    unfold State.imgOffset
    repeat' first | assumption | apply Only.set | apply Only.ite | apply State.modFw_only | intro _ | dsimp only | split

theorem State.imgData_only {bs : Bytes} (h : Only P s u) (h1 : P (.obj FW_IMG_STATE)) (h2 : P .fw) (h3 : P (.obj FW_IMG_OFFSET)) :
    Only P s (State.imgData u bs) := by
  with_reducible
    unfold State.imgData
    repeat' first | assumption | apply Only.set | apply State.modFw_only | intro _ | dsimp only | split

theorem State.imgVerify_only (h : Only P s u) (h1 : P (.obj FW_IMG_RESULT)) (h2 : P (.obj FW_IMG_VERSION)) (h3 : P (.obj FW_IMG_STATE)) (h4 : P .outs) (h5 : P .raised) :
    Only P s (State.imgVerify u) := by
  with_reducible
    unfold State.imgVerify
    repeat' first | assumption | apply Only.set | apply Only.emit | apply Only.ite | apply State.jUpd_only | intro _ | dsimp only | split

theorem State.activate_only (h : Only P s u) (h1 : P (.obj FW_ACTIVATE)) (h2 : P (.obj FW_UPD_STATE)) (h3 : P .fw) :
    Only P s (State.activate u) := by
  with_reducible
    unfold State.activate
    repeat' first | assumption | apply Only.set | apply State.modFw_only | intro _ | dsimp only | split

theorem State.handOver_only {kind : Nat} (h : Only P s u) (h1 : P (.obj FW_UPD_STATE)) (h2 : P (.obj FW_STATE)) (h3 : P .fw) :
    Only P s (State.handOver u kind) := by
  with_reducible
    unfold State.handOver
    repeat' first | assumption | apply Only.set | apply State.modFw_only | intro _ | dsimp only | split

theorem State.runImage_only {bank : Nat} {i : Option FwImg} (h : Only P s u) (h1 : P (.obj FW_ACTIVE)) (h2 : P (.obj FW_VERSION)) (h3 : P (.obj FW_SEC_VERSION)) (h4 : P .fw) :
    Only P s (State.runImage u bank i) := by
  with_reducible
    unfold State.runImage
    repeat' first | assumption | apply Only.set | apply State.modFw_only | intro _ | dsimp only | split

theorem State.trialFails_only (h : Only P s u) (h1 : P (.obj FW_UPD_STATE)) (h2 : P (.obj FW_STATE)) (h3 : P .fw) :
    Only P s (State.trialFails u) := by
  with_reducible
    unfold State.trialFails
    repeat' first | assumption | apply Only.ite | apply State.handOver_only | intro _ | dsimp only | split

theorem State.secCommit_only (h : Only P s u) (h1 : P (.obj FW_SEC_MIN)) (h2 : P .raised) :
    Only P s (State.secCommit u) := by
  with_reducible
    unfold State.secCommit
    repeat' first | assumption | apply Only.set | apply State.jUpd_only | intro _ | exact Only.of_pair ‹_ = (_, _)› ‹_› | apply Only.of_pair ‹_ = (_, _)› | dsimp only | split

theorem State.paramSave_only (h : Only P s u) (h1 : P .outs) (h2 : P (.obj FW_PARAM_STATE)) (h3 : P .fw) :
    Only P s (State.paramSave u) := by
  with_reducible
    unfold State.paramSave
    repeat' first | assumption | apply Only.set | apply Only.emit | apply State.modFw_only | intro _ | dsimp only | split

theorem State.paramErase_only (h : Only P s u) (h1 : P .outs) (h2 : P (.obj FW_PARAM_GEN)) :
    Only P s (State.paramErase u) := by
  with_reducible
    unfold State.paramErase
    repeat' first | assumption | apply Only.set | apply Only.emit | intro _ | dsimp only | split

/-! ### Starts -/

theorem State.barrierDone_only (h : Only P s u) (h1 : P (.obj NZ_BARRIER_DONE)) (h2 : P (.obj NZ_BARRIERS)) :
    Only P s (State.barrierDone u) := by
  with_reducible
    unfold State.barrierDone
    repeat' first | assumption | apply Only.set | apply Only.inc | intro _ | dsimp only | split

theorem State.barrierGo_only (h : Only P s u) (h1 : P (.obj NZ_BARRIER_DONE)) (h2 : P (.obj NZ_BARRIERS)) (h3 : P .naz) (h4 : P .outs) :
    Only P s (State.barrierGo u) := by
  with_reducible
    unfold State.barrierGo
    repeat' first | assumption | apply Only.ite | apply State.barrierDone_only | apply State.startToken_only | intro _ | dsimp only | split

theorem State.armSnap_only {Ts : Nat} {l : List Nat} (h : Only P s u) (h1 : P .naz) (h2 : P (.obj NZ_SNAP_STATE)) :
    Only P s (State.armSnap u Ts l) := by
  with_reducible
    unfold State.armSnap
    repeat' first | assumption | apply Only.set | apply State.modNaz_only | intro _ | dsimp only | split

theorem State.snapVoid_only (h : Only P s u) (h1 : P .naz) (h2 : P (.obj NZ_SNAP_STATE)) (h3 : P .raised) :
    Only P s (State.snapVoid u) := by
  with_reducible
    unfold State.snapVoid
    repeat' first | assumption | apply Only.set | apply State.jNaz_only | apply State.modNaz_only | intro _ | exact Only.of_pair ‹_ = (_, _)› ‹_› | apply Only.of_pair ‹_ = (_, _)› | dsimp only | split

theorem State.voidAll_only (h : Only P s u) (h1 : P .naz) (h2 : P .outs) (h3 : P (.obj NZ_SNAP_STATE)) (h4 : P .raised) :
    Only P s (State.voidAll u) := by
  with_reducible
    unfold State.voidAll
    repeat' first | assumption | apply State.command_only | apply State.snapVoid_only | intro _ | dsimp only | split

theorem State.snapGo_only (h : Only P s u) (h1 : P .naz) (h2 : P (.obj NZ_SNAP_STATE)) (h3 : P .outs) (h4 : P .raised) :
    Only P s (State.snapGo u) := by
  with_reducible
    unfold State.snapGo
    repeat' first | assumption | apply Only.ite | apply State.armSnap_only | apply State.startToken_only | apply State.voidAll_only | intro _ | dsimp only | split

theorem State.issueFence_only {sid : Nat} {stamp : Nat} {f : Nat} (h : Only P s u) (h1 : P .fences) :
    Only P s (State.issueFence u sid stamp f) := by
  with_reducible
    unfold State.issueFence
    repeat' first | assumption | intro _ | dsimp only | split | apply Only.w_fences

theorem State.beginCommit_only {id : Nat} {stamp : Nat} {doms : Nat} (h : Only P s u) (h1 : P .txs) (h2 : P .sessions) (h3 : P .naz) (h4 : P .outs) :
    Only P s (State.beginCommit u id stamp doms) := by
  with_reducible
    unfold State.beginCommit
    repeat' first | assumption | apply Only.ite | apply State.modTx_only | apply State.sendTx_only | apply State.startToken_only | intro _ | exact Only.of_pair ‹_ = (_, _)› ‹_› | apply Only.of_pair ‹_ = (_, _)› | dsimp only | split | apply Only.w_sessions

theorem State.tryDecide_only {id : Nat} (h : Only P s u) (h1 : ∀ (y1 : Fin 48), P (.slot y1)) (h2 : P .txs) (h3 : P (.obj TX_OPEN_COUNT)) (h4 : P (.obj TX_PROOF_USED)) (h5 : P (.obj TX_ABORTS)) (h6 : P .raised) (h7 : P .sessions) (h8 : P .naz) (h9 : P .outs) :
    Only P s (State.tryDecide u id) := by
  with_reducible
    unfold State.tryDecide
    repeat' first | assumption | apply Only.ite | apply State.abortTx_only | apply State.modTx_only | apply State.sendTx_only | exact h1 _ | intro _ | exact Only.of_pair ‹_ = (_, _)› ‹_› | apply Only.of_pair ‹_ = (_, _)› | dsimp only | split

theorem State.takeVote_only {id : Nat} {d : Nat} {code : Nat} {addr : Nat} (h : Only P s u) (h1 : ∀ (y1 : Fin 48), P (.slot y1)) (h2 : P .txs) (h3 : P (.obj TX_OPEN_COUNT)) (h4 : P (.obj TX_PROOF_USED)) (h5 : P (.obj TX_ABORTS)) (h6 : P .raised) (h7 : P .sessions) (h8 : P .naz) (h9 : P .outs) :
    Only P s (State.takeVote u id d code addr) := by
  with_reducible
    unfold State.takeVote
    repeat' first | assumption | apply Only.ite | apply State.abortTx_only | apply State.modTx_only | apply State.tryDecide_only | exact h1 _ | intro _ | exact Only.of_pair ‹_ = (_, _)› ‹_› | apply Only.of_pair ‹_ = (_, _)› | dsimp only | split

/-! ### Effects -/

theorem State.putImage_only {k : Nat} {bs : Bytes} {v : Int} (h : Only P s u) (h1 : P (.blob k)) (h2 : P (.obj k)) :
    Only P s (State.putImage u k bs v) := by
  with_reducible
    unfold State.putImage
    repeat' first | assumption | apply Only.set | apply Only.setBlob | apply Only.ite | intro _ | exact Only.of_pair ‹_ = (_, _)› ‹_› | apply Only.of_pair ‹_ = (_, _)› | dsimp only | split

theorem State.dropOld_only {k : Nat} (h : Only P s u) (h1 : P .txs) :
    Only P s (State.dropOld u k) := by
  with_reducible
    unfold State.dropOld
    repeat' first | assumption | intro _ | dsimp only | split | apply Only.w_txs

theorem State.assign_only {x : Fin 6} {v : Int} (h : Only P s u) (h1 : P (.obj (S_ENABLE ↑x))) (h2 : ∀ (y1 : Fin 3), P (.hb (hbOf x y1))) (h3 : P (.obj S_BLW_ACTIVE)) (h4 : P (.sec x)) (h5 : ∀ (y1 : Fin 3), P (.obj (S_GATE_I ↑(hbOf x y1)))) (h6 : P (.obj (S_STATE ↑x))) (h7 : P (.obj (S_DEG_PHASE ↑x))) (h8 : P (.obj (S_STEP ↑x))) (h9 : P (.obj (S_FUS_STATE ↑x))) (h10 : P (.obj (S_LOCK_STATE ↑x))) (h11 : P .raised) (h12 : ∀ (y1 : Fin 4), P (.obj (A_SECTIONS ↑y1))) (h13 : ∀ (y1 : Fin 4), P (.obj (A_CASCADE_SECTIONS ↑y1))) (h14 : ∀ (y1 : Fin 4), P (.ax y1)) (h15 : ∀ (y1 : Fin 4), P (.obj (A_FAULT_STATE ↑y1))) (h16 : P (.obj (S_AXIS ↑x))) (h17 : P (.obj (PW_DOM_STATE (101 + ↑x)))) (h18 : P .power) (h19 : P (.obj PW_DAMP_QUEUE)) (h20 : P (.obj PW_DAMP_MAX_Q)) (h21 : ∀ (y1 : Nat), P (.obj (IS_STATE y1))) :
    Only P s (State.assign u x v) := by
  with_reducible
    unfold State.assign
    repeat' first | assumption | apply Only.set | apply Only.ite | apply State.joinFail_only | apply State.sleep_only | apply State.wake_only | exact h2 _ | exact h5 _ | exact h12 _ | exact h13 _ | exact h14 _ | exact h15 _ | exact h21 _ | intro _ | dsimp only | split

theorem State.effSection_only {x : Fin 6} {m : Nat} {v : Int} (h : Only P s u) (h1 : P (.obj (S_ENABLE ↑x))) (h2 : ∀ (y1 : Fin 3), P (.hb (hbOf x y1))) (h3 : P (.obj S_BLW_ACTIVE)) (h4 : P (.sec x)) (h5 : ∀ (y1 : Fin 3), P (.obj (S_GATE_I ↑(hbOf x y1)))) (h6 : P (.obj (S_STATE ↑x))) (h7 : P (.obj (S_DEG_PHASE ↑x))) (h8 : P (.obj (S_STEP ↑x))) (h9 : P (.obj (S_FUS_STATE ↑x))) (h10 : P (.obj (S_LOCK_STATE ↑x))) (h11 : P .raised) (h12 : ∀ (y1 : Fin 4), P (.obj (A_SECTIONS ↑y1))) (h13 : ∀ (y1 : Fin 4), P (.obj (A_CASCADE_SECTIONS ↑y1))) (h14 : ∀ (y1 : Fin 4), P (.ax y1)) (h15 : ∀ (y1 : Fin 4), P (.obj (A_FAULT_STATE ↑y1))) (h16 : P (.obj (S_AXIS ↑x))) (h17 : P (.obj (PW_DOM_STATE (101 + ↑x)))) (h18 : P .power) (h19 : P (.obj PW_DAMP_QUEUE)) (h20 : P (.obj PW_DAMP_MAX_Q)) (h21 : ∀ (y1 : Nat), P (.obj (IS_STATE y1))) (h22 : P (.obj (S_PERIOD ↑x + (m - 1025)))) (h23 : ∀ (y1 : Fin 3) (y2 : Nat), P (.obj (codeKey (hbOf x y1) y2))) (h24 : P (.obj SF_ANV_CLIPS)) (h25 : ∀ (y1 : Fin 3), P (.obj (S_Q_CAUSE ↑(hbOf x y1)))) (h26 : P (.obj (S_Q_LATCH ↑x))) (h27 : P (.obj (S_Q_LAST ↑x))) (h28 : P (.obj (S_TEMP ↑x))) (h29 : P (.obj (S_TEMP_STALE ↑x))) (h30 : P (.obj (2097152 + 65536 * ↑x + m))) :
    Only P s (State.effSection u x m v) := by
  with_reducible
    unfold State.effSection
    repeat' first | assumption | apply Only.set | apply Only.modPwm | apply Only.ite | apply State.assign_only | apply State.clearSection_only | apply State.enableOne_only | apply State.enableZero_only | apply State.tempWritten_only | exact h2 _ | exact h5 _ | exact h12 _ | exact h13 _ | exact h14 _ | exact h15 _ | exact h21 _ | exact h23 _ _ | exact h25 _ | intro _ | dsimp only | split

theorem State.effSnatch_only {a : Fin 4} {v : Nat} (h : Only P s u) (h1 : P (.obj (A_SNATCH_TX ↑a))) (h2 : P .port) (h3 : ∀ (y1 : Nat), P (.obj (ST_GRANTS y1))) (h4 : P (.obj ST_MAX_WAIT)) (h5 : P (.obj ST_BUSY)) (h6 : ∀ (y1 : Fin 48) (y2 : Fin 25), P (.obj (K_ORDER ↑y1 + ↑y2))) (h7 : ∀ (y1 : Fin 48), P (.obj (K_SET_VER ↑y1))) (h8 : ∀ (y1 : Fin 48), P (.slot y1)) (h9 : P (.ax a)) (h10 : P (.obj (A_SNATCH_STATE ↑a))) (h11 : P .txs) (h12 : P (.obj TX_OPEN_COUNT)) (h13 : P (.obj TX_PROOF_USED)) (h14 : P (.obj TX_ABORTS)) (h15 : P .raised) (h16 : P .sessions) (h17 : P .naz) (h18 : P .outs) :
    Only P s (State.effSnatch u a v) := by
  with_reducible
    unfold State.effSnatch
    repeat' first | assumption | apply Only.set | apply Only.ite | apply State.abortTx_only | apply State.modTx_only | apply State.snatchArm_only | apply State.snatchDiscard_only | exact h3 _ | exact h6 _ _ | exact h7 _ | exact h8 _ | intro _ | exact Only.of_pair ‹_ = (_, _)› ‹_› | apply Only.of_pair ‹_ = (_, _)› | dsimp only | split | apply Only.w_sessions

theorem State.effAxis_only {a : Fin 4} {m : Nat} {v : Int} (h : Only P s u) (h1 : P (.obj (A_EMERG_REQ ↑a))) (h2 : P (.obj (A_EMERG_STATE ↑a))) (h3 : P (.obj (A_MD_DUTY ↑a))) (h4 : P (.obj (A_MD_NOW ↑a))) (h5 : P (.obj (A_MODE ↑a))) (h6 : P (.obj (A_RENDER_STATE ↑a))) (h7 : P (.obj (A_POS_REF ↑a))) (h8 : P (.obj (A_PROF_SPEED ↑a))) (h9 : P (.obj (A_PROF_ACCEL ↑a))) (h10 : P (.obj (A_PROF_STATE ↑a))) (h11 : P .raised) (h12 : P (.obj (A_SNATCH_TX ↑a))) (h13 : P .port) (h14 : ∀ (y1 : Nat), P (.obj (ST_GRANTS y1))) (h15 : P (.obj ST_MAX_WAIT)) (h16 : P (.obj ST_BUSY)) (h17 : ∀ (y1 : Fin 48) (y2 : Fin 25), P (.obj (K_ORDER ↑y1 + ↑y2))) (h18 : ∀ (y1 : Fin 48), P (.obj (K_SET_VER ↑y1))) (h19 : ∀ (y1 : Fin 48), P (.slot y1)) (h20 : P (.obj (A_SNATCH_STATE ↑a))) (h21 : P .txs) (h22 : P (.obj TX_OPEN_COUNT)) (h23 : P (.obj TX_PROOF_USED)) (h24 : P (.obj TX_ABORTS)) (h25 : P .sessions) (h26 : P .naz) (h27 : P .outs) (h28 : P (.obj (A_TEN_FB ↑a))) (h29 : P (.obj (A_FAULT_STATE ↑a))) (h30 : P .cap) (h31 : ∀ (y1 : Fin 48), P (.obj (K_OVERRUN ↑y1))) (h32 : ∀ (y1 : Fin 6) (y2 : Fin 3), P (.hb (hbOf y1 y2))) (h33 : ∀ (y1 : Fin 6) (y2 : Fin 3), P (.obj (S_GATE_I ↑(hbOf y1 y2)))) (h34 : ∀ (y1 : Fin 6), P (.sec y1)) (h35 : P (.obj (5242880 + 65536 * ↑a + m))) (h36 : P (.obj (A_GEAR_STATE ↑a))) (h37 : ∀ (y1 : Fin 4), P (.obj (A_POS_ACT ↑y1))) (h38 : ∀ (y1 : Fin 4), P (.obj (A_START_STAGE ↑y1))) (h39 : ∀ (y1 : Fin 4), P (.ax y1)) (h40 : ∀ (y1 : Fin 4), P (.obj (A_REF_STATE ↑y1))) :
    Only P s (State.effAxis u a m v) := by
  with_reducible
    unfold State.effAxis
    repeat' first | assumption | apply Only.set | apply Only.modAx | apply Only.ite | apply State.armChange_only | apply State.effSnatch_only | apply State.emergency_only | apply State.moveStart_only | apply State.refRun_only | apply State.requestStop_only | apply State.setHome_only | apply State.syncMotion_only | apply State.tension_only | exact h14 _ | exact h17 _ _ | exact h18 _ | exact h19 _ | exact h31 _ | exact h32 _ _ | exact h33 _ _ | exact h34 _ | exact h37 _ | exact h38 _ | exact h39 _ | exact h40 _ | intro _ | dsimp only | split

theorem State.effEnable_only {k : Fin 48} {v : Int} (h : Only P s u) (h1 : P (.obj (K_ENABLE ↑k))) (h2 : P (.slot k)) (h3 : P .lanes) (h4 : ∀ (y1 : Nat), P (.obj (K_LANE_MAP y1))) (h5 : ∀ (y1 : Nat), P (.obj (PW_DOM_STATE y1))) (h6 : P .power) (h7 : P (.obj PW_DAMP_QUEUE)) (h8 : P (.obj PW_DAMP_MAX_Q)) (h9 : ∀ (y1 : Nat), P (.obj (IS_STATE y1))) (h10 : P (.obj K_SPARE_AVAIL)) (h11 : ∀ (y1 : Nat), P (.obj (K_LANE_STATE y1))) (h12 : ∀ (y1 : Fin 4), P (.ax y1)) :
    Only P s (State.effEnable u k v) := by
  with_reducible
    unfold State.effEnable
    repeat' first | assumption | apply Only.set | apply Only.modAx | apply Only.modSlot | apply Only.each | apply Only.ite | apply State.handIfOver_only | exact h4 _ | exact h5 _ | exact h9 _ | exact h11 _ | exact h12 _ | intro _ | dsimp only | split

theorem State.effSlot_only {k : Fin 48} {sub : Nat} {v : Int} (h : Only P s u) (h1 : P (.obj (K_ENABLE ↑k))) (h2 : P .lanes) (h3 : ∀ (y1 : Nat), P (.obj (K_LANE_MAP y1))) (h4 : ∀ (y1 : Nat), P (.obj (PW_DOM_STATE y1))) (h5 : P .power) (h6 : P (.obj PW_DAMP_QUEUE)) (h7 : P (.obj PW_DAMP_MAX_Q)) (h8 : ∀ (y1 : Nat), P (.obj (IS_STATE y1))) (h9 : P (.obj K_SPARE_AVAIL)) (h10 : ∀ (y1 : Nat), P (.obj (K_LANE_STATE y1))) (h11 : ∀ (y1 : Fin 4), P (.ax y1)) (h12 : P (.obj (4259840 + 256 * ↑k + sub))) (h13 : P (.obj (K_SET_VER ↑k))) (h14 : P (.obj (K_REF ↑k))) (h15 : P .cap) (h16 : ∀ (y1 : Fin 48), P (.slot y1)) (h17 : ∀ (y1 : Fin 48), P (.obj (K_OVERRUN ↑y1))) :
    Only P s (State.effSlot u k sub v) := by
  with_reducible
    unfold State.effSlot
    repeat' first | assumption | apply Only.set | apply Only.ite | apply State.arrive_only | apply State.effEnable_only | apply State.histDirect_only | apply State.sendCoef_only | exact h3 _ | exact h4 _ | exact h8 _ | exact h10 _ | exact h11 _ | exact h16 _ | exact h17 _ | intro _ | dsimp only | split

theorem State.effTuning_only {sid : Nat} {k : Nat} {v : Int} (h : Only P s u) (h1 : ∀ (y1 : Fin 4), P (.obj (G_RUN ↑y1))) (h2 : ∀ (y1 : Fin 4), P (.obj (G_STATE ↑y1))) (h3 : ∀ (y1 : Fin 4), P (.obj (G_STEPS ↑y1))) (h4 : ∀ (y1 : Fin 4), P (.gen y1)) (h5 : P (.obj k)) (h6 : P (.obj C_CLAIM)) (h7 : P (.obj C_OWNER)) (h8 : P .power) (h9 : P (.obj (PW_DOM_STATE 123))) (h10 : P (.obj PW_DAMP_QUEUE)) (h11 : P (.obj PW_DAMP_MAX_Q)) (h12 : P (.obj (PW_DOM_STATE 92))) (h13 : P (.obj (PW_DOM_STATE 93))) (h14 : P (.obj (PW_DOM_STATE 94))) (h15 : ∀ (y1 : Fin 4), P (.obj (G_VALUE ↑y1))) (h16 : P .raised) (h17 : P .freeCtr) (h18 : P .cap) (h19 : P (.obj C_STATE)) (h20 : P (.obj C_VERSION)) (h21 : P (.obj C_CHANNELS)) (h22 : P (.obj C_DEPTH)) (h23 : P (.obj C_RECORDS)) (h24 : P (.obj C_TRIG_REC)) (h25 : P (.obj C_TRIG_STAMP)) :
    Only P s (State.effTuning u sid k v) := by
  with_reducible
    unfold State.effTuning
    repeat' first | assumption | apply Only.set | apply Only.ite | apply State.armGen_only | apply State.capArm_only | apply State.claimEnd_only | apply State.stopGen_only | apply State.wake_only | exact h1 _ | exact h2 _ | exact h3 _ | exact h4 _ | exact h15 _ | intro _ | exact Only.of_pair ‹_ = (_, _)› ‹_› | apply Only.of_pair ‹_ = (_, _)› | dsimp only | split | apply Only.w_cap

theorem State.refusedSafety_only {sid : Nat} {k : Nat} {v : Int} (h : Only P s u) (h1 : P (.obj SF_CFG_RESULT)) (h2 : P .raised) (h3 : P (.obj SF_LAST_CODE)) :
    Only P s (State.refusedSafety u sid k v) := by
  with_reducible
    unfold State.refusedSafety
    repeat' first | assumption | apply Only.ite | apply State.refuseConfig_only | intro _ | dsimp only | split

theorem State.effSafety_only {sid : Nat} {k : Nat} {v : Int} (h : Only P s u) (h1 : P (.obj SF_CFG_STATE)) (h2 : P (.obj SF_CFG_OWNER)) (h3 : P (.obj SF_COMMISSION)) (h4 : P .cfgDue) (h5 : P .tongs) (h6 : ∀ (y1 : Fin 6), P (.obj (S_ENABLE ↑y1))) (h7 : P (.obj S_BLW_ACTIVE)) (h8 : ∀ (y1 : Fin 6), P (.sec y1)) (h9 : ∀ (y1 : Fin 6), P (.obj (S_STATE ↑y1))) (h10 : ∀ (y1 : Fin 6), P (.obj (S_DEG_PHASE ↑y1))) (h11 : ∀ (y1 : Fin 6), P (.obj (S_STEP ↑y1))) (h12 : ∀ (y1 : Fin 6), P (.obj (S_FUS_STATE ↑y1))) (h13 : ∀ (y1 : Fin 6), P (.obj (S_LOCK_STATE ↑y1))) (h14 : P .raised) (h15 : ∀ (y1 : Fin 4), P (.obj (A_SECTIONS ↑y1))) (h16 : ∀ (y1 : Fin 4), P (.obj (A_CASCADE_SECTIONS ↑y1))) (h17 : ∀ (y1 : Fin 4), P (.ax y1)) (h18 : ∀ (y1 : Fin 4), P (.obj (A_FAULT_STATE ↑y1))) (h19 : ∀ (y1 : Fin 4), P (.obj (A_MD_DUTY ↑y1))) (h20 : ∀ (y1 : Fin 4), P (.obj (A_MD_NOW ↑y1))) (h21 : ∀ (y1 : Fin 4), P (.obj (A_RENDER_STATE ↑y1))) (h22 : ∀ (y1 : Fin 4), P (.obj (A_POS_REF ↑y1))) (h23 : ∀ (y1 : Fin 4), P (.obj (A_PROF_SPEED ↑y1))) (h24 : ∀ (y1 : Fin 4), P (.obj (A_PROF_ACCEL ↑y1))) (h25 : ∀ (y1 : Fin 4), P (.obj (A_PROF_STATE ↑y1))) (h26 : P (.obj SF_BRAKE_OPEN)) (h27 : ∀ (y1 : Fin 18), P (.hb y1)) (h28 : ∀ (y1 : Fin 18), P (.obj (S_GATE_I ↑y1))) (h29 : P .leftZero) (h30 : P (.obj SF_OUTPUTS)) (h31 : P (.obj SF_CH_FAULT)) (h32 : P (.obj SF_TG_STATE)) (h33 : ∀ (y1 : Fin 4), P (.obj (SF_REQ_SAFE ↑y1))) (h34 : ∀ (y1 : Fin 4), P (.obj (SF_STATE ↑y1))) (h35 : ∀ (y1 : Fin 4), P (.obj (SF_STATUS ↑y1))) (h36 : ∀ (y1 : Fin 4), P (.obj (SF_SPEED_A ↑y1))) (h37 : ∀ (y1 : Fin 4), P (.obj (SF_SPEED_B ↑y1))) (h38 : ∀ (y1 : Fin 4), P (.obj (SF_POS_A ↑y1))) (h39 : ∀ (y1 : Fin 4), P (.obj (SF_POS_B ↑y1))) (h40 : ∀ (y1 : Fin 4), P (.obj (SF_SOS_POS ↑y1))) (h41 : ∀ (y1 : Fin 4), P (.obj (SF_CAUSE ↑y1))) (h42 : ∀ (y1 : Fin 4), P (.obj (A_REF_STATE ↑y1))) (h43 : ∀ (y1 : Fin 48), P (.slot y1)) (h44 : P (.obj SF_LAST_CODE)) (h45 : Covers P configParts) (h46 : P (.obj SF_CFG_SEAL)) (h47 : P .rereading) (h48 : P (.obj SF_CFG_RESULT)) (h49 : P .confirming) (h50 : P (.obj k)) :
    Only P s (State.effSafety u sid k v) := by
  with_reducible
    unfold State.effSafety
    repeat' first | assumption | apply Only.set | apply Only.ite | apply State.abandonCommission_only | apply State.confirmBegin_only | apply State.openCommission_only | apply State.refusedSafety_only | apply State.sealBegin_only | apply State.unsealNow_only | exact h6 _ | exact h8 _ | exact h9 _ | exact h10 _ | exact h11 _ | exact h12 _ | exact h13 _ | exact h15 _ | exact h16 _ | exact h17 _ | exact h18 _ | exact h19 _ | exact h20 _ | exact h21 _ | exact h22 _ | exact h23 _ | exact h24 _ | exact h25 _ | exact h27 _ | exact h28 _ | exact h33 _ | exact h34 _ | exact h35 _ | exact h36 _ | exact h37 _ | exact h38 _ | exact h39 _ | exact h40 _ | exact h41 _ | exact h42 _ | exact h43 _ | intro _ | dsimp only | split

theorem State.askDuplicate_only {p : Fin 2} {a : Bytes} (h : Only P s u) (h1 : P .outs) :
    Only P s (State.askDuplicate u p a) := by
  with_reducible
    unfold State.askDuplicate
    repeat' first | assumption | apply Only.emit | intro _ | dsimp only | split

theorem State.newAddress_only {p : Fin 2} (h : Only P s u) (h1 : P .outs) :
    Only P s (State.newAddress u p) := by
  with_reducible
    unfold State.newAddress
    repeat' first | assumption | apply Only.ite | apply State.askDuplicate_only | intro _ | dsimp only | split

theorem State.effKey_only {j : Fin 64} {sub : Nat} {bs : Bytes} {v : Int} (h : Only P s u) (h1 : P (.blob (SS_KEY ↑j))) (h2 : P (.obj (SS_KEY_SET ↑j))) (h3 : P (.obj (SS_KEY_EN ↑j))) (h4 : P .sessions) (h5 : P .best) (h6 : P .bestAt) (h7 : ∀ (y1 : Fin 48), P (.slot y1)) (h8 : P .txs) (h9 : P (.obj TX_OPEN_COUNT)) (h10 : P (.obj TX_PROOF_USED)) (h11 : P (.obj TX_ABORTS)) (h12 : P .raised) (h13 : P .naz) (h14 : P .outs) (h15 : P (.obj C_CLAIM)) (h16 : P (.obj C_OWNER)) (h17 : ∀ (y1 : Fin 4), P (.obj (G_STATE ↑y1))) (h18 : ∀ (y1 : Fin 4), P (.obj (G_VALUE ↑y1))) (h19 : ∀ (y1 : Fin 4), P (.gen y1)) (h20 : P .freeCtr) (h21 : P .cap) (h22 : P (.obj C_STATE)) (h23 : P (.obj C_VERSION)) (h24 : Covers P configParts) (h25 : P (.obj SF_CFG_STATE)) (h26 : P (.obj SF_COMMISSION)) (h27 : P (.obj SF_CFG_SEAL)) (h28 : P (.obj SF_CFG_OWNER)) (h29 : P (.obj SF_LAST_CODE)) (h30 : P .rereading) (h31 : P .freed) (h32 : P .queue) (h33 : P .flights) (h34 : P .routes) (h35 : P (.obj SS_COUNT)) (h36 : P (.obj SS_GUAR_SUM)) (h37 : P (.obj SS_ROUTES)) (h38 : P (.obj HP_PROVISIONED)) (h39 : P (.obj (1191936 + 256 * ↑j + sub))) :
    Only P s (State.effKey u j sub bs v) := by
  with_reducible
    unfold State.effKey
    repeat' first | assumption | apply Only.set | apply Only.setBlob | apply Only.ite | apply State.dropSlot_only | apply State.provision_only | exact h7 _ | exact h17 _ | exact h18 _ | exact h19 _ | intro _ | dsimp only | split

theorem State.effSession_only {sid : Nat} {k : Nat} {bs : Bytes} {v : Int} (h : Only P s u) (h1 : ∀ (y1 : Fin 64), P (.blob (SS_KEY ↑y1))) (h2 : ∀ (y1 : Fin 64), P (.obj (SS_KEY_SET ↑y1))) (h3 : ∀ (y1 : Fin 64), P (.obj (SS_KEY_EN ↑y1))) (h4 : P .sessions) (h5 : P .best) (h6 : P .bestAt) (h7 : ∀ (y1 : Fin 48), P (.slot y1)) (h8 : P .txs) (h9 : P .raised) (h10 : P .naz) (h11 : P .outs) (h12 : ∀ (y1 : Fin 4), P (.obj (G_STATE ↑y1))) (h13 : ∀ (y1 : Fin 4), P (.obj (G_VALUE ↑y1))) (h14 : ∀ (y1 : Fin 4), P (.gen y1)) (h15 : P .freeCtr) (h16 : P .cap) (h17 : Covers P configParts) (h18 : P .rereading) (h19 : P .freed) (h20 : P .queue) (h21 : P .flights) (h22 : P .routes) (h23 : ∀ (y1 : Nat), P (.obj y1)) (h24 : P .locks) (h25 : ∀ (y1 : Fin 10), P (.obj (SS_LOCK_OWNER ↑y1))) (h26 : ∀ (y1 : Fin 10), P (.obj (SS_LOCK_EXPIRY ↑y1))) (h27 : P (.blob k)) (h28 : ∀ (y1 : Fin 2), P (.obj (NP_ADDR_VER ↑y1))) :
    Only P s (State.effSession u sid k bs v) := by
  with_reducible
    unfold State.effSession
    repeat' first | assumption | apply Only.set | apply Only.addCount | apply Only.setBlob | apply Only.ite | apply State.applyLock_only | apply State.effKey_only | apply State.endSession_only | apply State.modSession_only | apply State.newAddress_only | apply State.profileCut_only | apply State.settleTokens_only | apply State.syncSessions_only | exact h1 _ | exact h2 _ | exact h3 _ | exact h7 _ | exact h12 _ | exact h13 _ | exact h14 _ | exact h23 _ | exact h25 _ | exact h26 _ | exact h28 _ | intro _ | exact Only.of_pair ‹_ = (_, _)› ‹_› | apply Only.of_pair ‹_ = (_, _)› | dsimp only | split

theorem State.openTx_only {sid : Nat} (h : Only P s u) (h1 : P .txs) (h2 : P .txUse) (h3 : P (.obj TX_OPEN_COUNT)) (h4 : P (.obj TX_PROOF_USED)) (h5 : P .sessions) :
    Only P s (State.openTx u sid) := by
  with_reducible
    unfold State.openTx
    repeat' first | assumption | apply State.modSession_only | apply State.takeSlot_only | intro _ | exact Only.of_pair ‹_ = (_, _)› ‹_› | apply Only.of_pair ‹_ = (_, _)› | dsimp only | split

theorem State.txParam_only {sid : Nat} {f : Tx → Tx} (h : Only P s u) (h1 : P .txs) :
    Only P s (State.txParam u sid f) := by
  with_reducible
    unfold State.txParam
    repeat' first | assumption | apply State.modTx_only | intro _ | exact Only.of_pair ‹_ = (_, _)› ‹_› | apply Only.of_pair ‹_ = (_, _)› | dsimp only | split

theorem State.effTx_only {sid : Nat} {stamp : Nat} {doms : Nat} {k : Nat} {v : Int} (h : Only P s u) (h1 : P .txs) (h2 : P .txUse) (h3 : P (.obj TX_OPEN_COUNT)) (h4 : P (.obj TX_PROOF_USED)) (h5 : P .sessions) (h6 : P .naz) (h7 : P .outs) (h8 : ∀ (y1 : Fin 48), P (.slot y1)) (h9 : P (.obj TX_ABORTS)) (h10 : P .raised) :
    Only P s (State.effTx u sid stamp doms k v) := by
  with_reducible
    unfold State.effTx
    repeat' first | assumption | apply Only.ite | apply State.abortTx_only | apply State.beginCommit_only | apply State.modSession_only | apply State.openTx_only | apply State.txParam_only | exact h8 _ | intro _ | exact Only.of_pair ‹_ = (_, _)› ‹_› | apply Only.of_pair ‹_ = (_, _)› | dsimp only | split

theorem State.effCan_only {k : Nat} {bs : Bytes} {v : Int} (h : Only P s u) (h1 : ∀ (y1 : Fin 2) (y2 : Fin 64), P (.obj (CB_Q_OWNER ↑y1 ↑y2))) (h2 : ∀ (y1 : Fin 2) (y2 : Fin 64), P (.obj (CB_Q_STATUS ↑y1 ↑y2))) (h3 : ∀ (y1 : Fin 2), P (.can y1)) (h4 : P .freeCtr) (h5 : P (.blob k)) (h6 : P (.obj k)) (h7 : ∀ (y1 : Fin 2), P (.obj (CB_MODE ↑y1))) (h8 : P .power) (h9 : ∀ (y1 : Nat), P (.obj (PW_DOM_STATE y1))) (h10 : P (.obj PW_DAMP_QUEUE)) (h11 : P (.obj PW_DAMP_MAX_Q)) (h12 : ∀ (y1 : Fin 2) (y2 : Nat), P (.obj (CB_Q_STATUS (↑y1) y2))) (h13 : ∀ (y1 : Fin 2) (y2 : Nat), P (.obj (CB_Q_OWNER (↑y1) y2))) (h14 : ∀ (y1 : Fin 2), P (.obj (CB_STATE ↑y1))) (h15 : ∀ (y1 : Nat), P (.obj (IS_STATE y1))) :
    Only P s (State.effCan u k bs v) := by
  with_reducible
    unfold State.effCan
    repeat' first | assumption | apply Only.set | apply Only.ite | apply State.canModeWrite_only | apply State.canRecover_only | apply State.putImage_only | apply State.qAbort_only | apply State.qAck_only | exact h1 _ _ | exact h2 _ _ | exact h3 _ | exact h7 _ | exact h9 _ | exact h12 _ _ | exact h13 _ _ | exact h14 _ | exact h15 _ | intro _ | exact Only.of_pair ‹_ = (_, _)› ‹_› | apply Only.of_pair ‹_ = (_, _)› | dsimp only | split

theorem State.effFw_only {k : Nat} {bs : Bytes} {v : Int} (h : Only P s u) (h1 : P (.obj FW_ACTIVATE)) (h2 : P (.obj FW_UPD_STATE)) (h3 : P .fw) (h4 : P (.obj FW_IMG_OFFSET)) (h5 : P (.obj FW_IMG_STATE)) (h6 : P (.obj FW_IMG_RESULT)) (h7 : P (.obj FW_IMG_VERSION)) (h8 : P .outs) (h9 : P .raised) (h10 : P (.obj FW_SEC_MIN)) (h11 : P (.obj FW_KEY_STATE)) (h12 : P (.obj FW_PARAM_STATE)) (h13 : P (.obj FW_PARAM_GEN)) (h14 : P (.obj k)) :
    Only P s (State.effFw u k bs v) := by
  with_reducible
    unfold State.effFw
    repeat' first | assumption | apply Only.set | apply Only.orBits | apply Only.ite | apply State.activate_only | apply State.imgData_only | apply State.imgOffset_only | apply State.imgVerify_only | apply State.paramErase_only | apply State.paramSave_only | apply State.secCommit_only | intro _ | dsimp only | split

theorem State.effDevice_only {sid : Nat} {k : Nat} {bs : Bytes} {v : Int} (h : Only P s u) (h1 : ∀ (y1 : Fin 6), P (.sec y1)) (h2 : P (.obj S_LOADALL_PEND)) (h3 : P (.obj S_DEV_FAULT)) (h4 : ∀ (y1 : Fin 18), P (.obj (S_Q_CAUSE ↑y1))) (h5 : ∀ (y1 : Fin 18), P (.obj (S_Q_LATCH ↑(secOf y1)))) (h6 : ∀ (y1 : Fin 6) (y2 : Fin 3) (y3 : Nat), P (.obj (codeKey (hbOf y1 y2) y3))) (h7 : P .raised) (h8 : P (.obj SF_ANV_CLIPS)) (h9 : ∀ (y1 : Fin 6), P (.obj (S_STATE ↑y1))) (h10 : ∀ (y1 : Fin 6), P (.obj (S_DEG_PHASE ↑y1))) (h11 : ∀ (y1 : Fin 6), P (.obj (S_STEP ↑y1))) (h12 : ∀ (y1 : Fin 6), P (.obj (S_FUS_STATE ↑y1))) (h13 : ∀ (y1 : Fin 6), P (.obj (S_LOCK_STATE ↑y1))) (h14 : ∀ (y1 : Fin 4), P (.obj (A_SECTIONS ↑y1))) (h15 : ∀ (y1 : Fin 4), P (.obj (A_CASCADE_SECTIONS ↑y1))) (h16 : ∀ (y1 : Fin 4), P (.ax y1)) (h17 : ∀ (y1 : Fin 4), P (.obj (A_FAULT_STATE ↑y1))) (h18 : P .lanes) (h19 : ∀ (y1 : Nat), P (.obj (K_LANE_STATE y1))) (h20 : ∀ (y1 : Nat), P (.obj (PW_DOM_STATE y1))) (h21 : P .power) (h22 : P (.obj PW_DAMP_QUEUE)) (h23 : P (.obj PW_DAMP_MAX_Q)) (h24 : ∀ (y1 : Nat), P (.obj (IS_STATE y1))) (h25 : P (.obj K_SPARE_AVAIL)) (h26 : P .clock) (h27 : P .tongs) (h28 : ∀ (y1 : Fin 18), P (.hb y1)) (h29 : ∀ (y1 : Fin 2), P (.enc y1)) (h30 : ∀ (y1 : Fin 4), P (.gen y1)) (h31 : ∀ (y1 : Nat), P (.obj (SS_LOCK_EXPIRY y1))) (h32 : ∀ (y1 : Fin 6) (y2 : Fin 3), P (.obj (S_GATE_I ↑(hbOf y1 y2)))) (h33 : ∀ (y1 : Fin 6), P (.obj (S_TMIN_RAISE ↑y1))) (h34 : ∀ (y1 : Fin 6), P (.obj (S_PULSE_SUPPRESS ↑y1))) (h35 : ∀ (y1 : Fin 6), P (.obj (S_CMP_ACTIVE ↑y1))) (h36 : P (.obj TB_STEPS)) (h37 : P (.obj TB_LAST_STEP)) (h38 : P .sessions) (h39 : ∀ (y1 : Fin 2), P (.obj (A_ENC_STATUS ↑y1))) (h40 : ∀ (y1 : Fin 2), P (.obj (A_ENC_AXIS ↑y1))) (h41 : ∀ (y1 : Fin 2), P (.obj (A_ENC_COMM_MEAS ↑y1))) (h42 : ∀ (y1 : Fin 4), P (.obj (A_POS_ACT ↑y1))) (h43 : ∀ (y1 : Fin 4), P (.obj (A_START_STAGE ↑y1))) (h44 : ∀ (y1 : Fin 48), P (.slot y1)) (h45 : ∀ (y1 : Fin 4), P (.obj (A_REF_STATE ↑y1))) (h46 : P (.obj k)) (h47 : P (.blob k)) :
    Only P s (State.effDevice u sid k bs v) := by
  with_reducible
    unfold State.effDevice
    repeat' first | assumption | apply Only.set | apply Only.ite | apply State.assignEncoder_only | apply State.clearDevice_only | apply State.clearEncoder_only | apply State.loadAll_only | apply State.modSession_only | apply State.putImage_only | apply State.startRotation_only | apply State.stepTimebase_only | exact h1 _ | exact h4 _ | exact h5 _ | exact h6 _ _ _ | exact h9 _ | exact h10 _ | exact h11 _ | exact h12 _ | exact h13 _ | exact h14 _ | exact h15 _ | exact h16 _ | exact h17 _ | exact h19 _ | exact h20 _ | exact h24 _ | exact h28 _ | exact h29 _ | exact h30 _ | exact h31 _ | exact h32 _ _ | exact h33 _ | exact h34 _ | exact h35 _ | exact h39 _ | exact h40 _ | exact h41 _ | exact h42 _ | exact h43 _ | exact h44 _ | exact h45 _ | intro _ | exact Only.of_pair ‹_ = (_, _)› ‹_› | apply Only.of_pair ‹_ = (_, _)› | dsimp only | split

/-! ### Access -/

theorem State.plainScalar_only {k : Nat} (h : Only P s u) (h1 : P .freeCtr) :
    Only P s (State.plainScalar u k).2 := by
  with_reducible
    unfold State.plainScalar
    repeat' first | assumption | apply Only.free | apply Only.ite | intro _ | exact Only.of_pair ‹_ = (_, _)› ‹_› | apply Only.of_pair ‹_ = (_, _)› | dsimp only | split

theorem State.scalar_only {sid : Nat} {k : Nat} (h : Only P s u) (h1 : P .freeCtr) :
    Only P s (State.scalar u sid k).2 := by
  with_reducible
    unfold State.scalar
    repeat' first | assumption | apply Only.ite | apply State.plainScalar_only | intro _ | exact Only.of_pair ‹_ = (_, _)› ‹_› | apply Only.of_pair ‹_ = (_, _)› | dsimp only | split

theorem State.content_only {sid : Nat} {k : Nat} (h : Only P s u) (h1 : P .freeCtr) :
    Only P s (State.content u sid k).2 := by
  with_reducible
    unfold State.content
    repeat' first | assumption | apply Only.ite | apply State.capBytes_only | intro _ | exact Only.of_pair ‹_ = (_, _)› ‹_› | apply Only.of_pair ‹_ = (_, _)› | dsimp only | split

theorem State.readObj_only {sid : Nat} {rq : Nat} {k : Nat} (h : Only P s u) (h1 : P (.obj (ST_GRANTS rq))) (h2 : P (.obj ST_MAX_WAIT)) (h3 : P (.obj ST_BUSY)) (h4 : P .port) (h5 : P .freeCtr) (h6 : P .sessions) :
    Only P s (State.readObj u sid rq k).2.2 := by
  with_reducible
    unfold State.readObj
    repeat' first | assumption | apply Only.ite | apply State.content_only | apply State.modSession_only | apply State.scalar_only | apply State.transfers_only | intro _ | exact Only.of_pair ‹_ = (_, _)› ‹_› | apply Only.of_pair ‹_ = (_, _)› | dsimp only | split

theorem State.subscribe_only {sid : Nat} {addr : Nat} {tag : Nat} {bs : Bytes} (h : Only P s u) (h1 : P .sessions) :
    Only P s (State.subscribe u sid addr tag bs).2 := by
  with_reducible
    unfold State.subscribe
    repeat' first | assumption | apply Only.ite | apply State.modSession_only | intro _ | exact Only.of_pair ‹_ = (_, _)› ‹_› | apply Only.of_pair ‹_ = (_, _)› | dsimp only | split

theorem State.unsubscribe_only {sid : Nat} {addr : Nat} (h : Only P s u) (h1 : P .sessions) :
    Only P s (State.unsubscribe u sid addr).2 := by
  with_reducible
    unfold State.unsubscribe
    repeat' first | assumption | apply State.modSession_only | intro _ | exact Only.of_pair ‹_ = (_, _)› ‹_› | apply Only.of_pair ‹_ = (_, _)› | dsimp only | split

theorem State.stageWrite_only {b : By} {t : Tx} {k : Nat} {bs : Bytes} (h : Only P s u) (h1 : P .txs) (h2 : P (.obj TX_OPEN_COUNT)) (h3 : P (.obj TX_PROOF_USED)) (h4 : P (.obj (ST_GRANTS 11))) (h5 : P (.obj ST_MAX_WAIT)) (h6 : P (.obj ST_BUSY)) (h7 : P .port) (h8 : P .raised) (h9 : P (.obj SF_ANV_CLIPS)) :
    Only P s (State.stageWrite u b t k bs).2 := by
  with_reducible
    unfold State.stageWrite
    repeat' first | assumption | apply Only.ite | apply State.clip_only | apply State.modTx_only | apply State.syncTx_only | apply State.transfers_only | intro _ | exact Only.of_pair ‹_ = (_, _)› ‹_› | apply Only.of_pair ‹_ = (_, _)› | dsimp only | split

theorem State.failHead_only {sid : Nat} {k : Nat} {h0 : Nat} (h : Only P s u) (h1 : ∀ (y1 : Fin 48), P (.slot y1)) (h2 : P .txs) (h3 : P (.obj TX_OPEN_COUNT)) (h4 : P (.obj TX_PROOF_USED)) (h5 : P (.obj TX_ABORTS)) (h6 : P .raised) (h7 : P .sessions) (h8 : P .naz) (h9 : P .outs) :
    Only P s (State.failHead u sid k h0) := by
  with_reducible
    unfold State.failHead
    repeat' first | assumption | apply Only.ite | apply State.abortTx_only | exact h1 _ | intro _ | exact Only.of_pair ‹_ = (_, _)› ‹_› | apply Only.of_pair ‹_ = (_, _)› | dsimp only | split

theorem State.reply_only {c : Option Nat} {bs : Bytes} (h : Only P s u) (h1 : P .outs) :
    Only P s (State.reply u c bs) := by
  with_reducible
    unfold State.reply
    repeat' first | assumption | apply Only.emit | intro _ | exact Only.of_pair ‹_ = (_, _)› ‹_› | apply Only.of_pair ‹_ = (_, _)› | dsimp only | split

theorem State.takeToken_only {sid : Nat} (h : Only P s u) (h1 : P .sessions) (h2 : P .best) (h3 : P .bestAt) (h4 : P (.obj SS_COUNT)) (h5 : P (.obj SS_GUAR_SUM)) (h6 : P (.obj SS_ROUTES)) :
    Only P s (State.takeToken u sid).2 := by
  with_reducible
    unfold State.takeToken
    repeat' first | assumption | apply Only.ite | apply State.charge_only | apply State.ensureHost_only | intro _ | dsimp only | split

theorem State.charged_only {sid : Nat} {head : Nat} {k : State → Option Nat × Bytes × State} (h : Only P s u) (h1 : P .sessions) (h2 : P .best) (h3 : P .bestAt) (h4 : P (.obj SS_COUNT)) (h5 : P (.obj SS_GUAR_SUM)) (h6 : P (.obj SS_ROUTES)) (h7 : P .outs) (hkk : ∀ v, Only P s v → Only P s (k v).2.2) :
    Only P s (State.charged u sid head k) := by
  with_reducible
    unfold State.charged
    repeat' first | assumption | apply Only.ite | apply State.countRefused_only | apply State.reply_only | apply State.takeToken_only | apply hkk | intro _ | exact Only.of_pair ‹_ = (_, _)› ‹_› | apply Only.of_pair ‹_ = (_, _)› | dsimp only | split

theorem State.afterKey_only {k : Nat} (h : Only P s u) (h1 : P .sessions) (h2 : P .best) (h3 : P .bestAt) (h4 : ∀ (y1 : Fin 48), P (.slot y1)) (h5 : P .txs) (h6 : P (.obj TX_OPEN_COUNT)) (h7 : P (.obj TX_PROOF_USED)) (h8 : P (.obj TX_ABORTS)) (h9 : P .raised) (h10 : P .naz) (h11 : P .outs) (h12 : P (.obj C_CLAIM)) (h13 : P (.obj C_OWNER)) (h14 : ∀ (y1 : Fin 4), P (.obj (G_STATE ↑y1))) (h15 : ∀ (y1 : Fin 4), P (.obj (G_VALUE ↑y1))) (h16 : ∀ (y1 : Fin 4), P (.gen y1)) (h17 : P .freeCtr) (h18 : P .cap) (h19 : P (.obj C_STATE)) (h20 : P (.obj C_VERSION)) (h21 : Covers P configParts) (h22 : P (.obj SF_CFG_STATE)) (h23 : P (.obj SF_COMMISSION)) (h24 : P (.obj SF_CFG_SEAL)) (h25 : P (.obj SF_CFG_OWNER)) (h26 : P (.obj SF_LAST_CODE)) (h27 : P .rereading) (h28 : P .freed) (h29 : P .queue) (h30 : P .flights) (h31 : P .routes) (h32 : P (.obj SS_COUNT)) (h33 : P (.obj SS_GUAR_SUM)) (h34 : P (.obj SS_ROUTES)) :
    Only P s (State.afterKey u k) := by
  with_reducible
    unfold State.afterKey
    repeat' first | assumption | apply Only.ite | apply State.settleHost_only | exact h4 _ | exact h14 _ | exact h15 _ | exact h16 _ | intro _ | dsimp only | split

/-! ### Writes -/

theorem State.settleHeld_only {h0 : Held} {code : Nat} {val : Bytes} (h : Only P s u) (h1 : P .flights) (h2 : P .sessions) (h3 : P .naz) (h4 : P .outs) (h5 : P (.can 0)) (h6 : P (.can 1)) (h7 : P .hostOut) (h8 : P .best) (h9 : P .bestAt) (h10 : ∀ (y1 : Fin 48), P (.slot y1)) (h11 : P .txs) (h12 : P (.obj TX_OPEN_COUNT)) (h13 : P (.obj TX_PROOF_USED)) (h14 : P (.obj TX_ABORTS)) (h15 : P .raised) (h16 : P (.obj C_CLAIM)) (h17 : P (.obj C_OWNER)) (h18 : ∀ (y1 : Fin 4), P (.obj (G_STATE ↑y1))) (h19 : ∀ (y1 : Fin 4), P (.obj (G_VALUE ↑y1))) (h20 : ∀ (y1 : Fin 4), P (.gen y1)) (h21 : P .freeCtr) (h22 : P .cap) (h23 : P (.obj C_STATE)) (h24 : P (.obj C_VERSION)) (h25 : Covers P configParts) (h26 : P (.obj SF_CFG_STATE)) (h27 : P (.obj SF_COMMISSION)) (h28 : P (.obj SF_CFG_SEAL)) (h29 : P (.obj SF_CFG_OWNER)) (h30 : P (.obj SF_LAST_CODE)) (h31 : P .rereading) (h32 : P .freed) (h33 : P .queue) (h34 : P .routes) (h35 : P (.obj SS_COUNT)) (h36 : P (.obj SS_GUAR_SUM)) (h37 : P (.obj SS_ROUTES)) :
    Only P s (State.settleHeld u h0 code val) := by
  with_reducible
    unfold State.settleHeld
    repeat' first | assumption | apply State.afterKey_only | apply State.answer_only | apply State.countRefused_only | apply State.fill_only | apply State.reply_only | exact h10 _ | exact h18 _ | exact h19 _ | exact h20 _ | intro _ | exact Only.of_pair ‹_ = (_, _)› ‹_› | apply Only.of_pair ‹_ = (_, _)› | dsimp only | split

/-! ### Capture -/

theorem State.chanObject_only {c : Fin 32} (h : Only P s u) (h1 : P (.obj (ST_GRANTS 8))) (h2 : P (.obj ST_MAX_WAIT)) (h3 : P (.obj ST_BUSY)) (h4 : P .port) (h5 : P .freeCtr) (h6 : P .sessions) :
    Only P s (State.chanObject u c).2 := by
  with_reducible
    unfold State.chanObject
    repeat' first | assumption | apply Only.ite | apply State.readObj_only | intro _ | exact Only.of_pair ‹_ = (_, _)› ‹_› | apply Only.of_pair ‹_ = (_, _)› | dsimp only | split

theorem State.chanRead_only {c : Fin 32} (h : Only P s u) (h1 : P (.obj (ST_GRANTS 8))) (h2 : P (.obj ST_MAX_WAIT)) (h3 : P (.obj ST_BUSY)) (h4 : P .port) (h5 : P .freeCtr) (h6 : P .sessions) :
    Only P s (State.chanRead u c).2 := by
  with_reducible
    unfold State.chanRead
    repeat' first | assumption | apply Only.ite | apply State.chanObject_only | intro _ | dsimp only | split

theorem State.chanReads_only (h : Only P s u) (h1 : P (.obj (ST_GRANTS 8))) (h2 : P (.obj ST_MAX_WAIT)) (h3 : P (.obj ST_BUSY)) (h4 : P .port) (h5 : P .freeCtr) (h6 : P .sessions) :
    Only P s (State.chanReads u).2 := by
  with_reducible
    unfold State.chanReads
    repeat' first | assumption | apply State.chanRead_only | intro _ | exact Only.of_pair ‹_ = (_, _)› ‹_› | apply Only.of_pair ‹_ = (_, _)› | dsimp only | split | apply Only.foldl | apply Only.foldl_pair

theorem State.capTick_only (h : Only P s u) (h1 : P (.obj (ST_GRANTS 8))) (h2 : P (.obj ST_MAX_WAIT)) (h3 : P (.obj ST_BUSY)) (h4 : P .port) (h5 : P .freeCtr) (h6 : P .sessions) (h7 : P .cap) (h8 : P (.obj C_STATE)) (h9 : P (.obj C_TRIG_STAMP)) (h10 : P .raised) (h11 : P (.obj C_RECORDS)) (h12 : P (.obj C_TRIG_REC)) (h13 : P (.obj C_VERSION)) :
    Only P s (State.capTick u) := by
  with_reducible
    unfold State.capTick
    repeat' first | assumption | apply Only.set | apply Only.ite | apply State.capComplete_only | apply State.capRecord_only | apply State.capWaiting_only | apply State.chanReads_only | apply State.jTune_only | intro _ | exact Only.of_pair ‹_ = (_, _)› ‹_› | apply Only.of_pair ‹_ = (_, _)› | dsimp only | split | apply Only.w_cap | apply Only.foldl | apply Only.foldl_pair

end Sys2Proof.Safety
end

