-- ==== Sys2Proof/Laws/OnlyRequest.lean ====
section
/-! SUPPORT. Frames of the operations of commits, frames, requests and PDOs: the parts of the state that each may change. -/

set_option linter.all false

namespace Sys2Proof.Safety
open Sys2Proof.Machine Sys2Proof.Machine.Obj

variable {P : Part → Prop} {s u : State}

/-! ### Commit -/

theorem State.clipStaged_only {a : List (Nat × Bytes)} (h : Only P s u) (h1 : P .raised) (h2 : P (.obj SF_ANV_CLIPS)) :
    Only P s (State.clipStaged u a).2 := by
  induction a generalizing u with
  | nil => ?_
  | cons e r ih => ?_
  all_goals first
    | exact h
    | (with_reducible
        unfold State.clipStaged
        repeat' first | assumption | apply Only.ite | apply State.clip_only | apply ih | intro _ | exact Only.of_pair ‹_ = (_, _)› ‹_› | apply Only.of_pair ‹_ = (_, _)› | dsimp only | split)

theorem committed_only {l : List (Nat × Bytes)} (h : Only P s u) (h1 : ∀ (y1 : Nat), P (.blob y1)) (h2 : ∀ (y1 : Nat), P (.obj y1)) (h3 : ∀ (y1 : Fin 48), P (.slot y1)) :
    Only P s (committed u l) := by
  with_reducible
    unfold committed
    repeat' first | assumption | apply Only.modSlot | apply Only.each | apply Only.ite | apply State.putImage_only | exact h1 _ | exact h2 _ | exact h3 _ | intro _ | exact Only.of_pair ‹_ = (_, _)› ‹_› | apply Only.of_pair ‹_ = (_, _)› | dsimp only | split

theorem State.prepareBanks_only {t : Tx} (h : Only P s u) (h1 : ∀ (y1 : Fin 48), P (.slot y1)) :
    Only P s (State.prepareBanks u t) := by
  with_reducible
    unfold State.prepareBanks
    repeat' first | assumption | apply Only.each | apply State.prepareSlot_only | exact h1 _ | intro _ | dsimp only | split

theorem State.vote_only {t : Tx} {code : Nat} {addr : Nat} (h : Only P s u) (h1 : P .naz) (h2 : P .outs) :
    Only P s (State.vote u t code addr) := by
  with_reducible
    unfold State.vote
    repeat' first | assumption | apply State.sendTx_only | intro _ | exact Only.of_pair ‹_ = (_, _)› ‹_› | apply Only.of_pair ‹_ = (_, _)› | dsimp only | split

theorem State.refusedStage_only {t : Tx} {l : List (Nat × Bytes)} {k : Nat} (h : Only P s u) (h1 : P (.obj SF_CFG_RESULT)) (h2 : P .raised) (h3 : P (.obj SF_LAST_CODE)) :
    Only P s (State.refusedStage u t l k) := by
  with_reducible
    unfold State.refusedStage
    repeat' first | assumption | apply Only.ite | apply State.refusedSafety_only | intro _ | exact Only.of_pair ‹_ = (_, _)› ‹_› | apply Only.of_pair ‹_ = (_, _)› | dsimp only | split

theorem State.failPrepare_only {t : Tx} {code : Nat} {key : Nat} (h : Only P s u) (h1 : ∀ (y1 : Fin 48), P (.slot y1)) (h2 : P .txs) (h3 : P (.obj TX_OPEN_COUNT)) (h4 : P (.obj TX_PROOF_USED)) (h5 : P (.obj TX_ABORTS)) (h6 : P .raised) (h7 : P .sessions) (h8 : P .naz) (h9 : P .outs) :
    Only P s (State.failPrepare u t code key) := by
  with_reducible
    unfold State.failPrepare
    repeat' first | assumption | apply State.abortTx_only | apply State.vote_only | exact h1 _ | intro _ | dsimp only | split

theorem State.prepare_only {t : Tx} (h : Only P s u) (h1 : ∀ (y1 : Fin 48), P (.slot y1)) (h2 : P .txs) (h3 : P (.obj TX_OPEN_COUNT)) (h4 : P (.obj TX_PROOF_USED)) (h5 : P (.obj TX_ABORTS)) (h6 : P .raised) (h7 : P .sessions) (h8 : P .naz) (h9 : P .outs) (h10 : P (.obj SF_ANV_CLIPS)) (h11 : P (.obj SF_CFG_RESULT)) (h12 : P (.obj SF_LAST_CODE)) (h13 : P (.obj (ST_GRANTS 11))) (h14 : P (.obj ST_MAX_WAIT)) (h15 : P (.obj ST_BUSY)) (h16 : P .port) :
    Only P s (State.prepare u t) := by
  with_reducible
    unfold State.prepare
    repeat' first | assumption | apply Only.ite | apply State.clipStaged_only | apply State.failPrepare_only | apply State.modTx_only | apply State.prepareBanks_only | apply State.refusedStage_only | apply State.transfers_only | apply State.tryDecide_only | apply State.vote_only | exact h1 _ | intro _ | exact Only.of_pair ‹_ = (_, _)› ‹_› | apply Only.of_pair ‹_ = (_, _)› | dsimp only | split

theorem State.keepVersion_only {s0 : State} {k : Nat} (h : Only P s u) (h1 : ∀ (y1 : Nat), P (.obj y1)) :
    Only P s (State.keepVersion u s0 k) := by
  with_reducible
    unfold State.keepVersion
    repeat' first | assumption | apply Only.set | exact h1 _ | intro _ | exact Only.of_pair ‹_ = (_, _)› ‹_› | apply Only.of_pair ‹_ = (_, _)› | dsimp only | split

theorem State.flipStaged_only {t : Tx} (h : Only P s u) (h1 : P .lanes) (h2 : ∀ (y1 : Fin 48), P (.slot y1)) (h3 : ∀ (y1 : Fin 48), P (.obj (K_BANK ↑y1))) (h4 : P (.obj S_BLW_ACTIVE)) (h5 : P .raised) (h6 : ∀ (y1 : Fin 4), P (.obj (A_SECTIONS ↑y1))) (h7 : ∀ (y1 : Fin 4), P (.obj (A_CASCADE_SECTIONS ↑y1))) (h8 : ∀ (y1 : Fin 4), P (.ax y1)) (h9 : ∀ (y1 : Fin 4), P (.obj (A_FAULT_STATE ↑y1))) (h10 : ∀ (y1 : Fin 18), P (.hb y1)) (h11 : ∀ (y1 : Fin 18), P (.obj (S_GATE_I ↑y1))) (h12 : ∀ (y1 : Fin 6), P (.sec y1)) (h13 : ∀ (y1 : Fin 6), P (.obj (S_ENABLE ↑y1))) (h14 : ∀ (y1 : Fin 6), P (.obj (S_STATE ↑y1))) (h15 : ∀ (y1 : Fin 6), P (.obj (S_DEG_PHASE ↑y1))) (h16 : ∀ (y1 : Fin 6), P (.obj (S_STEP ↑y1))) (h17 : ∀ (y1 : Fin 6), P (.obj (S_FUS_STATE ↑y1))) (h18 : ∀ (y1 : Fin 6), P (.obj (S_LOCK_STATE ↑y1))) (h19 : ∀ (y1 : Fin 6), P (.obj (S_Q_LAST ↑y1))) (h20 : P (.obj S_DEV_FAULT)) (h21 : ∀ (y1 : Nat), P (.obj (A_FAULT_STATE y1))) (h22 : ∀ (y1 : Fin 48), P (.obj (K_SET_VER ↑y1))) :
    Only P s (State.flipStaged u t) := by
  with_reducible
    unfold State.flipStaged
    repeat' first | assumption | apply Only.modSlot | apply Only.each | apply State.flipSlot_only | apply State.overtake_only | apply State.verFlip_only | exact h2 _ | exact h3 _ | exact h6 _ | exact h7 _ | exact h8 _ | exact h9 _ | exact h10 _ | exact h11 _ | exact h12 _ | exact h13 _ | exact h14 _ | exact h15 _ | exact h16 _ | exact h17 _ | exact h18 _ | exact h19 _ | exact h21 _ | exact h22 _ | intro _ | dsimp only | split

theorem State.finishTx_only {id : Nat} (h : Only P s u) (h1 : P .txs) (h2 : P (.obj TX_OPEN_COUNT)) (h3 : P (.obj TX_PROOF_USED)) (h4 : P (.obj TX_COMMITS)) :
    Only P s (State.finishTx u id) := by
  with_reducible
    unfold State.finishTx
    repeat' first | assumption | apply Only.inc | apply Only.ite | apply State.modTx_only | apply State.syncTx_only | intro _ | exact Only.of_pair ‹_ = (_, _)› ‹_› | apply Only.of_pair ‹_ = (_, _)› | dsimp only | split

theorem State.receiveTx_only {p : Fin 2} {kind : Nat} {bs : Bytes} {k : NazF → State → State} (h : Only P s u) (h1 : P (.obj (NZ_CRC_ERR ↑p))) (h2 : P .outs) (h3 : P .naz) (hkk : ∀ z0 v, Only P s v → Only P s (k z0 v)) :
    Only P s (State.receiveTx u p kind bs k) := by
  with_reducible
    unfold State.receiveTx
    repeat' first | assumption | apply Only.ite | apply State.receive_only | apply hkk | intro _ | dsimp only | split

theorem State.takeDone_only {id : Nat} {d : Nat} {code : Nat} (h : Only P s u) (h1 : P .txs) (h2 : P (.obj TX_OPEN_COUNT)) (h3 : P (.obj TX_PROOF_USED)) (h4 : P (.obj TX_COMMITS)) :
    Only P s (State.takeDone u id d code) := by
  with_reducible
    unfold State.takeDone
    repeat' first | assumption | apply Only.ite | apply State.finishTx_only | apply State.modTx_only | intro _ | exact Only.of_pair ‹_ = (_, _)› ‹_› | apply Only.of_pair ‹_ = (_, _)› | dsimp only | split

theorem State.merge_only {f : NazF} {ready : Bool} (h : Only P s u) (h1 : P .naz) (h2 : P (.obj NZ_SNAP_STATE)) :
    Only P s (State.merge u f ready).2 := by
  with_reducible
    unfold State.merge
    repeat' first | assumption | apply Only.ite | apply State.armSnap_only | intro _ | exact Only.of_pair ‹_ = (_, _)› ‹_› | apply Only.of_pair ‹_ = (_, _)› | dsimp only | split

theorem State.foreignToken_only {p : Fin 2} {f : NazF} {arrived : Nat} (h : Only P s u) (h1 : P .outs) (h2 : P .naz) (h3 : P (.obj NZ_SNAP_STATE)) :
    Only P s (State.foreignToken u p f arrived) := by
  with_reducible
    unfold State.foreignToken
    repeat' first | assumption | apply Only.ite | apply State.markMerged_only | apply State.merge_only | apply State.modNaz_only | apply State.passToken_only | intro _ | exact Only.of_pair ‹_ = (_, _)› ‹_› | apply Only.of_pair ‹_ = (_, _)› | dsimp only | split

theorem State.rejudge_only (h : Only P s u) (h1 : P .naz) (h2 : P .outs) (h3 : P (.obj NZ_SNAP_STATE)) :
    Only P s (State.rejudge u) := by
  with_reducible
    unfold State.rejudge
    repeat' first | assumption | apply Only.each | apply Only.ite | apply State.foreignToken_only | apply State.modNaz_only | intro _ | exact Only.of_pair ‹_ = (_, _)› ‹_› | apply Only.of_pair ‹_ = (_, _)› | dsimp only | split

theorem State.voteDone_only {pay : Bytes} (h : Only P s u) (h1 : ∀ (y1 : Fin 48), P (.slot y1)) (h2 : P .txs) (h3 : P (.obj TX_OPEN_COUNT)) (h4 : P (.obj TX_PROOF_USED)) (h5 : P (.obj TX_ABORTS)) (h6 : P .raised) (h7 : P .sessions) (h8 : P .naz) (h9 : P .outs) :
    Only P s (State.voteDone u pay) := by
  with_reducible
    unfold State.voteDone
    repeat' first | assumption | apply Only.each | apply Only.ite | apply State.abortTx_only | apply State.takeVote_only | exact h1 _ | intro _ | exact Only.of_pair ‹_ = (_, _)› ‹_› | apply Only.of_pair ‹_ = (_, _)› | dsimp only | split

theorem State.snapBack_only {pay : Bytes} (h : Only P s u) (h1 : P .naz) (h2 : P .outs) (h3 : P (.obj NZ_SNAP_STATE)) (h4 : P .raised) :
    Only P s (State.snapBack u pay) := by
  with_reducible
    unfold State.snapBack
    repeat' first | assumption | apply Only.ite | apply State.voidAll_only | intro _ | dsimp only | split

theorem State.loadSnatch_only {a : Fin 4} {v : Nat} (h : Only P s u) (h1 : P (.obj (A_SNATCH_STATE ↑a))) (h2 : P (.ax a)) :
    Only P s (State.loadSnatch u a v) := by
  with_reducible
    unfold State.loadSnatch
    repeat' first | assumption | apply Only.set | apply Only.modAx | apply Only.ite | intro _ | dsimp only | split

theorem State.loadBlocks_only (h : Only P s u) (h1 : ∀ (y1 : Fin 4), P (.obj (A_START_STAGE ↑y1))) (h2 : ∀ (y1 : Fin 4), P (.ax y1)) (h3 : ∀ (y1 : Fin 48), P (.slot y1)) (h4 : ∀ (y1 : Fin 6) (y2 : Fin 3), P (.hb (hbOf y1 y2))) (h5 : ∀ (y1 : Fin 6) (y2 : Fin 3), P (.obj (S_GATE_I ↑(hbOf y1 y2)))) (h6 : ∀ (y1 : Fin 6), P (.sec y1)) (h7 : P .raised) (h8 : ∀ (y1 : Fin 4), P (.obj (A_TORQUE_CMD ↑y1))) (h9 : ∀ (y1 : Fin 4), P (.obj (A_POS_REF ↑y1))) (h10 : ∀ (y1 : Fin 4), P (.obj (A_PROF_SPEED ↑y1))) (h11 : ∀ (y1 : Fin 4), P (.obj (A_PROF_ACCEL ↑y1))) (h12 : ∀ (y1 : Fin 4), P (.obj (A_PROF_STATE ↑y1))) (h13 : ∀ (y1 : Fin 4), P (.obj (A_RENDER_STATE ↑y1))) (h14 : ∀ (y1 : Fin 4), P (.obj (A_CASCADE_SECTIONS ↑y1))) (h15 : ∀ (y1 : Fin 4), P (.obj (A_SNATCH_STATE ↑y1))) :
    Only P s (State.loadBlocks u) := by
  with_reducible
    unfold State.loadBlocks
    repeat' first | assumption | apply Only.set | apply Only.modAx | apply Only.each | apply Only.ite | apply State.enterStage_only | apply State.histDirect_only | apply State.loadSnatch_only | exact h1 _ | exact h2 _ | exact h3 _ | exact h4 _ _ | exact h5 _ _ | exact h6 _ | exact h8 _ | exact h9 _ | exact h10 _ | exact h11 _ | exact h12 _ | exact h13 _ | exact h14 _ | exact h15 _ | intro _ | dsimp only | split

theorem State.releaseFrame_only {h0 : HeldFrame} (h : Only P s u) (h1 : P .naz) (h2 : P (.obj NZ_STATE)) (h3 : ∀ (y1 : Fin 4), P (.ax y1)) (h4 : ∀ (y1 : Fin 4), P (.obj (A_DEV_TORQUE ↑y1))) (h5 : ∀ (y1 : Fin 4), P (.obj (A_START_STAGE ↑y1))) (h6 : ∀ (y1 : Fin 48), P (.slot y1)) (h7 : ∀ (y1 : Fin 6) (y2 : Fin 3), P (.hb (hbOf y1 y2))) (h8 : ∀ (y1 : Fin 6) (y2 : Fin 3), P (.obj (S_GATE_I ↑(hbOf y1 y2)))) (h9 : ∀ (y1 : Fin 6), P (.sec y1)) (h10 : P .raised) (h11 : ∀ (y1 : Fin 4), P (.obj (A_REF_STATE ↑y1))) (h12 : ∀ (y1 : Fin 4), P (.obj (A_POS_REF ↑y1))) (h13 : ∀ (y1 : Fin 4), P (.obj (A_PROF_SPEED ↑y1))) (h14 : ∀ (y1 : Fin 4), P (.obj (A_PROF_ACCEL ↑y1))) (h15 : ∀ (y1 : Fin 4), P (.obj (A_FAULT_STATE ↑y1))) (h16 : ∀ (y1 : Fin 4), P (.obj (A_SECTIONS ↑y1))) (h17 : ∀ (y1 : Fin 4), P (.obj (A_CASCADE_SECTIONS ↑y1))) (h18 : ∀ (y1 : Fin 4), P (.obj (A_FUS_CORR ↑y1))) (h19 : ∀ (y1 : Fin 4), P (.obj (A_FUS_DEV_DROPPED ↑y1))) (h20 : P .freeCtr) (h21 : P (.obj (ST_GRANTS 4))) (h22 : P (.obj ST_MAX_WAIT)) (h23 : P (.obj ST_BUSY)) (h24 : P .port) :
    Only P s (State.releaseFrame u h0) := by
  with_reducible
    unfold State.releaseFrame
    repeat' first | assumption | apply Only.ite | apply State.acceptCyclic_only | apply State.modNaz_only | exact h3 _ | exact h4 _ | exact h5 _ | exact h6 _ | exact h7 _ _ | exact h8 _ _ | exact h9 _ | exact h11 _ | exact h12 _ | exact h13 _ | exact h14 _ | exact h15 _ | exact h16 _ | exact h17 _ | exact h18 _ | exact h19 _ | intro _ | dsimp only | split

theorem State.losePart_only {d : Nat} {t : Tx} (h : Only P s u) (h1 : ∀ (y1 : Fin 48), P (.slot y1)) (h2 : P .txs) (h3 : P (.obj TX_OPEN_COUNT)) (h4 : P (.obj TX_PROOF_USED)) (h5 : P (.obj TX_ABORTS)) (h6 : P .raised) (h7 : P .sessions) (h8 : P .naz) (h9 : P .outs) (h10 : P (.obj TX_COMMITS)) :
    Only P s (State.losePart u d t) := by
  with_reducible
    unfold State.losePart
    repeat' first | assumption | apply Only.ite | apply State.abortTx_only | apply State.jTx_only | apply State.takeDone_only | exact h1 _ | intro _ | dsimp only | split

/-! ### Frames -/

theorem State.jRefused_only {p : Fin 3} {slot : Nat} {code : Nat} (h : Only P s u) (h1 : P .last06) (h2 : P .raised) :
    Only P s (State.jRefused u p slot code) := by
  with_reducible
    unfold State.jRefused
    repeat' first | assumption | apply Only.ite | apply State.jSession_only | intro _ | exact Only.of_pair ‹_ = (_, _)› ‹_› | apply Only.of_pair ‹_ = (_, _)› | dsimp only | split | apply Only.w_last06

theorem State.tagFails_only {p : Fin 3} (h : Only P s u) (h1 : P (.obj (NP_TAG_FAIL ↑p))) (h2 : P .last07) (h3 : P .raised) :
    Only P s (State.tagFails u p) := by
  with_reducible
    unfold State.tagFails
    repeat' first | assumption | apply Only.inc | apply Only.ite | apply State.jSession_only | intro _ | exact Only.of_pair ‹_ = (_, _)› ‹_› | apply Only.of_pair ‹_ = (_, _)› | dsimp only | split | apply Only.w_last07

theorem State.hostDiscard_only {n : Nat} (h : Only P s u) (h1 : P .last08) (h2 : P .raised) :
    Only P s (State.hostDiscard u n) := by
  with_reducible
    unfold State.hostDiscard
    repeat' first | assumption | apply Only.journal | apply Only.ite | intro _ | dsimp only | split | apply Only.w_last08

theorem State.replyTo_only {sid : Nat} {seq : Nat} {ty : Nat} {pay : Bytes} (h : Only P s u) (h1 : P .sessions) (h2 : P .outs) (h3 : P .hostOut) :
    Only P s (State.replyTo u sid seq ty pay) := by
  with_reducible
    unfold State.replyTo
    repeat' first | assumption | apply State.modSession_only | apply State.sendApp_only | intro _ | exact Only.of_pair ‹_ = (_, _)› ‹_› | apply Only.of_pair ‹_ = (_, _)› | dsimp only | split

theorem State.receiveApp_only {p : Fin 3} {src : Bytes} {bs : Bytes} {ty : Nat} {k : AppF → Session → State → State} (h : Only P s u) (h1 : P .sessions) (h2 : P .best) (h3 : P .bestAt) (h4 : P (.obj SS_COUNT)) (h5 : P (.obj SS_GUAR_SUM)) (h6 : P (.obj SS_ROUTES)) (h7 : P (.obj (NP_TAG_FAIL ↑p))) (h8 : P .last07) (h9 : P .raised) (h10 : P .outs) (h11 : P .hostOut) (hkk : ∀ z0 z1 v, Only P s v → Only P s (k z0 z1 v)) :
    Only P s (State.receiveApp u p src bs ty k) := by
  with_reducible
    unfold State.receiveApp
    repeat' first | assumption | apply Only.each | apply Only.ite | apply State.ensureHost_only | apply State.modSession_only | apply State.sendFrame_only | apply State.tagFails_only | apply hkk | intro _ | exact Only.of_pair ‹_ = (_, _)› ‹_› | apply Only.of_pair ‹_ = (_, _)› | dsimp only | split

theorem State.answerOpen_only {p : Fin 3} {src : Bytes} {key : Bytes} {ty : Nat} {pay : Bytes} (h : Only P s u) (h1 : P .outs) (h2 : P .hostOut) :
    Only P s (State.answerOpen u p src key ty pay) := by
  with_reducible
    unfold State.answerOpen
    repeat' first | assumption | apply State.sendFrame_only | intro _ | dsimp only | split

theorem State.refuseOpen_only {p : Fin 3} {src : Bytes} {key : Bytes} {slot : Nat} {code : Nat} (h : Only P s u) (h1 : P .outs) (h2 : P .hostOut) (h3 : P (.obj SS_OPEN_REFUSED)) (h4 : P .last06) (h5 : P .raised) :
    Only P s (State.refuseOpen u p src key slot code) := by
  with_reducible
    unfold State.refuseOpen
    repeat' first | assumption | apply Only.inc | apply State.answerOpen_only | apply State.jRefused_only | intro _ | dsimp only | split

theorem State.countOpen_only {p : Fin 3} (h : Only P s u) (h1 : P .opens) :
    Only P s (State.countOpen u p).2 := by
  with_reducible
    unfold State.countOpen
    repeat' first | assumption | apply Only.ite | intro _ | exact Only.of_pair ‹_ = (_, _)› ‹_› | apply Only.of_pair ‹_ = (_, _)› | dsimp only | split | apply Only.w_opens

theorem State.receiveOpen_only {p : Fin 3} {src : Bytes} {bs : Bytes} {ty : Nat} {k : AppF → Session → State → State} (h : Only P s u) (h1 : P .sessions) (h2 : P .best) (h3 : P .bestAt) (h4 : P (.obj SS_COUNT)) (h5 : P (.obj SS_GUAR_SUM)) (h6 : P (.obj SS_ROUTES)) (h7 : P (.obj (NP_TAG_FAIL ↑p))) (h8 : P .last07) (h9 : P .raised) (h10 : P .outs) (h11 : P .hostOut) (hkk : ∀ z0 z1 v, Only P s v → Only P s (k z0 z1 v)) :
    Only P s (State.receiveOpen u p src bs ty k) := by
  with_reducible
    unfold State.receiveOpen
    repeat' first | assumption | apply Only.ite | apply State.receiveApp_only | apply hkk | intro _ | exact Only.of_pair ‹_ = (_, _)› ‹_› | apply Only.of_pair ‹_ = (_, _)› | dsimp only | split

/-! ### Requests -/

theorem State.chargeRecs_only {sid : Nat} {a : List Rec} (h : Only P s u) (h1 : P .sessions) (h2 : P .best) (h3 : P .bestAt) (h4 : ∀ (y1 : Fin 48), P (.slot y1)) (h5 : P .txs) (h6 : P (.obj TX_OPEN_COUNT)) (h7 : P (.obj TX_PROOF_USED)) (h8 : P (.obj TX_ABORTS)) (h9 : P .raised) (h10 : P .naz) (h11 : P .outs) :
    Only P s (State.chargeRecs u sid a).2.2 := by
  induction a generalizing u with
  | nil => ?_
  | cons e r ih => ?_
  all_goals first
    | exact h
    | (with_reducible
        unfold State.chargeRecs
        repeat' first | assumption | apply Only.ite | apply State.charge_only | apply State.countRefused_only | apply State.failHead_only | apply ih | exact h4 _ | intro _ | exact Only.of_pair ‹_ = (_, _)› ‹_› | apply Only.of_pair ‹_ = (_, _)› | dsimp only | split)

theorem State.modReq_only {sid : Nat} {seq : Nat} {f : AppReq → AppReq} (h : Only P s u) (h1 : P .queue) :
    Only P s (State.modReq u sid seq f) := by
  with_reducible
    unfold State.modReq
    repeat' first | assumption | apply Only.ite | intro _ | dsimp only | split | apply Only.w_queue

theorem State.displace_only {q : AppReq} (h : Only P s u) (h1 : P .queue) (h2 : P .flights) (h3 : P .sessions) :
    Only P s (State.displace u q) := by
  with_reducible
    unfold State.displace
    repeat' first | assumption | apply State.fill_only | apply State.modReq_only | intro _ | exact Only.of_pair ‹_ = (_, _)› ‹_› | apply Only.of_pair ‹_ = (_, _)› | dsimp only | split

theorem State.sweepQueue_only (h : Only P s u) (h1 : P .queue) (h2 : P .flights) (h3 : P .naz) (h4 : P .outs) (h5 : P (.can 0)) (h6 : P (.can 1)) (h7 : P .sessions) (h8 : P .hostOut) (h9 : P .best) (h10 : P .bestAt) (h11 : ∀ (y1 : Fin 48), P (.slot y1)) (h12 : P .txs) (h13 : P (.obj TX_OPEN_COUNT)) (h14 : P (.obj TX_PROOF_USED)) (h15 : P (.obj TX_ABORTS)) (h16 : P .raised) (h17 : P (.obj C_CLAIM)) (h18 : P (.obj C_OWNER)) (h19 : ∀ (y1 : Fin 4), P (.obj (G_STATE ↑y1))) (h20 : ∀ (y1 : Fin 4), P (.obj (G_VALUE ↑y1))) (h21 : ∀ (y1 : Fin 4), P (.gen y1)) (h22 : P .freeCtr) (h23 : P .cap) (h24 : P (.obj C_STATE)) (h25 : P (.obj C_VERSION)) (h26 : Covers P configParts) (h27 : P (.obj SF_CFG_STATE)) (h28 : P (.obj SF_COMMISSION)) (h29 : P (.obj SF_CFG_SEAL)) (h30 : P (.obj SF_CFG_OWNER)) (h31 : P (.obj SF_LAST_CODE)) (h32 : P .rereading) (h33 : P .freed) (h34 : P .routes) (h35 : P (.obj SS_COUNT)) (h36 : P (.obj SS_GUAR_SUM)) (h37 : P (.obj SS_ROUTES)) :
    Only P s (State.sweepQueue u) := by
  with_reducible
    unfold State.sweepQueue
    repeat' first | assumption | apply Only.each | apply State.answer_only | exact h11 _ | exact h19 _ | exact h20 _ | exact h21 _ | intro _ | dsimp only | split | apply Only.w_queue

theorem State.makeRoom_only {sid : Nat} {seq : Nat} {a : Nat} (h : Only P s u) (h1 : P .queue) (h2 : P .flights) (h3 : P .sessions) :
    Only P s (State.makeRoom u sid seq a) := by
  induction a generalizing u with
  | zero => ?_
  | succ m ih => ?_
  all_goals first
    | exact h
    | (with_reducible
        unfold State.makeRoom
        repeat' first | assumption | apply Only.ite | apply State.displace_only | apply ih | intro _ | exact Only.of_pair ‹_ = (_, _)› ‹_› | apply Only.of_pair ‹_ = (_, _)› | dsimp only | split)

theorem State.forward_only {q : AppReq} {d : Nat} (h : Only P s u) (h1 : P .flights) (h2 : P .sessions) (h3 : P .routes) (h4 : P (.obj SS_COUNT)) (h5 : P (.obj SS_GUAR_SUM)) (h6 : P (.obj SS_ROUTES)) (h7 : P .txs) (h8 : P .naz) (h9 : P .outs) :
    Only P s (State.forward u q d) := by
  with_reducible
    unfold State.forward
    repeat' first | assumption | apply Only.each | apply Only.ite | apply State.fill_only | apply State.modFlight_only | apply State.modTx_only | apply State.sendTo_only | apply State.syncSessions_only | intro _ | exact Only.of_pair ‹_ = (_, _)› ‹_› | apply Only.of_pair ‹_ = (_, _)› | dsimp only | split | apply Only.w_routes

theorem State.forwardAll_only {q : AppReq} (h : Only P s u) (h1 : P .flights) (h2 : P .sessions) (h3 : P .routes) (h4 : P (.obj SS_COUNT)) (h5 : P (.obj SS_GUAR_SUM)) (h6 : P (.obj SS_ROUTES)) (h7 : P .txs) (h8 : P .naz) (h9 : P .outs) :
    Only P s (State.forwardAll u q) := by
  with_reducible
    unfold State.forwardAll
    repeat' first | assumption | apply Only.each | apply State.forward_only | intro _ | dsimp only | split

theorem State.joinTx_only {sid : Nat} {id : Nat} (h : Only P s u) (h1 : P .sessions) (h2 : P .txs) (h3 : P .txUse) (h4 : P (.obj TX_OPEN_COUNT)) (h5 : P (.obj TX_PROOF_USED)) :
    Only P s (State.joinTx u sid id).2.2 := by
  with_reducible
    unfold State.joinTx
    repeat' first | assumption | apply Only.ite | apply State.modSession_only | apply State.takeSlot_only | intro _ | exact Only.of_pair ‹_ = (_, _)› ‹_› | apply Only.of_pair ‹_ = (_, _)› | dsimp only | split

theorem State.runJoin_only {q : AppReq} (h : Only P s u) (h1 : P .sessions) (h2 : P .txs) (h3 : P .txUse) (h4 : P (.obj TX_OPEN_COUNT)) (h5 : P (.obj TX_PROOF_USED)) (h6 : P .flights) :
    Only P s (State.runJoin u q).2 := by
  with_reducible
    unfold State.runJoin
    repeat' first | assumption | apply Only.ite | apply State.fill_only | apply State.joinTx_only | intro _ | exact Only.of_pair ‹_ = (_, _)› ‹_› | apply Only.of_pair ‹_ = (_, _)› | dsimp only | split

theorem State.fillDecided_only {sid : Nat} {seq : Nat} {recs : List Rec} (h : Only P s u) (h1 : P .flights) (h2 : P .sessions) :
    Only P s (State.fillDecided u sid seq recs) := by
  with_reducible
    unfold State.fillDecided
    repeat' first | assumption | apply Only.each | apply Only.ite | apply State.fill_only | intro _ | exact Only.of_pair ‹_ = (_, _)› ‹_› | apply Only.of_pair ‹_ = (_, _)› | dsimp only | split

theorem State.leaveTx_only {q : AppReq} (h : Only P s u) (h1 : P .sessions) :
    Only P s (State.leaveTx u q) := by
  with_reducible
    unfold State.leaveTx
    repeat' first | assumption | apply Only.ite | apply State.modSession_only | intro _ | exact Only.of_pair ‹_ = (_, _)› ‹_› | apply Only.of_pair ‹_ = (_, _)› | dsimp only | split

theorem State.openProxy_only {origin : Nat} {roles : Nat} {profile : Nat} (h : Only P s u) (h1 : P .sessions) (h2 : P .best) (h3 : P .bestAt) (h4 : P (.obj SS_COUNT)) (h5 : P (.obj SS_GUAR_SUM)) (h6 : P (.obj SS_ROUTES)) (h7 : P .raised) :
    Only P s (State.openProxy u origin roles profile).2.2 := by
  with_reducible
    unfold State.openProxy
    repeat' first | assumption | apply Only.ite | apply State.addSession_only | apply State.jSess_only | apply State.settleTokens_only | intro _ | exact Only.of_pair ‹_ = (_, _)› ‹_› | apply Only.of_pair ‹_ = (_, _)› | dsimp only | split

theorem State.takeResponse_only {d : Nat} {sid : Nat} {seq : Nat} {l : List Bytes} (h : Only P s u) (h1 : P .flights) (h2 : P .txs) (h3 : P .naz) (h4 : P .outs) (h5 : P (.can 0)) (h6 : P (.can 1)) (h7 : P .sessions) (h8 : P .hostOut) (h9 : P .best) (h10 : P .bestAt) (h11 : ∀ (y1 : Fin 48), P (.slot y1)) (h12 : P (.obj TX_OPEN_COUNT)) (h13 : P (.obj TX_PROOF_USED)) (h14 : P (.obj TX_ABORTS)) (h15 : P .raised) (h16 : P (.obj C_CLAIM)) (h17 : P (.obj C_OWNER)) (h18 : ∀ (y1 : Fin 4), P (.obj (G_STATE ↑y1))) (h19 : ∀ (y1 : Fin 4), P (.obj (G_VALUE ↑y1))) (h20 : ∀ (y1 : Fin 4), P (.gen y1)) (h21 : P .freeCtr) (h22 : P .cap) (h23 : P (.obj C_STATE)) (h24 : P (.obj C_VERSION)) (h25 : Covers P configParts) (h26 : P (.obj SF_CFG_STATE)) (h27 : P (.obj SF_COMMISSION)) (h28 : P (.obj SF_CFG_SEAL)) (h29 : P (.obj SF_CFG_OWNER)) (h30 : P (.obj SF_LAST_CODE)) (h31 : P .rereading) (h32 : P .freed) (h33 : P .queue) (h34 : P .routes) (h35 : P (.obj SS_COUNT)) (h36 : P (.obj SS_GUAR_SUM)) (h37 : P (.obj SS_ROUTES)) :
    Only P s (State.takeResponse u d sid seq l) := by
  with_reducible
    unfold State.takeResponse
    repeat' first | assumption | apply Only.ite | apply State.answer_only | apply State.modFlight_only | apply State.modTx_only | exact h11 _ | exact h18 _ | exact h19 _ | exact h20 _ | intro _ | exact Only.of_pair ‹_ = (_, _)› ‹_› | apply Only.of_pair ‹_ = (_, _)› | dsimp only | split | apply Only.foldl | apply Only.foldl_pair

theorem State.readSubs_only {n : Session} {rq : Nat} {a : List (Nat × Nat × Nat)} (h : Only P s u) (h1 : P (.obj (ST_GRANTS rq))) (h2 : P (.obj ST_MAX_WAIT)) (h3 : P (.obj ST_BUSY)) (h4 : P .port) (h5 : P .freeCtr) (h6 : P .sessions) :
    Only P s (State.readSubs u n rq a).2 := by
  induction a generalizing u with
  | nil => ?_
  | cons e r ih => ?_
  all_goals first
    | exact h
    | (with_reducible
        unfold State.readSubs
        repeat' first | assumption | apply Only.ite | apply State.readObj_only | apply ih | intro _ | exact Only.of_pair ‹_ = (_, _)› ‹_› | apply Only.of_pair ‹_ = (_, _)› | dsimp only | split)

theorem State.askFar_only {b : By} {r : Rec} (h : Only P s u) (h1 : P .sessions) (h2 : P .best) (h3 : P .bestAt) (h4 : P (.obj SS_COUNT)) (h5 : P (.obj SS_GUAR_SUM)) (h6 : P (.obj SS_ROUTES)) (h7 : P .outs) (h8 : P .flights) (h9 : P .routes) (h10 : P .txs) (h11 : P .naz) :
    Only P s (State.askFar u b r) := by
  with_reducible
    unfold State.askFar
    repeat' first | assumption | apply Only.ite | apply State.charge_only | apply State.countRefused_only | apply State.ensureHost_only | apply State.forward_only | apply State.reply_only | intro _ | exact Only.of_pair ‹_ = (_, _)› ‹_› | apply Only.of_pair ‹_ = (_, _)› | dsimp only | split | apply Only.w_flights

/-! ### CanPdo -/

theorem State.setSdo_only {b : Fin 2} {d : Sdo} (h : Only P s u) (h1 : P (.can b)) :
    Only P s (State.setSdo u b d) := by
  with_reducible
    unfold State.setSdo
    repeat' first | assumption | apply Only.modCan | intro _ | dsimp only | split

theorem State.sdoUpSegment_only {b : Fin 2} {d : Sdo} {bs : Bytes} (h : Only P s u) (h1 : P (.can b)) :
    Only P s (State.sdoUpSegment u b d bs) := by
  with_reducible
    unfold State.sdoUpSegment
    repeat' first | assumption | apply Only.modCan | apply Only.ite | apply State.sdoAbort_only | apply State.sdoSend_only | apply State.setSdo_only | intro _ | dsimp only | split

theorem State.pdoLost_only {b : Fin 2} (h : Only P s u) (h1 : P (.obj (CB_PDO_LOST ↑b))) :
    Only P s (State.pdoLost u b) := by
  with_reducible
    unfold State.pdoLost
    repeat' first | assumption | apply Only.inc | intro _ | dsimp only | split

theorem State.readMapped_only {b : Fin 2} {a : List (Nat × Nat)} (h : Only P s u) (h1 : P (.obj (ST_GRANTS (9 + ↑b)))) (h2 : P (.obj ST_MAX_WAIT)) (h3 : P (.obj ST_BUSY)) (h4 : P .port) (h5 : P .freeCtr) (h6 : P .sessions) :
    Only P s (State.readMapped u b a).2 := by
  induction a generalizing u with
  | nil => ?_
  | cons e r ih => ?_
  all_goals first
    | exact h
    | (with_reducible
        unfold State.readMapped
        repeat' first | assumption | apply Only.ite | apply State.readObj_only | apply ih | intro _ | exact Only.of_pair ‹_ = (_, _)› ‹_› | apply Only.of_pair ‹_ = (_, _)› | dsimp only | split)

theorem State.sendTpdo_only {b : Fin 2} {i : Nat} (h : Only P s u) (h1 : P (.obj (ST_GRANTS (9 + ↑b)))) (h2 : P (.obj ST_MAX_WAIT)) (h3 : P (.obj ST_BUSY)) (h4 : P .port) (h5 : P .freeCtr) (h6 : P .sessions) (h7 : P (.can b)) :
    Only P s (State.sendTpdo u b i) := by
  with_reducible
    unfold State.sendTpdo
    repeat' first | assumption | apply Only.modCan | apply Only.ite | apply State.engineSend_only | apply State.readMapped_only | intro _ | exact Only.of_pair ‹_ = (_, _)› ‹_› | apply Only.of_pair ‹_ = (_, _)› | dsimp only | split

theorem State.syncTpdo_only {b : Fin 2} {i : Nat} (h : Only P s u) (h1 : P (.can b)) (h2 : P (.obj (ST_GRANTS (9 + ↑b)))) (h3 : P (.obj ST_MAX_WAIT)) (h4 : P (.obj ST_BUSY)) (h5 : P .port) (h6 : P .freeCtr) (h7 : P .sessions) :
    Only P s (State.syncTpdo u b i) := by
  with_reducible
    unfold State.syncTpdo
    repeat' first | assumption | apply Only.modCan | apply Only.ite | apply State.sendTpdo_only | intro _ | dsimp only | split

end Sys2Proof.Safety
end

