-- ==== Sys2Proof/Laws/Writes.lean ====
section
/-! SUPPORT. A write that every check of R321 lets pass: what it does, in one equation, for every object. -/

namespace Sys2Proof.Safety
open Sys2Proof.Machine Sys2Proof.Machine.Obj

/-- An accepted write takes its token and its store transfers, has its object's effect, and is answered with result 0 (R321,
R328, R348). -/
theorem writeBytes_accepted {s : State} {b : By} {k : Nat} {bs : Bytes} {r : ObjRow} (hr : Catalog.find k = some r)
    (h : accepts s b k bs = true) :
    s.writeBytes b k bs =
      ((((paid s b).transfers b.rq (if r.ty.long then (cleaned r bs).length else r.ty.size)).applyWrite b (paid s b).tbNs
        (domainsOf (paid s b) b.sid) k (cleaned r bs)
        (if r.ty.long then ((cleaned r bs).length : Int) else r.ty.value (cleaned r bs))).emit (.result 0 [])).afterKey k := by
  simp only [accepts, hr, Bool.and_eq_true, decide_eq_true_eq, Bool.not_eq_true', Option.isNone_iff_eq_none] at h
  obtain ⟨⟨⟨⟨⟨⟨⟨⟨h1, h2⟩, h3⟩, h4⟩, h5⟩, h6⟩, h7⟩, h8⟩, h9, h10⟩ := h
  have hd : (paid s b).directWrite b (paid s b).tbNs (domainsOf (paid s b) b.sid) k bs =
      (0, ((paid s b).transfers b.rq (if r.ty.long then (cleaned r bs).length else r.ty.size)).applyWrite b (paid s b).tbNs
        (domainsOf (paid s b) b.sid) k (cleaned r bs)
        (if r.ty.long then ((cleaned r bs).length : Int) else r.ty.value (cleaned r bs))) := by
    unfold State.directWrite
    simp only [h7, hr, ne_eq, not_true_eq_false, if_false, State.clip, h8]
    cases hl : r.ty.long <;> simp only [hl, Bool.false_eq_true, if_true, if_false] at h9 h10 <;>
      simp only [h9, h10, not_true_eq_false, Option.isSome_none, Bool.false_eq_true, if_true, if_false]
  have hw : (paid s b).writeObj b (paid s b).tbNs (domainsOf (paid s b) b.sid) none k bs =
      (some 0, ((paid s b).transfers b.rq (if r.ty.long then (cleaned r bs).length else r.ty.size)).applyWrite b (paid s b).tbNs
        (domainsOf (paid s b) b.sid) k (cleaned r bs)
        (if r.ty.long then ((cleaned r bs).length : Int) else r.ty.value (cleaned r bs))) := by
    unfold State.writeObj
    simp only [h3, h4, h5, h6, hd, Bool.not_true, Bool.false_eq_true, if_false, ne_eq, not_true_eq_false]
  have hc : ∀ (u : State) (sid : Nat), u.countRefused sid 0 = u := fun u sid => if_neg (by decide)
  unfold State.writeBytes
  rw [h1]
  simp only [Bool.not_true, Bool.false_eq_true, if_false]
  unfold State.charged
  have hp : (s.takeToken b.sid).2 = paid s b := rfl
  simp only [h2, if_false, hp, hw, Option.getD_some, hc]
  rfl

/-! ### Scalars -/

theorem ofLe_le_succ (n : Nat) (v : Int) : ofLe (le (n + 1) v) = (v % 256).toNat + 256 * ofLe (le n (v / 256)) := by
  unfold le
  rw [List.range_succ_eq_map]
  simp only [List.map_cons, List.map_map, ofLe, Nat.pow_zero, Nat.cast_one, Int.ediv_one]
  rw [show (BitVec.ofInt 8 v).toNat = (v % 256).toNat by simp [BitVec.toNat_ofInt]]
  congr 2
  congr 1
  apply List.map_congr_left
  intro i _
  simp only [Function.comp, Nat.succ_eq_add_one]
  congr 1
  rw [Int.ediv_ediv_of_nonneg (by decide)]
  congr 1
  push_cast
  rw [pow_succ, mul_comm]

theorem ofLe_le (n : Nat) (v : Int) : (ofLe (le n v) : Int) = v % (256 ^ n : Nat) := by
  induction n generalizing v with
  | zero => simp [le, ofLe]
  | succ n ih =>
    rw [ofLe_le_succ]
    push_cast
    rw [ih, Int.toNat_of_nonneg (Int.emod_nonneg v (by decide)), pow_succ]
    push_cast
    have h1 : 0 ≤ v % 256 ∧ v % 256 < 256 := ⟨Int.emod_nonneg v (by decide), Int.emod_lt_of_pos v (by decide)⟩
    have hm : (0 : Int) < 256 ^ n := by positivity
    have h2 : 0 ≤ v / 256 % 256 ^ n ∧ v / 256 % 256 ^ n < 256 ^ n := ⟨Int.emod_nonneg _ hm.ne', Int.emod_lt_of_pos _ hm⟩
    have h3 := Int.emod_add_mul_ediv v 256
    have h4 := Int.emod_add_mul_ediv (v / 256) (256 ^ n)
    have h5 : v = (v % 256 + 256 * (v / 256 % 256 ^ n)) + 256 ^ n * 256 * (v / 256 / 256 ^ n) := by
      conv_lhs => rw [← h3, ← h4]
      ring
    conv_rhs => rw [h5, Int.add_mul_emod_self_left]
    refine (Int.emod_eq_of_lt ?_ ?_).symm
    · have := h1.1; have := h2.1; positivity
    · nlinarith [h1.2, h2.2]

/-- The bytes of a value spell it, when it lies in the range of its type (R312). -/
theorem value_le {ty : Ty} {v : Int} (hs : ty.signed = false) (h0 : 0 ≤ v) (h1 : v < (256 ^ ty.size : Nat)) : ty.value (le ty.size v) = v := by
  unfold Ty.value
  rw [hs]
  simp only [Bool.false_eq_true, if_false]
  rw [ofLe_le]
  exact Int.emod_eq_of_lt h0 h1

/-- A value of a signed type is read back from its two's complement (R312). -/
theorem value_le_signed {ty : Ty} {w : Nat} (v : BitVec w) (hs : ty.signed = true) (hw : 8 * ty.size = w) :
    ty.value (le ty.size (v.toNat : Int)) = v.toInt := by
  subst hw
  unfold Ty.value
  rw [hs]
  simp only [if_true]
  have h := ofLe_le ty.size (v.toNat : Int)
  have hlt : v.toNat < 256 ^ ty.size := by
    have := v.isLt
    rwa [Nat.pow_mul] at this
  have h2 : ofLe (le ty.size (v.toNat : Int)) = v.toNat := by
    have : ((v.toNat : Int) % ((256 ^ ty.size : Nat) : Int)) = v.toNat := Int.emod_eq_of_lt (by omega) (by exact_mod_cast hlt)
    rw [this] at h
    exact_mod_cast h
  rw [h2]
  unfold signExt
  rw [Nat.mod_eq_of_lt v.isLt, BitVec.toInt_eq_msb_cond, BitVec.msb_eq_decide]
  have hz : 0 < 8 * ty.size := by cases ty <;> simp_all [Ty.signed, Ty.size]
  have hp : (2 : Nat) ^ (8 * ty.size) = 2 * 2 ^ (8 * ty.size - 1) := by
    rw [← Nat.pow_succ']
    congr 1
    omega
  simp only [decide_eq_true_eq]
  split <;> split <;> first | rfl | omega

/-- Object k is a scalar of n bytes, unsigned, with no bit form. -/
def plainKey (k n : Nat) : Bool :=
  match Catalog.find k with
  | some r => !r.ty.long && !r.ty.signed && decide (r.ty.size = n) && r.bits.isNone
  | none => false

/-- A write of an object that is no pole key is judged no further (R36). -/
theorem applyWrite_effect {s : State} {b : By} {st dm k : Nat} {bs : Bytes} {v : Int} (h : poleKey k = false) :
    s.applyWrite b st dm k bs v = (s.dropOld k).effect b st dm k bs v := by
  simp [State.applyWrite, State.judgeWritten, h]

/-- An accepted write of a value of a plain object (R321, R328, R348). -/
theorem writeCmd_plain {s : State} {b : By} {k n : Nat} {v : Int} (hp : poleKey k = false) (hk : plainKey k n = true) (h0 : 0 ≤ v) (h1 : v < (256 ^ n : Nat))
    (h : allowed s b k v = true) :
    s.writeCmd b k v =
      (((judged s b k).effect b (paid s b).tbNs (domainsOf (paid s b) b.sid) k (le n v) v).emit (.result 0 [])).afterKey k := by
  unfold plainKey at hk
  unfold allowed at h
  unfold State.writeCmd judged
  cases hr : Catalog.find k with
  | none => simp [hr] at hk
  | some r =>
    simp only [hr, Bool.and_eq_true, Bool.not_eq_true', decide_eq_true_eq, Option.isNone_iff_eq_none] at hk h ⊢
    obtain ⟨⟨⟨hl, hs⟩, hn⟩, hb⟩ := hk
    subst hn
    rw [writeBytes_accepted hr h, applyWrite_effect hp]
    have hc : cleaned r (le r.ty.size v) = le r.ty.size v := by unfold cleaned; rw [hb]
    rw [hc, hl]
    simp only [Bool.false_eq_true, if_false, value_le hs h0 h1]
    rfl

/-- Object k is a signed scalar of n bits. -/
def signedKey (k n : Nat) : Bool :=
  match Catalog.find k with
  | some r => !r.ty.long && r.ty.signed && decide (8 * r.ty.size = n) && r.bits.isNone
  | none => false

theorem writeCmd_signed {s : State} {b : By} {k n : Nat} {v : BitVec n} (hp : poleKey k = false) (hk : signedKey k n = true)
    (h : allowed s b k v.toNat = true) :
    s.writeCmd b k v.toNat =
      (((judged s b k).effect b (paid s b).tbNs (domainsOf (paid s b) b.sid) k (le (n / 8) v.toNat) v.toInt).emit (.result 0 [])).afterKey k := by
  unfold signedKey at hk
  unfold allowed at h
  unfold State.writeCmd judged
  cases hr : Catalog.find k with
  | none => simp [hr] at hk
  | some r =>
    simp only [hr, Bool.and_eq_true, Bool.not_eq_true', decide_eq_true_eq, Option.isNone_iff_eq_none] at hk h ⊢
    obtain ⟨⟨⟨hl, hs⟩, hn⟩, hb⟩ := hk
    rw [writeBytes_accepted hr h, applyWrite_effect hp]
    have hc : cleaned r (le r.ty.size (v.toNat : Int)) = le r.ty.size (v.toNat : Int) := by unfold cleaned; rw [hb]
    have hd : n / 8 = r.ty.size := by omega
    rw [hc, hl, hd]
    simp only [Bool.false_eq_true, if_false, value_le_signed v hs hn]
    rfl

/-- Object k is an unsigned scalar of n bytes of which the bits m are defined. -/
def bitsKey (k n m : Nat) : Bool :=
  match Catalog.find k with
  | some r => !r.ty.long && !r.ty.signed && decide (r.ty.size = n) && decide (r.bits = some m)
  | none => false

theorem writeCmd_bits {s : State} {b : By} {k n m v : Nat} (hp : poleKey k = false) (hk : bitsKey k n m = true) (h1 : v < 256 ^ n) (hm : m < 256 ^ n)
    (h : allowed s b k v = true) :
    s.writeCmd b k v =
      (((judged s b k).effect b (paid s b).tbNs (domainsOf (paid s b) b.sid) k (le n (v &&& m : Nat)) (v &&& m : Nat)).emit
        (.result 0 [])).afterKey k := by
  unfold bitsKey at hk
  unfold allowed at h
  unfold State.writeCmd judged
  cases hr : Catalog.find k with
  | none => simp [hr] at hk
  | some r =>
    simp only [hr, Bool.and_eq_true, Bool.not_eq_true', decide_eq_true_eq] at hk h ⊢
    obtain ⟨⟨⟨hl, hs⟩, hn⟩, hb⟩ := hk
    subst hn
    rw [writeBytes_accepted hr h, applyWrite_effect hp]
    have hv : (ofLe (le r.ty.size (v : Int))) = v := by
      have := ofLe_le r.ty.size (v : Int)
      rw [Int.emod_eq_of_lt (by omega) (by exact_mod_cast h1)] at this
      exact_mod_cast this
    have hc : cleaned r (le r.ty.size (v : Int)) = le r.ty.size ((v &&& m : Nat) : Int) := by
      unfold cleaned; rw [hb]; simp only [hl, Bool.false_eq_true, if_false, hv]
    rw [hc, hl]
    simp only [Bool.false_eq_true, if_false]
    rw [value_le hs (by omega) (by exact_mod_cast lt_of_le_of_lt (Nat.and_le_right) hm)]
    rfl

/-! ### Which effect an object has -/

theorem afterKey_none {s : State} {k : Nat} (h : keySlotAt k = none) : s.afterKey k = s := by
  unfold State.afterKey; rw [h]; rfl

theorem effect_section (s : State) (b : By) (st dm m : Nat) (bs : Bytes) (v : Int) (x : Fin 6) (hm : m < 65536) :
    s.effect b st dm (0x200000 + 0x10000 * x.val + m) bs v = s.effSection x m v := by
  unfold State.effect
  have hx := x.isLt
  have h1 : (0x200000 + 0x10000 * x.val + m) / 65536 = 0x20 + x.val := by omega
  have h2 : (0x200000 + 0x10000 * x.val + m) % 65536 = m := by omega
  have h3 : secAt (0x200000 + 0x10000 * x.val + m) = some x := by
    unfold secAt
    simp only [h1]
    rw [dif_pos (by omega)]
    exact congrArg some (Fin.ext (by dsimp only; omega))
  simp only [h1, h2, h3]
  rw [if_pos (by omega)]

theorem effect_axis (s : State) (b : By) (st dm m : Nat) (bs : Bytes) (v : Int) (a : Fin 4) (hm : m < 65536) :
    s.effect b st dm (0x500000 + 0x10000 * a.val + m) bs v = s.effAxis a m v := by
  unfold State.effect
  have hx := a.isLt
  have h1 : (0x500000 + 0x10000 * a.val + m) / 65536 = 0x50 + a.val := by omega
  have h2 : (0x500000 + 0x10000 * a.val + m) % 65536 = m := by omega
  have h3 : axAt (0x500000 + 0x10000 * a.val + m) = some a := by
    unfold axAt
    simp only [h1]
    rw [dif_pos (by omega)]
    exact congrArg some (Fin.ext (by dsimp only; omega))
  simp only [h1, h2, h3]
  rw [if_neg (by omega)]

theorem effect_slot (s : State) (b : By) (st dm m : Nat) (bs : Bytes) (v : Int) (j : Fin 48) (hm : m < 256) :
    s.effect b st dm (0x410000 + 0x100 * j.val + m) bs v = s.effSlot j m v := by
  unfold State.effect
  have hx := j.isLt
  have h1 : (0x410000 + 0x100 * j.val + m) / 65536 = 0x41 := by omega
  have h2 : (0x410000 + 0x100 * j.val + m) % 256 = m := by omega
  have h3 : axAt (0x410000 + 0x100 * j.val + m) = none := by
    unfold axAt
    simp only [h1]
    rw [dif_neg (by decide)]
  have h4 : slotAt (0x410000 + 0x100 * j.val + m) = some j := by
    unfold slotAt
    simp only
    have h5 : (0x410000 + 0x100 * j.val + m) / 256 = 0x4100 + j.val := by omega
    simp only [h5]
    rw [dif_pos (by omega)]
    exact congrArg some (Fin.ext (by dsimp only; omega))
  simp only [h1, h2, h3, h4]
  rw [if_neg (by decide)]

end Sys2Proof.Safety
end

