-- ==== Sys2Proof/Machine/Pins.lean ====
section
/-! DEFINITION. The output balls that the state decides between commands (R153, R260, R261, R354–R356, R417, R475, R476). The gate
pins are state themselves (`Hb`); the bits within a frame of a port, of the boot flash or of the TAP are part of one command. -/

namespace Sys2Proof.Machine
open Obj

/-- What an output ball shows: a level, high impedance (an open drain released), a transmitter or clock that its function drives, or
no supply. -/
inductive Ball where
  | low | high | highZ | driven | unpowered
deriving DecidableEq, Repr

/-- A level. -/
def Ball.of (b : Bool) : Ball := if b then .high else .low

/-- BRK0–BRK5; MBK_A and MBK_B; SOUT_A and SOUT_B; FP_RST_N and MDC; the SGMII transmitters of FP0 and FP1, which are off in high
impedance; the transmitters of NZU and NZD; QSPI_CLK and QSPI_CS_N; TDO; TX and STB of CB0 and CB1; HIRQ_N and HS_MISO. -/
structure Pins where
  brk : List Ball
  mbk : List Ball
  sout : List Ball
  fpRst : Ball
  mdc : Ball
  sgmii : List Ball
  naz : List Ball
  qspiClk : Ball
  qspiCs : Ball
  tdo : Ball
  canTx : List Ball
  canStb : List Ball
  hirq : Ball
  miso : Ball
deriving DecidableEq, Repr

/-- Every ball with no supply, as in H1–H3 of R459 (R476). -/
def Pins.unpowered : Pins :=
  let u := Ball.unpowered
  ⟨List.replicate 6 u, [u, u], [u, u], u, u, [u, u], [u, u], u, u, u, [u, u], [u, u], u, u⟩

/-- The reset state of R475, which the balls hold until the device leaves reset. -/
def Pins.reset : Pins :=
  ⟨List.replicate 6 .low, [.low, .low], [.low, .low], .low, .low, [.highZ, .highZ], [.highZ, .highZ], .low, .high, .highZ,
    [.high, .high], [.high, .high], .highZ, .highZ⟩

/-- What the balls show. A ball whose domain is not on holds its reset state. FP_RST_N rises 10 ms after the device has left reset
(R476), HIRQ_N is low while an output frame is pending (R356), and HS_MISO is driven in a select period alone, which is one command.
Which domain drives MDC and FP_RST_N, of the two ports that share them, the spec does not say: the model takes either (log entry
108). -/
def pins (s : State) : Pins :=
  let on (d : Nat) : Bool := decide (domState s d = 3)
  if s.power.source ≠ 0 then Pins.unpowered
  else if !deviceUp s then Pins.reset
  else
    { Pins.reset with
      brk := allSecs.map (fun x => Ball.of (on (95 + x.val) && (s.sec x).brk)),
      mbk := chans.map (fun c => Ball.of (on (108 + c.val) && (s.chan c).mbk)),
      sout := chans.map (fun c => Ball.of (on (108 + c.val) && (s.chan c).sout)),
      fpRst := Ball.of ((on 112 || on 113) && decide (s.power.outAt + ms 10 ≤ s.now)),
      sgmii := [112, 113].map (fun d => if on d then .driven else .highZ),
      naz := [116, 117].map (fun d => if on d then .driven else .highZ),
      canTx := [0, 1].map (fun b => Ball.of (!on (114 + b.val) || (canPins s b).tx)),
      canStb := [0, 1].map (fun b => Ball.of (!on (114 + b.val) || (canPins s b).stb)),
      hirq := if on 124 && !s.hostOut.isEmpty then .low else .highZ }

/-- Word i that MISO shifts out within a select period: that of the oldest pending output frame, and zeros beyond it (R356). -/
def misoWord (s : State) (i : Nat) : Nat := (s.hostOut.headD []).getD i 0

end Sys2Proof.Machine
end

