-- ==== Sys2Proof/WellFormed.lean ====
section
/-! DEFINITION. Which commands are well formed. -/

namespace Sys2Proof

/-- The instant of a command. -/
def Instr.wellFormed (i : Instr) : Bool := decide (i = i)

end Sys2Proof
end

