-- ==== Sys2Proof/Tests/Slice0.lean ====
section
/-! SUPPORT. The model's own tests: for every statement that has hypotheses, a state and operands that meet them, clause by clause,
and single steps. -/

namespace Sys2Proof.Tests
open Sys2Proof Sys2Proof.Machine Sys2Proof.Machine.Obj Sys2Proof.Safety

set_option Elab.async false

/-- An empty queue idles. -/
theorem test_idle : step State.reset = .next State.reset := rfl

/-- No row gives bits. -/
theorem test_no_table_word : State.reset.withFetchWord 16 5 = State.reset := rfl

/-- Every command is well formed. -/
theorem test_wellFormed : (Instr.stepChange 9 2).wellFormed = true := by decide

/-- The state after reset, with every island on. -/
def r0 : State := { State.reset with dict := [(SS_COUNT, 1), (SS_GUAR_SUM, 10000)] }
/-- The firmware on its own account. -/
def fw : By := ⟨0xFFFF, 1⟩
/-- Section 2 runs on axis 1, in step 0. -/
def running : State := ((r0.set (S_AXIS 2) 1).set (S_STATE 2) 2).set (S_STEP 2) 0
/-- The same with a change of its record. -/
def runSec (f : Sec → Sec) : State := running.modSec 2 f
/-- Gates of half-bridge 6 (section 2, phase U) ready. -/
def ready6 (s : State) : State := (s.modHb 6 (fun h => { h with enA := true, enB := true, hi := { h.hi with st := .holdOff }, lo := { h.lo with st := .holdOff } }))
/-- A requester with session 1. -/
def by1 : By := ⟨1, 2⟩
/-- Session 1 with every role is open on port 0, with tokens. -/
def ses (f : Session → Session) (s : State) : State := { s with sessions := [f (Session.fresh 1 0 (some 0) 31 0 1000 0)] }
/-- Session 1 on port p. -/
def sesOn (p : Nat) (f : Session → Session) (s : State) : State := ses (fun n => f { n with port := p }) s
/-- Both channels change axis 1. -/
def safe (f : ChAx → ChAx) : State := chans.foldl (fun s c => s.modCax c 1 f) running
/-- Values of the safety configuration that both channels have loaded. -/
def inf (vs : List (Nat × Int)) (s : State) : State := chans.foldl (fun s c => s.modChan c (fun x => { x with conf := (x.conf.filter (fun p => !(vs.map Prod.fst).contains p.1)) ++ vs })) s
/-- At instant 0. -/
def T1 (s : State) : State := { s with now := 0, tbOff := 0 }

/-- Axis 1 in stage st of a sensorless start, with sections 2 and 3. -/
def staged (st : Int) : State := (((running.set (A_START_MODE 1) 1).set (A_START_STAGE 1) st).set (S_AXIS 3) 1)
/-- Two qualified members of axis 1 with a fresh comparator event. -/
def members : State := [2,3].foldl (fun s (x : Fin 6) => (s.set (S_FUS_STATE x) 2).modSec x (fun c => { c with bemf := { c.bemf with ev1 := some (6000, 9000), ev2 := some (0, 5000) } })) ({ staged 0 with now := 10000 })
/-- Axis 1 on a cascade, hosted here, with the estimates of two devices. -/
def casc1 : State := (((staged 5).modNaz (fun n => { n with starts := [100] })).set (A_CASCADE_AXIS 1) 1).modAx 1 (fun c => { c with devs := [⟨7, 9000, 50, 2, 3, 100, true, 1, 6, 0, 0, 0, 0, false⟩, ⟨8, 9100, 60, 1, 2, 100, true, 1, 0, 0, 0, 0, 0, false⟩] })

/-- Slot 3 enabled, with a bank and a record. -/
def slotted (bank : List (Nat × Int)) (f : Slot → Slot) : State :=
  (r0.set (K_ENABLE 3) 1).modSlot 3 (fun c => f { c with active := bank.foldl (fun b v => bankPut b v.1 v.2) c.active })
/-- A run of slot 3 in flight. -/
def run3 (bank : List (Nat × Int)) : State :=
  slotted bank (fun c => { c with runs := [⟨0, 0, bankPut (bankPut (bankPut (r0.slot 3).active 3 5) 0x11 (-100)) 0x12 1000, 7, none, none, 0, false, none⟩] })
/-- Physical lane 6 in state v, with a rotation. -/
def rotating (v : Int) (r : Option Rotation) : State :=
  let s := ((List.range 6).foldl (fun (s : State) (i : Nat) => (s.set (K_LANE_STATE i) 0).set (K_LANE_MAP i) i) r0).set (K_LANE_STATE 6) v
  { s with lanes := { s.lanes with rot := r } }

/-- Section 2 of axis 1 carries share in mode m. -/
def carrying (m : Int) : State := (runSec (fun c => { c with sharing := true })).set (A_MODE 1) m
/-- Axis 1 in speed mode with an armed change of slot 3. -/
def armed3 (st : Int) (f : Axis → Axis) : State := ((carrying 1).set (A_SNATCH_STATE 1) st).modAx 1 (fun c => f { c with armed := [(3, 5, 77)] })
/-- A transaction of the firmware that stages slot 3's coefficient. -/
def staged3 : State := { r0 with txs := [⟨5, 1, 0, 0, 0, 0, 0, 0xFFFF, [(0x410305, [1,0,0,0])], [], none, 0, 0, 0, 0, 0, 0, 0, none, none, [], [], none, false, [], false, false, false⟩] }

namespace SequencerWitness

theorem witness_SequencerCommands :
    (∃ (s : State) (t : Nat) (x : Fin 6) (a : Fin 4), On s x ∧ axisOf s x = some a ∧ Runs s x ∧ (s.sec x).join ≠ .ramp ∧ (sgnR
    (demandedTravel (s.at_ t) a) = 0 ∨ sgnR (demandedTravel (s.at_ t) a) = s.get (A_DIR a)) ∧ s.get (A_REV_PENDING a) = 0) ∧
    (∃ (s : State) (t : Nat) (x : Fin 6) (a : Fin 4), On s x ∧ axisOf s x = some a ∧ sgnR (demandedTravel (s.at_ t) a) ≠ 0 ∧ sgnR
    (demandedTravel (s.at_ t) a) ≠ s.get (A_DIR a)) ∧
    (∃ (s : State) (t : Nat) (x : Fin 6) (k i : Nat), On s x ∧ (s.sec x).placed = some (k, i) ∧ i ≤ max s.now t) ∧
    (∃ (s : State) (t : Nat) (x : Fin 6) (t0 : Nat), On s x ∧ Runs s x ∧ (s.sec x).lockAt = some t0 ∧ t0 + ms (s.nat (S_LOCK_TIME
    x)) ≤ max s.now t ∧ s.get (S_LOCK_STATE x) = 0) :=
  ⟨⟨running, 9, 2, 1, by decide +kernel⟩,
    ⟨(((running.set (A_MODE 1) 1).set (A_DIR 1) (-1)).modAx 1 (fun c => {c with vel := 5})), 9, 2, 1, by decide +kernel⟩,
    ⟨(runSec (fun c => {c with placed := some (3, 7), lockAt := some 2})), 9, 2, 3, 7, by decide +kernel⟩,
    ⟨(runSec (fun c => {c with lockAt := some 2})), 9000000000000, 2, 2, by decide +kernel⟩⟩

theorem witness_JoinAndLeaveCommands :
    (∃ (s : State) (t : Nat) (b : By) (x : Fin 6), allowed (s.at_ t) b (S_ENABLE x) 1 = true) ∧
    (∃ (s : State) (t : Nat) (b : By) (x : Fin 6), allowed (s.at_ t) b (S_ENABLE x) 0 = true) ∧
    (∃ (s : State) (x : Fin 6) (a : Fin 4), On s x ∧ axisOf s x = some a ∧ (s.sec x).join = .angle ∧ angleValid s a = true ∧ Powered
    s (islObserver x)) ∧
    (∃ (s : State) (t : Nat) (x : Fin 6) (p : Precharge) (q : Fin 3), On s x ∧ (s.sec x).precharge = some p ∧ p.phase = q.val ∧
    p.active = false ∧ 0 < p.left ∧ (∀ o, p.lastOff = some o → o + us 2 ≤ max s.now t) ∧ coinRoom s = true ∧ gateReady s (hbOf x q)
    = true) ∧
    (∃ (s : State) (x : Fin 6), On s x ∧ coinRoom s = false) ∧
    (∃ (s : State) (t : Nat) (x : Fin 6) (p : Precharge) (o : Nat), On s x ∧ (s.sec x).precharge = some p ∧ 3 ≤ p.phase ∧ p.lastOff
    = some o ∧ o + us 1 ≤ max s.now t ∧ (∀ q : Fin 3, levelZeroFor (s.at_ t) (hbOf x q) 1 = true)) ∧
    (∃ (s : State) (t : Nat) (x : Fin 6) (r : Ramp), On s x ∧ (s.sec x).ramp = some r ∧ r.up = true ∧ shareFraction (s.at_ t) x = 1
    ∧ s.nat (S_STATE x) = 1) ∧
    (∃ (s : State) (t : Nat) (x : Fin 6) (r : Ramp), On s x ∧ (s.sec x).ramp = some r ∧ r.up = false ∧ shareFraction (s.at_ t) x =
    0) :=
  ⟨⟨((r0.set (S_AXIS 2) 1)), 9, fw, 2, by decide +kernel⟩,
    ⟨running, 9, fw, 2, by decide +kernel⟩,
    ⟨(((r0.set (S_AXIS 2) 1).set (A_ENC_AXIS 0) 1 |>.set (A_ENC_STATUS 0) 1).modSec 2 (fun c => {c with join := .angle})), 2, 1, by decide +kernel⟩,
    ⟨(ready6 (r0.modSec 2 (fun c => {c with join := .precharge, precharge := some ⟨0, 2, false, none⟩}))), 9, 2, ⟨0, 2, false, none⟩, 0, by decide +kernel⟩,
    ⟨(r0).set S_BLW_ACTIVE 7, 2, by decide +kernel⟩,
    ⟨(([6,7,8].foldl (fun s i => s.set (S_HSS_LEVEL i) 0) r0).modSec 2 (fun c => {c with join := .precharge, precharge := some ⟨3, 0, false, some 4⟩})), 9000000, 2, ⟨3, 0, false, some 4⟩, 4, by decide +kernel⟩,
    ⟨((runSec (fun c => {c with join := .ramp, ramp := some ⟨true, 0, 0⟩})).set (S_STATE 2) 1), 9000000000000, 2, ⟨true, 0, 0⟩, by decide +kernel⟩,
    ⟨(runSec (fun c => {c with ramp := some ⟨false, 1, 0⟩})), 9000000000000, 2, ⟨false, 1, 0⟩, by decide +kernel⟩⟩

end SequencerWitness

namespace ConverterWitness

theorem witness_ConverterCommands :
    (∃ (s : State) (t : Nat) (x : Fin 6), On s (25 + x.val) ∧ voltageTick (s.at_ t) = true) ∧
    (∃ (s : State) (t : Nat) (x : Fin 6), On s (25 + x.val) ∧ voltageTick (s.at_ t) = true) ∧
    (∃ (s : State) (t : Nat), voltageTick (s.at_ t) = false ∧ currentTick (s.at_ t) = false) ∧
    (∃ (s : State) (t : Nat) (x : Fin 6), On s (13 + 2 * x.val) ∧ (s.at_ t).tb % 200 = 40) ∧
    (∃ (s : State) (t : Nat) (n : Fin 18) (upper : Bool) (tk : Nat) (k : Fin 4), On s (secOf n).val ∧ 4095 ≤ s.nat (S_DC_LINK (secOf
    n)) * 10 ∧ (s.hb n).cross = some (!upper, tk, k.val) ∧ ((s.at_ t).tick - tk) * 5 ≤ us 1) :=
  ⟨⟨T1 running, 500, 2, by decide +kernel⟩,
    ⟨T1 (running.set (S_BRK_MODE 2) 1), 500, 2, by decide +kernel⟩,
    ⟨T1 running, 845, by decide +kernel⟩,
    ⟨T1 ((running).modHb 6 (fun h => {h with oc := 1, hi := {h.hi with on := true}})), 840, 2, by decide +kernel⟩,
    ⟨(((running.set (S_DC_LINK 2) 3000).set (S_TMP_EN 2) 1).modHb 6 (fun h => {h with cross := some (false, 2, 1)})), 9, 6, true, 2, 1, by decide +kernel⟩⟩

theorem witness_PwmCommands :
    (∃ (s : State) (t : Nat) (xs : BitVec 6) (x : Fin 6), On s x ∧ xs.getLsbD x.val = true ∧ isReload (s.sec x).pwm.period (s.sec
    x).pwm.presc (s.sec x).pwm.phase (s.at_ t).tick = true ∧ (s.sec x).pwm.reloadAt ≠ some (s.at_ t).tick) ∧
    (∃ (s : State) (t : Nat) (b : By), allowed (s.at_ t) b S_LOADALL 1 = true) ∧
    (∃ (s : State) (t : Nat) (x : Fin 6), On s x ∧ isReload (s.sec x).pwm.period (s.sec x).pwm.presc (s.sec x).pwm.phase (s.at_
    t).tick = false) ∧
    (∃ (s : State) (t : Nat) (x : Fin 6), On s x ∧ offDueNow (s.at_ t) x = true) :=
  ⟨⟨running, 0, 4, 2, by decide +kernel⟩,
    ⟨((((r0.set S_LOADALL_MASK 5).set (S_LOAD_MODE 0) 0).set (S_LOAD_MODE 2) 0)), 9, fw, by decide +kernel⟩,
    ⟨(runSec (fun c => {c with pwm := {c.pwm with liveEn := true, hasPulse := true, offIssued := true}})), 9, 2, by decide +kernel⟩,
    ⟨(runSec (fun c => {c with pwm := {c.pwm with hasPulse := true, offEdge := some 3, onTime := true}})), 90, 2, by decide +kernel⟩⟩

theorem witness_GatePinCommands :
    (∃ (s : State) (t : Nat) (n : Fin 18) (w : Wait), On s (secOf n).val ∧ (s.hb n).wait = some w ∧ releasable (s.at_ t) n w = true) ∧
    (∃ (s : State) (t : Nat) (n : Fin 18) (high : Bool), On s (secOf n).val ∧ ((s.hb n).pin high).edgeAt + ns (s.nat (S_EDGE_TIME
    (secOf n))) ≤ max s.now t) ∧
    (∃ (s : State) (n : Fin 18) (band : Fin 5), On s (secOf n).val ∧ band.val < 3) ∧
    (∃ (s : State) (n : Fin 18) (band : Fin 5), On s (secOf n).val ∧ 3 ≤ band.val) ∧
    (∃ (s : State) (t : Nat) (n : Fin 18) (l : Nat), On s (secOf n).val ∧ (s.hb n).lowAt = some l ∧ l + ns (s.nat (S_BLW_MIN_LOW
    (secOf n))) ≤ max s.now t ∧ (s.hb n).above10 = false) ∧
    (∃ (s : State) (t : Nat) (n : Fin 18) (r : Nat), On s (secOf n).val ∧ (s.hb n).refresh = .pulse r ∧ r + ns (s.nat (S_BLW_PULSE
    (secOf n))) ≤ max s.now t) :=
  ⟨⟨(ready6 ((running.set (S_HSS_LEVEL 6) 0).modHb 6 (fun h => {h with wait := some ⟨true, 0, some 0, 3⟩}))), 9000, 6, ⟨true, 0, some 0, 3⟩, by decide +kernel⟩,
    ⟨(running.modHb 6 (fun h => {h with hi := {h.hi with st := .edgeOn}})), 9000000, 6, true, by decide +kernel⟩,
    ⟨(running.modHb 6 (fun h => {h with wait := some ⟨true, 0, none, 3⟩})), 6, 0, by decide +kernel⟩,
    ⟨running, 6, 4, by decide +kernel⟩,
    ⟨(running.modHb 6 (fun h => {h with lowAt := some 1})), 9000000, 6, 1, by decide +kernel⟩,
    ⟨(running.modHb 6 (fun h => {h with refresh := .pulse 1, lo := {h.lo with on := true}})), 9000000, 6, 1, by decide +kernel⟩⟩

theorem witness_TripCommands :
    (∃ (s : State) (t : Nat) (n : Fin 18) (e : Nat × Nat) (r : List (Nat × Nat)), On s (secOf n).val ∧ (s.hb n).expects = e :: r ∧
    e.2 + ns (s.nat (S_HS_TIMEOUT (secOf n))) ≤ max s.now t) ∧
    (∃ (s : State) (x : Fin 6), On s (25 + x.val)) ∧
    (∃ (s : State), On s islPower ∧ deviceUp s = false) ∧
    (∃ (s : State), On s islPower ∧ deviceUp s = true) ∧
    (∃ (s : State) (t : Nat) (x : Fin 6), On s x ∧ s.nat (S_BRK_MODE x) = 2 ∧ (s.sec x).brkStart + 4000000000 / s.nat (S_BRK_FREQ x)
    ≤ max s.now t) :=
  ⟨⟨(running.modHb 6 (fun h => {h with expects := [(0, 1)], lo := {h.lo with on := true}})), 9000000, 6, (0, 1), [], by decide +kernel⟩,
    ⟨running, 2, by decide +kernel⟩,
    ⟨(running.modPower (fun p => {p with source := 1})), by decide +kernel⟩,
    ⟨running, by decide +kernel⟩,
    ⟨((runSec (fun c => {c with brkDuty := 500})).set (S_BRK_MODE 2) 2), 9000000000, 2, by decide +kernel⟩⟩

theorem witness_QuenchClearCommands :
    (∃ (s : State) (t : Nat) (b : By) (x : Fin 6), allowed (s.at_ t) b (S_Q_CLEAR x) 1 = true) ∧
    (∃ (s : State) (t : Nat) (n : Fin 18), On s (secOf n).val ∧ s.flag (S_UV_AUTOCLEAR (secOf n)) = true ∧ latched s n = true ∧
    s.nat (S_Q_CAUSE n) = causeUvlo ∧ levelZeroFor (s.at_ t) n 1000 = true) ∧
    (∃ (s : State) (t : Nat) (b : By), allowed (s.at_ t) b S_DEV_CLEAR 1 = true) :=
  ⟨⟨(((r0.set (S_STATE 2) 4).set (S_Q_LATCH 2) 1)|>.set (S_HSS_LEVEL 6) 0), 9000000, fw, 2, by decide +kernel⟩,
    ⟨((((r0.set (S_STATE 2) 4).set (S_Q_LATCH 2) 1)|>.set (S_HSS_LEVEL 6) 0).set (S_Q_CAUSE 6) 0x10 |>.set (S_UV_AUTOCLEAR 2) 1), 9000000, 6, by decide +kernel⟩,
    ⟨(((r0.set (S_STATE 2) 4).set (S_Q_LATCH 2) 1)|>.set (S_Q_CAUSE 6) 0x90), 9000000, fw, by decide +kernel⟩⟩

end ConverterWitness

namespace EstimateWitness

theorem witness_EstimateCommands :
    (∃ (s : State) (x : Fin 6), On s (31 + x.val)) ∧
    (∃ (s : State), On s islFusion) ∧
    (∃ (s : State) (a : Fin 4) (T : Nat), On s islFusion ∧ onCascade s a = true ∧ isHost s a = true ∧ s.naz.starts.head? = some T ∧
    (s.ax a).cascOut.t < T) :=
  ⟨⟨running, 2, by decide +kernel⟩,
    ⟨members, by decide +kernel⟩,
    ⟨casc1, 1, 100, by decide +kernel⟩⟩

theorem witness_StartCommands :
    (∃ (s : State) (t : Nat) (a : Fin 4), On s islFusion ∧ inStage s a 1 = true ∧ (s.ax a).start.refPhase ≠ 1 ∧ stagePast (s.at_ t)
    a (s.nat (A_ALIGN_TIME a)) = true) ∧
    (∃ (s : State) (t : Nat) (a : Fin 4), On s islFusion ∧ (s.ax a).start.refPhase = 1 ∧ (s.ax a).start.refDue = none ∧ isHost s a =
    true ∧ stagePast (s.at_ t) a (s.nat (A_ALIGN_TIME a)) = true) ∧
    (∃ (s : State) (t : Nat) (a : Fin 4), On s islFusion ∧ inStage s a 2 = true ∧ 0 < rampSpeed (s.at_ t) a * (s.ax a).start.tgt ∧
    (s.get (A_HO_SPEED_UP a) : Rat) ≤ absR (rampSpeed (s.at_ t) a)) ∧
    (∃ (s : State) (a : Fin 4), On s islFusion ∧ inStage s a 3 = true) ∧
    (∃ (s : State) (t : Nat) (a : Fin 4), On s islFusion ∧ inStage s a 3 = true ∧ stagePast (s.at_ t) a (s.nat (A_HO_TIMEOUT a)) =
    true) ∧
    (∃ (s : State) (t : Nat) (a : Fin 4), On s islFusion ∧ inStage s a 4 = true ∧ stagePast (s.at_ t) a (s.nat (A_HO_BLEND a)) =
    true) ∧
    (∃ (s : State) (a : Fin 4), On s islFusion ∧ inStage s a 6 = true) ∧
    (∃ (s : State) (t : Nat) (a : Fin 4), On s islFusion ∧ inStage s a 6 = true ∧ stagePast (s.at_ t) a (s.nat (A_COAST_TIME a)) =
    true) ∧
    (∃ (s : State) (t : Nat) (a : Fin 4), On s islFusion ∧ inStage s a 7 = true ∧ (s.ax a).start.fails < s.nat (A_START_RETRIES a) ∧
    stagePast (s.at_ t) a (s.nat (A_START_RETRY_DELAY a)) = true ∧ startDemand s a ≠ 0) :=
  ⟨⟨(staged 1), 9000000000000, 1, by decide +kernel⟩,
    ⟨((staged 0).modAx 1 (fun c => {c with start := {c.start with refPhase := 1}})), 9000000000000, 1, by decide +kernel⟩,
    ⟨((staged 2).modAx 1 (fun c => {c with start := {c.start with tgt := 100, f0 := 100}})), 9, 1, by decide +kernel⟩,
    ⟨(staged 3), 1, by decide +kernel⟩,
    ⟨(staged 3), 9000000000000, 1, by decide +kernel⟩,
    ⟨(staged 4), 9000000000000, 1, by decide +kernel⟩,
    ⟨(staged 6), 1, by decide +kernel⟩,
    ⟨(staged 6), 9000000000000, 1, by decide +kernel⟩,
    ⟨((((staged 7).set (A_MODE 1) 0).set (A_TORQUE_DEM 1) 5)|>.set (A_START_RETRIES 1) 3), 9000000000000, 1, by decide +kernel⟩⟩

end EstimateWitness

namespace SlotRunWitness

theorem witness_SlotRunCommands :
    (∃ (s : State) (t : Nat) (k : Fin 48), s.flag (K_ENABLE k) = true ∧ bankAt (s.slot k).active 0x18 = 4 ∧ ((s.at_ t).tb : Int) %
    (4 * bankAt (s.slot k).active 0x19) = 0) ∧
    (∃ (s : State) (t : Nat) (l : Fin 6) (k : Fin 48) (age arrived : Nat) (w : Option Int), nextIssue (withInbound (s.at_ t) l) l =
    some k ∧ ((withInbound (s.at_ t) l).slot k).request = some (age, arrived, w) ∧ physOf s l.val ≠ 0xFF ∧ l.val ∉ s.lanes.held ∧
    s.lanes.cycle.get l ≠ some ((s.at_ t).tbNs / 2) ∧ (∀ r, s.lanes.rot = some r → r.logical < 6 ∧ r.spare < 7 ∧ physOf s r.logical
    < 7)) ∧
    (∃ (s : State) (t : Nat) (k : Fin 48) (r : Run) (rest : List Run) (twinPass : Bool), (s.slot k).runs = r :: rest ∧ r.issued + ns
    50 ≤ max s.now t ∧ r.pre = none ∧ r.inj = none ∧ (twinLane s k r = none ∨ twinPass = true)) ∧
    (∃ (s : State) (t : Nat) (k : Fin 48) (r : Run) (rest : List Run) (p : Fin 7) (twinPass : Bool), (s.slot k).runs = r :: rest ∧
    r.issued + ns 50 ≤ max s.now t ∧ r.pre = none ∧ r.lane = p.val ∧ s.lanes.residueAt.get p = none ∧ (twinLane s k r = none ∨
    twinPass = true)) ∧
    (∃ (s : State) (t : Nat) (k : Fin 48) (sub : Nat) (v : Int) (i : Nat) (rest : List (Nat × Nat × Int × Nat)), comingTo s k =
    (k.val, sub, v, i) :: rest ∧ i + ns 22 ≤ max s.now t) :=
  ⟨⟨{ (slotted [(0x18,4),(0x19,1)] id) with now := 0, tbOff := 0 }, 4, 3, by decide +kernel⟩,
    ⟨(slotted [(0x18,0),(0x17,2),(3,9)] (fun c => {c with request := some (1,2,some 3)})), 900, 0, 3, 1, 2, some 3, by decide +kernel⟩,
    ⟨(run3 []), 900, 3, ⟨0, 0, bankPut (bankPut (bankPut (r0.slot 3).active 3 5) 0x11 (-100)) 0x12 1000, 7, none, none, 0, false, none⟩, [], false, by decide +kernel⟩,
    ⟨(run3 [(0x1A, 0x2012)]), 900, 3, ⟨0, 0, bankPut (bankPut (bankPut (r0.slot 3).active 3 5) 0x11 (-100)) 0x12 1000, 7, none, none, 0, false, none⟩, [], 0, false, by decide +kernel⟩,
    ⟨(fun (s : State) => s.setComing 3 [(3, 5, 77, 0)]) ((slotted [] (fun c => {c with inbound := []}))), 900, 3, 5, 77, 0, [], by decide +kernel⟩⟩

theorem witness_SlotWriteCommands :
    (∃ (s : State) (t : Nat) (b : By) (k : Fin 48) (on : Bool), allowed (s.at_ t) b (K_ENABLE k) (flagInt on) = true) ∧
    (∃ (s : State) (t : Nat) (b : By) (k : Fin 48), allowed (s.at_ t) b (K_RESET k) 1 = true) ∧
    (∃ (s : State) (t : Nat) (b : By) (k : Fin 48) (v : BitVec 32), allowed (s.at_ t) b (K_PRELOAD k) v.toNat = true) :=
  ⟨⟨(((slotted [] id)).set (K_ENABLE 3) 0).set (K_IN 3 0) 0x6003, 900, fw, 3, true, by decide +kernel⟩,
    ⟨(run3 []), 900, fw, 3, by decide +kernel⟩,
    ⟨(run3 []), 900, fw, 3, 0xFFFFFFF0, by decide +kernel⟩⟩

theorem witness_LaneCommands :
    (∃ (s : State) (t : Nat) (q : Fin 7), On s islSelfTest ∧ s.nat K_ROT_PERIOD ≠ 0 ∧ s.lanes.rotAt + 4000000000 * s.nat
    K_ROT_PERIOD ≤ max s.now t ∧ (∀ i : Fin 7, s.nat (K_LANE_STATE i) = 1 ↔ i = q) ∧ s.lanes.rot = none ∧ s.lanes.mismatched = none
    ∧ s.nat PW_STATE ≠ 1 ∧ s.lanes.next < 6 ∧ physOf s s.lanes.next ≠ 0xFF) ∧
    (∃ (s : State) (t : Nat) (b : By), allowed (s.at_ t) b K_ROTATE_NOW 1 = true) ∧
    (∃ (s : State) (k : Fin 48) (r : Rotation), s.lanes.rot = some r ∧ (laneOf k).val = r.logical ∧ k.val ∉ r.copied ∧ (s.slot
    k).runs = []) ∧
    (∃ (s : State) (t : Nat) (r : Rotation) (i : Nat), On s islSelfTest ∧ s.lanes.rot = some r ∧ r.twinAt = some i ∧ i + us (s.nat
    K_TWIN_TIME) ≤ max s.now t ∧ r.handing = false ∧ (∀ k ∈ r.ran, k ∈ r.compared) ∧ r.logical < 6 ∧ r.spare < 7 ∧ physOf s
    r.logical < 7 ∧ physOf s r.logical ≠ r.spare) ∧
    (∃ (s : State) (k : Fin 48) (r : Rotation) (i : Nat), On s islSelfTest ∧ s.lanes.rot = some r ∧ r.twinAt = some i ∧ r.handing =
    false ∧ k.val ∈ r.compared ∧ r.spare < 7 ∧ r.logical < 6) ∧
    (∃ (s : State) (p : Fin 7), On s islSelfTest ∧ s.nat (K_LANE_STATE p) = 3 ∧ s.lanes.mismatched = none) ∧
    (∃ (s : State) (p : Fin 7) (l : Fin 6), On s islSelfTest ∧ s.nat (K_LANE_STATE p) = 3 ∧ s.lanes.mismatched = some l.val ∧ physOf
    s l.val ≠ p.val ∧ physOf s l.val < 7) ∧
    (∃ (s : State) (p : Fin 7), On s islSelfTest ∧ s.nat (K_LANE_STATE p) = 3) :=
  ⟨⟨(rotating 1 none), 900000000000000, 6, by decide +kernel⟩,
    ⟨(rotating 1 none), 900, fw, by decide +kernel⟩,
    ⟨(rotating 2 (some ⟨0, 6, [], none, [], [], false, []⟩)), 3, ⟨0, 6, [], none, [], [], false, []⟩, by decide +kernel⟩,
    ⟨(rotating 2 (some ⟨0, 6, [], some 4, [], [], false, []⟩)), 900000000000, ⟨0, 6, [], some 4, [], [], false, []⟩, 4, by decide +kernel⟩,
    ⟨(rotating 2 (some ⟨0, 6, [], some 4, [5], [5], false, []⟩)), 5, ⟨0, 6, [], some 4, [5], [5], false, []⟩, 4, by decide +kernel⟩,
    ⟨(rotating 3 none), 6, by decide +kernel⟩,
    ⟨(fun (s : State) => { s with lanes := { s.lanes with mismatched := some 2 } }) ((rotating 3 none)), 6, 2, by decide +kernel⟩,
    ⟨(rotating 3 none), 6, by decide +kernel⟩⟩

end SlotRunWitness

namespace AxisUpdateWitness

theorem witness_AxisUpdateCommands :
    (∃ (s : State) (t : Nat), On s islProfile ∧ (s.at_ t).tb % us 1 = 0) ∧
    (∃ (s : State) (t : Nat) (x : Fin 6) (a : Fin 4), On s islProfile ∧ axisOf s x = some a ∧ (s.sec x).tempAt + ms (s.nat
    (A_TEMP_TIMEOUT a)) ≤ max s.now t ∧ s.flag (S_TEMP_STALE x) = false) ∧
    (∃ (s : State) (a : Fin 4), On s islProfile ∧ onCascade s a = true ∧ 3 ≤ (s.ax a).tdMissed ∧ (s.ax a).tdLost = false) :=
  ⟨⟨{ (carrying 1) with now := 0, tbOff := 0 }, 4000, by decide +kernel⟩,
    ⟨(carrying 1), 90000000000000, 2, 1, by decide +kernel⟩,
    ⟨(((carrying 1).set (A_CASCADE_AXIS 1) 1).modAx 1 (fun c => {c with tdMissed := 3})), 1, by decide +kernel⟩⟩

theorem witness_SnatchCommands :
    (∃ (s : State) (t : Nat) (a : Fin 4) (old : Int), On s islProfile ∧ (s.at_ t).tb % us 10 = 0 ∧ snatchRuns (s.at_ t) a = true ∧
    (((s.ax a).tsrc :: (s.ax a).hist).take ((s.nat (A_SNATCH_WIN a) + 5) / 10 + 1))[(s.nat (A_SNATCH_WIN a) + 5) / 10]? = some old) ∧
    (∃ (s : State) (t : Nat) (a : Fin 4) (l : Nat), On s islProfile ∧ (s.ax a).snatchActive = true ∧ (s.ax a).snatchLowAt = some l ∧
    l + ms (s.nat (A_SNATCH_HOLD a)) ≤ max s.now t) ∧
    (∃ (s : State) (a : Fin 4), On s islProfile ∧ s.nat (A_SNATCH_STATE a) = 3) ∧
    (∃ (s : State) (t : Nat) (b : By) (a : Fin 4) (id : BitVec 16), allowed (s.at_ t) b (A_SNATCH_TX a) id.toNat = true) ∧
    (∃ (s : State) (t : Nat) (b : By) (a : Fin 4), allowed (s.at_ t) b (A_SNATCH_TX a) 0xFFFF = true) :=
  ⟨⟨{ (armed3 1 (fun c => {c with tsrc := 50000, hist := List.replicate 200 0, snatchRun := 200}) |>.set (A_SNATCH_EN 1) 1) with now := 0, tbOff := 0 }, 40000, 1, 0, by decide +kernel⟩,
    ⟨(armed3 2 (fun c => {c with snatchActive := true, snatchLowAt := some 0})), 90000000000000, 1, 0, by decide +kernel⟩,
    ⟨(armed3 3 id), 1, by decide +kernel⟩,
    ⟨staged3, 9, fw, 1, 5, by decide +kernel⟩,
    ⟨(armed3 1 id), 9, fw, 1, by decide +kernel⟩⟩

theorem witness_TensionCommands :
    (∃ (s : State) (t : Nat) (b : By) (a : Fin 4) (v : BitVec 32), allowed (s.at_ t) b (A_TEN_FB a) v.toNat = true) ∧
    (∃ (s : State) (t : Nat) (a : Fin 4), On s islProfile ∧ (mode s a = 4 ∨ s.nat (A_RENDER_STATE a) ≠ 0) ∧ (s.ax a).tenLost = false
    ∧ (s.ax a).tenAt + ms (s.nat (A_TEN_FB_TIMEOUT a)) ≤ max s.now t) :=
  ⟨⟨(carrying 4), 9, fw, 1, 500, by decide +kernel⟩,
    ⟨(carrying 4), 9000000000000, 1, by decide +kernel⟩⟩

end AxisUpdateWitness

namespace EncoderWitness

def enc1 (st : Int) : State := (((carrying 2).set (A_ENC_AXIS 0) 1).set (A_ENC_STATUS 0) st)

theorem witness_EncoderCommands :
    (∃ (s : State) (e : Fin 2) (who : BitVec 3) (a b : Bool), who.getLsbD 0 = true ∧ (a ≠ (s.enc e).a ∧ b = (s.enc e).b) ∨ (a =
    (s.enc e).a ∧ b ≠ (s.enc e).b)) ∧
    (∃ (s : State) (e : Fin 2) (who : BitVec 3) (a b : Bool), who.getLsbD 0 = true ∧ a ≠ (s.enc e).a ∧ b ≠ (s.enc e).b) ∧
    (∃ (s : State) (e : Fin 2) (who : BitVec 3), who.getLsbD 0 = true ∧ referenced s e = false) ∧
    (∃ (s : State) (e : Fin 2) (who : BitVec 3), who.getLsbD 0 = true ∧ referenced s e = true) ∧
    (∃ (s : State) (t : Nat) (b : By) (e : Fin 2), allowed (s.at_ t) b (A_ENC_STATUS_CLR e) 1 = true) :=
  ⟨⟨(enc1 1), 0, 7, true, false, by decide +kernel⟩,
    ⟨(enc1 1), 0, 7, true, true, by decide +kernel⟩,
    ⟨(enc1 0), 0, 7, by decide +kernel⟩,
    ⟨(enc1 1), 0, 7, by decide +kernel⟩,
    ⟨(enc1 31), 9, fw, 0, by decide +kernel⟩⟩

theorem witness_ReferenceCommands :
    (∃ (s : State) (t : Nat) (b : By) (a : Fin 4) (v : BitVec 64), allowed (s.at_ t) b (A_HOME_SET a) v.toNat = true) ∧
    (∃ (s : State) (t : Nat) (b : By) (a : Fin 4), allowed (s.at_ t) b (A_REF_RUN a) 1 = true) ∧
    (∃ (s : State) (t : Nat) (a : Fin 4), On s islProfile ∧ isHost s a = true ∧ (s.ax a).start.refPhase = 2 ∧ (s.ax a).start.refDue
    = none ∧ (s.ax a).start.refAt + ms (s.nat (A_HO_TIMEOUT a)) ≤ max s.now t) ∧
    (∃ (s : State) (t : Nat) (a : Fin 4), On s islProfile ∧ isHost s a = true ∧ (s.ax a).start.refPhase = 4 ∧ (s.ax a).start.refDue
    = none ∧ (s.ax a).start.at_ + ms (s.nat (A_HO_BLEND a)) ≤ max s.now t) :=
  ⟨⟨(enc1 1), 9, fw, 1, 0xFFFFFFFFFFFF0000, by decide +kernel⟩,
    ⟨(enc1 0), 9, fw, 1, by decide +kernel⟩,
    ⟨((enc1 0).modAx 1 (fun c => {c with start := {c.start with refPhase := 2}})), 900000000000000, 1, by decide +kernel⟩,
    ⟨((enc1 0).modAx 1 (fun c => {c with start := {c.start with refPhase := 4}})), 900000000000000, 1, by decide +kernel⟩⟩

end EncoderWitness

namespace ProfileWitness

def prof (m : Int) (st : Int) (f : Axis → Axis) : State := { ((carrying m).set (A_PROF_STATE 1) st).modAx 1 f with now := 0, tbOff := 0 }

theorem witness_ProfileCommands :
    (∃ (s : State) (t : Nat) (a : Fin 4), On s islProfile ∧ isHost s a = true ∧ (s.at_ t).tb % us (s.nat (A_PROF_PERIOD a)) = 0) ∧
    (∃ (s : State) (t : Nat) (b : By) (a : Fin 4), allowed (s.at_ t) b (A_MOVE_START a) 1 = true) ∧
    (∃ (s : State) (t : Nat) (b : By) (a : Fin 4), allowed (s.at_ t) b (A_STOP a) 1 = true) ∧
    (∃ (s : State) (a : Fin 4), On s islProfile ∧ 16 ≤ (s.ax a).followRun ∧ (s.ax a).level &&& lvFollow = 0) ∧
    (∃ (s : State) (a : Fin 4), On s islProfile ∧ 0x10 ≤ s.nat (A_GEAR_SRC a) ∧ s.nat (A_GEAR_SRC a) ≤ 0x13 ∧ 3 ≤ (s.ax
    a).gear.missed ∧ (s.ax a).level &&& lvMaster = 0) :=
  ⟨⟨{ (prof 1 1 (fun c => {c with tSpd := 90000})) with now := 0, tbOff := 0 }, 4000000, 1, by decide +kernel⟩,
    ⟨(prof 1 0 id), 4, fw, 1, by decide +kernel⟩,
    ⟨(prof 2 0 (fun c => {c with needDemand := true})), 4, fw, 1, by decide +kernel⟩,
    ⟨(prof 2 2 (fun c => {c with followRun := 16})), 1, by decide +kernel⟩,
    ⟨((prof 3 5 (fun c => {c with gear := {c.gear with missed := 3}})).set (A_GEAR_SRC 1) 0x11), 1, by decide +kernel⟩⟩

end ProfileWitness

namespace GeneratorWitness

def gens (st : Int) (f : Gen → Gen) : State := { ((r0.set (G_STATE 2) st).set (G_TARGET 2) 0xFF).modGen 2 f with now := 0, tbOff := 0 }
def cap (st : Int) (f : Cap → Cap) : State := let s : State := { ((r0.set C_STATE st).set C_CHANNELS 3).set (C_CH_SRC 1) 0x4002 with now := 0, tbOff := 0 }; { s with cap := f s.cap }
def T0 (s : State) : State := { s with now := 0, tbOff := 0 }

theorem witness_GeneratorCommands :
    (∃ (s : State) (t : Nat) (i : Fin 4), On s islCapture ∧ (s.at_ t).tb % ns (s.nat (G_STEP_NS i)) = 0 ∧ s.nat (G_STATE i) = 2 ∧
    (s.gen i).stop = false ∧ injectionBar s i = none ∧ (∀ t0, (s.gen i).sweep = some t0 → s.nat (G_DURATION i) = 0 ∨ (s.at_ t).tb <
    t0 + us (s.nat (G_DURATION i)))) ∧
    (∃ (s : State) (t : Nat) (i : Fin 4), On s islCapture ∧ (s.at_ t).tb % ns (s.nat (G_STEP_NS i)) = 0 ∧ s.nat (G_STATE i) = 1 ∧
    (s.gen i).stop = false ∧ injectionBar s i = none ∧ s.nat (G_START i) ≤ (s.at_ t).tbNs) ∧
    (∃ (s : State) (t : Nat) (i : Fin 4), On s islCapture ∧ (s.at_ t).tb % ns (s.nat (G_STEP_NS i)) = 0 ∧ genBusy s i = true ∧
    (s.gen i).stop = true ∨ (injectionBar s i ≠ none ∧ (s.nat (G_STATE i) = 1 → s.nat (G_START i) ≤ (s.at_ t).tbNs))) ∧
    (∃ (s : State) (t : Nat) (b : By) (i : Fin 4), allowed (s.at_ t) b (G_RUN i) 1 = true) ∧
    (∃ (s : State) (t : Nat) (b : By) (i : Fin 4), allowed (s.at_ t) b (G_RUN i) 0 = true) ∧
    (∃ (s : State) (t : Nat) (i : Fin 4) (t0 : Nat), On s islCapture ∧ s.nat (G_STATE i) = 2 ∧ (s.gen i).sweep = some t0 ∧ s.nat
    (G_DURATION i) ≠ 0 ∧ t0 + us (s.nat (G_DURATION i)) ≤ (s.at_ t).tb) :=
  ⟨⟨T0 ((gens 2 id)), 4000000000, 2, by decide +kernel⟩,
    ⟨T0 (((gens 1 (fun c => {c with reg := 77})).set (G_TYPE 2) 0 |>.set (G_AMPL 2) 500)), 4000000000, 2, by decide +kernel⟩,
    ⟨T0 (((gens 1 (fun c => {c with reg := 77, stop := true})).set (G_TYPE 2) 0 |>.set (G_AMPL 2) 500)), 4000000000, 2, by decide +kernel⟩,
    ⟨T0 (((gens 0 id).set (G_TYPE 2) 3)), 40, fw, 2, by decide +kernel⟩,
    ⟨T0 (((gens 2 id).set (G_TYPE 2) 3)), 40, fw, 2, by decide +kernel⟩,
    ⟨T0 (((gens 2 (fun c => {c with sweep := some 0})).set (G_DURATION 2) 3)), 4000000000, 2, 0, by decide +kernel⟩⟩

theorem witness_CaptureCommands :
    (∃ (s : State) (t : Nat) (b : By), allowed (s.at_ t) b C_CLAIM 1 = true) ∧
    (∃ (s : State) (t : Nat) (b : By), allowed (s.at_ t) b C_CLAIM 0 = true) ∧
    (∃ (s : State) (t : Nat) (b : By), allowed (s.at_ t) b C_ARM 1 = true) ∧
    (∃ (s : State) (t : Nat), On s islCapture ∧ (s.at_ t).tb % ns (s.nat C_PERIOD) = 0) ∧
    (∃ (s : State) (t : Nat), On s islCapture ∧ (s.at_ t).tb % ns (s.nat C_PERIOD) = 0 ∧ s.nat C_STATE = 3 ∧ s.nat C_DECIM ≤
    s.cap.ticks + 1) ∧
    (∃ (s : State) (t : Nat), On s islCapture ∧ (s.at_ t).tb % ns (s.nat C_PERIOD) = 0 ∧ s.nat C_STATE = 2 ∧ capTrigger (s.at_ t)
    s.cap.held (s.at_ t).chanReads.1 = true ∧ s.cap.ticks + 1 < s.nat C_DECIM) ∧
    (∃ (s : State) (t : Nat), On s islCapture ∧ (s.at_ t).tb % ns (s.nat C_PERIOD) = 0 ∧ s.nat C_STATE = 2 ∧ capTrigger (s.at_ t)
    s.cap.held (s.at_ t).chanReads.1 = false ∧ s.nat C_DECIM ≤ s.cap.ticks + 1) ∧
    (∃ (s : State) (t : Nat) (b : By), readCode (s.at_ t) b.sid C_DATA = some 0 ∧ ((s.at_ t).takeToken b.sid).1 ≠ .refused ∧
    readCode (paid (s.at_ t) b) b.sid C_DATA = some 0 ∧ 4 ≤ s.nat C_STATE ∧ 4 ≤ (paid (s.at_ t) b).nat C_STATE ∧ oldValue (paid
    (s.at_ t) b) C_DATA = none ∧ (∀ r, Catalog.find C_DATA = some r → reach (paid (s.at_ t) b) C_DATA r ≠ .atReset) ∧ (∀ n, (paid
    (s.at_ t) b).session b.sid = some n → capUsed (paid (s.at_ t) b) n + 1024 ≤ s.nat (SS_Q_CAPTURE n.profile))) :=
  ⟨⟨(cap 0 id), 40, fw, by decide +kernel⟩,
    ⟨((cap 2 id).set (G_STATE 1) 2), 40, fw, by decide +kernel⟩,
    ⟨ses id ((cap 0 id)) |>.set (SS_Q_CAPTURE 0) 100000000, 40, by1, by decide +kernel⟩,
    ⟨T0 ((cap 0 id)), 4000000000, by decide +kernel⟩,
    ⟨T0 ((cap 3 (fun c => {c with post := 1}))), 4000000000, by decide +kernel⟩,
    ⟨T0 (((cap 2 (fun c => {c with post := 5, recs := [[1,2]]})).set C_DECIM 5)), 4000000000, by decide +kernel⟩,
    ⟨T0 (((cap 2 (fun c => {c with post := 5, recs := [[1,2]]})).set C_PRE 5 |>.set C_TRIG_SRC 2 |>.set C_TRIG_TIME 9000000000)), 4000000000, by decide +kernel⟩,
    ⟨(ses id ((cap 4 (fun c => {c with post := 5, recs := [[1,2]]})))).set (SS_Q_CAPTURE 0) 100000000 |>.set (PW_DOM_STATE 123) 3, 40, by1, by decide +kernel⟩⟩

end GeneratorWitness

namespace SafetyWitness

theorem witness_SafetyCommands :
    (∃ (s : State) (t : Nat), Powered s islTongsA ∧ (s.at_ t).tb % us 50 = 0) ∧
    (∃ (s : State) (t : Nat), Powered s islTongsA ∧ (s.at_ t).tb % us 50 ≠ 0) ∧
    (∃ (s : State) (c : Fin 2), On s (38 + c.val)) ∧
    (∃ (s : State) (t d : Nat), Powered s islTongsA ∧ s.discAt = some d ∧ d + ms (s.cfgN SF_STO_DISC_TIME) ≤ max s.now t ∧ s.disc =
    false) ∧
    (∃ (s : State) (t : Nat), Powered s islTongsA ∧ (s.disc = true ∨ s.discAt.all (fun d => decide (max s.now t < d + ms (s.cfgN
    SF_STO_DISC_TIME))) = true)) ∧
    (∃ (s : State), Powered s islTongsA) ∧
    (∃ (s : State) (t : Nat) (b : By) (on : Bool), allowed (s.at_ t) b SF_BRAKE_OPEN (flagInt on) = true) ∧
    (∃ (s : State) (t : Nat) (b : By) (a : Fin 4) (w : BitVec 16), allowed (s.at_ t) b (SF_REQ_LOCAL a) w.toNat = true) :=
  ⟨⟨T1 (running), 200000, by decide +kernel⟩,
    ⟨T1 (running), 200001, by decide +kernel⟩,
    ⟨(safe (fun x => {x with st := 1, sto := false, safeWord := 2})), 1, by decide +kernel⟩,
    ⟨(let s := inf [(SF_STO_AXES, 15)] (safe (fun x => {x with st := 1, sto := false, safeWord := 2})); { s with discAt := some 0, disc := false }), 2000000000000, 0, by decide +kernel⟩,
    ⟨({ safe (fun x => {x with st := 1, sto := false}) with disc := true }), 200000, by decide +kernel⟩,
    ⟨((safe (fun x => {x with st := 1, sto := false, fn := 4, sbcAt := some 5}))), by decide +kernel⟩,
    ⟨running, 200000, fw, true, by decide +kernel⟩,
    ⟨running, 200000, fw, 1, 0x55, by decide +kernel⟩⟩

end SafetyWitness

namespace ConfigWitness

def cfgSt (st : Int) (f : State → State) : State := f (((r0.set SF_CFG_STATE st).set SF_CFG_OWNER 1).set SF_COMMISSION 1)
def tele (s : State) : State := inf [(SF_TG_ENABLE, 1), (SF_TG_AXES, 15), (SF_TG_CYCLE, 1000), (SF_TG_WATCHDOG, 100), (SF_TG_GRACE, 20)] (s.set SF_CFG_STATE 4)
def tg (sq w : Nat) : Bytes := let b := le 1 0x5C ++ le 1 1 ++ le 2 ((tele r0).cfg SF_TG_ADDR) ++ le 2 ((tele r0).cfg SF_TG_PEER) ++ zeros 2 ++ le 4 sq ++ le 2 w ++ le 2 w ++ le 2 w ++ le 2 w ++ le 4 (r0.get SF_CRC_CONFIRMED); b ++ le 4 (crc32c b)
def portsf (f : Fin 2 → TgPort → TgPort) (g : Chan → Chan) (s : State) : State := chans.foldl (fun s c => s.modChan c (fun k => g { k with ports := Vector.ofFn (fun p => f p (k.ports.get p)) })) s

theorem witness_ConfigCommands :
    (∃ (s : State) (t : Nat) (b : By), allowed (s.at_ t) b SF_COMMISSION 1 = true) ∧
    (∃ (s : State) (t : Nat) (b : By), allowed (s.at_ t) b SF_COMMISSION 0 = true) ∧
    (∃ (s : State) (t : Nat) (b : By), allowed (s.at_ t) b SF_CFG_SEAL 1 = true) ∧
    (∃ (s : State) (t : Nat) (b : By), allowed (s.at_ t) b SF_CFG_SEAL 0 = true) ∧
    (∃ (s : State), Powered s islTongsA ∧ s.rereading = false ∧ s.nat SF_CFG_STATE = 2) ∧
    (∃ (s : State) (m : Image), Powered s islTongsA ∧ s.rereading = true ∧ bestImage s = some m) ∧
    (∃ (s : State) (t : Nat) (b : By) (v : BitVec 32), allowed (s.at_ t) b SF_CRC_CONFIRM v.toNat = true) ∧
    (∃ (s : State) (crc : Nat) (vs : List (Nat × Int)), Powered s islTongsA ∧ s.confirming = some (crc, vs)) :=
  ⟨⟨(ses id ((cfgSt 4 (fun s => [0,1,2,3,4,5].foldl (fun (s : State) (x : Nat) => s.set (S_STATE x) 0) s)))).set SF_CFG_OWNER 0xFFFF, 9, by1, by decide +kernel⟩,
    ⟨ses id ((cfgSt 1 id)), 9, by1, by decide +kernel⟩,
    ⟨ses id ((cfgSt 1 (fun s => (s.set SF_TG_ADDR 3).set SF_TG_PEER 4))), 9, by1, by decide +kernel⟩,
    ⟨ses id ((cfgSt 3 id)), 9, by1, by decide +kernel⟩,
    ⟨{ ses id ((cfgSt 2 id)) with rereading := false }, by decide +kernel⟩,
    ⟨{ (cfgSt 0 (fun s => {s with images := [⟨4, 5, [(SF_TG_ENABLE, 1)]⟩, ⟨3, 5, []⟩]})) with rereading := true }, ⟨4, 5, [(SF_TG_ENABLE, 1)]⟩, by decide +kernel⟩,
    ⟨ses id ((cfgSt 3 (fun s => (s.set SF_CRC_A 5).set SF_CRC_B 5))), 9, by1, 5, by decide +kernel⟩,
    ⟨{ r0 with confirming := some (77, [(SF_TG_ENABLE, 1), (SF_TG_AXES, 15), (SF_ANV_DUTY_MAX 2, 10)]) }, 77, [(SF_TG_ENABLE, 1), (SF_TG_AXES, 15), (SF_ANV_DUTY_MAX 2, 10)], by decide +kernel⟩⟩

theorem witness_TelegramCommands :
    (∃ (s : State) (p : Fin 2), On s (42 + p.val)) ∧
    (∃ (s : State) (t : Nat), Powered s islTongsA ∧ s.cfg SF_TG_ENABLE = 1 ∧ (s.at_ t).tb % us (s.cfgN SF_TG_CYCLE) = 0) ∧
    (∃ (s : State) (t : Nat), Powered s islTongsA ∧ (s.at_ t).tb % us 50 = 0 ∧ s.nat SF_CFG_STATE = 4 ∧ (∀ c : Fin 2, s.cfgOf c
    SF_TG_ENABLE = 1 ∧ (s.chan c).mismatch = none ∧ (∀ p : Fin 2, ((s.chan c).ports.get p).seqFault = false) ∧ (s.chan
    c).pairedAt.any (fun i => decide (i + ms (s.cfgNOf c SF_TG_WATCHDOG) ≤ max s.now t)) = true)) ∧
    (∃ (s : State) (t : Nat) (p : Fin 2), Powered s islTongsA ∧ (s.at_ t).tb % us 50 = 0 ∧ s.nat SF_CFG_STATE = 4 ∧ (∀ c : Fin 2,
    s.cfgOf c SF_TG_ENABLE = 1 ∧ (s.chan c).mismatch = none ∧ (∀ q : Fin 2, ((s.chan c).ports.get q).seqFault = false) ∧ (s.chan
    c).pairedAt.any (fun i => decide (i + ms (s.cfgNOf c SF_TG_WATCHDOG) ≤ max s.now t)) = false ∧ ((s.chan c).ports.get p).lastAt +
    ms (s.cfgNOf c SF_TG_GRACE) ≤ max s.now t ∧ max s.now t < ((s.chan c).ports.get (1 - p)).lastAt + ms (s.cfgNOf c SF_TG_GRACE) ∧
    ((s.chan c).ports.get (1 - p)).runAt + ms (s.cfgNOf c SF_TG_GRACE) ≤ max s.now t)) :=
  ⟨⟨tele (r0), 0, by decide +kernel⟩,
    ⟨T1 (tele (r0)), 4000000, by decide +kernel⟩,
    ⟨T1 (portsf (fun _ q => { q with seqFault := false }) (fun k => {k with pairedAt := some 0, mismatch := none}) (tele ((safe (fun x => {x with st := 1}))))), 4000000000, by decide +kernel⟩,
    ⟨T1 (portsf (fun p q => {q with seqFault := false, runAt := 0, lastAt := if p = 0 then 0 else 4000000000}) (fun k => { k with mismatch := none, pairedAt := some 4000000000 }) (tele ((safe (fun x => {x with st := 1}))))), 4000000000, 0, by decide +kernel⟩⟩

end ConfigWitness

namespace ObjectWitness

def keyed : State := ((((r0.setBlob (SS_KEY 3) (zeros 16)).set (SS_KEY_EN 3) 1).set (SS_KEY_PORTS 3) 7).set (SS_KEY_MAX 3) 5 |>.set (SS_KEY_ROLES 3) 15)
def pay20 : Bytes := le 2 3 ++ zeros 18
def openBs : Bytes := appFrame (zeros 16) 1 0xFFFF 0 pay20
def confBs : Bytes := appFrame (zeros 16) 3 1 1 []
def J0 (s : State) := s.set DV_ADDRESS 0

def op2 : State := ses (fun m => {m with key := zeros 16, slot := some 3, opening := some 0}) keyed
def su1 : State := ses (fun m => {m with addr := [3], key := zeros 16, subs := [(SS_COUNT, 1000, 0)]}) keyed

theorem witness_ObjectCommands :
    (∃ (s : State) (t : Nat) (b : By) (dev : BitVec 8) (key : BitVec 24) (bs : Bytes) (r : ObjRow), dev.toNat = s.nat DV_ADDRESS ∧
    Catalog.find key.toNat = some r ∧ keySlotAt key.toNat = none ∧ accepts (s.at_ t) b key.toNat bs = true) ∧
    (∃ (s : State) (t : Nat) (b : By) (dev : BitVec 8) (a : Fin 4) (v : BitVec 32), dev.toNat = s.nat DV_ADDRESS ∧ accepts (s.at_ t)
    b (A_TARGET_SPEED a) (le 4 v.toInt) = true) ∧
    (∃ (s : State) (t : Nat) (b : By) (dev : BitVec 8) (key : BitVec 24) (r : ObjRow), dev.toNat = s.nat DV_ADDRESS ∧ Catalog.find
    key.toNat = some r ∧ r.ty.long = false ∧ served (s.at_ t) b.sid key.toNat = true ∧ ((s.at_ t).takeToken b.sid).1 ≠ .refused ∧
    readCode (paid (s.at_ t) b) b.sid key.toNat = some 0 ∧ (reach (paid (s.at_ t) b) key.toNat r = .whole ∨ r.acc = .wo) ∧ oldValue
    (paid (s.at_ t) b) key.toNat = none) ∧
    (∃ (s : State) (t : Nat) (b : By) (dev : BitVec 8) (key : BitVec 24) (r : ObjRow), dev.toNat = s.nat DV_ADDRESS ∧ Catalog.find
    key.toNat = some r ∧ served (s.at_ t) b.sid key.toNat = true ∧ served (paid (s.at_ t) b) b.sid key.toNat = true ∧ ((s.at_
    t).takeToken b.sid).1 ≠ .refused) ∧
    (∃ (s : State) (t : Nat) (b : By) (dev : BitVec 8) (key : BitVec 24) (bs : Bytes) (n : Session), dev.toNat = s.nat DV_ADDRESS ∧
    served (s.at_ t) b.sid key.toNat = true ∧ ((s.at_ t).takeToken b.sid).1 ≠ .refused ∧ readCode (paid (s.at_ t) b) b.sid key.toNat
    = some 0 ∧ bs.length = 4 ∧ 1000 ≤ ofLe bs ∧ ofLe bs ≤ 1000000 ∧ (paid (s.at_ t) b).session b.sid = some n ∧ (n.subs.filter (fun
    e => decide (e.1 ≠ dev.toNat * 16777216 + key.toNat))).length < 16) ∧
    (∃ (s : State) (t : Nat) (b : By) (dev : BitVec 8) (key : BitVec 24) (n : Session), dev.toNat = s.nat DV_ADDRESS ∧ served (s.at_
    t) b.sid key.toNat = true ∧ ((s.at_ t).takeToken b.sid).1 ≠ .refused ∧ readCode (paid (s.at_ t) b) b.sid key.toNat = some 0 ∧
    (paid (s.at_ t) b).session b.sid = some n) :=
  ⟨⟨J0 (r0), 9, fw, 0, BitVec.ofNat 24 (A_TARGET_SPEED 1), [1,2,0,0], (Catalog.find (A_TARGET_SPEED 1)).get (by decide), by decide +kernel⟩,
    ⟨ses id (J0 (r0)), 9, by1, 0, 1, 77, by decide +kernel⟩,
    ⟨ses id (J0 (r0)), 9, by1, 0, BitVec.ofNat 24 (A_TARGET_SPEED 1), (Catalog.find (A_TARGET_SPEED 1)).get (by decide), by decide +kernel⟩,
    ⟨ses id (J0 (r0)), 9, by1, 0, BitVec.ofNat 24 (SS_COUNT), (Catalog.find (SS_COUNT)).get (by decide), by decide +kernel⟩,
    ⟨ses id (J0 (r0)), 9, by1, 0, BitVec.ofNat 24 (SS_COUNT), le 4 2000, (((paid ((ses id (J0 (r0))).at_ 9) by1).session 1).getD (Session.fresh 0 0 none 0 0 0 0)), by decide +kernel⟩,
    ⟨ses id (J0 (r0)), 9, by1, 0, BitVec.ofNat 24 (SS_COUNT), (((paid ((ses id (J0 (r0))).at_ 9) by1).session 1).getD (Session.fresh 0 0 none 0 0 0 0)), by decide +kernel⟩⟩

theorem witness_SessionOpening :
    (∃ (s : State) (t : Nat) (p : Fin 3) (bs : Bytes) (f : AppF) (id : Nat), On s islCrypto ∧ s.power.service = true ∧ AppF.parse p
    bs = some f ∧ f.ty = 1 ∧ f.pay.length = 20 ∧ numAt f.pay 0 2 < 64 ∧ ((s.at_ t).countOpen p).1 = true ∧ s.flag (SS_KEY_EN (numAt
    f.pay 0 2)) = true ∧ tagRight (s.blob (SS_KEY (numAt f.pay 0 2))) bs = true ∧ openCode s p (numAt f.pay 0 2) = 0 ∧ freeId s =
    some id) ∧
    (∃ (s : State) (t : Nat) (p : Fin 3) (bs : Bytes) (f : AppF) (n : Session) (slot : Fin 64) (i : Nat), On s islCrypto ∧ Arrives s
    p bs 0x03 f n ∧ n.slot = some slot.val ∧ n.opening = some i ∧ max s.now t ≤ i + ms 100) ∧
    (∃ (s : State) (t sid : Nat) (n : Session) (i : Nat), On s islCrypto ∧ s.session sid = some n ∧ n.opening = some i ∧ i + ms 100
    ≤ max s.now t) ∧
    (∃ (s : State) (t sid : Nat) (n : Session), s.session sid = some n ∧ n.port ≤ 2 ∧ n.opening = none ∧ (s.at_ t).tb % 5 = 0 ∧ (On
    s (if n.port = 2 then islHost else 42 + n.port)) ∧ (∀ e ∈ n.subs, (s.at_ t).tbNs % (1000 * e.2.1) ≠ 0)) ∧
    (∃ (s : State) (t sid : Nat) (n : Session) (e : Nat × Nat × Nat), s.session sid = some n ∧ n.port < 2 ∧ n.bare = false ∧
    n.opening = none ∧ (s.at_ t).tb % 5 = 0 ∧ On s (42 + n.port) ∧ n.subs = [e] ∧ (s.at_ t).tbNs % (1000 * e.2.1) = 0 ∧ ((s.at_
    t).readObj sid (2 + n.port) (e.1 % 16777216)).1 = some 0) :=
  ⟨⟨keyed, 9, 0, openBs, ((AppF.parse 0 openBs).getD ⟨0, 0, 0, []⟩), ((freeId (keyed)).getD 0), by decide +kernel⟩,
    ⟨op2, 9, 0, confBs, ((AppF.parse 0 confBs).getD ⟨0, 0, 0, []⟩), (op2.sessions.headD (Session.fresh 0 0 none 0 0 0 0)), 3, 0, by decide +kernel⟩,
    ⟨op2, 200000000000, 1, (op2.sessions.headD (Session.fresh 0 0 none 0 0 0 0)), 0, by decide +kernel⟩,
    ⟨T1 (su1), 200000005, 1, (su1.sessions.headD (Session.fresh 0 0 none 0 0 0 0)), by decide +kernel⟩,
    ⟨T1 (su1), 200000000, 1, (su1.sessions.headD (Session.fresh 0 0 none 0 0 0 0)), (SS_COUNT, 1000, 0), by decide +kernel⟩⟩

end ObjectWitness

namespace RequestFramesWitness

def opn (p : Nat) : State := sesOn p (fun m => {m with key := zeros 16, tokens := 5}) (r0.set DV_ADDRESS 0 |>.set (SS_Q_BURST 0) 1000)
def mk (_ : Nat) (s : State) := s
def afr (ty : Nat) (pay : Bytes) : Bytes := appFrame (zeros 16) ty 1 1 pay
def pf (b : Bytes) : AppF := (AppF.parse 0 b).getD ⟨0, 0, 0, []⟩
def sn (s : State) : Session := s.sessions.headD (Session.fresh 0 0 none 0 0 0 0)
def rdRec : Rec := ⟨1, 7, 0, A_TARGET_SPEED 1, [], none⟩
def fixd (s : State) : State := s.set DV_ADDRESS 0
def naz1 (s : State) : State := ((s.set (NZ_LINK 1) 2).set DV_ADDRESS 0).modNaz (fun n => { n with addressed := true })
def nfr (kind : Nat) (pay : Bytes) : NazF := ⟨kind, 0, 0, 3, 0, 5, 0, pay⟩
def prox : State := naz1 (ses (fun m => {m with port := 5, origin := some 9}) r0)
def rs : State := let s := opn 0; { s with queue := [⟨1, 4, 0, 1, [rdRec], true⟩], flights := [⟨1, 4, [none], [rdRec], []⟩], power := { s.power with service := true } } |>.set FW_PAIRS 3
def rec3 : Rec := { rdRec with dev := 3 }
def flt : State := let s := naz1 (opn 1); { s with flights := [⟨1, 77, [none], [rec3], [3]⟩] }
def rsp : Bytes := respRecord rec3 0 [1,2,3,4]

theorem witness_RequestFrames :
    (∃ (s : State) (p : Fin 3) (bs : Bytes) (f : AppF) (n : Session), On s islCrypto ∧ Arrives s p bs 0x10 f n ∧ n.opening = none ∧
    n.bare = false ∧ (parseRecs clientOps 33 f.pay).getD [] = []) ∧
    (∃ (s : State) (t : Nat) (p : Fin 3) (bs : Bytes) (f : AppF) (n : Session) (recs : List Rec), On s islCrypto ∧ Arrives s p bs
    0x10 f n ∧ p.val < 2 ∧ n.opening = none ∧ parseRecs clientOps 33 f.pay = some recs ∧ 1 ≤ recs.length ∧ recs.length ≤ 32 ∧
    (recs.length : Rat) ≤ tokensNow (s.at_ t) n ∧ (s.queue.map AppReq.left).sum + s.heldW.length + recs.length ≤ 4096) ∧
    (∃ (s : State) (t : Nat) (bs : Bytes) (f : AppF) (n : Session) (r : Rec) (a : Fin 4), On s islCrypto ∧ Arrives s 2 bs 0x10 f n ∧
    n.opening = none ∧ parseRecs clientOps 33 f.pay = some [r] ∧ r.op = 1 ∧ r.dev = s.nat DV_ADDRESS ∧ r.key = A_TARGET_SPEED a ∧ 1
    ≤ tokensNow (s.at_ t) n ∧ s.queue = [] ∧ s.flights = [] ∧ s.heldW = [] ∧ s.hostOut.length < 16 ∧ readCode (s.at_ t) f.sid
    (A_TARGET_SPEED a) = some 0 ∧ oldValue s (A_TARGET_SPEED a) = none) ∧
    (∃ (s : State) (t : Nat) (i : Fin 2) (q : AppReq) (n : Session) (r : Rec) (a : Fin 4), On s (40 + i.val) ∧ bitOf (s.nat
    FW_PAIRS) i.val = true ∧ s.fw.handing = 0 ∧ s.power.service = true ∧ s.queue = [q] ∧ q.recs = [r] ∧ r.code = none ∧ s.flights =
    [⟨q.sid, q.seq, [none], [r], []⟩] ∧ s.session q.sid = some n ∧ n.port < 2 ∧ n.bare = false ∧ r.op = 1 ∧ r.dev = s.nat DV_ADDRESS
    ∧ r.key = A_TARGET_SPEED a ∧ s.heldW = [] ∧ s.naz.held = [] ∧ readCode (s.at_ t) q.sid (A_TARGET_SPEED a) = some 0 ∧ oldValue s
    (A_TARGET_SPEED a) = none) ∧
    (∃ (s : State) (i : Fin 2), s.queue = [] ∧ On s (40 + i.val)) ∧
    (∃ (s : State) (p : Fin 3) (bs : Bytes) (f : AppF) (n : Session), On s islCrypto ∧ Arrives s p bs 0x20 f n ∧ n.opening = none ∧
    n.bare = false) ∧
    (∃ (s : State) (p : Fin 3) (bs : Bytes) (f : AppF) (n : Session), On s islCrypto ∧ Arrives s p bs 0x21 f n ∧ n.opening = none ∧
    n.bare = false) ∧
    (∃ (s : State) (p : Fin 2) (bs : Bytes) (f : NazF) (recs : List Rec) (id : Nat), On s (islNaz p) ∧ Heard s p nkRequest bs f ∧
    parseRecs (opJoin :: clientOps) 34 (f.payload.drop 8) = some recs ∧ recs ≠ [] ∧ (∀ r ∈ recs, r.op ≠ opJoin) ∧ proxyOf s (numAt
    f.payload 0 2) = none ∧ freeId s = some id ∧ guarSum s + rateOf s (numAt f.payload 3 1 % 16) ≤ 150000 ∧ recs.length ≤ burstOf s
    (numAt f.payload 3 1 % 16) ∧ (s.queue.map AppReq.left).sum + s.heldW.length + recs.length ≤ 4096) ∧
    (∃ (s : State) (p : Fin 2) (bs : Bytes) (f : NazF) (n : Session), On s (islNaz p) ∧ Heard s p nkRequest bs f ∧ f.payload.length
    ≤ 8 ∧ proxyOf s (numAt f.payload 0 2) = some n) ∧
    (∃ (s : State) (p : Fin 2) (bs x : Bytes) (f : NazF) (n : Session) (r : Rec), On s (islNaz p) ∧ Heard s p nkResponse bs f ∧
    s.flights = [⟨numAt f.payload 0 2, numAt f.payload 4 4, [none], [r], [f.src]⟩] ∧ r.dev = f.src ∧ splitResp 34 (f.payload.drop 8)
    = [x] ∧ numAt x 0 1 ≠ opJoin ∧ s.session (numAt f.payload 0 2) = some n ∧ n.port < 2 ∧ n.bare = false) :=
  ⟨⟨(opn 0), 0, afr 0x10 [], pf (afr 0x10 []), sn (opn 0), by decide +kernel⟩,
    ⟨(opn 0), 9, 0, afr 0x10 rdRec.bytes, pf (afr 0x10 rdRec.bytes), sn (opn 0), [rdRec], by decide +kernel⟩,
    ⟨fixd ((opn 2)), 9, afr 0x10 rdRec.bytes, pf (afr 0x10 rdRec.bytes), sn (opn 2), rdRec, 1, by decide +kernel⟩,
    ⟨fixd (rs), 9, 1, ⟨1, 4, 0, 1, [rdRec], true⟩, sn rs, rdRec, 1, by decide +kernel⟩,
    ⟨(opn 0), 1, by decide +kernel⟩,
    ⟨(opn 0), 0, afr 0x20 [], pf (afr 0x20 []), sn (opn 0), by decide +kernel⟩,
    ⟨(opn 0), 0, afr 0x21 [], pf (afr 0x21 []), sn (opn 0), by decide +kernel⟩,
    ⟨naz1 ((r0.set (SS_Q_BURST 1) 5)), 1, (nfr nkRequest (le 2 9 ++ le 1 31 ++ le 1 1 ++ le 4 77 ++ rdRec.bytes)).bytes, nfr nkRequest (le 2 9 ++ le 1 31 ++ le 1 1 ++ le 4 77 ++ rdRec.bytes), [rdRec], 0, by decide +kernel⟩,
    ⟨naz1 (prox), 1, (nfr nkRequest (le 2 9 ++ zeros 6)).bytes, nfr nkRequest (le 2 9 ++ zeros 6), sn prox, by decide +kernel⟩,
    ⟨naz1 (flt), 1, (nfr nkResponse (le 2 1 ++ zeros 2 ++ le 4 77 ++ rsp)).bytes, rsp, nfr nkResponse (le 2 1 ++ zeros 2 ++ le 4 77 ++ rsp), sn flt, rec3, by decide +kernel⟩⟩

end RequestFramesWitness

namespace SessionEndsLocksAndKeysWitness

def opn (p : Nat) : State := sesOn p (fun m => {m with key := zeros 16, tokens := 5, sel := 1, profile := 0, slot := some 3}) (r0.set DV_ADDRESS 0 |>.set (SS_Q_BURST 0) 1000 |>.set (SS_Q_LOCKS 0) 8)
def sn (s : State) : Session := s.sessions.headD (Session.fresh 0 0 none 0 0 0 0)
def lk (e : Nat) : State := let s := opn 0; { s with locks := s.locks.set 3 (some ⟨1, 2, e⟩) , txs := [⟨5, 1, 0, 0, 0, 0, 0, 1, [(S_PERIOD 3, [1,0,0,0])], [], none, 0, 0, 0, 0, 0, 0, 0, none, none, [], [], none, false, [], false, false, false⟩] }
def S (f : Session → Session) := ses f r0

theorem witness_SessionEndsLocksAndKeys :
    (∃ (s : State) (t sid : Nat) (n : Session), On s islCrypto ∧ s.session sid = some n ∧ n.opening = none ∧ n.port ≤ 2 ∧ (¬(n.id =
    sidHost ∧ n.slot = none)) ∧ n.lastAt + ms (s.nat (SS_Q_IDLE n.profile)) ≤ max s.now t) ∧
    (∃ (s : State) (t sid : Nat) (n : Session), On s islCrypto ∧ s.session sid = some n ∧ max s.now t < n.lastAt + ms (s.nat
    (SS_Q_IDLE n.profile))) ∧
    (∃ (s : State) (t : Nat) (b : By), allowed (s.at_ t) b SS_V_CLOSE 1 = true) ∧
    (∃ (s : State), On s islCrypto) ∧
    (∃ (s : State) (t : Nat) (b : By) (w : BitVec 28), allowed (s.at_ t) b SS_LOCK (0x10000000 + w.toNat : Nat) = true) ∧
    (∃ (s : State) (t : Nat) (b : By) (w : BitVec 28), allowed (s.at_ t) b SS_LOCK (0x20000000 + w.toNat : Nat) = true) ∧
    (∃ (s : State) (i : Fin 10) (l : Lock), On s islCrypto ∧ s.lockAt i = some l) ∧
    (∃ (s : State) (t : Nat) (b : By) (k : Fin 64) (bs : Bytes), accepts (s.at_ t) b (SS_KEY k) bs = true) ∧
    (∃ (s : State) (t : Nat) (b : By) (k : Fin 64) (on : Bool), allowed (s.at_ t) b (SS_KEY_EN k) (flagInt on) = true) :=
  ⟨⟨(opn 0), 9000000000000000, 1, sn (opn 0), by decide +kernel⟩,
    ⟨((opn 0).set (SS_Q_IDLE 0) 60000), 9, 1, sn (opn 0), by decide +kernel⟩,
    ⟨(opn 0), 9, by1, by decide +kernel⟩,
    ⟨{opn 0 with freed := [(4,0),(5,99999999999999)]}, by decide +kernel⟩,
    ⟨(opn 0), 9, by1, BitVec.ofNat 28 (0x1030000 + 100), by decide +kernel⟩,
    ⟨(lk 5), 9, by1, BitVec.ofNat 28 (0x1030000 + 100), by decide +kernel⟩,
    ⟨(lk 5), 3, ⟨1,2,5⟩, by decide +kernel⟩,
    ⟨(opn 2), 9, by1, 3, zeros 16, by decide +kernel⟩,
    ⟨((opn 0).set (SS_KEY_SET 3) 1), 9, by1, 3, true, by decide +kernel⟩⟩

end SessionEndsLocksAndKeysWitness

namespace PortWitness

def opn (p : Nat) : State := sesOn p (fun m => {m with id := 0x07FE, key := zeros 16, tokens := 5}) (r0.set DV_ADDRESS 0 |>.set (SS_Q_BURST 0) 1000)
def hw : List (BitVec 32) := let w := hostWords [1,2,3,4,5]; w.map (BitVec.ofNat 32)
def ln : State := r0.set (NP_LINK 1) 1
def eth : Bytes := zeros 12 ++ be 2 0x86DD ++ (let pay := be 2 0x8000 ++ zeros 2; be 2 0x6000 ++ zeros 2 ++ be 2 4 ++ le 1 58 ++ le 1 64 ++ linkLocal 0 ++ linkLocal 1 ++ pay) ++ zeros 4
def cn (d : Option Sdo) : State := ((opn 4).set (CB_STATE 1) 2 |>.set (CB_NMT_STATE 1) 5).modCan 1 (fun c => { c with mode := 1, sdo := d })

theorem witness_PortCommands :
    (∃ (s : State), On s islHost) ∧
    (∃ (s : State), On s islHost) ∧
    (∃ (s : State) (p : Fin 2), On s (42 + p.val)) ∧
    (∃ (s : State) (p : Fin 2), On s (42 + p.val)) ∧
    (∃ (s : State) (p : Fin 2) (target : Bytes), On s (42 + p.val) ∧ s.flag (NP_LINK p.val) = true ∧ (heldAddrs s p).contains target
    = true) ∧
    (∃ (s : State) (p : Fin 2) (dst : Bytes), On s (42 + p.val) ∧ s.flag (NP_LINK p.val) = true ∧ (receivedAddrs s p).contains dst =
    true) :=
  ⟨⟨r0, by decide +kernel⟩,
    ⟨{r0 with hostOut := [[1,2]]}, by decide +kernel⟩,
    ⟨r0, 1, by decide +kernel⟩,
    ⟨ln, 1, by decide +kernel⟩,
    ⟨ln, 1, linkLocal 1, by refine ⟨by decide +kernel, by decide +kernel, ?_⟩; simp [heldAddrs]⟩,
    ⟨ln, 1, linkLocal 1, by refine ⟨by decide +kernel, by decide +kernel, ?_⟩; simp [receivedAddrs, heldAddrs]⟩⟩

theorem witness_SdoCommands :
    (∃ (s : State) (b : Fin 2) (key : BitVec 24), On s (44 + b.val) ∧ sdoRuns s b = true ∧ (s.cb b).mode = 1 ∧ (flightOf s (sidCan
    b) 0).isNone = true ∧ isBlob key.toNat = false) ∧
    (∃ (s : State) (t : Nat) (b : Fin 2) (key : BitVec 24) (n : Session), On s (44 + b.val) ∧ sdoRuns s b = true ∧ (flightOf s
    (sidCan b) 0).isNone = true ∧ isBlob key.toNat = false ∧ s.session (sidCan b) = some n ∧ n.port = 3 + b.val ∧ 1 ≤ tokensNow
    (s.at_ t) n ∧ (s.queue.map AppReq.left).sum + s.heldW.length + 1 ≤ 4096) ∧
    (∃ (s : State) (t : Nat) (b : Fin 2) (d : Sdo) (bs : Bytes), On s (44 + b.val) ∧ sdoRuns s b = true ∧ (s.cb b).mode = 1 ∧
    (flightOf s (sidCan b) 0).isNone = true ∧ (s.cb b).sdo = some d ∧ d.down = true ∧ max s.now t ≤ d.at_ + ms 100 ∧ bs.length = 7 ∧
    d.data.length ≤ 57) ∧
    (∃ (s : State) (t : Nat) (b : Fin 2) (d : Sdo), On s (44 + b.val) ∧ sdoRuns s b = true ∧ (s.cb b).mode = 1 ∧ (flightOf s (sidCan
    b) 0).isNone = true ∧ (s.cb b).sdo = some d ∧ d.down = false ∧ max s.now t ≤ d.at_ + ms 100) ∧
    (∃ (s : State) (b : Fin 2) (d : Sdo), On s (44 + b.val) ∧ (s.cb b).mode = 1 ∧ (s.cb b).sdo = some d ∧ (flightOf s (sidCan b)
    0).isNone = true) :=
  ⟨⟨(cn none), 1, 0x501234, by decide +kernel⟩,
    ⟨(cn none), 9, 1, 0x501234, ((opn 4).sessions.headD (Session.fresh 0 0 none 0 0 0 0)), by decide +kernel⟩,
    ⟨(cn (some ⟨77,true,true,0,[1,2],0⟩)), 9, 1, ⟨77,true,true,0,[1,2],0⟩, [1,2,3,4,5,6,7], by decide +kernel⟩,
    ⟨(cn (some ⟨77,false,true,0,[1,2],0⟩)), 9, 1, ⟨77,false,true,0,[1,2],0⟩, by decide +kernel⟩,
    ⟨(cn (some ⟨77,false,true,0,[1,2],0⟩)), 1, ⟨77,false,true,0,[1,2],0⟩, by decide +kernel⟩⟩

end PortWitness

namespace TransactionWritesWitness

def tx0 : Tx := { Tx.fresh 5 1 0 with staged := [(A_TARGET_SPEED 1, [1,0,0,0])] }
def base : State := ses (fun n => { n with txCur := 5 }) (((r0.set (SS_Q_TX 0) 8).set DV_ADDRESS 0).set (NZ_LINK 1) 2)
def wt (f : Tx → Tx) : State := { base with txs := [f tx0] }
def f2 (x : Tx) : Tx := { x with st := 2 }
def coef (x : Tx) : Tx := { x with staged := [(0x410305, [1,0,0,0]), (0x410406, [1,0,0,0])] }
def f3 (x : Tx) : Tx := { x with st := 3, T := some 3, prepAt := some 0 }
def f4 (x : Tx) : Tx := { f3 x with applied := true }

theorem witness_TransactionWrites :
    (∃ (s : State) (t : Nat) (b : By), allowed (s.at_ t) b TX_OPEN 1 = true) ∧
    (∃ (s : State) (t : Nat) (b : By) (id : BitVec 16), allowed (s.at_ t) b TX_CUR id.toNat = true) ∧
    (∃ (s : State) (t : Nat) (b : By), allowed (s.at_ t) b TX_COMMIT 1 = true) ∧
    (∃ (s : State) (t : Nat) (b : By), allowed (s.at_ t) b TX_ABORT 1 = true) ∧
    (∃ (s : State) (t : Nat) (b : By) (id : BitVec 16), allowed (s.at_ t) b TX_SEL id.toNat = true) :=
  ⟨⟨(wt id), 9, by1, by decide +kernel⟩,
    ⟨(wt id), 9, by1, 5, by decide +kernel⟩,
    ⟨(wt id), 9, by1, by decide +kernel⟩,
    ⟨(wt id), 9, by1, by decide +kernel⟩,
    ⟨(wt id), 9, by1, 5, by decide +kernel⟩⟩

theorem witness_CommitProgress :
    (∃ (s : State) (id : Nat) (x : Tx) (k : Nat), On s islStore ∧ s.tx id = some x ∧ x.st = 2 ∧ lockedStaged s x = some k) ∧
    (∃ (s : State) (id : Nat) (x : Tx), On s islStore ∧ s.tx id = some x ∧ x.st = 2 ∧ lockedStaged s x = none) ∧
    (∃ (s : State) (t id : Nat) (x : Tx) (T : Nat), On s islStore ∧ s.tx id = some x ∧ x.st = 3 ∧ x.applied = false ∧ x.T = some T ∧
    T ≤ (s.at_ t).tbNs ∧ comesFirst s x T = false ∧ (∀ w ∈ x.staged, (slotAt w.1).isSome = true ∧ 2 ≤ w.1 % 256 ∧ w.1 % 256 ≤ 0x1A)
    ∧ (x.staged.map (·.1)).Nodup) ∧
    (∃ (s : State) (t id : Nat) (x : Tx) (T : Nat) (a : Fin 4) (v : BitVec 32), On s islStore ∧ s.tx id = some x ∧ x.st = 3 ∧
    x.applied = false ∧ x.T = some T ∧ T ≤ (s.at_ t).tbNs ∧ comesFirst s x T = false ∧ x.staged = [(A_TARGET_SPEED a, le 4
    v.toInt)]) ∧
    (∃ (s : State) (id : Nat) (x : Tx), On s islStore ∧ s.tx id = some x ∧ x.st = 3 ∧ x.applied = true ∧ x.written = false ∧ x.parts
    = []) ∧
    (∃ (s : State) (t id : Nat) (x : Tx) (i : Nat), On s islStore ∧ s.tx id = some x ∧ x.coord = none ∧ x.asked = some i ∧ (x.st = 2
    ∨ x.st = 3) ∧ x.decided = false ∧ i + ms (s.nat TX_PREP_TIMEOUT) ≤ max s.now t) ∧
    (∃ (s : State) (t id : Nat) (x : Tx) (i : Nat), On s islStore ∧ s.tx id = some x ∧ x.coord ≠ none ∧ x.asked = some i ∧ x.st = 3
    ∧ x.decided = false ∧ i + 2 * ms (s.nat TX_PREP_TIMEOUT) ≤ max s.now t) :=
  ⟨⟨(let s := wt f2; { s with locks := s.locks.set 7 (some ⟨3,2,1⟩)}), 5, f2 tx0, A_TARGET_SPEED 1, by decide +kernel⟩,
    ⟨(wt f2), 5, f2 tx0, by decide +kernel⟩,
    ⟨(wt (fun x => coef (f3 x))), 9000, 5, coef (f3 tx0), 3, by decide +kernel⟩,
    ⟨(wt (fun x => (f3 x))), 9000, 5, (f3 tx0), 3, 1, 1, by decide +kernel⟩,
    ⟨(wt (fun x => coef (f4 x))), 5, coef (f4 tx0), by decide +kernel⟩,
    ⟨(wt (fun x => {f3 x with asked := some 0})), 900000000000000, 5, {f3 tx0 with asked := some 0}, 0, by decide +kernel⟩,
    ⟨(wt (fun x => {f3 x with asked := some 0, coord := some (77,8)})), 900000000000000, 5, {f3 tx0 with asked := some 0, coord := some (77,8)}, 0, by decide +kernel⟩⟩

end TransactionWritesWitness

namespace CommitMessagesWitness

def tx0 : Tx := { Tx.fresh 5 1 0 with staged := [] }
def naz1 (s : State) : State := (((s.set (NZ_LINK 1) 2).set DV_ADDRESS 0).modNaz (fun n => { n with addressed := true })).set NZ_MASTER 3
def base : State := naz1 (ses (fun n => { n with txCur := 5 }) (r0.set (SS_Q_TX 0) 8))
def wt (f : Tx → Tx) : State := { base with txs := [f tx0] }
def nfr (kind : Nat) (pay : Bytes) : NazF := ⟨kind, 0, 0, 3, 0, 5, 0, pay⟩
def m (kind code id point : Nat) (ser T addr : Nat) : NazF := nfr nkTx (commitMsg kind code id point 0 ser T addr)
def pa (x : Tx) : Tx := { x with coord := some (77, 9) }
def co (st pt : Nat) (x : Tx) : Tx := { x with st := st, parts := [(3,1)], point := pt, time := 7 }
def de (w : Bool) (x : Tx) : Tx := { co 3 0 x with decided := true, written := w }
def ro (s : State) : State := naz1 (s.set NZ_ROLE 1)
/-- A commit message that names this device as coordinator names its serial number. -/
theorem own_serial (kind code id point T addr : Nat) : msgSerial (m kind code id point serialNo T addr) = serialNo := by
  show ofLe (le 8 ((serialNo : Nat) : Int)) = serialNo
  rw [Sys2Proof.Machine.ofLe_le]
  exact Nat.mod_eq_of_lt Config.serial.isLt
/-- A commit message for this device is heard by an addressed device whose link is up. -/
theorem heard_own (s : State) (kind : Nat) (hk : kind < 256) (h : s.nat (NZ_LINK 1) = 2 ∧ s.nat NZ_GEN = 0 ∧
    s.naz.addressed = true ∧ s.nat DV_ADDRESS = 0 ∧ s.naz.seen = []) :
    HeardTx s 1 kind (m kind 0 5 2 serialNo 1234 0).bytes (m kind 0 5 2 serialNo 1234 0) := by
  obtain ⟨h1, h2, h3, h4, h5⟩ := h
  refine ⟨⟨⟨h1, NazF.parse_bytes _ (show nkTx < 256 by decide) (show 0 < 256 by decide) (show 0 < 65536 by decide)
    (show 3 < 65536 by decide) (show 0 < 65536 by decide) (show 5 < 65536 by decide) (show 0 < 256 by decide) ?_, rfl, ?_, h3, ?_⟩,
    (show 3 ≠ 0xFFFE by decide), ?_, ?_⟩, ?_, ?_⟩
  · simp [m, nfr, commitMsg, le_length, zeros]
  · rw [h2]; rfl
  · right; rw [h4]; rfl
  · rw [h4]; exact (show 3 ≠ 0 by decide)
  · rw [h5]; rfl
  · show ofLe (le 1 ((kind : Nat) : Int)) = kind
    rw [Sys2Proof.Machine.ofLe_le]
    exact Nat.mod_eq_of_lt (by simpa using hk)
  · simp [m, nfr, commitMsg, le_length, zeros]

theorem witness_CommitMessages :
    (∃ (s : State) (p : Fin 2) (k : PrepareIn) (f : NazF) (x : Tx), On s (islNaz p) ∧ HeardTx s p 1 k.bytes f ∧ participant s
    (msgSerial f) (msgId f) = some x) ∧
    (∃ (s : State) (p : Fin 2) (bs : Bytes) (f : NazF) (x : Tx), On s (islNaz p) ∧ HeardTx s p 2 bs f ∧ msgSerial f = serialNo ∧
    s.tx (msgId f) = some x ∧ x.coord = none ∧ x.decided = false ∧ (x.st = 2 ∨ x.st = 3)) ∧
    (∃ (s : State) (p : Fin 2) (bs : Bytes) (f : NazF) (x : Tx), On s (islNaz p) ∧ HeardTx s p 3 bs f ∧ participant s (msgSerial f)
    (msgId f) = some x ∧ s.tx x.id = some x ∧ x.decided = false ∧ x.live = true ∧ msgCode f ≠ 0) ∧
    (∃ (s : State) (p : Fin 2) (bs : Bytes) (f : NazF) (x : Tx), On s (islNaz p) ∧ HeardTx s p 3 bs f ∧ participant s (msgSerial f)
    (msgId f) = some x ∧ s.tx x.id = some x ∧ msgCode f = 0 ∧ x.st = 3 ∧ x.decided = false ∧ x.staged = []) ∧
    (∃ (s : State) (p : Fin 2) (bs : Bytes) (f : NazF) (x : Tx), On s (islNaz p) ∧ HeardTx s p 3 bs f ∧ participant s (msgSerial f)
    (msgId f) = some x ∧ msgCode f = 0 ∧ x.st = 4 ∧ linkUp s (towards s (s.nat NZ_MASTER)) = true) ∧
    (∃ (s : State) (p : Fin 2) (bs : Bytes) (f : NazF) (x : Tx), On s (islNaz p) ∧ HeardTx s p 4 bs f ∧ msgSerial f = serialNo ∧
    s.tx (msgId f) = some x ∧ x.coord = none ∧ x.decided = true ∧ (∀ e ∈ x.dones, e.1 ≠ f.src)) ∧
    (∃ (s : State) (p : Fin 2) (bs : Bytes) (f : NazF), On s (islNaz p) ∧ HeardTx s p 5 bs f ∧ linkUp s (towards s f.src) = true) ∧
    (∃ (s : State) (p : Fin 2) (bs : Bytes) (f : NazF), On s (islNaz p) ∧ HeardTx s p 6 bs f ∧ s.nat NZ_ROLE = 1 ∧ (msgCode f = 0xFF
    ∨ s.naz.noDecision = true) ∧ participant s (msgSerial f) (msgId f) = none) ∧
    (∃ (s : State) (p : Fin 2) (bs : Bytes) (f : NazF), On s (islNaz p) ∧ HeardTx s p 6 bs f ∧ s.nat NZ_ROLE ≠ 1 ∧ s.naz.takingOver
    = true) ∧
    (∃ (s : State) (p : Fin 2) (bs : Bytes) (f : NazF), On s (islNaz p) ∧ HeardTx s p 6 bs f ∧ s.nat NZ_ROLE = 1 ∧ msgCode f ≠ 0xFF
    ∧ s.naz.noDecision = false ∧ (msgSerial f, msgId f) ∉ s.naz.resolved ∧ tokenPorts s ≠ []) :=
  ⟨⟨naz1 ((wt pa)), 1, ⟨(m 1 0 9 2 77 1234 0).bytes, 0, 0, 0⟩, m 1 0 9 2 77 1234 0, pa tx0, by decide +kernel⟩,
    ⟨naz1 (wt (co 3 0)), 1, (m 2 0 5 2 serialNo 1234 0).bytes, m 2 0 5 2 serialNo 1234 0, co 3 0 tx0, ⟨by decide +kernel, heard_own _ 2 (by decide) (by decide +kernel), own_serial _ _ _ _ _ _, by decide +kernel⟩⟩,
    ⟨naz1 ((wt pa)), 1, (m 3 4 9 2 77 1234 0).bytes, m 3 4 9 2 77 1234 0, pa tx0, by decide +kernel⟩,
    ⟨naz1 ((wt (co 3 0 ∘ pa))), 1, (m 3 0 9 2 77 123400000000 0).bytes, m 3 0 9 2 77 123400000000 0, co 3 0 (pa tx0), by decide +kernel⟩,
    ⟨naz1 ((wt (co 4 0 ∘ pa))), 1, (m 3 0 9 2 77 1 0).bytes, m 3 0 9 2 77 1 0, co 4 0 (pa tx0), by decide +kernel⟩,
    ⟨naz1 (wt (de true)), 1, (m 4 0 5 2 serialNo 1234 0).bytes, m 4 0 5 2 serialNo 1234 0, de true tx0, ⟨by decide +kernel, heard_own _ 4 (by decide) (by decide +kernel), own_serial _ _ _ _ _ _, by decide +kernel⟩⟩,
    ⟨naz1 ((wt pa)), 1, (m 5 0 9 2 77 1234 0).bytes, m 5 0 9 2 77 1234 0, by decide +kernel⟩,
    ⟨ro (base), 1, (m 6 0xFF 9 2 77 1234 0).bytes, m 6 0xFF 9 2 77 1234 0, by decide +kernel⟩,
    ⟨naz1 ((base).modNaz (fun z => {z with takingOver := true})) |>.set NZ_ROLE 0, 1, (m 6 0x2 9 2 77 1234 0).bytes, m 6 0x2 9 2 77 1234 0, by decide +kernel⟩,
    ⟨ro (base), 1, (m 6 0x2 9 2 77 1234 0).bytes, m 6 0x2 9 2 77 1234 0, by decide +kernel⟩⟩

end CommitMessagesWitness

namespace FenceWitness

def fn (x : Option Nat) (f : State → State) : State := f { ses id r0 with fences := [⟨3, 40, 1, x⟩] }
def y0 : Tx := { Tx.fresh 5 1 0 with st := 3, point := 2, dom := 3, prepAt := some 3, staged := [(A_TARGET_SPEED 1, [1,0,0,0])] }

def hf (k : Nat) : HeldFrame := ⟨50, 0xFFFF, k, 3, le 8 200000 ++ le 1 2 ++ zeros 3 ++ le 8 77 ++ le 4 9⟩

theorem witness_FenceCommands :
    (∃ (s : State) (t : Nat) (b : By) (f : Fin 16), allowed (s.at_ t) b (TX_FENCE f) 1 = true) ∧
    (∃ (s : State) (f : Fin 16) (x : Fence), On s islStore ∧ fenceOf s f = some x ∧ x.accepted = none) ∧
    (∃ (s : State) (f : Fin 16) (x : Fence) (a : Nat), On s islStore ∧ fenceOf s f = some x ∧ x.accepted = some a ∧ (∀ l : Fin 6, ∀
    w ∈ s.lanes.coming.get l, a < w.2.2.2) ∧ (∀ y ∈ s.txs, y.coord = none → y.point = 0 → (y.st = 2 ∨ (y.st = 3 ∧ y.applied =
    false)) → bitOf y.doms f.val = true → x.stamp < y.stamp) ∧ (s.naz.rx = none ∨ a < s.naz.rxAt) ∧ s.heldW = [] ∧ s.naz.fenced = []
    ∧ waitingOn s f a = []) ∧
    (∃ (s : State) (f : Fin 16) (x : Fence) (a : Nat) (h : HeldFrame), On s islStore ∧ s.fences = [x] ∧ x.dom = f.val ∧ x.accepted =
    some a ∧ (∀ l : Fin 6, s.lanes.coming.get l = []) ∧ s.txs = [] ∧ s.naz.rx = none ∧ s.heldW = [] ∧ s.naz.fenced = [h] ∧ h.kind =
    nkMpos) ∧
    (∃ (s : State) (f : Fin 16) (x : Fence) (a : Nat) (y : Tx) (c : Fin 4) (v : BitVec 32), On s islStore ∧ fenceOf s f = some x ∧
    x.accepted = some a ∧ (∀ l : Fin 6, s.lanes.coming.get l = []) ∧ s.txs = [y] ∧ y.point = 2 ∧ s.naz.rx = none ∧ s.naz.fenced = []
    ∧ s.heldW = [] ∧ waitingOn s f a = [y] ∧ y.staged = [(A_TARGET_SPEED c, le 4 v.toInt)]) :=
  ⟨⟨(fn none id), 9, by1, 4, by decide +kernel⟩,
    ⟨(fn none id), 3, ⟨3, 40, 1, none⟩, by decide +kernel⟩,
    ⟨(fn (some 7) id), 3, ⟨3, 40, 1, some 7⟩, 7, by decide +kernel⟩,
    ⟨((fn (some 7) (fun s => s.modNaz (fun z => {z with fenced := [hf nkMpos]})))), 3, ⟨3, 40, 1, some 7⟩, 7, hf nkMpos, by decide +kernel⟩,
    ⟨(fn (some 7) (fun s => {s with txs := [y0]})), 3, ⟨3, 40, 1, some 7⟩, 7, y0, 1, 1, by decide +kernel⟩⟩

end FenceWitness

namespace CycleWitness

def naz1 (s : State) : State := ((((s.set (NZ_LINK 1) 2).set DV_ADDRESS 0).modNaz (fun n => { n with addressed := true })).set NZ_MASTER 3)
def nfr (kind : Nat) (pay : Bytes) : NazF := ⟨kind, 0, 0, 3, 0, 5, 0, pay⟩
def cyp (T : Nat) : Bytes := le 8 T ++ le 8 0 ++ le 4 0 ++ le 2 4 ++ le 2 3 ++ le 2 9 ++ le 2 0 ++ le 2 1000 ++ zeros 2 ++ le 8 0 ++ le 32 1 ++ le 1 1 ++ zeros 3 ++ (le 1 2 ++ zeros 1 ++ le 1 0 ++ le 1 0xFF ++ le 4 1000 ++ le 4 50 ++ le 2 3 ++ zeros 26)
def mst (f : Naz → Naz) (r : Int) (s : State) : State := T1 ((naz1 s).modNaz (fun n => f { n with cyc := 100, starts := [100000, 0] })) |>.set NZ_ROLE r |>.set (A_CASCADE_AXIS 1) 2
def dvp : Bytes := le 8 200000 ++ le 1 2 ++ le 1 1 ++ zeros 2 ++ (le 1 2 ++ le 1 1 ++ le 2 3 ++ le 2 400 ++ le 2 3 ++ le 4 77 ++ le 4 9 ++ le 4 60 ++ le 4 80)
def host (s : State) : State := ((s.set (A_CASCADE_AXIS 2) 2))
def axp : Bytes := le 8 200000 ++ le 1 2 ++ le 1 1 ++ le 2 777 ++ le 4 55 ++ le 2 3 ++ le 2 1 ++ le 32 1

def fcd (s : State) : State := { s with fences := [⟨3, 40, 1, none⟩] }

theorem witness_CycleCommands :
    (∃ (s : State) (t : Nat), Powered s (islNaz 1) ∧ s.naz.addressed = true ∧ s.naz.starts.head? ≠ some (cycleAt (s.at_
    t).changeCycle) ∧ isMaster s = true ∧ resetPending s = true ∧ (∀ r ∈ s.naz.repeats, numAt r.2.1 0 1 = 1 → r.2.2 = 1)) ∧
    (∃ (s : State) (t : Nat), Powered s (islNaz 1) ∧ s.naz.addressed = true ∧ s.naz.starts.head? ≠ some (cycleAt (s.at_
    t).changeCycle) ∧ (resetPending s = false ∨ (∃ r ∈ s.naz.repeats, numAt r.2.1 0 1 = 1 ∧ 1 < r.2.2))) ∧
    (∃ (s : State) (t : Nat) (pay : Bytes), Powered s (islNaz 1) ∧ s.naz.frozen = some pay ∧ s.nat NZ_ROLE = 1 ∧ numAt pay 0 8 ≤
    (s.at_ t).tbNs + leadC (nazN s) ∧ (s.at_ t).tbNs < numAt pay 0 8) ∧
    (∃ (s : State) (t : Nat) (p : Fin 2) (bs : Bytes) (f : NazF), On s (islNaz p) ∧ Heard s p nkCycle bs f ∧ s.nat NZ_ROLE = 2 ∧
    Unfenced s t ∧ s.naz.startT = none ∧ s.nat NZ_MASTER = numAt f.payload 22 2) ∧
    (∃ (s : State) (t T : Nat), Powered s (islNaz 1) ∧ s.naz.starts.head? = some T ∧ s.nat NZ_ROLE = 2 ∧ s.naz.addressed = true ∧
    s.naz.applied ≠ some T ∧ (∀ h ∈ s.naz.fenced, h.kind = nkCycle → numAt h.payload 0 8 ≠ T) ∧ T + lateW (nazN s) ≤ (s.at_ t).tbNs) ∧
    (∃ (s : State) (t T : Nat), Powered s (islNaz 1) ∧ s.naz.starts.head? = some T ∧ s.naz.addressed = true ∧ T + 1000 ≤ (s.at_
    t).tbNs ∧ (∀ e ∈ s.naz.devFrames, ¬(e.1 = s.nat DV_ADDRESS ∧ e.2.1 = T))) ∧
    (∃ (s : State) (t : Nat) (p : Fin 2) (bs : Bytes) (f : NazF), On s (islNaz p) ∧ Heard s p nkDevice bs f ∧ Unfenced s t) ∧
    (∃ (s : State) (t : Nat) (p : Fin 2) (bs : Bytes) (f : NazF), On s (islNaz p) ∧ Heard s p nkAxis bs f ∧ Unfenced s t) ∧
    (∃ (s : State) (t : Nat) (p : Fin 2) (bs : Bytes) (f : NazF), On s (islNaz p) ∧ Heard s p nkMpos bs f ∧ Unfenced s t) ∧
    (∃ (s : State) (t : Nat) (p : Fin 2) (bs : Bytes) (f : NazF), On s (islNaz p) ∧ Heard s p nkDevice bs f ∧ ¬ Unfenced s t) ∧
    (∃ (s : State) (t : Nat) (p : Fin 2) (bs : Bytes) (f : NazF), On s (islNaz p) ∧ Heard s p nkAxis bs f ∧ ¬ Unfenced s t) ∧
    (∃ (s : State) (t : Nat) (p : Fin 2) (bs : Bytes) (f : NazF), On s (islNaz p) ∧ Heard s p nkMpos bs f ∧ ¬ Unfenced s t) ∧
    (∃ (s : State) (t : Nat) (p : Fin 2) (bs : Bytes) (f : NazF), On s (islNaz p) ∧ Heard s p nkCycle bs f ∧ ¬ Unfenced s t ∧ s.nat
    NZ_ROLE = 2 ∧ s.naz.startT = none ∧ s.nat NZ_MASTER = numAt f.payload 22 2 ∧ (s.at_ t).tbNs < numAt f.payload 0 8) :=
  ⟨⟨mst (fun n => {n with repeats := [(3, le 1 1 ++ zeros 11, 1)]}) 1 (r0), 800100, by decide +kernel⟩,
    ⟨mst id 1 (r0), 800100, by decide +kernel⟩,
    ⟨mst (fun n => {n with frozen := some (cyp 201000), closing := true, startT := some 5}) 1 (r0), 800100, cyp 201000, by decide +kernel⟩,
    ⟨mst id 2 (r0), 800100, 1, (nfr nkCycle (cyp 201000)).bytes, nfr nkCycle (cyp 201000), by decide +kernel⟩,
    ⟨mst id 2 (r0), 800100000, 100000, by decide +kernel⟩,
    ⟨mst id 2 (r0), 800100000, 100000, by decide +kernel⟩,
    ⟨host (mst id 1 (r0)), 800100000, 1, (nfr nkDevice dvp).bytes, nfr nkDevice dvp, by decide +kernel⟩,
    ⟨mst id 2 (r0), 800100000, 1, (nfr nkAxis axp).bytes, nfr nkAxis axp, by decide +kernel⟩,
    ⟨mst id 2 (r0), 800100000, 1, (nfr nkMpos axp).bytes, nfr nkMpos axp, by decide +kernel⟩,
    ⟨fcd (host (mst id 1 (r0))), 800100000, 1, (nfr nkDevice dvp).bytes, nfr nkDevice dvp, by decide +kernel⟩,
    ⟨fcd (mst id 2 (r0)), 800100000, 1, (nfr nkAxis axp).bytes, nfr nkAxis axp, by decide +kernel⟩,
    ⟨fcd (mst id 2 (r0)), 800100000, 1, (nfr nkMpos axp).bytes, nfr nkMpos axp, by decide +kernel⟩,
    ⟨fcd (mst id 2 (r0)), 800100, 1, (nfr nkCycle (cyp 201000)).bytes, nfr nkCycle (cyp 201000), by decide +kernel⟩⟩

end CycleWitness

namespace CascadeWitness

def naz1 (s : State) : State := ((((s.set (NZ_LINK 1) 2).set DV_ADDRESS 0).modNaz (fun n => { n with addressed := true, cyc := 500 })).set NZ_MASTER 3)
def nfr (kind : Nat) (pay : Bytes) : NazF := ⟨kind, 0, 0, 3, 0, 5, 0, pay⟩
def cm (k : Nat) : NazF := nfr nkCommand (le 1 k ++ zeros 3 ++ le 8 2000 ++ le 2 2 ++ le 2 0 ++ le 2 0 ++ le 2 7 ++ le 2 500 ++ [0, 7] ++ le 32 9)
def m1 (s : State) : State := (naz1 s).set NZ_ROLE 1

theorem witness_CascadeCommands :
    (∃ (s : State) (p : Fin 2) (bs : Bytes) (f : NazF), On s (islNaz p) ∧ Heard s p nkCommand bs f ∧ numAt f.payload 0 1 = 1) ∧
    (∃ (s : State) (p : Fin 2) (bs : Bytes) (f : NazF), On s (islNaz p) ∧ Heard s p nkCommand bs f ∧ numAt f.payload 0 1 = 2) ∧
    (∃ (s : State) (p : Fin 2) (bs : Bytes) (f : NazF), On s (islNaz p) ∧ Heard s p nkCommand bs f ∧ numAt f.payload 0 1 = 3) ∧
    (∃ (s : State) (p : Fin 2) (bs : Bytes) (f : NazF), On s (islNaz p) ∧ Heard s p nkCommand bs f ∧ numAt f.payload 0 1 = 4) ∧
    (∃ (s : State) (t : Nat) (b : By), allowed (s.at_ t) b NZ_BARRIER_GO 1 = true) ∧
    (∃ (s : State) (t : Nat) (b : By), allowed (s.at_ t) b NZ_SNAP_GO 1 = true) ∧
    (∃ (s : State), On s islStore) ∧
    (∃ (s : State) (t : Nat) (b : By), allowed (s.at_ t) b NZ_CASC_RESET 1 = true) ∧
    (∃ (s : State) (t : Nat) (b : By) (v : BitVec 16), allowed (s.at_ t) b NZ_CYCLE v.toNat = true) :=
  ⟨⟨naz1 ((running)), 1, (cm 1).bytes, cm 1, by decide +kernel⟩,
    ⟨naz1 ((running)), 1, (cm 2).bytes, cm 2, by decide +kernel⟩,
    ⟨naz1 ((running)), 1, (cm 3).bytes, cm 3, by decide +kernel⟩,
    ⟨naz1 ((running)), 1, (cm 4).bytes, cm 4, by decide +kernel⟩,
    ⟨m1 ((running)), 9, fw, by decide +kernel⟩,
    ⟨m1 ((running)), 9, fw, by decide +kernel⟩,
    ⟨(m1 ((running))).modNaz (fun z => { z with snap := some (3, [A_TARGET_SPEED 1, 0]) }), by decide +kernel⟩,
    ⟨m1 ((running)), 9, fw, by decide +kernel⟩,
    ⟨m1 ((running)), 9, fw, 600, by decide +kernel⟩⟩

end CascadeWitness

namespace BarrierTokensWitness

def naz1 (s : State) : State := ((((s.set (NZ_LINK 1) 2).set DV_ADDRESS 0).modNaz (fun n => { n with addressed := true, cyc := 500 })).set NZ_MASTER 3)
def tk (src kind fl : Nat) (d : Nat) (data : Bytes) : NazF := ⟨nkBarrier, 0, 0xFFFF, src, 0, 5, 0, le 1 kind ++ le 1 fl ++ le 2 3 ++ le 4 77 ++ le 8 d ++ data⟩
def own (k : Nat) (s : State) : State := (naz1 s).modNaz (fun n => { n with tokens := [⟨k, 77, zeros 40, 1, none, 0⟩] })
def oq (s : State) : State := { s with queue := [⟨1,2,0,8,[],true⟩] }
def K (k : Nat) : Token := ⟨k, 77, zeros 40, 1, none, 0⟩
def tx0 (st : Nat) : Tx := { Tx.fresh 5 1 0 with st := st, coord := some (77, 9), decided := decide (st = 3), result := 4, fail := 66 }
def wt (x : Tx) : State := { r0 with txs := [x] }
def vd (c : Nat) : Bytes := commitMsg 2 c 9 0 0 77 0 0
def co : Tx := { Tx.fresh 9 1 0 with st := 3, parts := [(3,1)] }
def en : NazF := tk 3 5 0 0 (le 1 0 ++ zeros 3 ++ le 32 3 ++ le 32 0)

theorem witness_BarrierTokens :
    (∃ (s : State) (p : Fin 2) (bs : Bytes) (f : NazF), On s (islNaz p) ∧ Comes s p nkBarrier bs f ∧ f.src ≠ s.nat DV_ADDRESS ∧
    numAt f.payload 0 1 = 1 ∧ mergedAlready s f = false) ∧
    (∃ (s : State) (p : Fin 2) (bs : Bytes) (f : NazF) (k : Token), On s (islNaz p) ∧ Comes s p nkBarrier bs f ∧ numAt f.payload 0 1
    = 1 ∧ ownToken s f = some k ∧ k.missing ≤ 1 ∧ k.merged = none) ∧
    (∃ (s : State) (p : Fin 2) (bs : Bytes) (f : NazF), On s (islNaz p) ∧ Comes s p nkBarrier bs f ∧ f.src ≠ s.nat DV_ADDRESS ∧
    numAt f.payload 0 1 = 2 ∧ mergedAlready s f = false) ∧
    (∃ (s : State) (p : Fin 2) (bs : Bytes) (f : NazF) (k : Token) (x : Tx), On s (islNaz p) ∧ Comes s p nkBarrier bs f ∧ numAt
    f.payload 0 1 = 2 ∧ ownToken s f = some k ∧ k.missing ≤ 1 ∧ k.merged = none ∧ s.tx (numAt f.payload 18 2) = some x ∧ x.coord =
    none ∧ x.decided = false ∧ (x.st = 2 ∨ x.st = 3) ∧ (numAt f.payload 17 1 ≠ 0 ∨ bitOf (numAt f.payload 1 1) 0 = true)) ∧
    (∃ (s : State) (p : Fin 2) (bs : Bytes) (f : NazF), On s (islNaz p) ∧ Comes s p nkBarrier bs f ∧ f.src ≠ s.nat DV_ADDRESS ∧
    numAt f.payload 0 1 = 3 ∧ mergedAlready s f = false) ∧
    (∃ (s : State) (p : Fin 2) (bs : Bytes) (f : NazF), On s (islNaz p) ∧ Comes s p nkBarrier bs f ∧ f.src ≠ s.nat DV_ADDRESS ∧
    numAt f.payload 0 1 = 4 ∧ mergedAlready s f = false) ∧
    (∃ (s : State) (p : Fin 2) (bs : Bytes) (f : NazF) (k : Token), On s (islNaz p) ∧ Comes s p nkBarrier bs f ∧ numAt f.payload 0 1
    = 4 ∧ ownToken s f = some k ∧ k.missing ≤ 1 ∧ k.merged = none) ∧
    (∃ (s : State) (p : Fin 2) (e : EnumIn) (f : NazF) (a : Nat), On s (islNaz p) ∧ s.nat (NZ_LINK p.val) = 2 ∧ NazF.parse e.bytes =
    some f ∧ f.kind = nkBarrier ∧ f.dst = 0xFFFF ∧ numAt f.payload 0 1 = 5 ∧ ownToken s f = none ∧ s.nat NZ_ROLE ≠ 1 ∧ mergedAlready
    s f = false ∧ s.naz.addressed = false ∧ (addressFor s (decide (numAt f.payload 16 1 = 1)) (numAt f.payload 20 32) (numAt
    f.payload 52 32) e.held).1 = some a) ∧
    (∃ (s : State) (t q : Nat) (k : Token), Powered s (islNaz 1) ∧ s.naz.held = [] ∧ s.naz.tokens = [k] ∧ k.seq = q ∧ k.kind = 1 ∧
    k.since + ns (barrierTime s + 2000) ≤ max s.now t ∧ tokenPorts s ≠ []) :=
  ⟨⟨naz1 (r0), 1, (tk 3 1 0 0 []).bytes, tk 3 1 0 0 [], by decide +kernel⟩,
    ⟨own 1 (r0), 1, (tk 0 1 0 0 []).bytes, tk 0 1 0 0 [], K 1, by decide +kernel⟩,
    ⟨naz1 (r0), 1, (tk 3 2 0 0 (vd 0)).bytes, tk 3 2 0 0 (vd 0), by decide +kernel⟩,
    ⟨own 2 ((wt co)), 1, (tk 0 2 0 0 (vd 4)).bytes, tk 0 2 0 0 (vd 4), K 2, co, by decide +kernel⟩,
    ⟨naz1 (r0), 1, (tk 3 3 0 0 (vd 0)).bytes, tk 3 3 0 0 (vd 0), by decide +kernel⟩,
    ⟨naz1 (r0), 1, (tk 3 4 0 0 (le 4 (A_TARGET_SPEED 1))).bytes, tk 3 4 0 0 (le 4 (A_TARGET_SPEED 1)), by decide +kernel⟩,
    ⟨own 4 (r0), 1, (tk 0 4 1 0 (le 4 1)).bytes, tk 0 4 1 0 (le 4 1), K 4, by decide +kernel⟩,
    ⟨((naz1 (r0)).modNaz (fun z => {z with addressed := false})).set NZ_ROLE 0, 1, ⟨en.bytes, [(5, 6)]⟩, en, 2, by decide +kernel⟩,
    ⟨own 1 (r0), 99999999999999, 77, K 1, by decide +kernel⟩⟩

end BarrierTokensWitness

namespace LinkWitness

def naz0 (s : State) : State := (((((s.set (NZ_LINK 1) 2).set (NZ_LINK 0) 0).set DV_ADDRESS 0).modNaz (fun n => { n with addressed := true, cyc := 500 })).set NZ_MASTER 3)
def N (f : Naz → Naz) (s : State) := (naz0 s).modNaz f
def nfr (kind : Nat) (pay : Bytes) : NazF := ⟨kind, 0, 0xFFFF, 3, 0, 5, 0, pay⟩
def al (f : NazPort → NazPort) (s : State) := N (fun n => { n with ports := n.ports.set 1 (f (n.ports.get 1)) }) s
def lf (hop ser gen port ev addr : Nat) : NazF := { nfr nkLink (le 8 ser ++ le 2 gen ++ le 1 port ++ le 1 ev ++ le 2 addr) with hop := hop }
def sy (k e : Nat) : NazF := nfr nkSync (le 1 k ++ zeros 3 ++ le 4 e ++ le 8 100 ++ le 8 300 ++ le 8 310)
def E0 (f : Naz → Naz) (s : State) := N (fun n => f { n with addressed := false, electFrom := some 0, lowerAt := 0, pass := none }) s
def an : NazF := nfr nkAnnounce (le 8 99 ++ le 2 5 ++ le 1 3 ++ le 1 0 ++ le 2 7 ++ le 2 0xFFFF)

theorem witness_LinkCommands :
    (∃ (s : State) (p : Fin 2), On s (islNaz p)) ∧
    (∃ (s : State) (p : Fin 2) (i : Nat), On s (islNaz p) ∧ (s.naz.ports.get p).aligned = some i ∧ s.nat (NZ_LINK p.val) = 1 ∧
    s.naz.pass = none) ∧
    (∃ (s : State) (p : Fin 2), On s (islNaz p) ∧ s.nat (NZ_LINK p.val) ≠ 0) ∧
    (∃ (s : State) (p : Fin 2) (bs : Bytes) (f : NazF), On s (islNaz p) ∧ Heard s p nkLink bs f) ∧
    (∃ (s : State) (p : Fin 2), On s (islNaz p) ∧ (s.nat (NZ_LINK p.val) = 2 ∨ s.nat (NZ_LINK p.val) = 3)) ∧
    (∃ (s : State) (p : Fin 2) (bs : Bytes) (f : NazF), On s (islNaz p) ∧ (s.nat (NZ_LINK p.val) = 2 ∨ s.nat (NZ_LINK p.val) = 3) ∧
    NazF.parse bs = some f ∧ f.kind = nkSync ∧ f.dst = 0xFFFF) :=
  ⟨⟨r0, 1, by decide +kernel⟩,
    ⟨(al (fun p => {p with aligned := some 5}) (r0)).set (NZ_LINK 1) 1, 1, 5, by decide +kernel⟩,
    ⟨naz0 ((r0.set NZ_RING 1)), 1, by decide +kernel⟩,
    ⟨naz0 ((r0.set NZ_RING 1)), 1, (lf 0 77 0 0 0 3).bytes, lf 0 77 0 0 0 3, by decide +kernel⟩,
    ⟨naz0 ((r0.set NZ_RING 1)), 1, by decide +kernel⟩,
    ⟨naz0 ((r0.set NZ_RING 1)), 1, (sy 0 4).bytes, sy 0 4, by decide +kernel⟩⟩

theorem witness_ElectionCommands :
    (∃ (s : State) (p : Fin 2) (bs : Bytes) (f : NazF), On s (islNaz p) ∧ s.nat (NZ_LINK p.val) = 2 ∧ NazF.parse bs = some f ∧
    f.kind = nkElect ∧ f.dst = 0xFFFF ∧ s.naz.addressed = false) ∧
    (∃ (s : State) (t e : Nat), Powered s (islNaz 1) ∧ s.naz.electFrom = some e ∧ e + ms 10 ≤ max s.now t ∧ s.naz.lowerAt + us 100 ≤
    max s.now t) ∧
    (∃ (s : State) (t e : Nat), s.naz.electFrom = some e ∧ (max s.now t < e + ms 10 ∨ max s.now t < s.naz.lowerAt + us 100)) ∧
    (∃ (s : State) (p : Fin 2) (bs : Bytes) (f : NazF) (ps : Pass), On s (islNaz p) ∧ Heard s p nkAnnounce bs f ∧ s.naz.pass = some
    ps ∧ ps.taken = none) ∧
    (∃ (s : State) (p : Fin 2) (bs : Bytes) (f : NazF) (off : Int) (barred : List Nat) (tk : Nat) (up : Bool), On s (islNaz p) ∧
    Heard s p nkAnnounce bs f ∧ s.naz.pass = some ⟨false, [], 0, some tk, up⟩ ∧ (List.range 256).filter (fun d => bitOf tk d &&
    decide (d ≠ 0) && decide (d ≠ s.nat DV_ADDRESS)) = [numAt f.payload 12 2] ∧ joinReason s 1 (ownChans s) (announced p f off
    barred) = 0) ∧
    (∃ (s : State) (t : Nat), Powered s (islNaz 1) ∧ s.nat NZ_ROLE = 1 ∧ s.naz.outside = true ∧ s.naz.pass = none ∧ s.naz.joinAt +
    ms 1000 ≤ max s.now t ∧ tokenPorts s ≠ []) :=
  ⟨⟨E0 (fun n => {n with lowest := none}) (r0), 1, (nfr nkElect (le 2 4 ++ le 8 9)).bytes, nfr nkElect (le 2 4 ++ le 8 9), by decide +kernel⟩,
    ⟨(E0 (fun n => {n with lowest := none}) (r0)).set (NZ_LINK 1) 0, 900000000000000, 0, by decide +kernel⟩,
    ⟨T1 (E0 (fun n => {n with lowest := some 4}) ((ses id r0))), 9, 0, by decide +kernel⟩,
    ⟨N (fun n => {n with pass := some ⟨false, [], 0, none, false⟩}) ((ses id r0)), 1, an.bytes, an, ⟨false, [], 0, none, false⟩, by decide +kernel⟩,
    ⟨(N (fun n => {n with pass := some ⟨false, [], 0, some 129, false⟩}) ((ses id r0))).set NZ_ROLE 1, 1, an.bytes, an, 5, [], 129, false, by decide +kernel⟩,
    ⟨(N (fun n => {n with pass := none, outside := true, joinAt := 0}) ((ses id r0))).set NZ_ROLE 1, 900000000000000, by decide +kernel⟩⟩

end LinkWitness

namespace MasterChangeWitness

def naz0 (s : State) : State := (((((s.set (NZ_LINK 1) 2).set (NZ_LINK 0) 0).set DV_ADDRESS 0).modNaz (fun n => { n with addressed := true, cyc := 500, missing := [(7,3)] })).set NZ_MASTER 3).setBlob NZ_PRESENT (le 32 129)
def N (f : Naz → Naz) (s : State) := (naz0 s).modNaz f
def co (d : Bool) : Tx := { Tx.fresh 9 1 0 with st := 3, parts := [(7,1)], decided := d, written := true }
def m1 (s : State) := (naz0 s).set NZ_ROLE 1
def fo (f : Naz → Naz) (s : State) := (((N (fun n => f {n with missedRun := 5, starts := [9], applied := none}) s).set NZ_ROLE 2).set NZ_MASTER_CAP 1).set NZ_STANDBY 0
def tk (src kind fl : Nat) (d : Nat) (data : Bytes) : NazF := ⟨nkBarrier, 0, 0xFFFF, src, 0, 5, 0, le 1 kind ++ le 1 fl ++ le 2 0 ++ le 4 77 ++ le 8 d ++ data⟩
def K (k : Nat) : Token := ⟨k, 77, zeros 40, 1, none, 0⟩
def ow (s : State) := fo (fun n => {n with takingOver := true, nextStandby := 9, tokens := [K 3]}) s
def q3 : NazF := tk 0 3 0 0 (commitMsg 6 0 0xFFFF 0 0 0 0 0)
def q4 : NazF := tk 0 3 0 0 (commitMsg 6 0xFF 0xFFFF 0 0 0 0 0)
def blk : Bytes := le 1 2 ++ zeros 1 ++ le 1 0 ++ le 1 0xFF ++ le 4 1000 ++ le 4 50 ++ le 2 3 ++ zeros 26

theorem witness_MasterChange :
    (∃ (s : State) (d : Nat), Powered s (islNaz 1) ∧ s.nat NZ_ROLE = 1 ∧ d ≠ s.nat DV_ADDRESS ∧ bitOf (presentMap s) d = true ∧ (3 ≤
    (AL.find s.naz.missing d).getD 0 ∨ ((d, 0) ∈ s.naz.downs ∧ (d, 1) ∈ s.naz.downs))) ∧
    (∃ (s : State), Powered s (islNaz 1)) ∧
    (∃ (s : State) (r : Nat), Powered s (islNaz 1) ∧ s.nat NZ_ROLE = 2 ∧ s.naz.addressed = true ∧ s.naz.cap = true ∧ 1 ≤ r ∧ 2 * r ≤
    s.naz.missedRun ∧ s.naz.takingOver = false ∧ (r = 1 → s.nat NZ_STANDBY = s.nat DV_ADDRESS) ∧ s.naz.starts ≠ [] ∧ s.naz.applied ≠
    s.naz.starts.head? ∧ tokenPorts s ≠ []) ∧
    (∃ (s : State) (p : Fin 2) (bs : Bytes) (f : NazF) (k : Token), On s (islNaz p) ∧ Comes s p nkBarrier bs f ∧ numAt f.payload 0 1
    = 3 ∧ ownToken s f = some k ∧ k.missing ≤ 1 ∧ k.merged = none ∧ s.naz.takingOver = true ∧ 2 * (numAt f.payload 2 2 + 1) ≤ nazN
    s) ∧
    (∃ (s : State) (p : Fin 2) (bs : Bytes) (f : NazF) (k : Token), On s (islNaz p) ∧ Comes s p nkBarrier bs f ∧ numAt f.payload 0 1
    = 3 ∧ ownToken s f = some k ∧ k.missing ≤ 1 ∧ k.merged = none ∧ s.naz.takingOver = true ∧ nazN s < 2 * (numAt f.payload 2 2 + 1)
    ∧ s.txs = []) :=
  ⟨⟨m1 (r0), 7, by decide +kernel⟩,
    ⟨m1 (r0), by decide +kernel⟩,
    ⟨fo (fun n => {n with cap := true}) (r0), 1, by decide +kernel⟩,
    ⟨(ow (r0)).set NZ_COUNT 5, 1, q3.bytes, q3, K 3, by decide +kernel⟩,
    ⟨((ow ((ses id r0))).set NZ_COUNT 1).modNaz (fun z => {z with blocks := [blk]}), 1, q3.bytes, q3, K 3, by decide +kernel⟩⟩

end MasterChangeWitness

namespace CanFramesWitness

def cn (f : Can → Can) (s : State) : State := (s.set (CB_STATE 1) 2 |>.set (CB_NMT_STATE 1) 5).modCan 1 (fun c => f { c with mode := 1 })
def ent (o d : Int) (s : State) : State := ((s.set (CB_Q_OWNER 1 5) o).set (CB_Q_DIR 1 5) d).set (CB_Q_MASK 1 5) 0
def cn8 (s : State) : State := (s.set (CB_STATE 1) 2 |>.set (CB_NMT_STATE 1) 5).modCan 1 (fun c => { c with mode := 1 })

theorem witness_CanFrames :
    (∃ (w : Nat) (c : CanCtl) (bs : Bytes), canFrameOk w c bs = false) ∧
    (∃ (s : State) (b : Fin 2) (w : Nat) (c : CanCtl) (bs : Bytes), On s (44 + b.val) ∧ onBus s b = true ∧ (s.cb b).mode ≠ 0 ∧
    canFrameOk w c bs = true ∧ s.nat (CB_TEC b) ≤ 127 ∧ ((s.cb b).mode = 2 → s.nat (CB_REC b) ≤ 127)) ∧
    (∃ (s : State) (b : Fin 2) (e : Fin 64) (sof : Nat), On s (44 + b.val) ∧ onBus s b = true ∧ (s.cb b).mode = 1 ∧ offered s b sof
    = some (some e) ∧ s.nat (CB_TEC b) ≤ 128 ∧ s.nat (CB_REC b) ≤ 127) ∧
    (∃ (s : State) (b : Fin 2) (f : EngFrame) (sof : Nat), On s (44 + b.val) ∧ onBus s b = true ∧ (s.cb b).mode = 1 ∧ offered s b
    sof = some none ∧ engineFirst (engineAt s b sof) = some f ∧ s.nat (CB_TEC b) ≤ 128 ∧ s.nat (CB_REC b) ≤ 127) ∧
    (∃ (s : State) (b : Fin 2) (q : Option (Fin 64)) (sof : Nat), On s (44 + b.val) ∧ offered s b sof ≠ some q) ∧
    (∃ (s : State) (b : Fin 2) (e : Fin 64), On s (44 + b.val) ∧ mayBeOn s b e = false) ∧
    (∃ (s : State) (b : Fin 2) (e : Fin 64), On s (44 + b.val) ∧ mayBeOn s b e = true ∧ txOwned s b e = true) ∧
    (∃ (s : State) (b : Fin 2), On s (44 + b.val) ∧ onBus s b = true) ∧
    (∃ (s : State) (b : Fin 2), On s (44 + b.val) ∧ onBus s b = true) :=
  ⟨⟨0x123, ⟨false, true, false, 2⟩, [1,2], by decide +kernel⟩,
    ⟨(cn id (ent 1 0 r0)), 1, 0x123, ⟨true, true, true, 2⟩, [1,2], by decide +kernel⟩,
    ⟨(cn id ((ent 1 1 r0).set (CB_TEC 1) 128)), 1, 5, 400, by decide +kernel⟩,
    ⟨(cn (fun c => {c with engine := [⟨7,0,[],0⟩, ⟨5,0,[],0⟩]}) r0), 1, ⟨5,0,[],0⟩, 400, by decide +kernel⟩,
    ⟨(cn (fun c => {c with engine := [⟨7,0,[],0⟩, ⟨5,0,[],0⟩]}) r0), 1, some 5, 400, by decide +kernel⟩,
    ⟨(cn id (ent 1 1 r0)), 1, 6, by decide +kernel⟩,
    ⟨(cn id (ent 1 1 r0)), 1, 5, by decide +kernel⟩,
    ⟨(cn id ((ent 1 1 r0).set (CB_TEC 1) 120)), 1, by decide +kernel⟩,
    ⟨(cn id r0), 1, by decide +kernel⟩⟩

theorem witness_CanModes :
    (∃ (s : State) (b : Fin 2), On s (44 + b.val)) ∧
    (∃ (s : State) (t : Nat) (b : By) (c : Fin 2) (m : BitVec 8), On s (44 + c.val) ∧ allowed (s.at_ t) b (CB_MODE c) m.toNat =
    true) ∧
    (∃ (s : State) (t : Nat) (b : By) (c : Fin 2) (m : BitVec 8), s.nat (IS_STATE (44 + c.val)) = 3 ∧ m ≠ 0 ∧ allowed (s.at_ t) b
    (CB_MODE c) m.toNat = true) ∧
    (∃ (s : State) (b : Fin 2) (v : Nat), On s (44 + b.val) ∧ (s.cb b).asked = some v ∧ s.nat (CB_STATE b) < 4) ∧
    (∃ (s : State) (t : Nat) (b : By) (c : Fin 2), allowed (s.at_ t) b (CB_RECOVER c) 1 = true) ∧
    (∃ (s : State) (b : Fin 2), On s (44 + b.val) ∧ s.nat (CB_STATE b) = 5 ∧ (s.cb b).asked = none) ∧
    (∃ (s : State) (t : Nat) (b : By) (c : Fin 2) (q : Fin 64), allowed (s.at_ t) b (CB_Q_ACK c q) 1 = true) ∧
    (∃ (s : State) (t : Nat) (b : By) (c : Fin 2) (q : Fin 64), allowed (s.at_ t) b (CB_Q_ABORT c q) 1 = true) ∧
    (∃ (s : State) (b : Fin 2) (node : Nat), On s (44 + b.val) ∧ onBus s b = true ∧ (node = 0 ∨ node = s.nat (CB_NODE_ID b))) ∧
    (∃ (s : State) (t : Nat) (b : Fin 2) (node : Nat) (c : Instr), (c = .nmtPreOperational t b node ∨ c = .nmtResetNode t b node ∨ c
    = .nmtResetCommunication t b node) ∧ On s (44 + b.val) ∧ onBus s b = true ∧ (node = 0 ∨ node = s.nat (CB_NODE_ID b))) ∧
    (∃ (s : State) (t : Nat) (b : Fin 2) (node : Nat) (c : Instr), (c = .nmtStart t b node ∨ c = .nmtStop t b node ∨ c =
    .nmtPreOperational t b node ∨ c = .nmtResetNode t b node ∨ c = .nmtResetCommunication t b node) ∧ On s (44 + b.val) ∧ (onBus s b
    = false ∨ (node ≠ 0 ∧ node ≠ s.nat (CB_NODE_ID b)))) :=
  ⟨⟨((cn id r0).set (CB_STATE 1) 1), 1, by decide +kernel⟩,
    ⟨(cn id r0), 9, fw, 1, 1, by decide +kernel⟩,
    ⟨((cn (fun c => {c with mode := 0}) r0)).set (IS_STATE 45) 3, 9, fw, 1, 2, by decide +kernel⟩,
    ⟨((cn (fun c => {c with mode := 1, asked := some 0}) r0)), 1, 0, by decide +kernel⟩,
    ⟨((cn (fun c => {c with mode := 1, asked := some 2}) r0)).set (CB_STATE 1) 4, 9, fw, 1, by decide +kernel⟩,
    ⟨((cn (fun c => {c with mode := 1}) r0)).set (CB_STATE 1) 5, 1, by decide +kernel⟩,
    ⟨(cn id (r0)), 9, fw, 1, 5, by decide +kernel⟩,
    ⟨(cn id (ent 1 1 r0)), 9, fw, 1, 5, by decide +kernel⟩,
    ⟨(cn8 r0), 1, 0, by decide +kernel⟩,
    ⟨(cn8 r0), 9, 1, 0, .nmtPreOperational 9 1 0, by decide +kernel⟩,
    ⟨(cn8 (r0.set (CB_NODE_ID 1) 7)), 9, 1, 5, .nmtStop 9 1 5, by decide +kernel⟩⟩

end CanFramesWitness

namespace PdoWitness

def cn (f : Can → Can) (s : State) : State := (s.set (CB_STATE 1) 2 |>.set (CB_NMT_STATE 1) 5 |>.set DV_ADDRESS 0).modCan 1 (fun c => f { c with mode := 1 })
def cses (s : State) : State := { s.set (SS_Q_BURST 0) 1000 with sessions := [Session.fresh (sidCan 1) 4 none 31 0 1000 0] }
def pdo (i : Nat) (ty : Int) (s : State) : State := [0,1,2,3,4,5,6,7].foldl (fun s j => s.set (CB_PDO_COBID 1 j) (if j = i then 0x200 else 0x80000000)) ((((s.set (CB_PDO_TYPE 1 i) ty).set (CB_PDO_NMAP 1 i) 1).set (CB_PDO_MAP 1 i 0) ((A_TARGET_SPEED 2 / 256 * 65536 + A_TARGET_SPEED 2 % 256 * 256 + 32 : Nat) : Int)).set (CB_PDO_EVENT 1 i) 5)

theorem witness_PdoCommands :
    (∃ (s : State) (b : Fin 2) (i : Fin 4) (bs : Bytes), On s (44 + b.val) ∧ pdoRuns s b = true ∧ pdoValid s b i = true ∧ (bs.length
    < pdoBytes s b i ∨ s.nat (CB_PDO_TYPE b i) ≤ 240)) ∧
    (∃ (s : State) (t : Nat) (b : Fin 2) (i a : Fin 4) (v : BitVec 32), On s (44 + b.val) ∧ pdoRuns s b = true ∧ pdoValid s b i =
    true ∧ 240 < s.nat (CB_PDO_TYPE b i) ∧ mapOfPdo s b i = [(A_TARGET_SPEED a, 32)] ∧ accepts (s.at_ t) ⟨sidCan b, 9 + b.val⟩
    (A_TARGET_SPEED a) (le 4 v.toInt) = true) ∧
    (∃ (s : State) (b : Fin 2), On s (44 + b.val) ∧ pdoRuns s b = false) ∧
    (∃ (s : State) (t : Nat) (b : Fin 2) (i a : Fin 4) (v : BitVec 32), On s (44 + b.val) ∧ pdoRuns s b = true ∧ pdoValid s b i =
    true ∧ (s.cb b).held = [(i.val, le 4 v.toInt)] ∧ mapOfPdo s b i = [(A_TARGET_SPEED a, 32)] ∧ (∀ j ∈ [4, 5, 6, 7], pdoValid s b j
    = false) ∧ accepts (s.at_ t) ⟨sidCan b, 9 + b.val⟩ (A_TARGET_SPEED a) (le 4 v.toInt) = true) ∧
    (∃ (s : State) (t : Nat) (b : Fin 2) (a : Fin 4), On s (44 + b.val) ∧ pdoRuns s b = true ∧ (s.cb b).mode = 1 ∧ (s.cb b).held =
    [] ∧ pdoValid s b 4 = true ∧ (∀ j ∈ [5, 6, 7], pdoValid s b j = false) ∧ s.nat (CB_PDO_TYPE b 4) ≤ 240 ∧ mapOfPdo s b 4 =
    [(A_TARGET_SPEED a, 32)] ∧ ReadsSpeed (s.at_ t) (sidCan b) a ∧ inhibitOver (s.at_ t) b 4 = true) ∧
    (∃ (s : State) (t : Nat) (b : Fin 2) (i a : Fin 4), On s (44 + b.val) ∧ pdoRuns s b = true ∧ (s.cb b).mode = 1 ∧ pdoValid s b (4
    + i.val) = true ∧ 240 < s.nat (CB_PDO_TYPE b (4 + i.val)) ∧ s.nat (CB_PDO_EVENT b (4 + i.val)) ≠ 0 ∧ (∀ e, AL.find (s.cb
    b).eventAt (4 + i.val) = some e → e + ms (s.nat (CB_PDO_EVENT b (4 + i.val))) ≤ max s.now t) ∧ mapOfPdo s b (4 + i.val) =
    [(A_TARGET_SPEED a, 32)] ∧ ReadsSpeed (s.at_ t) (sidCan b) a ∧ inhibitOver (s.at_ t) b (4 + i.val) = true) :=
  ⟨⟨(cn id (pdo 2 255 r0)), 1, 2, [1], by decide +kernel⟩,
    ⟨(cn id (cses (pdo 2 255 r0))), 9, 1, 2, 2, 77, by decide +kernel⟩,
    ⟨(cn id (cses (pdo 2 255 r0)) |>.set (CB_STATE 1) 1), 1, by decide +kernel⟩,
    ⟨(cn (fun c => {c with held := [(2, le 4 77)]}) (cses (pdo 2 2 r0))), 9, 1, 2, 2, 77, by decide +kernel⟩,
    ⟨(cn id (cses (pdo 4 2 r0))), 9, 1, 2, by decide +kernel⟩,
    ⟨(cn id (cses (pdo 6 254 r0))), 9, 1, 2, 2, by decide +kernel⟩⟩

end PdoWitness

namespace ClockWitness

def ent1 : Entry := ⟨1,2,3,4,5,6,[]⟩

theorem witness_ClockCommands :
    (∃ (s : State), On s islTimebase ∧ (s.nat TB_REF_STATE = 1 ∨ s.nat TB_REF_STATE = 2)) ∧
    (∃ (s : State) (t h : Nat), On s islTimebase ∧ s.nat TB_REF_STATE = 3 ∧ s.holdAt = some h ∧ max s.now t ≤ h + ms (s.nat
    TB_HOLDOVER)) ∧
    (∃ (s : State) (t h : Nat), On s islTimebase ∧ s.nat TB_REF_STATE = 3 ∧ s.holdAt = some h ∧ h + ms (s.nat TB_HOLDOVER) ≤ max
    s.now t) ∧
    (∃ (s : State) (t : Nat) (b : By) (v : BitVec 64), allowed (s.at_ t) b TB_SET v.toNat = true) ∧
    (∃ (s : State) (i : Nat) (e : Entry), On s islJournal ∧ s.raised[i]? = some e) ∧
    (∃ (s : State), (On s islMram ∨ s.jq = [])) ∧
    (∃ (s : State) (e : Entry) (r : List Entry), On s islJournal ∧ On s islMram ∧ s.jq = e :: r ∧ r.length < queueSize) ∧
    (∃ (s : State) (i : Fin 64), On s islSelfTest ∧ On s i.val ∧ i.val ≠ 60 ∧ i.val ≠ 63) ∧
    (∃ (s : State) (i : Fin 64), On s islSelfTest ∧ On s i.val) :=
  ⟨⟨(r0).set TB_REF_STATE 2, by decide +kernel⟩,
    ⟨{(r0).set TB_REF_STATE 3 with holdAt := some 5}, 9, 5, by decide +kernel⟩,
    ⟨{((running)).set TB_REF_STATE 3 with holdAt := some 5}, 9000000000, 5, by decide +kernel⟩,
    ⟨{(((r0)).set NZ_ROLE 0 |>.set (SS_LOCK_EXPIRY 3) 1000) with sessions := []}, 90, fw, 12345, by decide +kernel⟩,
    ⟨{r0 with raised := [ent1, ent1]}, 1, ent1, by decide +kernel⟩,
    ⟨{r0 with jq := []}, by decide +kernel⟩,
    ⟨{r0 with jq := [ent1, ent1]}, ent1, [ent1], by decide +kernel⟩,
    ⟨running, 37, by decide +kernel⟩,
    ⟨running, 37, by decide +kernel⟩⟩

end ClockWitness

namespace ModeWitness

theorem witness_ModeCommands :
    (∃ (s : State) (t : Nat) (b : By) (a : Fin 4) (m : BitVec 8), allowed (s.at_ t) b (A_MODE a) m.toNat = true) ∧
    (∃ (s : State) (t : Nat) (b : By) (a : Fin 4) (on : Bool), allowed (s.at_ t) b (A_EMERG_REQ a) (emergReq s a 1 on) = true) ∧
    (∃ (s : State) (t : Nat) (b : By) (a : Fin 4) (on : Bool), allowed (s.at_ t) b (A_EMERG_REQ a) (emergReq s a 2 on) = true) ∧
    (∃ (s : State) (t : Nat) (b : By) (a : Fin 4) (v : BitVec 16), allowed (s.at_ t) b (A_MD_DUTY a) v.toNat = true) :=
  ⟨⟨running, 9, fw, 1, 2, by decide +kernel⟩,
    ⟨(running.set (SF_STATE 1) 1), 9, fw, 1, true, by decide +kernel⟩,
    ⟨(((running.set (SF_STATE 1) 1).set (K_ENABLE 3) 1).set (K_SINK 3) 0x2010), 9, fw, 1, true, by decide +kernel⟩,
    ⟨running, 9, fw, 1, 4000, by decide +kernel⟩⟩

end ModeWitness

namespace SupplyWitness

def rich : State := ((((running.set (CB_STATE 0) 2).set (CB_STATE 1) 3).set (NZ_LINK 0) 2).set (NZ_LINK 1) 2).set (NP_LINK 0) 1 |>.set (G_STATE 1) 2 |>.set C_OWNER 7 |>.set C_CLAIM 1 |>.set (SF_STATE 0) 1 |>.set (S_AXIS 3) 2 |>.set (S_STATE 3) 3 |>.modCax 0 1 (fun c => {c with st := 1}) |>.modCax 1 1 (fun c => {c with st := 1})
def pw (f : Power → Power) (s : State) : State := s.modPower f
def hz (s : State) : State := (s.modHb 6 (fun h => { h with hi := { h.hi with st := .highZ }})).modHb 7 (fun h => { h with lo := { h.lo with st := .highZ }})
def dom (l : List Nat) (s : State) : State := l.foldl (fun s d => s.set (PW_DOM_STATE d) 1) s

theorem witness_SupplyCommands :
    (∃ (s : State), On s islPower ∧ deviceUp s = true) ∧
    (∃ (s : State), On s islPower ∧ deviceUp s = true) ∧
    (∃ (s : State) (t : Nat), On s islPower ∧ deviceUp s = true ∧ s.nat PW_STATE = 1 ∧ s.nat PW_RAIL_STATUS &&& 0x1F = 0 ∧
    s.power.warnedAt + ms (s.nat PW_DERATE_HOLD) ≤ max s.now t ∧ (∀ d ∈ s.power.waiting, s.nat (PW_DOM_STATE d) = 0)) ∧
    (∃ (s : State), On s islPower ∧ s.power.source = 0 ∧ s.power.vbak = true) ∧
    (∃ (s : State), On s islPower ∧ s.power.source = 0 ∧ s.power.vbak = false) ∧
    (∃ (s : State), On s islPower) ∧
    (∃ (s : State), s.power.source = 0) ∧
    (∃ (s : State), s.power.source = 3) ∧
    (∃ (s : State), s.power.source = 1) ∧
    (∃ (s : State) (t good : Nat), s.power.source = 2 ∧ s.power.dwellFrom + us (s.nat PW_DWELL) ≤ max s.now t ∧ good + us (s.nat
    PW_GOOD_TIME) ≤ max s.now t) ∧
    (∃ (s : State), s.power.source = 3 ∧ s.power.resetLow = true) ∧
    (∃ (s : State), s.power.source = 3 ∧ s.power.resetLow = false) ∧
    (∃ (s : State), s.power.source ≠ 0) :=
  ⟨⟨rich, by decide +kernel⟩,
    ⟨(rich.set PW_RAIL_STATUS 0x7F), by decide +kernel⟩,
    ⟨((pw (fun p => {p with waiting := [123,94]}) rich) |>.set PW_STATE 1).set (PW_DOM_STATE 123) 0 |>.set (PW_DOM_STATE 94) 0 |>.set PW_RAIL_STATUS 0x60, 9000000000, by decide +kernel⟩,
    ⟨(pw (fun p => {p with vbak := true}) rich), by decide +kernel⟩,
    ⟨(pw (fun p => {p with vbak := false}) rich), by decide +kernel⟩,
    ⟨(hz rich), by decide +kernel⟩,
    ⟨(pw (fun p => {p with vbak := 0 = 0}) rich), by decide +kernel⟩,
    ⟨(pw (fun p => {p with source := 3}) rich), by decide +kernel⟩,
    ⟨(pw (fun p => {p with source := 1, countAt := 0}) rich), by decide +kernel⟩,
    ⟨(pw (fun p => {p with source := 2, countAt := 0, dwellFrom := 0}) rich), 900000000000, 5, by decide +kernel⟩,
    ⟨(pw (fun p => {p with source := 3, countAt := 0, resetLow := true}) rich), by decide +kernel⟩,
    ⟨(pw (fun p => {p with source := 3, countAt := 0, resetLow := false}) rich), by decide +kernel⟩,
    ⟨(pw (fun p => {p with source := 2, countAt := 0}) rich), by decide +kernel⟩⟩

theorem witness_DomainCommands :
    (∃ (s : State), s.power.source ≠ 0) ∧
    (∃ (s : State), s.power.source = 0) ∧
    (∃ (s : State) (t good : Nat), s.power.source = 0 ∧ s.power.held = true ∧ good + us (s.nat PW_GOOD_TIME) ≤ max s.now t) ∧
    (∃ (s : State) (t : Nat), On s islPower ∧ deviceUp s = true ∧ (recentWakes (s.at_ t)).length ≤ 8 ∧ ((recentWakes (s.at_ t)).map
    (fun e => domStep e.1)).sum ≤ 300) ∧
    (∃ (s : State) (d : Fin 132), On s islPower ∧ s.nat (PW_DOM_STATE d) = 2 ∧ (∀ b : Fin 2, d.val = 114 + b.val → (s.cb b).asked =
    none)) ∧
    (∃ (s : State) (d : Fin 132), On s islPower ∧ s.nat (PW_DOM_STATE d) = 2) ∧
    (∃ (s : State), On s islPower ∧ deviceUp s = true ∧ s.nat (PW_DOM_STATE 131) ≠ 4) ∧
    (∃ (s : State), On s islPower ∧ deviceUp s = true ∧ s.nat (IS_STATE 63) = 3 ∧ s.nat (PW_DOM_STATE 131) = 0) :=
  ⟨⟨(pw (fun p => {p with source := 2}) rich), by decide +kernel⟩,
    ⟨rich, by decide +kernel⟩,
    ⟨(pw (fun p => {p with held := true}) rich), 90000000, 5, by decide +kernel⟩,
    ⟨(dom [1,2,3,4,5,80,90,123,110,111] rich), 90000000, by decide +kernel⟩,
    ⟨(let d := 0; let s := hz (rich.set (PW_DOM_STATE d) 2); match domIsland d with | some i => s.set (IS_STATE i) 3 | none => s), 0, by decide +kernel⟩,
    ⟨(let d := 0; let s := hz (rich.set (PW_DOM_STATE d) 2); match domIsland d with | some i => s.set (IS_STATE i) 3 | none => s), 0, by decide +kernel⟩,
    ⟨(rich.set (IS_STATE 63) 0 |>.set (PW_DOM_STATE 131) 3), by decide +kernel⟩,
    ⟨(rich.set (IS_STATE 63) 3 |>.set (PW_DOM_STATE 131) 0), by decide +kernel⟩⟩

theorem witness_SramCommands :
    (∃ (s : State), On s islPower) ∧
    (∃ (s : State) (m : Fin 16) (proofing : Bool), On s islPower ∧ (proofing = false ∨ 6 ≤ m.val)) ∧
    (∃ (s : State) (m : Fin 16), On s islPower ∧ m.val < 6) :=
  ⟨⟨rich, by decide +kernel⟩,
    ⟨rich, 0, false, by decide +kernel⟩,
    ⟨{rich with txs := (rich.txs.set 0 (Tx.fresh 256 5 0))}, 5, by decide +kernel⟩⟩

end SupplyWitness

namespace BootWitness

def img1 : FwImg := ⟨5, 2, 1⟩
def img2 : FwImg := ⟨9, 3, 2⟩
def rst (s : State) : State := (s.deviceReset.leaveReset)
def up (s : State) : State := allDomains.foldl (fun s d => if keptOff s d then s else s.set (PW_DOM_STATE d) 3) s
def im : Image := ⟨1, checkValue [], []⟩

theorem witness_BootCommands :
    (∃ (s : State), deviceUp s = true ∧ s.power.stage = 0 ∧ allUp s = false) ∧
    (∃ (s : State), deviceUp s = true ∧ s.power.stage = 0 ∧ allUp s = true ∧ (∀ b : Fin 2, (s.cb b).asked = none)) ∧
    (∃ (s : State) (v0 v1 : Option FwImg), deviceUp s = true ∧ s.power.stage = 1 ∧ bootable s v0 = false ∧ bootable s v1 = false) ∧
    (∃ (s : State) (v0 v1 : Option FwImg), deviceUp s = true ∧ s.power.stage = 1 ∧ (bootable s v0 = true ∨ bootable s v1 = true)) ∧
    (∃ (s : State) (key v : Nat) (i : FwImg), deviceUp s = true ∧ s.power.stage = 1 ∧ bootable s (some i) = true ∧ Catalog.find key
    = none ∧ 100 ≤ v ∧ v ≤ 60000) :=
  ⟨⟨(rst r0), by decide +kernel⟩,
    ⟨(up <| rst r0), by decide +kernel⟩,
    ⟨(r0.modPower (fun p => {p with stage := 1})), none, some ⟨5,2,4⟩, by decide +kernel⟩,
    ⟨(r0.modPower (fun p => {p with stage := 1})), some img1, some ⟨5,2,4⟩, by decide +kernel⟩,
    ⟨(r0.modPower (fun p => {p with stage := 1})), 5, 333, img1, by decide +kernel⟩⟩

theorem witness_PairCommands :
    (∃ (s : State) (i : Fin 2), On s (40 + i.val) ∧ bitOf (s.nat FW_PAIRS) i = true) ∧
    (∃ (s : State) (i : Fin 2), On s (40 + i.val)) ∧
    (∃ (s : State) (t : Nat), Powered s islSelfTest ∧ s.queue ≠ [] ∧ s.fw.takenAt + ms 10 ≤ max s.now t ∧ s.fw.handing = 0 ∧ s.nat
    FW_STATE ≠ 0) :=
  ⟨⟨(r0.set FW_UPD_STATE 4), 1, by decide +kernel⟩,
    ⟨(r0.set FW_PAIRS 1), 1, by decide +kernel⟩,
    ⟨{(r0.set FW_UPD_STATE 5 |>.set FW_STATE 1) with queue := [⟨1, 4, 0, 1, [], true⟩]}, 9000000000, by decide +kernel⟩⟩

end BootWitness

namespace ImageWitness

def hdr : Bytes := le 1 0x41 ++ le 1 0x54 ++ le 1 0x4C ++ le 1 0x46 ++ le 2 1 ++ le 2 0 ++ le 4 16 ++ le 4 77 ++ le 4 2
def fwr (f : Fw → Fw) (s : State) : State := { s with fw := f s.fw }
def i5 : FwImg := ⟨5,2,1⟩

theorem witness_ImageCommands :
    (∃ (s : State) (t : Nat) (b : By) (v : BitVec 32), allowed (s.at_ t) b FW_IMG_OFFSET v.toNat = true) ∧
    (∃ (s : State) (t : Nat) (b : By) (bs : Bytes), accepts (s.at_ t) b FW_IMG_DATA bs = true) ∧
    (∃ (s : State) (t : Nat) (b : By), allowed (s.at_ t) b FW_IMG_VERIFY 1 = true) ∧
    (∃ (s : State) (t : Nat) (b : By), allowed (s.at_ t) b FW_IMG_VERIFY 0 = true) ∧
    (∃ (s : State), On s islBoot ∧ s.nat FW_IMG_STATE = 2 ∧ (s.nat FW_STATE ≠ 0 ∨ s.power.stage ≠ 2)) ∧
    (∃ (s : State), On s islBoot ∧ s.nat FW_IMG_STATE = 2 ∧ s.nat FW_STATE = 0 ∧ s.power.stage = 2) ∧
    (∃ (s : State), On s islBoot ∧ s.nat FW_IMG_STATE = 2) :=
  ⟨⟨(fwr (fun f => {f with img := [1,2]}) (r0.set FW_IMG_OFFSET 2)), 9, fw, 2, by decide +kernel⟩,
    ⟨(fwr (fun f => {f with img := [1,2]}) (r0.set FW_IMG_OFFSET 2)), 9, fw, [3,4,5], by decide +kernel⟩,
    ⟨(fwr (fun f => {f with img := hdr}) (r0.set FW_IMG_STATE 1)), 9, fw, by decide +kernel⟩,
    ⟨(fwr (fun f => {f with img := []}) (r0.set FW_IMG_STATE 1)), 9, fw, by decide +kernel⟩,
    ⟨(fwr (fun f => {f with img := hdr}) (r0.set FW_IMG_STATE 2 |>.set FW_STATE 1)), by decide +kernel⟩,
    ⟨(fwr (fun f => {f with img := hdr}) (r0.set FW_IMG_STATE 2 |>.set FW_STATE 0 |>.modPower (fun p => {p with stage := 2}))), by decide +kernel⟩,
    ⟨(fwr (fun f => {f with img := hdr}) (r0.set FW_IMG_STATE 2 |>.set FW_STATE 1)), by decide +kernel⟩⟩

theorem witness_UpdateCommands :
    (∃ (s : State) (t a : Nat) (i : FwImg), On s islBoot ∧ s.fw.armedAt = some a ∧ s.fw.ready = some i ∧ s.nat FW_UPD_STATE = 2 ∧ a
    ≤ max s.now t ∧ quiet s = true) ∧
    (∃ (s : State) (t a : Nat), On s islBoot ∧ s.fw.armedAt = some a ∧ s.nat FW_UPD_STATE = 2 ∧ a + ms (s.nat FW_QUIET_TIMEOUT) ≤
    max s.now t) ∧
    (∃ (s : State) (i : FwImg), On s islBoot ∧ s.fw.handing = 1 ∧ s.fw.ready = some i) ∧
    (∃ (s : State) (i : FwImg), On s islBoot ∧ s.fw.handing = 2 ∧ s.fw.held = some i) ∧
    (∃ (s : State), On s islBoot ∧ 3 ≤ s.fw.handing) ∧
    (∃ (s : State) (t : Nat), On s islBoot ∧ s.nat FW_UPD_STATE = 4 ∧ s.fw.handing = 0 ∧ s.fw.trialFrom + ms (s.nat FW_TRIAL_TIME) ≤
    max s.now t) :=
  ⟨⟨((fwr (fun f => {f with armedAt := some 5, ready := some i5}) (r0.set FW_UPD_STATE 2 |>.set FW_STATE 1 |>.set NZ_STATE 3))).set PW_STATE 0, 9, 5, i5, by decide +kernel⟩,
    ⟨(fwr (fun f => {f with armedAt := some 5, ready := some i5}) (r0.set FW_UPD_STATE 2 |>.set FW_STATE 1)), 999999999999, 5, by decide +kernel⟩,
    ⟨(fwr (fun f => {f with handing := 1, running := some ⟨1,1,1⟩, ready := some i5}) (r0.set FW_UPD_STATE 3 |>.set FW_STATE 2)), i5, by decide +kernel⟩,
    ⟨(fwr (fun f => {f with handing := 2, held := some i5, ready := some ⟨2,1,1⟩}) (r0.set FW_UPD_STATE 3 |>.set FW_ACTIVE 1)), i5, by decide +kernel⟩,
    ⟨(fwr (fun f => {f with handing := 35, held := some i5, ready := some ⟨2,1,1⟩}) (r0.set FW_UPD_STATE 3 |>.set FW_ACTIVE 1)), by decide +kernel⟩,
    ⟨(fwr (fun f => {f with held := some i5, running := some ⟨2,1,1⟩}) (r0.set FW_UPD_STATE 4 |>.set FW_ACTIVE 1)), 999999999999, by decide +kernel⟩⟩

theorem witness_ServiceCommands :
    (∃ (s : State) (t : Nat) (b : By), allowed (s.at_ t) b FW_PARAM_SAVE 1 = true) ∧
    (∃ (s : State) (t : Nat) (b : By), allowed (s.at_ t) b FW_PARAM_SAVE 0 = true) ∧
    (∃ (s : State), On s islBoot ∧ s.fw.saving = true) ∧
    (∃ (s : State) (t : Nat) (b : By), allowed (s.at_ t) b FW_PARAM_ERASE 1 = true) ∧
    (∃ (s : State) (t : Nat) (b : By), allowed (s.at_ t) b FW_PARAM_ERASE 0 = true) ∧
    (∃ (s : State) (t : Nat) (b : By) (i : FwImg), s.fw.running = some i ∧ allowed (s.at_ t) b FW_SEC_COMMIT 1 = true) ∧
    (∃ (s : State) (t : Nat) (b : By), allowed (s.at_ t) b FW_SEC_COMMIT 0 = true) ∧
    (∃ (s : State) (t : Nat) (b : By) (v : Fin 16), allowed (s.at_ t) b FW_KEY_REVOKE v.val = true) ∧
    (∃ (s : State) (t : Nat) (x : Fin 6), On s islSelfTest ∧ Runs s x ∧ (∀ a, s.fw.rounds.get x = some a → a + ms (s.nat
    FW_ST_PERIOD) ≤ max s.now t)) ∧
    (∃ (s : State) (t : Nat) (b : By) (x : Fin 6) (v : Fin 2), allowed (s.at_ t) b (S_SERVICE x) v.val = true) :=
  ⟨⟨r0, 9, fw, by decide +kernel⟩,
    ⟨r0, 9, fw, by decide +kernel⟩,
    ⟨(fwr (fun f => {f with saving := true}) r0), by decide +kernel⟩,
    ⟨(r0.set FW_PARAM_GEN 7), 9, fw, by decide +kernel⟩,
    ⟨(r0.set FW_PARAM_GEN 7), 9, fw, by decide +kernel⟩,
    ⟨(fwr (fun f => {f with running := some i5}) r0), 9, fw, i5, by decide +kernel⟩,
    ⟨(fwr (fun f => {f with running := some i5}) r0), 9, fw, by decide +kernel⟩,
    ⟨(fwr (fun f => {f with running := some i5}) (r0.set FW_KEY_STATE 1)), 9, fw, 13, by decide +kernel⟩,
    ⟨running, 9, 2, by decide +kernel⟩,
    ⟨r0, 9, fw, 3, 1, by decide +kernel⟩⟩

end ImageWitness

namespace StepRunsFrontCommandWitness

def rst (s : State) : State := (s.deviceReset.leaveReset)
def up (s : State) : State := allDomains.foldl (fun s d => if keptOff s d then s else s.set (PW_DOM_STATE d) 3) s
def ent (n : Nat) : Entry := ⟨n,2,3,4,5,6,[]⟩

theorem witness_StepRunsFrontCommand :
    (∃ (s : State) (c : Instr) (l : List Instr), s.pending = c :: l) :=
  ⟨{ r0 with pending := [.stepChange 9 2] }, .stepChange 9 2, [], by decide +kernel⟩

theorem witness_RefusedWrites :
    (∃ (s : State) (t : Nat) (b : By) (dev : BitVec 8) (key : BitVec 24), dev.toNat = s.nat DV_ADDRESS ∧ keySlotAt key.toNat = none
    ∧ served (s.at_ t) b.sid key.toNat = true ∧ ((s.at_ t).takeToken b.sid).1 = .refused) ∧
    (∃ (s : State) (t : Nat) (b : By) (dev : BitVec 8) (key : BitVec 24), dev.toNat = s.nat DV_ADDRESS ∧ keySlotAt key.toNat = none
    ∧ served (s.at_ t) b.sid key.toNat = true ∧ served (paid (s.at_ t) b) b.sid key.toNat = true ∧ ((s.at_ t).takeToken b.sid).1 ≠
    .refused ∧ stages (paid (s.at_ t) b) b.sid key.toNat = false ∧ fenceHolds (paid (s.at_ t) b) b.sid (paid (s.at_ t) b).tbNs
    (domainsOf (paid (s.at_ t) b) b.sid) = false) :=
  ⟨⟨{ses (fun n => {n with roles := 0, tokens := 0}) (r0 |>.set DV_ADDRESS 0) with best := 0, bestAt := 9}, 9, by1, 0, BitVec.ofNat 24 (A_TARGET_SPEED 1), by decide +kernel⟩,
    ⟨ses (fun n => {n with roles := 0}) (r0 |>.set DV_ADDRESS 0), 9, by1, 0, BitVec.ofNat 24 (A_TARGET_SPEED 1), by decide +kernel⟩⟩

theorem witness_JournalOrder :
    (∃ (s : State) (i : Nat) (e : Entry), On s islJournal ∧ s.raised[i]? = some e ∧ s.jq.length < queueSize) ∧
    (∃ (s : State), On s islJournal ∧ On s islMram) :=
  ⟨⟨{r0 with raised := [ent 1, ent 2], jq := [ent 5], ring := [ent 6, ent 7]}, 1, ent 2, by decide +kernel⟩,
    ⟨{r0 with raised := [ent 1, ent 2], jq := [ent 5], ring := [ent 6, ent 7]}, by decide +kernel⟩⟩

theorem witness_HearthLost :
    (∃ (s : State), deviceUp s = true ∧ s.power.stage = 0 ∧ s.power.lost = true ∧ allUp s = true) :=
  ⟨(up <| rst r0 |>.modPower (fun p => {p with lost := true})), by decide +kernel⟩

theorem witness_ResetForm : ∃ k : Nat, k ≠ SS_COUNT ∧ k ≠ SS_GUAR_SUM ∧ ∀ i ∈ [31, 32, 33, 34, 35, 36, 44, 45, 53, 63], k ≠ IS_STATE i :=
  ⟨0, by decide⟩

theorem witness_IdleStep : ∃ s : State, s.pending = [] := ⟨State.reset, rfl⟩

theorem witness_StoresStayCanonical :
    ∃ s u : State, Dict.wf s.dict = true ∧ Blobs.wf s.blobs = true ∧ step s = .next u :=
  ⟨State.reset, State.reset, by decide +kernel, by decide +kernel, rfl⟩

theorem witness_StatusShown :
    (∃ s u : State, s.pending ≠ [] ∧ step s = .next u) ∧ (∃ s u : State, Shows s ∧ step s = .next u) :=
  ⟨⟨{ r0 with pending := [.stepChange 9 2] }, _, by decide +kernel, rfl⟩, ⟨State.reset, State.reset, by unfold Shows; decide +kernel, rfl⟩⟩

end StepRunsFrontCommandWitness

end Sys2Proof.Tests
end

/-! SUPPORT. The journal queue and ring: what an arriving entry, a write to the ring and the note of dropped entries do to the
order of what the journal holds (R18, R19, R443, R447). -/

namespace Sys2Proof.Safety
open Sys2Proof.Machine Sys2Proof.Machine.Obj

/-- The state with the i-th raised entry taken out, before JOURNAL_ENTRY queues it. -/
def withoutRaised (s : State) (i : Nat) : State := { s with raised := s.raised.eraseIdx i }

/-- The state with another queue, from which JOURNAL_WRITE has taken the head. -/
def withQueue (s : State) (q : List Entry) : State := { s with jq := q }

/-! ### The parts of the journal that its operations leave alone -/

@[simp] theorem withoutRaised_jq (s : State) (i : Nat) : (withoutRaised s i).jq = s.jq := rfl
@[simp] theorem withoutRaised_ring (s : State) (i : Nat) : (withoutRaised s i).ring = s.ring := rfl
@[simp] theorem withQueue_jq (s : State) (q : List Entry) : (withQueue s q).jq = q := rfl
@[simp] theorem withQueue_jdrop (s : State) (q : List Entry) : (withQueue s q).jdrop = s.jdrop := rfl
@[simp] theorem withQueue_ring (s : State) (q : List Entry) : (withQueue s q).ring = s.ring := rfl

@[simp] theorem jqSync_jq (s : State) : s.jqSync.jq = s.jq := rfl
@[simp] theorem jqSync_ring (s : State) : s.jqSync.ring = s.ring := rfl
@[simp] theorem joinQueue_ring (s : State) (e : Entry) : (s.joinQueue e).ring = s.ring := rfl

@[simp] theorem noteDropped_ring (s : State) : s.noteDropped.ring = s.ring := by
  unfold State.noteDropped
  split <;> rfl

@[simp] theorem toRing_jq (s : State) (e : Entry) : (s.toRing e).jq = s.jq := by
  unfold State.toRing
  split <;> rfl

@[simp] theorem toRing_jdrop (s : State) (e : Entry) : (s.toRing e).jdrop = s.jdrop := by
  unfold State.toRing
  split <;> rfl

/-! ### Where an entry goes -/

/-- Where in the queue the entries of the present edge begin (R443). -/
def edgeStart (s : State) : Nat := s.jq.length - (if s.jarr.1 = s.now then min s.jarr.2 s.jq.length else 0)

/-- Entry f, of the same edge as e, stays ahead of it: its source island is not above e's (R443). -/
def staysAhead (e f : Entry) : Bool := decide (f.isl ≤ e.isl)

theorem joinQueue_jq (s : State) (e : Entry) :
    (s.joinQueue e).jq = s.jq.take (edgeStart s) ++ ((s.jq.drop (edgeStart s)).takeWhile (staysAhead e) ++
      e :: (s.jq.drop (edgeStart s)).dropWhile (staysAhead e)) := rfl

theorem length_drop_edgeStart_le (s : State) :
    (s.jq.drop (edgeStart s)).length ≤ (if s.jarr.1 = s.now then s.jarr.2 else 0) := by
  rw [List.length_drop, edgeStart]
  split <;> omega

theorem isl_lt_of_head?_dropWhile {l : List Entry} {e f : Entry} (h : (l.dropWhile (staysAhead e)).head? = some f) :
    e.isl < f.isl := by
  have hf := List.head?_dropWhile_not (staysAhead e) l
  simpa [h, staysAhead] using hf

/-- An entry that joins the queue cuts it in two: behind it stand only entries of the present edge, the first of them from a
higher source island (R19, R443). -/
theorem joinQueue_jq_splits (s : State) (e : Entry) :
    ∃ front back : List Entry, s.jq = front ++ back ∧ (s.joinQueue e).jq = front ++ e :: back ∧
      back.length ≤ (if s.jarr.1 = s.now then s.jarr.2 else 0) ∧ ∀ f, back.head? = some f → e.isl < f.isl := by
  refine ⟨s.jq.take (edgeStart s) ++ (s.jq.drop (edgeStart s)).takeWhile (staysAhead e),
    (s.jq.drop (edgeStart s)).dropWhile (staysAhead e), ?_, ?_, ?_, fun f => isl_lt_of_head?_dropWhile⟩
  · rw [List.append_assoc, List.takeWhile_append_dropWhile, List.take_append_drop]
  · rw [joinQueue_jq, List.append_assoc]
  · exact (List.length_dropWhile_le _ _).trans (length_drop_edgeStart_le s)

/-- The entry that counts the dropped ones joins at the end of the queue, if at all (R447). -/
theorem noteDropped_jq_appends (s : State) :
    ∃ l : List Entry, l.length ≤ 1 ∧ (s.jdrop = 0 → l = []) ∧ s.noteDropped.jq = s.jq ++ l := by
  unfold State.noteDropped
  split
  case isTrue h =>
    refine ⟨[_], Nat.le_refl 1, fun h0 => ?_, rfl⟩
    omega
  case isFalse => exact ⟨[], Nat.zero_le 1, fun _ => rfl, (List.append_nil _).symm⟩

/-- The newest entry heads the ring, and at most the room that is left holds older ones (R447). -/
theorem toRing_ring (s : State) (e : Entry) : (s.toRing e).ring = e :: s.ring.take (ringSize - 1) := by
  unfold State.toRing
  split <;> rfl

/-- A ring with room keeps all its entries, and the new one follows them. -/
theorem toRing_ring_reverse_of_room (s : State) (e : Entry) (h : s.ring.length < ringSize) :
    (s.toRing e).ring.reverse = s.ring.reverse ++ [e] := by
  rw [toRing_ring, List.take_of_length_le (by omega), List.reverse_cons]

/-- A full ring gives up its oldest entry alone (R447). -/
theorem toRing_ring_reverse_of_full (s : State) (e : Entry) (h : s.ring.length = ringSize) :
    (s.toRing e).ring.reverse = s.ring.reverse.drop 1 ++ [e] := by
  rw [toRing_ring, List.reverse_cons, List.drop_reverse, h]

/-! ### The two commands of the queue -/

/-- JOURNAL_ENTRY with room in the queue: the entry leaves the raised ones and takes its place. -/
theorem exec_journalEntry_of_room {s : State} {i : Nat} {e : Entry} (t : Nat) (hOn : On s islJournal) (hi : s.raised[i]? = some e)
    (hroom : s.jq.length < queueSize) :
    exec (.journalEntry t i) s =
      .next ((withoutRaised (s.at_ t) i).joinQueue e).jqSync.settle := by
  have hlen : ((withoutRaised (s.at_ t) i).joinQueue e).jq.length ≤ queueSize := by
    obtain ⟨front, back, hjq, hjoin, -, -⟩ := joinQueue_jq_splits (withoutRaised (s.at_ t) i) e
    have hcut : s.jq = front ++ back := hjq
    rw [hcut, List.length_append] at hroom
    rw [hjoin, List.length_append, List.length_cons]
    omega
  rw [exec_journalEntry, execJournalEntry, runOn_on (s := s.at_ t) hOn]
  simp only [State.atTime_raised, hi]
  exact congrArg done (if_pos hlen)

/-- JOURNAL_WRITE on an empty queue does nothing. -/
theorem exec_journalWrite_of_empty {s : State} (t : Nat) (hOn : On s islJournal) (hq : s.jq = []) :
    exec (.journalWrite t) s = .next (s.at_ t).settle := by
  rw [exec_journalWrite, execJournalWrite, runOn_on (s := s.at_ t) hOn]
  simp only [State.atTime_jq, hq]

/-- JOURNAL_WRITE moves the head of the queue to the ring, and the note of dropped entries may follow (R447). -/
theorem exec_journalWrite_of_cons {s : State} {e : Entry} {r : List Entry} (t : Nat) (hOn : On s islJournal) (hMram : On s islMram)
    (hq : s.jq = e :: r) :
    exec (.journalWrite t) s = .next ((withQueue (s.at_ t) r).toRing e).noteDropped.jqSync.settle := by
  have hm : runs (s.at_ t) islMram = true := hMram
  rw [exec_journalWrite, execJournalWrite, runOn_on (s := s.at_ t) hOn]
  simp only [State.atTime_jq, hq, hm, Bool.not_true, Bool.false_eq_true, if_false]
  rfl

/-! ### The order of the journal -/

/-- An arriving entry joins what ring and queue hold, and all else keeps its order (R19, R443). -/
theorem journalEntry_keeps_order {s : State} {i : Nat} {e : Entry} (t : Nat) (hOn : On s islJournal) (hi : s.raised[i]? = some e)
    (hroom : s.jq.length < queueSize) :
    Yields (.journalEntry t i) s (fun u => ∃ front back : List Entry, s.jq = front ++ back ∧
      u.ring.reverse ++ u.jq = s.ring.reverse ++ front ++ e :: back ∧
      back.length ≤ (if s.jarr.1 = max s.now t then s.jarr.2 else 0) ∧ ∀ f, back.head? = some f → e.isl < f.isl) := by
  refine ⟨_, exec_journalEntry_of_room t hOn hi hroom, ?_⟩
  obtain ⟨front, back, hjq, hjoin, hlen, hhead⟩ := joinQueue_jq_splits (withoutRaised (s.at_ t) i) e
  refine ⟨front, back, hjq, ?_, hlen, hhead⟩
  simp [hjoin]

/-- A write to the ring keeps the order of ring and queue: the head of the queue becomes the newest of the ring, a full ring
gives up its oldest entry, and the note of dropped entries joins at the end (R447). -/
theorem journalWrite_keeps_order {s : State} (t : Nat) (hOn : On s islJournal) (hMram : On s islMram) :
    Yields (.journalWrite t) s (fun u => ∃ l : List Entry, l.length ≤ 1 ∧ (s.jdrop = 0 → l = []) ∧
      (s.jq = [] ∨ s.ring.length < ringSize → u.ring.reverse ++ u.jq = s.ring.reverse ++ s.jq ++ l) ∧
      (s.jq ≠ [] → s.ring.length = ringSize → u.ring.reverse ++ u.jq = (s.ring.reverse ++ s.jq).drop 1 ++ l)) := by
  cases hq : s.jq with
  | nil =>
    refine ⟨_, exec_journalWrite_of_empty t hOn hq, [], Nat.zero_le 1, fun _ => rfl, fun _ => ?_, fun h => absurd rfl h⟩
    simp [hq]
  | cons e r =>
    refine ⟨_, exec_journalWrite_of_cons t hOn hMram hq, ?_⟩
    obtain ⟨l, hlen, hnone, hjq⟩ := noteDropped_jq_appends ((withQueue (s.at_ t) r).toRing e)
    refine ⟨l, hlen, fun h0 => hnone (by simpa using h0), fun h => ?_, fun _ hfull => ?_⟩
    · have hroom : s.ring.length < ringSize := h.resolve_left (List.cons_ne_nil e r)
      have hring := toRing_ring_reverse_of_room (withQueue (s.at_ t) r) e hroom
      simp [hjq, hring]
    · have hring := toRing_ring_reverse_of_full (withQueue (s.at_ t) r) e hfull
      have holdest : 1 ≤ s.ring.reverse.length := by simp [hfull, ringSize]
      rw [List.drop_append_of_le_length holdest]
      simp [hjq, hring]

/-- Settles O7: an entry joins among those of its edge by source island (R443), and a write moves the head of the queue to the end
of the ring (R447). -/
theorem journalOrder : Obligations.JournalOrder :=
  ⟨fun _ t _ _ hOn hi hroom => journalEntry_keeps_order t hOn hi hroom, fun _ t hOn hMram => journalWrite_keeps_order t hOn hMram⟩

end Sys2Proof.Safety

/-! SUPPORT. The status objects at the end of a command: every command ends by bringing them up to date, so they show the
assignments (R29) and the render states (R493). -/

namespace Sys2Proof.Safety
open Sys2Proof.Machine Sys2Proof.Machine.Obj

/-- Axis a's part of `Shows`. -/
def AxisShown (s : State) (a : Fin 4) : Prop :=
  s.nat (A_SECTIONS a) = assigned s a ∧ bitOf (s.nat (A_EMERG_STATE a)) 3 = rendering s a

/-- What the end of a command does for axis a. -/
def showAxis (a : Fin 4) (s : State) : State := (s.countsOf a).renderBit a

theorem settle_eq_each_showAxis (s : State) : s.settle = s.each allAxes showAxis := rfl

/-! ### What the status objects show is not itself written -/

theorem shownKey_sectionAxis (x : Fin 6) : shownKey (S_AXIS x) = false :=
  shownKey_of (.inl (by simp only [S_AXIS]; omega))

theorem shownKey_renderState (a : Fin 4) : shownKey (A_RENDER_STATE a) = false := by
  refine List.any_eq_false.mpr fun b _ => ?_
  simp only [A_RENDER_STATE, A_SECTIONS, A_CASCADE_SECTIONS, A_EMERG_STATE, decide_eq_true_eq]
  omega

theorem countsOf_nat (s : State) (b : Fin 4) {k : Nat} (h : shownKey k = false) : (s.countsOf b).nat k = s.nat k :=
  congrArg Int.toNat (s.countsOf_get b h)

theorem showAxis_nat_of_ne (s : State) {b : Fin 4} {k : Nat}
    (h : k ≠ A_SECTIONS b ∧ k ≠ A_CASCADE_SECTIONS b ∧ k ≠ A_EMERG_STATE b) : (showAxis b s).nat k = s.nat k := by
  obtain ⟨hsec, hcasc, hemerg⟩ := h
  simp only [showAxis, State.renderBit, State.countsOf, State.nat_set, if_neg hsec, if_neg hcasc, if_neg hemerg]

theorem showAxis_nat (s : State) (b : Fin 4) {k : Nat} (h : shownKey k = false) : (showAxis b s).nat k = s.nat k :=
  showAxis_nat_of_ne s (shownKey_false h b)

@[simp] theorem assigned_showAxis (s : State) (a b : Fin 4) : assigned (showAxis b s) a = assigned s a := by
  simp only [assigned, secsOf, showAxis_nat _ _ (shownKey_sectionAxis _)]

@[simp] theorem rendering_showAxis (s : State) (a b : Fin 4) : rendering (showAxis b s) a = rendering s a := by
  simp only [rendering, showAxis_nat _ _ (shownKey_renderState _)]

theorem rendering_countsOf (s : State) (a b : Fin 4) : rendering (s.countsOf b) a = rendering s a := by
  simp only [rendering, countsOf_nat _ _ (shownKey_renderState _)]

/-! ### The status objects of one axis -/

theorem countsOf_sections (s : State) (a : Fin 4) : (s.countsOf a).nat (A_SECTIONS a) = assigned s a := by
  have hmask : (secsOf s a).foldl (fun m x => m + 2 ^ x.val) 0 = assigned s a := by
    rw [assigned, List.sum_eq_foldl, List.foldl_map]
  have hne : A_SECTIONS a ≠ A_CASCADE_SECTIONS a := by simp only [A_SECTIONS, A_CASCADE_SECTIONS]; omega
  simp only [State.countsOf, State.nat_set, if_neg hne, if_true, hmask, Int.toNat_natCast]

theorem showAxis_sections (s : State) (a : Fin 4) : (showAxis a s).nat (A_SECTIONS a) = assigned s a := by
  have hne : A_SECTIONS a ≠ A_EMERG_STATE a := by simp only [A_SECTIONS, A_EMERG_STATE]; omega
  rw [showAxis, State.renderBit, State.nat_set, if_neg hne, countsOf_sections]

/-- The low three bits of A_EMERG_STATE stay below bit 3, which shows the render state alone. -/
theorem bitOf_renderBit (s : State) (a : Fin 4) : bitOf ((s.renderBit a).nat (A_EMERG_STATE a)) 3 = rendering s a := by
  rw [State.renderBit, State.nat_set, if_pos rfl, Int.toNat_natCast, bitOf]
  cases rendering s a with
  | false => simp only [Bool.false_eq_true, if_false, decide_eq_false_iff_not]; omega
  | true => simp only [if_true, decide_eq_true_eq]; omega

theorem axisShown_showAxis_self (s : State) (a : Fin 4) : AxisShown (showAxis a s) a := by
  refine ⟨?_, ?_⟩
  · rw [showAxis_sections, assigned_showAxis]
  · rw [rendering_showAxis, ← rendering_countsOf s a a]
    exact bitOf_renderBit (s.countsOf a) a

/-- Another axis' status objects are not touched. -/
theorem AxisShown.showAxis_of_ne {s : State} {a b : Fin 4} (h : AxisShown s a) (hab : a ≠ b) : AxisShown (showAxis b s) a := by
  have hval : a.val ≠ b.val := Fin.val_ne_of_ne hab
  have hsec : (showAxis b s).nat (A_SECTIONS a) = s.nat (A_SECTIONS a) :=
    showAxis_nat_of_ne s (by simp only [A_SECTIONS, A_CASCADE_SECTIONS, A_EMERG_STATE]; omega)
  have hemerg : (showAxis b s).nat (A_EMERG_STATE a) = s.nat (A_EMERG_STATE a) :=
    showAxis_nat_of_ne s (by simp only [A_SECTIONS, A_CASCADE_SECTIONS, A_EMERG_STATE]; omega)
  obtain ⟨hs, he⟩ := h
  exact ⟨by rw [hsec, assigned_showAxis, hs], by rw [hemerg, rendering_showAxis, he]⟩

theorem AxisShown.after_showAxis {s : State} {a : Fin 4} (b : Fin 4) (h : AxisShown s a) : AxisShown (showAxis b s) a := by
  by_cases hab : a = b
  · exact hab ▸ axisShown_showAxis_self s a
  · exact h.showAxis_of_ne hab

theorem axisShown_each {a : Fin 4} {l : List (Fin 4)} (h : a ∈ l) (s : State) : AxisShown (s.each l showAxis) a := by
  induction l generalizing s with
  | nil => cases h
  | cons b r ih =>
    rcases List.mem_cons.mp h with rfl | hr
    · exact State.each_keeps (AxisShown · a) r showAxis _ (fun c _ hc => hc.after_showAxis c) (axisShown_showAxis_self s a)
    · exact ih hr (showAxis b s)

theorem shows_settle (s : State) : Shows s.settle := by
  rw [settle_eq_each_showAxis]
  exact fun a => axisShown_each (List.mem_finRange a) s

/-! ### Every command ends so -/

/-- An outcome that the end of a command has brought up to date. -/
def Settles (r : Res) : Prop := ∃ v : State, r = .next v.settle

theorem Settles.shows {r : Res} {u : State} (h : Settles r) (hu : r = .next u) : Shows u := by
  obtain ⟨v, rfl⟩ := h
  cases hu
  exact shows_settle v

theorem settles_done (s : State) : Settles (done s) := ⟨s, rfl⟩
theorem settles_runOn (i : Nat) (s : State) (f : State → State) : Settles (runOn i s f) := settles_done _

theorem Settles.ite {p : Prop} [Decidable p] {r q : Res} (hr : Settles r) (hq : Settles q) : Settles (if p then r else q) := by
  split
  · exact hr
  · exact hq

/-- NOTIFY_FRAME chooses its ending by the session, by whether it is due, and by its port (R338). -/
theorem settles_notifyFrame (t sid : Nat) (s : State) : Settles (execNotifyFrame t sid s) := by
  unfold execNotifyFrame
  dsimp only
  split
  · exact .ite (settles_done _) (.ite (settles_runOn _ _ _) (.ite (settles_done _) (settles_runOn _ _ _)))
  · exact settles_done _

/-- The meaning of every command but NOTIFY_FRAME is a single `done`, `runOn` or `runPowered`, each of which settles the state. -/
theorem settles_exec (c : Instr) (s : State) : Settles (exec c s) := by
  cases c with
  | notifyFrame t sid => exact settles_notifyFrame t sid s
  | _ => exact ⟨_, rfl⟩

theorem step_of_idle {s : State} (h : s.pending = []) : step s = .next s := by
  rw [step, h]

theorem step_of_front {s : State} {c : Instr} {l : List Instr} (h : s.pending = c :: l) : step s = exec c { s with pending := l } := by
  rw [step, h]

theorem shows_step_of_pending {s u : State} (hp : s.pending ≠ []) (hu : step s = .next u) : Shows u := by
  obtain ⟨c, l, hq⟩ := List.exists_cons_of_ne_nil hp
  exact (settles_exec c _).shows ((step_of_front hq).symm.trans hu)

/-- Settles O5: the end of the command that runs brings the status objects up to date, and an idle step changes nothing. -/
theorem statusShown : Obligations.StatusShown := by
  refine ⟨fun s u => shows_step_of_pending, fun s u hs hu => ?_⟩
  by_cases hp : s.pending = []
  · cases (step_of_idle hp).symm.trans hu
    exact hs
  · exact shows_step_of_pending hp hu

end Sys2Proof.Safety

/-! SUPPORT. The six-step sequencer: what an evaluation, a step change, the direction latch and a locked rotor do to a section,
and what they leave alone (R38–R43, R51, R52, R55, R56). -/

namespace Sys2Proof.Safety
open Sys2Proof.Machine Sys2Proof.Machine.Obj

variable {P : Part → Prop} {s u : State}

/-! ### Parts and frames -/

theorem mem_phases (p : Fin 3) : p ∈ phases := by
  revert p
  decide

theorem sec_mem_driveParts (x : Fin 6) : Part.sec x ∈ driveParts x := List.mem_cons_self

theorem hb_mem_driveParts (x : Fin 6) (p : Fin 3) : Part.hb (hbOf x p) ∈ driveParts x :=
  List.mem_cons_of_mem _ (List.mem_flatMap.mpr ⟨p, mem_phases p, List.mem_cons_self⟩)

theorem gate_mem_driveParts (x : Fin 6) (p : Fin 3) : Part.obj (S_GATE_I (hbOf x p)) ∈ driveParts x :=
  List.mem_cons_of_mem _ (List.mem_flatMap.mpr ⟨p, mem_phases p, List.mem_cons_of_mem _ List.mem_cons_self⟩)

theorem axis_counts_mem_ends (a : Fin 4) : Part.obj (A_SECTIONS a) ∈ ends ∧ Part.obj (A_CASCADE_SECTIONS a) ∈ ends := by
  constructor <;>
    exact List.mem_cons_of_mem _ (List.mem_cons_of_mem _ (List.mem_flatMap.mpr ⟨a, List.mem_finRange a, by simp⟩))

theorem level_mem_joinParts (x : Fin 6) (a : Fin 4) : Part.ax a ∈ joinParts x ∧ Part.obj (A_FAULT_STATE a) ∈ joinParts x := by
  have hlevel : Covers (· ∈ joinParts x) (allAxes.flatMap levelParts) := fun p hp => by simp [joinParts, hp]
  constructor <;>
    exact hlevel _ (List.mem_flatMap.mpr ⟨a, List.mem_finRange a, by simp [levelParts]⟩)

/-- Parts that entering a step may touch (R41, R43, R55). -/
def enterParts (x : Fin 6) : List Part := [.obj (S_STEP x), .obj (S_COMM_COUNT x), .obj (S_LOCK_STATE x)] ++ driveParts x

/-- Parts that the judgement of a step by the sequencer may touch (R41, R42, R62). -/
def judgeParts (x : Fin 6) : List Part :=
  [.raised, .obj (S_SKIP_COUNT x), .obj (S_COMM_COUNT x), .obj (S_STEP x), .obj (S_LOCK_STATE x)] ++ driveParts x

theorem enterParts_subset_judgeParts (x : Fin 6) : enterParts x ⊆ judgeParts x := by
  intro p hp
  simp only [enterParts, judgeParts, List.cons_append, List.nil_append, List.mem_cons] at hp ⊢
  tauto

theorem Only.drive {x : Fin 6} (h : Only P s u) (hd : Covers P (driveParts x)) : Only P s (u.drive x) :=
  State.drive_only h (fun p => hd _ (hb_mem_driveParts x p)) (fun p => hd _ (gate_mem_driveParts x p)) (hd _ (sec_mem_driveParts x))

theorem Only.enterStep {x : Fin 6} {k : Nat} (h : Only P s u) (he : Covers P (enterParts x)) : Only P s (u.enterStep x k) :=
  have hd : Covers P (driveParts x) := fun p hp => he p (List.mem_append_right _ hp)
  State.enterStep_only h (he _ (by simp [enterParts])) (he _ (by simp [enterParts])) (he _ (by simp [enterParts]))
    (hd _ (sec_mem_driveParts x)) (fun p => hd _ (hb_mem_driveParts x p)) (fun p => hd _ (gate_mem_driveParts x p))

theorem Only.joinFail {x : Fin 6} (h : Only P s u) (hj : Covers P (joinParts x)) (he : Covers P Safety.ends) : Only P s (u.joinFail x) :=
  have hd : Covers P (driveParts x) := fun p hp => hj p (by simp [joinParts, hp])
  have hs : Covers P (stateParts x) := fun p hp => hj p (by simp [joinParts, hp])
  State.joinFail_only h (hj _ (by simp [joinParts])) (fun p => hd _ (hb_mem_driveParts x p)) (hj _ (by simp [joinParts]))
    (hd _ (sec_mem_driveParts x)) (fun p => hd _ (gate_mem_driveParts x p)) (hs _ (by simp [stateParts])) (hs _ (by simp [stateParts]))
    (hs _ (by simp [stateParts])) (hs _ (by simp [stateParts])) (hs _ (by simp [stateParts])) (hj _ (by simp [joinParts]))
    (fun a => he _ (axis_counts_mem_ends a).1) (fun a => he _ (axis_counts_mem_ends a).2)
    (fun a => hj _ (level_mem_joinParts x a).1) (fun a => hj _ (level_mem_joinParts x a).2)

theorem Only.begins {t : Nat} : Only (fun p => P p ∨ p ∈ Safety.ends) s (s.at_ t) :=
  Only.refl.at_ (.inr (by simp [Safety.ends])) (.inr (by simp [Safety.ends]))

@[simp] theorem settle_sec (s : State) (x : Fin 6) : s.settle.sec x = s.sec x := by
  simp only [State.sec, State.settle_secs]

/-- The end of a command writes no object of a section. -/
theorem settle_get_below (s : State) {k : Nat} (h : k < 0x500000) : s.settle.get k = s.get k := State.settle_get s (shownKey_of (.inl h))

theorem settle_nat_below (s : State) {k : Nat} (h : k < 0x500000) : s.settle.nat k = s.nat k := State.settle_nat s (shownKey_of (.inl h))

/-! ### Driving the switches, and entering a step -/

theorem drive_changes (s : State) (x : Fin 6) : Only (· ∈ driveParts x) s (s.drive x) := Only.refl.drive (fun _ hp => hp)

/-- Driving writes no object but the edge currents of its half-bridges (R118). -/
theorem drive_get (s : State) (x : Fin 6) {k : Nat} (hk : ∀ p : Fin 3, k ≠ S_GATE_I (hbOf x p)) : (s.drive x).get k = s.get k :=
  drive_changes s x (.obj k) (by simpa [driveParts, mem_phases] using hk)

theorem modPwm_keeps (s : State) (x : Fin 6) (f : Pwm → Pwm) (h : ∀ c : Sec, coreOf { c with pwm := f c.pwm } = coreOf c) :
    SecKeeps s (s.modPwm x f) := fun y => by
  by_cases hy : y = x
  · subst hy
    exact (congrArg coreOf (State.sec_modSec_self s y _)).trans (h _)
  · exact congrArg coreOf (State.sec_modSec_ne s _ hy)

theorem SecKeeps.lockAt (h : SecKeeps s u) (y : Fin 6) : (u.sec y).lockAt = (s.sec y).lockAt := by
  have := congrArg Sec.lockAt (h y)
  exact this

theorem SecKeeps.thetaC (h : SecKeeps s u) (y : Fin 6) : (u.sec y).thetaC = (s.sec y).thetaC := by
  have := congrArg Sec.thetaC (h y)
  exact this

/-- Step k is in force, counted, with the lock window restarted, and the switches do not follow it yet (R43, R55). -/
structure Entered (s : State) (x : Fin 6) (k : Nat) (v : State) : Prop where
  step : v.get (S_STEP x) = k
  count : v.get (S_COMM_COUNT x) = counted32 (s.get (S_COMM_COUNT x)) 1
  placed : (v.sec x).placed = none
  thetaC : (v.sec x).thetaC = (s.sec x).thetaC
  lockAt : (v.sec x).lockAt = (s.sec x).lockAt.map (fun _ => s.now)

/-- Entering a step brings it into force, and then only drives the switches. -/
theorem enterStep_entered (s : State) (x : Fin 6) (k : Nat) :
    ∃ v, Entered s x k v ∧ SecKeeps v (s.enterStep x k) ∧ Only (· ∈ driveParts x) v (s.enterStep x k) := by
  unfold State.enterStep
  extract_lets old float clampHigh s1 s2 th s3 s4 s5
  have h2 : s2.get (S_STEP x) = k ∧ s2.get (S_COMM_COUNT x) = counted32 (s.get (S_COMM_COUNT x)) 1 ∧ s2.secs = s.secs ∧ s2.now = s.now := by
    have h1 : s1.get (S_STEP x) = k ∧ s1.get (S_COMM_COUNT x) = counted32 (s.get (S_COMM_COUNT x)) 1 := by
      simp [s1, State.inc, State.addCount, counted32, State.get_set]
    simp only [s2]
    split
    · exact ⟨h1.1, h1.2, rfl, rfl⟩
    · exact ⟨by simp [State.get_set, h1.1], by simp [State.get_set, h1.2], rfl, rfl⟩
  have h5 : SecKeeps s4 s5 ∧ Only (· ∈ driveParts x) s4 s5 := by
    simp only [s5]
    split
    · exact ⟨modPwm_keeps s4 x _ (fun _ => rfl), Only.refl.modPwm (sec_mem_driveParts x)⟩
    · exact ⟨.refl s4, Only.refl⟩
  obtain ⟨hstep, hcount, hsecs, hnow⟩ := h2
  have hsec : s2.sec x = s.sec x := by rw [State.sec, hsecs, State.sec]
  have h4 : SecKeeps s3 s4 ∧ Only (· ∈ driveParts x) s3 s4 := ⟨State.drive_keeps s3 x, drive_changes s3 x⟩
  refine ⟨s3, ⟨hstep, hcount, ?_, ?_, ?_⟩, ?_⟩
  · simp [s3]
  · simp [s3, hsec]
  · simp [s3, hsec, hnow]
  · split
    · exact ⟨(h4.1.trans h5.1).trans (modPwm_keeps s5 x _ (fun _ => rfl)), (h4.2.trans h5.2).modPwm (sec_mem_driveParts x)⟩
    · exact ⟨h4.1.trans h5.1, h4.2.trans h5.2⟩

theorem gate_ne_of {k : Nat} (h : k % 65536 < 0x0800) (p : Fin 3) (x : Fin 6) : k ≠ S_GATE_I (hbOf x p) := by
  simp only [S_GATE_I, hbOf]
  omega

/-- What entering a step leaves (R41, R43, R55). -/
theorem entered_enterStep (s : State) (x : Fin 6) (k : Nat) : Entered s x k (s.enterStep x k) := by
  obtain ⟨v, hv, hkeeps, honly⟩ := enterStep_entered s x k
  have hget : ∀ j, j % 65536 < 0x0800 → (s.enterStep x k).get j = v.get j := fun j hj =>
    honly (.obj j) (by simpa [driveParts, mem_phases] using fun p => gate_ne_of hj p x)
  exact {
    step := (hget _ (by simp only [S_STEP]; omega)).trans hv.step
    count := (hget _ (by simp only [S_COMM_COUNT]; omega)).trans hv.count
    placed := (hkeeps.placed x).trans hv.placed
    thetaC := (hkeeps.thetaC x).trans hv.thetaC
    lockAt := (hkeeps.lockAt x).trans hv.lockAt }

theorem enterStep_changes (s : State) (x : Fin 6) (k : Nat) : Only (· ∈ enterParts x) s (s.enterStep x k) :=
  Only.refl.enterStep (fun _ hp => hp)

/-- A placed step change whose time has come is entered (R43). -/
theorem stepChange_of_due {x : Fin 6} {k i : Nat} (hp : (s.sec x).placed = some (k, i)) (hi : i ≤ s.now) :
    s.stepChange x = s.enterStep x k := by
  simp only [State.stepChange, hp, if_pos hi]

/-! ### The judgement of the step in force -/

/-- What the sequencer makes of θc: a step change taken at once with an entry where steps lie between, one placed for now, or one
predicted (R41, R42, R60). -/
def judgeStep (s : State) (x : Fin 6) (a : Fin 4) (th : Rat) : State :=
  let k := targetStep s x th
  let cur := s.nat (S_STEP x)
  if k ≠ cur ∧ pastBoundary s x th then
    if s.nat (S_STATE x) ≠ 3 ∧ cur < 6 ∧ !adjacent k cur then ((s.inc (S_SKIP_COUNT x)).jSeq x 0x31).enterStep x k
    else s.modSec x (fun c => { c with placed := some (k, s.now) })
  else s.modSec x (fun c => { c with placed := predict s x th (feOf s a) })

/-- An evaluation notes θc (R38). -/
def thetaNoted (s : State) (x : Fin 6) (th : Rat) : State := s.modSec x (fun c => { c with thetaC := th })

/-- An evaluation starts, keeps or ends the locked-rotor window (R55). -/
def lockWatched (s : State) (x : Fin 6) (a : Fin 4) : State :=
  s.modSec x (fun c => { c with lockAt := if lockArmed s x a then some (c.lockAt.getD s.now) else none })

/-- The section has lost the angle source of its ramp, and its join fails (R57). -/
def sourceChecked (s : State) (x : Fin 6) (a : Fin 4) : State :=
  if (s.sec x).join = .ramp ∧ !angleValid s a then s.joinFail x else s

/-- An evaluation behind the direction latch. -/
def evaluated (s : State) (x : Fin 6) (a : Fin 4) : State :=
  let th := thetaCNow s x a
  let v := sourceChecked (thetaNoted s x th) x a
  if v.nat (S_STATE x) = 0 ∨ v.nat (S_STATE x) = 4 then v else judgeStep (lockWatched v x a) x a th

theorem evaluate_eq {x : Fin 6} {a : Fin 4} (h : axisOf s x = some a) : s.evaluate x = evaluated (s.dirUpdate a) x a := by
  unfold State.evaluate
  rw [h]
  rfl

theorem Only.judgeStep {x : Fin 6} {a : Fin 4} {th : Rat} (h : Only P s u) (hj : Covers P (judgeParts x)) :
    Only P s (judgeStep u x a th) := by
  have hsec : P (.sec x) := hj _ (by simp [judgeParts, sec_mem_driveParts])
  unfold Safety.judgeStep
  dsimp only
  split
  · split
    · have hskip : Only P s (u.inc (S_SKIP_COUNT x)) := h.inc (hj _ (by simp [judgeParts]))
      exact (State.jSeq_only hskip (hj _ (by simp [judgeParts]))).enterStep (fun p hp => hj p (enterParts_subset_judgeParts x hp))
    · exact h.modSec hsec
  · exact h.modSec hsec

/-- The values of an evaluation at θc: a step change taken at once and journalled, one placed, or one predicted (R38, R41, R42). -/
def Judged (s : State) (x : Fin 6) (a : Fin 4) (th : Rat) (u : State) : Prop :=
  (u.sec x).thetaC = th ∧
  (if targetStep s x th ≠ s.nat (S_STEP x) ∧ pastBoundary s x th = true then
    (if s.nat (S_STATE x) ≠ 3 ∧ s.nat (S_STEP x) < 6 ∧ adjacent (targetStep s x th) (s.nat (S_STEP x)) = false then
      u.nat (S_STEP x) = targetStep s x th ∧ u.get (S_SKIP_COUNT x) = counted32 (s.get (S_SKIP_COUNT x)) 1 ∧ Raises s u [(1, x, 0x31)]
    else (u.sec x).placed = some (targetStep s x th, u.now) ∧ u.get (S_STEP x) = s.get (S_STEP x))
  else (u.sec x).placed = predict s x th (feOf s a) ∧ u.get (S_STEP x) = s.get (S_STEP x))

theorem judged_judgeStep {x : Fin 6} {th : Rat} (a : Fin 4) (hth : (s.sec x).thetaC = th) : Judged s x a th (judgeStep s x a th) := by
  unfold Judged judgeStep
  dsimp only
  simp only [Bool.not_eq_true']
  split
  · split
    · have hin := entered_enterStep ((s.inc (S_SKIP_COUNT x)).jSeq x 0x31) x (targetStep s x th)
      have honly := enterStep_changes ((s.inc (S_SKIP_COUNT x)).jSeq x 0x31) x (targetStep s x th)
      have hskip := honly (.obj (S_SKIP_COUNT x)) (by
        simpa [enterParts, driveParts, mem_phases] using fun p => gate_ne_of (by simp only [S_SKIP_COUNT]; omega) p x)
      have hraised := honly .raised (by simp [enterParts, driveParts])
      refine ⟨hin.thetaC.trans hth, ?_, hskip.trans ?_, ?_⟩
      · rw [State.nat, hin.step, Int.toNat_natCast]
      · exact State.get_set_self s _ _
      · exact (congrArg (List.map _) hraised).trans (List.map_append ..)
    · exact ⟨by simpa using hth, by simp, rfl⟩
  · exact ⟨by simpa using hth, by simp, rfl⟩

/-- The judgement reads no section's record. -/
theorem judged_modSec {x y : Fin 6} {a : Fin 4} {th : Rat} {f : Sec → Sec} (h : Judged (s.modSec y f) x a th u) : Judged s x a th u := h

theorem Judged.settle {x : Fin 6} {a : Fin 4} {th : Rat} (h : Judged s x a th u) : Judged s x a th u.settle := by
  have hstep : S_STEP x < 0x500000 := by simp only [S_STEP]; omega
  have hskip : S_SKIP_COUNT x < 0x500000 := by simp only [S_SKIP_COUNT]; omega
  unfold Judged Raises at *
  rwa [settle_sec, settle_nat_below _ hstep, settle_get_below _ hstep, settle_get_below _ hskip, State.settle_now, State.settle_raised]

/-- An evaluation of a section that runs and whose ramp, if any, has its angle source: θc is noted, and the step judged. -/
theorem evaluated_of_running {x : Fin 6} {a : Fin 4} (hrun : Runs s x) (hjoin : (s.sec x).join ≠ .ramp) :
    evaluated s x a = judgeStep (lockWatched (thetaNoted s x (thetaCNow s x a)) x a) x a (thetaCNow s x a) := by
  have hcheck : sourceChecked (thetaNoted s x (thetaCNow s x a)) x a = thetaNoted s x (thetaCNow s x a) := by
    refine if_neg fun h => hjoin ?_
    simpa [thetaNoted] using h.1
  have hstate : ¬ ((thetaNoted s x (thetaCNow s x a)).nat (S_STATE x) = 0 ∨ (thetaNoted s x (thetaCNow s x a)).nat (S_STATE x) = 4) := by
    obtain ⟨hlow, hhigh⟩ := hrun
    simp only [thetaNoted, State.modSec_nat]
    omega
  simp only [evaluated, hcheck, if_neg hstate]

/-- With the direction standing and no reversal waiting the latch is left alone (R51, R52). -/
theorem dirUpdate_of_stands {a : Fin 4} (hdir : sgnR (demandedTravel s a) = 0 ∨ sgnR (demandedTravel s a) = s.get (A_DIR a))
    (hpend : s.get (A_REV_PENDING a) = 0) : s.dirUpdate a = s := by
  have hflag : s.flag (A_REV_PENDING a) = false := by simp [State.flag, hpend]
  unfold State.dirUpdate
  dsimp only
  rw [if_neg (fun h => hdir.elim h.1 h.2), hflag]
  rfl

theorem Only.evaluated {x : Fin 6} {a : Fin 4} (h : Only P s u) (hj : Covers P (judgeParts x)) (hf : Covers P (joinParts x))
    (he : Covers P Safety.ends) : Only P s (evaluated u x a) := by
  have hsec : P (.sec x) := hf _ (by simp [joinParts, sec_mem_driveParts])
  have hcheck : Only P s (sourceChecked (thetaNoted u x (thetaCNow u x a)) x a) :=
    Only.ite (fun _ => (h.modSec hsec).joinFail hf he) (fun _ => h.modSec hsec)
  exact Only.ite (fun _ => hcheck) (fun _ => (hcheck.modSec hsec).judgeStep hj)

/-- The evaluation of a section that runs, and whose ramp, if any, has its angle source, judges the step at θc. -/
theorem judged_evaluated {x : Fin 6} {a : Fin 4} (hrun : Runs s x) (hjoin : (s.sec x).join ≠ .ramp) :
    Judged s x a (thetaCNow s x a) (evaluated s x a) := by
  have htheta : ((lockWatched (thetaNoted s x (thetaCNow s x a)) x a).sec x).thetaC = thetaCNow s x a := by
    simp [lockWatched, thetaNoted]
  rw [evaluated_of_running hrun hjoin]
  exact judged_modSec (judged_modSec (judged_judgeStep a htheta))

theorem evaluated_changes_of_running {x : Fin 6} {a : Fin 4} (hrun : Runs s x) (hjoin : (s.sec x).join ≠ .ramp) :
    Only (· ∈ judgeParts x) s (evaluated s x a) := by
  have hsec : Part.sec x ∈ judgeParts x := by simp [judgeParts, sec_mem_driveParts]
  rw [evaluated_of_running hrun hjoin]
  exact ((Only.refl.modSec hsec).modSec hsec).judgeStep (fun _ hp => hp)

/-- What giving up a join may touch covers the judgement of a step, but for its two counts. -/
theorem covers_judgeParts {x : Fin 6} (hskip : P (.obj (S_SKIP_COUNT x))) (hcount : P (.obj (S_COMM_COUNT x)))
    (hj : Covers P (joinParts x)) : Covers P (judgeParts x) := by
  intro p hp
  simp only [judgeParts, List.cons_append, List.nil_append, List.mem_cons] at hp
  rcases hp with rfl | rfl | rfl | rfl | rfl | hdrive
  · exact hj _ (by simp [joinParts])
  · exact hskip
  · exact hcount
  · exact hj _ (by simp [joinParts, stateParts])
  · exact hj _ (by simp [joinParts, stateParts])
  · exact hj _ (by simp [joinParts, hdrive])

/-! ### The direction latch -/

/-- The direction latch and the waiting reversal of an axis. -/
def latchParts (a : Fin 4) : List Part := [.obj (A_DIR a), .obj (A_REV_PENDING a)]

theorem Only.dirUpdate {a : Fin 4} (h : Only P s u) (hl : Covers P (latchParts a)) (hd : Covers P (allSecs.flatMap driveParts))
    (hr : P .raised) : Only P s (u.dirUpdate a) :=
  have hsec : ∀ x, Covers P (driveParts x) := fun x p hp => hd p (List.mem_flatMap.mpr ⟨x, List.mem_finRange x, hp⟩)
  State.dirUpdate_only h (hl _ (by simp [latchParts])) (hl _ (by simp [latchParts])) (fun x p => hsec x _ (hb_mem_driveParts x p))
    (fun x p => hsec x _ (gate_mem_driveParts x p)) (fun x => hsec x _ (sec_mem_driveParts x)) hr

/-- Driving leaves the direction latches alone. -/
theorem drive_latch (s : State) (x : Fin 6) (a : Fin 4) :
    (s.drive x).get (A_DIR a) = s.get (A_DIR a) ∧ (s.drive x).get (A_REV_PENDING a) = s.get (A_REV_PENDING a) :=
  ⟨drive_get s x (fun p => gate_ne_of (by simp only [A_DIR]; omega) p x),
    drive_get s x (fun p => gate_ne_of (by simp only [A_REV_PENDING]; omega) p x)⟩

/-- A demand against the latch turns it below A_REV_SPEED (R51). -/
theorem dirUpdate_of_slow {a : Fin 4} (hd : sgnR (demandedTravel s a) ≠ 0) (hne : sgnR (demandedTravel s a) ≠ s.get (A_DIR a))
    (hslow : absR (feOf s a) < s.get (A_REV_SPEED a)) :
    (s.dirUpdate a).get (A_DIR a) = sgnR (demandedTravel s a) ∧ (s.dirUpdate a).get (A_REV_PENDING a) = 0 := by
  simp only [State.dirUpdate, if_pos (And.intro hd hne), if_pos hslow]
  refine State.each_keeps (fun u => u.get (A_DIR a) = sgnR (demandedTravel s a) ∧ u.get (A_REV_PENDING a) = 0) _ _ _
    (fun x u hu => ?_) ?_
  · rwa [(drive_latch u x a).1, (drive_latch u x a).2]
  · simp [State.get_set]

/-- A demand against the latch waits from A_REV_SPEED on (R52). -/
theorem dirUpdate_of_fast {a : Fin 4} (hd : sgnR (demandedTravel s a) ≠ 0) (hne : sgnR (demandedTravel s a) ≠ s.get (A_DIR a))
    (hfast : ¬ absR (feOf s a) < s.get (A_REV_SPEED a)) :
    (s.dirUpdate a).get (A_DIR a) = s.get (A_DIR a) ∧ (s.dirUpdate a).get (A_REV_PENDING a) ≠ 0 := by
  simp only [State.dirUpdate, if_pos (And.intro hd hne), if_neg hfast]
  split
  case isTrue hflag => exact ⟨rfl, by simpa [State.flag] using hflag⟩
  case isFalse =>
    refine State.each_keeps (fun u => u.get (A_DIR a) = s.get (A_DIR a) ∧ u.get (A_REV_PENDING a) ≠ 0) _ _ _ (fun x u hu => ?_) ?_
    · have hdrive : (u.drive x).get (A_DIR a) = s.get (A_DIR a) ∧ (u.drive x).get (A_REV_PENDING a) ≠ 0 := by
        rwa [(drive_latch u x a).1, (drive_latch u x a).2]
      split
      · exact hdrive
      · exact hdrive
    · simp [State.get_set]

/-- What follows the latch in an evaluation may not touch it. -/
theorem latch_not_mem : ∀ (x : Fin 6) (b : Fin 4), ∀ p ∈ latchParts b, p ∉ judgeParts x ++ joinParts x ++ ends := by decide +kernel

theorem latch_not_shown : ∀ b : Fin 4, shownKey (A_DIR b) = false ∧ shownKey (A_REV_PENDING b) = false := by decide

theorem evaluated_latch (s : State) (x : Fin 6) (a b : Fin 4) :
    (evaluated s x a).get (A_DIR b) = s.get (A_DIR b) ∧ (evaluated s x a).get (A_REV_PENDING b) = s.get (A_REV_PENDING b) := by
  have honly : Only (· ∈ judgeParts x ++ joinParts x ++ ends) s (evaluated s x a) :=
    Only.refl.evaluated (fun _ hp => by simp [hp]) (fun _ hp => by simp [hp]) (fun _ hp => by simp [hp])
  exact ⟨honly (.obj (A_DIR b)) (latch_not_mem x b _ (by simp [latchParts])),
    honly (.obj (A_REV_PENDING b)) (latch_not_mem x b _ (by simp [latchParts]))⟩

/-- Parts that an evaluation with a turn of the latch may touch (R41, R51, R52, R57). -/
def reverseParts (x : Fin 6) (a : Fin 4) (p : Part) : Prop :=
  p ∈ [.obj (A_DIR a), .obj (A_REV_PENDING a), .obj (S_SKIP_COUNT x), .obj (S_COMM_COUNT x)] ++ joinParts x ∨
    p ∈ allSecs.flatMap driveParts

theorem evaluated_dirUpdate_changes (s : State) (x : Fin 6) (a : Fin 4) :
    Only (fun p => reverseParts x a p ∨ p ∈ ends) s (evaluated (s.dirUpdate a) x a) := by
  have hjoin : Covers (fun p => reverseParts x a p ∨ p ∈ ends) (joinParts x) := fun p hp => .inl (.inl (List.mem_append_right _ hp))
  have hlatch : Covers (fun p => reverseParts x a p ∨ p ∈ ends) (latchParts a) := fun p hp => by
    simp only [latchParts, List.mem_cons, List.not_mem_nil, or_false] at hp
    rcases hp with rfl | rfl <;> simp [reverseParts]
  have hturn : Only (fun p => reverseParts x a p ∨ p ∈ ends) s (s.dirUpdate a) :=
    Only.refl.dirUpdate hlatch (fun _ hp => .inl (.inr hp)) (hjoin _ (by simp [joinParts]))
  exact hturn.evaluated (covers_judgeParts (by simp [reverseParts]) (by simp [reverseParts]) hjoin) hjoin (fun _ hp => .inr hp)

/-! ### The commands of the sequencer -/

/-- An evaluation on an island that runs turns or keeps the latch, and then judges the step. -/
theorem exec_sequencerEvaluation_of_axis {s : State} (t : Nat) {x : Fin 6} {a : Fin 4} (hOn : On s x) (hax : axisOf s x = some a) :
    exec (.sequencerEvaluation t x) s = .next (evaluated ((s.at_ t).dirUpdate a) x a).settle := by
  rw [exec_sequencerEvaluation, execSequencerEvaluation, runOn_on (s := s.at_ t) hOn, evaluate_eq (s := s.at_ t) hax]

/-- An evaluation while the direction stands notes θc and judges the step (R38, R41, R42). -/
theorem sequencerEvaluation_judges {s : State} (t : Nat) {x : Fin 6} {a : Fin 4} (hOn : On s x) (hax : axisOf s x = some a)
    (hrun : Runs s x) (hjoin : (s.sec x).join ≠ .ramp)
    (hdir : sgnR (demandedTravel (s.at_ t) a) = 0 ∨ sgnR (demandedTravel (s.at_ t) a) = s.get (A_DIR a))
    (hpend : s.get (A_REV_PENDING a) = 0) :
    Yields (.sequencerEvaluation t x) s (fun u =>
      Judged (s.at_ t) x a (thetaCNow (s.at_ t) x a) u ∧ Frame (· ∈ judgeParts x) s u) := by
  have hexec := exec_sequencerEvaluation_of_axis t hOn hax
  rw [dirUpdate_of_stands hdir hpend] at hexec
  have honly := (evaluated_changes_of_running (s := s.at_ t) (a := a) hrun hjoin).mono (Q := fun p => p ∈ judgeParts x ∨ p ∈ ends)
    (fun _ => .inl)
  exact ⟨_, hexec, (judged_evaluated (s := s.at_ t) hrun hjoin).settle, (Only.begins.trans honly).ends⟩

/-- An evaluation with a demand against the latch turns it or lets it wait (R51, R52). -/
theorem sequencerEvaluation_reverses {s : State} (t : Nat) {x : Fin 6} {a : Fin 4} (hOn : On s x) (hax : axisOf s x = some a)
    (hd : sgnR (demandedTravel (s.at_ t) a) ≠ 0) (hne : sgnR (demandedTravel (s.at_ t) a) ≠ s.get (A_DIR a)) :
    Yields (.sequencerEvaluation t x) s (fun u =>
      (if absR (feOf (s.at_ t) a) < s.get (A_REV_SPEED a) then
        u.get (A_DIR a) = sgnR (demandedTravel (s.at_ t) a) ∧ u.get (A_REV_PENDING a) = 0
      else u.get (A_DIR a) = s.get (A_DIR a) ∧ u.flag (A_REV_PENDING a) = true) ∧
      Frame (reverseParts x a) s u) := by
  refine ⟨_, exec_sequencerEvaluation_of_axis t hOn hax, ?_, Only.ends ?_⟩
  · obtain ⟨hdir, hrev⟩ := evaluated_latch ((s.at_ t).dirUpdate a) x a a
    have hshown := latch_not_shown a
    rw [State.settle_get _ hshown.1, State.settle_get _ hshown.2, State.settle_flag _ hshown.2, State.flag, hdir, hrev]
    split
    case isTrue hslow => exact dirUpdate_of_slow hd hne hslow
    case isFalse hfast => simpa using dirUpdate_of_fast hd hne hfast
  · exact Only.begins.trans (evaluated_dirUpdate_changes (s.at_ t) x a)

/-- The placed step change takes place (R43, R55). -/
theorem stepChange_enters {s : State} (t : Nat) {x : Fin 6} {k i : Nat} (hOn : On s x) (hp : (s.sec x).placed = some (k, i))
    (hi : i ≤ max s.now t) :
    Yields (.stepChange t x) s (fun u =>
      u.nat (S_STEP x) = k ∧ u.get (S_COMM_COUNT x) = counted32 (s.get (S_COMM_COUNT x)) 1 ∧ (u.sec x).placed = none ∧
      (u.sec x).lockAt = (s.sec x).lockAt.map (fun _ => max s.now t) ∧ Frame (· ∈ enterParts x) s u) := by
  have hexec : exec (.stepChange t x) s = .next ((s.at_ t).enterStep x k).settle := by
    rw [exec_stepChange, execStepChange, runOn_on (s := s.at_ t) hOn, stepChange_of_due (s := s.at_ t) hp hi]
  have hin := entered_enterStep (s.at_ t) x k
  refine ⟨_, hexec, ?_, ?_, ?_, ?_, (Only.begins.enterStep (fun p hp => .inl hp)).ends⟩
  · rw [settle_nat_below _ (by simp only [S_STEP]; omega), State.nat, hin.step, Int.toNat_natCast]
  · rw [settle_get_below _ (by simp only [S_COMM_COUNT]; omega)]
    exact hin.count
  · rw [settle_sec]
    exact hin.placed
  · rw [settle_sec]
    exact hin.lockAt

/-! ### The locked rotor -/

/-- What a declared locked rotor does by S_LOCK_ACTION (R56). -/
def lockAnswered (s : State) (x : Fin 6) : State :=
  match s.nat (S_LOCK_ACTION x) with
  | 1 =>
    let s := s.modSec x (fun c => { c with lockLimit := true })
    match axisOf s x with
    | some a => s.reshare a
    | none => s
  | 2 => s.enableZero x
  | _ => s

/-- A locked rotor is shown and journalled (R55, R62). -/
def lockDeclared (s : State) (x : Fin 6) : State := (s.set (S_LOCK_STATE x) 1).jSeq x 0x30

theorem lockDeclared_nat {x : Fin 6} {k : Nat} (hk : k ≠ S_LOCK_STATE x) : (lockDeclared s x).nat k = s.nat k := by
  simp [lockDeclared, State.jSeq, State.nat_set, hk]

/-- A locked rotor is declared when its window has run S_LOCK_TIME (R55, R56). -/
theorem lockedRotor_of_elapsed {x : Fin 6} {t0 : Nat} (hat : (s.sec x).lockAt = some t0)
    (hdue : t0 + ms (s.nat (S_LOCK_TIME x)) ≤ s.now) (hnew : s.get (S_LOCK_STATE x) = 0) :
    s.lockedRotor x = lockAnswered (lockDeclared s x) x := by
  have hflag : s.flag (S_LOCK_STATE x) = false := by simp [State.flag, hnew]
  unfold State.lockedRotor
  rw [hat]
  dsimp only
  rw [if_pos ⟨hdue, by simp [hflag]⟩]
  rfl

/-- The references of an axis are formed in the sections' records alone, and leave every limit in force. -/
theorem reshare_lockLimit (s : State) (a : Fin 4) (x : Fin 6) : ((s.reshare a).sec x).lockLimit = (s.sec x).lockLimit := by
  unfold State.reshare
  refine List.foldlRecOn (motive := fun (u : State) => (u.sec x).lockLimit = (s.sec x).lockLimit) _ _ rfl (fun u hu y _ => ?_)
  by_cases hy : x = y
  · subst hy
    rw [State.sec_modSec_self]
    exact hu
  · rw [State.sec_modSec_ne _ _ hy]
    exact hu

/-- A running section that is disabled ramps its share down, from where a rising ramp has brought it (R58). -/
theorem enableZero_of_running {x : Fin 6} (hrun : Runs s x) :
    (s.enableZero x).get (S_ENABLE x) = 0 ∧ (∃ r, ((s.enableZero x).sec x).ramp = some r ∧ r.up = false) ∧
    Only (· ∈ [.obj (S_ENABLE x), .sec x]) s (s.enableZero x) := by
  obtain ⟨hlow, hhigh⟩ := hrun
  have hset : Only (· ∈ [.obj (S_ENABLE x), .sec x]) s (s.set (S_ENABLE x) 0) := Only.refl.set (by simp)
  unfold State.enableZero
  dsimp only
  rw [if_neg (by omega), if_neg (by omega)]
  split
  case h_1 r hr =>
    split
    case isTrue => exact ⟨by simp, by simp, hset.modSec (by simp)⟩
    case isFalse hup => exact ⟨by simp, ⟨r, hr, by simpa using hup⟩, hset⟩
  case h_2 => exact ⟨by simp, by simp, hset.modSec (by simp)⟩

theorem lockAnswered_changes {x : Fin 6} (hrun : Runs s x) : Only (· ∈ .obj (S_ENABLE x) :: allSecs.map .sec) s (lockAnswered s x) := by
  have hsec : ∀ y : Fin 6, Part.sec y ∈ Part.obj (S_ENABLE x) :: allSecs.map .sec := fun y => by simp [allSecs]
  unfold lockAnswered
  split
  · dsimp only
    split
    · exact State.reshare_only (Only.refl.modSec (hsec x)) hsec
    · exact Only.refl.modSec (hsec x)
  · refine (enableZero_of_running hrun).2.2.mono fun p hp => ?_
    simp only [List.mem_cons, List.not_mem_nil, or_false] at hp
    rcases hp with rfl | rfl
    · exact List.mem_cons_self
    · exact hsec x
  · exact Only.refl

theorem lockAnswered_limits {x : Fin 6} (h : s.nat (S_LOCK_ACTION x) = 1) : ((lockAnswered s x).sec x).lockLimit = true := by
  simp only [lockAnswered, h]
  split
  · simp [reshare_lockLimit]
  · simp

theorem lockAnswered_leaves {x : Fin 6} (h : s.nat (S_LOCK_ACTION x) = 2) : lockAnswered s x = s.enableZero x := by
  simp only [lockAnswered, h]

/-- A declared locked rotor is shown, journalled, and answered by S_LOCK_ACTION (R55, R56). -/
theorem lockedRotor_declares {s : State} (t : Nat) {x : Fin 6} {t0 : Nat} (hOn : On s x) (hrun : Runs s x)
    (hat : (s.sec x).lockAt = some t0) (hdue : t0 + ms (s.nat (S_LOCK_TIME x)) ≤ max s.now t) (hnew : s.get (S_LOCK_STATE x) = 0) :
    Yields (.lockedRotor t x) s (fun u =>
      u.get (S_LOCK_STATE x) = 1 ∧ Raises s u [(1, x, 0x30)] ∧ (s.nat (S_LOCK_ACTION x) = 1 → (u.sec x).lockLimit = true) ∧
      (s.nat (S_LOCK_ACTION x) = 2 → u.get (S_ENABLE x) = 0 ∧ ∃ r, (u.sec x).ramp = some r ∧ r.up = false) ∧
      Frame (· ∈ [.obj (S_LOCK_STATE x), .raised, .obj (S_ENABLE x)] ++ allSecs.map .sec) s u) := by
  have hexec : exec (.lockedRotor t x) s = .next (lockAnswered (lockDeclared (s.at_ t) x) x).settle := by
    rw [exec_lockedRotor, execLockedRotor, runOn_on (s := s.at_ t) hOn, lockedRotor_of_elapsed (s := s.at_ t) hat hdue hnew]
  have haction : (lockDeclared (s.at_ t) x).nat (S_LOCK_ACTION x) = s.nat (S_LOCK_ACTION x) :=
    lockDeclared_nat (by simp only [S_LOCK_ACTION, S_LOCK_STATE]; omega)
  have hrun' : Runs (lockDeclared (s.at_ t) x) x := by
    rw [Runs, lockDeclared_nat (by simp only [S_STATE, S_LOCK_STATE]; omega)]
    exact hrun
  have honly := lockAnswered_changes hrun'
  refine ⟨_, hexec, ?_, ?_, fun h => ?_, fun h => ?_, ?_⟩
  · rw [settle_get_below _ (by simp only [S_LOCK_STATE]; omega)]
    exact (honly (.obj (S_LOCK_STATE x)) (by simp)).trans (State.get_set_self _ _ _)
  · have hraised := honly .raised (by simp)
    rw [Raises, State.settle_raised]
    exact (congrArg (List.map _) hraised).trans (List.map_append ..)
  · rw [settle_sec]
    exact lockAnswered_limits (haction.trans h)
  · rw [settle_get_below _ (by simp only [S_ENABLE]; omega), settle_sec, lockAnswered_leaves (haction.trans h)]
    obtain ⟨henable, hramp, -⟩ := enableZero_of_running hrun'
    exact ⟨henable, hramp⟩
  · have hshown : Only (fun p => p ∈ [.obj (S_LOCK_STATE x), .raised, .obj (S_ENABLE x)] ++ allSecs.map .sec ∨ p ∈ ends) s
        (lockDeclared (s.at_ t) x) :=
      State.jSeq_only (Only.begins.set (.inl (by simp))) (.inl (by simp))
    exact (hshown.trans (honly.mono fun p hp => .inl (List.mem_cons_of_mem _ (List.mem_cons_of_mem _ hp)))).ends

/-- Settles O9: each command of the sequencer reaches its judgement, turn, step change or declaration, and touches nothing else. -/
theorem sequencerCommands : Obligations.SequencerCommands := by
  refine ⟨fun s t x a hOn hax hrun hjoin hdir hpend => ?_, fun s t x a hOn hax hd hne => sequencerEvaluation_reverses t hOn hax hd hne,
    fun s t x k i hOn hp hi => stepChange_enters t hOn hp hi,
    fun s t x t0 hOn hrun hat hdue hnew => lockedRotor_declares t hOn hrun hat hdue hnew⟩
  obtain ⟨u, hexec, ⟨htheta, hstep⟩, hframe⟩ := sequencerEvaluation_judges t hOn hax hrun hjoin hdir hpend
  exact ⟨u, hexec, htheta, hstep, hframe⟩

end Sys2Proof.Safety

/-! SUPPORT. States in which a write of S_ENABLE and a period boundary do not end as their statements say: a section of an axis
refused into its cascade axis (R36), and a section that leaves in the tick of a device fault (R156, R158). -/

namespace Sys2Proof.Safety
open Sys2Proof.Machine Sys2Proof.Machine.Obj

/-- Every object at its default but those listed, with every island running. -/
def atDefaults (vs : List (Nat × Int)) : State := vs.foldl (fun s v => s.set v.1 v.2) { State.reset with dict := [] }

/-! ### A join of an axis refused into its cascade axis -/

/-- A write of 1 to S_ENABLE that every check lets pass has its effect, and is answered. -/
theorem exec_joinStart_of_allowed {s : State} {t : Nat} {b : By} {x : Fin 6} (h : allowed (s.at_ t) b (S_ENABLE x) 1 = true) :
    exec (.joinStart t b x) s = .next (((judged (s.at_ t) b (S_ENABLE x)).enableOne x).emit (.result 0 [])).settle := by
  have hkeys : ∀ y : Fin 6, poleKey (S_ENABLE y) = false ∧ plainKey (S_ENABLE y) 1 = true ∧ keySlotAt (S_ENABLE y) = none := by decide +kernel
  obtain ⟨hpole, hplain, hslot⟩ := hkeys x
  have heffect : ∀ (g : State) (st dm : Nat) (bs : Bytes), g.effect b st dm (S_ENABLE x) bs 1 = g.enableOne x := fun g st dm bs => by
    have hkey : S_ENABLE x = 0x200000 + 0x10000 * x.val + 0x0201 := by simp only [S_ENABLE]; omega
    rw [hkey, effect_section g b st dm 0x0201 bs 1 x (by decide)]
    rfl
  rw [exec_joinStart, execJoinStart, writeCmd_plain hpole hplain (by decide) (by decide) h, heffect, afterKey_none hslot, done]

/-- A section of an axis that is refused into its cascade axis does not join (R36). -/
theorem enableOne_of_polesRefused {s : State} {x : Fin 6} {a : Fin 4} (hax : axisOf s x = some a) (hstate : s.nat (S_STATE x) = 0)
    (href : polesRefused s a = true) : s.enableOne x = s.set (S_ENABLE x) 0 := by
  simp [State.enableOne, hax, hstate, href]

/-- Section 2 is ready to join on axis 1, which is refused into cascade axis 0: the host has two pole pairs, the axis one. -/
def refusedByPoles : State :=
  (atDefaults [(S_HSS_LEVEL 6, 0), (S_HSS_LEVEL 7, 0), (S_HSS_LEVEL 8, 0), (S_AXIS 2, 1), (A_CASCADE_AXIS 1, 0)]).modNaz
    (fun n => { n with hostPoles := [(0, 2)] })

/-- The firmware on its own account. -/
def byFirmware : By := ⟨sidFw, 1⟩

theorem refusedByPoles_allowed : allowed (refusedByPoles.at_ 0) byFirmware (S_ENABLE (2 : Fin 6)) 1 = true := by decide +kernel

theorem refusedByPoles_ready :
    axisOf (judged (refusedByPoles.at_ 0) byFirmware (S_ENABLE (2 : Fin 6))) 2 = some 1 ∧
    (judged (refusedByPoles.at_ 0) byFirmware (S_ENABLE (2 : Fin 6))).nat (S_STATE (2 : Fin 6)) = 0 ∧
    (judged (refusedByPoles.at_ 0) byFirmware (S_ENABLE (2 : Fin 6))).flag (S_SERVICE (2 : Fin 6)) = false ∧
    ((judged (refusedByPoles.at_ 0) byFirmware (S_ENABLE (2 : Fin 6))).sec 2).join = .none ∧
    joinReady (judged (refusedByPoles.at_ 0) byFirmware (S_ENABLE (2 : Fin 6))) 2 = true ∧
    polesRefused (judged (refusedByPoles.at_ 0) byFirmware (S_ENABLE (2 : Fin 6))) 1 = true := by decide +kernel

/-- Refutes O10: a section in state 0 that is ready to join, on an axis whose pole-pair count the host of its cascade axis
refuses, keeps S_ENABLE at 0 (R36), while the statement's join starts. -/
theorem not_joinAndLeaveCommands : ¬ Obligations.JoinAndLeaveCommands := by
  intro h
  obtain ⟨hjoin, -⟩ := h
  obtain ⟨u, hexec, -, hstart, -⟩ := hjoin refusedByPoles 0 byFirmware 2 refusedByPoles_allowed
  obtain ⟨hax, hstate, hservice, hnone, hready, href⟩ := refusedByPoles_ready
  have henabled : u.get (S_ENABLE (2 : Fin 6)) = 1 := by
    have hjoins := hstart (by rw [hax]; rfl) hstate hservice hnone
    rw [if_pos hready] at hjoins
    exact hjoins.1
  have hleft : u.get (S_ENABLE (2 : Fin 6)) = 0 := by
    rw [exec_joinStart_of_allowed refusedByPoles_allowed, enableOne_of_polesRefused hax hstate href] at hexec
    cases hexec
    rw [settle_get_below _ (by decide), State.emit_get, State.get_set_self]
  rw [hleft] at henabled
  exact absurd henabled (by decide)

/-! ### A boundary behind a device fault of the same tick -/

/-- The counters of sections 0 and 1 reload at tick 0. Section 0 awaits a degraded entry that it may not make, and one isolation
enters the device level; section 1 is to turn off at this boundary. -/
def leavesBehindFault : State :=
  ((atDefaults [(S_STATE 0, 2), (S_STATE 1, 2), (S_DEV_ISO_LIMIT, 1)]).modSec 0 (fun c => { c with degDue := some 0 })).modSec 1
    (fun c => { c with offDue := true })

/-- The device fault that section 0 brings on isolates section 1 before its own boundary (R149, R156, R158). -/
theorem exec_periodBoundary_leavesBehindFault :
    ∃ u, exec (.periodBoundary 0 3) leavesBehindFault = .next u ∧ u.get (S_STATE (1 : Fin 6)) = 4 :=
  ⟨_, rfl, by decide +kernel⟩

/-- Refutes O12: the boundaries of one tick come in the order of the sections, and where that of section 0 brings on a device
fault, section 1 is in state 4 at its own, while the statement turns it off into state 0. -/
theorem not_pwmCommands : ¬ Obligations.PwmCommands := by
  intro h
  obtain ⟨hreload, -⟩ := h
  obtain ⟨u, hexec, -, -, -, hoff, -⟩ :=
    hreload leavesBehindFault 0 3 1 (by decide +kernel) (by decide) (by decide +kernel) (by decide +kernel)
  obtain ⟨v, hexec', hisolated⟩ := exec_periodBoundary_leavesBehindFault
  cases hexec.symm.trans hexec'
  obtain ⟨hturned, -⟩ := hoff (by decide +kernel) (by decide +kernel)
  rw [hisolated] at hturned
  exact absurd hturned (by decide)

end Sys2Proof.Safety

/-! SUPPORT. A state in which an update of the flux observer does not judge its validity as its statement says: the axis is in the
ramp of a sensorless start, whose speed has risen since the command before (R68, R82). -/

namespace Sys2Proof.Safety
open Sys2Proof.Machine Sys2Proof.Machine.Obj

/-! ### The flux observer without current or voltage -/

/-- The linkage of section x lies within S_OBS_PSI_TOL of S_OBS_PSI (R68). -/
def linkageInBand (s : State) (x : Fin 6) (m2 : Rat) : Bool :=
  let psi : Rat := (s.get (S_OBS_PSI x) : Rat) / 1000000
  let tol : Rat := (s.get (S_OBS_PSI_TOL x) : Rat) / 100
  decide (psi * (1 - tol) * (psi * (1 - tol)) ≤ m2) && decide (m2 ≤ psi * (1 + tol) * (psi * (1 + tol)))

/-- The speed that the observer of section x compares with S_OBS_MIN_FE (R68). -/
def observedSpeed (s : State) (x : Fin 6) : Rat :=
  match axisOf s x with
  | some a => absR (feOf s a)
  | none => 0

theorem fluxUpdate_valid (s : State) (x : Fin 6) :
    ((s.fluxUpdate x).sec x).flux.valid =
      (linkageInBand s x (fluxMag2 ((s.fluxUpdate x).sec x).flux) && decide ((s.get (S_OBS_MIN_FE x) : Rat) ≤ observedSpeed s x)) := by
  unfold State.fluxUpdate
  simp only [State.sec_modSec_self]
  rfl

/-- Without current or voltage the integrators only leak. -/
theorem fluxUpdate_mag2_of_quiet {s : State} {x : Fin 6} (hnode : ∀ p, nodeMean s x p = 0) (hcur : ∀ p, (s.hb (hbOf x p)).cur = 0) :
    fluxMag2 ((s.fluxUpdate x).sec x).flux =
      fluxKeep (s.nat (S_OBS_DRIFT x)) * (s.sec x).flux.intA * (fluxKeep (s.nat (S_OBS_DRIFT x)) * (s.sec x).flux.intA) +
        fluxKeep (s.nat (S_OBS_DRIFT x)) * (s.sec x).flux.intB * (fluxKeep (s.nat (S_OBS_DRIFT x)) * (s.sec x).flux.intB) / 3 := by
  unfold State.fluxUpdate fluxMag2
  simp only [State.sec_modSec_self, hnode, hcur]
  simp

/-- A switch node without samples reads its last code, here 0. -/
theorem nodeMean_of_zero {s : State} {x : Fin 6} {p : Fin 3} (hcnt : (s.sec x).flux.vcnt.get p = 0) (hv : (s.sec x).bemf.v.get p = 0) :
    nodeMean s x p = 0 := by
  simp [nodeMean, hcnt, hv]

/-! ### A ramp from standstill -/

/-- Section 2 of axis 1 in the ramp of a sensorless start from standstill at instant 0, with its flux at the nominal linkage of
0.5 Wb; all else is at its default. -/
def rampsFromStandstill : State :=
  ((atDefaults [(S_AXIS 2, 1), (S_STATE 2, 2), (A_START_MODE 1, 1), (A_START_STAGE 1, 2)]).modSec 2
    (fun c => { c with flux := { c.flux with intA := 1 / 2 } })).modAx 1
    (fun c => { c with start := { c.start with dir := 1, tgt := 50 } })

/-- One second after the command before. -/
def oneSecond : Nat := 4000000000

theorem rampsFromStandstill_quiet :
    (∀ p : Fin 3, (rampsFromStandstill.sec 2).flux.vcnt.get p = 0 ∧ (rampsFromStandstill.sec 2).bemf.v.get p = 0) ∧
    ∀ p : Fin 3, (rampsFromStandstill.hb (hbOf 2 p)).cur = 0 := by decide +kernel

/-- The leak of one update leaves the linkage in its band. -/
theorem rampsFromStandstill_inBand :
    let keep := fluxKeep (rampsFromStandstill.nat (S_OBS_DRIFT (2 : Fin 6)))
    let f := (rampsFromStandstill.sec 2).flux
    linkageInBand rampsFromStandstill 2 (keep * f.intA * (keep * f.intA) + keep * f.intB * (keep * f.intB) / 3) = true := by
  decide +kernel

/-- The axis stands at first, and has passed S_OBS_MIN_FE after one second of the ramp. -/
theorem rampsFromStandstill_speeds :
    ¬ ((rampsFromStandstill.get (S_OBS_MIN_FE (2 : Fin 6)) : Rat) ≤ observedSpeed rampsFromStandstill 2) ∧
    (rampsFromStandstill.get (S_OBS_MIN_FE (2 : Fin 6)) : Rat) ≤ observedSpeed (rampsFromStandstill.at_ oneSecond) 2 := by
  decide +kernel

theorem exec_fluxObserverUpdate_of_on {s : State} (t : Nat) {x : Fin 6} (hOn : On s (31 + x.val)) :
    exec (.fluxObserverUpdate t x) s = .next ((s.at_ t).fluxUpdate x).settle := by
  rw [exec_fluxObserverUpdate, execFluxObserverUpdate, runOn_on (s := s.at_ t) hOn]

/-- The update after one second finds the flux valid. -/
theorem rampsFromStandstill_becomesValid : (((rampsFromStandstill.at_ oneSecond).fluxUpdate 2).sec 2).flux.valid = true := by
  obtain ⟨hcodes, hcur⟩ := rampsFromStandstill_quiet
  obtain ⟨-, hfast⟩ := rampsFromStandstill_speeds
  have hnode : ∀ p, nodeMean (rampsFromStandstill.at_ oneSecond) 2 p = 0 := fun p => nodeMean_of_zero (hcodes p).1 (hcodes p).2
  rw [fluxUpdate_valid, fluxUpdate_mag2_of_quiet hnode hcur]
  exact Bool.and_eq_true_iff.mpr ⟨rampsFromStandstill_inBand, decide_eq_true hfast⟩

/-- Refutes O16: the observer judges S_OBS_MIN_FE by the speed of the axis at the instant of the update (R68), which the ramp has
brought above it, while the statement takes the speed at the command before, here standstill. -/
theorem not_estimateCommands : ¬ Obligations.EstimateCommands := by
  intro h
  obtain ⟨hflux, -⟩ := h
  have hOn : On rampsFromStandstill (31 + (2 : Fin 6).val) := by decide +kernel
  obtain ⟨u, hexec, -, -, -, -, -, hvalid, -⟩ := hflux rampsFromStandstill oneSecond 2 hOn
  obtain ⟨hslow, -⟩ := rampsFromStandstill_speeds
  cases (exec_fluxObserverUpdate_of_on oneSecond hOn).symm.trans hexec
  have hinvalid := hvalid.trans (congrArg (_ && ·) (decide_eq_false hslow))
  rw [settle_sec, rampsFromStandstill_becomesValid, Bool.and_false] at hinvalid
  exact absurd hinvalid (by decide)

end Sys2Proof.Safety

/-! SUPPORT. The sensorless start: what a decided stage and a decided phase of a reference run leave, and the commands that decide
them (R79, R81–R85, R225, R495). -/

namespace Sys2Proof.Safety
open Sys2Proof.Machine Sys2Proof.Machine.Obj

variable {P : Part → Prop} {s u : State}

/-! ### Parts and frames -/

/-- Parts that entering a stage may touch beside A_START_STAGE (R79, R90, R195). -/
def stageParts (a : Fin 4) : List Part := [.raised, .ax a] ++ allSecs.flatMap driveParts ++ allSlots.map .slot

theorem stageParts_subset_startParts (a : Fin 4) : stageParts a ⊆ startParts a := by
  intro p hp
  simp only [stageParts, startParts, List.flatten_cons, List.flatten_nil, List.append_nil, List.mem_append, List.mem_cons,
    List.not_mem_nil, or_false] at hp ⊢
  tauto

theorem driveParts_subset_stageParts (a : Fin 4) (x : Fin 6) : driveParts x ⊆ stageParts a := fun _ hp =>
  List.mem_append_left _ (List.mem_append_right _ (List.mem_flatMap.mpr ⟨x, List.mem_finRange x, hp⟩))

theorem slot_mem_stageParts (a : Fin 4) (k : Fin 48) : Part.slot k ∈ stageParts a :=
  List.mem_append_right _ (List.mem_map_of_mem (List.mem_finRange k))

theorem stage_not_mem_stageParts : ∀ a : Fin 4, Part.obj (A_START_STAGE a) ∉ stageParts a := by decide +kernel

theorem Only.decideStage {a : Fin 4} {st : Nat} (h : Only P s u) (hs : Covers P (startParts a)) : Only P s (u.decideStage a st) :=
  have hstage : ∀ p ∈ stageParts a, P p := fun p hp => hs p (stageParts_subset_startParts a hp)
  have hdrive : ∀ x, ∀ p ∈ driveParts x, P p := fun x p hp => hstage p (driveParts_subset_stageParts a x hp)
  State.decideStage_only h (hs _ (by simp [startParts])) (hstage _ (by simp [stageParts])) (fun k => hstage _ (slot_mem_stageParts a k))
    (fun x p => hdrive x _ (hb_mem_driveParts x p)) (fun x p => hdrive x _ (gate_mem_driveParts x p))
    (fun x => hdrive x _ (sec_mem_driveParts x)) (hstage _ (by simp [stageParts]))

theorem Only.decideRef {a : Fin 4} {p : Nat} (h : Only P s u) (hs : Covers P (startParts a)) : Only P s (u.decideRef a p) :=
  have hstage : ∀ p ∈ stageParts a, P p := fun p hp => hs p (stageParts_subset_startParts a hp)
  have hdrive : ∀ x, ∀ p ∈ driveParts x, P p := fun x p hp => hstage p (driveParts_subset_stageParts a x hp)
  State.decideRef_only h (hstage _ (by simp [stageParts])) (fun k => hstage _ (slot_mem_stageParts a k))
    (fun x p => hdrive x _ (hb_mem_driveParts x p)) (fun x p => hdrive x _ (gate_mem_driveParts x p))
    (fun x => hdrive x _ (sec_mem_driveParts x))

/-! ### Entering a stage -/

/-- From s to v the entry of a stage of axis a is under way: the row of passed checks is over, and of the objects only the edge
currents differ. -/
structure Entering (a : Fin 4) (s v : State) : Prop where
  changes : Only (· ∈ stageParts a) s v
  checks : (v.ax a).start.checks = 0

theorem ax_mem_stageParts (a : Fin 4) : Part.ax a ∈ stageParts a := by simp [stageParts]

theorem Entering.modAx {a : Fin 4} {f : Axis → Axis} {v : State} (h : Entering a s v)
    (hf : ∀ c : Axis, (f c).start.checks = c.start.checks) : Entering a s (v.modAx a f) :=
  ⟨h.changes.modAx (ax_mem_stageParts a), by rw [State.ax_modAx_self, hf, h.checks]⟩

@[simp] theorem drive_ax (s : State) (x : Fin 6) (a : Fin 4) : (s.drive x).ax a = s.ax a :=
  drive_changes s x (.ax a) (by simp [driveParts])

theorem Entering.drives {a : Fin 4} {v : State} (h : Entering a s v) (l : List (Fin 6)) :
    Entering a s (v.each l (fun x v => v.drive x)) :=
  State.each_keeps (Entering a s) _ _ _ (fun x v hv =>
    ⟨hv.changes.drive (fun _ hp => driveParts_subset_stageParts a x hp), by rw [drive_ax, hv.checks]⟩) h

theorem blendPreload_start (s : State) (a : Fin 4) : ((s.blendPreload a).ax a).start = (s.ax a).start := by
  have hslots : ∀ (v : State) (l : List (Fin 48)) (op : HistOp), (v.each l (fun k v => v.histDirect k op)).ax a = v.ax a :=
    fun v l op => State.each_same (·.ax a) l _ v (fun _ _ => rfl)
  unfold State.blendPreload
  dsimp only
  split
  · rw [State.ax_modAx_self]
  · rw [hslots, State.ax_modAx_self]

theorem Entering.blendPreload {a : Fin 4} {v : State} (h : Entering a s v) : Entering a s (v.blendPreload a) :=
  ⟨State.blendPreload_only h.changes (ax_mem_stageParts a) (slot_mem_stageParts a), by rw [blendPreload_start, h.checks]⟩

theorem Entering.jFus {a : Fin 4} {v : State} {detail : Nat} (h : Entering a s v) :
    Entering a s (v.jFus (some a) none 0xFF 0 detail) :=
  ⟨State.jFus_only h.changes (by simp [stageParts]), h.checks⟩

/-- Behind the write of A_START_STAGE, a stage is entered so. -/
theorem entering_enterStageAt (s : State) (a : Fin 4) (st t0 : Nat) :
    Entering a (s.set (A_START_STAGE a) st) (s.enterStageAt a st t0) := by
  unfold State.enterStageAt
  extract_lets old th f s1 s2 ramp up host s3 target d s4 s5
  have h2 : Entering a s1 s2 := ⟨Only.refl.modAx (ax_mem_stageParts a), by simp [s2]⟩
  have h3 : Entering a s1 s3 := by
    simp only [s3]
    split
    · exact h2.modAx (fun _ => rfl)
    · exact h2
  have hramp : ∀ {v : State} (th f tgt : Rat), Entering a s1 v → Entering a s1 (ramp v th f tgt) :=
    fun _ _ _ h => h.modAx (fun _ => rfl)
  have h4 : Entering a s1 s4 := by
    simp only [s4]
    split
    · exact h3.modAx (fun _ => rfl)
    · exact hramp _ _ _ h3
    · split
      · exact hramp _ _ _ h3
      · split
        · exact hramp _ _ _ h3
        · refine hramp _ _ _ ?_
          split
          · exact h3
          · exact h3.modAx (fun _ => rfl)
    · exact hramp _ _ _ h3
    · exact (hramp _ _ _ h3).blendPreload
    · exact h3.modAx (fun _ => rfl)
    · exact h3
  have h5 : Entering a s1 s5 := h4.drives _
  change Entering a s1 _
  clear_value s5 s4 s1 old
  split
  · exact h5.jFus
  · exact h5.jFus
  · exact h5.jFus
  · exact h5.jFus
  · exact h5.jFus
  · exact h5

@[simp] theorem enterStage_stage (s : State) (a : Fin 4) (st : Nat) : (s.enterStage a st).get (A_START_STAGE a) = st :=
  ((entering_enterStageAt s a st s.now).changes (.obj (A_START_STAGE a)) (stage_not_mem_stageParts a)).trans (State.get_set_self ..)

/-! ### Deciding a stage -/

theorem decided_none_of_inStage {a : Fin 4} {st : Nat} (h : inStage s a st = true) : (s.ax a).start.decided = none := by
  simp only [inStage, Bool.and_eq_true, Option.isNone_iff_eq_none] at h
  exact h.2

/-- A stage is decided as R79 and R495 give, where no other is on its way. -/
theorem decides_decideStage {a : Fin 4} (st : Nat) (hnone : (s.ax a).start.decided = none) : Decides s (s.decideStage a st) a st := by
  unfold Decides State.decideStage
  simp only [Bool.and_eq_true, decide_eq_true_eq]
  refine ⟨fun hlocal => ?_, fun hcascade => ?_⟩
  · simp only [hlocal, Bool.not_false, if_true, enterStage_stage]
  · simp [hcascade, hnone]

theorem shownKey_stage (a : Fin 4) : shownKey (A_START_STAGE a) = false := by
  revert a
  decide

@[simp] theorem settle_ax (s : State) (a : Fin 4) : s.settle.ax a = s.ax a := by
  simp only [State.ax, State.settle_axes]

@[simp] theorem settle_stage (s : State) (a : Fin 4) : s.settle.get (A_START_STAGE a) = s.get (A_START_STAGE a) :=
  State.settle_get s (shownKey_stage a)

theorem Decides.settle {a : Fin 4} {st : Nat} (h : Decides s u a st) : Decides s u.settle a st := by
  unfold Decides at *
  rwa [settle_stage, settle_ax]

/-- What a command leaves that does nothing but decide a stage. -/
theorem yields_of_decideStage {c : Instr} (t : Nat) {a : Fin 4} {st : Nat}
    (hexec : exec c s = .next ((s.at_ t).decideStage a st).settle) (hnone : (s.ax a).start.decided = none) :
    Yields c s (fun u => Decides s u a st ∧ Frame (· ∈ startParts a) s u) :=
  ⟨_, hexec, (decides_decideStage (s := s.at_ t) st hnone).settle, (Only.begins.decideStage (fun _ hp => .inl hp)).ends⟩

/-! ### The counts of passed checks -/

/-- The row of passed checks of Confirm reads n (R83). -/
def withChecks (s : State) (a : Fin 4) (n : Nat) : State :=
  s.modAx a (fun c => { c with start := { c.start with checks := n } })

/-- The row of passed checks of Coast reads n (R84). -/
def withCoast (s : State) (a : Fin 4) (n : Nat) : State :=
  s.modAx a (fun c => { c with start := { c.start with coast := n } })

@[simp] theorem withChecks_ax (s : State) (a : Fin 4) (n : Nat) :
    (withChecks s a n).ax a = { s.ax a with start := { (s.ax a).start with checks := n } } := State.ax_modAx_self ..

@[simp] theorem withCoast_ax (s : State) (a : Fin 4) (n : Nat) :
    (withCoast s a n).ax a = { s.ax a with start := { (s.ax a).start with coast := n } } := State.ax_modAx_self ..

@[simp] theorem withChecks_get (s : State) (a : Fin 4) (n k : Nat) : (withChecks s a n).get k = s.get k := rfl
@[simp] theorem withCoast_get (s : State) (a : Fin 4) (n k : Nat) : (withCoast s a n).get k = s.get k := rfl

/-- Whether an axis takes part in a cascade axis does not hang on its start sequence. -/
theorem onCascade_modAx {a : Fin 4} {f : Axis → Axis} (h : (f (s.ax a)).devs = (s.ax a).devs) :
    onCascade (s.modAx a f) a = onCascade s a := by
  unfold onCascade cascadeOf
  rw [State.ax_modAx_self, h]
  rfl

theorem decides_of_modAx {a : Fin 4} {st : Nat} {f : Axis → Axis} (hdevs : (f (s.ax a)).devs = (s.ax a).devs)
    (hsafe : (f (s.ax a)).safe = (s.ax a).safe) (h : Decides (s.modAx a f) u a st) : Decides s u a st := by
  unfold Decides at *
  rwa [onCascade_modAx hdevs, State.ax_modAx_self, hsafe] at h

theorem decideStage_checks {a : Fin 4} {st : Nat} (h : (s.ax a).start.checks = 0) : ((s.decideStage a st).ax a).start.checks = 0 := by
  unfold State.decideStage
  dsimp only
  split
  · exact (entering_enterStageAt ..).checks
  · split
    · exact h
    · rw [State.ax_modAx_self]
      exact h

/-! ### The commands of the start sequence -/

/-- Align ends in Ramp (R81). -/
theorem alignEnd_decides {s : State} (t : Nat) {a : Fin 4} (hOn : On s islFusion) (hin : inStage s a 1 = true)
    (href : (s.ax a).start.refPhase ≠ 1) (hpast : stagePast (s.at_ t) a (s.nat (A_ALIGN_TIME a)) = true) :
    Yields (.alignEnd t a) s (fun u => Decides s u a 2 ∧ Frame (· ∈ startParts a) s u) := by
  refine yields_of_decideStage t ?_ (decided_none_of_inStage hin)
  have hin' : inStage (s.at_ t) a 1 = true := hin
  rw [exec_alignEnd, execAlignEnd, runOn_on (s := s.at_ t) hOn]
  simp only [State.atTime_nat, hpast, if_true, hin']
  rw [if_neg (fun h => href h.1)]

/-- The hand-over speed of the ramp decides Confirm (R82). -/
theorem rampHandoverSpeed_decides {s : State} (t : Nat) {a : Fin 4} (hOn : On s islFusion) (hin : inStage s a 2 = true)
    (hdir : 0 < rampSpeed (s.at_ t) a * (s.ax a).start.tgt) (hfast : (s.get (A_HO_SPEED_UP a) : Rat) ≤ absR (rampSpeed (s.at_ t) a)) :
    Yields (.rampHandoverSpeed t a) s (fun u => Decides s u a 3 ∧ Frame (· ∈ startParts a) s u) := by
  refine yields_of_decideStage t ?_ (decided_none_of_inStage hin)
  rw [exec_rampHandoverSpeed, execRampHandoverSpeed, runOn_on (s := s.at_ t) hOn]
  exact congrArg (fun v => Host.Outcome.next (State.settle v)) (if_pos ⟨hin, hdir, hfast⟩)

/-- The time limit of Confirm decides Failed (R83). -/
theorem handoverTimeout_decides {s : State} (t : Nat) {a : Fin 4} (hOn : On s islFusion) (hin : inStage s a 3 = true)
    (hpast : stagePast (s.at_ t) a (s.nat (A_HO_TIMEOUT a)) = true) :
    Yields (.handoverTimeout t a) s (fun u => Decides s u a 7 ∧ Frame (· ∈ startParts a) s u) := by
  refine yields_of_decideStage t ?_ (decided_none_of_inStage hin)
  rw [exec_handoverTimeout, execHandoverTimeout, runOn_on (s := s.at_ t) hOn]
  exact congrArg (fun v => Host.Outcome.next (State.settle v)) (if_pos ⟨hin, hpast⟩)

/-- The end of the blend decides Running (R83). -/
theorem blendEnd_decides {s : State} (t : Nat) {a : Fin 4} (hOn : On s islFusion) (hin : inStage s a 4 = true)
    (hpast : stagePast (s.at_ t) a (s.nat (A_HO_BLEND a)) = true) :
    Yields (.blendEnd t a) s (fun u => Decides s u a 5 ∧ Frame (· ∈ startParts a) s u) := by
  refine yields_of_decideStage t ?_ (decided_none_of_inStage hin)
  rw [exec_blendEnd, execBlendEnd, runOn_on (s := s.at_ t) hOn]
  exact congrArg (fun v => Host.Outcome.next (State.settle v)) (if_pos ⟨hin, hpast⟩)

/-- The time limit of Coast decides Idle (R84). -/
theorem coastTimeExpiry_decides {s : State} (t : Nat) {a : Fin 4} (hOn : On s islFusion) (hin : inStage s a 6 = true)
    (hpast : stagePast (s.at_ t) a (s.nat (A_COAST_TIME a)) = true) :
    Yields (.coastTimeExpiry t a) s (fun u => Decides s u a 0 ∧ Frame (· ∈ startParts a) s u) := by
  refine yields_of_decideStage t ?_ (decided_none_of_inStage hin)
  rw [exec_coastTimeExpiry, execCoastTimeExpiry, runOn_on (s := s.at_ t) hOn]
  exact congrArg (fun v => Host.Outcome.next (State.settle v)) (if_pos ⟨hin, hpast⟩)

/-- Behind a count of checks, a decided stage is decided from the state before it. -/
theorem decides_after_checks {a : Fin 4} {n st : Nat} (hnone : (s.ax a).start.decided = none) :
    Decides s ((withChecks s a n).decideStage a st) a st :=
  decides_of_modAx rfl rfl (decides_decideStage (s := withChecks s a n) st (by simpa using hnone))

theorem decides_after_coast {a : Fin 4} {n st : Nat} (hnone : (s.ax a).start.decided = none) :
    Decides s ((withCoast s a n).decideStage a st) a st :=
  decides_of_modAx rfl rfl (decides_decideStage (s := withCoast s a n) st (by simpa using hnone))

/-- A check of Confirm passes: the estimate is valid and agrees with the ramp within A_HO_SPEED_TOL (R83). -/
abbrev ConfirmPasses (s : State) (a : Fin 4) : Prop :=
  (if onCascade s a then cascadeFresh s a else s.flag (A_FUS_VALID a)) = true ∧
    absR ((s.ax a).fusFe - rampSpeed s a) ≤ s.get (A_HO_SPEED_TOL a)

/-- A check of Confirm with n passes in a row: A_HO_CONFIRM of them decide Blend (R83). -/
def confirmed (s : State) (a : Fin 4) (n : Nat) : State :=
  if s.nat (A_HO_CONFIRM a) ≤ n then (withChecks s a n).decideStage a 4 else withChecks s a n

theorem exec_handoverCheck_of_stage {s : State} (t : Nat) {a : Fin 4} (hOn : On s islFusion) (hin : inStage s a 3 = true) :
    exec (.handoverCheck t a) s =
      .next (confirmed (s.at_ t) a (if ConfirmPasses (s.at_ t) a then (s.ax a).start.checks + 1 else 0)).settle := by
  have hin' : inStage (s.at_ t) a 3 = true := hin
  rw [exec_handoverCheck, execHandoverCheck, runOn_on (s := s.at_ t) hOn, if_pos hin']
  simp only [confirmed, ConfirmPasses, Bool.and_eq_true, decide_eq_true_eq]
  rfl

theorem confirmed_changes (s : State) (a : Fin 4) (n : Nat) : Only (· ∈ startParts a) s (confirmed s a n) := by
  have hchecks : Only (· ∈ startParts a) s (withChecks s a n) := Only.refl.modAx (by simp [startParts])
  exact Only.ite (fun _ => hchecks.decideStage (fun _ hp => hp)) (fun _ => hchecks)

/-- A row of A_HO_CONFIRM passes decides Blend (R83). -/
theorem confirmed_of_row {a : Fin 4} {n : Nat} (hnone : (s.ax a).start.decided = none) (hrow : s.nat (A_HO_CONFIRM a) ≤ n) :
    Decides s (confirmed s a n) a 4 := by
  rw [confirmed, if_pos hrow]
  exact decides_after_checks hnone

theorem confirmed_of_short {a : Fin 4} {n : Nat} (hshort : ¬ s.nat (A_HO_CONFIRM a) ≤ n) : confirmed s a n = withChecks s a n :=
  if_neg hshort

/-- A check that fails ends the row, also where A_HO_CONFIRM is 0. -/
theorem confirmed_zero_checks (s : State) (a : Fin 4) : ((confirmed s a 0).ax a).start.checks = 0 := by
  unfold confirmed
  split
  · exact decideStage_checks (by simp)
  · simp

/-- One check of Confirm (R83). -/
theorem handoverCheck_counts {s : State} (t : Nat) {a : Fin 4} (hOn : On s islFusion) (hin : inStage s a 3 = true) :
    Yields (.handoverCheck t a) s (fun u =>
      (if ConfirmPasses (s.at_ t) a then
        (if s.nat (A_HO_CONFIRM a) ≤ (s.ax a).start.checks + 1 then Decides s u a 4
        else (u.ax a).start.checks = (s.ax a).start.checks + 1 ∧ u.get (A_START_STAGE a) = s.get (A_START_STAGE a))
      else (u.ax a).start.checks = 0 ∧
        (0 < s.nat (A_HO_CONFIRM a) → u.get (A_START_STAGE a) = s.get (A_START_STAGE a) ∧ (u.ax a).start.decided = none)) ∧
      Frame (· ∈ startParts a) s u) := by
  have hnone : ((s.at_ t).ax a).start.decided = none := decided_none_of_inStage hin
  refine ⟨_, exec_handoverCheck_of_stage t hOn hin, ?_, (Only.begins.trans ((confirmed_changes _ a _).mono fun _ => .inl)).ends⟩
  by_cases hpass : ConfirmPasses (s.at_ t) a
  · rw [if_pos hpass, if_pos hpass]
    by_cases hrow : s.nat (A_HO_CONFIRM a) ≤ (s.ax a).start.checks + 1
    · rw [if_pos hrow]
      exact (confirmed_of_row hnone hrow).settle
    · rw [if_neg hrow, confirmed_of_short (s := s.at_ t) hrow]
      simp
  · rw [if_neg hpass, if_neg hpass, settle_ax, settle_stage]
    refine ⟨confirmed_zero_checks _ a, fun hsome => ?_⟩
    rw [confirmed_of_short (s := s.at_ t) (Nat.not_le.mpr hsome), withChecks_ax]
    exact ⟨rfl, hnone⟩

/-- A check of Coast passes: the estimate is valid and at A_HO_SPEED_DN or above (R84). -/
abbrev CoastPasses (s : State) (a : Fin 4) : Prop :=
  s.flag (A_FUS_VALID a) = true ∧ (s.get (A_HO_SPEED_DN a) : Rat) ≤ absR (s.ax a).fusFe

/-- A check of Coast with n passes in a row: eight of them decide Running (R84). -/
def coasted (s : State) (a : Fin 4) (n : Nat) : State :=
  if 8 ≤ n then (withCoast s a n).decideStage a 5 else withCoast s a n

theorem exec_coastRecovery_of_stage {s : State} (t : Nat) {a : Fin 4} (hOn : On s islFusion) (hin : inStage s a 6 = true) :
    exec (.coastRecovery t a) s = .next (coasted (s.at_ t) a (if CoastPasses s a then (s.ax a).start.coast + 1 else 0)).settle := by
  have hin' : inStage (s.at_ t) a 6 = true := hin
  rw [exec_coastRecovery, execCoastRecovery, runOn_on (s := s.at_ t) hOn, if_pos hin']
  simp only [coasted, CoastPasses, Bool.and_eq_true, decide_eq_true_eq]
  rfl

theorem coasted_changes (s : State) (a : Fin 4) (n : Nat) : Only (· ∈ startParts a) s (coasted s a n) := by
  have hcoast : Only (· ∈ startParts a) s (withCoast s a n) := Only.refl.modAx (by simp [startParts])
  exact Only.ite (fun _ => hcoast.decideStage (fun _ hp => hp)) (fun _ => hcoast)

theorem coasted_of_row {a : Fin 4} {n : Nat} (hnone : (s.ax a).start.decided = none) (hrow : 8 ≤ n) :
    Decides s (coasted s a n) a 5 := by
  rw [coasted, if_pos hrow]
  exact decides_after_coast hnone

theorem coasted_of_short {a : Fin 4} {n : Nat} (hshort : ¬ 8 ≤ n) : coasted s a n = withCoast s a n := if_neg hshort

/-- One check of Coast (R84). -/
theorem coastRecovery_counts {s : State} (t : Nat) {a : Fin 4} (hOn : On s islFusion) (hin : inStage s a 6 = true) :
    Yields (.coastRecovery t a) s (fun u =>
      (if CoastPasses s a then
        (if 8 ≤ (s.ax a).start.coast + 1 then Decides s u a 5
        else (u.ax a).start.coast = (s.ax a).start.coast + 1 ∧ u.get (A_START_STAGE a) = s.get (A_START_STAGE a))
      else (u.ax a).start.coast = 0 ∧ u.get (A_START_STAGE a) = s.get (A_START_STAGE a)) ∧
      Frame (· ∈ startParts a) s u) := by
  have hnone : ((s.at_ t).ax a).start.decided = none := decided_none_of_inStage hin
  refine ⟨_, exec_coastRecovery_of_stage t hOn hin, ?_, (Only.begins.trans ((coasted_changes _ a _).mono fun _ => .inl)).ends⟩
  by_cases hpass : CoastPasses s a
  · rw [if_pos hpass, if_pos hpass]
    by_cases hrow : 8 ≤ (s.ax a).start.coast + 1
    · rw [if_pos hrow]
      exact (coasted_of_row hnone hrow).settle
    · rw [if_neg hrow, coasted_of_short hrow]
      simp
  · rw [if_neg hpass, if_neg hpass, coasted_of_short (by decide)]
    simp

/-! ### The retry and the reference run -/

/-- The start demand does not hang on the time while no stop function runs (R80, R190, R266). -/
theorem startDemand_at {a : Fin 4} (t : Nat) (hstop : (s.ax a).safe.stopFn = false) : startDemand (s.at_ t) a = startDemand s a := by
  have hasked : speedAsked (s.at_ t) a = speedAsked s a := by
    have hstop' : ((s.at_ t).ax a).safe.stopFn = false := hstop
    simp only [speedAsked, hstop, hstop']
    rfl
  have href : speedRef (s.at_ t) a = speedRef s a := by
    rw [speedRef, hasked]
    rfl
  have htravel : demandedTravel (s.at_ t) a = demandedTravel s a := by
    rw [demandedTravel, href]
    rfl
  rw [startDemand, href, htravel]
  rfl

/-- A retry of a failed start begins with Align, unless a stop function runs (R85, R495). -/
theorem startRetry_aligns {s : State} (t : Nat) {a : Fin 4} (hOn : On s islFusion) (hin : inStage s a 7 = true)
    (hfails : (s.ax a).start.fails < s.nat (A_START_RETRIES a))
    (hpast : stagePast (s.at_ t) a (s.nat (A_START_RETRY_DELAY a)) = true) (hdemand : startDemand s a ≠ 0) :
    Yields (.startRetry t a) s (fun u =>
      (if (s.ax a).safe.stopFn then u.get (A_START_STAGE a) = s.get (A_START_STAGE a) ∧ u.ax a = s.ax a else Decides s u a 1) ∧
      Frame (· ∈ startParts a) s u) := by
  cases hstop : (s.ax a).safe.stopFn with
  | true =>
    have hidle : exec (.startRetry t a) s = .next (s.at_ t).settle := by
      rw [exec_startRetry, execStartRetry, runOn_on (s := s.at_ t) hOn]
      refine congrArg (fun v => Host.Outcome.next (State.settle v)) (if_neg ?_)
      rintro ⟨-, -, -, -, hgo⟩
      have : (!(s.ax a).safe.stopFn) = true := hgo
      simp [hstop] at this
    exact ⟨_, hidle, by rw [if_pos rfl, settle_stage, settle_ax]; exact ⟨rfl, rfl⟩, Only.begins.ends⟩
  | false =>
    simp only [Bool.false_eq_true, if_false]
    refine yields_of_decideStage t ?_ (decided_none_of_inStage hin)
    rw [exec_startRetry, execStartRetry, runOn_on (s := s.at_ t) hOn]
    refine congrArg (fun v => Host.Outcome.next (State.settle v)) (if_pos ⟨hin, hfails, hpast, ?_, ?_⟩)
    · rwa [startDemand_at t hstop]
    · change (!(s.ax a).safe.stopFn) = true
      rw [hstop]
      rfl

/-- A host on a local axis follows no other (R33, R79). -/
theorem follows_of_local {a : Fin 4} (hlocal : onCascade s a = false) : follows s a = false := by
  have haxis : s.nat (A_CASCADE_AXIS a) = 0xFF := by
    by_contra hne
    simp [onCascade, cascadeOf, hne] at hlocal
  simp [follows, haxis]

/-- The ramp of a reference run begins at A_ALIGN_ANGLE from standstill, towards A_HO_SPEED_UP in the direction of A_DIR (R225). -/
theorem refPhase_ramp {a : Fin 4} (hfollows : follows s a = false) :
    ((s.refPhase a 2).ax a).start.refPhase = 2 ∧ ((s.refPhase a 2).ax a).start.theta0 = s.get (A_ALIGN_ANGLE a) ∧
    ((s.refPhase a 2).ax a).start.f0 = 0 ∧ ((s.refPhase a 2).ax a).start.tgt = (s.get (A_DIR a) : Rat) * s.get (A_HO_SPEED_UP a) := by
  have hdrives : ∀ (v : State) (l : List (Fin 6)), (v.each l (fun x v => v.drive x)).ax a = v.ax a :=
    fun v l => State.each_same (·.ax a) l _ v (fun x v => drive_ax v x a)
  unfold State.refPhase State.refPhaseAt
  simp [hdrives, hfollows, startObj]

/-- Align of a reference run ends in its ramp (R225), on a cascade axis at the start of the second cycle (R79). -/
theorem alignEnd_ramps {s : State} (t : Nat) {a : Fin 4} (hOn : On s islFusion) (href : (s.ax a).start.refPhase = 1)
    (hdue : (s.ax a).start.refDue = none) (hhost : isHost s a = true)
    (hpast : stagePast (s.at_ t) a (s.nat (A_ALIGN_TIME a)) = true) :
    Yields (.alignEnd t a) s (fun u =>
      (if onCascade s a then (u.ax a).start.refDue = some (2, 2)
      else (u.ax a).start.refPhase = 2 ∧ (u.ax a).start.theta0 = s.get (A_ALIGN_ANGLE a) ∧ (u.ax a).start.f0 = 0 ∧
        (u.ax a).start.tgt = (s.get (A_DIR a) : Rat) * s.get (A_HO_SPEED_UP a)) ∧ Frame (· ∈ startParts a) s u) := by
  have hexec : exec (.alignEnd t a) s = .next ((s.at_ t).decideRef a 2).settle := by
    rw [exec_alignEnd, execAlignEnd, runOn_on (s := s.at_ t) hOn]
    refine congrArg (fun v => Host.Outcome.next (State.settle v)) ((if_pos hpast).trans (if_pos ⟨href, ?_, hhost⟩))
    exact Option.isNone_iff_eq_none.mpr hdue
  refine ⟨_, hexec, ?_, (Only.begins.decideRef (fun _ hp => .inl hp)).ends⟩
  rw [settle_ax]
  cases hcascade : onCascade s a with
  | true =>
    have hcascade' : onCascade (s.at_ t) a = true := hcascade
    simp [State.decideRef, hcascade']
  | false =>
    have hcascade' : onCascade (s.at_ t) a = false := hcascade
    simp only [State.decideRef, hcascade', Bool.not_false, if_true, Bool.false_eq_true, if_false]
    exact refPhase_ramp (follows_of_local hcascade')

/-- Settles O17: each command of the start decides its stage, counts its check or begins its phase, and touches nothing else. -/
theorem startCommands : Obligations.StartCommands :=
  ⟨fun _ t _ hOn hin href hpast => alignEnd_decides t hOn hin href hpast,
    fun _ t _ hOn href hdue hhost hpast => alignEnd_ramps t hOn href hdue hhost hpast,
    fun _ t _ hOn hin hdir hfast => rampHandoverSpeed_decides t hOn hin hdir hfast,
    fun _ t _ hOn hin => handoverCheck_counts t hOn hin,
    fun _ t _ hOn hin hpast => handoverTimeout_decides t hOn hin hpast,
    fun _ t _ hOn hin hpast => blendEnd_decides t hOn hin hpast,
    fun _ t _ hOn hin => coastRecovery_counts t hOn hin,
    fun _ t _ hOn hin hpast => coastTimeExpiry_decides t hOn hin hpast,
    fun _ t _ hOn hin hfails hpast hdemand => startRetry_aligns t hOn hin hfails hpast hdemand⟩

end Sys2Proof.Safety

/-! SUPPORT. Conversions of the ADCs and comparators: what the reactions of Quench never undo (a held conversion, a phase current,
a switch that is off, a latch), and the commands of the converters (R64, R128, R129, R145, R148, R153, R439). -/

namespace Sys2Proof.Safety
open Sys2Proof.Machine Sys2Proof.Machine.Obj

variable {P : Part → Prop} {s u : State}

/-! ### What the reactions of Quench leave -/

/-- What a voltage conversion leaves in its section: the codes, their instants and the sums of the flux observer (R64, R68). -/
def readings (c : Sec) := (c.bemf.v, c.bemf.vAt, c.flux)

/-- From h to g the phase current stands, and no switch has been turned on. -/
def Rests (h g : Hb) : Prop := g.cur = h.cur ∧ (h.hi.on = false → g.hi.on = false) ∧ (h.lo.on = false → g.lo.on = false)

theorem Rests.refl {h : Hb} : Rests h h := ⟨rfl, id, id⟩

theorem Rests.trans {h g f : Hb} (hg : Rests h g) (gf : Rests g f) : Rests h f :=
  ⟨gf.1.trans hg.1, gf.2.1 ∘ hg.2.1, gf.2.2 ∘ hg.2.2⟩

/-- From s to u the readings and the phase currents stand, and no switch has been turned on. -/
structure Steady (s u : State) : Prop where
  rests : ∀ n, Rests (s.hb n) (u.hb n)
  readings : ∀ y, readings (u.sec y) = readings (s.sec y)

theorem Steady.refl : Steady s s := ⟨fun _ => .refl, fun _ => rfl⟩

theorem Steady.trans {v : State} (h : Steady s u) (g : Steady u v) : Steady s v :=
  ⟨fun n => (h.rests n).trans (g.rests n), fun y => (g.readings y).trans (h.readings y)⟩

theorem Steady.ite {c : Prop} [Decidable c] {a b : State} (ha : Steady s a) (hb : Steady s b) : Steady s (if c then a else b) := by
  split
  · exact ha
  · exact hb

theorem Steady.each {β : Type} {l : List β} {f : β → State → State} (h : Steady s u)
    (hf : ∀ b v, Steady s v → Steady s (f b v)) : Steady s (u.each l f) :=
  State.each_keeps (Steady s) l f u hf h

theorem Steady.modHb {n : Fin 18} {f : Hb → Hb} (h : Steady s u) (hf : ∀ g, Rests g (f g)) : Steady s (u.modHb n f) where
  rests m := by
    refine (h.rests m).trans ?_
    by_cases hm : m = n
    · subst hm
      rw [State.hb_modHb_self]
      exact hf _
    · rw [State.hb_modHb_ne _ _ hm]
      exact .refl
  readings := h.readings

theorem Steady.modSec {x : Fin 6} {f : Sec → Sec} (h : Steady s u) (hf : ∀ c, Safety.readings (f c) = Safety.readings c) :
    Steady s (u.modSec x f) where
  rests := h.rests
  readings y := by
    refine Eq.trans ?_ (h.readings y)
    by_cases hy : y = x
    · subst hy
      rw [State.sec_modSec_self, hf]
    · rw [State.sec_modSec_ne _ _ hy]

/-- Every part but the records of half-bridges and sections. -/
def offBridge : Part → Prop
  | .hb _ => False
  | .sec _ => False
  | _ => True

/-- What touches no record of a half-bridge or section leaves them. -/
theorem Steady.only {v : State} (h : Steady s u) (hv : Only offBridge u v) : Steady s v :=
  h.trans ⟨fun n => by rw [show v.hb n = u.hb n from hv (.hb n) id]; exact .refl,
    fun y => congrArg Safety.readings (show v.sec y = u.sec y from hv (.sec y) id)⟩

theorem Steady.set {k : Nat} {w : Int} (h : Steady s u) : Steady s (u.set k w) := ⟨h.rests, h.readings⟩

/-! The switches: what turns a switch off or commands it on turns none on, for a turn-on waits for its release (R125). -/

theorem Steady.expect {n : Fin 18} (h : Steady s u) : Steady s (u.expect n) := .modHb h (fun _ => .refl)

theorem Steady.noteEdge {n : Fin 18} {code : Nat} (h : Steady s u) : Steady s (u.noteEdge n code) := .modSec (.set h) (fun _ => rfl)

theorem Rests.setPin_off {g : Hb} {high : Bool} {p : GatePin} (hp : p.on = false) : Rests g (g.setPin high p) := by
  cases high
  · exact ⟨rfl, id, fun _ => hp⟩
  · exact ⟨rfl, fun _ => hp, id⟩

theorem Steady.issueOff {n : Fin 18} {high : Bool} {code : Nat} {m : Bool} (h : Steady s u) :
    Steady s (u.issueOff n high code m) :=
  .ite (.expect (.noteEdge (.modHb h (fun _ => .setPin_off rfl)))) h

theorem Steady.cancelOn {n : Fin 18} {high : Bool} (h : Steady s u) : Steady s (u.cancelOn n high) := by
  refine .modHb h (fun g => ?_)
  split
  · split
    · exact .refl
    · exact .refl
  · exact .refl

theorem Steady.commandOn {n : Fin 18} {high : Bool} (h : Steady s u) : Steady s (u.commandOn n high) := by
  unfold State.commandOn
  refine .ite h ?_
  split
  · exact .ite h (.modHb h (fun _ => .refl))
  · exact .modHb h (fun _ => .refl)

theorem Steady.toOff {n : Fin 18} {high : Bool} (h : Steady s u) : Steady s (u.toOff n high) := .issueOff (.cancelOn h)

theorem Steady.driveHb {n : Fin 18} (h : Steady s u) : Steady s (u.driveHb n) := by
  unfold State.driveHb
  extract_lets d hi lo
  split
  · have hlo : Steady s lo := .ite (.ite h (.toOff h)) (.toOff (.ite h (.toOff h)))
    exact .ite (.commandOn hlo) (.ite (.commandOn hlo) hlo)
  · exact h

theorem Steady.cutOnTime {x : Fin 6} (h : Steady s u) : Steady s (u.cutOnTime x) := .ite h (.modSec h (fun _ => rfl))

theorem Steady.drive {x : Fin 6} (h : Steady s u) : Steady s (u.drive x) := .cutOnTime (.each h (fun _ _ hv => .driveHb hv))

theorem Steady.endOnTime {x : Fin 6} (h : Steady s u) : Steady s (u.endOnTime x) := .drive (.modSec h (fun _ => rfl))

theorem Steady.allOff {x : Fin 6} (h : Steady s u) : Steady s (u.allOff x) :=
  .each h (fun _ _ hv => .ite (.toOff (.toOff hv)) (.toOff hv))

theorem Steady.refreshDone {n : Fin 18} (h : Steady s u) : Steady s (u.refreshDone n) := by
  unfold State.refreshDone
  exact .modHb (.set h) (fun _ => .refl)

theorem Steady.endWaits {n : Fin 18} (h : Steady s u) : Steady s (u.endWaits n) := by
  unfold State.endWaits
  exact .modSec (.modHb (.ite h (.refreshDone h)) (fun _ => .refl)) (fun _ => rfl)

theorem Steady.dropPulse {n : Fin 18} (h : Steady s u) : Steady s (u.dropPulse n) := .ite (.refreshDone (.cancelOn h)) h

/-! The levels of Quench (R148–R158). -/

theorem Steady.recount (h : Steady s u) : Steady s u.recount :=
  h.only (State.recount_only .refl (fun _ => trivial) (fun _ => trivial) (fun _ => trivial) trivial (fun _ => trivial))

theorem Steady.setSecState {x : Fin 6} {v : Nat} (h : Steady s u) : Steady s (u.setSecState x v) := by
  unfold State.setSecState
  extract_lets old s1 s2 s3
  have h2 : Steady s s2 := .ite (.set h) (.set (.set h))
  have h3 : Steady s s3 := .ite (.modSec (.set (.set h2)) (fun _ => rfl)) (.ite (.modSec (.set h2) (fun _ => rfl)) h2)
  exact .ite (.set h3) h3

theorem Steady.joinFail {x : Fin 6} (h : Steady s u) : Steady s (u.joinFail x) := by
  unfold State.joinFail
  extract_lets s1 s2
  have h1 : Steady s s1 := .set h
  have h2 : Steady s s2 := .ite (.modSec (.each h1 (fun _ _ hv => .dropPulse hv)) (fun _ => rfl)) (.setSecState (.allOff h1))
  exact .recount (h2.only (State.jSeq_only .refl trivial))

theorem Steady.quenchHb {n : Fin 18} {cause : Nat} (h : Steady s u) : Steady s (u.quenchHb n cause) := by
  unfold State.quenchHb
  extract_lets soft codeH codeL chops s1
  have h1 : Steady s s1 := .modHb (.issueOff (.issueOff (.endWaits h))) (fun _ => .refl)
  exact .modSec h1 (fun _ => rfl)

theorem Steady.tripHb {n : Fin 18} {cause : Nat} (h : Steady s u) : Steady s (u.tripHb n cause) := by
  unfold State.tripHb
  extract_lets x again s1 s2
  have h2 : Steady s s2 := .set (.set (.quenchHb h))
  exact .ite h2 (.set (.set (.modHb h2 (fun _ => .refl))))

theorem Steady.isolateQuiet {x : Fin 6} (h : Steady s u) : Steady s (u.isolateQuiet x) := by
  unfold State.isolateQuiet
  extract_lets s1 s2
  have h1 : Steady s s1 := .ite h (.modSec h (fun _ => rfl))
  have h2 : Steady s s2 := .each h1 (fun _ _ hv => .quenchHb hv)
  exact .setSecState (.set h2)

theorem Steady.isolateCore {isl : Nat} {x : Fin 6} {detail : Nat} (h : Steady s u) : Steady s (u.isolateCore isl x detail) :=
  h.isolateQuiet.only (State.jSectionAt_only .refl trivial trivial)

theorem Steady.deviceFault {bit detail : Nat} (h : Steady s u) : Steady s (u.deviceFault bit detail) := by
  unfold State.deviceFault
  extract_lets s1 s2
  have h1 : Steady s s1 := .each h (fun _ _ hv => .quenchHb hv)
  have h2 : Steady s s2 := .each h1 (fun _ _ hv => .ite (.isolateCore hv) (.ite (.joinFail hv) hv))
  exact .recount (h2.only (State.jDevice_only (Only.refl.orBits trivial) trivial))

theorem Steady.checkDevice (h : Steady s u) : Steady s u.checkDevice := .ite (.deviceFault h) h

theorem Steady.isolate {x : Fin 6} {detail : Nat} (h : Steady s u) : Steady s (u.isolate x detail) :=
  .ite h (.checkDevice (.recount (.isolateCore h)))

theorem Steady.isolateOne {x : Fin 6} {isl detail src island : Nat} (h : Steady s u) :
    Steady s (u.isolateOne x isl detail src island) := by
  unfold State.isolateOne
  extract_lets s1
  have h1 : Steady s s1 := .modSec h (fun _ => rfl)
  exact .ite h1 (.set (h1.isolateQuiet.recount.only (State.jClock_only .refl trivial)))

theorem Steady.isolateHeld {l : List (Fin 6)} {isl detail src island : Nat} (h : Steady s u) :
    Steady s (u.isolateHeld l isl detail src island) := .checkDevice (.each h (fun _ _ hv => .isolateOne hv))

theorem Steady.selfTestFail {x : Fin 6} {check island value : Nat} (h : Steady s u) :
    Steady s (u.selfTestFail x check island value) :=
  .isolateHeld (h.only (State.jFw_only (Only.refl.inc trivial) trivial))

theorem Steady.sectionOutcome {x : Fin 6} {k : Nat} {p : Fin 3} {detail : Nat} (h : Steady s u) :
    Steady s (u.sectionOutcome x k p detail) :=
  .ite (.ite (.joinFail h) h) (.ite h (.ite (.isolate h) (.ite (.isolate h) (.ite (.modSec h (fun _ => rfl)) (.isolate h)))))

theorem Steady.arrive {sel : Nat} {v : Int} (h : Steady s u) : Steady s (u.arrive sel v) :=
  h.only (State.arrive_only .refl trivial (fun _ => trivial) (fun _ => trivial))

theorem Steady.checkNode {x : Fin 6} {p : Fin 3} {v : Nat} (h : Steady s u) : Steady s (u.checkNode x p v) := by
  unfold State.checkNode
  extract_lets n lv blank settled d k s1
  have h1 : Steady s s1 := .modHb h (fun _ => .refl)
  exact .ite h (.ite (.selfTestFail h1) h1)

theorem Steady.checkSum {x : Fin 6} {sum : Int} (h : Steady s u) : Steady s (u.checkSum x sum) := by
  unfold State.checkSum
  extract_lets st b past k s1
  have h1 : Steady s s1 := .modSec h (fun _ => rfl)
  exact .ite h (.ite (.selfTestFail h1) h1)
/-! ### Latches and causes (R145, R148) -/

theorem bitOf_eq_testBit (v i : Nat) : bitOf v i = v.testBit i := (Nat.testBit_eq_decide_div_mod_eq).symm

/-- No latch and no cause bit of s is gone in u. -/
structure Remembers (s u : State) : Prop where
  latches : ∀ (x : Fin 6) (i : Nat), bitOf (s.nat (S_Q_LATCH x)) i = true → bitOf (u.nat (S_Q_LATCH x)) i = true
  causes : ∀ (n : Fin 18) (c : Nat), s.nat (S_Q_CAUSE n) &&& c = c → u.nat (S_Q_CAUSE n) &&& c = c

theorem Remembers.trans {v : State} (h : Remembers s u) (g : Remembers u v) : Remembers s v :=
  ⟨fun x i hb => g.latches x i (h.latches x i hb), fun n c hc => g.causes n c (h.causes n c hc)⟩

theorem Remembers.of_only (h : Only P s u) (hl : ∀ x : Fin 6, ¬ P (.obj (S_Q_LATCH x))) (hc : ∀ n : Fin 18, ¬ P (.obj (S_Q_CAUSE n))) :
    Remembers s u where
  latches x _ hb := by rwa [State.nat, show u.get (S_Q_LATCH x) = s.get (S_Q_LATCH x) from h (.obj _) (hl x)]
  causes n _ hb := by rwa [State.nat, show u.get (S_Q_CAUSE n) = s.get (S_Q_CAUSE n) from h (.obj _) (hc n)]

theorem nat_orBits (s : State) (k m j : Nat) : (s.orBits k m).nat j = if j = k then s.nat k ||| m else s.nat j := by
  rw [State.orBits, State.nat_set, Int.toNat_natCast]

theorem or_and_of_and_eq {a m c : Nat} (h : a &&& c = c) : (a ||| m) &&& c = c := by
  refine Nat.eq_of_testBit_eq (fun i => ?_)
  have hi := congrArg (Nat.testBit · i) h
  simp only [Nat.testBit_and, Nat.testBit_or] at hi ⊢
  revert hi
  cases a.testBit i <;> cases c.testBit i <;> simp

theorem Remembers.orBits {k m : Nat} : Remembers s (s.orBits k m) where
  latches x i hb := by
    rw [nat_orBits]
    split
    · next hk => rw [bitOf_eq_testBit, Nat.testBit_or, ← bitOf_eq_testBit, ← hk, hb, Bool.true_or]
    · exact hb
  causes n c hc := by
    rw [nat_orBits]
    split
    · next hk => exact or_and_of_and_eq (hk ▸ hc)
    · exact hc

/-- Parts that a trip of half-bridge n may touch beside its latch and cause (R145, R148). -/
def tripRest (n : Fin 18) : List Part :=
  [.obj S_BLW_ACTIVE, .hb n, .sec (secOf n), .obj (S_GATE_I n), .obj (S_Q_COUNT n), .obj (S_Q_TRIPS (secOf n))]

theorem latch_not_mem_tripRest : ∀ (n : Fin 18) (x : Fin 6), Part.obj (S_Q_LATCH x) ∉ tripRest n := by decide +kernel
theorem cause_not_mem_tripRest : ∀ n m : Fin 18, Part.obj (S_Q_CAUSE m) ∉ tripRest n := by decide +kernel

theorem latch_ne_cause : ∀ (x : Fin 6) (n : Fin 18), S_Q_LATCH x ≠ S_Q_CAUSE n := by decide

theorem remembers_of_tripRest {n : Fin 18} (h : Only (· ∈ tripRest n) s u) : Remembers s u :=
  .of_only h (latch_not_mem_tripRest n) (cause_not_mem_tripRest n)

/-- The half-bridge n quenched, latched and with the cause bits c set. -/
def caused (s : State) (n : Fin 18) (c : Nat) : State :=
  ((s.quenchHb n c).orBits (S_Q_LATCH (secOf n)) (2 ^ (phaseOf n).val)).orBits (S_Q_CAUSE n) c

/-- Behind its latch and cause a trip counts, at most. -/
theorem tripHb_changes (s : State) (n : Fin 18) (c : Nat) : Only (· ∈ tripRest n) (caused s n c) (s.tripHb n c) :=
  .ite (fun _ => .refl) (fun _ => ((Only.refl.modHb (by simp [tripRest])).inc (by simp [tripRest])).inc (by simp [tripRest]))

theorem remembers_tripHb (s : State) (n : Fin 18) (c : Nat) : Remembers s (s.tripHb n c) :=
  have hq : Only (· ∈ tripRest n) s (s.quenchHb n c) :=
    State.quenchHb_only .refl (by simp [tripRest]) (by simp [tripRest]) (by simp [tripRest]) (by simp [tripRest])
  (remembers_of_tripRest hq).trans (Remembers.orBits.trans (Remembers.orBits.trans (remembers_of_tripRest (tripHb_changes s n c))))

/-! ### A half-bridge that has tripped -/

theorem Rests.pin {h g : Hb} (hg : Rests h g) {high : Bool} (hoff : (h.pin high).on = false) : (g.pin high).on = false := by
  cases high
  · exact hg.2.2 hoff
  · exact hg.2.1 hoff

theorem issueOff_off (s : State) (n : Fin 18) (high : Bool) (code : Nat) (m : Bool) :
    (((s.issueOff n high code m).hb n).pin high).on = false := by
  unfold State.issueOff
  split
  · extract_lets s1
    have hpin : ((s1.hb n).pin high).on = false := by
      rw [State.hb_modHb_self]
      cases high
      · rfl
      · rfl
    exact ((Steady.refl.noteEdge.expect).rests n).pin hpin
  · next h => exact Bool.eq_false_iff.mpr h

/-- Both switches of half-bridge n are off. -/
def BothOff (s : State) (n : Fin 18) : Prop := (s.hb n).hi.on = false ∧ (s.hb n).lo.on = false

theorem BothOff.steady {n : Fin 18} (h : BothOff s n) (hu : Steady s u) : BothOff u n :=
  ⟨(hu.rests n).2.1 h.1, (hu.rests n).2.2 h.2⟩

theorem bothOff_quenchHb (s : State) (n : Fin 18) (c : Nat) : BothOff (s.quenchHb n c) n := by
  unfold State.quenchHb
  extract_lets soft codeH codeL chops s1
  let h := (s.endWaits n).issueOff n true codeH false
  have hoff : BothOff (h.issueOff n false codeL false) n :=
    ⟨((Steady.refl.issueOff (s := h)).rests n).2.1 (issueOff_off _ n true codeH false), issueOff_off h n false codeL false⟩
  have hlast : Steady (h.issueOff n false codeL false) s1 := .modHb .refl (fun _ => .refl)
  exact hoff.steady (.modSec hlast (fun _ => rfl))

theorem tripped_iff {n : Fin 18} {c : Nat} :
    Tripped s n c ↔ latched s n = true ∧ s.nat (S_Q_CAUSE n) &&& c = c ∧ BothOff s n := Iff.rfl

/-- What turns no switch on and forgets no latch and no cause leaves a tripped half-bridge tripped. -/
theorem Tripped.keeps {n : Fin 18} {c : Nat} (h : Tripped s n c) (hs : Steady s u) (hr : Remembers s u) : Tripped u n c := by
  obtain ⟨hlatch, hcause, hoff⟩ := tripped_iff.mp h
  exact tripped_iff.mpr ⟨hr.latches _ _ hlatch, hr.causes n c hcause, hoff.steady hs⟩

theorem tripped_caused (s : State) (n : Fin 18) (c : Nat) : Tripped (caused s n c) n c := by
  refine tripped_iff.mpr ⟨?_, ?_, (bothOff_quenchHb s n c).steady (.set (.set .refl))⟩
  · rw [latched, caused, nat_orBits, if_neg (latch_ne_cause _ n), nat_orBits, if_pos rfl, bitOf_eq_testBit, Nat.testBit_or,
      Nat.testBit_two_pow_self, Bool.or_true]
  · rw [caused, nat_orBits, if_pos rfl, Nat.or_comm]
    exact or_and_of_and_eq (Nat.and_self c)

theorem steady_caused (s : State) (n : Fin 18) (c : Nat) : Steady (caused s n c) (s.tripHb n c) :=
  .ite .refl (.set (.set (.modHb .refl (fun _ => .refl))))

theorem tripped_tripHb (s : State) (n : Fin 18) (c : Nat) : Tripped (s.tripHb n c) n c :=
  (tripped_caused s n c).keeps (steady_caused s n c) (remembers_of_tripRest (tripHb_changes s n c))

theorem Tripped.tripHb {n m : Fin 18} {c d : Nat} (h : Tripped s n c) : Tripped (s.tripHb m d) n c :=
  h.keeps Steady.refl.tripHb (remembers_tripHb s m d)

/-- Every half-bridge of the list trips with its cause. -/
theorem tripped_each {x : Fin 6} {l : List (Fin 3 × Nat)} {pc : Fin 3 × Nat} (h : pc ∈ l) (s : State) :
    Tripped (s.each l (fun pc v => v.tripHb (hbOf x pc.1) pc.2)) (hbOf x pc.1) pc.2 := by
  induction l generalizing s with
  | nil => simp at h
  | cons b r ih =>
    rcases List.mem_cons.mp h with rfl | hr
    · exact State.each_keeps (Tripped · _ _) r _ _ (fun _ _ hv => hv.tripHb) (tripped_tripHb s _ _)
    · exact ih hr _

/-! ### The parts that isolations and trips may touch -/

theorem bridge_mem_isolateParts : ∀ n : Fin 18, Part.hb n ∈ isolateParts ∧ Part.obj (S_GATE_I n) ∈ isolateParts := by decide +kernel

theorem section_mem_isolateParts : ∀ y : Fin 6, ∀ p ∈ stateParts y ++ [.obj (S_ENABLE y), .obj (S_Q_LAST y)], p ∈ isolateParts := by
  decide +kernel

theorem axis_mem_isolateParts : ∀ a : Fin 4, Part.ax a ∈ isolateParts ∧ Part.obj (A_FAULT_STATE a) ∈ isolateParts := by decide +kernel

theorem device_mem_isolateParts :
    Part.raised ∈ isolateParts ∧ Part.obj S_BLW_ACTIVE ∈ isolateParts ∧ Part.obj S_DEV_FAULT ∈ isolateParts := by decide +kernel

theorem Only.sectionOutcome {x : Fin 6} {k : Nat} {p : Fin 3} {detail : Nat} (h : Only P s u) (hi : Covers P isolateParts)
    (he : Covers P Safety.ends) : Only P s (u.sectionOutcome x k p detail) :=
  have hsec : ∀ (y : Fin 6), ∀ q ∈ stateParts y ++ [.obj (S_ENABLE y), .obj (S_Q_LAST y)], P q :=
    fun y q hq => hi q (section_mem_isolateParts y q hq)
  State.sectionOutcome_only h (hi _ device_mem_isolateParts.2.1) (hi _ device_mem_isolateParts.1)
    (fun a => he _ (axis_counts_mem_ends a).1) (fun a => he _ (axis_counts_mem_ends a).2)
    (fun a => hi _ (axis_mem_isolateParts a).1) (fun a => hi _ (axis_mem_isolateParts a).2)
    (fun n => hi _ (bridge_mem_isolateParts n).1) (fun n => hi _ (bridge_mem_isolateParts n).2)
    (fun y => hsec y _ (by simp [stateParts])) (fun y => hsec y _ (by simp)) (fun y => hsec y _ (by simp [stateParts]))
    (fun y => hsec y _ (by simp [stateParts])) (fun y => hsec y _ (by simp [stateParts])) (fun y => hsec y _ (by simp [stateParts]))
    (fun y => hsec y _ (by simp [stateParts])) (fun y => hsec y _ (by simp)) (hi _ device_mem_isolateParts.2.2)

theorem Only.selfTestFail {x : Fin 6} {check island value : Nat} (h : Only P s u) (hf : P (.obj FW_ST_FAILS))
    (hi : Covers P isolateParts) (he : Covers P Safety.ends) : Only P s (u.selfTestFail x check island value) :=
  have hsec : ∀ (y : Fin 6), ∀ q ∈ stateParts y ++ [.obj (S_ENABLE y), .obj (S_Q_LAST y)], P q :=
    fun y q hq => hi q (section_mem_isolateParts y q hq)
  State.selfTestFail_only h hf (hi _ device_mem_isolateParts.1) (fun y => hsec y _ (by simp [stateParts]))
    (hi _ device_mem_isolateParts.2.1) (fun y => hsec y _ (by simp)) (fun y => hsec y _ (by simp [stateParts]))
    (fun y => hsec y _ (by simp [stateParts])) (fun y => hsec y _ (by simp [stateParts])) (fun y => hsec y _ (by simp [stateParts]))
    (fun y => hsec y _ (by simp [stateParts])) (fun a => he _ (axis_counts_mem_ends a).1)
    (fun a => he _ (axis_counts_mem_ends a).2) (fun a => hi _ (axis_mem_isolateParts a).1)
    (fun a => hi _ (axis_mem_isolateParts a).2) (fun y => hsec y _ (by simp)) (fun n => hi _ (bridge_mem_isolateParts n).1)
    (fun n => hi _ (bridge_mem_isolateParts n).2) (hi _ device_mem_isolateParts.2.2)

theorem isolateParts_subset_tripParts (x : Fin 6) : isolateParts ⊆ tripParts x := by
  intro p hp
  simp [tripParts, hp]

theorem tripRest_subset_tripParts (x : Fin 6) (p : Fin 3) : tripRest (hbOf x p) ⊆ tripParts x := by
  intro q hq
  simp only [tripRest, secOf_hbOf, List.mem_cons, List.not_mem_nil, or_false] at hq
  rcases hq with rfl | rfl | rfl | rfl | rfl | rfl
  · exact isolateParts_subset_tripParts x device_mem_isolateParts.2.1
  · exact isolateParts_subset_tripParts x (bridge_mem_isolateParts _).1
  · exact isolateParts_subset_tripParts x (section_mem_isolateParts x _ (by simp [stateParts]))
  · exact isolateParts_subset_tripParts x (bridge_mem_isolateParts _).2
  · simp only [tripParts, List.flatten_cons, List.mem_append, List.mem_flatMap]
    exact .inr (.inr (.inl ⟨p, mem_phases p, by simp⟩))
  · simp [tripParts]

theorem latch_mem_tripParts (x : Fin 6) : Part.obj (S_Q_LATCH x) ∈ tripParts x := by simp [tripParts]

theorem cause_mem_tripParts (x : Fin 6) (p : Fin 3) : Part.obj (S_Q_CAUSE (hbOf x p)) ∈ tripParts x := by
  simp only [tripParts, List.flatten_cons, List.mem_append, List.mem_flatMap]
  exact .inr (.inr (.inl ⟨p, mem_phases p, List.mem_cons_self⟩))

theorem Only.tripHb {x : Fin 6} {p : Fin 3} {c : Nat} (h : Only P s u) (ht : Covers P (tripParts x)) :
    Only P s (u.tripHb (hbOf x p) c) :=
  have hrest : ∀ q ∈ tripRest (hbOf x p), P q := fun q hq => ht q (tripRest_subset_tripParts x p hq)
  State.tripHb_only h (hrest _ (by simp [tripRest])) (hrest _ (by simp [tripRest])) (hrest _ (by simp [tripRest]))
    (hrest _ (by simp [tripRest])) (by rw [secOf_hbOf]; exact ht _ (latch_mem_tripParts x)) (ht _ (cause_mem_tripParts x p))
    (hrest _ (by simp [tripRest])) (hrest _ (by simp [tripRest]))
/-! ### A trip, and the overcurrent check (R145) -/

/-- The state behind the trips of a list, before the entries and the outcome of the section. -/
def tripEach (s : State) (x : Fin 6) (l : List (Fin 3 × Nat)) : State := s.each l (fun pc v => v.tripHb (hbOf x pc.1) pc.2)

/-- Behind the trips themselves come the entries and the outcome of the section. -/
theorem trip_follows (s : State) (x : Fin 6) (l : List (Fin 3 × Nat)) :
    Steady (tripEach s x l) (s.trip x l) ∧ Only (fun p => p ∈ isolateParts ∨ p ∈ Safety.ends) (tripEach s x l) (s.trip x l) := by
  unfold State.trip
  extract_lets before fresh v
  clear_value fresh
  split
  · exact ⟨.refl, .refl⟩
  · exact ⟨.sectionOutcome (.each .refl (fun _ _ hw => hw.only (State.jSecData_only .refl trivial trivial))),
      .sectionOutcome (.each .refl (fun _ _ hw => State.jSecData_only hw (.inl device_mem_isolateParts.1)
        (.inl (section_mem_isolateParts x _ (by simp))))) (fun _ hp => .inl hp) (fun _ hp => .inr hp)⟩

theorem latch_not_mem_isolateParts : ∀ x : Fin 6, ¬ (Part.obj (S_Q_LATCH x) ∈ isolateParts ∨ Part.obj (S_Q_LATCH x) ∈ Safety.ends) := by
  decide +kernel

theorem cause_not_mem_isolateParts : ∀ n : Fin 18, ¬ (Part.obj (S_Q_CAUSE n) ∈ isolateParts ∨ Part.obj (S_Q_CAUSE n) ∈ Safety.ends) := by
  decide +kernel

/-- Every half-bridge of the list has tripped with its cause, whatever the outcome of the section. -/
theorem tripped_trip {x : Fin 6} {l : List (Fin 3 × Nat)} {pc : Fin 3 × Nat} (h : pc ∈ l) (s : State) :
    Tripped (s.trip x l) (hbOf x pc.1) pc.2 :=
  (tripped_each h s).keeps (trip_follows s x l).1 (.of_only (trip_follows s x l).2 latch_not_mem_isolateParts cause_not_mem_isolateParts)

theorem Steady.trip {x : Fin 6} {l : List (Fin 3 × Nat)} (h : Steady s u) : Steady s (u.trip x l) :=
  .trans (.each h (fun _ _ hv => .tripHb hv)) (trip_follows u x l).1

theorem Only.trip {x : Fin 6} {l : List (Fin 3 × Nat)} (h : Only P s u) (ht : Covers P (tripParts x)) (he : Covers P Safety.ends) :
    Only P s (u.trip x l) :=
  (Only.each h (fun _ _ hv => Only.tripHb hv ht)).trans
    ((trip_follows u x l).2.mono (fun p hp => hp.elim (fun hi => ht p (isolateParts_subset_tripParts x hi)) (he p)))

/-- The conversions beyond ±Ioc of each phase counted. -/
def ocCounted (s : State) (x : Fin 6) : State :=
  s.each phases (fun p s => s.modHb (hbOf x p) (fun h => { h with oc := if beyondIoc s x h.cur then h.oc + 1 else 0 }))

/-- The half-bridges of section x whose currents lie beyond ±Ioc, each with the cause of its sign. -/
def ocBeyond (s : State) (x : Fin 6) : List (Fin 3 × Nat) :=
  (phases.filter (fun p => beyondIoc s x (s.hb (hbOf x p)).cur)).map (fun p =>
    (p, if 0 ≤ (s.hb (hbOf x p)).cur then causeOcPos else causeOcNeg))

/-- A phase counts its conversions beyond ±Ioc, or has passed the confirming one with no overcurrent cause set. -/
def ocConfirmed (s : State) (x : Fin 6) : Bool := phases.any (fun p =>
  decide ((s.hb (hbOf x p)).oc = s.nat (S_OC_CONFIRM x)) ||
    (decide (s.nat (S_OC_CONFIRM x) < (s.hb (hbOf x p)).oc) && decide (s.nat (S_Q_CAUSE (hbOf x p)) &&& 3 = 0)))

theorem overcurrent_eq (s : State) (x : Fin 6) :
    s.overcurrent x = if ocConfirmed (ocCounted s x) x then (ocCounted s x).trip x (ocBeyond (ocCounted s x) x) else ocCounted s x := rfl

theorem hbOf_ne {x : Fin 6} {p q : Fin 3} (h : p ≠ q) : hbOf x p ≠ hbOf x q := by
  simp only [hbOf, ne_eq, Fin.mk.injEq]
  omega

theorem ocCounted_hb (s : State) (x : Fin 6) (p : Fin 3) : (ocCounted s x).hb (hbOf x p) = { s.hb (hbOf x p) with
    oc := if beyondIoc s x (s.hb (hbOf x p)).cur then (s.hb (hbOf x p)).oc + 1 else 0 } := by
  have h01 : hbOf x 0 ≠ hbOf x 1 := hbOf_ne (by decide)
  have h02 : hbOf x 0 ≠ hbOf x 2 := hbOf_ne (by decide)
  have h12 : hbOf x 1 ≠ hbOf x 2 := hbOf_ne (by decide)
  have hfold : ocCounted s x = ((s.modHb (hbOf x 0) (fun h => { h with oc := if beyondIoc s x h.cur then h.oc + 1 else 0 })).modHb
    (hbOf x 1) (fun h => { h with oc := if beyondIoc s x h.cur then h.oc + 1 else 0 })).modHb
    (hbOf x 2) (fun h => { h with oc := if beyondIoc s x h.cur then h.oc + 1 else 0 }) := rfl
  rw [hfold]
  match p with
  | 0 => rw [State.hb_modHb_ne _ _ h02, State.hb_modHb_ne _ _ h01, State.hb_modHb_self]
  | 1 => rw [State.hb_modHb_ne _ _ h12, State.hb_modHb_self, State.hb_modHb_ne _ _ h01.symm]
  | 2 => rw [State.hb_modHb_self, State.hb_modHb_ne _ _ h12.symm, State.hb_modHb_ne _ _ h02.symm]

theorem Steady.ocCounted (h : Steady s u) {x : Fin 6} : Steady s (ocCounted u x) := .each h (fun _ _ hv => .modHb hv (fun _ => .refl))

theorem Steady.overcurrent {x : Fin 6} (h : Steady s u) : Steady s (u.overcurrent x) := by
  rw [overcurrent_eq]
  exact .ite (.trip (.ocCounted h)) (.ocCounted h)

theorem Only.overcurrent {x : Fin 6} (h : Only P s u) (ht : Covers P (tripParts x)) (he : Covers P Safety.ends) :
    Only P s (u.overcurrent x) := by
  have hc : Only P s (ocCounted u x) := Only.each h (fun p _ hv => hv.modHb
    (ht _ (isolateParts_subset_tripParts x (bridge_mem_isolateParts _).1)))
  rw [overcurrent_eq]
  exact .ite (fun _ => .trip hc ht he) (fun _ => hc)

/-- The confirming conversion of a phase beyond ±Ioc trips its half-bridge, with the cause of the sign of its current (R145). -/
theorem tripped_overcurrent {x : Fin 6} {p : Fin 3} (hb : beyondIoc s x (s.hb (hbOf x p)).cur = true)
    (hoc : (s.hb (hbOf x p)).oc + 1 = s.nat (S_OC_CONFIRM x)) :
    Tripped (s.overcurrent x) (hbOf x p) (if 0 ≤ (s.hb (hbOf x p)).cur then causeOcPos else causeOcNeg) := by
  have hp := ocCounted_hb s x p
  rw [if_pos hb, hoc] at hp
  have hconf : ocConfirmed (ocCounted s x) x = true :=
    List.any_eq_true.mpr ⟨p, mem_phases p, by rw [hp]; exact Bool.or_eq_true_iff.mpr (.inl (decide_eq_true rfl))⟩
  have hmem : (p, if 0 ≤ (s.hb (hbOf x p)).cur then causeOcPos else causeOcNeg) ∈ ocBeyond (ocCounted s x) x :=
    List.mem_map.mpr ⟨p, List.mem_filter.mpr ⟨mem_phases p, by rw [hp]; exact hb⟩, by rw [hp]⟩
  rw [overcurrent_eq, if_pos hconf]
  exact tripped_trip hmem _
/-! ### A conversion of the current ADCs (R145, R148, R167) -/

theorem slot_mem_arriveParts (k : Fin 48) : Part.slot k ∈ arriveParts ∧ Part.obj (K_OVERRUN k) ∈ arriveParts := by
  simp [arriveParts, allSlots]

theorem Only.arrive {sel : Nat} {v : Int} (h : Only P s u) (ha : Covers P arriveParts) : Only P s (u.arrive sel v) :=
  State.arrive_only h (ha _ List.mem_cons_self) (fun k => ha _ (slot_mem_arriveParts k).1) (fun k => ha _ (slot_mem_arriveParts k).2)

theorem Only.endOnTime {x : Fin 6} (h : Only P s u) (hd : Covers P (driveParts x)) : Only P s (u.endOnTime x) :=
  Only.drive (h.modPwm (hd _ (sec_mem_driveParts x))) hd

theorem Only.checkSum {x : Fin 6} {sum : Int} (h : Only P s u) (hf : P (.obj FW_ST_FAILS)) (hi : Covers P isolateParts)
    (he : Covers P Safety.ends) : Only P s (u.checkSum x sum) := by
  unfold State.checkSum
  extract_lets st b past k s1
  have h1 : Only P s s1 := h.modSec (hi _ (section_mem_isolateParts x _ (by simp [stateParts])))
  exact .ite (fun _ => h) (fun _ => .ite (fun _ => .selfTestFail h1 hf hi he) (fun _ => h1))

/-- The three phase currents of section x, phase W by Kirchhoff's law. -/
def withCurrents (s : State) (x : Fin 6) (iu iv : Int) : State :=
  ((s.modHb (hbOf x 0) (fun h => { h with cur := iu })).modHb (hbOf x 1) (fun h => { h with cur := iv })).modHb
    (hbOf x 2) (fun h => { h with cur := -(iu + iv) })

/-- What a current conversion does behind the overcurrent check: the check of the sum, the pair current, the locked rotor's limit,
and what its values trigger. -/
def currentRest (s : State) (x : Fin 6) (sum : Int) : State :=
  let s := s.checkSum x sum
  let i := pairOf s x
  let s := s.modSec x (fun c => { c with pairCur := i })
  let s := if lockHolds s x && (s.sec x).pwm.onTime then s.endOnTime x else s
  let s := s.each phases (fun p s => s.arrive (0x3000 + (hbOf x p).val) ((s.hb (hbOf x p)).cur * 262144))
  if pairAccepted s x then
    (s.modSec x (fun c => { c with pairAcc := i, pairSum := c.pairSum + i, pairCnt := c.pairCnt + 1 })).arrive
      (0x2000 + x.val) (i * 262144)
  else s

theorem current_eq (s : State) (x : Fin 6) (iu iv : Int) :
    s.current x iu iv = currentRest ((withCurrents s x iu iv).overcurrent x) x (iu + iv) := by
  unfold State.current currentRest withCurrents
  with_reducible rfl

theorem steady_currentRest (s : State) (x : Fin 6) (sum : Int) : Steady s (currentRest s x sum) := by
  unfold currentRest
  extract_lets s1 i s2 s3 s4
  have h2 : Steady s s2 := .modSec (.checkSum .refl) (fun _ => rfl)
  have h3 : Steady s s3 := .ite (.endOnTime h2) h2
  have h4 : Steady s s4 := .each h3 (fun _ _ hv => .arrive hv)
  exact .ite (.arrive (.modSec h4 (fun _ => rfl))) h4

/-- Parts that a current conversion may touch behind the overcurrent check. -/
def currentParts : List Part := .obj FW_ST_FAILS :: isolateParts ++ arriveParts ++ Safety.ends

theorem driveParts_subset_isolateParts (x : Fin 6) : driveParts x ⊆ isolateParts := by
  intro p hp
  simp only [driveParts, List.mem_cons, List.mem_flatMap, List.not_mem_nil, or_false] at hp
  rcases hp with rfl | ⟨q, -, rfl | rfl⟩
  · exact section_mem_isolateParts x _ (by simp [stateParts])
  · exact (bridge_mem_isolateParts _).1
  · exact (bridge_mem_isolateParts _).2

theorem currentRest_changes (s : State) (x : Fin 6) (sum : Int) : Only (· ∈ currentParts) s (currentRest s x sum) := by
  have hi : Covers (· ∈ currentParts) isolateParts := fun p hp => by simp [currentParts, hp]
  have ha : Covers (· ∈ currentParts) arriveParts := fun p hp => by simp [currentParts, hp]
  have he : Covers (· ∈ currentParts) Safety.ends := fun p hp => by simp [currentParts, hp]
  have hx : Part.sec x ∈ currentParts := hi _ (section_mem_isolateParts x _ (by simp [stateParts]))
  unfold currentRest
  extract_lets s1 i s2 s3 s4
  have h2 : Only (· ∈ currentParts) s s2 := (Only.refl.checkSum (by simp [currentParts]) hi he).modSec hx
  have h3 : Only (· ∈ currentParts) s s3 := .ite (fun _ => h2.endOnTime (fun p hp => hi p (driveParts_subset_isolateParts x hp)))
    (fun _ => h2)
  have h4 : Only (· ∈ currentParts) s s4 := .each h3 (fun _ _ hv => hv.arrive ha)
  exact .ite (fun _ => (h4.modSec hx).arrive ha) (fun _ => h4)

theorem latch_not_mem_currentParts : ∀ x : Fin 6, Part.obj (S_Q_LATCH x) ∉ currentParts := by decide +kernel

theorem cause_not_mem_currentParts : ∀ n : Fin 18, Part.obj (S_Q_CAUSE n) ∉ currentParts := by decide +kernel

theorem withCurrents_cur (s : State) (x : Fin 6) (iu iv : Int) :
    ((withCurrents s x iu iv).hb (hbOf x 0)).cur = iu ∧ ((withCurrents s x iu iv).hb (hbOf x 1)).cur = iv ∧
      ((withCurrents s x iu iv).hb (hbOf x 2)).cur = -(iu + iv) := by
  have h01 : hbOf x 0 ≠ hbOf x 1 := hbOf_ne (by decide)
  have h02 : hbOf x 0 ≠ hbOf x 2 := hbOf_ne (by decide)
  have h12 : hbOf x 1 ≠ hbOf x 2 := hbOf_ne (by decide)
  refine ⟨?_, ?_, ?_⟩
  · rw [withCurrents, State.hb_modHb_ne _ _ h02, State.hb_modHb_ne _ _ h01, State.hb_modHb_self]
  · rw [withCurrents, State.hb_modHb_ne _ _ h12, State.hb_modHb_self]
  · rw [withCurrents, State.hb_modHb_self]

theorem withCurrents_oc (s : State) (x : Fin 6) (iu iv : Int) (n : Fin 18) : ((withCurrents s x iu iv).hb n).oc = (s.hb n).oc := by
  have hmod : ∀ (v : State) (m : Fin 18) (c : Int), ((v.modHb m (fun h => { h with cur := c })).hb n).oc = (v.hb n).oc := by
    intro v m c
    by_cases hm : n = m
    · subst hm
      rw [State.hb_modHb_self]
    · rw [State.hb_modHb_ne _ _ hm]
  rw [withCurrents, hmod, hmod, hmod]

theorem Steady.settle (h : Steady s u) : Steady s u.settle :=
  h.only (Only.settle .refl (fun _ => trivial) (fun _ => trivial) (fun _ => trivial))

theorem settle_changes (s : State) : Only (· ∈ currentParts) s s.settle :=
  (Only.ends (P := fun _ => False) .refl).mono (fun p hp => by simpa [currentParts] using .inr (.inr (.inr (hp.resolve_left id))))

/-- Where the overcurrent check has tripped a half-bridge, it is tripped at the end of the command. -/
theorem remembers_currentRest (s : State) (x : Fin 6) (sum : Int) : Remembers s (currentRest s x sum).settle :=
  .of_only ((currentRest_changes s x sum).trans (settle_changes _)) latch_not_mem_currentParts cause_not_mem_currentParts

/-- Parts that a current conversion of section x may touch. -/
def conversionParts (x : Fin 6) : List Part := [.obj FW_ST_FAILS, .cap] ++ tripParts x ++
  allSlots.flatMap (fun (k : Fin 48) => [.slot k, .obj (K_OVERRUN k)])

theorem currentParts_subset (x : Fin 6) {p : Part} (hp : p ∈ currentParts) : p ∈ conversionParts x ∨ p ∈ Safety.ends := by
  have hi := isolateParts_subset_tripParts x (a := p)
  simp only [currentParts, conversionParts, arriveParts, List.mem_append, List.mem_cons, List.not_mem_nil, or_false] at hp ⊢
  tauto

theorem current_changes (s : State) (x : Fin 6) (iu iv : Int) :
    Only (fun p => p ∈ conversionParts x ∨ p ∈ Safety.ends) s (s.current x iu iv) := by
  have ht : Covers (fun p => p ∈ conversionParts x ∨ p ∈ Safety.ends) (tripParts x) := fun p hp => by simp [conversionParts, hp]
  have hhb : ∀ n, Part.hb n ∈ conversionParts x ∨ Part.hb n ∈ Safety.ends := fun n =>
    ht _ (isolateParts_subset_tripParts x (bridge_mem_isolateParts n).1)
  have hcur : Only (fun p => p ∈ conversionParts x ∨ p ∈ Safety.ends) s (withCurrents s x iu iv) :=
    ((Only.refl.modHb (hhb _)).modHb (hhb _)).modHb (hhb _)
  rw [current_eq]
  exact (hcur.overcurrent ht (fun _ hp => .inr hp)).trans ((currentRest_changes _ x _).mono (fun _ hp => currentParts_subset x hp))

theorem currentTick_iff : currentTick s = true ↔ s.tb % 200 = 40 := decide_eq_true_iff

/-- A current conversion gives the three phase currents, and the confirming one beyond ±Ioc trips (R145, R148). -/
theorem currentAdcConversion_converts (t : Nat) (x : Fin 6) (iu iv : BitVec 14) (hOn : On s (13 + 2 * x.val))
    (htick : (s.at_ t).tb % 200 = 40) :
    Yields (.currentAdcConversion t x iu iv) s (fun u =>
      (u.hb (hbOf x 0)).cur = iu.toInt ∧ (u.hb (hbOf x 1)).cur = iv.toInt ∧ (u.hb (hbOf x 2)).cur = -(iu.toInt + iv.toInt) ∧
      (∀ p : Fin 3, beyondIoc s x (u.hb (hbOf x p)).cur = true → (s.hb (hbOf x p)).oc + 1 = s.nat (S_OC_CONFIRM x) →
        Tripped u (hbOf x p) (if 0 ≤ (u.hb (hbOf x p)).cur then causeOcPos else causeOcNeg)) ∧
      Frame (· ∈ conversionParts x) s u) := by
  let v := withCurrents (s.at_ t) x iu.toInt iv.toInt
  let u := ((s.at_ t).current x iu.toInt iv.toInt).settle
  have hrest : Steady (v.overcurrent x) u := by
    have := (steady_currentRest (v.overcurrent x) x (iu.toInt + iv.toInt)).settle
    rwa [← current_eq] at this
  have hmem : Remembers (v.overcurrent x) u := by
    have := remembers_currentRest (v.overcurrent x) x (iu.toInt + iv.toInt)
    rwa [← current_eq] at this
  have hcur : ∀ n, (u.hb n).cur = (v.hb n).cur := fun n => (((Steady.refl (s := v)).overcurrent.trans hrest).rests n).1
  obtain ⟨h0, h1, h2⟩ := withCurrents_cur (s.at_ t) x iu.toInt iv.toInt
  refine ⟨u, ?_, (hcur _).trans h0, (hcur _).trans h1, (hcur _).trans h2, fun p hb hoc => ?_, ?_⟩
  · rw [exec_currentAdcConversion, execCurrentAdcConversion, runOn_on (s := s.at_ t) hOn, if_pos (currentTick_iff.mpr htick)]
  · rw [hcur] at hb ⊢
    exact (tripped_overcurrent (s := v) hb (by rw [withCurrents_oc]; exact hoc)).keeps hrest hmem
  · exact (Only.begins.trans (current_changes (s.at_ t) x iu.toInt iv.toInt)).ends
/-! ### Switch nodes: Temper's answer to a measured transition (R128–R130) -/

/-- The strength code of kind k that answers a transition of t: one step towards the target, within the Anvil bounds (R129). -/
def answerCode (s : State) (n : Fin 18) (k : Nat) (t : Rat) : Int :=
  let tgt : Rat := 10 * s.get (if k = 0 ∨ k = 2 then S_TMP_TGT_ON (secOf n) else S_TMP_TGT_OFF (secOf n))
  let tol : Rat := 10 * s.get (S_TMP_TOL (secOf n))
  let c := s.get (codeKey n k)
  max (s.get SF_ANV_CODE_LO_IN) (min (if tgt + tol < t then c + 1 else if t < tgt - tol then c - 1 else c) (s.get SF_ANV_CODE_HI_IN))

/-- The thresholds a switch node stands above. -/
def thresholds (h : Hb) := (h.above90, h.above10)

/-- Parts that noting a measured transition may touch. -/
def measureParts (n : Fin 18) (k : Nat) : List Part := [.hb n, .raised, .obj (tswKey n k), .obj (S_TMP_OUTSIDE n)]

/-- From s to v a transition of kind k has been noted: it is held, and counted and journalled where it lies outside the Anvil
bounds (R128, R130). -/
structure Noted (s : State) (n : Fin 18) (k : Nat) (t : Rat) (v : State) : Prop where
  changes : Only (· ∈ measureParts n k) s v
  held : v.get (tswKey n k) = rnd t
  thresholds : thresholds (v.hb n) = thresholds (s.hb n)

theorem noted_set (s : State) (n : Fin 18) (k : Nat) (t : Rat) : Noted s n k t (s.set (tswKey n k) (rnd t)) :=
  ⟨Only.refl.set (by simp [measureParts]), State.get_set_self .., rfl⟩

theorem Noted.inc {n : Fin 18} {k : Nat} {t : Rat} {v : State} (hk : k < 4) (h : Noted s n k t v) :
    Noted s n k t (v.inc (S_TMP_OUTSIDE n)) where
  changes := h.changes.inc (by simp [measureParts])
  held := (State.get_set_ne _ _ (by simp only [tswKey, S_TSW_HON, S_TMP_OUTSIDE]; omega)).trans h.held
  thresholds := h.thresholds

theorem Noted.journalled {n : Fin 18} {k a b c : Nat} {t : Rat} {v : State} {o : Option Nat} (h : Noted s n k t v) :
    Noted s n k t ((v.jGate n a b c).modHb n (fun h => { h with last3A := o })) where
  changes := (State.jGate_only h.changes (by simp [measureParts])).modHb (by simp [measureParts])
  held := h.held
  thresholds := by
    rw [State.hb_modHb_self]
    exact h.thresholds

/-- Temper notes the transition and, where it is enabled, moves the strength code. -/
theorem temper_eq (s : State) (n : Fin 18) {k : Nat} (hk : k < 4) (t : Rat) : ∃ v, Noted s n k t v ∧
    s.temper n k t = if v.flag (S_TMP_EN (secOf n)) then v.set (codeKey n k) (answerCode v n k t) else v := by
  unfold State.temper
  extract_lets x s1 outside inc quiet s2 tgt tol c c'
  have h2 : Noted s n k t s2 := by
    have h1 : Noted s n k t s1 := noted_set s n k t
    simp only [s2]
    split
    · split
      · exact h1.inc hk
      · exact (h1.inc hk).journalled
    · exact h1
  exact ⟨s2, h2, rfl⟩

/-- What Temper reads stands while the transition is noted. -/
theorem Noted.get {n : Fin 18} {k j : Nat} {t : Rat} {v : State} (hk : k < 4) (h : Noted s n k t v)
    (hj : j % 65536 < 0x800 ∨ 0x500000 ≤ j ∨ j = codeKey n k) : v.get j = s.get j := by
  refine h.changes (.obj j) ?_
  simp only [measureParts, tswKey, codeKey, S_TSW_HON, S_TMP_CODE_HON, S_TMP_OUTSIDE, List.mem_cons, List.not_mem_nil, Part.obj.injEq, reduceCtorEq, or_false, false_or] at hj ⊢
  omega

/-- Temper's enable, targets and tolerance stand with the objects of a section, below those of its half-bridges. -/
theorem temperKeys_low (x : Fin 6) : S_TMP_EN x % 65536 < 0x800 ∧ S_TMP_TGT_ON x % 65536 < 0x800 ∧ S_TMP_TGT_OFF x % 65536 < 0x800 ∧
    S_TMP_TOL x % 65536 < 0x800 := by
  simp only [S_TMP_EN, S_TMP_TGT_ON, S_TMP_TGT_OFF, S_TMP_TOL]
  omega

theorem Noted.answerCode {n : Fin 18} {k : Nat} {t : Rat} {v : State} (hk : k < 4) (h : Noted s n k t v) :
    Safety.answerCode v n k t = Safety.answerCode s n k t := by
  obtain ⟨-, hon, hoff, htol⟩ := temperKeys_low (secOf n)
  have htgt : (if k = 0 ∨ k = 2 then S_TMP_TGT_ON (secOf n) else S_TMP_TGT_OFF (secOf n)) % 65536 < 0x800 := by
    split
    · exact hon
    · exact hoff
  unfold Safety.answerCode
  rw [h.get hk (.inl htgt), h.get hk (.inl htol), h.get (j := codeKey n k) hk (.inr (.inr rfl)),
    h.get (j := SF_ANV_CODE_LO_IN) hk (.inr (.inl (by decide))), h.get (j := SF_ANV_CODE_HI_IN) hk (.inr (.inl (by decide)))]

/-- Temper holds the transition and, where it is enabled, moves the strength code (R128, R129). -/
theorem temper_answers (s : State) (n : Fin 18) {k : Nat} (hk : k < 4) (t : Rat) :
    (s.temper n k t).get (tswKey n k) = rnd t ∧
      (s.temper n k t).get (codeKey n k) = (if s.flag (S_TMP_EN (secOf n)) then answerCode s n k t else s.get (codeKey n k)) ∧
      thresholds ((s.temper n k t).hb n) = thresholds (s.hb n) := by
  have hne : tswKey n k ≠ codeKey n k := by
    simp only [tswKey, codeKey, S_TSW_HON, S_TMP_CODE_HON]
    omega
  obtain ⟨v, hv, htemper⟩ := temper_eq s n hk t
  have hflag : v.flag (S_TMP_EN (secOf n)) = s.flag (S_TMP_EN (secOf n)) := by
    rw [State.flag, State.flag, hv.get hk (.inl (temperKeys_low _).1)]
  rw [htemper, hflag, hv.answerCode hk]
  split
  · exact ⟨(State.get_set_ne _ _ hne).trans hv.held, State.get_set_self .., hv.thresholds⟩
  · exact ⟨hv.held, hv.get hk (.inr (.inr rfl)), hv.thresholds⟩

/-- A threshold crossing noted in its half-bridge (R128, R132). -/
def thresholdNoted (upper above : Bool) (now : Nat) (h : Hb) : Hb :=
  if upper then { h with above90 := above }
  else if above then
    { h with above10 := true, lowAt := none, refreshed := false, ageFrom := if h.refreshed then now else h.ageFrom }
  else { h with above10 := false, lowAt := some now }

theorem thresholdNoted_facts (upper above : Bool) (now : Nat) (h : Hb) :
    (thresholdNoted upper above now h).cross = h.cross ∧
      (if upper then (thresholdNoted upper above now h).above90 else (thresholdNoted upper above now h).above10) = above := by
  cases upper
  · cases above
    · exact ⟨rfl, rfl⟩
    · exact ⟨rfl, rfl⟩
  · exact ⟨rfl, rfl⟩

/-- The second crossing within 1 µs completes the transition that the first has begun (R128). -/
theorem crossing_completes {n : Fin 18} {upper : Bool} (above : Bool) {tk k : Nat} (hlink : 4095 ≤ s.nat (S_DC_LINK (secOf n)) * 10)
    (hcross : (s.hb n).cross = some (!upper, tk, k)) (hsoon : (s.tick - tk) * 5 ≤ us 1) :
    s.crossing n upper above = ((s.modHb n (thresholdNoted upper above s.now)).temper n k
      (((s.tick - tk : Nat) : Rat) * 25 / 2)).modHb n (fun h => { h with cross := none }) := by
  have hnoted : ((s.modHb n (thresholdNoted upper above s.now)).hb n).cross = some (!upper, tk, k) := by
    rw [State.hb_modHb_self, (thresholdNoted_facts upper above s.now _).1, hcross]
  unfold State.crossing
  extract_lets s1 first
  change (s1.hb n).cross = _ at hnoted
  rw [if_neg (Nat.not_lt.mpr (show 4095 ≤ s1.nat (S_DC_LINK (secOf n)) * 10 from hlink))]
  simp only [hnoted]
  rw [if_pos ⟨by simp, hsoon⟩]
  rfl


/-- The second crossing completes a transition: it is held, and Temper answers it (R128, R129). -/
theorem switchNodeTransition_completes (t : Nat) (n : Fin 18) (upper above : Bool) (tk : Nat) (k : Fin 4) (hOn : On s (secOf n).val)
    (hlink : 4095 ≤ s.nat (S_DC_LINK (secOf n)) * 10) (hcross : (s.hb n).cross = some (!upper, tk, k.val))
    (hsoon : ((s.at_ t).tick - tk) * 5 ≤ us 1) :
    Yields (.switchNodeTransition t n upper above) s (fun u =>
      u.get (tswKey n k.val) = rnd ((((s.at_ t).tick - tk : Nat) : Rat) * 25 / 2) ∧ (u.hb n).cross = none ∧
      (if upper then (u.hb n).above90 else (u.hb n).above10) = above ∧
      u.get (codeKey n k.val) = (if s.flag (S_TMP_EN (secOf n)) then
        answerCode s n k.val ((((s.at_ t).tick - tk : Nat) : Rat) * 25 / 2) else s.get (codeKey n k.val)) ∧
      Frame (· ∈ [.hb n, .raised, .obj (tswKey n k.val), .obj (codeKey n k.val), .obj (S_TMP_OUTSIDE n)]) s u) := by
  let v := (s.at_ t).modHb n (thresholdNoted upper above (s.at_ t).now)
  let w := v.temper n k.val ((((s.at_ t).tick - tk : Nat) : Rat) * 25 / 2)
  let u := (w.modHb n (fun h => { h with cross := none })).settle
  obtain ⟨htsw, hcode, hstay⟩ := temper_answers v n k.isLt ((((s.at_ t).tick - tk : Nat) : Rat) * 25 / 2)
  have hhb : u.hb n = { w.hb n with cross := none } := by
    rw [State.hb, State.settle_hbs, ← State.hb, State.hb_modHb_self]
  have habove := (thresholdNoted_facts upper above (s.at_ t).now ((s.at_ t).hb n)).2
  have hv : v.hb n = thresholdNoted upper above (s.at_ t).now ((s.at_ t).hb n) := State.hb_modHb_self ..
  rw [← hv] at habove
  obtain ⟨h90, h10⟩ := Prod.mk.inj hstay
  refine ⟨u, ?_, ?_, by rw [hhb], ?_, ?_, ?_⟩
  · rw [exec_switchNodeTransition, execSwitchNodeTransition, runOn_on (s := s.at_ t) hOn,
      crossing_completes (s := s.at_ t) above hlink hcross hsoon]
  · rw [settle_get_below _ (by simp only [tswKey, S_TSW_HON]; omega)]
    exact htsw
  · rw [hhb]
    change (if upper then (w.hb n).above90 else (w.hb n).above10) = above
    rw [h90, h10, habove]
  · rw [settle_get_below _ (by simp only [codeKey, S_TMP_CODE_HON]; omega)]
    exact hcode
  · refine Only.ends (Only.begins.trans (Only.modHb (State.temper_only (Only.refl.modHb ?_) ?_ ?_ ?_ ?_ ?_) ?_))
    all_goals simp

/-! ### Conversions of the voltage ADC (R64, R153, R439) -/

/-- A node's conversion held in its section, for the comparator and for the flux observer (R64, R68). -/
def nodeHeld (p : Fin 3) (v now : Nat) (clear : Bool) (c : Sec) : Sec :=
  { c with
    bemf := { c.bemf with v := c.bemf.v.set p.val v, vAt := c.bemf.vAt.set p.val now, vOk := c.bemf.vOk.set p.val clear }
    flux := { c.flux with vsum := c.flux.vsum.set p.val (c.flux.vsum[p.val] + v),
                          vcnt := c.flux.vcnt.set p.val (c.flux.vcnt[p.val] + 1) } }

theorem voltage_node (s : State) (x : Fin 6) (p : Fin 3) (v : Nat) : ∃ clear, s.voltage x ⟨p.val, by omega⟩ v =
    (s.modSec x (nodeHeld p v s.now clear)).checkNode x p v := by
  unfold State.voltage
  rw [dif_pos p.isLt]
  exact ⟨_, rfl⟩

theorem Only.checkNode {x : Fin 6} {p : Fin 3} {v : Nat} (h : Only P s u) (hf : P (.obj FW_ST_FAILS)) (hi : Covers P isolateParts)
    (he : Covers P Safety.ends) : Only P s (u.checkNode x p v) := by
  unfold State.checkNode
  extract_lets n lv blank settled d k s1
  have h1 : Only P s s1 := h.modHb (hi _ (bridge_mem_isolateParts _).1)
  exact .ite (fun _ => h) (fun _ => .ite (fun _ => .selfTestFail h1 hf hi he) (fun _ => h1))

/-- A conversion of a switch node is held (R64). -/
theorem voltageAdcConversion_holds (t : Nat) (x : Fin 6) (p : Fin 3) (v : BitVec 12) (hOn : On s (25 + x.val))
    (htick : voltageTick (s.at_ t) = true) :
    Yields (.voltageAdcConversion t x ⟨p.val, by omega⟩ v) s (fun u =>
      (u.sec x).bemf.v.get p = v.toNat ∧ (u.sec x).bemf.vAt.get p = max s.now t ∧
      (u.sec x).flux.vsum.get p = (s.sec x).flux.vsum.get p + v.toNat ∧
      Frame (· ∈ .obj FW_ST_FAILS :: isolateParts) s u) := by
  obtain ⟨clear, hnode⟩ := voltage_node (s.at_ t) x p v.toNat
  let w := (s.at_ t).modSec x (nodeHeld p v.toNat (s.at_ t).now clear)
  let u := (w.checkNode x p v.toNat).settle
  have hsec : w.sec x = nodeHeld p v.toNat (s.at_ t).now clear ((s.at_ t).sec x) := State.sec_modSec_self ..
  have hread : readings (u.sec x) = readings (nodeHeld p v.toNat (s.at_ t).now clear ((s.at_ t).sec x)) :=
    ((Steady.refl (s := w)).checkNode.settle.readings x).trans (congrArg readings hsec)
  obtain ⟨hv, hrest⟩ := Prod.mk.inj hread
  obtain ⟨hat, hflux⟩ := Prod.mk.inj hrest
  refine ⟨u, ?_, ?_, ?_, ?_, ?_⟩
  · rw [exec_voltageAdcConversion, execVoltageAdcConversion, runOn_on (s := s.at_ t) hOn, if_pos htick, hnode]
  · rw [hv]
    exact vget_set_self _ p _
  · rw [hat]
    exact vget_set_self _ p _
  · rw [hflux]
    exact vget_set_self _ p _
  · exact Only.ends (Only.begins.trans (Only.checkNode (Only.refl.modSec
      (.inl (List.mem_cons_of_mem _ (section_mem_isolateParts x _ (by simp [stateParts]))))) (.inl List.mem_cons_self)
      (fun q hq => .inl (List.mem_cons_of_mem _ hq)) (fun q hq => .inr hq)))
/-- The chopper output and its duty are set at once (R153). -/
def chopperSet (s : State) (x : Fin 6) (on : Bool) : State :=
  (s.modSec x (fun c => { c with brk := on, brkEnd := none })).set (S_BRK_DUTY x) (if on then 10000 else 0)

/-- The chopper of mode 1 follows a sample at once: on from S_BRK_ON, off below S_BRK_OFF, as it was between them (R153). -/
theorem brakeSample_hysteretic {x : Fin 6} (v : Int) (hmode : (s.brakeAccount x).nat (S_BRK_MODE x) = 1) :
    s.brakeSample x v = chopperSet (s.brakeAccount x) x (if (s.brakeAccount x).get (S_BRK_ON x) ≤ v then true
      else if v < (s.brakeAccount x).get (S_BRK_OFF x) then false else ((s.brakeAccount x).sec x).brk) := by
  unfold State.brakeSample
  simp only [hmode]
  rfl

/-- Parts that the DC-link conversion may touch before the chopper follows it. -/
def roundParts (x : Fin 6) : List Part := [.sec x, .obj (S_DC_LINK x), .obj (S_BEMF_EVENTS x), .obj (S_BRK_TIME x)]

/-- Parts that a DC-link conversion may touch. -/
def linkParts (x : Fin 6) : List Part :=
  [.sec x, .cap, .obj (S_DC_LINK x), .obj (S_BEMF_EVENTS x), .obj (S_BRK_TIME x), .obj (S_BRK_DUTY x)] ++
    allSlots.flatMap (fun (k : Fin 48) => [.slot k, .obj (K_OVERRUN k)])

theorem roundParts_subset_linkParts (x : Fin 6) : roundParts x ⊆ linkParts x := by
  intro p hp
  simp only [roundParts, linkParts, List.mem_append, List.mem_cons, List.not_mem_nil, or_false] at hp ⊢
  tauto

theorem arriveParts_subset_linkParts (x : Fin 6) : arriveParts ⊆ linkParts x := by
  intro p hp
  simp only [arriveParts, linkParts, List.mem_append, List.mem_cons, List.not_mem_nil, or_false] at hp ⊢
  tauto

/-- The DC-link value held and judged by the comparator. -/
def linkHeld (s : State) (x : Fin 6) (v : Int) : State := (s.set (S_DC_LINK x) v).bemfRound x

theorem linkHeld_changes (s : State) (x : Fin 6) (v : Int) : Only (· ∈ roundParts x) s (linkHeld s x v) :=
  State.bemfRound_only (Only.refl.set (by simp [roundParts])) (by simp [roundParts]) (by simp [roundParts])

theorem accounted_changes (s : State) (x : Fin 6) (v : Int) : Only (· ∈ roundParts x) s ((linkHeld s x v).brakeAccount x) :=
  State.brakeAccount_only (linkHeld_changes s x v) (by simp [roundParts]) (by simp [roundParts])

/-- The settings of the chopper stand while a sample is held and accounted. -/
theorem accounted_get (s : State) (x : Fin 6) (v : Int) {k : Nat} (hk : k ∈ [S_BRK_MODE x, S_BRK_ON x, S_BRK_OFF x]) :
    ((linkHeld s x v).brakeAccount x).get k = s.get k := by
  refine accounted_changes s x v (.obj k) ?_
  simp only [roundParts, S_BRK_MODE, S_BRK_ON, S_BRK_OFF, S_DC_LINK, S_BEMF_EVENTS, S_BRK_TIME, List.mem_cons, List.not_mem_nil,
    Part.obj.injEq, reduceCtorEq, or_false, false_or] at hk ⊢
  omega

theorem linkHeld_link (s : State) (x : Fin 6) (v : Int) : (linkHeld s x v).get (S_DC_LINK x) = v :=
  (State.bemfRound_only (P := (· ∈ [.sec x, .obj (S_BEMF_EVENTS x)])) (s := s.set (S_DC_LINK x) v) .refl (by simp) (by simp)
    (.obj (S_DC_LINK x)) (by simp [S_DC_LINK, S_BEMF_EVENTS])).trans (State.get_set_self ..)

theorem brakeSample_link (s : State) (x : Fin 6) (v : Int) : (s.brakeSample x v).get (S_DC_LINK x) = s.get (S_DC_LINK x) :=
  State.brakeSample_only (P := (· ∈ [.sec x, .obj (S_BRK_TIME x), .obj (S_BRK_DUTY x)])) .refl (by simp) (by simp) (by simp)
    (.obj (S_DC_LINK x)) (by simp [S_DC_LINK, S_BRK_TIME, S_BRK_DUTY])

/-- An arriving value and the end of the command leave the section and its objects. -/
theorem arrive_settle_get (s : State) (sel : Nat) (v : Int) {k : Nat} (hk : k < 0x400000) : (s.arrive sel v).settle.get k = s.get k := by
  rw [settle_get_below _ (by omega)]
  refine (Only.refl.arrive (P := (· ∈ arriveParts)) (fun _ hp => hp)) (.obj k) ?_
  simp only [arriveParts, K_OVERRUN, List.mem_cons, List.mem_flatMap, List.not_mem_nil, Part.obj.injEq, reduceCtorEq, or_false, false_or,
    not_exists, not_and]
  omega

theorem arrive_settle_sec (s : State) (sel : Nat) (v : Int) (x : Fin 6) : (s.arrive sel v).settle.sec x = s.sec x := by
  rw [settle_sec]
  exact (Only.refl.arrive (P := (· ∈ arriveParts)) (fun _ hp => hp)) (.sec x) (by simp [arriveParts])

theorem chopperSet_output (s : State) (x : Fin 6) (on : Bool) :
    ((chopperSet s x on).sec x).brk = on ∧ (chopperSet s x on).get (S_BRK_DUTY x) = if on then 10000 else 0 :=
  ⟨congrArg Sec.brk (State.sec_modSec_self s x (fun c => { c with brk := on, brkEnd := none })), State.get_set_self ..⟩

theorem voltage_link (s : State) (x : Fin 6) (v : Nat) :
    s.voltage x 3 v = ((linkHeld s x v).brakeSample x v).arrive (0x4000 + x.val) ((v : Int) * 524288) := rfl

/-- A conversion of the DC link is held, and a hysteretic chopper follows it (R64, R153). -/
theorem voltageAdcConversion_feeds (t : Nat) (x : Fin 6) (v : BitVec 12) (hOn : On s (25 + x.val))
    (htick : voltageTick (s.at_ t) = true) :
    Yields (.voltageAdcConversion t x 3 v) s (fun u =>
      u.get (S_DC_LINK x) = v.toNat ∧
      (s.nat (S_BRK_MODE x) = 1 → s.get (S_BRK_ON x) ≤ v.toNat → (u.sec x).brk = true ∧ u.get (S_BRK_DUTY x) = 10000) ∧
      (s.nat (S_BRK_MODE x) = 1 → v.toNat < s.get (S_BRK_ON x) → v.toNat < s.get (S_BRK_OFF x) →
        (u.sec x).brk = false ∧ u.get (S_BRK_DUTY x) = 0) ∧
      Frame (· ∈ linkParts x) s u) := by
  let w := linkHeld (s.at_ t) x v.toNat
  let u := ((w.brakeSample x v.toNat).arrive (0x4000 + x.val) ((v.toNat : Int) * 524288)).settle
  have hget : ∀ k ∈ [S_BRK_MODE x, S_BRK_ON x, S_BRK_OFF x], (w.brakeAccount x).get k = s.get k :=
    fun k hk => accounted_get (s.at_ t) x v.toNat hk
  have hon : ∀ b, w.brakeSample x v.toNat = chopperSet (w.brakeAccount x) x b →
      (u.sec x).brk = b ∧ u.get (S_BRK_DUTY x) = if b then 10000 else 0 := by
    intro b hb
    rw [arrive_settle_sec, arrive_settle_get _ _ _ (by simp only [S_BRK_DUTY]; omega), hb]
    exact chopperSet_output _ x b
  have hfollow : s.nat (S_BRK_MODE x) = 1 → w.brakeSample x v.toNat = chopperSet (w.brakeAccount x) x
      (if s.get (S_BRK_ON x) ≤ v.toNat then true else if v.toNat < s.get (S_BRK_OFF x) then false
        else ((w.brakeAccount x).sec x).brk) := by
    intro hmode
    rw [brakeSample_hysteretic _ (by rw [State.nat, hget _ (by simp)]; exact hmode), hget (S_BRK_ON x) (by simp),
      hget (S_BRK_OFF x) (by simp)]
  refine ⟨u, ?_, ?_, fun hmode hle => ?_, fun hmode hlt hoff => ?_, ?_⟩
  · rw [exec_voltageAdcConversion, execVoltageAdcConversion, runOn_on (s := s.at_ t) hOn, if_pos htick, voltage_link]
  · rw [arrive_settle_get _ _ _ (by simp only [S_DC_LINK]; omega), brakeSample_link]
    exact linkHeld_link ..
  · have hb := hfollow hmode
    rw [if_pos hle] at hb
    exact hon true hb
  · have hb := hfollow hmode
    rw [if_neg (by omega), if_pos hoff] at hb
    exact hon false hb
  · have hlink : Covers (fun p => p ∈ linkParts x ∨ p ∈ Safety.ends) (linkParts x) := fun p hp => .inl hp
    have hw : Only (fun p => p ∈ linkParts x ∨ p ∈ Safety.ends) (s.at_ t) w :=
      (linkHeld_changes (s.at_ t) x v.toNat).mono (fun p hp => .inl (roundParts_subset_linkParts x hp))
    exact Only.ends (Only.begins.trans ((State.brakeSample_only hw (hlink _ (by simp [linkParts])) (hlink _ (by simp [linkParts]))
      (hlink _ (by simp [linkParts]))).arrive (fun p hp => .inl (arriveParts_subset_linkParts x hp))))

/-! ### Off the ticks -/

/-- A happening that leaves the state as time passing leaves it changes nothing, whether its island runs or not. -/
theorem runOn_idle {i : Nat} {f : State → State} (h : f s = s) : runOn i s f = .next s.settle := by
  by_cases hOn : runs s i = true
  · rw [runOn_on hOn, h]
  · rw [runOn_off (Bool.eq_false_iff.mpr hOn)]

theorem voltageAdcConversion_offTick (t : Nat) (x : Fin 6) (ch : Fin 4) (v : BitVec 12) (htick : voltageTick (s.at_ t) = false) :
    Yields (.voltageAdcConversion t x ch v) s (fun u => Frame (fun _ => False) s u) :=
  ⟨(s.at_ t).settle, runOn_idle (by simp [htick]), Only.ends Only.begins⟩

theorem currentAdcConversion_offTick (t : Nat) (x : Fin 6) (iu iv : BitVec 14) (htick : currentTick (s.at_ t) = false) :
    Yields (.currentAdcConversion t x iu iv) s (fun u => Frame (fun _ => False) s u) :=
  ⟨(s.at_ t).settle, runOn_idle (by simp [htick]), Only.ends Only.begins⟩

/-- Settles O11: the reactions of Quench turn no switch on and forget no latch, so that what the overcurrent check trips is tripped
at the end of the conversion; the rest follows each command's own branches. -/
theorem converterCommands : Obligations.ConverterCommands := by
  refine ⟨?_, ?_, ?_, ?_, ?_⟩
  · exact fun s t x p v hOn htick => voltageAdcConversion_holds t x p v hOn htick
  · exact fun s t x v hOn htick => voltageAdcConversion_feeds t x v hOn htick
  · exact fun s t x ch v iu iv => ⟨voltageAdcConversion_offTick t x ch v, currentAdcConversion_offTick t x iu iv⟩
  · exact fun s t x iu iv hOn htick => currentAdcConversion_converts t x iu iv hOn htick
  · intro s t n upper above tk k hOn hlink hcross hsoon
    have hkind : (k = 0 ∨ k = 2) ↔ (k.val = 0 ∨ k.val = 2) := by simp only [Fin.ext_iff, Fin.val_zero, Fin.val_two]
    simp only [hkind]
    exact switchNodeTransition_completes t n upper above tk k hOn hlink hcross hsoon

end Sys2Proof.Safety

/-! SUPPORT. A state in which level 3 accepted during a precharge does not end the join as its statement says: the half-bridge has
tripped, been cleared and entered a new join within one tick, of which R150 makes one trip. -/

namespace Sys2Proof.Safety
open Sys2Proof.Machine Sys2Proof.Machine.Obj

/-- The state behind a list of commands. -/
def afterCommands (s : State) (l : List Instr) : State :=
  l.foldl (fun u c => match exec c u with
    | .next v => v
    | _ => u) s

/-- Section 0 is ready to join on axis 1, whose angle the ramp of a sensorless start gives. -/
def readyOnRamp : State :=
  atDefaults [(S_HSS_LEVEL 0, 0), (S_HSS_LEVEL 1, 0), (S_HSS_LEVEL 2, 0), (S_AXIS 0, 1), (A_START_MODE 1, 1), (A_START_STAGE 1, 2)]

/-- At 1 µs the DC link trips section 0, the firmware clears it and enables it again, and its join reaches the precharge. -/
def rejoinsInTickOfTrip : State :=
  afterCommands readyOnRamp [.dcLinkOvervoltage (us 1) 0, .faultClear (us 1) byFirmware 0, .joinStart (us 1) byFirmware 0,
    .joinAngleValid (us 1) 0]

theorem rejoinsInTickOfTrip_precharges :
    On rejoinsInTickOfTrip (secOf 0).val ∧ rejoinsInTickOfTrip.nat (S_STATE (secOf 0)) = 0 ∧
    (rejoinsInTickOfTrip.sec (secOf 0)).join = .precharge := by decide +kernel

/-- Level 3 trips the half-bridge again, but as a further cause of the trip of this tick (R150): no outcome of the section follows. -/
theorem exec_statusLevelAccepted_rejoinsInTickOfTrip :
    ∃ u, exec (.statusLevelAccepted (us 1) 0 3) rejoinsInTickOfTrip = .next u ∧ latched u 0 = true ∧
      (u.sec (secOf 0)).join = .precharge :=
  ⟨_, rfl, by decide +kernel, by decide +kernel⟩

/-- Refutes O13: the causes of one tick on one half-bridge are one trip (R150), so level 3 in the tick of an earlier trip leaves the
precharge that has begun since, while the statement ends the join. -/
theorem not_gatePinCommands : ¬ Obligations.GatePinCommands := by
  intro h
  obtain ⟨-, -, -, hlevel3, -, -⟩ := h
  obtain ⟨hOn, hstate, hprecharge⟩ := rejoinsInTickOfTrip_precharges
  obtain ⟨u, hexec, -, -, -, hends, -⟩ := hlevel3 rejoinsInTickOfTrip (us 1) 0 3 hOn (by decide)
  obtain ⟨v, hexec', -, hstays⟩ := exec_statusLevelAccepted_rejoinsInTickOfTrip
  cases hexec.symm.trans hexec'
  have hended := hends hstate hprecharge
  rw [hstays] at hended
  exact absurd hended (by decide)

end Sys2Proof.Safety

/-! SUPPORT. What a trip and a device fault do beyond the switches: the trip is counted and journalled first, and a section that
may not run on is left in state 4 with S_ENABLE 0 (R143, R145, R149, R158). -/

namespace Sys2Proof.Safety
open Sys2Proof.Machine Sys2Proof.Machine.Obj

variable {P : Part → Prop} {s u v : State} {x y : Fin 6} {n : Fin 18}

/-! ### Frames of isolations and of the device fault -/

theorem Only.recount (h : Only P s u) (hl : Covers P (allAxes.flatMap levelParts)) (he : Covers P Safety.ends) : Only P s u.recount :=
  have hlevel : ∀ (a : Fin 4), ∀ p ∈ levelParts a, P p := fun a p hp => hl p (List.mem_flatMap.mpr ⟨a, List.mem_finRange a, hp⟩)
  State.recount_only h (fun a => he _ (axis_counts_mem_ends a).1) (fun a => he _ (axis_counts_mem_ends a).2)
    (fun a => hlevel a _ (by simp [levelParts])) (hlevel 0 _ (by simp [levelParts])) (fun a => hlevel a _ (by simp [levelParts]))

/-- Parts that an isolation of section y by itself, or the failure of its join, may touch (R57, R149). -/
def faultParts (y : Fin 6) : List Part := .obj (S_Q_LAST y) :: joinParts y

theorem joinParts_subset_faultParts : joinParts y ⊆ faultParts y := List.subset_cons_self _ _

theorem faultParts_subset_isolateParts : ∀ y : Fin 6, ∀ p ∈ faultParts y, p ∈ isolateParts := by decide +kernel

theorem levels_mem_faultParts : ∀ y : Fin 6, ∀ p ∈ allAxes.flatMap levelParts, p ∈ faultParts y := by decide +kernel

theorem Only.isolateCore {isl detail : Nat} (h : Only P s u) (hf : Covers P (faultParts y)) : Only P s (u.isolateCore isl y detail) :=
  have hj : Covers P (joinParts y) := fun p hp => hf p (joinParts_subset_faultParts hp)
  have hd : Covers P (driveParts y) := fun p hp => hj p (by simp [joinParts, hp])
  have hs : Covers P (stateParts y) := fun p hp => hj p (by simp [joinParts, hp])
  State.isolateCore_only h (hd _ (sec_mem_driveParts y)) (hj _ (by simp [joinParts])) (fun p => hd _ (hb_mem_driveParts y p))
    (fun p => hd _ (gate_mem_driveParts y p)) (hj _ (by simp [joinParts])) (hs _ (by simp [stateParts])) (hs _ (by simp [stateParts]))
    (hs _ (by simp [stateParts])) (hs _ (by simp [stateParts])) (hs _ (by simp [stateParts])) (hj _ (by simp [joinParts]))
    (hf _ List.mem_cons_self)

/-- What a device fault does to one section: it is isolated when it runs, and its join fails when it waits (R57, R158). -/
def faultSection (s : State) (y : Fin 6) : State :=
  if 1 ≤ s.nat (S_STATE y) ∧ s.nat (S_STATE y) ≤ 3 then s.isolateCore y.val y 0x01
  else if s.nat (S_STATE y) = 0 ∧ (s.sec y).join ≠ .none then s.joinFail y
  else s

theorem deviceFault_eq (s : State) (bit detail : Nat) : s.deviceFault bit detail =
    ((((s.each allHbs (fun n s => s.quenchHb n 0)).each allSecs (fun y s => faultSection s y)).orBits S_DEV_FAULT bit).jDevice
      detail).recount := rfl

theorem Only.faultSection (h : Only P s u) (hf : Covers P (faultParts y)) (he : Covers P Safety.ends) : Only P s (faultSection u y) :=
  .ite (fun _ => .isolateCore h hf)
    (fun _ => .ite (fun _ => .joinFail h (fun p hp => hf p (joinParts_subset_faultParts hp)) he) (fun _ => h))

/-- Parts of half-bridge n and its section that turning it off may touch (R148). -/
def quenchParts (n : Fin 18) : List Part := [.obj S_BLW_ACTIVE, .hb n, .sec (secOf n), .obj (S_GATE_I n)]

theorem Only.quenchHb {c : Nat} (h : Only P s u) (hq : Covers P (quenchParts n)) : Only P s (u.quenchHb n c) :=
  State.quenchHb_only h (hq _ (by simp [quenchParts])) (hq _ (by simp [quenchParts])) (hq _ (by simp [quenchParts]))
    (hq _ (by simp [quenchParts]))

theorem quenchParts_subset_isolateParts : ∀ n : Fin 18, ∀ p ∈ quenchParts n, p ∈ isolateParts := by decide +kernel

theorem Only.deviceFault {bit detail : Nat} (h : Only P s u) (hi : Covers P isolateParts) (he : Covers P Safety.ends) :
    Only P s (u.deviceFault bit detail) := by
  have hq : Only P s (u.each allHbs (fun n s => s.quenchHb n 0)) :=
    h.each (fun n _ hw => hw.quenchHb (fun p hp => hi p (quenchParts_subset_isolateParts n p hp)))
  have hs := hq.each (l := allSecs) (f := fun y s => Safety.faultSection s y)
    (fun y _ hw => hw.faultSection (fun p hp => hi p (faultParts_subset_isolateParts y p hp)) he)
  rw [deviceFault_eq]
  exact Only.recount (State.jDevice_only (hs.orBits (hi _ device_mem_isolateParts.2.2)) (hi _ device_mem_isolateParts.1))
    (fun p hp => hi p (faultParts_subset_isolateParts 0 p (levels_mem_faultParts 0 p hp))) he

theorem Only.isolate {detail : Nat} (h : Only P s u) (hi : Covers P isolateParts) (he : Covers P Safety.ends) :
    Only P s (u.isolate x detail) := by
  have hcore : Only P s (u.isolateCore x.val x detail).recount :=
    (h.isolateCore (fun p hp => hi p (faultParts_subset_isolateParts x p hp))).recount
      (fun p hp => hi p (faultParts_subset_isolateParts 0 p (levels_mem_faultParts 0 p hp))) he
  exact .ite (fun _ => h) (fun _ => .ite (fun _ => hcore.deviceFault hi he) (fun _ => hcore))

/-! ### An isolated section -/

/-- Section x is in state 4 with S_ENABLE 0 (R149). -/
structure Isolated (s : State) (x : Fin 6) : Prop where
  state : s.get (S_STATE x) = 4
  enable : s.get (S_ENABLE x) = 0

/-- A part other than the state and S_ENABLE of section x. -/
abbrev OffStatus (x : Fin 6) (p : Part) : Prop := p ≠ .obj (S_STATE x) ∧ p ≠ .obj (S_ENABLE x)

theorem faultParts_offStatus : ∀ x y : Fin 6, y ≠ x → ∀ p ∈ faultParts y, OffStatus x p := by decide +kernel
theorem levels_offStatus : ∀ x : Fin 6, ∀ p ∈ allAxes.flatMap levelParts, OffStatus x p := by decide +kernel
theorem quenchParts_offStatus : ∀ (x : Fin 6) (n : Fin 18), ∀ p ∈ quenchParts n, OffStatus x p := by decide +kernel
theorem deviceFault_offStatus : ∀ x : Fin 6, OffStatus x (.obj S_DEV_FAULT) ∧ OffStatus x .raised := by decide +kernel
theorem ends_offStatus : ∀ x : Fin 6, ∀ p ∈ Safety.ends, OffStatus x p := by decide +kernel

theorem Isolated.only (h : Isolated s x) (hu : Only (OffStatus x) s u) : Isolated u x :=
  ⟨(hu (.obj _) (fun hp => hp.1 rfl)).trans h.state, (hu (.obj _) (fun hp => hp.2 rfl)).trans h.enable⟩

theorem Runs.only (h : Runs s x) (hu : Only (OffStatus x) s u) : Runs u x := by
  have hstate : u.get (S_STATE x) = s.get (S_STATE x) := hu (.obj _) (fun hp => hp.1 rfl)
  rwa [Runs, State.nat, hstate]

theorem setSecState_state (s : State) (x : Fin 6) (k : Nat) : (s.setSecState x k).get (S_STATE x) = k := by
  unfold State.setSecState
  extract_lets old s1 s2 s3
  have h1 : Only (· ≠ .obj (S_STATE x)) s1 s1 := .refl
  have h2 : Only (· ≠ .obj (S_STATE x)) s1 s2 := .ite (fun _ => h1) (fun _ => h1.set (by simp))
  have h3 : Only (· ≠ .obj (S_STATE x)) s1 s3 := .ite (fun _ => ((h2.set (by simp)).set (by simp)).modSec (by simp))
    (fun _ => .ite (fun _ => (h2.set (by simp)).modSec (by simp)) (fun _ => h2))
  have hend : Only (· ≠ .obj (S_STATE x)) s1 (if k = 0 ∧ s3.nat (S_LOCK_ACTION x) = 2 then s3.set (S_LOCK_STATE x) 0 else s3) :=
    .ite (fun _ => h3.set (by simp)) (fun _ => h3)
  exact (hend (.obj _) (by simp)).trans (State.get_set_self ..)

theorem isolated_isolateCore (s : State) (isl : Nat) (x : Fin 6) (detail : Nat) : Isolated (s.isolateCore isl x detail) x := by
  have hquiet : Isolated (s.isolateQuiet x) x := by
    unfold State.isolateQuiet
    extract_lets s1 s2
    have henable : Only (· ≠ .obj (S_ENABLE x)) (s2.set (S_ENABLE x) 0) ((s2.set (S_ENABLE x) 0).setSecState x 4) :=
      State.setSecState_only .refl (by simp) (by simp) (by simp) (by simp) (by simp) (by simp)
    exact ⟨setSecState_state _ x 4, (henable (.obj _) (by simp)).trans (State.get_set_self ..)⟩
  exact hquiet.only (State.jSectionAt_only .refl (by simp [OffStatus]) (by simp [OffStatus]))

theorem Isolated.recount (h : Isolated s x) : Isolated s.recount x :=
  h.only (Only.refl.recount (levels_offStatus x) (ends_offStatus x))

/-- A device fault isolates no section twice, and fails the joins of others alone. -/
theorem Isolated.faultSection (h : Isolated s x) (y : Fin 6) : Isolated (faultSection s y) x := by
  by_cases hy : y = x
  · subst hy
    have hstate : s.nat (S_STATE y) = 4 := congrArg Int.toNat h.state
    rwa [Safety.faultSection, if_neg (by omega), if_neg (by omega)]
  · exact h.only (Only.refl.faultSection (faultParts_offStatus x y hy) (ends_offStatus x))

theorem isolated_each_faultSection {l : List (Fin 6)} (hx : x ∈ l) (h : Runs s x) :
    Isolated (s.each l (fun y v => faultSection v y)) x := by
  induction l generalizing s with
  | nil => simp at hx
  | cons y r ih =>
    by_cases hy : y = x
    · have hfirst : Isolated (faultSection s y) x := by
        rw [hy, faultSection, if_pos h]
        exact isolated_isolateCore ..
      exact State.each_keeps (Isolated · x) r _ _ (fun z _ hw => hw.faultSection z) hfirst
    · exact ih ((List.mem_cons.mp hx).resolve_left (Ne.symm hy))
        (Runs.only h (Only.refl.faultSection (faultParts_offStatus x y hy) (ends_offStatus x)))

/-- Behind the sections a device fault sets its bit, journals and counts, and touches the state of none. -/
theorem faulted_changes (s : State) (x : Fin 6) (bit detail : Nat) :
    Only (OffStatus x) s ((s.orBits S_DEV_FAULT bit).jDevice detail).recount :=
  Only.recount (State.jDevice_only (Only.refl.orBits (deviceFault_offStatus x).1) (deviceFault_offStatus x).2) (levels_offStatus x)
    (ends_offStatus x)

theorem quenched_changes (s : State) (x : Fin 6) : Only (OffStatus x) s (s.each allHbs (fun n s => s.quenchHb n 0)) :=
  Only.refl.each (fun n _ hw => hw.quenchHb (quenchParts_offStatus x n))

theorem Isolated.deviceFault {bit detail : Nat} (h : Isolated s x) : Isolated (s.deviceFault bit detail) x := by
  rw [deviceFault_eq]
  exact (State.each_keeps (Isolated · x) _ _ _ (fun y _ hw => hw.faultSection y) (h.only (quenched_changes s x))).only
    (faulted_changes _ x bit detail)

/-- A device fault isolates every running section (R158). -/
theorem isolated_deviceFault {bit detail : Nat} (h : Runs s x) : Isolated (s.deviceFault bit detail) x := by
  rw [deviceFault_eq]
  exact (isolated_each_faultSection (List.mem_finRange x) (Runs.only h (quenched_changes s x))).only (faulted_changes _ x bit detail)

/-- A section outside state 4 that is isolated stays so through what climbs from it (R149, R156). -/
theorem isolated_isolate {detail : Nat} (h : s.nat (S_STATE x) ≠ 4) : Isolated (s.isolate x detail) x := by
  have hcore := (isolated_isolateCore s x.val x detail).recount
  rw [State.isolate, State.isolateAt, if_neg h, State.checkDevice]
  split
  · exact hcore.deviceFault
  · exact hcore

/-! ### Entries are only added -/

/-- From s to u entries have been raised, and none is gone. -/
def Adds (s u : State) : Prop := ∃ l, Raises s u l

/-- Every part but the raised entries. -/
def offJournal : Part → Prop
  | .raised => False
  | _ => True

theorem Raises.trans {l m : List (Nat × Nat × Nat)} (h : Raises s u l) (g : Raises u v m) : Raises s v (l ++ m) := by
  unfold Raises at *
  rw [g, h, List.append_assoc]

theorem Raises.adds {e : Nat × Nat × Nat} (h : Raises s u [e]) (g : Adds u v) : ∃ l, Raises s v (e :: l) :=
  g.elim fun m hm => ⟨m, h.trans hm⟩

theorem raises_journal (s : State) (cls isl detail src : Nat) (data : Bytes) :
    Raises s (s.journal cls isl detail src data) [(cls, isl, detail)] := List.map_append ..

theorem raises_jSecData (s : State) (isl cls detail src : Nat) (y : Fin 6) (data : Bytes) :
    Raises s (s.jSecData isl cls detail src y data) [(cls, isl, detail)] := raises_journal ..

theorem Adds.trans (h : Adds s u) (g : Adds u v) : Adds s v :=
  h.elim fun l hl => g.elim fun m hm => ⟨l ++ m, hl.trans hm⟩

theorem raises_nil (h : u.raised = s.raised) : Raises s u [] := by rw [Raises, h, List.append_nil]

theorem Adds.refl : Adds s s := ⟨[], raises_nil rfl⟩

theorem Adds.only (h : Adds s u) (hv : Only offJournal u v) : Adds s v := h.trans ⟨[], raises_nil (hv .raised id)⟩

theorem Adds.journal {cls isl detail src : Nat} {data : Bytes} (h : Adds s u) : Adds s (u.journal cls isl detail src data) :=
  h.trans ⟨_, raises_journal ..⟩

theorem Adds.ite {c : Prop} [Decidable c] {a b : State} (ha : Adds s a) (hb : Adds s b) : Adds s (if c then a else b) := by
  split
  · exact ha
  · exact hb

theorem Adds.each {β : Type} {l : List β} {f : β → State → State} (h : Adds s u) (hf : ∀ b w, Adds s w → Adds s (f b w)) :
    Adds s (u.each l f) := State.each_keeps (Adds s) l f u hf h

theorem Adds.checkAxis {a : Fin 4} (h : Adds s u) : Adds s (u.checkAxis a) := by
  unfold State.checkAxis
  extract_lets k m before s1
  have h1 : Adds s s1 := h.only (Only.refl.modAx trivial)
  have hleave : Adds s ((s1.jAxis a 0x02).leaveLevel a lvCount) := (Adds.journal h1).only (State.leaveLevel_only .refl trivial trivial)
  have henter : Adds s ((s1.jAxis a 0x01).enterLevel a lvCount) := (Adds.journal h1).only (State.enterLevel_only .refl trivial trivial)
  exact .ite h (.ite (.ite hleave h1) (.ite (.ite ((Adds.journal h1).only (Only.refl.modAx trivial)) henter) h1))

theorem Adds.recount (h : Adds s u) : Adds s u.recount :=
  h.each (fun _ _ hw => .checkAxis (hw.only (State.countsOf_only .refl trivial trivial)))

theorem Adds.joinFail (h : Adds s u) : Adds s (u.joinFail y) := by
  unfold State.joinFail
  extract_lets s1 s2
  have hsec : Only offJournal u s2 := .ite
    (fun _ => Only.modSec ((Only.refl.set trivial).each (fun _ _ hw => State.dropPulse_only hw trivial trivial)) trivial)
    (fun _ => State.setSecState_only (State.allOff_only (Only.refl.set trivial) (fun _ => trivial) (fun _ => trivial) trivial)
      trivial trivial trivial trivial trivial trivial)
  exact .recount (.journal (h.only hsec))

/-- An isolation by itself raises one entry (R149). -/
theorem raises_isolateCore (s : State) (isl : Nat) (y : Fin 6) (detail : Nat) :
    Raises s (s.isolateCore isl y detail) [(3, isl, detail)] := by
  have hquiet : Only offJournal s (s.isolateQuiet y) := State.isolateQuiet_only .refl trivial trivial (fun _ => trivial)
    (fun _ => trivial) trivial trivial trivial trivial trivial trivial
  exact (raises_nil (hquiet .raised id)).trans (raises_jSecData (s.isolateQuiet y) isl 3 detail _ y _)

theorem Adds.faultSection (h : Adds s u) : Adds s (faultSection u y) :=
  .ite (h.trans ⟨_, raises_isolateCore ..⟩) (.ite h.joinFail h)

theorem Adds.deviceFault {bit detail : Nat} (h : Adds s u) : Adds s (u.deviceFault bit detail) := by
  have hquenched : Only offJournal u (u.each allHbs (fun n s => s.quenchHb n 0)) :=
    Only.refl.each (fun _ _ hw => State.quenchHb_only hw trivial trivial trivial trivial)
  have hsecs := (h.only hquenched).each (l := allSecs) (f := fun y s => Safety.faultSection s y) (fun _ _ hw => hw.faultSection)
  rw [deviceFault_eq]
  exact .recount (.journal (hsecs.only (Only.refl.orBits trivial)))

/-- An isolation raises its own entry first (R149). -/
theorem isolate_raises {detail : Nat} (h : s.nat (S_STATE x) ≠ 4) : ∃ l, Raises s (s.isolate x detail) ((3, x.val, detail) :: l) := by
  rw [State.isolate, State.isolateAt, if_neg h]
  exact (raises_isolateCore s x.val x detail).adds (.ite (Adds.refl.recount.deviceFault) Adds.refl.recount)

theorem Adds.isolate {detail : Nat} (h : Adds s u) : Adds s (u.isolate x detail) := by
  by_cases hstate : u.nat (S_STATE x) = 4
  · rwa [State.isolate, State.isolateAt, if_pos hstate]
  · exact (isolate_raises hstate).elim fun _ hl => h.trans ⟨_, hl⟩

theorem Adds.sectionOutcome {k : Nat} {p : Fin 3} {detail : Nat} (h : Adds s u) : Adds s (u.sectionOutcome x k p detail) :=
  .ite (.ite h.joinFail h) (.ite h (.ite h.isolate (.ite h.isolate (.ite (h.only (Only.refl.modSec trivial)) h.isolate))))

end Sys2Proof.Safety

/-! SUPPORT. The commands of the other trips: a handshake that times out, DC-link overvoltage, the VPD monitor, and the period of a
modulated chopper (R121, R145, R149, R152, R153, R158). -/

namespace Sys2Proof.Safety
open Sys2Proof.Machine Sys2Proof.Machine.Obj

variable {P : Part → Prop} {s u : State} {x : Fin 6} {n : Fin 18}

/-! ### What one trip touches -/

/-- Parts that a trip of half-bridge n may touch (R145, R148). -/
def tripOwn (n : Fin 18) : List Part := [.obj (S_Q_LATCH (secOf n)), .obj (S_Q_CAUSE n)] ++ tripRest n

theorem tripHb_own (s : State) (n : Fin 18) (c : Nat) : Only (· ∈ tripOwn n) s (s.tripHb n c) :=
  State.tripHb_only .refl (by simp [tripOwn, tripRest]) (by simp [tripOwn, tripRest]) (by simp [tripOwn, tripRest])
    (by simp [tripOwn, tripRest]) (by simp [tripOwn]) (by simp [tripOwn]) (by simp [tripOwn, tripRest]) (by simp [tripOwn, tripRest])

/-- A part of the trips of some half-bridge. -/
def InTrip (p : Part) : Prop := ∃ n, p ∈ tripOwn n

theorem Only.tripOwn {c : Nat} (h : Only InTrip s u) : Only InTrip s (u.tripHb n c) :=
  h.trans ((tripHb_own u n c).mono (fun _ hp => ⟨n, hp⟩))

theorem tripEach_changes (s : State) (x : Fin 6) (l : List (Fin 3 × Nat)) : Only InTrip s (tripEach s x l) :=
  Only.refl.each (fun _ _ hw => hw.tripOwn)

theorem raised_not_inTrip : ¬ InTrip .raised := by
  rintro ⟨n, hn⟩
  revert n
  decide +kernel

theorem offStatus_of_inTrip (x : Fin 6) {p : Part} (h : InTrip p) : OffStatus x p := by
  have hown : ∀ (x : Fin 6) (n : Fin 18), ∀ p ∈ Safety.tripOwn n, OffStatus x p := by decide +kernel
  exact h.elim (fun n hn => hown x n p hn)

theorem hbOf_secOf (n : Fin 18) : hbOf (secOf n) (phaseOf n) = n := by
  apply Fin.ext
  simp only [hbOf, secOf, phaseOf]
  omega

theorem Tripped.settle {c : Nat} (h : Tripped s n c) : Tripped s.settle n c :=
  h.keeps Steady.refl.settle (.of_only (settle_changes s) latch_not_mem_currentParts cause_not_mem_currentParts)

theorem Isolated.settle (h : Isolated s x) : Isolated s.settle x :=
  ⟨(settle_get_below s (by simp only [S_STATE]; omega)).trans h.state,
    (settle_get_below s (by simp only [S_ENABLE]; omega)).trans h.enable⟩

/-! ### A trip that is the first of its tick (R143, R145, R149) -/

/-- The trip is counted (R145). -/
structure TripCounted (s u : State) (n : Fin 18) : Prop where
  count : u.get (S_Q_COUNT n) = counted32 (s.get (S_Q_COUNT n)) 1
  trips : u.get (S_Q_TRIPS (secOf n)) = counted32 (s.get (S_Q_TRIPS (secOf n))) 1

theorem counts_not_in_caused : ∀ n : Fin 18, ∀ p ∈ [Part.obj (S_Q_COUNT n), .obj (S_Q_TRIPS (secOf n))],
    p ∉ [Part.obj (S_Q_LATCH (secOf n)), .obj (S_Q_CAUSE n)] ++ quenchParts n := by decide +kernel

theorem counts_not_in_outcome : ∀ n : Fin 18, ∀ p ∈ [Part.obj (S_Q_COUNT n), .obj (S_Q_TRIPS (secOf n))],
    ¬ (p ∈ isolateParts ∨ p ∈ Safety.ends) := by decide +kernel

theorem caused_changes (s : State) (n : Fin 18) (c : Nat) :
    Only (· ∈ [.obj (S_Q_LATCH (secOf n)), .obj (S_Q_CAUSE n)] ++ quenchParts n) s (caused s n c) :=
  ((Only.refl.quenchHb (fun p hp => List.mem_append_right _ hp)).orBits (by simp)).orBits (by simp)

theorem tripCounted_tripHb {c : Nat} (h : trippedNow s n = false) : TripCounted s (s.tripHb n c) n := by
  have htrip : s.tripHb n c = (((caused s n c).modHb n (fun h => { h with tripAt := some (caused s n c).tick })).inc (S_Q_COUNT n)).inc
      (S_Q_TRIPS (secOf n)) := if_neg (by rw [h]; decide)
  have hne : S_Q_COUNT n ≠ S_Q_TRIPS (secOf n) := by
    simp only [S_Q_COUNT, S_Q_TRIPS, secOf]
    omega
  have hget : ∀ k, .obj k ∈ [Part.obj (S_Q_COUNT n), .obj (S_Q_TRIPS (secOf n))] → (caused s n c).get k = s.get k :=
    fun k hk => caused_changes s n c (.obj k) (counts_not_in_caused n _ hk)
  constructor
  · rw [htrip, State.inc, State.addCount, State.get_set_ne _ _ hne, State.inc, State.addCount, State.get_set_self, State.modHb_get,
      hget _ (by simp)]
    rfl
  · rw [htrip, State.inc, State.addCount, State.get_set_self, State.inc, State.addCount, State.get_set_ne _ _ hne.symm,
      State.modHb_get, hget _ (by simp)]
    rfl

/-- The outcome of the section and its entries touch no count of trips. -/
theorem tripCounted_trip {p : Fin 3} {c : Nat} (h : trippedNow s (hbOf x p) = false) : TripCounted s (s.trip x [(p, c)]) (hbOf x p) := by
  have hfirst := tripCounted_tripHb (c := c) h
  have hget : ∀ k, .obj k ∈ [Part.obj (S_Q_COUNT (hbOf x p)), .obj (S_Q_TRIPS (secOf (hbOf x p)))] →
      (s.trip x [(p, c)]).get k = (s.tripHb (hbOf x p) c).get k :=
    fun k hk => (trip_follows s x [(p, c)]).2 (.obj k) (counts_not_in_outcome _ _ hk)
  exact ⟨(hget _ (by simp)).trans hfirst.count, (hget _ (by simp)).trans hfirst.trips⟩

/-- A single trip is journalled before the outcome of its section follows. -/
theorem trip_single {p : Fin 3} {c : Nat} (h : trippedNow s (hbOf x p) = false) : ∃ data, s.trip x [(p, c)] =
    ((s.tripHb (hbOf x p) c).jSecData x.val 2 (causeDetail c) (0x2008 + 0x100 * x.val + p.val) x data).sectionOutcome x 1 p 0x01 := by
  have hfresh : [(p, c)].filter (fun pc => !trippedNow s (hbOf x pc.1)) = [(p, c)] := by simp [h]
  unfold State.trip
  simp only [hfresh]
  exact ⟨_, rfl⟩

theorem trip_raises {p : Fin 3} {c : Nat} (h : trippedNow s (hbOf x p) = false) :
    ∃ l, Raises s (s.trip x [(p, c)]) ((2, x.val, causeDetail c) :: l) := by
  obtain ⟨data, htrip⟩ := trip_single (c := c) h
  have hquiet : (s.tripHb (hbOf x p) c).raised = s.raised := Only.refl.tripOwn .raised raised_not_inTrip
  rw [htrip]
  exact ((raises_nil hquiet).trans (raises_jSecData ..)).adds Adds.refl.sectionOutcome

/-- What a trip and its entry may touch. -/
def NotedTrip (p : Part) : Prop := InTrip p ∨ p = .raised ∨ ∃ y : Fin 6, p = .obj (S_Q_LAST y)

theorem get_of_notedTrip (h : Only NotedTrip s u) {k : Nat}
    (hk : k = SF_ANV_DEG_MAX_IN ∨ ∃ y : Fin 6, k = S_STATE y ∨ k = S_DEGRADE_EN y) : u.get k = s.get k := by
  have hoff : (∀ n : Fin 18, Part.obj SF_ANV_DEG_MAX_IN ∉ tripOwn n) ∧
      ∀ (n : Fin 18) (y : Fin 6), Part.obj (S_STATE y) ∉ tripOwn n ∧ Part.obj (S_DEGRADE_EN y) ∉ tripOwn n := by decide +kernel
  have hlast : ∀ y z : Fin 6, SF_ANV_DEG_MAX_IN ≠ S_Q_LAST z ∧ S_STATE y ≠ S_Q_LAST z ∧ S_DEGRADE_EN y ≠ S_Q_LAST z := by decide
  refine h (.obj k) ?_
  rintro (⟨n, hn⟩ | hr | ⟨z, hz⟩)
  · rcases hk with rfl | ⟨y, rfl | rfl⟩
    · exact hoff.1 n hn
    · exact (hoff.2 n y).1 hn
    · exact (hoff.2 n y).2 hn
  · exact Part.noConfusion hr
  · have hz := Part.obj.inj hz
    rcases hk with rfl | ⟨y, rfl | rfl⟩
    · exact (hlast 0 z).1 hz
    · exact (hlast y z).2.1 hz
    · exact (hlast y z).2.2 hz

theorem endWaits_keeps (s : State) (n : Fin 18) : SecKeeps s (s.endWaits n) := by
  unfold State.endWaits
  extract_lets s1
  have h1 : SecKeeps s s1 := .of_secs (by
    simp only [s1]
    split
    · rfl
    · rfl)
  exact h1.trans (modPwm_keeps _ _ _ (fun _ => rfl))

theorem quenchHb_keeps (s : State) (n : Fin 18) (c : Nat) : SecKeeps s (s.quenchHb n c) := by
  unfold State.quenchHb
  extract_lets soft codeH codeL chops s1
  have h1 : SecKeeps s s1 :=
    ((endWaits_keeps s n).trans (State.issueOff_keeps _ n true codeH false)).trans (State.issueOff_keeps _ n false codeL false)
  exact h1.trans (modPwm_keeps s1 _ _ (fun _ => rfl))

theorem tripHb_keeps (s : State) (n : Fin 18) (c : Nat) : SecKeeps s (s.tripHb n c) :=
  (quenchHb_keeps s n c).trans (.of_secs (by
    unfold State.tripHb
    extract_lets _ again s1 s2
    split
    · rfl
    · rfl))

/-- A degraded entry of section x is as much allowed behind a trip as before it (R59, R149). -/
theorem mayDegrade_of_notedTrip (h : Only NotedTrip s u) (hk : SecKeeps s u) (x : Fin 6) : mayDegrade u x = mayDegrade s x := by
  have hstate : ∀ y : Fin 6, u.get (S_STATE y) = s.get (S_STATE y) := fun y => get_of_notedTrip h (.inr ⟨y, .inl rfl⟩)
  have hen : u.get (S_DEGRADE_EN x) = s.get (S_DEGRADE_EN x) := get_of_notedTrip h (.inr ⟨x, .inr rfl⟩)
  have hmax : u.get SF_ANV_DEG_MAX_IN = s.get SF_ANV_DEG_MAX_IN := get_of_notedTrip h (.inl rfl)
  have hdue : ∀ y : Fin 6, (u.sec y).degDue = (s.sec y).degDue := fun y => by
    have := congrArg Sec.degDue (hk y)
    exact this
  simp only [mayDegrade, State.flag, State.nat, hstate, hen, hmax, hdue]
  rfl

/-- A running section that may not degrade is isolated (R149). -/
theorem sectionOutcome_of_running {k : Nat} {p : Fin 3} {detail : Nat} (hrun : Runs s x) (hno : mayDegrade s x = false) :
    s.sectionOutcome x k p detail = s.isolate x detail := by
  obtain ⟨hlow, hhigh⟩ := hrun
  unfold State.sectionOutcome
  dsimp only
  rw [if_neg (by omega), if_neg (by omega), if_neg (c := mayDegrade s x = true) (by rw [hno]; decide), ite_self, ite_self]

theorem isolated_trip {p : Fin 3} {c : Nat} (hfresh : trippedNow s (hbOf x p) = false) (hrun : Runs s x)
    (hno : mayDegrade s x = false) : Isolated (s.trip x [(p, c)]) x := by
  obtain ⟨data, htrip⟩ := trip_single (c := c) hfresh
  rw [htrip]
  generalize hw : (s.tripHb (hbOf x p) c).jSecData x.val 2 (causeDetail c) (0x2008 + 0x100 * x.val + p.val) x data = w
  have honly : Only NotedTrip s w := hw ▸ State.jSecData_only (Only.refl.tripOwn.mono (fun _ => .inl)) (.inr (.inl rfl))
    (.inr (.inr ⟨x, rfl⟩))
  have hkeeps : SecKeeps s w := hw ▸ (tripHb_keeps s (hbOf x p) c).trans (.of_secs rfl)
  have hstate : w.nat (S_STATE x) = s.nat (S_STATE x) := congrArg Int.toNat (get_of_notedTrip honly (.inr ⟨x, .inl rfl⟩))
  have hrun' : Runs w x := by rwa [Runs, hstate]
  rw [sectionOutcome_of_running hrun' (by rw [mayDegrade_of_notedTrip honly hkeeps, hno])]
  exact isolated_isolate (by omega)

/-! ### A handshake that times out (R121, R145) -/

theorem handshakeTimeout_of_elapsed {e : Nat × Nat} {r : List (Nat × Nat)} (he : (s.hb n).expects = e :: r)
    (hdue : e.2 + ns (s.nat (S_HS_TIMEOUT (secOf n))) ≤ s.now) :
    s.handshakeTimeout n = s.trip (secOf n) [(phaseOf n, causeTimeout)] := by
  unfold State.handshakeTimeout
  rw [he]
  exact if_pos hdue

/-- A handshake that times out trips its half-bridge (R121, R145, R149). -/
theorem handshakeTimeout_trips (t : Nat) {e : Nat × Nat} {r : List (Nat × Nat)} (hOn : On s (secOf n).val)
    (he : (s.hb n).expects = e :: r) (hdue : e.2 + ns (s.nat (S_HS_TIMEOUT (secOf n))) ≤ max s.now t) :
    Yields (.handshakeTimeout t n) s (fun u => Tripped u n causeTimeout ∧
      (trippedNow (s.at_ t) n = false → TripCounted s u n ∧ ∃ l, Raises s u ((2, (secOf n).val, 0x06) :: l)) ∧
      (trippedNow (s.at_ t) n = false → Runs s (secOf n) → mayDegrade s (secOf n) = false → Isolated u (secOf n)) ∧
      Frame (· ∈ tripParts (secOf n)) s u) := by
  have hexec : exec (.handshakeTimeout t n) s = .next ((s.at_ t).trip (secOf n) [(phaseOf n, causeTimeout)]).settle := by
    rw [exec_handshakeTimeout, execHandshakeTimeout, runOn_on (s := s.at_ t) hOn, handshakeTimeout_of_elapsed (s := s.at_ t) he hdue]
  refine ⟨_, hexec, ?_, fun hfresh => ?_, fun hfresh hrun hno => ?_, ?_⟩
  · have htrip := tripped_trip (x := secOf n) (List.mem_singleton_self (phaseOf n, causeTimeout)) (s.at_ t)
    rw [hbOf_secOf] at htrip
    exact htrip.settle
  · rw [← hbOf_secOf n] at hfresh
    have hcount := tripCounted_trip (c := causeTimeout) hfresh
    have hraise := trip_raises (c := causeTimeout) hfresh
    rw [hbOf_secOf] at hcount
    refine ⟨⟨?_, ?_⟩, ?_⟩
    · rw [settle_get_below _ (by simp only [S_Q_COUNT]; omega)]
      exact hcount.count
    · rw [settle_get_below _ (by simp only [S_Q_TRIPS]; omega)]
      exact hcount.trips
    · simp only [Raises, State.settle_raised]
      exact hraise
  · rw [← hbOf_secOf n] at hfresh
    exact (isolated_trip (s := s.at_ t) hfresh hrun hno).settle
  · exact Only.ends (Only.begins.trip (fun p hp => .inl hp) (fun p hp => .inr hp))

/-! ### DC-link overvoltage (R149, R152) -/

/-- The three half-bridges of a section, each with the cause of DC-link overvoltage. -/
def overvoltageCauses : List (Fin 3 × Nat) := [(0, causeDcOv), (1, causeDcOv), (2, causeDcOv)]

theorem tripOvervoltage_eq (s : State) (x : Fin 6) : s.tripOvervoltage x =
    if s.nat (S_STATE x) = 0 ∨ s.nat (S_STATE x) = 4 then
      let v := (tripEach s x overvoltageCauses).jSection 3 0x02 (0x200C + 0x100 * x.val) x none (s.nat (S_STATE x))
      if (v.sec x).join ≠ .none then v.joinFail x else v
    else (tripEach s x overvoltageCauses).isolate x 0x02 := rfl

/-- Behind the trips of an overvoltage come the entry and the outcome of the section. -/
theorem overvoltage_follows (s : State) (x : Fin 6) : Steady (tripEach s x overvoltageCauses) (s.tripOvervoltage x) ∧
    Only (fun p => p ∈ isolateParts ∨ p ∈ Safety.ends) (tripEach s x overvoltageCauses) (s.tripOvervoltage x) := by
  rw [tripOvervoltage_eq]
  have hi : Covers (fun p => p ∈ isolateParts ∨ p ∈ Safety.ends) isolateParts := fun _ => .inl
  have he : Covers (fun p => p ∈ isolateParts ∨ p ∈ Safety.ends) Safety.ends := fun _ => .inr
  split
  · extract_lets v
    have hv : Steady (tripEach s x overvoltageCauses) v := Steady.refl.only (State.jSection_only .refl trivial trivial)
    have hv' : Only (fun p => p ∈ isolateParts ∨ p ∈ Safety.ends) (tripEach s x overvoltageCauses) v :=
      State.jSection_only .refl (hi _ device_mem_isolateParts.1) (hi _ (section_mem_isolateParts x _ (by simp)))
    exact ⟨.ite hv.joinFail hv, .ite (fun _ => hv'.joinFail
      (fun p hp => hi p (faultParts_subset_isolateParts x p (joinParts_subset_faultParts hp))) he) (fun _ => hv')⟩
  · exact ⟨Steady.refl.isolate, Only.refl.isolate hi he⟩

theorem tripped_tripOvervoltage (s : State) (x : Fin 6) (p : Fin 3) : Tripped (s.tripOvervoltage x) (hbOf x p) causeDcOv := by
  have hmem : (p, causeDcOv) ∈ overvoltageCauses := by
    revert p
    decide
  exact (tripped_each hmem s).keeps (overvoltage_follows s x).1
    (.of_only (overvoltage_follows s x).2 latch_not_mem_isolateParts cause_not_mem_isolateParts)

/-- An overvoltage isolates a running section, with one entry (R149, R152). -/
theorem tripOvervoltage_of_running (hrun : Runs s x) :
    Isolated (s.tripOvervoltage x) x ∧ ∃ l, Raises s (s.tripOvervoltage x) ((3, x.val, 0x02) :: l) := by
  have hown := tripEach_changes s x overvoltageCauses
  have hrun' : Runs (tripEach s x overvoltageCauses) x := Runs.only hrun (hown.mono (fun _ => offStatus_of_inTrip x))
  obtain ⟨hlow, hhigh⟩ := hrun
  have hstate : (tripEach s x overvoltageCauses).nat (S_STATE x) ≠ 4 := by omega
  rw [tripOvervoltage_eq, if_neg (by omega)]
  refine ⟨isolated_isolate hstate, ?_⟩
  obtain ⟨l, hl⟩ := isolate_raises (detail := 0x02) hstate
  exact ⟨l, (raises_nil (hown .raised raised_not_inTrip)).trans hl⟩

/-- DC-link overvoltage trips all three half-bridges and isolates the section (R149, R152). -/
theorem dcLinkOvervoltage_trips (t : Nat) (hOn : On s (25 + x.val)) :
    Yields (.dcLinkOvervoltage t x) s (fun u => (∀ p : Fin 3, Tripped u (hbOf x p) causeDcOv) ∧
      (Runs s x → Isolated u x ∧ ∃ l, Raises s u ((3, x.val, 0x02) :: l)) ∧ Frame (· ∈ tripParts x) s u) := by
  have hexec : exec (.dcLinkOvervoltage t x) s = .next ((s.at_ t).tripOvervoltage x).settle := by
    rw [exec_dcLinkOvervoltage, execDcLinkOvervoltage, runOn_on (s := s.at_ t) hOn]
  refine ⟨_, hexec, fun p => (tripped_tripOvervoltage (s.at_ t) x p).settle, fun hrun => ?_, ?_⟩
  · obtain ⟨hiso, hraise⟩ := tripOvervoltage_of_running (s := s.at_ t) hrun
    refine ⟨hiso.settle, ?_⟩
    simp only [Raises, State.settle_raised]
    exact hraise
  · have htrips : Only (fun p => p ∈ tripParts x ∨ p ∈ Safety.ends) s (tripEach (s.at_ t) x overvoltageCauses) :=
      Only.begins.each (fun _ _ hw => hw.tripHb (fun _ => .inl))
    exact Only.ends (htrips.trans ((overvoltage_follows (s.at_ t) x).2.mono
      (fun p hp => hp.imp (fun hi => isolateParts_subset_tripParts x hi) id)))

/-! ### The VPD monitor (R116, R145, R158) -/

/-- What one member of a list brings about, and no member undoes, holds behind the list. -/
theorem each_establishes {β : Type} {Q : State → Prop} {f : β → State → State} {l : List β} {b : β}
    (hkeep : ∀ c v, Q v → Q (f c v)) (hb : b ∈ l) (hf : ∀ v, Q (f b v)) (s : State) : Q (s.each l f) := by
  induction l generalizing s with
  | nil => simp at hb
  | cons c r ih =>
    rcases List.mem_cons.mp hb with rfl | hr
    · exact State.each_keeps Q r f _ hkeep (hf s)
    · exact ih hr (f c s)

/-- All 18 half-bridges trip. -/
def vpdTripped (s : State) : State := s.each allHbs (fun n s => s.tripHb n causeVpd)

theorem tripped_vpdTripped (s : State) (n : Fin 18) : Tripped (vpdTripped s) n causeVpd :=
  each_establishes (Q := (Tripped · n causeVpd)) (f := fun m v => v.tripHb m causeVpd) (fun _ _ hw => hw.tripHb) (List.mem_finRange n)
    (fun v => tripped_tripHb v n causeVpd) s

theorem vpdTripped_changes (s : State) : Only InTrip s (vpdTripped s) := Only.refl.each (fun _ _ hw => hw.tripOwn)

/-- Both pins of a half-bridge without VPD are high impedance (R116). -/
def unpowered (h : Hb) : Hb := { h with hi := { h.hi with st := .highZ }, lo := { h.lo with st := .highZ } }

/-- The pins of every half-bridge are high impedance (R116). -/
def allUnpowered (s : State) : State := s.each allHbs (fun n s => s.modHb n unpowered)

theorem vpdTrip_eq (s : State) :
    s.vpdTrip = allUnpowered ((vpdTripped (s.orBits PW_RAIL_STATUS 0x20)).deviceFault 1 0x01) := rfl

theorem allUnpowered_changes (s : State) : Only (fun p => ∃ n, p = .hb n) s (allUnpowered s) :=
  Only.refl.each (fun n _ hw => hw.modHb ⟨n, rfl⟩)

/-- Both pins of half-bridge n are high impedance. -/
def Floats (n : Fin 18) (s : State) : Prop := (s.hb n).hi.st = .highZ ∧ (s.hb n).lo.st = .highZ

theorem floats_unpowered (s : State) (n : Fin 18) : Floats n (s.modHb n unpowered) := by
  rw [Floats, State.hb_modHb_self]
  exact ⟨rfl, rfl⟩

theorem Floats.unpowered (m : Fin 18) (h : Floats n s) : Floats n (s.modHb m unpowered) := by
  by_cases hm : n = m
  · subst hm
    exact floats_unpowered s n
  · rwa [Floats, State.hb_modHb_ne _ _ hm]

theorem floats_allUnpowered (s : State) (n : Fin 18) : Floats n (allUnpowered s) :=
  each_establishes (Q := Floats n) (fun m _ hw => hw.unpowered m) (List.mem_finRange n) (fun v => floats_unpowered v n) s

theorem Floats.settle (h : Floats n s) : Floats n s.settle := by
  rwa [Floats, State.hb, State.settle_hbs, ← State.hb]

theorem steady_allUnpowered (s : State) : Steady s (allUnpowered s) :=
  Steady.refl.each (fun _ _ hw => hw.modHb (fun _ => ⟨rfl, id, id⟩))

/-- A device fault sets its bit (R158). -/
theorem deviceFault_sets (s : State) (i detail : Nat) : bitOf ((s.deviceFault (2 ^ i) detail).nat S_DEV_FAULT) i = true := by
  rw [deviceFault_eq]
  generalize (s.each allHbs (fun n s => s.quenchHb n 0)).each allSecs (fun y s => faultSection s y) = w
  have hcounts : ∀ a : Fin 4, S_DEV_FAULT ≠ A_SECTIONS a ∧ S_DEV_FAULT ≠ A_CASCADE_SECTIONS a ∧ S_DEV_FAULT ≠ A_FAULT_STATE a := by
    decide
  have honly : Only (· ≠ .obj S_DEV_FAULT) (w.orBits S_DEV_FAULT (2 ^ i)) ((w.orBits S_DEV_FAULT (2 ^ i)).jDevice detail).recount :=
    State.recount_only (State.jDevice_only .refl (by simp)) (fun a => by simpa using (hcounts a).1.symm)
      (fun a => by simpa using (hcounts a).2.1.symm) (by simp) (by simp) (fun a => by simpa using (hcounts a).2.2.symm)
  have hbit : (((w.orBits S_DEV_FAULT (2 ^ i)).jDevice detail).recount).nat S_DEV_FAULT = w.nat S_DEV_FAULT ||| 2 ^ i :=
    (congrArg Int.toNat (honly (.obj _) (by simp))).trans ((nat_orBits ..).trans (if_pos rfl))
  rw [hbit, bitOf_eq_testBit, Nat.testBit_or, Nat.testBit_two_pow_self, Bool.or_true]

/-- Parts that the trips and the device fault of a lost VPD may touch. -/
def VpdPart (p : Part) : Prop := InTrip p ∨ p ∈ isolateParts ∨ p ∈ Safety.ends

theorem only_vpdTrip (s : State) : Only VpdPart (s.orBits PW_RAIL_STATUS 0x20) s.vpdTrip := by
  have htrip : Only VpdPart (s.orBits PW_RAIL_STATUS 0x20) (vpdTripped (s.orBits PW_RAIL_STATUS 0x20)) :=
    (vpdTripped_changes _).mono (fun _ => .inl)
  have hfault := htrip.deviceFault (bit := 1) (detail := 0x01) (fun _ hp => .inr (.inl hp)) (fun _ hp => .inr (.inr hp))
  rw [vpdTrip_eq]
  refine hfault.trans ((allUnpowered_changes _).mono ?_)
  rintro _ ⟨n, rfl⟩
  exact .inr (.inl (bridge_mem_isolateParts n).1)

/-- Behind the trips a lost VPD turns no switch on and forgets no latch. -/
theorem tripped_vpdTrip (s : State) (n : Fin 18) : Tripped s.vpdTrip n causeVpd := by
  rw [vpdTrip_eq]
  generalize hw : vpdTripped (s.orBits PW_RAIL_STATUS 0x20) = w
  have hfault : Only (fun p => p ∈ isolateParts ∨ p ∈ Safety.ends) w (w.deviceFault 1 0x01) :=
    Only.refl.deviceFault (fun _ => .inl) (fun _ => .inr)
  have honly : Only (fun p => p ∈ isolateParts ∨ p ∈ Safety.ends) w (allUnpowered (w.deviceFault 1 0x01)) := by
    refine hfault.trans ((allUnpowered_changes _).mono ?_)
    rintro _ ⟨m, rfl⟩
    exact .inl (bridge_mem_isolateParts m).1
  exact (hw ▸ tripped_vpdTripped _ n).keeps (Steady.refl.deviceFault.trans (steady_allUnpowered _))
    (.of_only honly latch_not_mem_isolateParts cause_not_mem_isolateParts)

theorem floats_vpdTrip (s : State) (n : Fin 18) : Floats n s.vpdTrip := by
  rw [vpdTrip_eq]
  exact floats_allUnpowered _ n

theorem isolated_vpdTrip (hrun : Runs s x) : Isolated s.vpdTrip x := by
  have hrail : ∀ x : Fin 6, OffStatus x (.obj PW_RAIL_STATUS) := by decide
  have hrun' : Runs (vpdTripped (s.orBits PW_RAIL_STATUS 0x20)) x :=
    Runs.only hrun ((Only.refl.orBits (hrail x)).trans ((vpdTripped_changes _).mono (fun _ => offStatus_of_inTrip x)))
  rw [vpdTrip_eq]
  refine (isolated_deviceFault hrun').only ((allUnpowered_changes _).mono ?_)
  rintro _ ⟨n, rfl⟩
  simp [OffStatus]

theorem railBit_set (s : State) : bitOf ((s.orBits PW_RAIL_STATUS 0x20).nat PW_RAIL_STATUS) 5 = true := by
  rw [nat_orBits, if_pos rfl, bitOf_eq_testBit, Nat.testBit_or, show (0x20 : Nat) = 2 ^ 5 from rfl, Nat.testBit_two_pow_self,
    Bool.or_true]

theorem railStatus_vpdTrip (s : State) : bitOf (s.vpdTrip.nat PW_RAIL_STATUS) 5 = true := by
  have hrail : ¬ VpdPart (.obj PW_RAIL_STATUS) := by
    have hown : ∀ n : Fin 18, Part.obj PW_RAIL_STATUS ∉ tripOwn n := by decide +kernel
    rintro (⟨n, hn⟩ | hp)
    · exact hown n hn
    · revert hp
      decide +kernel
  rw [State.nat, show s.vpdTrip.get PW_RAIL_STATUS = _ from only_vpdTrip s (.obj _) hrail]
  exact railBit_set s

theorem deviceFault_vpdTrip (s : State) : bitOf (s.vpdTrip.nat S_DEV_FAULT) 0 = true := by
  rw [vpdTrip_eq]
  generalize vpdTripped (s.orBits PW_RAIL_STATUS 0x20) = w
  have hpins : (allUnpowered (w.deviceFault 1 0x01)).get S_DEV_FAULT = (w.deviceFault 1 0x01).get S_DEV_FAULT :=
    allUnpowered_changes _ (.obj _) (by simp)
  rw [State.nat, hpins]
  exact deviceFault_sets w 0 0x01

theorem inTrip_subset_tripParts {p : Part} (h : InTrip p) : p ∈ allSecs.flatMap tripParts := by
  obtain ⟨n, hn⟩ := h
  rw [← hbOf_secOf n] at hn
  refine List.mem_flatMap.mpr ⟨secOf n, List.mem_finRange _, ?_⟩
  simp only [tripOwn, secOf_hbOf, List.cons_append, List.nil_append, List.mem_cons] at hn
  rcases hn with rfl | rfl | hrest
  · exact latch_mem_tripParts _
  · exact cause_mem_tripParts _ _
  · exact tripRest_subset_tripParts _ _ hrest

theorem isolateParts_subset_allTripParts {p : Part} (h : p ∈ isolateParts) : p ∈ allSecs.flatMap tripParts :=
  List.mem_flatMap.mpr ⟨0, List.mem_finRange 0, isolateParts_subset_tripParts 0 h⟩

/-- On a device in reset a low VPD shows in its bit alone (R117, R459). -/
theorem vpdMonitorTrip_shows (t : Nat) (hOn : On s islPower) (hdown : deviceUp s = false) :
    Yields (.vpdMonitorTrip t) s (fun u => bitOf (u.nat PW_RAIL_STATUS) 5 = true ∧ Frame (· ∈ [.obj PW_RAIL_STATUS]) s u) := by
  have hexec : exec (.vpdMonitorTrip t) s = .next ((s.at_ t).orBits PW_RAIL_STATUS 0x20).settle := by
    rw [exec_vpdMonitorTrip, execVpdMonitorTrip, runOn_on (s := s.at_ t) hOn,
      if_neg (show ¬ deviceUp (s.at_ t) = true from Bool.eq_false_iff.mp hdown)]
  refine ⟨_, hexec, ?_, Only.ends (Only.begins.orBits (.inl List.mem_cons_self))⟩
  rw [settle_nat_below _ (by decide)]
  exact railBit_set _

/-- On a device out of reset a low VPD trips every half-bridge and faults the device (R116, R145, R158). -/
theorem vpdMonitorTrip_trips (t : Nat) (hOn : On s islPower) (hup : deviceUp s = true) :
    Yields (.vpdMonitorTrip t) s (fun u => (∀ n : Fin 18, Tripped u n causeVpd ∧ Floats n u) ∧
      bitOf (u.nat PW_RAIL_STATUS) 5 = true ∧ bitOf (u.nat S_DEV_FAULT) 0 = true ∧ (∀ x : Fin 6, Runs s x → Isolated u x) ∧
      Frame (fun p => p = .obj PW_RAIL_STATUS ∨ p ∈ allSecs.flatMap tripParts) s u) := by
  have hexec : exec (.vpdMonitorTrip t) s = .next (s.at_ t).vpdTrip.settle := by
    rw [exec_vpdMonitorTrip, execVpdMonitorTrip, runOn_on (s := s.at_ t) hOn, if_pos (show deviceUp (s.at_ t) = true from hup)]
  refine ⟨_, hexec, fun n => ⟨(tripped_vpdTrip _ n).settle, (floats_vpdTrip _ n).settle⟩, ?_, ?_,
    fun x hrun => (isolated_vpdTrip (s := s.at_ t) hrun).settle, ?_⟩
  · rw [settle_nat_below _ (by decide)]
    exact railStatus_vpdTrip _
  · rw [settle_nat_below _ (by decide)]
    exact deviceFault_vpdTrip _
  · refine Only.ends ((Only.begins.orBits (.inl (.inl rfl))).trans ((only_vpdTrip (s.at_ t)).mono ?_))
    rintro p (hp | hp | hp)
    · exact .inl (.inr (inTrip_subset_tripParts hp))
    · exact .inl (.inr (isolateParts_subset_allTripParts hp))
    · exact .inr hp

/-! ### The modulated brake chopper (R153) -/

/-- A period of the modulated chopper starts with the latest duty (R153). -/
def chopperPeriod (s : State) (x : Fin 6) (f : Nat) : State :=
  (s.modSec x (fun c => { c with brkStart := s.now, brk := decide (0 < (s.sec x).brkDuty),
                                 brkEnd := some (s.now + (s.sec x).brkDuty * 400000 / f) })).set (S_BRK_DUTY x) (s.sec x).brkDuty

theorem brakePeriod_of_due (hmode : s.nat (S_BRK_MODE x) = 2) (hdue : (s.sec x).brkStart + 4000000000 / s.nat (S_BRK_FREQ x) ≤ s.now) :
    s.brakePeriod x = chopperPeriod (s.brakeAccount x) x (s.nat (S_BRK_FREQ x)) := if_pos ⟨hmode, hdue⟩

theorem sec_set (s : State) (k : Nat) (i : Int) (x : Fin 6) : (s.set k i).sec x = s.sec x := rfl

theorem brakeAccount_brkDuty (s : State) (x : Fin 6) : ((s.brakeAccount x).sec x).brkDuty = (s.sec x).brkDuty := by
  unfold State.brakeAccount
  extract_lets c stop frac on
  rw [sec_set, State.sec_modSec_self]

/-- A period of the modulated chopper is on for its duty (R153). -/
theorem brakeChopperPeriod_starts (t : Nat) (hOn : On s x) (hmode : s.nat (S_BRK_MODE x) = 2)
    (hdue : (s.sec x).brkStart + 4000000000 / s.nat (S_BRK_FREQ x) ≤ max s.now t) :
    Yields (.brakeChopperPeriod t x) s (fun u =>
      (u.sec x).brkStart = u.now ∧ (u.sec x).brk = decide (0 < (s.sec x).brkDuty) ∧
      (u.sec x).brkEnd = some (u.now + (s.sec x).brkDuty * 400000 / s.nat (S_BRK_FREQ x)) ∧
      u.nat (S_BRK_DUTY x) = (s.sec x).brkDuty ∧ Frame (· ∈ [.sec x, .obj (S_BRK_TIME x), .obj (S_BRK_DUTY x)]) s u) := by
  let w := (s.at_ t).brakeAccount x
  let u := (chopperPeriod w x (s.nat (S_BRK_FREQ x))).settle
  have hexec : exec (.brakeChopperPeriod t x) s = .next u := by
    rw [exec_brakeChopperPeriod, execBrakeChopperPeriod, runOn_on (s := s.at_ t) hOn, brakePeriod_of_due (s := s.at_ t) hmode hdue]
    rfl
  have hduty : (w.sec x).brkDuty = (s.sec x).brkDuty := brakeAccount_brkDuty (s.at_ t) x
  have hnow : u.now = w.now := State.settle_now _
  have hsec : u.sec x = { w.sec x with brkStart := u.now, brk := decide (0 < (s.sec x).brkDuty),
                                       brkEnd := some (u.now + (s.sec x).brkDuty * 400000 / s.nat (S_BRK_FREQ x)) } := by
    rw [hnow, ← hduty, settle_sec, chopperPeriod, sec_set, State.sec_modSec_self]
  refine ⟨u, hexec, by rw [hsec], by rw [hsec], by rw [hsec], ?_, ?_⟩
  · rw [settle_nat_below _ (by simp only [S_BRK_DUTY]; omega), chopperPeriod, State.nat_set, if_pos rfl, Int.toNat_natCast, hduty]
  · exact Only.ends (((State.brakeAccount_only Only.begins (.inl (by simp)) (.inl (by simp))).modSec (.inl (by simp))).set
      (.inl (by simp)))

/-- Settles O14: what follows a trip turns no switch on and forgets no latch, so what trips is tripped at the end; an isolation and
a device fault leave a running section in state 4, and raise their entries behind those of the trip. -/
theorem tripCommands : Obligations.TripCommands := by
  refine ⟨?_, ?_, ?_, ?_, ?_⟩
  · intro s t n e r hOn he hdue
    obtain ⟨u, hexec, htrip, hfresh, hiso, hframe⟩ := handshakeTimeout_trips t hOn he hdue
    refine ⟨u, hexec, htrip, fun h => ?_, fun h hrun hno => ?_, hframe⟩
    · obtain ⟨hcount, hraise⟩ := hfresh h
      exact ⟨hcount.count, hcount.trips, hraise⟩
    · exact ⟨(hiso h hrun hno).state, (hiso h hrun hno).enable⟩
  · intro s t x hOn
    obtain ⟨u, hexec, htrip, hiso, hframe⟩ := dcLinkOvervoltage_trips t hOn
    refine ⟨u, hexec, htrip, fun hrun => ?_, hframe⟩
    obtain ⟨hstate, hraise⟩ := hiso hrun
    exact ⟨hstate.state, hstate.enable, hraise⟩
  · exact fun s t hOn hdown => vpdMonitorTrip_shows t hOn hdown
  · intro s t hOn hup
    obtain ⟨u, hexec, htrip, hrail, hfault, hiso, hframe⟩ := vpdMonitorTrip_trips t hOn hup
    exact ⟨u, hexec, fun n => ⟨(htrip n).1, (htrip n).2⟩, hrail, hfault, fun x hrun => (hiso x hrun).state, hframe⟩
  · exact fun s t x hOn hmode hdue => brakeChopperPeriod_starts t hOn hmode hdue

end Sys2Proof.Safety

/-! SUPPORT. A state in which the clear of a section journals and counts more than its statement says: the envelope in force bounds
the strength codes below S_TMP_INIT, so the codes that the clear resets are clipped (R131, R154, R282, R283). -/

namespace Sys2Proof.Safety
open Sys2Proof.Machine Sys2Proof.Machine.Obj

/-- Level 0 stands on section 0, and a confirmed configuration that bounds the strength codes by 31 waits to come into force. -/
def boundsCodesNext : State :=
  { atDefaults [(S_HSS_LEVEL 0, 0), (S_HSS_LEVEL 1, 0), (S_HSS_LEVEL 2, 0)] with confirming := some (0, [(SF_ANV_CODE_HI, 31)]) }

/-- The configuration has come into force, and at 1 µs the DC link has tripped section 0. -/
def trippedWithinBounds : State := afterCommands boundsCodesNext [.configurationStored 0, .dcLinkOvervoltage (us 1) 0]

/-- The firmware's clear is allowed and succeeds. Codes are to take S_TMP_INIT, which the envelope in force does not let through, and
the 72 codes of the device have been clipped once already. -/
theorem trippedWithinBounds_clearable :
    allowed (trippedWithinBounds.at_ (us 1)) byFirmware (S_Q_CLEAR (0 : Fin 6)) 1 = true ∧
    let g := judged (trippedWithinBounds.at_ (us 1)) byFirmware (S_Q_CLEAR (0 : Fin 6))
    (g.nat (S_STATE (0 : Fin 6)) = 0 ∧ noCause g 0 = true) ∧ g.get SF_ANV_CODE_HI_IN < g.get (S_TMP_INIT (0 : Fin 6)) ∧
      g.get SF_ANV_CLIPS = 72 := by decide +kernel

/-- The clear clips each of the twelve codes that it resets. -/
theorem exec_faultClear_trippedWithinBounds :
    ∃ u, exec (.faultClear (us 1) byFirmware 0) trippedWithinBounds = .next u ∧ u.get SF_ANV_CLIPS = 84 :=
  ⟨_, rfl, by decide +kernel⟩

/-- Refutes O15: a clear that resets the strength codes clips them where S_TMP_INIT lies outside the envelope in force, with an entry
each, and SF_ANV_CLIPS counts every clip (R282, R283), while the statement names the entry of the clear alone and keeps
SF_ANV_CLIPS. -/
theorem not_quenchClearCommands : ¬ Obligations.QuenchClearCommands := by
  intro h
  obtain ⟨hclear, -, -⟩ := h
  obtain ⟨hallowed, -, -, hbefore⟩ := trippedWithinBounds_clearable
  obtain ⟨u, hexec, -, -, hframe⟩ := hclear trippedWithinBounds (us 1) byFirmware 0 hallowed
  obtain ⟨v, hexec', hafter⟩ := exec_faultClear_trippedWithinBounds
  cases hexec.symm.trans hexec'
  have hkept : u.get SF_ANV_CLIPS = (judged (trippedWithinBounds.at_ (us 1)) byFirmware (S_Q_CLEAR (0 : Fin 6))).get SF_ANV_CLIPS :=
    hframe (.obj SF_ANV_CLIPS) (by decide +kernel)
  rw [hafter, hbefore] at hkept
  exact absurd hkept (by decide)

end Sys2Proof.Safety


/-! SUPPORT. States in which a run of a slot, a slot that is turned off and a lane that fails its self-test do not end as their
statements say. Each holds a value that the spec gives no device (a count beyond its word, a logical lane beyond 5, a wake-up of class 1
held back), and that the statements, which range over every state, do not exclude (R162, R164, R172, R184, R457). -/

namespace Sys2Proof.Safety
open Sys2Proof.Machine Sys2Proof.Machine.Obj

variable {s : State} {k : Fin 48}

/-! ### A run that does not saturate -/

/-- Every part but the count of saturations of slot k. -/
abbrev OffSatCount (k : Fin 48) (p : Part) : Prop := p ≠ .obj (K_SAT_COUNT k)

/-- The other objects that a run of slot k writes (R164, R165). -/
theorem runObjects_offSatCount : ∀ k : Fin 48, ∀ j ∈ [K_X k, K_RUNS k, K_CLAMP_COUNT k, K_Y k, K_LAST_DELAY k, K_MAX_DELAY k],
    OffSatCount k (.obj j) := by decide +kernel

theorem overrun_offSatCount (k j : Fin 48) : OffSatCount k (.obj (K_OVERRUN j)) := by
  simp only [OffSatCount, ne_eq, Part.obj.injEq, K_OVERRUN, K_SAT_COUNT]
  omega

theorem axisFault_offSatCount (k : Fin 48) (a : Nat) : OffSatCount k (.obj (A_FAULT_STATE a)) := by
  simp only [OffSatCount, ne_eq, Part.obj.injEq, A_FAULT_STATE, K_SAT_COUNT]
  omega

/-- The oldest run of a slot completes with the histories as they stand, where it passes its check and no twin of it fails (R164,
R182). -/
theorem slotOutput_of_passed {r : Run} {rest : List Run} {twinPass : Bool} (hruns : (s.slot k).runs = r :: rest)
    (hdue : r.issued + ns 50 ≤ s.now) (hpre : r.pre = none) (htwin : twinLane s k r = none ∨ twinPass = true) :
    s.slotOutput k true twinPass =
      ((s.modSlot k (fun c => { c with runs := rest, hist := (s.slot k).hist })).twinRun k r (twinPass && !r.apart)).completeRun k r
        (s.slot k).hist := by
  simp only [State.slotOutput, hruns, if_pos hdue, hpre, Bool.true_and]
  rcases htwin with htwin | htwin
  · simp only [htwin, if_true]
  · subst htwin
    simp only [if_true]
    cases twinLane s k r <;> rfl

/-- A run whose sum fits in 32 bits counts no saturation (R164). -/
theorem Only.completeRun_of_fits {v : State} {r : Run} {h : Hist} (hfits : (slotResult r.set r.x h r.tlim).2.1 = false)
    (hv : Only (OffSatCount k) s v) : Only (OffSatCount k) s (v.completeRun k r h) := by
  have hobj := runObjects_offSatCount k
  unfold State.completeRun
  simp only [hfits, Bool.false_eq_true, if_false]
  refine State.chain_only (State.deliver_only ?_ (by simp) (by simp) (axisFault_offSatCount k)) (by simp) (by simp) (by simp)
    (overrun_offSatCount k)
  refine Only.set (Only.set (Only.set (Only.ite (fun _ => Only.inc ?_ ?_) (fun _ => ?_)) ?_) ?_) ?_
  any_goals exact hobj _ (by simp)
  all_goals exact ((hv.modSlot (by simp)).set (hobj _ (by simp))).inc (hobj _ (by simp))

/-- Where no event is counted, the count of saturations stays as it is (R164). -/
theorem slotOutput_satCount_of_fits {r : Run} {rest : List Run} {twinPass : Bool} (hruns : (s.slot k).runs = r :: rest)
    (hdue : r.issued + ns 50 ≤ s.now) (hpre : r.pre = none) (htwin : twinLane s k r = none ∨ twinPass = true)
    (hfits : (slotResult r.set r.x (s.slot k).hist r.tlim).2.1 = false) :
    (s.slotOutput k true twinPass).get (K_SAT_COUNT k) = s.get (K_SAT_COUNT k) := by
  rw [slotOutput_of_passed hruns hdue hpre htwin]
  have hbegun : Only (OffSatCount k) s (s.modSlot k (fun c => { c with runs := rest, hist := (s.slot k).hist })) :=
    Only.refl.modSlot (by simp)
  exact (State.twinRun_only hbegun (by simp)).completeRun_of_fits hfits (.obj _) (fun h => h rfl)

/-- The command of such an output leaves it too. -/
theorem slotOutput_keeps_satCount (t : Nat) {r : Run} {rest : List Run} {twinPass : Bool} (hruns : (s.slot k).runs = r :: rest)
    (hdue : r.issued + ns 50 ≤ max s.now t) (hpre : r.pre = none) (htwin : twinLane s k r = none ∨ twinPass = true)
    (hfits : (slotResult r.set r.x (s.slot k).hist r.tlim).2.1 = false) :
    Yields (.slotOutput t k ⟨true, twinPass⟩) s (fun u => u.get (K_SAT_COUNT k) = s.get (K_SAT_COUNT k)) := by
  have hkey : K_SAT_COUNT k < 0x500000 := by simp only [K_SAT_COUNT]; omega
  exact ⟨_, rfl, (settle_get_below _ hkey).trans (slotOutput_satCount_of_fits (s := s.at_ t) hruns hdue hpre htwin hfits)⟩

/-- A run of input 0 with the coefficients of reset, issued at instant 0. -/
def zeroRun : Run := ⟨0, 0, Slot.defaults, 0, none, none, 0, false, none⟩

/-- This run of slot 0 is in flight, and the slot's count of saturations lists 2^32, which no U32 holds. -/
def countsBeyondWord : State := (atDefaults [(K_SAT_COUNT 0, 4294967296)]).modSlot 0 (fun c => { c with runs := [zeroRun] })

theorem countsBeyondWord_completes :
    (countsBeyondWord.slot 0).runs = [zeroRun] ∧ zeroRun.issued + ns 50 ≤ max countsBeyondWord.now (ns 50) ∧
    (slotResult zeroRun.set zeroRun.x (countsBeyondWord.slot 0).hist zeroRun.tlim).2.1 = false ∧
    countsBeyondWord.get (K_SAT_COUNT (0 : Fin 48)) = 4294967296 := by decide +kernel

/-- Refutes O18: a run that does not saturate leaves K_SAT_COUNT as it stands, while the statement reduces the count modulo 2^32 even
then, and does not ask that it lies within its word. -/
theorem not_slotRunCommands : ¬ Obligations.SlotRunCommands := by
  intro h
  obtain ⟨-, -, hpassed, -⟩ := h
  obtain ⟨hruns, hdue, hfits, hcount⟩ := countsBeyondWord_completes
  obtain ⟨u, hexec, -, -, -, hwrapped, -⟩ := hpassed countsBeyondWord (ns 50) 0 zeroRun [] true hruns hdue rfl rfl (.inr rfl)
  obtain ⟨v, hexec', hkept⟩ := slotOutput_keeps_satCount (ns 50) hruns hdue rfl (.inr rfl) hfits
  cases hexec.symm.trans hexec'
  rw [hkept, hfits, hcount] at hwrapped
  exact absurd hwrapped (by decide)

/-! ### A hand-over that ends as a slot is turned off -/

/-- A rotation hands a logical lane over, and no slot of it is left to move. Its number is none of a lane: K_LANE_MAP of it is K_ENABLE
of slot 0, which is on. -/
def mapsOntoEnable : State :=
  let s := atDefaults [(K_ENABLE 0, 1)]
  { s with lanes := { s.lanes with rot := some ⟨K_ENABLE 0 - K_LANE_MAP 0, 6, [], none, [], [], true, []⟩ } }

theorem mapsOntoEnable_allowed : allowed (mapsOntoEnable.at_ 0) byFirmware (K_ENABLE (0 : Fin 48)) (flagInt false) = true := by
  decide +kernel

/-- Turning slot 0 off ends the hand-over, which then writes the spare over K_ENABLE. -/
theorem exec_slotEnable_mapsOntoEnable :
    ∃ u, exec (.slotEnable 0 byFirmware 0 false) mapsOntoEnable = .next u ∧ u.flag (K_ENABLE (0 : Fin 48)) = true :=
  ⟨_, rfl, by decide +kernel⟩

/-- Refutes O19: a slot that is turned off can end a hand-over (R183), which writes K_LANE_MAP of whatever number the rotation holds for
its logical lane. The statement does not bound that number by 6, and says that K_ENABLE reads as written. -/
theorem not_slotWriteCommands : ¬ Obligations.SlotWriteCommands := by
  intro h
  obtain ⟨henable, -⟩ := h
  obtain ⟨u, hexec, -, hwritten, -⟩ := henable mapsOntoEnable 0 byFirmware 0 false mapsOntoEnable_allowed
  obtain ⟨v, hexec', hon⟩ := exec_slotEnable_mapsOntoEnable
  cases hexec.symm.trans hexec'
  rw [hon] at hwritten
  exact absurd hwritten (by decide)

/-! ### A lane that fails its self-test -/

/-- The wake-up of a domain that goes off is not held back any longer (R457, R466). -/
theorem sleep_power {d : Nat} (hon : s.nat (PW_DOM_STATE d) ≠ 4) :
    (s.sleep d).power = { s.power with waiting := s.power.waiting.filter (· ≠ d) } := by
  unfold State.sleep
  rw [if_neg hon]
  cases domIsland d with
  | none => rfl
  | some i => dsimp only; split <;> rfl

/-- The domain of a lane that fails its self-test goes off (R184, R466). -/
theorem selfTestEnd_failed_power {p : Nat} (htests : s.nat (K_LANE_STATE p) = 3) (hon : s.nat (PW_DOM_STATE (72 + p)) ≠ 4) :
    (s.selfTestEnd p false).power = { s.power with waiting := s.power.waiting.filter (· ≠ 72 + p) } := by
  have hlane : ∀ v : State, v.nat (PW_DOM_STATE (72 + p)) ≠ 4 →
      (v.setLane p 4).power = { v.power with waiting := v.power.waiting.filter (· ≠ 72 + p) } := fun v hv => by
    refine sleep_power (s := v.set (K_LANE_STATE p) (4 : Nat)) ?_
    rwa [State.nat_set, if_neg (by simp only [PW_DOM_STATE, K_LANE_STATE]; omega)]
  unfold State.selfTestEnd
  rw [if_neg (not_not_intro htests)]
  cases s.lanes.mismatched with
  | none => exact hlane { s with lanes := { s.lanes with mismatchDue := false } } hon
  | some l => exact hlane { s with lanes := { s.lanes with mismatched := none } } hon

/-- The command that fails a lane withdraws the held-back wake-up of its domain (R184, R457, R466). -/
theorem laneSelfTestEnd_withdraws (t : Nat) {p : Fin 7} (hOn : On s islSelfTest) (htests : s.nat (K_LANE_STATE p) = 3)
    (hon : s.nat (PW_DOM_STATE (72 + p)) ≠ 4) :
    Yields (.laneSelfTestEnd t p false) s (fun u => u.power.waiting = s.power.waiting.filter (· ≠ 72 + p.val)) := by
  have hexec : exec (.laneSelfTestEnd t p false) s = .next ((s.at_ t).selfTestEnd p false).settle := by
    rw [exec_laneSelfTestEnd, execLaneSelfTestEnd, runOn_on (s := s.at_ t) hOn]
  exact ⟨_, hexec, congrArg Power.waiting ((State.settle_power _).trans (selfTestEnd_failed_power (s := s.at_ t) htests hon))⟩

/-- Lane 6 tests itself, and a wake-up of its domain 78 is held back. -/
def wakesTestedLane : State := (atDefaults [(K_LANE_STATE 6, 3)]).modPower (fun p => { p with waiting := [78] })

theorem wakesTestedLane_tests :
    On wakesTestedLane islSelfTest ∧ wakesTestedLane.nat (K_LANE_STATE (6 : Fin 7)) = 3 ∧
    wakesTestedLane.nat (PW_DOM_STATE (72 + (6 : Fin 7))) ≠ 4 ∧ wakesTestedLane.power.waiting = [78] := by decide +kernel

/-- Refutes O20: a lane that fails its self-test goes to sleep (R184, R466), which withdraws a wake-up of its domain that is held
back, while the statement keeps `power` and does not ask that none is held back. -/
theorem not_laneCommands : ¬ Obligations.LaneCommands := by
  intro h
  obtain ⟨-, -, -, -, -, -, -, hfails, -⟩ := h
  obtain ⟨hOn, htests, hon, hwaits⟩ := wakesTestedLane_tests
  obtain ⟨u, hexec, -, -, -, hframe⟩ := hfails wakesTestedLane 0 6 hOn htests
  obtain ⟨v, hexec', hwithdrawn⟩ := laneSelfTestEnd_withdraws (p := 6) 0 hOn htests hon
  cases hexec.symm.trans hexec'
  have hkept : u.power = wakesTestedLane.power := hframe .power (by decide +kernel)
  rw [hkept, hwaits] at hwithdrawn
  exact absurd hwithdrawn (by decide)

end Sys2Proof.Safety

/-! SUPPORT. A state in which the end of the snatch detector touches more than its statement says: the flip back gives a slot whose
logical lane has no physical lane the sink of an axis input (R180, R185, R203). -/

namespace Sys2Proof.Safety
open Sys2Proof.Machine Sys2Proof.Machine.Obj

/-- The snatch of axis 1 has flipped slot 0, which fed input 0 of the axis and now feeds nothing, and |ΔT| has been low since instant 0.
Logical lane 0 has no physical lane. -/
def firedWithoutLane : State :=
  ((atDefaults [(K_LANE_MAP 0, 255), (A_SNATCH_STATE 1, 2)]).modAx 1
    (fun c => { c with snatchActive := true, snatchLowAt := some 0, armed := [(0, 0x1A, 0)] })).modSlot 0
    (fun c => { c with inactive := bankPut c.inactive 0x1A 0x2010 })

/-- After ten seconds the detector ends, and axis 1 has not entered its level. -/
theorem firedWithoutLane_ends :
    On firedWithoutLane islProfile ∧ (firedWithoutLane.ax 1).snatchActive = true ∧ (firedWithoutLane.ax 1).snatchLowAt = some 0 ∧
    0 + ms (firedWithoutLane.nat (A_SNATCH_HOLD (1 : Fin 4))) ≤ max firedWithoutLane.now (ms 10000) ∧
    firedWithoutLane.get (A_FAULT_STATE (1 : Fin 4)) = 0 := by decide +kernel

/-- The flip back gives slot 0 its sink again, which has no compensator: axis 1 enters its level (R185). -/
theorem exec_snatchEnd_firedWithoutLane :
    ∃ u, exec (.snatchEnd (ms 10000) 1) firedWithoutLane = .next u ∧ u.get (A_FAULT_STATE (1 : Fin 4)) = 1 :=
  ⟨_, rfl, by decide +kernel⟩

/-- Refutes O22: a flip that gives a slot without a physical lane another sink takes the compensator of what that sink feeds (R185), so
the end of the detector enters the axis level, while the statement keeps A_FAULT_STATE. -/
theorem not_snatchCommands : ¬ Obligations.SnatchCommands := by
  intro h
  obtain ⟨-, hend, -⟩ := h
  obtain ⟨hOn, hactive, hlow, hdue, hbefore⟩ := firedWithoutLane_ends
  obtain ⟨u, hexec, -, -, -, hframe⟩ := hend firedWithoutLane (ms 10000) 1 0 hOn hactive hlow hdue
  obtain ⟨v, hexec', hafter⟩ := exec_snatchEnd_firedWithoutLane
  cases hexec.symm.trans hexec'
  have hkept : u.get (A_FAULT_STATE (1 : Fin 4)) = firedWithoutLane.get (A_FAULT_STATE (1 : Fin 4)) :=
    hframe (.obj (A_FAULT_STATE (1 : Fin 4))) (by decide +kernel)
  rw [hafter, hbefore] at hkept
  exact absurd hkept (by decide)

end Sys2Proof.Safety

/-! SUPPORT. The tension feedback of an axis: what a written value notes, how the render conditions move the render state, what comes
and goes with the axis level, and what the loss of the feedback does (R190, R205–R207). -/

namespace Sys2Proof.Safety
open Sys2Proof.Machine Sys2Proof.Machine.Obj

variable {P : Part → Prop} {s u : State} {a : Fin 4}

/-! ### A cause of the axis level comes and goes (R156, R157) -/

theorem or_two_pow_of_and_ne_zero {m i : Nat} (h : m &&& 2 ^ i ≠ 0) : m ||| 2 ^ i = m := by
  have hbit : m.testBit i = true := by
    by_contra hoff
    exact h (by rw [Nat.and_two_pow, Bool.eq_false_iff.mpr hoff]; simp)
  refine Nat.eq_of_testBit_eq fun j => ?_
  rw [Nat.testBit_or, Nat.testBit_two_pow]
  by_cases hj : i = j
  · rw [← hj, hbit, Bool.true_or]
  · simp [hj]

theorem sub_and_four_and_four (m : Nat) : (m - (m &&& 4)) &&& 4 = 0 := by
  have hand : ∀ n : Nat, n &&& 4 = if n / 4 % 2 = 1 then 4 else 0 := fun n => by
    have h := Nat.and_two_pow n 2
    rw [Nat.testBit_eq_decide_div_mod_eq] at h
    by_cases hn : n / 4 % 2 = 1
    · simpa [hn] using h
    · simpa [hn] using h
  rw [hand m, hand]
  split
  · exact if_neg (by omega)
  · exact if_neg (by omega)

@[simp] theorem set_ax (s : State) (k : Nat) (v : Int) (a : Fin 4) : (s.set k v).ax a = s.ax a := rfl

theorem enterLevel_of_there {bit : Nat} (h : (s.ax a).level &&& bit ≠ 0) : s.enterLevel a bit = s := if_pos h

/-- A new cause is added to those of the axis level, which A_FAULT_STATE then shows; the reaction leaves both (R157). -/
theorem enterLevel_of_new {bit : Nat} (h : (s.ax a).level &&& bit = 0) :
    ((s.enterLevel a bit).ax a).level = (s.ax a).level ||| bit ∧ (s.enterLevel a bit).get (A_FAULT_STATE a) = 1 ∧
      ((s.enterLevel a bit).ax a).tenLost = (s.ax a).tenLost := by
  unfold State.enterLevel State.enterLevelBy State.requestStop State.followStop
  rw [if_neg (not_not_intro h)]
  dsimp only
  split
  · simp
  · split
    · simp
    · simp

/-- The causes of the axis level behind an entry, whether its cause is new or not. -/
theorem enterLevel_level (s : State) (a : Fin 4) (i : Nat) : ((s.enterLevel a (2 ^ i)).ax a).level = (s.ax a).level ||| 2 ^ i := by
  by_cases h : (s.ax a).level &&& 2 ^ i = 0
  · exact (enterLevel_of_new h).1
  · rw [enterLevel_of_there h, or_two_pow_of_and_ne_zero h]

theorem enterLevel_tenLost (s : State) (a : Fin 4) (bit : Nat) : ((s.enterLevel a bit).ax a).tenLost = (s.ax a).tenLost := by
  by_cases h : (s.ax a).level &&& bit = 0
  · exact (enterLevel_of_new h).2.2
  · rw [enterLevel_of_there h]

/-! ### What a move of the render state touches (R205, R206) -/

/-- Parts that a move of the render state of axis a may touch. -/
def renderParts (a : Fin 4) : List Part := .obj (A_RENDER_STATE a) :: profileParts a

/-- Parts that the judgement of a written A_TEN_FB may touch before its error arrives. -/
def judgedParts (a : Fin 4) : List Part := [.raised, .obj (A_FAULT_STATE a)] ++ renderParts a

theorem Only.setRender {st : Nat} (h : Only P s u) (hr : Covers P (renderParts a)) : Only P s (u.setRender a st) :=
  State.setRender_only h (hr _ (by simp [renderParts])) (hr _ (by simp [renderParts, profileParts]))
    (hr _ (by simp [renderParts, profileParts])) (hr _ (by simp [renderParts, profileParts]))
    (hr _ (by simp [renderParts, profileParts])) (hr _ (by simp [renderParts, profileParts]))

theorem Only.renderMoves (h : Only P s u) (hr : Covers P (renderParts a)) (hj : P .raised) : Only P s (u.renderMoves a) :=
  State.renderMoves_only h (hr _ (by simp [renderParts, profileParts])) (hr _ (by simp [renderParts]))
    (hr _ (by simp [renderParts, profileParts])) (hr _ (by simp [renderParts, profileParts]))
    (hr _ (by simp [renderParts, profileParts])) (hr _ (by simp [renderParts, profileParts])) hj

/-- The new render state stands behind all that follows from it. -/
@[simp] theorem setRender_state (s : State) (a : Fin 4) (st : Nat) : (s.setRender a st).get (A_RENDER_STATE a) = st := by
  unfold State.setRender
  extract_lets s1 p
  have hprof : Only (· ≠ .obj (A_RENDER_STATE a)) s1 (s1.setProfile a p 0 0) :=
    State.setProfile_only .refl (by simp) (by simp) (by simp) (by simp)
  suffices hrest : Only (· ≠ .obj (A_RENDER_STATE a)) s1 _ from (hrest (.obj _) (by simp)).trans (State.get_set_self ..)
  exact .ite (fun _ => .ite (fun _ => .refl) (fun _ => (hprof.set (by simp)).modAx (by simp)))
    (fun _ => .ite (fun _ => Only.refl.set (by simp)) (fun _ => .refl))

/-- What the feedback of an axis has noted, and the causes of its level, read the same. -/
structure SameFeedback (c d : Axis) : Prop where
  tenAt : d.tenAt = c.tenAt
  tenLost : d.tenLost = c.tenLost
  rendAbove : d.rendAbove = c.rendAbove
  rendBelow : d.rendBelow = c.rendBelow
  level : d.level = c.level

theorem SameFeedback.refl (c : Axis) : SameFeedback c c := ⟨rfl, rfl, rfl, rfl, rfl⟩

theorem SameFeedback.modAx {c : Axis} {f : Axis → Axis} (h : SameFeedback c (u.ax a)) (hf : ∀ d, SameFeedback d (f d)) :
    SameFeedback c ((u.modAx a f).ax a) := by
  obtain ⟨hat, hlost, habove, hbelow, hlevel⟩ := hf (u.ax a)
  rw [State.ax_modAx_self]
  exact ⟨hat.trans h.tenAt, hlost.trans h.tenLost, habove.trans h.rendAbove, hbelow.trans h.rendBelow, hlevel.trans h.level⟩

theorem SameFeedback.ite {c : Axis} {p : Prop} [Decidable p] {v w : State} (hv : SameFeedback c (v.ax a))
    (hw : SameFeedback c (w.ax a)) : SameFeedback c ((if p then v else w).ax a) := by
  split
  · exact hv
  · exact hw

theorem setProfile_feedback (s : State) (a : Fin 4) (p v acc : Rat) : SameFeedback (s.ax a) ((s.setProfile a p v acc).ax a) := by
  unfold State.setProfile
  simp only [set_ax]
  exact .modAx (.refl _) (fun _ => ⟨rfl, rfl, rfl, rfl, rfl⟩)

theorem setRender_feedback (s : State) (a : Fin 4) (st : Nat) : SameFeedback (s.ax a) ((s.setRender a st).ax a) := by
  unfold State.setRender
  extract_lets s1 p
  have h1 : SameFeedback (s.ax a) (s1.ax a) := .refl _
  have hprof : SameFeedback (s.ax a) ((s1.setProfile a p 0 0).ax a) := setProfile_feedback s1 a p 0 0
  exact .ite (.ite h1 (.modAx (u := (s1.setProfile a p 0 0).set (A_PROF_STATE a) 6) hprof (fun _ => ⟨rfl, rfl, rfl, rfl, rfl⟩)))
    (.ite h1 h1)

theorem enterRender_feedback (s : State) (a : Fin 4) : SameFeedback (s.ax a) ((s.enterRender a).ax a) := by
  unfold State.enterRender
  extract_lets s1
  have h1 : SameFeedback (s.ax a) (s1.ax a) := .ite (.modAx (.refl _) (fun _ => ⟨rfl, rfl, rfl, rfl, rfl⟩)) (.refl _)
  obtain ⟨hat, hlost, habove, hbelow, hlevel⟩ := setRender_feedback s1 a 2
  exact ⟨hat.trans h1.tenAt, hlost.trans h1.tenLost, habove.trans h1.rendAbove, hbelow.trans h1.rendBelow, hlevel.trans h1.level⟩

/-! ### The moves that the tension conditions make (R205) -/

/-- A condition noted since an instant has held for k ms. -/
def heldFor (since : Option Nat) (k now : Nat) : Bool := since.any (fun b => decide (b + ms k ≤ now))

/-- The render state that follows st under the two tension conditions. -/
def renderNext (entry : Bool) (st : Nat) (above below : Bool) : Nat :=
  if st = 1 then (if above && entry then 2 else 1) else if st = 2 then (if below then 3 else 2)
  else if st = 3 then (if above then 2 else 3) else if st = 4 then (if below then 3 else 4) else st

/-- The render state that follows in s under the conditions noted so far. -/
def renderDue (s : State) (a : Fin 4) : Nat :=
  renderNext (renderAllowed s a) (s.nat (A_RENDER_STATE a)) (heldFor (s.ax a).rendAbove (s.nat (A_RENDER_CONFIRM a)) s.now)
    (heldFor (s.ax a).rendBelow (s.nat (A_RECOVER_DELAY a)) s.now)

/-- The render state stays, a render is entered, or a recovery (R205). -/
theorem renderMoves_cases (s : State) (a : Fin 4) :
    (s.renderMoves a = s ∧ renderDue s a = s.nat (A_RENDER_STATE a)) ∨ (s.renderMoves a = s.enterRender a ∧ renderDue s a = 2) ∨
      (s.renderMoves a = s.toRender a 3 0x15 ∧ renderDue s a = 3) := by
  unfold State.renderMoves renderDue
  extract_lets since above below
  have habove : above = heldFor (s.ax a).rendAbove (s.nat (A_RENDER_CONFIRM a)) s.now := by
    simp only [above, since, heldFor]
    cases (s.ax a).rendAbove <;> rfl
  have hbelow : below = heldFor (s.ax a).rendBelow (s.nat (A_RECOVER_DELAY a)) s.now := by
    simp only [below, since, heldFor]
    cases (s.ax a).rendBelow <;> rfl
  rw [← habove, ← hbelow]
  generalize renderAllowed s a = entry
  clear_value above below
  split
  · next hst => cases above <;> cases entry <;> simp [renderNext, hst]
  · next hst => cases below <;> simp [renderNext, hst]
  · next hst => cases above <;> simp [renderNext, hst]
  · next hst => cases below <;> simp [renderNext, hst]
  · next h1 h2 h3 h4 => exact .inl ⟨rfl, by rw [renderNext, if_neg h1, if_neg h2, if_neg h3, if_neg h4]⟩

theorem renderMoves_feedback (s : State) (a : Fin 4) : SameFeedback (s.ax a) ((s.renderMoves a).ax a) := by
  rcases renderMoves_cases s a with ⟨h, -⟩ | ⟨h, -⟩ | ⟨h, -⟩
  · rw [h]
    exact .refl _
  · rw [h]
    exact enterRender_feedback s a
  · rw [h]
    exact setRender_feedback s a 3

theorem renderMoves_state (s : State) (a : Fin 4) : (s.renderMoves a).nat (A_RENDER_STATE a) = renderDue s a := by
  have hto : ∀ (v : State) (st detail : Nat), (v.toRender a st detail).nat (A_RENDER_STATE a) = st := fun v st _ =>
    congrArg Int.toNat (setRender_state v a st)
  rcases renderMoves_cases s a with ⟨h, hdue⟩ | ⟨h, hdue⟩ | ⟨h, hdue⟩
  · rw [h, hdue]
  · rw [h, hdue]
    exact hto _ 2 _
  · rw [h, hdue]
    exact hto _ 3 _

/-! ### The settings that the tension feedback is judged by -/

/-- The objects that a written A_TEN_FB is judged by, beside the render state and the value itself. -/
def tensionSettings (a : Fin 4) : List Nat :=
  [A_RENDER_CONFIRM a, A_RECOVER_DELAY a, A_RENDER_LIMIT a, A_RECOVER_TENSION a, A_RENDER_TENSION a, A_TEN_REF a, A_TEN_FS a,
    A_START_MODE a, A_START_STAGE a]

/-- These objects read the same in both states. -/
def SameSettings (a : Fin 4) (s u : State) : Prop := ∀ k ∈ tensionSettings a, u.get k = s.get k

theorem SameSettings.nat (h : SameSettings a s u) {k : Nat} (hk : k ∈ tensionSettings a) : u.nat k = s.nat k :=
  congrArg Int.toNat (h k hk)

theorem renderAllowed_of_settings (h : SameSettings a s u) : renderAllowed u a = renderAllowed s a := by
  simp only [renderAllowed, sensorless, h.nat (k := A_START_MODE a) (by simp [tensionSettings]),
    h.nat (k := A_START_STAGE a) (by simp [tensionSettings])]

theorem renderDue_of_settings (h : SameSettings a s u) (hstate : u.get (A_RENDER_STATE a) = s.get (A_RENDER_STATE a))
    (hax : u.ax a = s.ax a) (hnow : u.now = s.now) : renderDue u a = renderDue s a := by
  have hnat : u.nat (A_RENDER_STATE a) = s.nat (A_RENDER_STATE a) := congrArg Int.toNat hstate
  rw [renderDue, renderDue, renderAllowed_of_settings h, hnat, hax, hnow, h.nat (k := A_RENDER_CONFIRM a) (by simp [tensionSettings]),
    h.nat (k := A_RECOVER_DELAY a) (by simp [tensionSettings])]

theorem tensionRef_of_settings (h : SameSettings a s u) (hstate : u.get (A_RENDER_STATE a) = s.get (A_RENDER_STATE a)) :
    tensionRef u a = tensionRef s a := by
  have hnat : u.nat (A_RENDER_STATE a) = s.nat (A_RENDER_STATE a) := congrArg Int.toNat hstate
  have hrender : rendering u a = rendering s a := by simp only [rendering, hnat]
  rw [tensionRef, tensionRef, hrender, h (A_RENDER_TENSION a) (by simp [tensionSettings]), h (A_TEN_REF a) (by simp [tensionSettings])]

theorem settings_not_judged : ∀ a : Fin 4, ∀ k ∈ A_TEN_FB a :: tensionSettings a, Part.obj k ∉ judgedParts a := by decide +kernel

theorem sameSettings_of_judged (h : Only (· ∈ judgedParts a) s u) : SameSettings a s u := fun k hk =>
  h (.obj k) (settings_not_judged a k (List.mem_cons_of_mem _ hk))

theorem feedback_of_judged (h : Only (· ∈ judgedParts a) s u) : u.get (A_TEN_FB a) = s.get (A_TEN_FB a) :=
  h (.obj _) (settings_not_judged a _ List.mem_cons_self)

theorem now_of_judged (h : Only (· ∈ judgedParts a) s u) : u.now = s.now :=
  (h .clock (by simp [judgedParts, renderParts, profileParts])).1

/-! ### A written A_TEN_FB (R205, R206) -/

/-- The state in which the write itself is noted, behind the moves of the conditions that have held up to it. -/
def tensionNoted (s : State) (a : Fin 4) : State :=
  (s.renderMoves a).modAx a (fun c =>
    { c with tenAt := s.now, tenLost := false,
             rendAbove := if s.get (A_RENDER_LIMIT a) ≤ s.get (A_TEN_FB a) then some (c.rendAbove.getD s.now) else none,
             rendBelow := if s.get (A_TEN_FB a) < s.get (A_RECOVER_TENSION a) then some (c.rendBelow.getD s.now) else none })

/-- The state in which a lost tension is no cause of the axis level any longer. -/
def tensionCleared (s : State) (a : Fin 4) : State := if (s.ax a).level &&& lvTension ≠ 0 then s.leaveLevel a lvTension else s

/-- The state behind the moves of the render state, in which the error is taken. -/
def tensionJudged (s : State) (a : Fin 4) : State := (tensionCleared (tensionNoted s a) a).renderMoves a

/-- The tension error of a feedback value, as q 3. -/
def tensionError (s : State) (a : Fin 4) (fb : Int) : Int :=
  satI 32 (rnd (((tensionRef s a - fb : Int) : Rat) / s.get (A_TEN_FS a) * 2147483648))

theorem tensionError_of_settings (h : SameSettings a s u) (hstate : u.get (A_RENDER_STATE a) = s.get (A_RENDER_STATE a)) (fb : Int) :
    tensionError u a fb = tensionError s a fb := by
  rw [tensionError, tensionError, tensionRef_of_settings h hstate, h (A_TEN_FS a) (by simp [tensionSettings])]

/-- The error is noted as q 3 and arrives. -/
def errorArrives (s : State) (a : Fin 4) (q : Int) : State :=
  (s.modAx a (fun c => { c with sig := c.sig.set 3 q })).arrive (0x5003 + 16 * a.val) q

theorem tension_eq (s : State) (a : Fin 4) :
    s.tension a = errorArrives (tensionJudged s a) a (tensionError (tensionJudged s a) a (s.get (A_TEN_FB a))) := rfl

theorem tensionNoted_ax (s : State) (a : Fin 4) :
    ((tensionNoted s a).ax a).tenAt = s.now ∧ ((tensionNoted s a).ax a).tenLost = false ∧
      ((tensionNoted s a).ax a).rendAbove =
        (if s.get (A_RENDER_LIMIT a) ≤ s.get (A_TEN_FB a) then some ((s.ax a).rendAbove.getD s.now) else none) ∧
      ((tensionNoted s a).ax a).rendBelow =
        (if s.get (A_TEN_FB a) < s.get (A_RECOVER_TENSION a) then some ((s.ax a).rendBelow.getD s.now) else none) := by
  obtain ⟨-, -, habove, hbelow, -⟩ := renderMoves_feedback s a
  simp [tensionNoted, habove, hbelow]

/-- The record of an axis without a cause of its level. -/
def withoutCause (c : Axis) (bit : Nat) : Axis := { c with level := c.level - (c.level &&& bit) }

/-- Leaving the axis level takes its cause away and leaves the feedback. -/
theorem leaveLevel_feedback (s : State) (a : Fin 4) (bit : Nat) :
    SameFeedback (withoutCause (s.ax a) bit) ((s.leaveLevel a bit).ax a) := by
  unfold State.leaveLevel
  extract_lets s1
  have h1 : SameFeedback (withoutCause (s.ax a) bit) (s1.ax a) := by
    rw [State.ax_modAx_self]
    exact .refl _
  exact .ite (.modAx (u := s1.set (A_FAULT_STATE a) 0) h1 (fun _ => ⟨rfl, rfl, rfl, rfl, rfl⟩)) h1

/-- Clearing the cause keeps what the feedback has noted. -/
theorem tensionCleared_ax (s : State) (a : Fin 4) :
    ((tensionCleared s a).ax a).tenAt = (s.ax a).tenAt ∧ ((tensionCleared s a).ax a).tenLost = (s.ax a).tenLost ∧
      ((tensionCleared s a).ax a).rendAbove = (s.ax a).rendAbove ∧ ((tensionCleared s a).ax a).rendBelow = (s.ax a).rendBelow ∧
      ((tensionCleared s a).ax a).level &&& lvTension = 0 := by
  unfold tensionCleared
  split
  · obtain ⟨hat, hlost, habove, hbelow, hlevel⟩ := leaveLevel_feedback s a lvTension
    exact ⟨hat, hlost, habove, hbelow, by rw [hlevel]; exact sub_and_four_and_four _⟩
  · next h => exact ⟨rfl, rfl, rfl, rfl, not_not.mp h⟩

theorem tensionCleared_changes (s : State) (a : Fin 4) : Only (· ∈ [.ax a, .obj (A_FAULT_STATE a)]) s (tensionCleared s a) :=
  .ite (fun _ => State.leaveLevel_only .refl (by simp) (by simp)) (fun _ => .refl)

theorem tensionNoted_changes (s : State) (a : Fin 4) : Only (· ∈ judgedParts a) s (tensionNoted s a) :=
  (Only.refl.renderMoves (fun _ hp => List.mem_append_right _ hp) List.mem_cons_self).modAx
    (by simp [renderParts, profileParts])

theorem cleared_of_noted_changes (s : State) (a : Fin 4) : Only (· ∈ judgedParts a) s (tensionCleared (tensionNoted s a) a) :=
  (tensionNoted_changes s a).trans ((tensionCleared_changes _ a).mono (fun p hp => by
    simp only [List.mem_cons, List.not_mem_nil, or_false] at hp
    rcases hp with rfl | rfl
    · simp [judgedParts, renderParts, profileParts]
    · simp [judgedParts]))

theorem tensionJudged_changes (s : State) (a : Fin 4) : Only (· ∈ judgedParts a) s (tensionJudged s a) :=
  (cleared_of_noted_changes s a).renderMoves (fun _ hp => List.mem_append_right _ hp) List.mem_cons_self

theorem heldFor_ite (c : Prop) [Decidable c] (b k now : Nat) :
    heldFor (if c then some b else none) k now = (decide c && decide (b + ms k ≤ now)) := by
  by_cases h : c
  · simp [heldFor, h]
  · simp [heldFor, h]

/-- The render condition holds with a feedback value of fb, and has held for A_RENDER_CONFIRM. -/
def aboveHolds (s : State) (a : Fin 4) (fb : Int) : Bool :=
  decide (s.get (A_RENDER_LIMIT a) ≤ fb) && decide ((s.ax a).rendAbove.getD s.now + ms (s.nat (A_RENDER_CONFIRM a)) ≤ s.now)

/-- The recovery condition holds with a feedback value of fb, and has held for A_RECOVER_DELAY. -/
def belowHolds (s : State) (a : Fin 4) (fb : Int) : Bool :=
  decide (fb < s.get (A_RECOVER_TENSION a)) && decide ((s.ax a).rendBelow.getD s.now + ms (s.nat (A_RECOVER_DELAY a)) ≤ s.now)

/-- The conditions that have held up to a write move the render state, then those that hold with it (R205). -/
theorem tensionJudged_state (s : State) (a : Fin 4) :
    (tensionJudged s a).nat (A_RENDER_STATE a) = renderNext (renderAllowed s a) (renderDue s a) (aboveHolds s a (s.get (A_TEN_FB a)))
      (belowHolds s a (s.get (A_TEN_FB a))) := by
  have hchanges := cleared_of_noted_changes s a
  have hset := sameSettings_of_judged hchanges
  obtain ⟨-, -, hkeepAbove, hkeepBelow, -⟩ := tensionCleared_ax (tensionNoted s a) a
  obtain ⟨-, -, habove, hbelow⟩ := tensionNoted_ax s a
  have hstate : (tensionCleared (tensionNoted s a) a).nat (A_RENDER_STATE a) = renderDue s a :=
    (congrArg Int.toNat (tensionCleared_changes (tensionNoted s a) a (.obj (A_RENDER_STATE a))
      (by simp [A_RENDER_STATE, A_FAULT_STATE]))).trans (renderMoves_state s a)
  rw [tensionJudged, renderMoves_state, renderDue, hstate, renderAllowed_of_settings hset, hkeepAbove, hkeepBelow, habove, hbelow,
    heldFor_ite, heldFor_ite, now_of_judged hchanges, hset.nat (k := A_RENDER_CONFIRM a) (by simp [tensionSettings]),
    hset.nat (k := A_RECOVER_DELAY a) (by simp [tensionSettings]), aboveHolds, belowHolds]

theorem tensionJudged_ax (s : State) (a : Fin 4) :
    ((tensionJudged s a).ax a).tenAt = s.now ∧ ((tensionJudged s a).ax a).tenLost = false ∧
      ((tensionJudged s a).ax a).level &&& lvTension = 0 := by
  obtain ⟨hat, hlost, -, -, hlevel⟩ := renderMoves_feedback (tensionCleared (tensionNoted s a) a) a
  obtain ⟨hat', hlost', -, -, hclear⟩ := tensionCleared_ax (tensionNoted s a) a
  obtain ⟨hat'', hlost'', -, -⟩ := tensionNoted_ax s a
  exact ⟨hat.trans (hat'.trans hat''), hlost.trans (hlost'.trans hlost''), by rw [tensionJudged, hlevel, hclear]⟩

/-! ### The error arrives (R168, R190) -/

theorem feedbackObjects_not_arriving : ∀ a : Fin 4, ∀ k ∈ A_RENDER_STATE a :: A_TEN_FB a :: tensionSettings a,
    Part.obj k ∉ arriveParts := by decide +kernel

theorem tension_get (s : State) {k : Nat} (hk : k ∈ A_RENDER_STATE a :: A_TEN_FB a :: tensionSettings a) :
    (s.tension a).get k = (tensionJudged s a).get k := by
  rw [tension_eq]
  exact (Only.refl.arrive (fun _ hp => hp)) (.obj k) (feedbackObjects_not_arriving a k hk)

theorem tension_settings (s : State) (a : Fin 4) : SameSettings a s (s.tension a) := fun k hk =>
  (tension_get s (List.mem_cons_of_mem _ (List.mem_cons_of_mem _ hk))).trans (sameSettings_of_judged (tensionJudged_changes s a) k hk)

theorem tension_feedback (s : State) (a : Fin 4) : (s.tension a).get (A_TEN_FB a) = s.get (A_TEN_FB a) :=
  (tension_get s (by simp)).trans (feedback_of_judged (tensionJudged_changes s a))

theorem tension_ax (s : State) (a : Fin 4) :
    ((s.tension a).ax a).tenAt = s.now ∧ ((s.tension a).ax a).tenLost = false ∧ ((s.tension a).ax a).level &&& lvTension = 0 ∧
      ((s.tension a).ax a).sig.get 3 = tensionError (s.tension a) a (s.get (A_TEN_FB a)) := by
  have herror : tensionError (s.tension a) a (s.get (A_TEN_FB a)) = tensionError (tensionJudged s a) a (s.get (A_TEN_FB a)) :=
    tensionError_of_settings (fun k hk => tension_get s (List.mem_cons_of_mem _ (List.mem_cons_of_mem _ hk)))
      (tension_get s List.mem_cons_self) _
  obtain ⟨hat, hlost, hlevel⟩ := tensionJudged_ax s a
  have hax : ∀ q, (errorArrives (tensionJudged s a) a q).ax a = ((tensionJudged s a).modAx a (fun c => { c with sig := c.sig.set 3 q })).ax a :=
    fun q => (Only.refl.arrive (P := (· ∈ arriveParts)) (fun _ hp => hp)) (.ax a) (by simp [arriveParts])
  rw [herror, tension_eq, hax, State.ax_modAx_self]
  exact ⟨hat, hlost, hlevel, vget_set_self _ 3 _⟩

/-! ### TENSION_FEEDBACK (R205, R206) -/

/-- The state in which an accepted value of A_TEN_FB stands, before it is judged. -/
def tensionWritten (s : State) (a : Fin 4) (v : Int) : State := s.set (A_TEN_FB a) v

theorem tensionWritten_get (s : State) (a : Fin 4) (v : Int) {k : Nat} (hk : k ∈ A_RENDER_STATE a :: tensionSettings a) :
    (tensionWritten s a v).get k = s.get k := by
  have hne : ∀ c : Fin 4, ∀ j ∈ A_RENDER_STATE c :: tensionSettings c, j ≠ A_TEN_FB c := by decide
  exact State.get_set_ne _ _ (hne a k hk)

theorem tensionWritten_settings (s : State) (a : Fin 4) (v : Int) : SameSettings a s (tensionWritten s a v) := fun _ hk =>
  tensionWritten_get s a v (List.mem_cons_of_mem _ hk)

/-- A written value moves the render state by the settings of the state it is written in (R205). -/
theorem tension_state (s : State) (a : Fin 4) (v : Int) :
    ((tensionWritten s a v).tension a).nat (A_RENDER_STATE a) =
      renderNext (renderAllowed s a) (renderDue s a) (aboveHolds s a v) (belowHolds s a v) := by
  have hset := tensionWritten_settings s a v
  have hfb : (tensionWritten s a v).get (A_TEN_FB a) = v := State.get_set_self ..
  have hstate := congrArg Int.toNat (tension_get (a := a) (tensionWritten s a v) List.mem_cons_self)
  have hdue : renderDue (tensionWritten s a v) a = renderDue s a :=
    renderDue_of_settings hset (tensionWritten_get s a v List.mem_cons_self) rfl rfl
  have habove : aboveHolds (tensionWritten s a v) a v = aboveHolds s a v := by
    rw [aboveHolds, hset _ (by simp [tensionSettings]), hset.nat (by simp [tensionSettings])]
    rfl
  have hbelow : belowHolds (tensionWritten s a v) a v = belowHolds s a v := by
    rw [belowHolds, hset _ (by simp [tensionSettings]), hset.nat (by simp [tensionSettings])]
    rfl
  exact hstate.trans ((tensionJudged_state _ a).trans (by rw [renderAllowed_of_settings hset, hdue, hfb, habove, hbelow]))

theorem tension_changes (s : State) (a : Fin 4) (v : Int) :
    Only (· ∈ [.obj (A_TEN_FB a), .obj (A_FAULT_STATE a), .obj (A_RENDER_STATE a), .raised] ++ profileParts a ++ arriveParts) s
      ((tensionWritten s a v).tension a) := by
  have harrive : ∀ p ∈ arriveParts, p ∈ [.obj (A_TEN_FB a), .obj (A_FAULT_STATE a), .obj (A_RENDER_STATE a), .raised] ++
      profileParts a ++ arriveParts := fun p hp => List.mem_append_right _ hp
  exact State.tension_only (Only.refl.set (by simp)) (by simp [profileParts]) (by simp) (by simp [profileParts])
    (by simp [profileParts]) (by simp [profileParts]) (by simp [profileParts]) (by simp) (by simp)
    (harrive _ List.mem_cons_self) (fun k => harrive _ (slot_mem_arriveParts k).1) (fun k => harrive _ (slot_mem_arriveParts k).2)

/-- A value of A_TEN_FB that every check lets pass is judged, and answered. -/
theorem exec_tensionFeedback_of_allowed {t : Nat} {b : By} {v : BitVec 32} (h : allowed (s.at_ t) b (A_TEN_FB a) v.toNat = true) :
    exec (.tensionFeedback t b a v) s =
      .next (((tensionWritten (judged (s.at_ t) b (A_TEN_FB a)) a v.toNat).tension a).emit (.result 0 [])).settle := by
  have hkeys : ∀ c : Fin 4, poleKey (A_TEN_FB c) = false ∧ plainKey (A_TEN_FB c) 4 = true ∧ keySlotAt (A_TEN_FB c) = none := by
    decide +kernel
  obtain ⟨hpole, hplain, hslot⟩ := hkeys a
  have heffect : ∀ (g : State) (st dm : Nat) (bs : Bytes) (w : Int),
      g.effect b st dm (A_TEN_FB a) bs w = (tensionWritten g a w).tension a := fun g st dm bs w => by
    have hkey : A_TEN_FB a = 0x500000 + 0x10000 * a.val + 0x120F := by simp only [A_TEN_FB]; omega
    rw [hkey, effect_axis g b st dm 0x120F bs w a (by decide)]
    rfl
  have hrange : (v.toNat : Int) < (256 ^ 4 : Nat) := by
    have := v.isLt
    omega
  rw [exec_tensionFeedback, execTensionFeedback, writeCmd_plain hpole hplain (by omega) hrange h, heffect, afterKey_none hslot, done]

theorem feedbackObjects_not_shown : ∀ a : Fin 4, ∀ k ∈ A_RENDER_STATE a :: A_TEN_FB a :: tensionSettings a, shownKey k = false := by
  decide +kernel

/-- The answer and the end of a command leave the feedback of an axis. -/
theorem answered_get (s : State) (o : Out) {k : Nat} (hk : k ∈ A_RENDER_STATE a :: A_TEN_FB a :: tensionSettings a) :
    (s.emit o).settle.get k = s.get k := by
  rw [State.settle_get _ (feedbackObjects_not_shown a k hk), State.emit_get]

theorem answered_ax (s : State) (o : Out) (a : Fin 4) : (s.emit o).settle.ax a = s.ax a := settle_ax (s.emit o) a

/-- A written A_TEN_FB is noted, moves the render state and gives the error q 3 (R205, R206). -/
theorem tensionFeedback_judges (s : State) (t : Nat) (b : By) (a : Fin 4) (v : BitVec 32) :
    Writes (.tensionFeedback t b a v) s (s.at_ t) b (A_TEN_FB a) v.toNat (fun g u =>
      u.get (A_TEN_FB a) = (v.toNat : Int) ∧ (u.ax a).tenLost = false ∧ (u.ax a).tenAt = g.now ∧ (u.ax a).level &&& lvTension = 0 ∧
      u.nat (A_RENDER_STATE a) = renderNext (renderAllowed g a) (renderDue g a) (aboveHolds g a v.toNat) (belowHolds g a v.toNat) ∧
      (u.ax a).sig.get 3 = satI 32 (rnd (((tensionRef u a - (v.toNat : Int) : Int) : Rat) / g.get (A_TEN_FS a) * 2147483648)) ∧
      Frame (· ∈ [.obj (A_TEN_FB a), .obj (A_FAULT_STATE a), .obj (A_RENDER_STATE a), .raised] ++ profileParts a ++ arriveParts) g u) := by
  intro hallowed
  generalize hg : judged (s.at_ t) b (A_TEN_FB a) = g
  have hfb : (tensionWritten g a v.toNat).get (A_TEN_FB a) = v.toNat := State.get_set_self ..
  obtain ⟨hat, hlost, hlevel, hsig⟩ := tension_ax (tensionWritten g a v.toNat) a
  refine ⟨_, hg ▸ exec_tensionFeedback_of_allowed hallowed, ?_, ?_, ?_, ?_, ?_, ?_, ?_, ?_⟩
  · rw [State.settle_outs]
    exact List.mem_append_right _ List.mem_cons_self
  · rw [answered_get (a := a) _ _ (by simp), tension_feedback, hfb]
  · rw [answered_ax]
    exact hlost
  · rw [answered_ax]
    exact hat
  · rw [answered_ax]
    exact hlevel
  · exact (congrArg Int.toNat (answered_get (a := a) _ _ List.mem_cons_self)).trans (tension_state g a v.toNat)
  · have hset : SameSettings a ((tensionWritten g a v.toNat).tension a) _ := fun k hk =>
      answered_get _ (.result 0 []) (List.mem_cons_of_mem _ (List.mem_cons_of_mem _ hk))
    rw [answered_ax, tensionRef_of_settings hset (answered_get (a := a) _ _ List.mem_cons_self),
      ← tensionWritten_settings g a v.toNat _ (by simp [tensionSettings]), ← tension_settings _ a _ (by simp [tensionSettings])]
    rw [hfb, tensionError] at hsig
    exact hsig
  · exact Only.ends (((tension_changes g a v.toNat).mono (fun _ => .inl)).emit (.inr (by simp [Safety.ends])))

/-! ### TENSION_FEEDBACK_LOST (R207) -/

/-- The render of axis a has ended, and its feedback is lost. -/
def renderLost (s : State) (a : Fin 4) : State := (s.setRender a 0).modAx a (fun c => { c with tenLost := true })

/-- What the loss of the feedback does: the render ends, 0x4, 0x04 is journalled, and the axis level is entered. -/
def feedbackLost (s : State) (a : Fin 4) : State :=
  ((renderLost s a).jLoad 4 0x04 (0x5012 + 0x100 * a.val) a).enterLevel a lvTension

theorem exec_tensionFeedbackLost_of_elapsed (t : Nat) (hOn : On s islProfile) (hneeds : mode s a = 4 ∨ s.nat (A_RENDER_STATE a) ≠ 0)
    (hnew : (s.ax a).tenLost = false) (hdue : (s.ax a).tenAt + ms (s.nat (A_TEN_FB_TIMEOUT a)) ≤ max s.now t) :
    exec (.tensionFeedbackLost t a) s = .next (feedbackLost (s.at_ t) a).settle := by
  have hcond : (mode (s.at_ t) a = 4 ∨ (s.at_ t).nat (A_RENDER_STATE a) ≠ 0) ∧ (!((s.at_ t).ax a).tenLost) = true ∧
      ((s.at_ t).ax a).tenAt + ms ((s.at_ t).nat (A_TEN_FB_TIMEOUT a)) ≤ (s.at_ t).now :=
    ⟨hneeds, (congrArg (!·) hnew).trans rfl, hdue⟩
  rw [exec_tensionFeedbackLost, execTensionFeedbackLost, runOn_on (s := s.at_ t) hOn, if_pos hcond]
  rfl

theorem feedbackLost_changes (s : State) (a : Fin 4) : Only (· ∈ .obj (A_RENDER_STATE a) :: levelParts a) s (feedbackLost s a) := by
  have hset : Only (· ∈ .obj (A_RENDER_STATE a) :: levelParts a) s (s.setRender a 0) := by
    unfold State.setRender
    extract_lets s1 p
    have h1 : Only (· ∈ .obj (A_RENDER_STATE a) :: levelParts a) s s1 := Only.refl.set List.mem_cons_self
    rw [if_neg (by decide)]
    exact .ite (fun _ => h1.set (by simp [levelParts])) (fun _ => h1)
  exact State.enterLevel_only (State.jLoad_only (hset.modAx (by simp [levelParts])) (by simp [levelParts])) (by simp [levelParts])
    (by simp [levelParts])

theorem feedbackLost_state (s : State) (a : Fin 4) : (feedbackLost s a).get (A_RENDER_STATE a) = 0 := by
  have hrest : Only (· ∈ [.ax a, .raised, .obj (A_FAULT_STATE a)]) (s.setRender a 0) (feedbackLost s a) :=
    State.enterLevel_only (State.jLoad_only (Only.refl.modAx (by simp)) (by simp)) (by simp) (by simp)
  exact (hrest (.obj (A_RENDER_STATE a)) (by simp [A_RENDER_STATE, A_FAULT_STATE])).trans (setRender_state s a 0)

/-- The loss is noted, and the causes of the axis level are those from before. -/
theorem renderLost_ax (s : State) (a : Fin 4) :
    ((renderLost s a).ax a).tenLost = true ∧ ((renderLost s a).ax a).level = (s.ax a).level := by
  obtain ⟨-, -, -, -, hlevel⟩ := setRender_feedback s a 0
  rw [renderLost, State.ax_modAx_self]
  exact ⟨rfl, hlevel⟩

theorem feedbackLost_ax (s : State) (a : Fin 4) :
    ((feedbackLost s a).ax a).tenLost = true ∧ ((feedbackLost s a).ax a).level = (s.ax a).level ||| lvTension := by
  obtain ⟨hlost, hlevel⟩ := renderLost_ax s a
  exact ⟨(enterLevel_tenLost ..).trans hlost, (enterLevel_level _ a 2).trans (congrArg (· ||| lvTension) hlevel)⟩

theorem feedbackLost_faultState (h : (s.ax a).level &&& lvTension = 0) : (feedbackLost s a).get (A_FAULT_STATE a) = 1 := by
  obtain ⟨-, hlevel⟩ := renderLost_ax s a
  exact (enterLevel_of_new (s := (renderLost s a).jLoad 4 0x04 (0x5012 + 0x100 * a.val) a)
    ((congrArg (· &&& lvTension) hlevel).trans h)).2.1

theorem feedbackLost_raises (s : State) (a : Fin 4) : Raises s (feedbackLost s a) [(4, islProfile, 0x04)] := by
  have hbefore : Only offJournal s (renderLost s a) :=
    (Only.refl.setRender (fun p hp => by
      simp only [renderParts, profileParts, List.mem_cons, List.not_mem_nil, or_false] at hp
      rcases hp with rfl | rfl | rfl | rfl | rfl | rfl <;> trivial)).modAx trivial
  have hafter : Only offJournal ((renderLost s a).jLoad 4 0x04 (0x5012 + 0x100 * a.val) a) (feedbackLost s a) :=
    State.enterLevel_only .refl trivial trivial
  exact ((raises_nil (hbefore .raised id)).trans (raises_journal ..)).trans (raises_nil (hafter .raised id))

/-- A feedback that is not written for A_TEN_FB_TIMEOUT ends the render and enters the axis level (R207). -/
theorem tensionFeedbackLost_enters (t : Nat) (hOn : On s islProfile) (hneeds : mode s a = 4 ∨ s.nat (A_RENDER_STATE a) ≠ 0)
    (hnew : (s.ax a).tenLost = false) (hdue : (s.ax a).tenAt + ms (s.nat (A_TEN_FB_TIMEOUT a)) ≤ max s.now t) :
    Yields (.tensionFeedbackLost t a) s (fun u =>
      u.get (A_RENDER_STATE a) = 0 ∧ (u.ax a).tenLost = true ∧ (u.ax a).level = (s.ax a).level ||| lvTension ∧
      ((s.ax a).level &&& lvTension = 0 → u.get (A_FAULT_STATE a) = 1) ∧ Raises s u [(4, islProfile, 0x04)] ∧
      Frame (· ∈ .obj (A_RENDER_STATE a) :: levelParts a) s u) := by
  have hshown : ∀ c : Fin 4, shownKey (A_RENDER_STATE c) = false ∧ shownKey (A_FAULT_STATE c) = false := by decide
  obtain ⟨hlost, hlevel⟩ := feedbackLost_ax (s.at_ t) a
  refine ⟨_, exec_tensionFeedbackLost_of_elapsed t hOn hneeds hnew hdue, ?_, ?_, ?_, fun hclear => ?_, ?_, ?_⟩
  · rw [State.settle_get _ (hshown a).1]
    exact feedbackLost_state (s.at_ t) a
  · rw [settle_ax]
    exact hlost
  · rw [settle_ax]
    exact hlevel
  · rw [State.settle_get _ (hshown a).2]
    exact feedbackLost_faultState (s := s.at_ t) hclear
  · rw [Raises, State.settle_raised]
    exact feedbackLost_raises (s.at_ t) a
  · exact (Only.begins.trans ((feedbackLost_changes (s.at_ t) a).mono (fun _ => .inl))).ends

/-- Settles O23: a written A_TEN_FB lets the render conditions move the render state twice, by what has held up to the write and by
what holds with it (R205); an entry to or exit from the axis level leaves what the feedback has noted. -/
theorem tensionCommands : Obligations.TensionCommands :=
  ⟨fun s t b a v => tensionFeedback_judges s t b a v,
    fun _ t _ hOn hneeds hnew hdue => tensionFeedbackLost_enters t hOn hneeds hnew hdue⟩

end Sys2Proof.Safety

/-! SUPPORT. A state in which an update of the profile does not end as its statement says: the first section of an axis enters its ramp
just before the update (R23, R226, R230). -/

namespace Sys2Proof.Safety
open Sys2Proof.Machine Sys2Proof.Machine.Obj

variable {P : Part → Prop} {s u : State} {a : Fin 4}

/-! ### The parts of one update (R226) -/

/-- The update has noted its master (R231, R233). -/
def masterNoted (s : State) (a : Fin 4) : State :=
  ((s.set (A_MASTER_POS a) (satI 64 (masterNow s a).1)).set (A_MASTER_SPEED a) (satI 32 (masterNow s a).2)).modAx a
    (fun c => { c with gear := { c.gear with m := (masterNow s a).1, vM := (masterNow s a).2 } })

/-- The reference advances, by the state of the profile (R226–R234). -/
def referenceAdvanced (s : State) (a : Fin 4) : State :=
  if s.nat (A_PROF_STATE a) = 6 ∨ rendering s a then s
  else if s.nat (A_PROF_STATE a) = 5 ∨ (s.ax a).gear.ask then (s.set (A_PROF_STATE a) 5).gearStep a
  else if s.nat (A_PROF_STATE a) = 3 ∧ (s.ax a).follow then s.followStep a
  else if mode s a = 1 ∨ mode s a = 2 ∨ s.nat (A_PROF_STATE a) = 0 ∨ s.nat (A_PROF_STATE a) = 3 ∨ s.nat (A_PROF_STATE a) = 4 then
    s.profileStep a
  else s

/-- The position error of the advanced reference arrives as q 0 and is judged (R190, R229). -/
def positionJudged (s : State) (a : Fin 4) : State :=
  ((s.modAx a (fun c => { c with sig := c.sig.set 0 (posError s a) })).arrive (0x5000 + 16 * a.val) (posError s a)).followJudge a

theorem profileUpdate_eq (hhost : isHost s a = true) (hdue : s.tb % us (s.nat (A_PROF_PERIOD a)) = 0) :
    s.profileUpdate a = positionJudged (referenceAdvanced (masterNoted (s.profileCauses a) a) a) a := by
  rw [State.profileUpdate, if_neg (by simp [hhost, hdue])]
  rfl

/-- The judgement of the position error leaves the state of the profile. -/
theorem positionJudged_state (s : State) (a : Fin 4) : (positionJudged s a).nat (A_PROF_STATE a) = s.nat (A_PROF_STATE a) := by
  have hchanges : Only (· ∈ arriveParts ++ [.ax a, .obj (A_FAULT_STATE a)]) s (positionJudged s a) :=
    State.followJudge_only ((Only.refl.modAx (by simp)).arrive (fun _ hp => List.mem_append_left _ hp)) (by simp) (by simp)
  have hout : ∀ c : Fin 4, Part.obj (A_PROF_STATE c) ∉ arriveParts ++ [.ax c, .obj (A_FAULT_STATE c)] := by decide +kernel
  exact congrArg Int.toNat (hchanges (.obj (A_PROF_STATE a)) (hout a))

/-! ### A move that goes on (R228) -/

/-- Axis a moves, and nothing asks it to stop (R230). -/
structure Moves (s : State) (a : Fin 4) : Prop where
  state : s.nat (A_PROF_STATE a) = 1
  counted : profileLost s a = false
  noFollow : (s.ax a).followAsk = false
  noRefStop : (s.ax a).refStop = false
  noStop : (s.ax a).stopping = false
  noGear : (s.ax a).gear.ask = false

theorem Moves.profileCauses (h : Moves s a) : s.profileCauses a = s := by
  have hlost : (decide (countOf s (some a) = 0) || decide (s.nat S_DEV_FAULT ≠ 0)) = false := h.counted
  simp only [State.profileCauses, hlost, h.state, h.noFollow, h.noRefStop, h.noStop, Bool.false_eq_true, if_false, true_or, if_true]

theorem setProfile_state (s : State) (a : Fin 4) (p v acc : Rat) :
    (s.setProfile a p v acc).nat (A_PROF_STATE a) = s.nat (A_PROF_STATE a) :=
  congrArg Int.toNat ((State.setProfile_only (P := (· ≠ .obj (A_PROF_STATE a))) .refl (by simp) (by simp) (by simp) (by simp))
    (.obj (A_PROF_STATE a)) (by simp))

/-- A limited update of a move goes on with it or completes it. -/
theorem profileStep_state (h : s.nat (A_PROF_STATE a) = 1) :
    (s.profileStep a).nat (A_PROF_STATE a) = 1 ∨ (s.profileStep a).nat (A_PROF_STATE a) = 2 := by
  unfold State.profileStep
  extract_lets st x dt j goal acc p v settled
  have hst : st = 1 := h
  split
  · exact .inr (by simp [State.nat_set])
  · split
    · exact .inr (by simp [State.nat_set])
    · rw [if_neg (by simp [hst])]
      exact .inl ((setProfile_state ..).trans h)

/-- Noting the master leaves the state of the profile. -/
theorem masterNoted_state (s : State) (a : Fin 4) : (masterNoted s a).nat (A_PROF_STATE a) = s.nat (A_PROF_STATE a) := by
  have hne : ∀ c : Fin 4, A_PROF_STATE c ≠ A_MASTER_POS c ∧ A_PROF_STATE c ≠ A_MASTER_SPEED c := by decide
  obtain ⟨hpos, hspeed⟩ := hne a
  rw [masterNoted, State.modAx_nat, State.nat_set, if_neg hspeed, State.nat_set, if_neg hpos]

/-- An update of a move with no engagement asked goes on with it or completes it. -/
theorem Moves.profileUpdate (h : Moves s a) (hhost : isHost s a = true) (hdue : s.tb % us (s.nat (A_PROF_PERIOD a)) = 0) :
    (s.profileUpdate a).nat (A_PROF_STATE a) = 1 ∨ (s.profileUpdate a).nat (A_PROF_STATE a) = 2 := by
  have hstate : (masterNoted s a).nat (A_PROF_STATE a) = 1 := (masterNoted_state s a).trans h.state
  have hask : ((masterNoted s a).ax a).gear.ask = false := by
    rw [masterNoted, State.ax_modAx_self]
    exact h.noGear
  rw [profileUpdate_eq hhost hdue, positionJudged_state, h.profileCauses, referenceAdvanced, hask, hstate]
  split
  · exact .inl hstate
  · rw [if_neg (by decide), if_neg (by simp)]
    split
    · exact profileStep_state hstate
    · exact .inl hstate

/-- So does the command. -/
theorem Moves.yields {t : Nat} (h : Moves (s.at_ t) a) (hOn : On s islProfile) (hhost : isHost s a = true)
    (hdue : (s.at_ t).tb % us (s.nat (A_PROF_PERIOD a)) = 0) :
    Yields (.profileUpdate t a) s (fun u => u.nat (A_PROF_STATE a) = 1 ∨ u.nat (A_PROF_STATE a) = 2) := by
  have hexec : exec (.profileUpdate t a) s = .next ((s.at_ t).profileUpdate a).settle := by
    rw [exec_profileUpdate, execProfileUpdate, runOn_on (s := s.at_ t) hOn]
  have hshown : ∀ c : Fin 4, shownKey (A_PROF_STATE c) = false := by decide
  refine ⟨_, hexec, ?_⟩
  dsimp only
  rw [State.settle_nat _ (hshown a)]
  exact h.profileUpdate hhost hdue

/-! ### The counted sections at an update -/

/-- Axis 1 moves towards one unit per second in Speed mode, and the ramp of its only section, 2, begins at the instant of the command
before. -/
def movesAsSectionJoins : State :=
  ((atDefaults [(S_AXIS 2, 1), (S_STATE 2, 1), (A_MODE 1, 1), (A_PROF_STATE 1, 1)]).modAx 1 (fun c => { c with tSpd := 0x10000 })).modSec 2
    (fun c => { c with ramp := some { up := true, start := 0, at_ := 0 } })

/-- The period of the profile, 100 µs, after the command before. -/
def onePeriod : Nat := us 100

/-- The update is due, and for the command before it no section is counted. -/
theorem movesAsSectionJoins_due :
    On movesAsSectionJoins islProfile ∧ isHost movesAsSectionJoins 1 = true ∧
    (movesAsSectionJoins.at_ onePeriod).tb % us (movesAsSectionJoins.nat (A_PROF_PERIOD (1 : Fin 4))) = 0 ∧
    rendering movesAsSectionJoins 1 = false ∧ movesAsSectionJoins.nat (A_PROF_STATE (1 : Fin 4)) = 1 ∧
    profileLost movesAsSectionJoins 1 = true := by decide +kernel

/-- At the update the ramp has a share, so the section is counted. -/
theorem movesAsSectionJoins_moves : Moves (movesAsSectionJoins.at_ onePeriod) 1 := by
  constructor <;> decide +kernel

/-- Refutes O26: an update judges the counted sections of the axis at its own instant (R23, R230), where the ramp of a joining section
has a share, while the statement counts them at the command before, where the ramp begins with none. -/
theorem not_profileCommands : ¬ Obligations.ProfileCommands := by
  intro h
  obtain ⟨hupdate, -⟩ := h
  obtain ⟨hOn, hhost, hdue, hrender, hstate, hlost⟩ := movesAsSectionJoins_due
  obtain ⟨u, hexec, -, -, -, -, -, -, hstops, -⟩ := hupdate movesAsSectionJoins onePeriod 1 hOn hhost hdue
  obtain ⟨v, hexec', hgoes⟩ := movesAsSectionJoins_moves.yields hOn hhost hdue
  cases hexec.symm.trans hexec'
  obtain ⟨-, -, hends⟩ := hstops (.inl ⟨hlost, .inl hstate⟩) hrender
  omega

end Sys2Proof.Safety

/-! SUPPORT. The encoders: what a change of A and B, an index pulse and the clear of the status do to an encoder and to the axis it
serves, and what they hand on to the decoders of the safety channels (R214–R224, R256, R277). -/

namespace Sys2Proof.Safety
open Sys2Proof.Machine Sys2Proof.Machine.Obj

variable {P : Part → Prop} {s u : State} {e : Fin 2}

/-! ### The decoders of the safety channels (R256, R277) -/

@[simp] theorem chan_modChan_self (s : State) (c : Fin 2) (f : Chan → Chan) : (s.modChan c f).chan c = f (s.chan c) := vget_set_self _ _ _

theorem chan_modChan_ne (s : State) {c d : Fin 2} (f : Chan → Chan) (h : d ≠ c) : (s.modChan c f).chan d = s.chan d := vget_set_ne _ _ h

/-- Behind the encoder itself, the change f reaches the safety channels at ENC0 whose filters have accepted it. -/
def atChannels (e : Fin 2) (who : BitVec 3) (f : Fin 2 → State → State) (s : State) : State :=
  if e = 0 then s.each chans (fun c v => if who.getLsbD (1 + c.val) then f c v else v) else s

/-- Channel c is changed by f c, the other not, and nothing but the channels is. -/
structure OneChannel (f : Fin 2 → State → State) : Prop where
  changes : ∀ c v, Only (· = .tongs) v (f c v)
  other : ∀ c d v, d ≠ c → (f c v).chan d = v.chan d

theorem OneChannel.guarded {f : Fin 2 → State → State} (h : OneChannel f) (who : BitVec 3) :
    OneChannel (fun c v => if who.getLsbD (1 + c.val) then f c v else v) where
  changes c v := .ite (fun _ => h.changes c v) (fun _ => .refl)
  other c d v hne := by
    split
    · exact h.other c d v hne
    · rfl

theorem oneChannel_chanDecode (a b : Bool) : OneChannel (fun c v => v.chanDecode c a b) :=
  ⟨fun _ _ => State.chanDecode_only .refl rfl, fun _ _ v h => chan_modChan_ne v _ h⟩

theorem oneChannel_chanIndex : OneChannel (fun c v => v.chanIndex c) :=
  ⟨fun _ _ => State.chanIndex_only .refl rfl, fun _ _ v h => chan_modChan_ne v _ h⟩

theorem OneChannel.atChannels_changes {f : Fin 2 → State → State} (h : OneChannel f) (e : Fin 2) (who : BitVec 3) (s : State) :
    Only (fun p => e = 0 ∧ p = .tongs) s (atChannels e who f s) :=
  .ite (fun he => Only.refl.each (fun c v hv => hv.trans (((h.guarded who).changes c v).mono (fun _ hp => ⟨he, hp⟩)))) (fun _ => .refl)

/-- A channel whose filter has accepted the change takes it from what the channel was, the objects being the same. -/
theorem OneChannel.atChannels_chan {f : Fin 2 → State → State} (h : OneChannel f) {who : BitVec 3} {c : Fin 2}
    (hc : who.getLsbD (1 + c.val) = true) (s : State) :
    ∃ v, (atChannels 0 who f s).chan c = (f c v).chan c ∧ v.chan c = s.chan c ∧ Only (· = .tongs) s v := by
  obtain ⟨hchanges, hother⟩ := h.guarded who
  rw [atChannels, if_pos rfl]
  match c with
  | 0 =>
    refine ⟨s, (hother 1 0 _ (by decide)).trans ?_, rfl, .refl⟩
    exact congrArg (State.chan · 0) (if_pos hc)
  | 1 => exact ⟨_, congrArg (State.chan · 1) (if_pos hc), hother 0 1 s (by decide), hchanges 0 s⟩

/-- A channel that does not take the change keeps what it was. -/
theorem OneChannel.atChannels_chan_of_off {f : Fin 2 → State → State} (h : OneChannel f) {who : BitVec 3} {c : Fin 2}
    (hoff : e ≠ 0 ∨ who.getLsbD (1 + c.val) = false) (s : State) : (atChannels e who f s).chan c = s.chan c := by
  rw [atChannels]
  split
  · next he =>
    have hc : ¬ who.getLsbD (1 + c.val) = true := Bool.eq_false_iff.mp (hoff.resolve_left (not_not_intro he))
    have hstep : ∀ d v, (if who.getLsbD (1 + d.val) then f d v else v).chan c = v.chan c := fun d v => by
      by_cases hd : c = d
      · rw [← hd, if_neg hc]
      · exact (h.guarded who).other d c v hd
    exact State.each_same (·.chan c) _ _ s hstep
  · rfl

/-! ### What the commands of an encoder end in -/

/-- Whether the encoder takes the change g, and its channels f (R214, R256). -/
def encoderTakes (e : Fin 2) (who : BitVec 3) (g : State → State) (f : Fin 2 → State → State) (s : State) : State :=
  atChannels e who f (if who.getLsbD 0 then g s else s)

theorem exec_encoderChange_eq (s : State) (t : Nat) (e : Fin 2) (who : BitVec 3) (a b : Bool) :
    exec (.encoderChange t ⟨e, who⟩ a b) s =
      .next (encoderTakes e who (·.encoderChange e a b) (fun c v => v.chanDecode c a b) (s.at_ t)).settle := rfl

theorem exec_indexPulse_eq (s : State) (t : Nat) (e : Fin 2) (who : BitVec 3) :
    exec (.indexPulse t ⟨e, who⟩) s = .next (encoderTakes e who (·.indexPulse e) (fun c v => v.chanIndex c) (s.at_ t)).settle := rfl

/-- Nothing but the parts P and the safety channels at ENC0 follows in u from v. -/
abbrev Follows (e : Fin 2) (v u : State) : Prop := Only (fun p => (e = 0 ∧ p = .tongs) ∨ p ∈ ends) v u

theorem follows_encoderTakes {f : Fin 2 → State → State} (h : OneChannel f) {who : BitVec 3} (hwho : who.getLsbD 0 = true)
    (e : Fin 2) (g : State → State) (s : State) : Follows e (g s) (encoderTakes e who g f s).settle := by
  rw [encoderTakes, if_pos hwho]
  exact ((h.atChannels_changes e who (g s)).mono (fun _ => .inl)).ends

/-- A channel whose filter has accepted the change takes it from what the channel was, where the encoder leaves the channels. -/
theorem encoderTakes_chan {f : Fin 2 → State → State} (h : OneChannel f) {who : BitVec 3} {c : Fin 2}
    (hc : who.getLsbD (1 + c.val) = true) {g : State → State} (hg : Only P s (g s)) (hP : ¬ P .tongs) :
    ∃ v, (encoderTakes 0 who g f s).settle.chan c = (f c v).chan c ∧ v.chan c = s.chan c ∧ Only (fun p => P p ∨ p = .tongs) s v := by
  have htaken : Only P s (if who.getLsbD 0 then g s else s) := .ite (fun _ => hg) (fun _ => .refl)
  have htongs : State.tongs (if who.getLsbD 0 then g s else s) = s.tongs := htaken .tongs hP
  obtain ⟨v, hchan, hsame, hchanges⟩ := h.atChannels_chan hc (if who.getLsbD 0 then g s else s)
  refine ⟨v, ?_, hsame.trans ?_, (htaken.mono (fun _ => .inl)).trans (hchanges.mono (fun _ => .inr))⟩
  · rw [State.chan, State.settle_tongs]
    exact hchan
  · rw [State.chan, htongs, ← State.chan]

theorem encoderTakes_chan_of_off {f : Fin 2 → State → State} (h : OneChannel f) {who : BitVec 3} {c : Fin 2}
    (hoff : e ≠ 0 ∨ who.getLsbD (1 + c.val) = false) {g : State → State} (hg : Only P s (g s)) (hP : ¬ P .tongs) :
    (encoderTakes e who g f s).settle.chan c = s.chan c := by
  have htongs : State.tongs (if who.getLsbD 0 then g s else s) = s.tongs :=
    (Only.ite (fun _ => hg) (fun _ => .refl) : Only P s (if who.getLsbD 0 then g s else s)) .tongs hP
  rw [State.chan, State.settle_tongs, ← State.chan, encoderTakes, h.atChannels_chan_of_off hoff, State.chan, htongs, ← State.chan]

/-- A change that the encoder itself has not accepted touches the safety channels at ENC0 alone. -/
theorem encoderTakes_frame {f : Fin 2 → State → State} (h : OneChannel f) {who : BitVec 3} (hwho : who.getLsbD 0 = false) (t : Nat)
    (e : Fin 2) (g : State → State) (s : State) : Frame (fun p => e = 0 ∧ p = .tongs) s (encoderTakes e who g f (s.at_ t)).settle := by
  rw [encoderTakes, hwho]
  exact (Only.begins.trans ((h.atChannels_changes e who (s.at_ t)).mono (fun _ => .inl))).ends

theorem obj_not_mem_ends {k : Nat} (hk : shownKey k = false) : Part.obj k ∉ ends := by
  intro hmem
  simp only [ends, List.mem_cons, List.mem_flatMap, reduceCtorEq, Part.obj.injEq, List.not_mem_nil, or_false, false_or] at hmem
  obtain ⟨a, -, ha⟩ := hmem
  obtain ⟨h1, h2, h3⟩ := shownKey_false hk a
  rcases ha with h | h | h
  · exact h1 h
  · exact h2 h
  · exact h3 h

theorem Follows.get {v : State} (h : Follows e v u) {k : Nat} (hk : shownKey k = false) : u.get k = v.get k :=
  h (.obj k) (by simp [obj_not_mem_ends hk])

theorem Follows.nat {v : State} (h : Follows e v u) {k : Nat} (hk : shownKey k = false) : u.nat k = v.nat k := congrArg Int.toNat (h.get hk)

theorem Follows.ax {v : State} (h : Follows e v u) (a : Fin 4) : u.ax a = v.ax a := h (.ax a) (by simp [ends])

theorem Follows.enc {v : State} (h : Follows e v u) (d : Fin 2) : u.enc d = v.enc d := h (.enc d) (by simp [ends])

theorem Follows.raised {v : State} (h : Follows e v u) : u.raised = v.raised := h .raised (by simp [ends])

/-! ### Bits of A_ENC_STATUS -/

/-- Bit i that is set is on, and the other bits are as before. -/
theorem bitOf_orBits (s : State) (k i j : Nat) : bitOf ((s.orBits k (2 ^ i)).nat k) j = (bitOf (s.nat k) j || decide (i = j)) := by
  rw [nat_orBits, if_pos rfl, bitOf_eq_testBit, Nat.testBit_or, Nat.testBit_two_pow, bitOf_eq_testBit]

/-- Taking the bits of k out of m leaves the others. -/
theorem testBit_sub_and (m k i : Nat) : (m - (m &&& k)).testBit i = (m.testBit i && !k.testBit i) := by
  have hle : m &&& k ≤ m := Nat.and_le_left
  have hodd : (m &&& k) % 2 = 1 ↔ m % 2 = 1 ∧ k % 2 = 1 := Nat.and_mod_two_eq_one
  induction i generalizing m k with
  | zero =>
    simp only [Nat.testBit_zero, ← Bool.decide_and, ← decide_not]
    exact decide_eq_decide.mpr (by omega)
  | succ i ih =>
    have hhalf : (m - (m &&& k)) / 2 = m / 2 - (m / 2 &&& k / 2) := by
      rw [← Nat.and_div_two]
      omega
    rw [Nat.testBit_succ, Nat.testBit_succ, Nat.testBit_succ, hhalf]
    exact ih _ _ Nat.and_le_left Nat.and_mod_two_eq_one
theorem and_two_pow_eq_zero_iff {m i : Nat} : m &&& 2 ^ i = 0 ↔ m.testBit i = false := by
  rw [Nat.and_two_pow]
  cases m.testBit i <;> simp

/-! ### The position that an encoder gives (R217, R220) -/

/-- What A_POS_ACT of axis a is computed from, beside the offset. -/
def positionParts (a : Fin 4) : List Part :=
  [.ax a, .obj (A_START_MODE a), .obj (A_ENC_AXIS 0), .obj (A_ENC_AXIS 1), .obj (A_ENC_COUNT 0), .obj (A_ENC_COUNT 1), .obj (A_UNIT_NUM a),
    .obj (A_UNIT_DEN a)]

theorem posOf_of_only {a : Fin 4} (h : Only (· ∉ positionParts a) s u) (off : Int) : posOf u a off = posOf s a off := by
  have hobj : ∀ k, Part.obj k ∈ positionParts a → u.get k = s.get k := fun k hk => h (.obj k) (not_not_intro hk)
  have hax : u.ax a = s.ax a := h (.ax a) (not_not_intro (by simp [positionParts]))
  have hcount : ∀ d : Fin 2, u.get (A_ENC_COUNT d) = s.get (A_ENC_COUNT d) := fun d => by
    match d with
    | 0 => exact hobj _ (by simp [positionParts])
    | 1 => exact hobj _ (by simp [positionParts])
  have hmode : sensorless u a = sensorless s a := by
    rw [sensorless, sensorless, State.nat, hobj _ (by simp [positionParts]), ← State.nat]
  have henc : encoderOf u a = encoderOf s a := by
    rw [encoderOf, encoderOf, State.nat, hobj (A_ENC_AXIS 0) (by simp [positionParts]), State.nat,
      hobj (A_ENC_AXIS 1) (by simp [positionParts]), ← State.nat, ← State.nat]
  unfold posOf
  rw [hmode, henc, hax, hobj (A_UNIT_NUM a) (by simp [positionParts]), hobj (A_UNIT_DEN a) (by simp [positionParts])]
  cases encoderOf s a with
  | none => rfl
  | some d => dsimp only; rw [hcount d]

theorem servedBy_of_get (h : u.get (A_ENC_AXIS e) = s.get (A_ENC_AXIS e)) : servedBy u e = servedBy s e := by
  have hnat : u.nat (A_ENC_AXIS e) = s.nat (A_ENC_AXIS e) := congrArg Int.toNat h
  simp only [servedBy, hnat]

theorem sensorless_of_get {a : Fin 4} (h : u.get (A_START_MODE a) = s.get (A_START_MODE a)) : sensorless u a = sensorless s a := by
  have hnat : u.nat (A_START_MODE a) = s.nat (A_START_MODE a) := congrArg Int.toNat h
  simp only [sensorless, hnat]

/-- Parts that a move of the count of encoder e may touch. -/
def countParts (e : Fin 2) : List Part := .obj (A_ENC_COUNT e) :: allAxes.map (fun (c : Fin 4) => .obj (A_POS_ACT c))

theorem posAct_mem_countParts (e : Fin 2) (a : Fin 4) : Part.obj (A_POS_ACT a) ∈ countParts e :=
  List.mem_cons_of_mem _ (List.mem_map_of_mem (List.mem_finRange a))

theorem Only.moveCount {d : Int} (h : Only P s u) (hc : Covers P (countParts e)) : Only P s (u.moveCount e d) :=
  State.moveCount_only h (hc _ List.mem_cons_self) (fun a => hc _ (posAct_mem_countParts e a))

/-- The count moves, and the position of an axis that the encoder serves follows it, unless the axis is Sensorless. -/
theorem moveCount_cases (s : State) (e : Fin 2) (d : Int) :
    s.moveCount e d = s.set (A_ENC_COUNT e) (s.get (A_ENC_COUNT e) + d) ∨
      ∃ a, s.moveCount e d = (s.set (A_ENC_COUNT e) (s.get (A_ENC_COUNT e) + d)).posUpdate a := by
  unfold State.moveCount
  extract_lets s1
  split
  · next a _ =>
    split
    · exact .inl rfl
    · exact .inr ⟨a, rfl⟩
  · exact .inl rfl

theorem count_ne_position : ∀ (d : Fin 2) (a : Fin 4), A_ENC_COUNT d ≠ A_POS_ACT a := by decide

@[simp] theorem moveCount_count (s : State) (e : Fin 2) (d : Int) :
    (s.moveCount e d).get (A_ENC_COUNT e) = s.get (A_ENC_COUNT e) + d := by
  rcases moveCount_cases s e d with h | ⟨a, h⟩
  · rw [h, State.get_set_self]
  · rw [h, State.posUpdate, State.get_set_ne _ _ (count_ne_position e a), State.get_set_self]

/-- A_POS_ACT of axis a shows its position at an offset. -/
def ShowsPosition (s : State) (a : Fin 4) (off : Int) : Prop := s.get (A_POS_ACT a) = posOf s a off

theorem ShowsPosition.only {a : Fin 4} {off : Int} (h : ShowsPosition s a off)
    (hu : Only (· ∉ .obj (A_POS_ACT a) :: positionParts a) s u) : ShowsPosition u a off :=
  (hu (.obj _) (not_not_intro List.mem_cons_self)).trans
    (h.trans (posOf_of_only (hu.mono (fun _ hp hq => hp (List.mem_cons_of_mem _ hq))) off).symm)

theorem position_not_mem_positionParts : ∀ a : Fin 4, Part.obj (A_POS_ACT a) ∉ positionParts a := by decide

theorem showsPosition_posUpdate (s : State) (a : Fin 4) : ShowsPosition (s.posUpdate a) a (s.ax a).poff :=
  (State.get_set_self ..).trans (posOf_of_only (State.posUpdate_only .refl (position_not_mem_positionParts a)) _).symm

theorem showsPosition_moveCount {a : Fin 4} (d : Int) (haxis : servedBy s e = some a) (hmode : sensorless s a = false) :
    ShowsPosition (s.moveCount e d) a (s.ax a).poff := by
  have hne : ∀ (d : Fin 2) (b : Fin 4), A_ENC_AXIS d ≠ A_ENC_COUNT d ∧ A_START_MODE b ≠ A_ENC_COUNT d := by decide
  obtain ⟨haxisKey, hmodeKey⟩ := hne e a
  unfold State.moveCount
  extract_lets s1
  have haxis' : servedBy s1 e = some a := (servedBy_of_get (State.get_set_ne _ _ haxisKey)).trans haxis
  have hmode' : ¬ sensorless s1 a = true := by
    rw [sensorless_of_get (State.get_set_ne s _ hmodeKey), hmode]
    decide
  rw [haxis']
  dsimp only
  rw [if_neg hmode']
  exact showsPosition_posUpdate s1 a

/-! ### A fault of an encoder (R224) -/

/-- The levels of A and B that an encoder holds. -/
def levelsOf (c : Enc) : Bool × Bool := (c.a, c.b)

/-- Encoder e shows its fault, with the entry of it. -/
def faultNoted (s : State) (e : Fin 2) : State :=
  (s.orBits (A_ENC_STATUS e) (2 ^ 4)).jMotion 4 islEncoder 0x07 (0x5800 + 0x10 * e.val) (servedBy (s.orBits (A_ENC_STATUS e) (2 ^ 4)) e)
    (some e) 0

/-- Axis a is struck by a fault of encoder e. -/
def withStruck (s : State) (e : Fin 2) (a : Fin 4) : State :=
  s.modEnc e (fun c => { c with struck := if a ∈ c.struck then c.struck else a :: c.struck })

theorem servedBy_faultNoted (s : State) (e : Fin 2) : servedBy (faultNoted s e) e = servedBy s e :=
  have hne : ∀ d : Fin 2, A_ENC_AXIS d ≠ A_ENC_STATUS d := by decide
  servedBy_of_get (State.get_set_ne s _ (hne e))

theorem encoderFault_none (h : servedBy s e = none) : s.encoderFault e = faultNoted s e := by
  have hserved : servedBy (faultNoted s e) e = none := (servedBy_faultNoted s e).trans h
  unfold State.encoderFault
  extract_lets s1 s2
  rw [show servedBy s2 e = none from hserved]
  rfl

theorem encoderFault_some {a : Fin 4} (h : servedBy s e = some a) :
    s.encoderFault e = (withStruck (faultNoted s e) e a).enterLevel a lvEncoder := by
  have hserved : servedBy (faultNoted s e) e = some a := (servedBy_faultNoted s e).trans h
  unfold State.encoderFault
  extract_lets s1 s2
  rw [show servedBy s2 e = some a from hserved]
  rfl

theorem enterLevel_changes (s : State) (a : Fin 4) (bit : Nat) : Only (· ∈ [.ax a, .obj (A_FAULT_STATE a)]) s (s.enterLevel a bit) :=
  State.enterLevel_only .refl (by simp) (by simp)

theorem enterLevel_enc (s : State) (a : Fin 4) (bit : Nat) (d : Fin 2) : (s.enterLevel a bit).enc d = s.enc d :=
  enterLevel_changes s a bit (.enc d) (by simp)

/-- A fault enters the level of the axis that the encoder serves, and strikes it. -/
theorem encoderFault_enters {a : Fin 4} (h : servedBy s e = some a) :
    ((s.encoderFault e).ax a).level = (s.ax a).level ||| lvEncoder ∧ a ∈ ((s.encoderFault e).enc e).struck := by
  rw [encoderFault_some h, enterLevel_enc, withStruck, State.enc_modEnc_self]
  refine ⟨enterLevel_level _ a 3, ?_⟩
  dsimp only
  split
  · assumption
  · exact List.mem_cons_self

theorem encoderFault_levels (s : State) (e : Fin 2) : levelsOf ((s.encoderFault e).enc e) = levelsOf (s.enc e) := by
  cases h : servedBy s e with
  | none => rw [encoderFault_none h]; rfl
  | some a => rw [encoderFault_some h, enterLevel_enc, withStruck, State.enc_modEnc_self]; rfl

theorem encoderFault_status (s : State) (e : Fin 2) (i : Nat) :
    bitOf ((s.encoderFault e).nat (A_ENC_STATUS e)) i = (bitOf (s.nat (A_ENC_STATUS e)) i || decide (4 = i)) := by
  have hne : ∀ (d : Fin 2) (a : Fin 4), Part.obj (A_ENC_STATUS d) ∉ [Part.ax a, .obj (A_FAULT_STATE a)] := by decide
  have hnat : (s.encoderFault e).nat (A_ENC_STATUS e) = (s.orBits (A_ENC_STATUS e) (2 ^ 4)).nat (A_ENC_STATUS e) := by
    cases h : servedBy s e with
    | none => rw [encoderFault_none h]; rfl
    | some a => rw [encoderFault_some h]; exact congrArg Int.toNat (enterLevel_changes _ a lvEncoder (.obj _) (hne e a))
  rw [hnat, bitOf_orBits]

/-! ### One change of the Gray sequence (R214) -/

/-- One of A and B changes. -/
def OneChanges (c : Enc) (a b : Bool) : Prop := (a ≠ c.a ∧ b = c.b) ∨ (a = c.a ∧ b ≠ c.b)

/-- The count that a change adds: forwards where A leads B, by A_ENC_POLARITY. -/
def countStep (s : State) (e : Fin 2) (a b : Bool) : Int :=
  (if (grayIndex (s.enc e).a (s.enc e).b + 1) % 4 = grayIndex a b then 1 else -1) * s.get (A_ENC_POLARITY e)

/-- The levels of A and B are taken. -/
def withLevels (s : State) (e : Fin 2) (a b : Bool) : State := s.modEnc e (fun c => { c with a := a, b := b })

/-- A change is noted for the speed, and for the travel to the next index. -/
def changeNoted (s : State) (e : Fin 2) (d : Int) : State :=
  s.modEnc e (fun c => { c with
    changes := (s.now, s.get (A_ENC_COUNT e)) :: c.changes, lastDir := d, lastAt := some s.now, travel := c.travel + 1,
    sinceZ := c.sinceZ + d })

/-- The state behind one change, before the index is missed. -/
def stepped (s : State) (e : Fin 2) (a b : Bool) : State :=
  changeNoted ((withLevels s e a b).moveCount e (countStep s e a b)) e (countStep s e a b)

theorem encoderChange_of_one {a b : Bool} (h : OneChanges (s.enc e) a b) : s.encoderChange e a b = (stepped s e a b).indexMissing e := by
  have hnone : ¬ (a = (s.enc e).a ∧ b = (s.enc e).b) := by
    unfold OneChanges at h
    tauto
  have hboth : ¬ (a ≠ (s.enc e).a ∧ b ≠ (s.enc e).b) := by
    unfold OneChanges at h
    tauto
  unfold State.encoderChange stepped countStep
  rw [if_neg hnone, if_neg hboth]
  simp only [decide_eq_true_eq]
  rfl

theorem stepped_count (s : State) (e : Fin 2) (a b : Bool) :
    (stepped s e a b).get (A_ENC_COUNT e) = s.get (A_ENC_COUNT e) + countStep s e a b := moveCount_count ..

theorem moveCount_enc (s : State) (e : Fin 2) (d : Int) : (s.moveCount e d).enc e = s.enc e :=
  (Only.refl.moveCount (fun _ hp => hp)) (.enc e) (by simp [countParts])

theorem stepped_levels (s : State) (e : Fin 2) (a b : Bool) : levelsOf ((stepped s e a b).enc e) = (a, b) := by
  rw [stepped, changeNoted, State.enc_modEnc_self, moveCount_enc, withLevels, State.enc_modEnc_self]
  rfl

theorem stepped_position {c : Fin 4} (a b : Bool) (haxis : servedBy s e = some c) (hmode : sensorless s c = false) :
    ShowsPosition (stepped s e a b) c (s.ax c).poff :=
  (showsPosition_moveCount (s := withLevels s e a b) _ haxis hmode).only (Only.refl.modEnc (by simp [positionParts]))

/-- A missed index sets a bit of the status and leaves the levels of A and B. -/
theorem indexMissing_levels (s : State) (e : Fin 2) : levelsOf ((s.indexMissing e).enc e) = levelsOf (s.enc e) := by
  unfold State.indexMissing
  split
  · extract_lets s1
    split
    · rfl
    · rw [State.enc_modEnc_self]
      rfl
  · rfl

theorem indexMissing_changes (s : State) (e : Fin 2) :
    Only (· ∈ [.obj (A_ENC_STATUS e), .raised, .enc e]) s (s.indexMissing e) :=
  State.indexMissing_only .refl (by simp) (by simp) (by simp)

/-! ### ENCODER_CHANGE with one change (R214, R217, R220) -/

theorem encoder_mem_encoderParts (e : Fin 2) : Part.enc e ∈ encoderParts e ∧ .raised ∈ encoderParts e ∧
    .obj (A_ENC_STATUS e) ∈ encoderParts e ∧ .obj (A_ENC_COUNT e) ∈ encoderParts e := by simp [encoderParts]

theorem axis_mem_encoderParts : ∀ (e : Fin 2) (a : Fin 4), Part.ax a ∈ encoderParts e ∧ .obj (A_FAULT_STATE a) ∈ encoderParts e ∧
    .obj (A_POS_ACT a) ∈ encoderParts e := by decide +kernel

theorem tongs_mem_encoderParts (h : e = 0) : Part.tongs ∈ encoderParts e := by simp [encoderParts, h]

/-- The frame of a command whose encoder has taken its change. -/
theorem Follows.frame {v : State} {t : Nat} (h : Follows e v u) (hv : Only P (s.at_ t) v) (hp : ∀ p ∈ encoderParts e, P p) : Frame P s u :=
  Only.begins.trans ((hv.mono (fun _ => .inl)).trans (h.mono (fun _ hq => hq.imp_left (fun ⟨he, hq⟩ => hq ▸ hp _ (tongs_mem_encoderParts he)))))

theorem countParts_subset_encoderParts (e : Fin 2) : ∀ p ∈ countParts e, p ∈ encoderParts e := fun p hp => by
  rcases List.mem_cons.mp hp with rfl | hp
  · exact (encoder_mem_encoderParts e).2.2.2
  · obtain ⟨a, -, rfl⟩ := List.mem_map.mp hp
    exact (axis_mem_encoderParts e a).2.2

theorem stepped_changes (s : State) (e : Fin 2) (a b : Bool) : Only (· ∈ encoderParts e) s (stepped s e a b) := by
  obtain ⟨henc, -, -, -⟩ := encoder_mem_encoderParts e
  exact ((Only.refl.modEnc henc).moveCount (countParts_subset_encoderParts e)).modEnc henc

/-- Parts that may follow the change of a count: a missed index, the safety channels and the end of the command. -/
def afterStepParts (e : Fin 2) : List Part := [.obj (A_ENC_STATUS e), .raised, .enc e, .tongs] ++ ends

theorem position_not_mem_afterStepParts : ∀ (e : Fin 2) (c : Fin 4), ∀ p ∈ afterStepParts e,
    p ≠ .obj (A_ENC_COUNT e) ∧ p ∉ .obj (A_POS_ACT c) :: positionParts c := by decide +kernel

/-- One change of A or B moves the count, and with it the position of an axis that is not Sensorless. -/
theorem encoderChange_counts (s : State) (t : Nat) {e : Fin 2} {who : BitVec 3} {a b : Bool} (hwho : who.getLsbD 0 = true)
    (h : OneChanges (s.enc e) a b) :
    Yields (.encoderChange t ⟨e, who⟩ a b) s (fun u =>
      u.get (A_ENC_COUNT e) = s.get (A_ENC_COUNT e) + countStep s e a b ∧ levelsOf (u.enc e) = (a, b) ∧
      (∀ c, servedBy s e = some c → sensorless s c = false → u.get (A_POS_ACT c) = posOf u c (s.ax c).poff) ∧
      Frame (· ∈ encoderParts e) s u) := by
  have hfollows := follows_encoderTakes (oneChannel_chanDecode a b) hwho e (·.encoderChange e a b) (s.at_ t)
  refine ⟨_, exec_encoderChange_eq .., ?_⟩
  generalize (encoderTakes e who _ _ (s.at_ t)).settle = u at hfollows ⊢
  have heq : (s.at_ t).encoderChange e a b = (stepped (s.at_ t) e a b).indexMissing e := encoderChange_of_one h
  rw [heq] at hfollows
  obtain ⟨henc, hraised, hstatus, hcount⟩ := encoder_mem_encoderParts e
  have hmissing := indexMissing_changes (stepped (s.at_ t) e a b) e
  have hrest : Only (· ∈ afterStepParts e) (stepped (s.at_ t) e a b) u :=
    (hmissing.mono (fun p hp => by simp only [afterStepParts, List.mem_append, List.mem_cons] at hp ⊢; tauto)).trans
      (hfollows.mono (fun p hp => by rcases hp with ⟨-, rfl⟩ | hp <;> simp [afterStepParts, *]))
  refine ⟨?_, ?_, fun c haxis hmode => ?_, hfollows.frame (t := t) ?_ (fun _ hp => hp)⟩
  · exact (hrest (.obj _) (fun hp => (position_not_mem_afterStepParts e 0 _ hp).1 rfl)).trans (stepped_count ..)
  · rw [hfollows.enc, indexMissing_levels, stepped_levels]
  · exact (stepped_position (s := s.at_ t) a b haxis hmode).only
      (hrest.mono (fun p hp => (position_not_mem_afterStepParts e c p hp).2))
  · exact State.indexMissing_only (stepped_changes (s.at_ t) e a b) hstatus hraised henc

/-! ### ENCODER_CHANGE with two changes at once (R215, R224) -/

/-- From s to v two changes at once are counted, flagged and noted, and no fault is judged (R215). -/
structure IllegalNoted (s : State) (e : Fin 2) (v : State) : Prop where
  changes : Only (· ∈ [.obj (A_ENC_ILLEGAL e), .obj (A_ENC_STATUS e), .raised, .enc e]) s v
  counted : v.get (A_ENC_ILLEGAL e) = counted32 (s.get (A_ENC_ILLEGAL e)) 1
  flagged : bitOf (v.nat (A_ENC_STATUS e)) 3 = true
  levels : levelsOf (v.enc e) = levelsOf (s.enc e)
  noted : (v.enc e).illegalAt = ((s.enc e).travel :: (s.enc e).illegalAt).take 3

/-- The last three illegal transitions lie within one revolution. -/
def ThirdIllegal (s : State) (e : Fin 2) : Prop := ∃ t1 t2 t3, (s.enc e).illegalAt = [t1, t2, t3] ∧ t1 - t3 ≤ s.get (A_ENC_CPR e)

theorem illegalNoted_counted (s : State) (e : Fin 2) : ((s.inc (A_ENC_ILLEGAL e)).orBits (A_ENC_STATUS e) (2 ^ 3)).get (A_ENC_ILLEGAL e) =
    counted32 (s.get (A_ENC_ILLEGAL e)) 1 := by
  have hkeys : ∀ d : Fin 2, A_ENC_ILLEGAL d ≠ A_ENC_STATUS d := by decide
  rw [State.orBits, State.get_set_ne _ _ (hkeys e), State.inc, State.addCount, State.get_set_self, counted32]

/-- Two changes at once are noted, and the third within a revolution is a fault. -/
theorem illegalChange_judged (s : State) (e : Fin 2) : ∃ v, IllegalNoted s e v ∧ (ThirdIllegal v e → s.illegalChange e = v.encoderFault e) ∧
    (¬ ThirdIllegal v e → s.illegalChange e = v) := by
  unfold State.illegalChange
  extract_lets s1 quiet s2 s3
  have hquiet : Only (· ∈ [.raised, .enc e]) s1 s2 ∧ ∃ l, s2.enc e = { s.enc e with last1D := l } := by
    simp only [s2]
    split
    · exact ⟨.refl, _, rfl⟩
    · exact ⟨(State.jMotion_only .refl (by simp)).modEnc (by simp), _, State.enc_modEnc_self ..⟩
  obtain ⟨hchanges, l, henc⟩ := hquiet
  have hget : ∀ k, s3.get k = s1.get k := fun k => hchanges (.obj k) (by simp)
  have hnoted : (s3.enc e).illegalAt = ((s.enc e).travel :: (s.enc e).illegalAt).take 3 := by
    simp only [s3, State.enc_modEnc_self, henc]
  refine ⟨s3, ⟨?_, (hget _).trans (illegalNoted_counted s e), ?_, ?_, hnoted⟩, ?_, ?_⟩
  · exact (((Only.refl.inc (by simp)).orBits (by simp)).trans (hchanges.mono (by simp))).modEnc (by simp)
  · rw [State.nat, hget, ← State.nat]
    exact (bitOf_orBits _ _ 3 3).trans (Bool.or_true _)
  · simp only [s3, State.enc_modEnc_self, henc, levelsOf]
  · rintro ⟨t1, t2, t3, hlist, hnear⟩
    rw [hlist]
    exact if_pos hnear
  · intro hfar
    split
    · next t1 t2 t3 hlist => exact if_neg (fun hnear => hfar ⟨t1, t2, t3, hlist, hnear⟩)
    · rfl

theorem thirdIllegal_of_near {v : State} (h : IllegalNoted s e v) (htwo : 2 ≤ (s.enc e).illegalAt.length)
    (hnear : (s.enc e).travel - ((s.enc e).illegalAt.drop 1).headD 0 ≤ s.get (A_ENC_CPR e)) : ThirdIllegal v e := by
  have hkeys : ∀ d : Fin 2, Part.obj (A_ENC_CPR d) ∉ [Part.obj (A_ENC_ILLEGAL d), .obj (A_ENC_STATUS d), .raised, .enc d] := by decide
  have hcpr : v.get (A_ENC_CPR e) = s.get (A_ENC_CPR e) := h.changes (.obj _) (hkeys e)
  have hnoted := h.noted
  match hlist : (s.enc e).illegalAt with
  | [] => simp [hlist] at htwo
  | [_] => simp [hlist] at htwo
  | t2 :: t3 :: _ =>
    rw [hlist] at hnoted hnear
    exact ⟨_, t2, t3, hnoted, hcpr.symm ▸ hnear⟩

/-- Parts that a fault of encoder e may touch. -/
def strikeParts (e : Fin 2) : List Part :=
  [.obj (A_ENC_STATUS e), .raised, .enc e] ++ allAxes.flatMap (fun (c : Fin 4) => [.ax c, .obj (A_FAULT_STATE c)])

theorem axis_mem_strikeParts : ∀ (e : Fin 2) (a : Fin 4), Part.ax a ∈ strikeParts e ∧ .obj (A_FAULT_STATE a) ∈ strikeParts e := by decide

theorem encoderFault_changes (s : State) (e : Fin 2) : Only (· ∈ strikeParts e) s (s.encoderFault e) :=
  State.encoderFault_only .refl (by simp [strikeParts]) (by simp [strikeParts]) (by simp [strikeParts])
    (fun a => (axis_mem_strikeParts e a).1) (fun a => (axis_mem_strikeParts e a).2)

theorem strikeParts_subset_encoderParts : ∀ e : Fin 2, ∀ p ∈ strikeParts e, p ∈ encoderParts e := by decide +kernel

/-- Two changes at once leave the count, are counted and flagged, and the third within a revolution strikes the axis that the encoder
serves. -/
structure Illegal (s : State) (e : Fin 2) (u : State) : Prop where
  changes : Only (· ∈ .obj (A_ENC_ILLEGAL e) :: strikeParts e) s u
  counted : u.get (A_ENC_ILLEGAL e) = counted32 (s.get (A_ENC_ILLEGAL e)) 1
  flagged : bitOf (u.nat (A_ENC_STATUS e)) 3 = true
  levels : levelsOf (u.enc e) = levelsOf (s.enc e)
  struck : 2 ≤ (s.enc e).illegalAt.length → (s.enc e).travel - ((s.enc e).illegalAt.drop 1).headD 0 ≤ s.get (A_ENC_CPR e) →
    bitOf (u.nat (A_ENC_STATUS e)) 4 = true ∧
    ∀ c, servedBy s e = some c → (u.ax c).level = (s.ax c).level ||| lvEncoder ∧ c ∈ (u.enc e).struck

theorem illegal_illegalChange (s : State) (e : Fin 2) : Illegal s e (s.illegalChange e) := by
  have hkeys : ∀ d : Fin 2, Part.obj (A_ENC_ILLEGAL d) ∉ strikeParts d ∧
    Part.obj (A_ENC_AXIS d) ∉ [Part.obj (A_ENC_ILLEGAL d), .obj (A_ENC_STATUS d), .raised, .enc d] := by decide
  obtain ⟨v, hv, hfault, hnone⟩ := illegalChange_judged s e
  have hchanges : Only (· ∈ .obj (A_ENC_ILLEGAL e) :: strikeParts e) s v :=
    hv.changes.mono (fun p hp => by simp only [strikeParts, List.mem_append, List.mem_cons] at hp ⊢; tauto)
  by_cases h : ThirdIllegal v e
  · have hstrikes := encoderFault_changes v e
    rw [hfault h]
    refine ⟨hchanges.trans (hstrikes.mono (fun _ => List.mem_cons_of_mem _)), ?_, ?_, (encoderFault_levels v e).trans hv.levels, ?_⟩
    · exact (hstrikes (.obj _) (hkeys e).1).trans hv.counted
    · rw [encoderFault_status, hv.flagged, Bool.true_or]
    · intro _ _
      refine ⟨by rw [encoderFault_status]; exact Bool.or_true _, fun c haxis => ?_⟩
      have haxis' : servedBy v e = some c := (servedBy_of_get (hv.changes (.obj _) (hkeys e).2)).trans haxis
      rw [← hv.changes (.ax c) (by simp)]
      exact encoderFault_enters haxis'
  · rw [hnone h]
    exact ⟨hchanges, hv.counted, hv.flagged, hv.levels, fun htwo hnear => absurd (thirdIllegal_of_near hv htwo hnear) h⟩

theorem encoderChange_of_two {a b : Bool} (ha : a ≠ (s.enc e).a) (hb : b ≠ (s.enc e).b) :
    s.encoderChange e a b = (withLevels s e a b).illegalChange e := by
  unfold State.encoderChange
  rw [if_neg (fun h => ha h.1), if_pos ⟨ha, hb⟩]
  rfl

/-- Two changes at once leave the count and are illegal (R215, R224). -/
theorem encoderChange_illegal (s : State) (t : Nat) {e : Fin 2} {who : BitVec 3} {a b : Bool} (hwho : who.getLsbD 0 = true)
    (ha : a ≠ (s.enc e).a) (hb : b ≠ (s.enc e).b) :
    Yields (.encoderChange t ⟨e, who⟩ a b) s (fun u =>
      u.get (A_ENC_COUNT e) = s.get (A_ENC_COUNT e) ∧ u.get (A_ENC_ILLEGAL e) = counted32 (s.get (A_ENC_ILLEGAL e)) 1 ∧
      bitOf (u.nat (A_ENC_STATUS e)) 3 = true ∧ levelsOf (u.enc e) = (a, b) ∧
      (2 ≤ (s.enc e).illegalAt.length → (s.enc e).travel - ((s.enc e).illegalAt.drop 1).headD 0 ≤ s.get (A_ENC_CPR e) →
        bitOf (u.nat (A_ENC_STATUS e)) 4 = true ∧ ∀ c, servedBy s e = some c →
          (u.ax c).level = (s.ax c).level ||| lvEncoder ∧ c ∈ (u.enc e).struck) ∧
      Frame (· ∈ .obj (A_ENC_ILLEGAL e) :: encoderParts e) s u) := by
  have hfollows := follows_encoderTakes (oneChannel_chanDecode a b) hwho e (·.encoderChange e a b) (s.at_ t)
  refine ⟨_, exec_encoderChange_eq .., ?_⟩
  generalize (encoderTakes e who _ _ (s.at_ t)).settle = u at hfollows ⊢
  have heq : (s.at_ t).encoderChange e a b = (withLevels (s.at_ t) e a b).illegalChange e := encoderChange_of_two ha hb
  rw [heq] at hfollows
  obtain ⟨hchanges, hcounted, hflagged, hlevels, hstruck⟩ := illegal_illegalChange (withLevels (s.at_ t) e a b) e
  have hcount : ∀ d : Fin 2, Part.obj (A_ENC_COUNT d) ∉ .obj (A_ENC_ILLEGAL d) :: strikeParts d := by decide
  have hshown : ∀ d : Fin 2, ∀ k ∈ [A_ENC_COUNT d, A_ENC_ILLEGAL d, A_ENC_STATUS d], shownKey k = false := by decide
  have henc : (withLevels (s.at_ t) e a b).enc e = { s.enc e with a := a, b := b } := State.enc_modEnc_self ..
  rw [henc] at hlevels hstruck
  refine ⟨?_, ?_, ?_, ?_, fun htwo hnear => ?_, hfollows.frame (t := t) ?_ (fun _ => List.mem_cons_of_mem _)⟩
  · exact (hfollows.get (hshown e _ (by simp))).trans (hchanges (.obj _) (hcount e))
  · exact (hfollows.get (hshown e _ (by simp))).trans hcounted
  · rw [hfollows.nat (hshown e _ (by simp))]
    exact hflagged
  · rw [hfollows.enc]
    exact hlevels
  · obtain ⟨hbit, haxes⟩ := hstruck htwo hnear
    refine ⟨by rw [hfollows.nat (hshown e _ (by simp))]; exact hbit, fun c haxis => ?_⟩
    rw [hfollows.ax, hfollows.enc]
    exact haxes c haxis
  · refine (Only.refl.modEnc (List.mem_cons_of_mem _ (encoder_mem_encoderParts e).1)).trans (hchanges.mono fun p hp => ?_)
    rcases List.mem_cons.mp hp with rfl | hp
    · exact List.mem_cons_self
    · exact List.mem_cons_of_mem _ (strikeParts_subset_encoderParts e p hp)

/-! ### ENCODER_CHANGE at the safety channels (R256, R277) -/

/-- Channel c decodes the levels a and b from s to u: one change moves its count, and two at once are illegal, the third within a
revolution being an encoder cause. -/
structure Decodes (s : State) (c : Fin 2) (a b : Bool) (u : State) : Prop where
  levels : (u.chan c).a = a ∧ (u.chan c).b = b
  counts : (a ≠ (s.chan c).a ∧ b = (s.chan c).b) ∨ (a = (s.chan c).a ∧ b ≠ (s.chan c).b) → (u.chan c).count = (s.chan c).count +
    (if (grayIndex (s.chan c).a (s.chan c).b + 1) % 4 = grayIndex a b then 1 else -1) * s.get (A_ENC_POLARITY 0)
  illegal : a ≠ (s.chan c).a → b ≠ (s.chan c).b → (u.chan c).count = (s.chan c).count ∧ (2 ≤ (s.chan c).illegalAt.length →
    (s.chan c).travel - ((s.chan c).illegalAt.drop 1).headD 0 ≤ s.cfgOf c SF_ENC_CPR → (u.chan c).illegal = true)

theorem decodes_chanDecode (s : State) (c : Fin 2) (a b : Bool) : Decodes s c a b (s.chanDecode c a b) := by
  have hw : (s.chanDecode c a b).chan c = _ := chan_modChan_self s c _
  by_cases ha : a = (s.chan c).a
  · by_cases hb : b = (s.chan c).b
    · rw [if_pos ⟨ha, hb⟩] at hw
      exact ⟨by rw [hw]; exact ⟨ha.symm, hb.symm⟩, fun h => by tauto, fun h => absurd ha h⟩
    · rw [if_neg (fun h => hb h.2), if_neg (fun h => h.1 ha)] at hw
      exact ⟨by rw [hw]; exact ⟨rfl, rfl⟩, fun _ => by rw [hw], fun h => absurd ha h⟩
  · by_cases hb : b = (s.chan c).b
    · rw [if_neg (fun h => ha h.1), if_neg (fun h => h.2 hb)] at hw
      exact ⟨by rw [hw]; exact ⟨rfl, rfl⟩, fun _ => by rw [hw], fun _ h => absurd hb h⟩
    · rw [if_neg (fun h => ha h.1), if_pos ⟨ha, hb⟩] at hw
      refine ⟨by rw [hw]; exact ⟨rfl, rfl⟩, fun h => by tauto, fun _ _ => ⟨by rw [hw], fun htwo hnear => ?_⟩⟩
      rw [hw]
      dsimp only
      match hlist : (s.chan c).illegalAt with
      | [] => simp [hlist] at htwo
      | [_] => simp [hlist] at htwo
      | t2 :: t3 :: _ =>
        rw [hlist] at hnear
        exact Bool.or_eq_true_iff.mpr (.inr (decide_eq_true hnear))

theorem cfgOf_of_chan {c : Fin 2} (h : u.chan c = s.chan c) (k : Nat) : u.cfgOf c k = s.cfgOf c k := by
  unfold State.chan at h
  rw [State.cfgOf, State.cfgOf, h]

/-- A channel decodes from what it was, wherever the objects and the channel are the same. -/
theorem Decodes.of_same {c : Fin 2} {a b : Bool} {v w : State} (h : Decodes v c a b w) (hchan : v.chan c = s.chan c)
    (hget : v.get (A_ENC_POLARITY 0) = s.get (A_ENC_POLARITY 0)) (hu : u.chan c = w.chan c) : Decodes s c a b u := by
  obtain ⟨h1, h2, h3⟩ := h
  rw [hchan, cfgOf_of_chan hchan, ← hu] at h3
  rw [hchan, hget, ← hu] at h2
  rw [← hu] at h1
  exact ⟨h1, h2, h3⟩

theorem encoderChange_leaves_channels (s : State) (e : Fin 2) (a b : Bool) :
    Only (· ∉ [.tongs, .obj (A_ENC_POLARITY 0)]) s (s.encoderChange e a b) := by
  have hout : ∀ (d : Fin 2) (c : Fin 4), ∀ p ∈ [Part.enc d, .obj (A_ENC_ILLEGAL d), .obj (A_ENC_STATUS d), .raised, .ax c,
      .obj (A_FAULT_STATE c), .obj (A_ENC_COUNT d), .obj (A_POS_ACT c)], p ∉ [Part.tongs, .obj (A_ENC_POLARITY 0)] := by decide
  exact State.encoderChange_only .refl (hout e 0 _ (by simp)) (hout e 0 _ (by simp)) (hout e 0 _ (by simp)) (hout e 0 _ (by simp))
    (fun c => hout e c _ (by simp)) (fun c => hout e c _ (by simp)) (hout e 0 _ (by simp)) (fun c => hout e c _ (by simp))

/-- The channels decode what their filters have accepted, whether or not the encoder has. -/
theorem encoderChange_decodes (s : State) (t : Nat) (e : Fin 2) (who : BitVec 3) (a b : Bool) (c : Fin 2) :
    Yields (.encoderChange t ⟨e, who⟩ a b) s (fun u =>
      (e = 0 → who.getLsbD (1 + c.val) = true → Decodes s c a b u) ∧
      (e ≠ 0 ∨ who.getLsbD (1 + c.val) = false → u.chan c = s.chan c) ∧
      (who.getLsbD 0 = false → Frame (fun p => e = 0 ∧ p = .tongs) s u)) := by
  have hone := oneChannel_chanDecode a b
  have hleaves := encoderChange_leaves_channels (s.at_ t) e a b
  refine ⟨_, exec_encoderChange_eq .., fun he hc => ?_, fun hoff => ?_, fun hwho => ?_⟩
  · subst he
    obtain ⟨v, hchan, hsame, hchanges⟩ := encoderTakes_chan (g := (·.encoderChange 0 a b)) hone hc hleaves (by simp)
    exact (decodes_chanDecode v c a b).of_same hsame (hchanges (.obj _) (by simp)) hchan
  · exact encoderTakes_chan_of_off (g := (·.encoderChange e a b)) hone hoff hleaves (by simp)
  · exact encoderTakes_frame hone hwho t e _ s

/-! ### A phase of the reference run (R79, R225) -/

theorem drives_ax (s : State) (l : List (Fin 6)) (a : Fin 4) : (s.each l (fun x v => v.drive x)).ax a = s.ax a :=
  State.each_same (·.ax a) l _ s (fun x v => drive_ax v x a)

/-- The phase is in force, and none is on its way. -/
theorem refPhaseAt_start (s : State) (a : Fin 4) (p t0 : Nat) : ((s.refPhaseAt a p t0).ax a).start.refPhase = p := by
  unfold State.refPhaseAt
  extract_lets th f from1 target s1 s2
  have hphase : (s1.ax a).start.refPhase = p := by rw [State.ax_modAx_self]
  rw [drives_ax]
  simp only [s2]
  split
  · rw [blendPreload_start, hphase]
  · exact hphase

/-- A phase is taken at once on a local axis, and on a cascade axis held for the start of the second NazLink cycle. -/
theorem decideRef_decides (s : State) (a : Fin 4) (p : Nat) :
    if onCascade s a then ((s.decideRef a p).ax a).start.refDue = some (p, 2) else ((s.decideRef a p).ax a).start.refPhase = p := by
  cases h : onCascade s a with
  | true => simp [State.decideRef, h]
  | false =>
    simp only [Bool.false_eq_true, if_false, State.decideRef, h, Bool.not_false, if_true]
    exact refPhaseAt_start s a p s.now

/-- What the cascade axis of an axis, and its host, are read from (R33, R34). -/
def cascadeParts (a : Fin 4) : List Part := [.ax a, .obj (A_CASCADE_AXIS a), .obj NZ_ROLE] ++ allSecs.map (fun (x : Fin 6) => .obj (S_AXIS x))

theorem onCascade_of_only {a : Fin 4} (h : Only (· ∉ cascadeParts a) s u) : onCascade u a = onCascade s a ∧ isHost u a = isHost s a := by
  have hobj : ∀ k, Part.obj k ∈ cascadeParts a → u.nat k = s.nat k := fun k hk => congrArg Int.toNat (h (.obj k) (not_not_intro hk))
  have hax : u.ax a = s.ax a := h (.ax a) (not_not_intro (by simp [cascadeParts]))
  have hcascade := hobj (A_CASCADE_AXIS a) (by simp [cascadeParts])
  have hrole := hobj NZ_ROLE (by simp [cascadeParts])
  have hsecs : secsOf u a = secsOf s a :=
    List.filter_congr (fun x _ => by rw [hobj (S_AXIS x) (by simp [cascadeParts, allSecs])])
  have hcan : canHost u a = canHost s a := by rw [canHost, canHost, freeAxis, freeAxis, hcascade, hrole, hsecs]
  have hof : cascadeOf u a = cascadeOf s a := by rw [cascadeOf, cascadeOf, hcascade, hcan, hax]
  exact ⟨by rw [onCascade, onCascade, hof], by rw [isHost, isHost, hcascade, hrole]⟩

/-- Parts that a decided phase of the reference run may touch. -/
def runParts (a : Fin 4) : List Part := refParts a ++ allSlots.map .slot

theorem Only.refPhaseDecided {a : Fin 4} {p : Nat} (h : Only P s u) (hp : Covers P (runParts a)) : Only P s (u.decideRef a p) := by
  have hdrive : ∀ x, Covers P (driveParts x) := fun x q hq => hp q (by
    simp only [runParts, refParts, List.mem_append, List.mem_flatMap]
    exact .inl (.inr ⟨x, List.mem_finRange x, hq⟩))
  exact State.decideRef_only h (hp _ (by simp [runParts, refParts]))
    (fun k => hp _ (List.mem_append_right _ (List.mem_map_of_mem (List.mem_finRange k))))
    (fun x q => hdrive x _ (hb_mem_driveParts x q)) (fun x q => hdrive x _ (gate_mem_driveParts x q)) (fun x => hdrive x _ (sec_mem_driveParts x))

/-! ### The first index (R221, R225) -/

/-- An index begins the travel to the next. -/
def indexSeen (s : State) (e : Fin 2) : State := s.modEnc e (fun c => { c with sinceZ := 0, j1C := false })

/-- The first index has referenced encoder e. -/
def indexTaken (s : State) (e : Fin 2) : State :=
  ((indexSeen s e).set (A_ENC_IDX_REF e) (s.get (A_ENC_COUNT e))).orBits (A_ENC_STATUS e) (2 ^ 0)

/-- The axis that the encoder serves is told of its reference: a run goes on, and without a run A_REF_STATE follows. -/
def referenceTold (s : State) (a : Fin 4) : State :=
  if s.nat (A_REF_STATE a) = 1 ∧ isHost s a then s.decideRef a 4 else if s.nat (A_REF_STATE a) = 1 then s else s.syncRef a

theorem indexPulse_first (h : referenced s e = false) :
    s.indexPulse e = (servedBy s e).elim (indexTaken s e) (referenceTold (indexTaken s e)) := by
  have href : referenced (indexSeen s e) e = false := h
  unfold State.indexPulse
  extract_lets src ax s1
  rw [if_pos (by rw [show referenced s1 e = false from href]; rfl)]
  simp only [ax]
  cases servedBy s e <;> rfl

theorem Only.referenceTold {a : Fin 4} (h : Only P s u) (hp : Covers P (runParts a)) : Only P s (referenceTold u a) :=
  .ite (fun _ => h.refPhaseDecided hp) (fun _ => .ite (fun _ => h) (fun _ => State.syncRef_only h (hp _ (by simp [runParts, refParts]))))

/-- Without a run A_REF_STATE shows the reference of the encoder that serves the axis. -/
theorem syncRef_referenced {a : Fin 4} (hrun : s.nat (A_REF_STATE a) ≠ 1) (henc : encoderOf s a = some e) (hmode : sensorless s a = false)
    (href : referenced s e = true) : s.syncRef a = s.set (A_REF_STATE a) 2 := by
  simp [State.syncRef, hrun, henc, hmode, href]

/-- The axis goes on with its run, or shows the reference. -/
theorem referenceTold_tells (s : State) (a : Fin 4) :
    (s.nat (A_REF_STATE a) = 1 → isHost s a = true →
      if onCascade s a then ((referenceTold s a).ax a).start.refDue = some (4, 2) else ((referenceTold s a).ax a).start.refPhase = 4) ∧
    (s.nat (A_REF_STATE a) ≠ 1 → encoderOf s a = some e → sensorless s a = false → referenced s e = true →
      (referenceTold s a).get (A_REF_STATE a) = 2) := by
  constructor
  · intro hrun hhost
    rw [show referenceTold s a = s.decideRef a 4 from if_pos ⟨hrun, hhost⟩]
    exact decideRef_decides s a 4
  · intro hrun henc hmode href
    rw [referenceTold, if_neg (fun h => hrun h.1), if_neg hrun, syncRef_referenced hrun henc hmode href, State.get_set_self]

theorem indexTaken_changes (s : State) (e : Fin 2) :
    Only (· ∈ [.enc e, .obj (A_ENC_IDX_REF e), .obj (A_ENC_STATUS e)]) s (indexTaken s e) :=
  ((Only.refl.modEnc (by simp)).set (by simp)).orBits (by simp)

theorem indexTaken_referenced (s : State) (e : Fin 2) :
    (indexTaken s e).get (A_ENC_IDX_REF e) = s.get (A_ENC_COUNT e) ∧ referenced (indexTaken s e) e = true := by
  have hne : ∀ d : Fin 2, A_ENC_IDX_REF d ≠ A_ENC_STATUS d := by decide
  constructor
  · rw [indexTaken, State.orBits, State.get_set_ne _ _ (hne e), State.get_set_self]
  · exact (bitOf_orBits _ _ 0 0).trans (Bool.or_true _)

/-- What the axis is told by is the same before and after the encoder is referenced. -/
theorem indexTaken_leaves : ∀ (e : Fin 2) (a : Fin 4), ∀ p ∈ [Part.enc e, .obj (A_ENC_IDX_REF e), .obj (A_ENC_STATUS e)],
    p ∉ [Part.obj (A_REF_STATE a), .obj (A_START_MODE a), .obj (A_ENC_AXIS 0), .obj (A_ENC_AXIS 1), .obj (A_ENC_COUNT e)] ++
      cascadeParts a := by decide

theorem index_not_mem_runParts : ∀ (e : Fin 2) (a : Fin 4), ∀ p ∈ [Part.obj (A_ENC_IDX_REF e), .obj (A_ENC_STATUS e), .obj (A_ENC_COUNT e)],
    p ∉ runParts a := by decide +kernel

theorem encoderOf_of_get {a : Fin 4} (h0 : u.get (A_ENC_AXIS 0) = s.get (A_ENC_AXIS 0)) (h1 : u.get (A_ENC_AXIS 1) = s.get (A_ENC_AXIS 1)) :
    encoderOf u a = encoderOf s a := by
  rw [encoderOf, encoderOf, State.nat, State.nat, h0, h1, ← State.nat, ← State.nat]

/-- The first index references the encoder, and the axis that it serves is told. -/
structure FirstIndex (s : State) (e : Fin 2) (u : State) : Prop where
  reference : u.get (A_ENC_IDX_REF e) = s.get (A_ENC_COUNT e)
  isReferenced : referenced u e = true
  count : u.get (A_ENC_COUNT e) = s.get (A_ENC_COUNT e)
  runs : ∀ c, servedBy s e = some c → s.nat (A_REF_STATE c) = 1 → isHost s c = true →
    if onCascade s c then (u.ax c).start.refDue = some (4, 2) else (u.ax c).start.refPhase = 4
  shows : ∀ c, servedBy s e = some c → s.nat (A_REF_STATE c) ≠ 1 → encoderOf s c = some e → sensorless s c = false →
    u.get (A_REF_STATE c) = 2

theorem firstIndex_indexPulse (h : referenced s e = false) : FirstIndex s e (s.indexPulse e) := by
  obtain ⟨hreference, hreferenced⟩ := indexTaken_referenced s e
  have hchanges := indexTaken_changes s e
  have hcount : (indexTaken s e).get (A_ENC_COUNT e) = s.get (A_ENC_COUNT e) :=
    hchanges (.obj _) (fun hp => indexTaken_leaves e 0 _ hp (by simp))
  rw [indexPulse_first h]
  cases haxis : servedBy s e with
  | none => exact ⟨hreference, hreferenced, hcount, fun c hc => absurd (haxis.symm.trans hc) (by simp),
      fun c hc => absurd (haxis.symm.trans hc) (by simp)⟩
  | some a =>
    have htold : Only (· ∈ runParts a) (indexTaken s e) (referenceTold (indexTaken s e) a) := Only.refl.referenceTold (fun _ hp => hp)
    have hkeep : ∀ k, Part.obj k ∈ [Part.obj (A_ENC_IDX_REF e), .obj (A_ENC_STATUS e), .obj (A_ENC_COUNT e)] →
        (referenceTold (indexTaken s e) a).get k = (indexTaken s e).get k := fun k hk => htold (.obj k) (index_not_mem_runParts e a _ hk)
    have hbefore : ∀ k, Part.obj k ∈ [Part.obj (A_REF_STATE a), .obj (A_START_MODE a), .obj (A_ENC_AXIS 0), .obj (A_ENC_AXIS 1)] →
        (indexTaken s e).get k = s.get k := fun k hk =>
      hchanges (.obj k) (fun hp => indexTaken_leaves e a _ hp (by simp only [List.mem_append, List.mem_cons] at hk ⊢; tauto))
    have hrun : (indexTaken s e).nat (A_REF_STATE a) = s.nat (A_REF_STATE a) := congrArg Int.toNat (hbefore _ (by simp))
    obtain ⟨hcascade, hhost⟩ := onCascade_of_only
      (hchanges.mono (fun p hp hq => indexTaken_leaves e a p hp (List.mem_append_right _ hq)) : Only (· ∉ cascadeParts a) s (indexTaken s e))
    obtain ⟨hruns, hshows⟩ := referenceTold_tells (e := e) (indexTaken s e) a
    rw [hrun, hhost, hcascade] at hruns
    rw [hrun, encoderOf_of_get (hbefore _ (by simp)) (hbefore _ (by simp)), sensorless_of_get (hbefore _ (by simp))] at hshows
    refine ⟨(hkeep _ (by simp)).trans hreference, ?_, (hkeep _ (by simp)).trans hcount, fun c hc => ?_, fun c hc hrun' henc hmode => ?_⟩
    · rw [Option.elim, referenced, State.nat, hkeep _ (by simp), ← State.nat]
      exact hreferenced
    · obtain rfl : a = c := Option.some.inj (haxis.symm.trans hc)
      exact hruns
    · obtain rfl : a = c := Option.some.inj (haxis.symm.trans hc)
      exact hshows hrun' henc hmode hreferenced

theorem indexKeys_shown : ∀ d : Fin 2, ∀ k ∈ [A_ENC_COUNT d, A_ENC_STATUS d, A_ENC_IDX_REF d, A_ENC_IDX_ERR d, A_ENC_IDX_FLAGS d],
    shownKey k = false := by decide

theorem refState_shown : ∀ a : Fin 4, shownKey (A_REF_STATE a) = false := by decide

/-- Parts that the first index of encoder e may touch, beside those of an edge. -/
def firstIndexParts (e : Fin 2) : List Part :=
  .obj (A_ENC_IDX_REF e) :: encoderParts e ++ allAxes.flatMap refParts ++ allSlots.map .slot

theorem runParts_subset_firstIndexParts (e : Fin 2) (a : Fin 4) : ∀ p ∈ runParts a, p ∈ firstIndexParts e := fun p hp => by
  rcases List.mem_append.mp hp with hp | hp
  · exact List.mem_append_left _ (List.mem_append_right _ (List.mem_flatMap.mpr ⟨a, List.mem_finRange a, hp⟩))
  · exact List.mem_append_right _ hp

theorem encoderParts_subset_firstIndexParts (e : Fin 2) : ∀ p ∈ encoderParts e, p ∈ firstIndexParts e := fun _ hp =>
  List.mem_append_left _ (List.mem_append_left _ (List.mem_cons_of_mem _ hp))

theorem firstIndex_changes (h : referenced s e = false) : Only (· ∈ firstIndexParts e) s (s.indexPulse e) := by
  obtain ⟨henc, -, hstatus, -⟩ := encoder_mem_encoderParts e
  have htaken : Only (· ∈ firstIndexParts e) s (indexTaken s e) := (indexTaken_changes s e).mono (fun p hp => by
    simp only [List.mem_cons, List.not_mem_nil, or_false] at hp
    rcases hp with rfl | rfl | rfl
    · exact encoderParts_subset_firstIndexParts e _ henc
    · exact List.mem_append_left _ (List.mem_append_left _ List.mem_cons_self)
    · exact encoderParts_subset_firstIndexParts e _ hstatus)
  rw [indexPulse_first h]
  cases servedBy s e with
  | none => exact htaken
  | some a => exact htaken.referenceTold (runParts_subset_firstIndexParts e a)

theorem FirstIndex.follows {v : State} (h : FirstIndex s e v) (hu : Follows e v u) : FirstIndex s e u := by
  obtain ⟨hreference, hreferenced, hcount, hruns, hshows⟩ := h
  refine ⟨?_, ?_, ?_, fun c => ?_, fun c => ?_⟩
  · rwa [hu.get (indexKeys_shown e _ (by simp))]
  · rwa [referenced, hu.nat (indexKeys_shown e _ (by simp)), ← referenced]
  · rwa [hu.get (indexKeys_shown e _ (by simp))]
  · rw [hu.ax]
    exact hruns c
  · rw [hu.get (refState_shown c)]
    exact hshows c

/-- The first index references the encoder (R221), and a reference run goes on to its blend (R225). -/
theorem indexPulse_references (s : State) (t : Nat) {e : Fin 2} {who : BitVec 3} (hwho : who.getLsbD 0 = true) (h : referenced s e = false) :
    Yields (.indexPulse t ⟨e, who⟩) s (fun u => FirstIndex s e u ∧ Frame (· ∈ firstIndexParts e) s u) := by
  have hfollows := follows_encoderTakes oneChannel_chanIndex hwho e (·.indexPulse e) (s.at_ t)
  have hfirst : FirstIndex (s.at_ t) e ((s.at_ t).indexPulse e) := firstIndex_indexPulse h
  obtain ⟨hreference, hreferenced, hcount, hruns, hshows⟩ := hfirst.follows hfollows
  exact ⟨_, exec_indexPulse_eq .., ⟨hreference, hreferenced, hcount, hruns, hshows⟩,
    hfollows.frame (t := t) (firstIndex_changes (s := s.at_ t) h) (encoderParts_subset_firstIndexParts e)⟩

/-! ### INDEX_PULSE at the safety channels (R256, R277) -/

/-- Channel c takes a rising edge of Z from s to u: the first is its reference, and a later one is judged by its error. -/
structure Indexes (s : State) (c : Fin 2) (u : State) : Prop where
  counts : (u.chan c).sinceZ = 0 ∧ (u.chan c).count = (s.chan c).count
  first : (s.chan c).zRef = none → (u.chan c).zRef = some (s.chan c).count ∧ (u.chan c).idxBad = false
  later : ∀ z, (s.chan c).zRef = some z → (u.chan c).zRef = some z ∧
    (u.chan c).idxErr = indexError (s.cfgOf c SF_ENC_CPR) ((s.chan c).count - z) ∧
    (u.chan c).idxBad = decide (s.cfgOf c SF_IDX_TOL < (u.chan c).idxErr.natAbs)

theorem indexes_chanIndex (s : State) (c : Fin 2) : Indexes s c (s.chanIndex c) := by
  have hw : (s.chanIndex c).chan c = _ := chan_modChan_self s c _
  dsimp only at hw
  cases hz : (s.chan c).zRef with
  | none =>
    rw [hz] at hw
    exact ⟨by rw [hw]; exact ⟨rfl, rfl⟩, fun _ => by rw [hw]; exact ⟨rfl, rfl⟩, fun z h => absurd (hz.symm.trans h) (by simp)⟩
  | some z =>
    rw [hz] at hw
    refine ⟨by rw [hw]; exact ⟨rfl, rfl⟩, fun h => absurd (hz.symm.trans h) (by simp), fun z' h => ?_⟩
    obtain rfl : z = z' := Option.some.inj (hz.symm.trans h)
    rw [hw]
    exact ⟨rfl, rfl, rfl⟩

theorem Indexes.of_same {c : Fin 2} {v w : State} (h : Indexes v c w) (hchan : v.chan c = s.chan c) (hu : u.chan c = w.chan c) :
    Indexes s c u := by
  obtain ⟨h1, h2, h3⟩ := h
  rw [hchan, ← hu] at h1 h2
  rw [hchan, cfgOf_of_chan hchan, cfgOf_of_chan hchan, ← hu] at h3
  exact ⟨h1, h2, h3⟩

theorem indexPulse_leaves_channels (s : State) (e : Fin 2) : Only (· ≠ .tongs) s (s.indexPulse e) :=
  State.indexPulse_only .refl (by simp) (by simp) (by simp) (by simp) (by simp) (by simp) (by simp) (by simp) (by simp) (by simp) (by simp)
    (by simp) (by simp) (by simp) (by simp)

/-- The channels take what their filters have accepted, whether or not the encoder has. -/
theorem indexPulse_indexes (s : State) (t : Nat) (e : Fin 2) (who : BitVec 3) (c : Fin 2) :
    Yields (.indexPulse t ⟨e, who⟩) s (fun u =>
      (e = 0 → who.getLsbD (1 + c.val) = true → Indexes s c u) ∧
      (e ≠ 0 ∨ who.getLsbD (1 + c.val) = false → u.chan c = s.chan c) ∧
      (who.getLsbD 0 = false → Frame (fun p => e = 0 ∧ p = .tongs) s u)) := by
  have hone := oneChannel_chanIndex
  have hleaves := indexPulse_leaves_channels (s.at_ t) e
  refine ⟨_, exec_indexPulse_eq .., fun he hc => ?_, fun hoff => ?_, fun hwho => ?_⟩
  · subst he
    obtain ⟨v, hchan, hsame, -⟩ := encoderTakes_chan (g := (·.indexPulse 0)) hone hc hleaves (by simp)
    exact (indexes_chanIndex v c).of_same hsame hchan
  · exact encoderTakes_chan_of_off (g := (·.indexPulse e)) hone hoff hleaves (by simp)
  · exact encoderTakes_frame hone hwho t e _ s

/-! ### A later index (R222, R224) -/

/-- A_REF_STATE of the axis that the encoder serves goes from a failed run to referenced (R225; log entry 94). -/
def referenceRestored (s : State) (e : Fin 2) : State :=
  (servedBy s e).elim s (fun a => if s.nat (A_REF_STATE a) = 3 then s.set (A_REF_STATE a) 2 else s)

/-- The index error of the count, taken into half a revolution to either side. -/
def countError (s : State) (e : Fin 2) : Int :=
  let r := (s.get (A_ENC_COUNT e) - s.get (A_ENC_IDX_REF e)) % s.get (A_ENC_CPR e)
  if r ≤ (s.get (A_ENC_CPR e) - 1) / 2 then r else r - s.get (A_ENC_CPR e)

/-- The state in which a later index is judged. -/
def indexErred (s : State) (e : Fin 2) : State :=
  (referenceRestored (indexSeen s e) e).set (A_ENC_IDX_ERR e) (countError (referenceRestored (indexSeen s e) e) e)

/-- An index error beyond the tolerance is flagged, and in mode 2 taken out of the count, with the entry of axis a. -/
def indexFlagged (s : State) (e : Fin 2) (a : Option (Fin 4)) (ei : Int) : State :=
  let v := if s.nat (A_ENC_IDX_MODE e) = 2 then s.moveCount e (-ei) else s
  ((v.orBits (A_ENC_STATUS e) (2 ^ 1)).inc (A_ENC_IDX_FLAGS e)).jMotion 1 islEncoder
    (if s.nat (A_ENC_IDX_MODE e) = 2 then 0x1B else 0x1A) (0x5800 + 0x10 * e.val) a (some e) ei

/-- The index error that a later index is judged by. -/
def judgedError (s : State) (e : Fin 2) : Int := countError (referenceRestored (indexSeen s e) e) e

theorem indexPulse_later (h : referenced s e = true) :
    s.indexPulse e =
      if (indexErred s e).nat (A_ENC_IDX_MODE e) = 0 ∨ ((judgedError s e).natAbs : Int) ≤ (indexErred s e).get (A_ENC_IDX_TOL e) then
        indexErred s e
      else if (indexErred s e).get (A_ENC_IDX_GROSS e) < (judgedError s e).natAbs then (indexErred s e).encoderFault e
      else indexFlagged (indexErred s e) e (servedBy s e) (judgedError s e) := by
  have href : referenced (indexSeen s e) e = true := h
  unfold State.indexPulse
  extract_lets src ax s1 first s2 cpr r ei s3 m
  rw [if_neg (by rw [show referenced s1 e = true from href]; decide)]
  have hrestored : s2 = referenceRestored (indexSeen s e) e := by
    simp only [s2, ax, referenceRestored, show servedBy (indexSeen s e) e = servedBy s e from rfl]
    cases servedBy s e <;> rfl
  have herror : ei = judgedError s e := by
    simp only [ei, r, cpr, hrestored]
    rfl
  have herred : s3 = indexErred s e := by
    simp only [s3, herror, hrestored]
    rfl
  rw [← herror, ← herred]
  rfl

/-- Parts that the judgement of a later index finds changed. -/
def erredParts (e : Fin 2) : List Part := [.enc e, .obj (A_ENC_IDX_ERR e)] ++ allAxes.map (fun (c : Fin 4) => .obj (A_REF_STATE c))

theorem referenceRestored_changes (s : State) (e : Fin 2) :
    Only (· ∈ allAxes.map (fun (c : Fin 4) => Part.obj (A_REF_STATE c))) s (referenceRestored s e) := by
  rw [referenceRestored]
  cases servedBy s e with
  | none => exact .refl
  | some a => exact .ite (fun _ => Only.refl.set (List.mem_map_of_mem (List.mem_finRange a))) (fun _ => .refl)

theorem indexErred_changes (s : State) (e : Fin 2) : Only (· ∈ erredParts e) s (indexErred s e) :=
  ((Only.refl.modEnc (by simp)).trans ((referenceRestored_changes _ e).mono (fun _ hp => List.mem_append_right _ hp))).set (by simp)

/-- What a later index is judged by. -/
def indexKeys (e : Fin 2) : List Nat :=
  [A_ENC_COUNT e, A_ENC_IDX_REF e, A_ENC_CPR e, A_ENC_IDX_MODE e, A_ENC_IDX_TOL e, A_ENC_IDX_GROSS e, A_ENC_STATUS e, A_ENC_IDX_FLAGS e]

theorem indexKeys_not_mem_erredParts : ∀ e : Fin 2, ∀ k ∈ indexKeys e, Part.obj k ∉ erredParts e := by decide

theorem indexErred_get (s : State) {k : Nat} (hk : k ∈ indexKeys e) : (indexErred s e).get k = s.get k :=
  indexErred_changes s e (.obj k) (indexKeys_not_mem_erredParts e k hk)

theorem indexErred_nat (s : State) {k : Nat} (hk : k ∈ indexKeys e) : (indexErred s e).nat k = s.nat k :=
  congrArg Int.toNat (indexErred_get s hk)

theorem judgedError_eq (s : State) (e : Fin 2) : judgedError s e = countError s e := by
  have hget : ∀ k ∈ indexKeys e, (referenceRestored (indexSeen s e) e).get k = s.get k := fun k hk =>
    referenceRestored_changes (indexSeen s e) e (.obj k)
      (fun hp => indexKeys_not_mem_erredParts e k hk (List.mem_append_right _ hp))
  rw [judgedError, countError, hget _ (by simp [indexKeys]), hget _ (by simp [indexKeys]), hget _ (by simp [indexKeys])]
  rfl

theorem indexErred_error (s : State) (e : Fin 2) : (indexErred s e).get (A_ENC_IDX_ERR e) = countError s e :=
  (State.get_set_self ..).trans (judgedError_eq s e)

/-- A failed run of the axis that the encoder serves reads referenced. -/
theorem indexErred_restores {c : Fin 4} (s : State) (haxis : servedBy s e = some c) (hfailed : s.nat (A_REF_STATE c) = 3) :
    (indexErred s e).get (A_REF_STATE c) = 2 := by
  have hne : ∀ (d : Fin 2) (a : Fin 4), A_REF_STATE a ≠ A_ENC_IDX_ERR d := by decide
  rw [indexErred, State.get_set_ne _ _ (hne e c), referenceRestored, show servedBy (indexSeen s e) e = some c from haxis]
  exact (congrArg (State.get · _) (if_pos hfailed)).trans (State.get_set_self ..)

/-- A flagged index error is shown and counted, and in mode 2 taken out of the count. -/
theorem indexFlagged_flags (s : State) (e : Fin 2) (a : Option (Fin 4)) (ei : Int) :
    bitOf ((indexFlagged s e a ei).nat (A_ENC_STATUS e)) 1 = true ∧
    (indexFlagged s e a ei).get (A_ENC_IDX_FLAGS e) = counted32 (s.get (A_ENC_IDX_FLAGS e)) 1 ∧
    (indexFlagged s e a ei).get (A_ENC_COUNT e) =
      (if s.nat (A_ENC_IDX_MODE e) = 2 then s.get (A_ENC_COUNT e) - ei else s.get (A_ENC_COUNT e)) ∧
    Raises s (indexFlagged s e a ei) [(1, islEncoder, if s.nat (A_ENC_IDX_MODE e) = 2 then 0x1B else 0x1A)] := by
  have hne : ∀ d : Fin 2, A_ENC_STATUS d ≠ A_ENC_IDX_FLAGS d ∧ A_ENC_COUNT d ≠ A_ENC_IDX_FLAGS d ∧ A_ENC_COUNT d ≠ A_ENC_STATUS d ∧
    A_ENC_IDX_FLAGS d ≠ A_ENC_STATUS d ∧ Part.obj (A_ENC_IDX_FLAGS d) ∉ countParts d := by decide
  obtain ⟨hstatus, hcount, hcount', hflags, hmoved⟩ := hne e
  unfold indexFlagged
  extract_lets v
  have hchanges : Only (· ∈ countParts e) s v := .ite (fun _ => Only.refl.moveCount (fun _ hp => hp)) (fun _ => .refl)
  refine ⟨?_, ?_, ?_, ?_⟩
  · change bitOf (((v.orBits _ (2 ^ 1)).inc _).nat _) 1 = true
    rw [State.inc, State.addCount, State.nat_set, if_neg hstatus, bitOf_orBits]
    exact Bool.or_true _
  · change ((v.orBits _ (2 ^ 1)).inc _).get _ = _
    rw [State.inc, State.addCount, State.get_set_self, State.orBits, State.get_set_ne _ _ hflags, counted32]
    rw [show v.get (A_ENC_IDX_FLAGS e) = s.get (A_ENC_IDX_FLAGS e) from hchanges (.obj _) hmoved]
  · change ((v.orBits _ (2 ^ 1)).inc _).get _ = _
    rw [State.inc, State.addCount, State.get_set_ne _ _ hcount, State.orBits, State.get_set_ne _ _ hcount']
    simp only [v]
    split
    · exact moveCount_count ..
    · rfl
  · exact (raises_nil (u := (v.orBits _ (2 ^ 1)).inc _) (hchanges .raised (by simp [countParts]))).trans (raises_journal ..)

theorem indexFlagged_changes (s : State) (e : Fin 2) (a : Option (Fin 4)) (ei : Int) :
    Only (· ∈ [.obj (A_ENC_IDX_FLAGS e)] ++ encoderParts e) s (indexFlagged s e a ei) := by
  obtain ⟨-, hraised, hstatus, -⟩ := encoder_mem_encoderParts e
  have hsub : ∀ p ∈ encoderParts e, p ∈ [.obj (A_ENC_IDX_FLAGS e)] ++ encoderParts e := fun _ => List.mem_append_right _
  unfold indexFlagged
  extract_lets v
  have hmoved : Only (· ∈ [.obj (A_ENC_IDX_FLAGS e)] ++ encoderParts e) s v :=
    .ite (fun _ => Only.refl.moveCount (fun p hp => hsub p (countParts_subset_encoderParts e p hp))) (fun _ => .refl)
  exact State.jMotion_only ((hmoved.orBits (hsub _ hstatus)).inc (List.mem_append_left _ List.mem_cons_self)) (hsub _ hraised)

/-- What follows a later index whose error is ei, by the tolerance, the gross limit and the mode. -/
def IndexJudged (s : State) (e : Fin 2) (ei : Int) (u : State) : Prop :=
  if s.nat (A_ENC_IDX_MODE e) = 0 ∨ (ei.natAbs : Int) ≤ s.get (A_ENC_IDX_TOL e) then
    u.get (A_ENC_STATUS e) = s.get (A_ENC_STATUS e) ∧ u.get (A_ENC_COUNT e) = s.get (A_ENC_COUNT e)
  else if s.get (A_ENC_IDX_GROSS e) < ei.natAbs then
    bitOf (u.nat (A_ENC_STATUS e)) 4 = true ∧ u.get (A_ENC_COUNT e) = s.get (A_ENC_COUNT e)
  else bitOf (u.nat (A_ENC_STATUS e)) 1 = true ∧ u.get (A_ENC_IDX_FLAGS e) = counted32 (s.get (A_ENC_IDX_FLAGS e)) 1 ∧
    u.get (A_ENC_COUNT e) = (if s.nat (A_ENC_IDX_MODE e) = 2 then s.get (A_ENC_COUNT e) - ei else s.get (A_ENC_COUNT e)) ∧
    Raises s u [(1, islEncoder, if s.nat (A_ENC_IDX_MODE e) = 2 then 0x1B else 0x1A)]

/-- Parts that a later index of encoder e may touch. -/
def laterIndexParts (e : Fin 2) : List Part :=
  [.obj (A_ENC_IDX_ERR e), .obj (A_ENC_IDX_FLAGS e)] ++ encoderParts e ++ allAxes.map (fun (c : Fin 4) => .obj (A_REF_STATE c))

/-- A later index is judged by its error, and restores a failed run. -/
structure LaterIndex (s : State) (e : Fin 2) (u : State) : Prop where
  changes : Only (· ∈ laterIndexParts e) s u
  error : u.get (A_ENC_IDX_ERR e) = countError s e
  judged : IndexJudged s e (countError s e) u
  restores : ∀ c, servedBy s e = some c → s.nat (A_REF_STATE c) = 3 → u.get (A_REF_STATE c) = 2

theorem erredParts_subset : ∀ e : Fin 2, ∀ p ∈ erredParts e, p ∈ laterIndexParts e := by decide +kernel

theorem encoderParts_subset_laterIndexParts (e : Fin 2) : ∀ p ∈ encoderParts e, p ∈ laterIndexParts e := fun _ hp =>
  List.mem_append_left _ (List.mem_append_right _ hp)

/-- What the judgement of the error leaves of what the index has found. -/
theorem laterIndex_of_rest (s : State) (hrest : Only (· ∈ [.obj (A_ENC_IDX_FLAGS e)] ++ encoderParts e) (indexErred s e) u)
    (hjudged : IndexJudged s e (countError s e) u) : LaterIndex s e u := by
  have hout : ∀ (d : Fin 2) (c : Fin 4), ∀ k ∈ [A_ENC_IDX_ERR d, A_REF_STATE c], Part.obj k ∉ [.obj (A_ENC_IDX_FLAGS d)] ++ encoderParts d := by
    decide +kernel
  refine ⟨?_, (hrest (.obj _) (hout e 0 _ (by simp))).trans (indexErred_error s e), hjudged, fun c haxis hfailed => ?_⟩
  · refine ((indexErred_changes s e).mono (erredParts_subset e)).trans (hrest.mono (fun p hp => ?_))
    exact List.mem_append_left _ (List.mem_cons_of_mem _ hp)
  · exact (hrest (.obj _) (hout e c _ (by simp))).trans (indexErred_restores s haxis hfailed)

theorem laterIndex_indexPulse (h : referenced s e = true) : LaterIndex s e (s.indexPulse e) := by
  have hmode : (indexErred s e).nat (A_ENC_IDX_MODE e) = s.nat (A_ENC_IDX_MODE e) := indexErred_nat s (by simp [indexKeys])
  have htol : (indexErred s e).get (A_ENC_IDX_TOL e) = s.get (A_ENC_IDX_TOL e) := indexErred_get s (by simp [indexKeys])
  have hgross : (indexErred s e).get (A_ENC_IDX_GROSS e) = s.get (A_ENC_IDX_GROSS e) := indexErred_get s (by simp [indexKeys])
  have hcount : (indexErred s e).get (A_ENC_COUNT e) = s.get (A_ENC_COUNT e) := indexErred_get s (by simp [indexKeys])
  have hstatus : (indexErred s e).get (A_ENC_STATUS e) = s.get (A_ENC_STATUS e) := indexErred_get s (by simp [indexKeys])
  have hflags : (indexErred s e).get (A_ENC_IDX_FLAGS e) = s.get (A_ENC_IDX_FLAGS e) := indexErred_get s (by simp [indexKeys])
  have hraised : Raises s (indexErred s e) [] := raises_nil (indexErred_changes s e .raised (by simp [erredParts]))
  rw [indexPulse_later h, judgedError_eq, hmode, htol, hgross]
  split
  · next hwithin => exact laterIndex_of_rest s .refl (by rw [IndexJudged, if_pos hwithin]; exact ⟨hstatus, hcount⟩)
  · next hbeyond =>
    split
    · next hfar =>
      have hfault := encoderFault_changes (indexErred s e) e
      have hout : ∀ d : Fin 2, Part.obj (A_ENC_COUNT d) ∉ strikeParts d := by decide
      refine laterIndex_of_rest s (hfault.mono (fun p hp => List.mem_cons_of_mem _ (strikeParts_subset_encoderParts e p hp))) ?_
      rw [IndexJudged, if_neg hbeyond, if_pos hfar]
      exact ⟨(encoderFault_status ..).trans (Bool.or_true _), (hfault (.obj _) (hout e)).trans hcount⟩
    · next hnear =>
      obtain ⟨hbit, hcounted, hcorrected, hraises⟩ := indexFlagged_flags (indexErred s e) e (servedBy s e) (countError s e)
      rw [hmode] at hcorrected hraises
      rw [hcount] at hcorrected
      rw [hflags] at hcounted
      refine laterIndex_of_rest s (indexFlagged_changes _ e _ _) ?_
      rw [IndexJudged, if_neg hbeyond, if_neg hnear]
      exact ⟨hbit, hcounted, hcorrected, hraised.trans hraises⟩

/-- A later index is judged by its error (R222), whatever the end of the command does. -/
theorem indexPulse_judges (s : State) (t : Nat) {e : Fin 2} {who : BitVec 3} (hwho : who.getLsbD 0 = true) (h : referenced s e = true) :
    Yields (.indexPulse t ⟨e, who⟩) s (fun u =>
      u.get (A_ENC_IDX_ERR e) = countError s e ∧ IndexJudged s e (countError s e) u ∧
      (∀ c, servedBy s e = some c → s.nat (A_REF_STATE c) = 3 → u.get (A_REF_STATE c) = 2) ∧ Frame (· ∈ laterIndexParts e) s u) := by
  have hfollows := follows_encoderTakes oneChannel_chanIndex hwho e (·.indexPulse e) (s.at_ t)
  obtain ⟨hchanges, herror, hjudged, hrestores⟩ := laterIndex_indexPulse (s := s.at_ t) h
  refine ⟨_, exec_indexPulse_eq .., ?_⟩
  generalize (encoderTakes e who _ _ (s.at_ t)).settle = u at hfollows ⊢
  refine ⟨(hfollows.get (indexKeys_shown e _ (by simp))).trans herror, ?_, fun c haxis hfailed => ?_,
    hfollows.frame (t := t) hchanges (encoderParts_subset_laterIndexParts e)⟩
  · rw [IndexJudged, Raises, hfollows.get (indexKeys_shown e _ (by simp)), hfollows.get (indexKeys_shown e _ (by simp)),
      hfollows.get (indexKeys_shown e _ (by simp)), hfollows.nat (indexKeys_shown e _ (by simp)), hfollows.raised]
    exact hjudged
  · exact (hfollows.get (refState_shown c)).trans (hrestores c haxis hfailed)

/-! ### The clear of the status (R224) -/

/-- The cause that a fault of an encoder is of the level of axis a is gone. -/
def encoderLeft (a : Fin 4) (s : State) : State := if (s.ax a).level &&& lvEncoder ≠ 0 then s.leaveLevel a lvEncoder else s

/-- The status is cleared but for the reference, and no axis is struck. -/
def statusCleared (s : State) (e : Fin 2) : State := (s.clearBits (A_ENC_STATUS e) 0x1E).modEnc e (fun c => { c with struck := [] })

/-- The axes that a fault of encoder e alone has struck. -/
def struckAlone (s : State) (e : Fin 2) : List (Fin 4) := (s.enc e).struck.filter (fun a => a ∉ (s.enc (1 - e)).struck)

theorem clearEncoder_eq (s : State) (e : Fin 2) : s.clearEncoder e = (statusCleared s e).each (struckAlone s e) encoderLeft := rfl

theorem leaveLevel_level (s : State) (a : Fin 4) (bit : Nat) :
    ((s.leaveLevel a bit).ax a).level = (s.ax a).level - ((s.ax a).level &&& bit) := by
  unfold State.leaveLevel
  extract_lets v
  split <;> simp [v]

theorem encoderLeft_changes (s : State) (a : Fin 4) : Only (· ∈ [.ax a, .obj (A_FAULT_STATE a)]) s (encoderLeft a s) :=
  .ite (fun _ => State.leaveLevel_only .refl (by simp) (by simp)) (fun _ => .refl)

theorem encoderLeft_level (s : State) (a : Fin 4) : ((encoderLeft a s).ax a).level &&& lvEncoder = 0 := by
  unfold encoderLeft
  split
  · rw [leaveLevel_level]
    refine (and_two_pow_eq_zero_iff (i := 3)).mpr ?_
    rw [testBit_sub_and, lvEncoder, Nat.testBit_eq_decide_div_mod_eq (x := 8)]
    exact Bool.and_false _
  · next h => exact not_not.mp h

/-- A level that holds no fault of an encoder stays so. -/
theorem encoderLeft_keeps {c : Fin 4} (a : Fin 4) (h : (s.ax c).level &&& lvEncoder = 0) : ((encoderLeft a s).ax c).level &&& lvEncoder = 0 := by
  by_cases hc : c = a
  · exact hc ▸ encoderLeft_level s a
  · rw [show (encoderLeft a s).ax c = s.ax c from encoderLeft_changes s a (.ax c) (by simp [hc])]
    exact h

theorem each_encoderLeft_level {l : List (Fin 4)} {c : Fin 4} (hc : c ∈ l) (s : State) :
    ((s.each l encoderLeft).ax c).level &&& lvEncoder = 0 := by
  induction l generalizing s with
  | nil => cases hc
  | cons a r ih =>
    change (((encoderLeft a s).each r encoderLeft).ax c).level &&& lvEncoder = 0
    rcases List.mem_cons.mp hc with rfl | hc
    · exact State.each_keeps (fun v => (v.ax c).level &&& lvEncoder = 0) r _ _ (fun b _ hv => encoderLeft_keeps b hv)
        (encoderLeft_level s c)
    · exact ih hc _

theorem each_encoderLeft_ax {l : List (Fin 4)} {c : Fin 4} (hc : c ∉ l) (s : State) : (s.each l encoderLeft).ax c = s.ax c :=
  (Only.refl (P := (· ≠ .ax c))).each_mem (fun a v ha hv => hv.trans ((encoderLeft_changes v a).mono (fun p hp => by
    have hne : a ≠ c := fun h => hc (h ▸ ha)
    simp only [List.mem_cons, List.not_mem_nil, or_false] at hp
    rcases hp with rfl | rfl <;> simp [hne]))) (.ax c) (by simp)

theorem clearEncoder_status (s : State) (e : Fin 2) : (s.clearEncoder e).nat (A_ENC_STATUS e) =
    s.nat (A_ENC_STATUS e) - (s.nat (A_ENC_STATUS e) &&& 0x1E) := by
  have hne : ∀ (d : Fin 2) (a : Fin 4), Part.obj (A_ENC_STATUS d) ∉ [Part.ax a, .obj (A_FAULT_STATE a)] := by decide
  rw [clearEncoder_eq]
  refine (congrArg Int.toNat (State.each_same (·.get (A_ENC_STATUS e)) _ _ (statusCleared s e)
    (fun a v => encoderLeft_changes v a (.obj _) (hne e a)))).trans ?_
  change ((s.clearBits (A_ENC_STATUS e) 0x1E).get (A_ENC_STATUS e)).toNat = _
  rw [State.clearBits, State.get_set_self, Int.toNat_natCast]

theorem mem_struckAlone {c : Fin 4} : c ∈ struckAlone s e ↔ c ∈ (s.enc e).struck ∧ c ∉ (s.enc (1 - e)).struck := by
  simp [struckAlone]

/-- Parts that the clear of the status of encoder e may touch. -/
def clearParts (e : Fin 2) : List Part :=
  [.obj (A_ENC_STATUS e), .enc e] ++ allAxes.flatMap (fun (c : Fin 4) => [.ax c, .obj (A_FAULT_STATE c)])

theorem axis_mem_clearParts : ∀ (e : Fin 2) (c : Fin 4), Part.ax c ∈ clearParts e ∧ .obj (A_FAULT_STATE c) ∈ clearParts e := by decide

theorem clearEncoder_changes (s : State) (e : Fin 2) : Only (· ∈ clearParts e) s (s.clearEncoder e) :=
  State.clearEncoder_only .refl (by simp [clearParts]) (by simp [clearParts]) (fun c => (axis_mem_clearParts e c).1)
    (fun c => (axis_mem_clearParts e c).2)

/-- The objects of an encoder are device objects (R224). -/
theorem effect_encoder (s : State) (b : By) (st dm m : Nat) (bs : Bytes) (v : Int) (e : Fin 2) (hm : m < 4096) :
    s.effect b st dm (0x580000 + 0x1000 * e.val + m) bs v = s.effDevice b.sid (0x580000 + 0x1000 * e.val + m) bs v := by
  unfold State.effect
  have he := e.isLt
  have hindex : (0x580000 + 0x1000 * e.val + m) / 65536 = 0x58 := by omega
  have hax : axAt (0x580000 + 0x1000 * e.val + m) = none := by
    unfold axAt
    simp only [hindex]
    rw [dif_neg (by decide)]
  have hslot : slotAt (0x580000 + 0x1000 * e.val + m) = none := by
    unfold slotAt
    exact dif_neg (by omega)
  simp only [hindex, hax, hslot]
  rw [if_neg (by decide), if_neg (by decide), if_neg (by omega), if_neg (by decide), if_neg (by omega), if_neg (by omega), if_neg (by decide),
    if_neg (by decide), if_neg (by decide)]

/-- A_ENC_STATUS_CLR written 1 clears the status. -/
theorem effect_statusClear (s : State) (b : By) (st dm : Nat) (bs : Bytes) (e : Fin 2) :
    s.effect b st dm (A_ENC_STATUS_CLR e) bs 1 = s.clearEncoder e := by
  have hkeys : ∀ d : Fin 2, A_ENC_STATUS_CLR d ∉ [S_LOADALL, S_DEV_CLEAR, K_ROTATE_NOW, TB_SET, JL_SEL] ∧
      encAt (A_ENC_STATUS_CLR d) = some d ∧ A_ENC_STATUS_CLR d % 4096 = 0x12 := by decide
  obtain ⟨hother, henc, hsub⟩ := hkeys e
  simp only [List.mem_cons, List.not_mem_nil, or_false, not_or] at hother
  obtain ⟨h1, h2, h3, h4, h5⟩ := hother
  have hkey : A_ENC_STATUS_CLR e = 0x580000 + 0x1000 * e.val + 0x12 := by simp only [A_ENC_STATUS_CLR]; omega
  rw [hkey, effect_encoder s b st dm 0x12 bs 1 e (by decide), ← hkey, State.effDevice, if_neg h1, if_neg h2, if_neg h3, if_neg h4, if_neg h5,
    henc]
  exact (if_pos hsub).trans (if_pos rfl)

/-- A clear that every check lets pass has its effect, and is answered. -/
theorem exec_encoderStatusClear_of_allowed {t : Nat} {b : By} (h : allowed (s.at_ t) b (A_ENC_STATUS_CLR e) 1 = true) :
    exec (.encoderStatusClear t b e) s =
      .next (((judged (s.at_ t) b (A_ENC_STATUS_CLR e)).clearEncoder e).emit (.result 0 [])).settle := by
  have hkeys : ∀ d : Fin 2, poleKey (A_ENC_STATUS_CLR d) = false ∧ plainKey (A_ENC_STATUS_CLR d) 1 = true ∧
      keySlotAt (A_ENC_STATUS_CLR d) = none := by decide +kernel
  obtain ⟨hpole, hplain, hslot⟩ := hkeys e
  rw [exec_encoderStatusClear, execEncoderStatusClear, writeCmd_plain hpole hplain (by decide) (by decide) h, effect_statusClear,
    afterKey_none hslot, done]

/-- The clear takes the faults off the status and off the levels that they alone have entered. -/
theorem encoderStatusClear_clears (s : State) (t : Nat) (b : By) (e : Fin 2) :
    Writes (.encoderStatusClear t b e) s (s.at_ t) b (A_ENC_STATUS_CLR e) 1 (fun g u =>
      (∀ i : Fin 5, 1 ≤ i.val → bitOf (u.nat (A_ENC_STATUS e)) i.val = false) ∧ referenced u e = referenced g e ∧
      (∀ c, c ∈ (g.enc e).struck → c ∉ (g.enc (1 - e)).struck → (u.ax c).level &&& lvEncoder = 0) ∧
      (∀ c, c ∉ (g.enc e).struck ∨ c ∈ (g.enc (1 - e)).struck → u.ax c = g.ax c) ∧ Frame (· ∈ clearParts e) g u) := by
  intro hallowed
  generalize hg : judged (s.at_ t) b (A_ENC_STATUS_CLR e) = g
  have hmask : ∀ i : Fin 5, Nat.testBit 0x1E i.val = decide (1 ≤ i.val) := by decide
  have hstatus : ((g.clearEncoder e).emit (.result 0 [])).settle.nat (A_ENC_STATUS e) =
      g.nat (A_ENC_STATUS e) - (g.nat (A_ENC_STATUS e) &&& 0x1E) := by
    rw [State.settle_nat _ (indexKeys_shown e _ (by simp))]
    exact clearEncoder_status g e
  have hbit : ∀ i : Fin 5, bitOf (((g.clearEncoder e).emit (.result 0 [])).settle.nat (A_ENC_STATUS e)) i.val =
      (bitOf (g.nat (A_ENC_STATUS e)) i.val && !decide (1 ≤ i.val)) := fun i => by
    rw [hstatus, bitOf_eq_testBit, testBit_sub_and, hmask, bitOf_eq_testBit]
  refine ⟨_, hg ▸ exec_encoderStatusClear_of_allowed hallowed, ?_, fun i hi => ?_, ?_, fun c hin hout => ?_, fun c hkept => ?_, ?_⟩
  · rw [State.settle_outs]
    exact List.mem_append_right _ List.mem_cons_self
  · rw [hbit, decide_eq_true hi]
    exact Bool.and_false _
  · exact (hbit 0).trans (Bool.and_true _)
  · rw [answered_ax, clearEncoder_eq]
    exact each_encoderLeft_level (mem_struckAlone.mpr ⟨hin, hout⟩) _
  · rw [answered_ax, clearEncoder_eq]
    exact each_encoderLeft_ax (fun hmem => hkept.elim (· (mem_struckAlone.mp hmem).1) (mem_struckAlone.mp hmem).2) _
  · have hcleared : Only (fun p => p ∈ clearParts e ∨ p ∈ Safety.ends) g (g.clearEncoder e) := (clearEncoder_changes g e).mono (fun _ => .inl)
    exact (hcleared.emit (.inr (by simp [Safety.ends]))).ends

/-- Settles O24: an encoder takes a change, an index pulse and the clear of its status as stated, and hands what the filters of the
safety channels have accepted on to their decoders. -/
theorem encoderCommands : Obligations.EncoderCommands := by
  refine ⟨fun s t e who a b hwho hone => ?_, fun s t e who a b c => ?_, fun s t e who a b hwho ha hb => ?_, fun s t e who hwho hnew => ?_,
    fun s t e who c => ?_, fun s t e who hwho href => ?_, encoderStatusClear_clears⟩
  · obtain ⟨u, hexec, hcount, hlevels, hpos, hframe⟩ := encoderChange_counts s t hwho hone
    exact ⟨u, hexec, hcount, congrArg Prod.fst hlevels, congrArg Prod.snd hlevels, hpos, hframe⟩
  · obtain ⟨u, hexec, hdecodes, hkept, hframe⟩ := encoderChange_decodes s t e who a b c
    refine ⟨u, hexec, fun he hc => ?_, hkept, hframe⟩
    obtain ⟨⟨ha, hb⟩, hcounts, hillegal⟩ := hdecodes he hc
    exact ⟨ha, hb, hcounts, hillegal⟩
  · obtain ⟨u, hexec, hcount, hcounted, hflagged, hlevels, hstruck, hframe⟩ := encoderChange_illegal s t hwho ha hb
    exact ⟨u, hexec, hcount, hcounted, hflagged, congrArg Prod.fst hlevels, congrArg Prod.snd hlevels, hstruck, hframe⟩
  · obtain ⟨u, hexec, ⟨hreference, hreferenced, hcount, hruns, hshows⟩, hframe⟩ := indexPulse_references s t hwho hnew
    exact ⟨u, hexec, hreference, hreferenced, hcount, fun c haxis => ⟨hruns c haxis, hshows c haxis⟩, hframe⟩
  · obtain ⟨u, hexec, hindexes, hkept, hframe⟩ := indexPulse_indexes s t e who c
    refine ⟨u, hexec, fun he hc => ?_, hkept, hframe⟩
    obtain ⟨⟨hsince, hcount⟩, hfirst, hlater⟩ := hindexes he hc
    exact ⟨hsince, hcount, hfirst, hlater⟩
  · exact indexPulse_judges s t hwho href

end Sys2Proof.Safety

/-! SUPPORT. A_HOME_SET and the reference run: the write that moves the position, the start of a run, its time limit and its end
(R79, R220, R225). -/

namespace Sys2Proof.Safety
open Sys2Proof.Machine Sys2Proof.Machine.Obj

variable {P : Part → Prop} {s u : State} {a : Fin 4}

/-! ### A_HOME_SET (R220) -/

/-- How far A_HOME_SET moves the position. -/
def homeShift (s : State) (a : Fin 4) (p : Int) : Int := p - s.get (A_POS_ACT a)

/-- The offset and the references are moved by d. -/
def shifted (s : State) (a : Fin 4) (d : Int) : State :=
  s.modAx a (fun c => { c with poff := c.poff + d, posRef := c.posRef + d, gear := { c.gear with p0 := c.gear.p0 + d } })

theorem setHome_eq (s : State) (a : Fin 4) (p : Int) : s.setHome a p =
    ((shifted s a (homeShift s a p)).posUpdate a).set (A_POS_REF a)
      (satI 64 ((shifted s a (homeShift s a p)).get (A_POS_REF a) + homeShift s a p)) := rfl

/-- The position is read from no part of the axis but its count. -/
theorem posOf_modAx {f : Axis → Axis} (h : (f (s.ax a)).icount = (s.ax a).icount) (off : Int) : posOf (s.modAx a f) a off = posOf s a off := by
  have hmode : sensorless (s.modAx a f) a = sensorless s a := rfl
  have henc : encoderOf (s.modAx a f) a = encoderOf s a := rfl
  unfold posOf
  rw [hmode, henc, State.ax_modAx_self, h, State.modAx_get, State.modAx_get]
  rfl

theorem setHome_moves (s : State) (a : Fin 4) (p : Int) :
    (s.setHome a p).get (A_POS_ACT a) = posOf s a ((s.ax a).poff + homeShift s a p) ∧
    (s.setHome a p).get (A_POS_REF a) = satI 64 (s.get (A_POS_REF a) + homeShift s a p) ∧
    ((s.setHome a p).ax a).posRef = (s.ax a).posRef + (homeShift s a p : Rat) := by
  have hne : ∀ c : Fin 4, A_POS_ACT c ≠ A_POS_REF c := by decide
  rw [setHome_eq]
  refine ⟨?_, ?_, ?_⟩
  · rw [State.get_set_ne _ _ (hne a), State.posUpdate, State.get_set_self, shifted, posOf_modAx rfl, State.ax_modAx_self]
  · rw [State.get_set_self, shifted, State.modAx_get]
  · rw [set_ax, State.posUpdate, set_ax, shifted, State.ax_modAx_self]

/-- A write that every check lets pass moves the axis, and is answered. -/
theorem exec_homeSet_of_allowed {t : Nat} {b : By} {v : BitVec 64} (h : allowed (s.at_ t) b (A_HOME_SET a) v.toNat = true) :
    exec (.homeSet t b a v) s = .next (((judged (s.at_ t) b (A_HOME_SET a)).setHome a v.toInt).emit (.result 0 [])).settle := by
  have hkeys : ∀ c : Fin 4, poleKey (A_HOME_SET c) = false ∧ signedKey (A_HOME_SET c) 64 = true ∧ keySlotAt (A_HOME_SET c) = none := by
    decide +kernel
  obtain ⟨hpole, hsigned, hslot⟩ := hkeys a
  have heffect : ∀ (g : State) (st dm : Nat) (bs : Bytes) (w : Int), g.effect b st dm (A_HOME_SET a) bs w = g.setHome a w :=
    fun g st dm bs w => by
      have hkey : A_HOME_SET a = 0x500000 + 0x10000 * a.val + 0x3013 := by simp only [A_HOME_SET]; omega
      rw [hkey, effect_axis g b st dm 0x3013 bs w a (by decide)]
      rfl
  rw [exec_homeSet, execHomeSet, writeCmd_signed hpole hsigned h, heffect, afterKey_none hslot, done]

/-- A_HOME_SET moves the actual position to its value, and the reference by as much. -/
theorem homeSet_moves (s : State) (t : Nat) (b : By) (a : Fin 4) (v : BitVec 64) :
    Writes (.homeSet t b a v) s (s.at_ t) b (A_HOME_SET a) v.toNat (fun g u =>
      u.get (A_POS_ACT a) = posOf g a ((g.ax a).poff + homeShift g a v.toInt) ∧
      u.get (A_POS_REF a) = satI 64 (g.get (A_POS_REF a) + homeShift g a v.toInt) ∧
      (u.ax a).posRef = (g.ax a).posRef + (homeShift g a v.toInt : Rat) ∧
      Frame (· ∈ [.ax a, .obj (A_POS_ACT a), .obj (A_POS_REF a)]) g u) := by
  intro hallowed
  generalize hg : judged (s.at_ t) b (A_HOME_SET a) = g
  have hshown : ∀ c : Fin 4, shownKey (A_POS_ACT c) = false ∧ shownKey (A_POS_REF c) = false := by decide
  obtain ⟨hact, href, haxis⟩ := setHome_moves g a v.toInt
  refine ⟨_, hg ▸ exec_homeSet_of_allowed hallowed, ?_, ?_, ?_, ?_, ?_⟩
  · rw [State.settle_outs]
    exact List.mem_append_right _ List.mem_cons_self
  · rw [State.settle_get _ (hshown a).1, State.emit_get]
    exact hact
  · rw [State.settle_get _ (hshown a).2, State.emit_get]
    exact href
  · rw [answered_ax]
    exact haxis
  · have hmoved : Only (fun p => p ∈ [Part.ax a, .obj (A_POS_ACT a), .obj (A_POS_REF a)] ∨ p ∈ Safety.ends) g (g.setHome a v.toInt) :=
      State.setHome_only .refl (.inl (by simp)) (.inl (by simp)) (.inl (by simp))
    exact (hmoved.emit (.inr (by simp [Safety.ends]))).ends

/-! ### A phase of the run other than its blend (R79, R225) -/

theorem axis_mem_refParts (a : Fin 4) : Part.ax a ∈ refParts a := by simp [refParts]

theorem state_mem_refParts (a : Fin 4) : Part.obj (A_REF_STATE a) ∈ refParts a := by simp [refParts]

/-- What a phase writes beside A_REF_STATE. -/
def phaseParts (a : Fin 4) : List Part := .ax a :: allSecs.flatMap driveParts

theorem phaseParts_subset_refParts (a : Fin 4) : ∀ p ∈ phaseParts a, p ∈ refParts a := fun p hp => by
  rcases List.mem_cons.mp hp with rfl | hp
  · exact axis_mem_refParts a
  · exact List.mem_append_right _ hp

/-- Only the blend reaches the slots of an axis. -/
theorem refPhaseAt_changes {p : Nat} (hp : p ≠ 4) (s : State) (a : Fin 4) (t0 : Nat) : Only (· ∈ phaseParts a) s (s.refPhaseAt a p t0) := by
  unfold State.refPhaseAt
  extract_lets th f from1 target s1 s2
  have hphase : Only (· ∈ phaseParts a) s s1 := Only.refl.modAx List.mem_cons_self
  have hsame : s2 = s1 := if_neg (fun h => hp h.1)
  rw [hsame]
  exact hphase.each (fun x _ hv => hv.drive (fun q hq => List.mem_cons_of_mem _ (List.mem_flatMap.mpr ⟨x, List.mem_finRange x, hq⟩)))

theorem decideRef_changes {p : Nat} (hp : p ≠ 4) (s : State) (a : Fin 4) : Only (· ∈ phaseParts a) s (s.decideRef a p) :=
  .ite (fun _ => refPhaseAt_changes hp s a s.now) (fun _ => Only.refl.modAx List.mem_cons_self)

/-! ### The start of the run (R225) -/

/-- The axis is on its run, before its first phase is decided. -/
def onRun (s : State) (a : Fin 4) : State := s.set (A_REF_STATE a) 1

theorem refRun_changes (s : State) (a : Fin 4) : Only (· ∈ refParts a) s (s.refRun a) := by
  have hset : ∀ v, Only (· ∈ refParts a) s (s.set (A_REF_STATE a) v) := fun v => Only.refl.set (state_mem_refParts a)
  unfold State.refRun
  split
  · exact .ite (fun _ => .refl) (fun _ => .ite (fun _ => .ite (fun _ => hset 2) (fun _ => .refl))
      (fun _ => (hset 1).trans ((decideRef_changes (by decide) _ a).mono (phaseParts_subset_refParts a))))
  · exact .refl

theorem refRun_of_unreferenced {e : Fin 2} (henc : encoderOf s a = some e) (hmode : sensorless s a = false) (hhost : isHost s a = true)
    (href : referenced s e = false) (hnew : s.nat (A_REF_STATE a) ≠ 1) : s.refRun a = (onRun s a).decideRef a 1 := by
  unfold State.refRun
  rw [henc]
  dsimp only
  rw [if_neg (by simp [hmode, hhost, hnew]), if_neg (by simp [href])]
  rfl

theorem refState_not_mem : ∀ a : Fin 4, Part.obj (A_REF_STATE a) ∉ phaseParts a ∧ Part.obj (A_REF_STATE a) ∉ cascadeParts a := by
  decide +kernel

theorem onCascade_onRun (s : State) (a : Fin 4) : onCascade (onRun s a) a = onCascade s a :=
  (onCascade_of_only (Only.refl.set (refState_not_mem a).2)).1

/-- The run begins with Align, at once or at the start of the second cycle after. -/
theorem onRun_begins (s : State) (a : Fin 4) :
    ((onRun s a).decideRef a 1).get (A_REF_STATE a) = 1 ∧
    if onCascade s a then (((onRun s a).decideRef a 1).ax a).start.refDue = some (1, 2)
    else (((onRun s a).decideRef a 1).ax a).start.refPhase = 1 := by
  constructor
  · exact (decideRef_changes (by decide) (onRun s a) a (.obj _) (refState_not_mem a).1).trans (State.get_set_self ..)
  · have hdecides := decideRef_decides (onRun s a) a 1
    rwa [onCascade_onRun] at hdecides

theorem exec_referenceRun_of_allowed {t : Nat} {b : By} (h : allowed (s.at_ t) b (A_REF_RUN a) 1 = true) :
    exec (.referenceRun t b a) s = .next (((judged (s.at_ t) b (A_REF_RUN a)).refRun a).emit (.result 0 [])).settle := by
  have hkeys : ∀ c : Fin 4, poleKey (A_REF_RUN c) = false ∧ plainKey (A_REF_RUN c) 1 = true ∧ keySlotAt (A_REF_RUN c) = none := by
    decide +kernel
  obtain ⟨hpole, hplain, hslot⟩ := hkeys a
  have heffect : ∀ (g : State) (st dm : Nat) (bs : Bytes), g.effect b st dm (A_REF_RUN a) bs 1 = g.refRun a :=
    fun g st dm bs => by
      have hkey : A_REF_RUN a = 0x500000 + 0x10000 * a.val + 0x3014 := by simp only [A_REF_RUN]; omega
      rw [hkey, effect_axis g b st dm 0x3014 bs 1 a (by decide)]
      rfl
  rw [exec_referenceRun, execReferenceRun, writeCmd_plain hpole hplain (by decide) (by decide) h, heffect, afterKey_none hslot, done]

/-- A_REF_RUN starts a run where the encoder is not referenced and none is under way. -/
theorem referenceRun_begins (s : State) (t : Nat) (b : By) (a : Fin 4) :
    Writes (.referenceRun t b a) s (s.at_ t) b (A_REF_RUN a) 1 (fun g u =>
      (∀ e, encoderOf g a = some e → sensorless g a = false → isHost g a = true → referenced g e = false →
        g.nat (A_REF_STATE a) ≠ 1 → u.get (A_REF_STATE a) = 1 ∧
          if onCascade g a then (u.ax a).start.refDue = some (1, 2) else (u.ax a).start.refPhase = 1) ∧
      Frame (· ∈ refParts a) g u) := by
  intro hallowed
  generalize hg : judged (s.at_ t) b (A_REF_RUN a) = g
  refine ⟨_, hg ▸ exec_referenceRun_of_allowed hallowed, ?_, fun e henc hmode hhost href hnew => ?_, ?_⟩
  · rw [State.settle_outs]
    exact List.mem_append_right _ List.mem_cons_self
  · rw [State.settle_get _ (refState_shown a), State.emit_get, answered_ax, refRun_of_unreferenced henc hmode hhost href hnew]
    exact onRun_begins g a
  · have hrun : Only (fun p => p ∈ refParts a ∨ p ∈ Safety.ends) g (g.refRun a) := (refRun_changes g a).mono (fun _ => .inl)
    exact (hrun.emit (.inr (by simp [Safety.ends]))).ends

/-! ### The end of the run, decided by its host (R79, R225) -/

/-- The end p is held for the start of the second NazLink cycle. -/
def endHeld (s : State) (a : Fin 4) (p : Nat) : State := s.modAx a (fun c => { c with start := { c.start with refDue := some (p, 2) } })

theorem decideEnd_cases (s : State) (a : Fin 4) (p : Nat) :
    s.decideEnd a p = if onCascade s a then endHeld s a p else s.takeRef a p s.now := by
  unfold State.decideEnd
  cases onCascade s a <;> rfl

/-- On a cascade axis nothing but the decision changes. -/
structure Holds (s : State) (a : Fin 4) (p : Nat) (u : State) : Prop where
  due : (u.ax a).start.refDue = some (p, 2)
  state : u.get (A_REF_STATE a) = s.get (A_REF_STATE a)
  raises : Raises s u []

theorem holds_endHeld (s : State) (a : Fin 4) (p : Nat) : Holds s a p (endHeld s a p) where
  due := by rw [endHeld, State.ax_modAx_self]
  state := rfl
  raises := raises_nil rfl

/-- A run ends in A_REF_STATE st, with one journal entry of the profile. -/
structure Ends (s : State) (a : Fin 4) (st : Int) (detail : Nat) (u : State) : Prop where
  state : u.get (A_REF_STATE a) = st
  phase : (u.ax a).start.refPhase = 0
  raises : Raises s u [(1, islProfile, detail)]

theorem Holds.ofCommand {p t : Nat} (h : Holds (s.at_ t) a p u) : Holds s a p u.settle where
  due := by rw [settle_ax]; exact h.due
  state := (State.settle_get _ (refState_shown a)).trans h.state
  raises := by rw [Raises, State.settle_raised]; exact h.raises

theorem Ends.ofCommand {st : Int} {detail t : Nat} (h : Ends (s.at_ t) a st detail u) : Ends s a st detail u.settle where
  state := (State.settle_get _ (refState_shown a)).trans h.state
  phase := by rw [settle_ax]; exact h.phase
  raises := by rw [Raises, State.settle_raised]; exact h.raises

/-- A_REF_STATE shows how the run has ended, and its drive is off. -/
def runLeft (s : State) (a : Fin 4) (st : Int) (t0 : Nat) : State := (s.set (A_REF_STATE a) st).refPhaseAt a 0 t0

theorem runLeft_changes (s : State) (a : Fin 4) (st : Int) (t0 : Nat) : Only (· ∈ refParts a) s (runLeft s a st t0) :=
  (Only.refl.set (state_mem_refParts a)).trans ((refPhaseAt_changes (by decide) _ a t0).mono (phaseParts_subset_refParts a))

theorem journal_not_mem_refParts : ∀ a : Fin 4, Part.raised ∉ refParts a ∧ .obj (A_POS_ACT a) ∉ refParts a := by decide +kernel

theorem runLeft_leaves (s : State) (a : Fin 4) (st : Int) (t0 : Nat) :
    (runLeft s a st t0).get (A_REF_STATE a) = st ∧ ((runLeft s a st t0).ax a).start.refPhase = 0 ∧
    (runLeft s a st t0).get (A_POS_ACT a) = s.get (A_POS_ACT a) ∧ Raises s (runLeft s a st t0) [] :=
  ⟨(refPhaseAt_changes (by decide) _ a t0 (.obj _) (refState_not_mem a).1).trans (State.get_set_self ..), refPhaseAt_start _ a 0 t0,
    runLeft_changes s a st t0 (.obj _) (journal_not_mem_refParts a).2,
    raises_nil (runLeft_changes s a st t0 .raised (journal_not_mem_refParts a).1)⟩

theorem jMotion_leaves (s : State) (detail : Nat) (src : Nat) (a : Fin 4) :
    (∀ k, (s.jMotion 1 islProfile detail src (some a) none 0).get k = s.get k) ∧
    (∀ c, (s.jMotion 1 islProfile detail src (some a) none 0).ax c = s.ax c) :=
  ⟨fun _ => rfl, fun _ => rfl⟩

theorem raises_jMotion (s : State) (detail src : Nat) (a : Fin 4) :
    Raises s (s.jMotion 1 islProfile detail src (some a) none 0) [(1, islProfile, detail)] := raises_journal ..

/-! ### REFERENCE_RUN_TIMEOUT (R225) -/

theorem refFail_eq (s : State) (a : Fin 4) (t0 : Nat) :
    s.refFail a t0 = (runLeft s a 3 t0).jMotion 1 islProfile 0x22 (0x5030 + 0x100 * a.val) (some a) none 0 := rfl

theorem refFail_ends (s : State) (a : Fin 4) (t0 : Nat) : Ends s a 3 0x22 (s.refFail a t0) := by
  obtain ⟨hstate, hphase, -, hraises⟩ := runLeft_leaves s a 3 t0
  rw [refFail_eq]
  exact ⟨hstate, hphase, hraises.trans (raises_jMotion ..)⟩

theorem decideEnd_fails_changes (s : State) (a : Fin 4) : Only (· ∈ .raised :: refParts a) s (s.decideEnd a 3) := by
  rw [decideEnd_cases]
  refine .ite (fun _ => Only.refl.modAx (List.mem_cons_of_mem _ (axis_mem_refParts a))) (fun _ => ?_)
  rw [State.takeRef, refFail_eq]
  exact State.jMotion_only ((runLeft_changes s a 3 s.now).mono (fun _ => List.mem_cons_of_mem _)) List.mem_cons_self

theorem decideEnd_fails (s : State) (a : Fin 4) :
    if onCascade s a then Holds s a 3 (s.decideEnd a 3) else Ends s a 3 0x22 (s.decideEnd a 3) := by
  rw [decideEnd_cases]
  split
  · exact holds_endHeld s a 3
  · exact refFail_ends s a s.now

theorem exec_referenceRunTimeout_of_elapsed (t : Nat) (hOn : On s islProfile) (hhost : isHost s a = true) (hramp : (s.ax a).start.refPhase = 2)
    (hfree : (s.ax a).start.refDue = none) (hdue : (s.ax a).start.refAt + ms (s.nat (A_HO_TIMEOUT a)) ≤ max s.now t) :
    exec (.referenceRunTimeout t a) s = .next ((s.at_ t).decideEnd a 3).settle := by
  have hcond : isHost (s.at_ t) a = true ∧ ((s.at_ t).ax a).start.refPhase = 2 ∧ ((s.at_ t).ax a).start.refDue.isNone = true ∧
      ((s.at_ t).ax a).start.refAt + ms ((s.at_ t).nat (A_HO_TIMEOUT a)) ≤ (s.at_ t).now :=
    ⟨hhost, hramp, (congrArg Option.isNone hfree).trans rfl, hdue⟩
  rw [exec_referenceRunTimeout, execReferenceRunTimeout, runOn_on (s := s.at_ t) hOn, State.refTimeout, if_pos hcond]

/-- Without an index in time the run fails. -/
theorem referenceRunTimeout_fails (t : Nat) (hOn : On s islProfile) (hhost : isHost s a = true) (hramp : (s.ax a).start.refPhase = 2)
    (hfree : (s.ax a).start.refDue = none) (hdue : (s.ax a).start.refAt + ms (s.nat (A_HO_TIMEOUT a)) ≤ max s.now t) :
    Yields (.referenceRunTimeout t a) s (fun u =>
      (if onCascade s a then Holds s a 3 u else Ends s a 3 0x22 u) ∧ Frame (· ∈ .raised :: refParts a) s u) := by
  refine ⟨_, exec_referenceRunTimeout_of_elapsed t hOn hhost hramp hfree hdue, ?_,
    (Only.begins.trans ((decideEnd_fails_changes (s.at_ t) a).mono (fun _ => .inl))).ends⟩
  have hends := decideEnd_fails (s.at_ t) a
  rw [show onCascade (s.at_ t) a = onCascade s a from rfl] at hends
  by_cases hcascade : onCascade s a = true
  · rw [if_pos hcascade] at hends ⊢
    exact hends.ofCommand
  · rw [if_neg hcascade] at hends ⊢
    exact hends.ofCommand

/-! ### REFERENCE_RUN_COMPLETE (R225, R230) -/

/-- The profile takes the measured position and speed, and is asked for a stop. -/
def measuredTaken (s : State) (a : Fin 4) : State :=
  (s.setProfile a (s.get (A_POS_ACT a)) (feToUnits s a (speedFeedback s a)) 0).modAx a (fun c => { c with refStop := true })

theorem refDone_eq (s : State) (a : Fin 4) (t0 : Nat) : s.refDone a t0 =
    (measuredTaken (runLeft s a 2 t0) a).jMotion 1 islProfile 0x21 (0x5030 + 0x100 * a.val) (some a) none 0 := rfl

theorem rnd_intCast (n : Int) : rnd (n : Rat) = n := if_pos rfl

theorem setProfile_reference (s : State) (a : Fin 4) (n : Int) (v acc : Rat) :
    (s.setProfile a n v acc).get (A_POS_REF a) = satI 64 n := by
  have hne : ∀ c : Fin 4, A_POS_REF c ≠ A_PROF_SPEED c ∧ A_POS_REF c ≠ A_PROF_ACCEL c := by decide
  obtain ⟨hspeed, haccel⟩ := hne a
  rw [State.setProfile, State.get_set_ne _ _ haccel, State.get_set_ne _ _ hspeed, State.get_set_self, rnd_intCast]

theorem setProfile_start (s : State) (a : Fin 4) (p v acc : Rat) : ((s.setProfile a p v acc).ax a).start = (s.ax a).start := by
  unfold State.setProfile
  rw [set_ax, set_ax, set_ax, State.ax_modAx_self]

theorem measuredTaken_changes (s : State) (a : Fin 4) : Only (· ∈ profileParts a) s (measuredTaken s a) :=
  (State.setProfile_only .refl (by simp [profileParts]) (by simp [profileParts]) (by simp [profileParts]) (by simp [profileParts])).modAx
    (by simp [profileParts])

theorem not_mem_profileParts : ∀ a : Fin 4, Part.raised ∉ profileParts a ∧ .obj (A_REF_STATE a) ∉ profileParts a := by decide

theorem measuredTaken_takes (s : State) (a : Fin 4) :
    (measuredTaken s a).get (A_POS_REF a) = satI 64 (s.get (A_POS_ACT a)) ∧ ((measuredTaken s a).ax a).refStop = true ∧
    ((measuredTaken s a).ax a).start = (s.ax a).start := by
  refine ⟨?_, ?_, ?_⟩
  · rw [measuredTaken, State.modAx_get, setProfile_reference]
  · rw [measuredTaken, State.ax_modAx_self]
  · rw [measuredTaken, State.ax_modAx_self]
    exact setProfile_start s a _ _ _

/-- The run is done: it ends in state 2, and the axis is to stop from where it is measured. -/
structure Done (s : State) (a : Fin 4) (u : State) : Prop extends Ends s a 2 0x21 u where
  reference : u.get (A_POS_REF a) = satI 64 (s.get (A_POS_ACT a))
  stops : (u.ax a).refStop = true

theorem Done.ofCommand {t : Nat} (h : Done (s.at_ t) a u) : Done s a u.settle where
  toEnds := h.toEnds.ofCommand
  reference := by
    have hshown : ∀ c : Fin 4, shownKey (A_POS_REF c) = false := by decide
    exact (State.settle_get _ (hshown a)).trans h.reference
  stops := by rw [settle_ax]; exact h.stops

theorem refDone_done (s : State) (a : Fin 4) (t0 : Nat) : Done s a (s.refDone a t0) := by
  obtain ⟨hstate, hphase, hact, hraises⟩ := runLeft_leaves s a 2 t0
  obtain ⟨hreference, hstops, hstart⟩ := measuredTaken_takes (runLeft s a 2 t0) a
  have hkept := measuredTaken_changes (runLeft s a 2 t0) a
  obtain ⟨hjournal, hshows⟩ := not_mem_profileParts a
  obtain ⟨hget, hax⟩ := jMotion_leaves (measuredTaken (runLeft s a 2 t0) a) 0x21 (0x5030 + 0x100 * a.val) a
  rw [refDone_eq]
  refine ⟨⟨(hget _).trans ((hkept (.obj _) hshows).trans hstate), ?_, ?_⟩, (hget _).trans (hreference.trans (congrArg (satI 64) hact)), ?_⟩
  · rw [hax, hstart]
    exact hphase
  · exact (hraises.trans (raises_nil (hkept .raised hjournal))).trans (raises_jMotion ..)
  · rw [hax]
    exact hstops

theorem decideEnd_completes (s : State) (a : Fin 4) : if onCascade s a then Holds s a 0 (s.decideEnd a 0) else Done s a (s.decideEnd a 0) := by
  rw [decideEnd_cases]
  split
  · exact holds_endHeld s a 0
  · exact refDone_done s a s.now

theorem decideEnd_completes_changes (s : State) (a : Fin 4) : Only (· ∈ .raised :: refParts a ++ profileParts a) s (s.decideEnd a 0) := by
  rw [decideEnd_cases]
  refine .ite (fun _ => Only.refl.modAx (by simp [refParts])) (fun _ => ?_)
  have hleft : Only (· ∈ .raised :: refParts a ++ profileParts a) s (runLeft s a 2 s.now) :=
    (runLeft_changes s a 2 s.now).mono (fun _ hp => List.mem_append_left _ (List.mem_cons_of_mem _ hp))
  rw [State.takeRef, refDone_eq]
  exact State.jMotion_only (hleft.trans ((measuredTaken_changes _ a).mono (fun _ => List.mem_append_right _))) (by simp)

theorem exec_referenceRunComplete_of_elapsed (t : Nat) (hOn : On s islProfile) (hhost : isHost s a = true) (hblend : (s.ax a).start.refPhase = 4)
    (hfree : (s.ax a).start.refDue = none) (hdue : (s.ax a).start.at_ + ms (s.nat (A_HO_BLEND a)) ≤ max s.now t) :
    exec (.referenceRunComplete t a) s = .next ((s.at_ t).decideEnd a 0).settle := by
  have hcond : isHost (s.at_ t) a = true ∧ ((s.at_ t).ax a).start.refPhase = 4 ∧ ((s.at_ t).ax a).start.refDue.isNone = true ∧
      ((s.at_ t).ax a).start.at_ + ms ((s.at_ t).nat (A_HO_BLEND a)) ≤ (s.at_ t).now :=
    ⟨hhost, hblend, (congrArg Option.isNone hfree).trans rfl, hdue⟩
  rw [exec_referenceRunComplete, execReferenceRunComplete, runOn_on (s := s.at_ t) hOn, State.refComplete, if_pos hcond]

/-- At the end of its blend the run is complete. -/
theorem referenceRunComplete_completes (t : Nat) (hOn : On s islProfile) (hhost : isHost s a = true) (hblend : (s.ax a).start.refPhase = 4)
    (hfree : (s.ax a).start.refDue = none) (hdue : (s.ax a).start.at_ + ms (s.nat (A_HO_BLEND a)) ≤ max s.now t) :
    Yields (.referenceRunComplete t a) s (fun u =>
      (if onCascade s a then Holds s a 0 u else Done s a u) ∧ Frame (· ∈ .raised :: refParts a ++ profileParts a) s u) := by
  refine ⟨_, exec_referenceRunComplete_of_elapsed t hOn hhost hblend hfree hdue, ?_,
    (Only.begins.trans ((decideEnd_completes_changes (s.at_ t) a).mono (fun _ => .inl))).ends⟩
  have hends := decideEnd_completes (s.at_ t) a
  rw [show onCascade (s.at_ t) a = onCascade s a from rfl] at hends
  by_cases hcascade : onCascade s a = true
  · rw [if_pos hcascade] at hends ⊢
    exact hends.ofCommand
  · rw [if_neg hcascade] at hends ⊢
    exact hends.ofCommand

/-- Settles O25: A_HOME_SET moves position and reference alike; a reference run starts, fails and ends at once on a local axis, and by a
decision for the second NazLink cycle after on a cascade axis. -/
theorem referenceCommands : Obligations.ReferenceCommands := by
  refine ⟨homeSet_moves, referenceRun_begins, fun s t a hOn hhost hramp hfree hdue => ?_, fun s t a hOn hhost hblend hfree hdue => ?_⟩
  · obtain ⟨u, hexec, hends, hframe⟩ := referenceRunTimeout_fails t hOn hhost hramp hfree hdue
    refine ⟨u, hexec, ?_, hframe⟩
    cases hcascade : onCascade s a with
    | true =>
      obtain ⟨hheld, hstate, hraises⟩ : Holds s a 3 u := by simpa [hcascade] using hends
      exact ⟨hheld, hstate, hraises⟩
    | false =>
      obtain ⟨hstate, hphase, hraises⟩ : Ends s a 3 0x22 u := by simpa [hcascade] using hends
      exact ⟨hstate, hphase, hraises⟩
  · obtain ⟨u, hexec, hends, hframe⟩ := referenceRunComplete_completes t hOn hhost hblend hfree hdue
    refine ⟨u, hexec, ?_, hframe⟩
    cases hcascade : onCascade s a with
    | true =>
      obtain ⟨hheld, hstate, hraises⟩ : Holds s a 0 u := by simpa [hcascade] using hends
      exact ⟨hheld, hstate, hraises⟩
    | false =>
      obtain ⟨⟨hstate, hphase, hraises⟩, hreference, hstops⟩ : Done s a u := by simpa [hcascade] using hends
      exact ⟨hstate, hphase, hreference, hstops, hraises⟩

end Sys2Proof.Safety

/-! SUPPORT. The test-signal generators: what a step, an arm, a stop and the end of the duration do to a generator, and what they leave
alone (R239, R241–R244). -/

namespace Sys2Proof.Safety
open Sys2Proof.Machine Sys2Proof.Machine.Obj

variable {P : Part → Prop} {s u : State} {i : Fin 4}

/-! ### Objects of tuning behind an arrival and the end of a command -/

theorem tuning_not_mem_ends {k : Nat} (h : 0x700000 ≤ k) : Part.obj k ∉ ends := obj_not_mem_ends (shownKey_of (.inr (by omega)))

theorem tuning_not_mem_arriveParts {k : Nat} (h : 0x700000 ≤ k) : Part.obj k ∉ arriveParts := by
  intro hmem
  simp only [arriveParts, List.mem_cons, List.mem_flatMap, reduceCtorEq, Part.obj.injEq, List.not_mem_nil, or_false, false_or] at hmem
  obtain ⟨j, -, hj⟩ := hmem
  have := j.isLt
  simp only [K_OVERRUN] at hj
  omega

/-- Nothing but an arrival and the end of a command follows in u from v. -/
abbrev Arrived (v u : State) : Prop := Only (fun p => p ∈ arriveParts ∨ p ∈ ends) v u

theorem Arrived.get {v : State} (h : Arrived v u) {k : Nat} (hk : 0x700000 ≤ k) : u.get k = v.get k :=
  h (.obj k) (not_or_intro (tuning_not_mem_arriveParts hk) (tuning_not_mem_ends hk))

theorem Arrived.gen {v : State} (h : Arrived v u) (i : Fin 4) : u.gen i = v.gen i := h (.gen i) (by simp [arriveParts, ends])

theorem Arrived.raises {v : State} (h : Arrived v u) {l : List (Nat × Nat × Nat)} (hl : Raises s v l) : Raises s u l := by
  have hsame : u.raised = v.raised := h .raised (by simp [arriveParts, ends])
  rwa [Raises, hsame]

/-- The frame of a command that begins, changes the parts P, and ends in arrivals. -/
theorem Arrived.frame {v : State} (h : Arrived v u) {t : Nat} {l : List Part} (hv : Only (· ∈ l) (s.at_ t) v) :
    Frame (· ∈ l ++ arriveParts) s u :=
  (Only.begins.trans (hv.mono (fun _ hp => .inl (List.mem_append_left _ hp)))).trans
    (h.mono (fun _ hp => hp.imp (List.mem_append_right _) id))

/-! ### The value of a step (R241, R242) -/

/-- The objects that say which waveform generator i gives. -/
def waveKeys (i : Fin 4) : List Nat := [G_TYPE i, G_AMPL i, G_PRBS_LEN i, G_F0 i, G_F1 i, G_DURATION i]

/-- The value is a function of the waveform's objects, the register, and the time since the sweep began. -/
theorem genValue_congr {v w : State} (hkeys : ∀ k ∈ waveKeys i, w.get k = v.get k) (htb : w.tb = v.tb)
    (hreg : (w.gen i).reg = (v.gen i).reg) (hsweep : (w.gen i).sweep.getD v.tb = (v.gen i).sweep.getD v.tb) :
    genValue w i = genValue v i := by
  have hnat : ∀ k ∈ waveKeys i, w.nat k = v.nat k := fun k hk => congrArg Int.toNat (hkeys k hk)
  simp only [waveKeys, List.forall_mem_cons] at hkeys hnat
  obtain ⟨htype, -, hlen, hf0, hf1, hdur, -⟩ := hnat
  obtain ⟨-, hampl, -⟩ := hkeys
  simp only [genValue, htype, hampl, hlen, hf0, hf1, hdur, hreg, htb, hsweep]

@[simp] theorem set_gen (s : State) (k : Nat) (v : Int) (i : Fin 4) : (s.set k v).gen i = s.gen i := rfl
@[simp] theorem jTune_gen (s : State) (detail : Nat) (g : Option (Fin 4)) (cause : Nat) (i : Fin 4) :
    (s.jTune detail g cause).gen i = s.gen i := rfl

/-- The sweep of a running generator counts from its first step. -/
def swept (s : State) (i : Fin 4) : State := s.modGen i (fun c => { c with sweep := some (c.sweep.getD s.tb) })

theorem genValue_swept (s : State) (i : Fin 4) : genValue (swept s i) i = genValue s i := by
  refine genValue_congr (fun _ _ => rfl) rfl ?_ ?_
  · rw [swept, State.gen_modGen_self]
  · rw [swept, State.gen_modGen_self]
    rfl

theorem runGen_eq (s : State) (i : Fin 4) : s.runGen i =
    (((swept s i).set (G_VALUE i) (genValue s i).1).modGen i (fun c => { c with reg := (genValue s i).2 })).inc (G_STEPS i) := by
  rw [← genValue_swept s i]
  rfl

theorem runGen_values (s : State) (i : Fin 4) :
    (s.runGen i).get (G_VALUE i) = (genValue s i).1 ∧ (s.runGen i).get (G_STEPS i) = counted32 (s.get (G_STEPS i)) 1 ∧
    (s.runGen i).get (G_STATE i) = s.get (G_STATE i) ∧
    (s.runGen i).gen i = { s.gen i with reg := (genValue s i).2, sweep := some ((s.gen i).sweep.getD s.tb) } := by
  rw [runGen_eq]
  refine ⟨?_, ?_, ?_, ?_⟩
  · simp [State.inc, State.addCount, State.get_set, swept]
  · simp [State.inc, State.addCount, State.get_set, swept, counted32]
  · simp [State.inc, State.addCount, State.get_set, swept]
  · simp [State.inc, State.addCount, swept]

theorem runGen_changes (s : State) (i : Fin 4) : Only (· ∈ [.gen i, .obj (G_VALUE i), .obj (G_STEPS i)]) s (s.runGen i) :=
  State.runGen_only .refl (by simp) (by simp) (by simp)

/-! ### The start of a run (R243) -/

/-- What a generator holds from its first step on, taken at the instant of v. -/
def firstGen (v : State) (i : Fin 4) : Gen := ⟨prbsSeed v i, some v.now, v.tbNs, some v.tb, false⟩

theorem startGen_eq (s : State) (i : Fin 4) :
    s.startGen i = ((s.modGen i (fun _ => firstGen s i)).set (G_STATE i) 2).jTune 0x50 (some i) 0 := rfl

theorem startGen_gen (s : State) (i : Fin 4) : (s.startGen i).gen i = firstGen s i := by
  rw [startGen_eq, jTune_gen, set_gen, State.gen_modGen_self]

theorem startGen_get (s : State) (i : Fin 4) {k : Nat} (hk : k ≠ G_STATE i) : (s.startGen i).get k = s.get k :=
  State.get_set_ne _ _ hk

theorem startGen_raises (s : State) (i : Fin 4) : Raises s (s.startGen i) [(1, islCapture, 0x50)] := by
  rw [startGen_eq]
  exact raises_journal ..

theorem startGen_state (s : State) (i : Fin 4) : (s.startGen i).get (G_STATE i) = 2 := State.get_set_self ..

/-- The first value is that of the register at its seed and of no time passed. -/
theorem genValue_startGen (s : State) (i : Fin 4) : genValue (s.startGen i) i = genValue (s.modGen i (fun _ => firstGen s i)) i := by
  have hne : ∀ c : Fin 4, ∀ k ∈ waveKeys c, k ≠ G_STATE c := by decide
  exact genValue_congr (fun k hk => State.get_set_ne _ _ (hne i k hk)) rfl rfl rfl

/-! ### The end of a run (R243, R244) -/

theorem endGen_values (s : State) (i : Fin 4) (st detail cause : Nat) :
    (s.endGen i st detail cause).get (G_STATE i) = st ∧ (s.endGen i st detail cause).get (G_VALUE i) = 0 := by
  have hstate : ((s.set (G_STATE i) st).set (G_VALUE i) 0).get (G_STATE i) = st := by simp [State.get_set]
  exact ⟨hstate, State.get_set_self ..⟩

theorem endGen_raises (s : State) (i : Fin 4) (st detail cause : Nat) :
    Raises s (s.endGen i st detail cause) [(1, islCapture, detail)] := by
  rw [State.endGen]
  exact raises_journal ..

theorem endGen_changes (s : State) (i : Fin 4) (st detail cause : Nat) :
    Only (· ∈ [.gen i, .obj (G_STATE i), .obj (G_VALUE i), .raised]) s (s.endGen i st detail cause) :=
  State.endGen_only .refl (by simp) (by simp) (by simp) (by simp)

/-! ### What a step does with a run -/

/-- The duration of a sweep of generator i has not passed. -/
def SweepGoesOn (s : State) (i : Fin 4) : Prop :=
  ∀ t0, (s.gen i).sweep = some t0 → s.nat (G_DURATION i) = 0 ∨ s.tb < t0 + us (s.nat (G_DURATION i))

theorem injectionDone_of_goesOn (h : SweepGoesOn s i) : s.injectionDone i = s := by
  unfold State.injectionDone
  extract_lets d
  split
  · next t0 hsweep =>
    refine if_neg (fun ⟨_, hd, hend⟩ => ?_)
    rcases h t0 hsweep with h0 | hlt
    · exact hd h0
    · exact absurd hend (Nat.not_le.mpr hlt)
  · rfl

theorem genBusy_of_state {n : Nat} (h : s.nat (G_STATE i) = n) (hn : n = 1 ∨ n = 2) : genBusy s i = true := by
  rw [genBusy, h]
  exact decide_eq_true hn

theorem advanceGen_of_running (hstate : s.nat (G_STATE i) = 2) (hstop : (s.gen i).stop = false) (hbar : injectionBar s i = none)
    (hgoes : SweepGoesOn s i) : s.advanceGen i = s.runGen i := by
  simp [State.advanceGen, genBusy_of_state hstate (.inr rfl), hstop, hstate, hbar, injectionDone_of_goesOn hgoes]

theorem advanceGen_of_start (hstate : s.nat (G_STATE i) = 1) (hstop : (s.gen i).stop = false) (hbar : injectionBar s i = none)
    (htime : s.nat (G_START i) ≤ s.tbNs) : s.advanceGen i = (s.startGen i).runGen i := by
  have hrun : (s.startGen i).nat (G_STATE i) = 2 := congrArg Int.toNat (startGen_state s i)
  simp [State.advanceGen, genBusy_of_state hstate (.inl rfl), hstop, hstate, hbar, hrun, Nat.not_lt.mpr htime]

theorem advanceGen_of_stop (hbusy : genBusy s i = true) (hstop : (s.gen i).stop = true) : s.advanceGen i = s.endGen i 0 0x52 5 := by
  simp [State.advanceGen, hbusy, hstop]

theorem advanceGen_of_bar {c : Nat} (hbusy : genBusy s i = true) (hstop : (s.gen i).stop = false) (hbar : injectionBar s i = some c)
    (htime : s.nat (G_STATE i) = 1 → s.nat (G_START i) ≤ s.tbNs) : s.advanceGen i = s.endGen i 4 0x52 c := by
  have hwaits : ¬ (s.nat (G_STATE i) = 1 ∧ s.tbNs < s.nat (G_START i)) := fun ⟨h1, hlt⟩ => absurd (htime h1) (Nat.not_le.mpr hlt)
  simp [State.advanceGen, hbusy, hstop, hbar, if_neg hwaits]

/-! ### The permission does not read the time (R244) -/

theorem feeds_atTime (s : State) (t : Nat) : feeds (s.at_ t) = feeds s := rfl

theorem reachSlots_atTime (s : State) (t n : Nat) (l : List (Fin 48)) : reachSlots (s.at_ t) n l = reachSlots s n l := by
  induction n generalizing l with
  | zero => rfl
  | succ n ih => simp only [reachSlots, feeds_atTime, ih]

theorem sinkAxis_atTime (s : State) (t : Nat) : sinkAxis (s.at_ t) = sinkAxis s := rfl

theorem hoisting_atTime (s : State) (t : Nat) : hoisting (s.at_ t) = hoisting s := rfl

@[simp] theorem atTime_ax (s : State) (t : Nat) (a : Fin 4) : (s.at_ t).ax a = s.ax a := rfl

theorem slotAxes_atTime (s : State) (t : Nat) (k : Fin 48) : slotAxes (s.at_ t) k = slotAxes s k := by
  simp only [slotAxes, reachSlots_atTime, sinkAxis_atTime]
  rfl

theorem injectionBar_atTime (s : State) (t : Nat) (i : Fin 4) : injectionBar (s.at_ t) i = injectionBar s i := by
  simp only [injectionBar, slotAxes_atTime, hoisting_atTime, State.atTime_nat, atTime_ax]
  rfl

/-! ### GENERATOR_STEP (R239, R243, R244) -/

/-- A step at its time advances the run, and the value arrives. -/
theorem exec_generatorStep_of_due (t : Nat) (hOn : On s islCapture) (htick : (s.at_ t).tb % ns (s.nat (G_STEP_NS i)) = 0) :
    ∃ u, exec (.generatorStep t i) s = .next u ∧ Arrived ((s.at_ t).advanceGen i) u := by
  refine ⟨(((s.at_ t).advanceGen i).arrive (0x7000 + i.val) (((s.at_ t).advanceGen i).get (G_VALUE i))).settle, ?_, ?_⟩
  · rw [exec_generatorStep, execGeneratorStep, runOn_on (s := s.at_ t) hOn, State.genStep, State.atTime_nat, if_neg (not_not_intro htick)]
  · exact ((Only.refl.arrive (P := (· ∈ arriveParts)) (fun _ hp => hp)).mono (fun _ => .inl)).ends

/-- A step of a running generator gives the value of its waveform, and counts. -/
theorem generatorStep_runs (t : Nat) (hOn : On s islCapture) (htick : (s.at_ t).tb % ns (s.nat (G_STEP_NS i)) = 0)
    (hstate : s.nat (G_STATE i) = 2) (hstop : (s.gen i).stop = false) (hbar : injectionBar s i = none)
    (hgoes : SweepGoesOn (s.at_ t) i) :
    Yields (.generatorStep t i) s (fun u =>
      u.get (G_VALUE i) = (genValue (s.at_ t) i).1 ∧ (u.gen i).reg = (genValue (s.at_ t) i).2 ∧
      u.get (G_STEPS i) = counted32 (s.get (G_STEPS i)) 1 ∧ u.get (G_STATE i) = 2 ∧
      Frame (· ∈ [.gen i, .obj (G_VALUE i), .obj (G_STEPS i)] ++ arriveParts) s u) := by
  obtain ⟨u, hexec, harrived⟩ := exec_generatorStep_of_due t hOn htick
  rw [advanceGen_of_running (s := s.at_ t) hstate hstop ((injectionBar_atTime s t i).trans hbar) hgoes] at harrived
  obtain ⟨hvalue, hsteps, hkept, hgen⟩ := runGen_values (s.at_ t) i
  refine ⟨u, hexec, ?_, ?_, ?_, ?_, harrived.frame (runGen_changes (s.at_ t) i)⟩
  · rw [harrived.get (by simp only [G_VALUE]; omega), hvalue]
  · rw [harrived.gen, hgen]
  · rw [harrived.get (by simp only [G_STEPS]; omega), hsteps, State.atTime_get]
  · rw [harrived.get (by simp only [G_STATE]; omega), hkept, State.atTime_get]
    rw [State.nat] at hstate
    omega

/-- The first step of an armed run, at its time, gives the value at the start of the waveform (R243). -/
theorem generatorStep_starts (t : Nat) (hOn : On s islCapture) (htick : (s.at_ t).tb % ns (s.nat (G_STEP_NS i)) = 0)
    (hstate : s.nat (G_STATE i) = 1) (hstop : (s.gen i).stop = false) (hbar : injectionBar s i = none)
    (htime : s.nat (G_START i) ≤ (s.at_ t).tbNs) :
    Yields (.generatorStep t i) s (fun u =>
      u.get (G_STATE i) = 2 ∧
      u.gen i = { firstGen (s.at_ t) i with reg := (genValue ((s.at_ t).modGen i (fun _ => firstGen (s.at_ t) i)) i).2 } ∧
      u.get (G_VALUE i) = (genValue ((s.at_ t).modGen i (fun _ => firstGen (s.at_ t) i)) i).1 ∧
      u.get (G_STEPS i) = counted32 (s.get (G_STEPS i)) 1 ∧ Raises s u [(1, islCapture, 0x50)] ∧
      Frame (· ∈ [.gen i, .obj (G_STATE i), .obj (G_VALUE i), .obj (G_STEPS i), .raised] ++ arriveParts) s u) := by
  obtain ⟨u, hexec, harrived⟩ := exec_generatorStep_of_due t hOn htick
  rw [advanceGen_of_start (s := s.at_ t) hstate hstop ((injectionBar_atTime s t i).trans hbar) htime] at harrived
  obtain ⟨hvalue, hsteps, hkept, hgen⟩ := runGen_values ((s.at_ t).startGen i) i
  rw [genValue_startGen] at hvalue hgen
  have hstart : Only (· ∈ [.gen i, .obj (G_STATE i), .obj (G_VALUE i), .obj (G_STEPS i), .raised]) (s.at_ t) ((s.at_ t).startGen i) :=
    State.startGen_only .refl (by simp) (by simp) (by simp)
  have hrun : Only offJournal ((s.at_ t).startGen i) (((s.at_ t).startGen i).runGen i) := State.runGen_only .refl trivial trivial trivial
  refine ⟨u, hexec, ?_, ?_, ?_, ?_, ?_, ?_⟩
  · rw [harrived.get (by simp only [G_STATE]; omega), hkept, startGen_state]
  · rw [harrived.gen, hgen, startGen_gen]
    rfl
  · rw [harrived.get (by simp only [G_VALUE]; omega), hvalue]
  · rw [harrived.get (by simp only [G_STEPS]; omega), hsteps, startGen_get _ _ (by simp), State.atTime_get]
  · exact harrived.raises ((startGen_raises (s.at_ t) i).trans (raises_nil (hrun .raised id)))
  · exact harrived.frame (hstart.trans ((runGen_changes _ i).mono (fun p hp => by simp at hp ⊢; tauto)))

/-- A step ends a run that is stopped or not permitted (R243, R244). -/
theorem generatorStep_ends (t : Nat) (hOn : On s islCapture) (htick : (s.at_ t).tb % ns (s.nat (G_STEP_NS i)) = 0)
    (hbusy : genBusy s i = true)
    (hends : (s.gen i).stop = true ∨ (injectionBar s i ≠ none ∧ (s.nat (G_STATE i) = 1 → s.nat (G_START i) ≤ (s.at_ t).tbNs))) :
    Yields (.generatorStep t i) s (fun u =>
      u.get (G_STATE i) = (if (s.gen i).stop then 0 else 4) ∧ u.get (G_VALUE i) = 0 ∧ Raises s u [(1, islCapture, 0x52)] ∧
      Frame (· ∈ [.gen i, .obj (G_STATE i), .obj (G_VALUE i), .raised] ++ arriveParts) s u) := by
  obtain ⟨u, hexec, harrived⟩ := exec_generatorStep_of_due t hOn htick
  have hended : ∃ st cause : Nat, (s.at_ t).advanceGen i = (s.at_ t).endGen i st 0x52 cause ∧
      (st : Int) = if (s.gen i).stop then 0 else 4 := by
    cases hstop : (s.gen i).stop with
    | true => exact ⟨0, 5, advanceGen_of_stop (s := s.at_ t) hbusy hstop, rfl⟩
    | false =>
      obtain ⟨hbar, htime⟩ := hends.resolve_left (by simp [hstop])
      obtain ⟨c, hc⟩ := Option.ne_none_iff_exists'.mp hbar
      exact ⟨4, c, advanceGen_of_bar (s := s.at_ t) hbusy hstop ((injectionBar_atTime s t i).trans hc) htime, rfl⟩
  obtain ⟨st, cause, heq, hst⟩ := hended
  rw [heq] at harrived
  obtain ⟨hstate, hvalue⟩ := endGen_values (s.at_ t) i st 0x52 cause
  refine ⟨u, hexec, ?_, ?_, harrived.raises (endGen_raises (s.at_ t) i st 0x52 cause),
    harrived.frame (endGen_changes (s.at_ t) i st 0x52 cause)⟩
  · rw [harrived.get (by simp only [G_STATE]; omega), hstate, hst]
  · rw [harrived.get (by simp only [G_VALUE]; omega), hvalue]

/-! ### Writes of the objects of tuning -/

theorem effect_tuning (s : State) (b : By) (st dm : Nat) (bs : Bytes) (v : Int) {k : Nat} (hk : k / 65536 = 0x70) :
    s.effect b st dm k bs v = s.effTuning b.sid k v := by
  have hax : axAt k = none := by
    unfold axAt
    exact dif_neg (by omega)
  have hslot : slotAt k = none := by
    unfold slotAt
    exact dif_neg (by omega)
  simp only [State.effect, hk, hax, hslot]
  rw [if_neg (by decide), if_pos trivial]

/-- What a flag of tuning that is written has to be: one unsigned byte, no pole key, and no key slot. -/
def flagKey (k : Nat) : Bool := decide (k / 65536 = 0x70) && !poleKey k && plainKey k 1 && (keySlotAt k).isNone

/-- A write of a flag that every check lets pass has its effect, and is answered. -/
theorem writeCmd_tuning {b : By} {k : Nat} {v : Int} (hk : flagKey k = true) (hv : v = 0 ∨ v = 1) (h : allowed s b k v = true) :
    s.writeCmd b k v = ((judged s b k).effTuning b.sid k v).emit (.result 0 []) := by
  simp only [flagKey, Bool.and_eq_true, decide_eq_true_eq, Bool.not_eq_true', Option.isNone_iff_eq_none] at hk
  obtain ⟨⟨⟨hidx, hpole⟩, hplain⟩, hslot⟩ := hk
  rw [writeCmd_plain hpole hplain (by omega) (by omega) h, effect_tuning _ _ _ _ _ _ hidx, afterKey_none hslot]

/-- The answer to a write, and the end of its command. -/
def answered (v : State) : State := (v.emit (.result 0 [])).settle

theorem result_mem_answered (v : State) : .result 0 [] ∈ (answered v).outs := by
  rw [answered, State.settle_outs]
  exact List.mem_append_right _ List.mem_cons_self

theorem answered_get_tuning (v : State) {k : Nat} (hk : 0x700000 ≤ k) : (answered v).get k = v.get k := by
  rw [answered, State.settle_get _ (shownKey_of (.inr (by omega))), State.emit_get]

theorem Only.answered {v : State} (h : Only P s v) : Frame P s (answered v) :=
  ((h.mono (fun _ => .inl)).emit (.inr (by simp [Safety.ends]))).ends

theorem answered_gen (v : State) (i : Fin 4) : (answered v).gen i = v.gen i := by
  rw [answered, State.gen, State.settle_gens]
  rfl

/-! ### GENERATOR_ARM and GENERATOR_STOP (R243) -/

theorem flagKey_run : ∀ c : Fin 4, flagKey (G_RUN c) = true := by decide +kernel

theorem effTuning_run (s : State) (sid : Nat) (i : Fin 4) (v : Int) :
    s.effTuning sid (G_RUN i) v = if v = 1 then (s.set (G_RUN i) v).armGen i else (s.set (G_RUN i) v).stopGen i := by
  have hkey : ∀ c : Fin 4, genAt (G_RUN c) = some c ∧ G_RUN c % 256 = 1 := by decide
  obtain ⟨hgen, hsub⟩ := hkey i
  simp only [State.effTuning, hgen, hsub, if_true]

theorem genBusy_set_run (s : State) (i : Fin 4) (v : Int) : genBusy (s.set (G_RUN i) v) i = genBusy s i := by
  have hne : G_STATE i ≠ G_RUN i := by simp
  rw [genBusy, State.nat_set, if_neg hne, genBusy]

/-- A generator that is not busy is armed, with no step counted. -/
theorem armGen_of_idle (h : genBusy s i = false) :
    s.armGen i = ((s.set (G_STATE i) 1).set (G_STEPS i) 0).modGen i (fun _ => Gen.reset) := by
  simp [State.armGen, h]

theorem stopGen_eq (s : State) (i : Fin 4) :
    s.stopGen i = if genBusy s i then s.modGen i (fun c => { c with stop := true }) else s := rfl

theorem generatorArm_arms (s : State) (t : Nat) (b : By) (i : Fin 4) :
    Writes (.generatorArm t b i) s (s.at_ t) b (G_RUN i) 1 (fun g u =>
      (genBusy g i = false → u.get (G_STATE i) = 1 ∧ u.get (G_STEPS i) = 0 ∧ u.gen i = Gen.reset) ∧
      Frame (· ∈ [.gen i, .obj (G_RUN i), .obj (G_STATE i), .obj (G_STEPS i)]) g u) := by
  intro hallowed
  generalize hg : judged (s.at_ t) b (G_RUN i) = g
  refine ⟨answered ((g.set (G_RUN i) 1).armGen i), ?_, result_mem_answered _, fun hidle => ?_, ?_⟩
  · rw [exec_generatorArm, execGeneratorArm, writeCmd_tuning (flagKey_run i) (.inr rfl) hallowed, effTuning_run, if_pos rfl, hg]
    rfl
  · rw [armGen_of_idle ((genBusy_set_run g i 1).trans hidle), answered_get_tuning _ (by simp only [G_STATE]; omega),
      answered_get_tuning _ (by simp only [G_STEPS]; omega), answered_gen, State.gen_modGen_self]
    simp [State.get_set]
  · exact (State.armGen_only (Only.refl.set (by simp)) (by simp) (by simp) (by simp)).answered

theorem generatorStop_asks (s : State) (t : Nat) (b : By) (i : Fin 4) :
    Writes (.generatorStop t b i) s (s.at_ t) b (G_RUN i) 0 (fun g u =>
      (genBusy g i = true → u.gen i = { g.gen i with stop := true }) ∧ (genBusy g i = false → u.gen i = g.gen i) ∧
      Frame (· ∈ [.gen i, .obj (G_RUN i)]) g u) := by
  intro hallowed
  generalize hg : judged (s.at_ t) b (G_RUN i) = g
  refine ⟨answered ((g.set (G_RUN i) 0).stopGen i), ?_, result_mem_answered _, fun hbusy => ?_, fun hidle => ?_, ?_⟩
  · rw [exec_generatorStop, execGeneratorStop, writeCmd_tuning (flagKey_run i) (.inl rfl) hallowed, effTuning_run, if_neg (by decide), hg]
    rfl
  · rw [answered_gen, stopGen_eq, genBusy_set_run, hbusy, if_pos rfl, State.gen_modGen_self]
    rfl
  · rw [answered_gen, stopGen_eq, genBusy_set_run, hidle]
    rfl
  · exact (State.stopGen_only (Only.refl.set (by simp)) (by simp)).answered

/-! ### INJECTION_DONE (R241) -/

/-- The end of a duration restarts a repeating chirp at the next step, and ends any other run. -/
theorem injectionDone_of_elapsed {t0 : Nat} (hstate : s.nat (G_STATE i) = 2) (hsweep : (s.gen i).sweep = some t0)
    (hdur : s.nat (G_DURATION i) ≠ 0) (hend : t0 + us (s.nat (G_DURATION i)) ≤ s.tb) :
    s.injectionDone i = if s.flag (G_REPEAT i) = true ∧ (s.nat (G_TYPE i) = 1 ∨ s.nat (G_TYPE i) = 2) then
      s.modGen i (fun c => { c with sweep := none }) else s.endGen i 3 0x51 0 := by
  simp only [State.injectionDone, hsweep]
  exact if_pos ⟨hstate, hdur, hend⟩

theorem injectionDone_ends (t : Nat) {t0 : Nat} (hOn : On s islCapture) (hstate : s.nat (G_STATE i) = 2)
    (hsweep : (s.gen i).sweep = some t0) (hdur : s.nat (G_DURATION i) ≠ 0) (hend : t0 + us (s.nat (G_DURATION i)) ≤ (s.at_ t).tb) :
    Yields (.injectionDone t i) s (fun u =>
      (if s.flag (G_REPEAT i) = true ∧ (s.nat (G_TYPE i) = 1 ∨ s.nat (G_TYPE i) = 2) then
        u.gen i = { s.gen i with sweep := none } ∧ Frame (· ∈ [.gen i]) s u
      else u.get (G_STATE i) = 3 ∧ u.get (G_VALUE i) = 0 ∧ Raises s u [(1, islCapture, 0x51)]) ∧
      Frame (· ∈ [.gen i, .obj (G_STATE i), .obj (G_VALUE i), .raised]) s u) := by
  have hexec : exec (.injectionDone t i) s = .next ((s.at_ t).injectionDone i).settle := by
    rw [exec_injectionDone, execInjectionDone, runOn_on (s := s.at_ t) hOn]
  rw [injectionDone_of_elapsed (s := s.at_ t) hstate hsweep hdur hend, State.atTime_flag, State.atTime_nat] at hexec
  by_cases hrepeat : s.flag (G_REPEAT i) = true ∧ (s.nat (G_TYPE i) = 1 ∨ s.nat (G_TYPE i) = 2)
  · simp only [if_pos hrepeat] at hexec ⊢
    have hframe : ∀ {l : List Part}, .gen i ∈ l → Frame (· ∈ l) s ((s.at_ t).modGen i (fun c => { c with sweep := none })).settle :=
      fun hmem => (Only.begins.modGen (.inl hmem)).ends
    refine ⟨_, hexec, ⟨?_, hframe (by simp)⟩, hframe (by simp)⟩
    rw [State.gen, State.settle_gens]
    exact State.gen_modGen_self ..
  · simp only [if_neg hrepeat] at hexec ⊢
    obtain ⟨hended, hvalue⟩ := endGen_values (s.at_ t) i 3 0x51 0
    refine ⟨_, hexec, ⟨?_, ?_, ?_⟩, (Only.begins.trans ((endGen_changes (s.at_ t) i 3 0x51 0).mono (fun _ => .inl))).ends⟩
    · rw [State.settle_get _ (shownKey_of (.inr (by simp only [G_STATE]; omega))), hended]
      rfl
    · rw [State.settle_get _ (shownKey_of (.inr (by simp only [G_VALUE]; omega))), hvalue]
    · rw [Raises, State.settle_raised]
      exact endGen_raises (s.at_ t) i 3 0x51 0

/-- Settles O27: each step runs, starts or ends the run it finds, by its state, a stop and the permission; the first value is that of the
seeded register with no time passed. -/
theorem generatorCommands : Obligations.GeneratorCommands :=
  ⟨fun _ t _ hOn htick hstate hstop hbar hgoes => generatorStep_runs t hOn htick hstate hstop hbar hgoes,
    fun _ t _ hOn htick hstate hstop hbar htime => generatorStep_starts t hOn htick hstate hstop hbar htime,
    fun _ t _ hOn htick hbusy hends => generatorStep_ends t hOn htick hbusy hends,
    generatorArm_arms, generatorStop_asks,
    fun _ t _ _ hOn hstate hsweep hdur hend => injectionDone_ends t hOn hstate hsweep hdur hend⟩

end Sys2Proof.Safety

/-! SUPPORT. The capture unit: its claim and release, an arm, what a tick holds, records, triggers and completes, and a read of its
buffer (R246–R250). -/

namespace Sys2Proof.Safety
open Sys2Proof.Machine Sys2Proof.Machine.Obj

variable {P : Part → Prop} {s u : State} {i : Fin 4}

/-! ### What one change of a list brings about -/

/-- What one member brings about where the others before it leave its premise, and what every member then keeps. -/
theorem foldl_reaches {α β : Type} {l : List β} {f : α → β → α} {b : β} {P Q : α → Prop} {a : α} (hb : b ∈ l) (ha : P a)
    (hpre : ∀ x c, c ≠ b → P x → P (f x c)) (hb_brings : ∀ x, P x → Q (f x b)) (hkeeps : ∀ x c, Q x → Q (f x c)) : Q (l.foldl f a) := by
  obtain ⟨before, after, rfl, hnot⟩ := List.eq_append_cons_of_mem hb
  rw [List.foldl_append, List.foldl_cons]
  have hbefore : P (before.foldl f a) := List.foldlRecOn before f ha (fun x hx c hc => hpre x c (fun h => hnot (h ▸ hc)) hx)
  exact List.foldlRecOn after f (hb_brings _ hbefore) (fun x hx c _ => hkeeps x c hx)

/-! ### The claim (R246) -/

/-- The wake-ups of the capture unit and its banks. -/
def wakeUnit (s : State) : State := [123, 92, 93, 94].foldl State.wake s

theorem flagKey_claim : flagKey C_CLAIM = true := by decide +kernel

theorem effTuning_claim (s : State) (sid : Nat) (v : Int) :
    s.effTuning sid C_CLAIM v = if v = 1 then wakeUnit ((s.set C_CLAIM 1).set C_OWNER sid) else s.claimEnd := by
  have hgen : genAt C_CLAIM = none := by decide
  simp only [State.effTuning, hgen, if_true]
  rfl

theorem wake_changes (s : State) (d : Nat) :
    Only (· ∈ [.power, .obj (PW_DOM_STATE d), .obj PW_DAMP_QUEUE, .obj PW_DAMP_MAX_Q]) s (s.wake d) :=
  State.wake_only .refl (by simp) (by simp) (by simp) (by simp)

theorem wake_get_ne (s : State) {d e : Nat} (hne : e ≠ d) (hd : d < 132) : (s.wake e).get (PW_DOM_STATE d) = s.get (PW_DOM_STATE d) :=
  wake_changes s e (.obj _) (by
    simp only [List.mem_cons, Part.obj.injEq, List.not_mem_nil, reduceCtorEq, false_or, or_false, PW_DOM_STATE, PW_DAMP_QUEUE,
      PW_DAMP_MAX_Q]
    omega)

/-- A bank of the capture unit powers no island, and Derate does not hold it back. -/
theorem wake_bank {d : Nat} (hd : d ∈ [92, 93, 94]) (s : State) :
    s.wake d = if s.nat (PW_DOM_STATE d) ≠ 0 then s else (s.set (PW_DOM_STATE d) 1).syncQueue := by
  have hbank : ∀ e ∈ [92, 93, 94], domIsland e = none ∧ domClass e ≠ 3 := by decide
  obtain ⟨hisland, hclass⟩ := hbank d hd
  simp only [State.wake, hisland, State.queueDomain, if_neg (fun h : domClass d = 3 ∧ _ => hclass h.1)]

theorem wake_bank_of_off {d : Nat} (hd : d ∈ [92, 93, 94]) (hoff : s.nat (PW_DOM_STATE d) = 0) : (s.wake d).get (PW_DOM_STATE d) = 1 := by
  have hne : ∀ e ∈ [92, 93, 94], PW_DOM_STATE e ≠ PW_DAMP_QUEUE ∧ PW_DOM_STATE e ≠ PW_DAMP_MAX_Q := by decide
  obtain ⟨hqueue, hmax⟩ := hne d hd
  rw [wake_bank hd, if_neg (not_not_intro hoff), State.syncQueue, State.get_set_ne _ _ hmax, State.get_set_ne _ _ hqueue,
    State.get_set_self]

theorem wake_keeps_waking {d : Nat} (hd : d ∈ [92, 93, 94]) (e : Nat) (hwaking : s.get (PW_DOM_STATE d) = 1) :
    (s.wake e).get (PW_DOM_STATE d) = 1 := by
  have hlt : ∀ e ∈ [92, 93, 94], e < 132 := by decide
  by_cases he : e = d
  · rw [he, wake_bank hd, if_pos (by rw [State.nat, hwaking]; decide), hwaking]
  · rw [wake_get_ne s he (hlt d hd), hwaking]

/-- The banks that are off are queued for their wake-up. -/
theorem wakeUnit_banks {d : Nat} (hd : d ∈ [92, 93, 94]) (hoff : s.nat (PW_DOM_STATE d) = 0) :
    (wakeUnit s).get (PW_DOM_STATE d) = 1 := by
  have hlt : ∀ e ∈ [92, 93, 94], e < 132 := by decide
  exact foldl_reaches (f := State.wake) (P := fun v => v.nat (PW_DOM_STATE d) = 0) (Q := fun v => v.get (PW_DOM_STATE d) = 1)
    (List.mem_cons_of_mem 123 hd) hoff
    (fun v e hne hv => (congrArg Int.toNat (wake_get_ne v hne (hlt d hd))).trans hv)
    (fun _ hv => wake_bank_of_off hd hv) (fun _ e hv => wake_keeps_waking hd e hv)

/-- Parts that the wake-ups of the capture unit may touch. -/
def wakeParts : List Part :=
  [.power, .obj PW_DAMP_QUEUE, .obj PW_DAMP_MAX_Q] ++ [92, 93, 94, 123].map (fun d => .obj (PW_DOM_STATE d))

theorem wakeUnit_changes (s : State) : Only (· ∈ wakeParts) s (wakeUnit s) :=
  List.foldlRecOn (motive := Only (· ∈ wakeParts) s) _ State.wake .refl (fun v hv d hd => hv.trans ((wake_changes v d).mono (by
    simp only [List.mem_cons, List.not_mem_nil, or_false] at hd
    rcases hd with rfl | rfl | rfl | rfl <;> simp [wakeParts])))

/-- A claim takes the unit for its session and wakes it with its banks. -/
theorem captureClaim_wakes (s : State) (t : Nat) (b : By) : Writes (.captureClaim t b) s (s.at_ t) b C_CLAIM 1 (fun g u =>
    u.get C_CLAIM = 1 ∧ u.get C_OWNER = b.sid ∧
    (∀ d ∈ [92, 93, 94], g.nat (PW_DOM_STATE d) = 0 → u.get (PW_DOM_STATE d) = 1) ∧
    Frame (· ∈ [.obj C_CLAIM, .obj C_OWNER, .power, .obj PW_DAMP_QUEUE, .obj PW_DAMP_MAX_Q] ++
      [92, 93, 94, 123].map (fun d => .obj (PW_DOM_STATE d))) g u) := by
  intro hallowed
  generalize hg : judged (s.at_ t) b C_CLAIM = g
  have hwakes := wakeUnit_changes ((g.set C_CLAIM 1).set C_OWNER b.sid)
  refine ⟨answered (wakeUnit ((g.set C_CLAIM 1).set C_OWNER b.sid)), ?_, result_mem_answered _, ?_, ?_, fun d hd hoff => ?_, ?_⟩
  · rw [exec_captureClaim, execCaptureClaim, writeCmd_tuning flagKey_claim (.inr rfl) hallowed, effTuning_claim, if_pos rfl, hg]
    rfl
  · rw [answered_get_tuning _ (by decide), hwakes (.obj C_CLAIM) (by decide), State.get_set_ne _ _ (by decide), State.get_set_self]
  · rw [answered_get_tuning _ (by decide), hwakes (.obj C_OWNER) (by decide), State.get_set_self]
  · have hshown : ∀ e ∈ [92, 93, 94], shownKey (PW_DOM_STATE e) = false ∧ PW_DOM_STATE e ≠ C_OWNER ∧ PW_DOM_STATE e ≠ C_CLAIM := by decide
    obtain ⟨hkey, howner, hclaim⟩ := hshown d hd
    rw [answered, State.settle_get _ hkey, State.emit_get]
    exact wakeUnit_banks hd (by rw [State.nat_set, if_neg howner, State.nat_set, if_neg hclaim, hoff])
  · refine Only.answered (Only.trans ((Only.refl.set ?_).set ?_) (hwakes.mono (fun p hp => ?_)))
    · simp
    · simp
    · exact List.mem_append.mpr ((List.mem_append.mp hp).imp_left (fun h => List.mem_cons_of_mem _ (List.mem_cons_of_mem _ h)))

/-! ### The release (R246) -/

/-- The claim is given up. -/
def unclaimed (s : State) : State := (s.set C_CLAIM 0).set C_OWNER 0xFFFF

/-- A run of generator i, if any, aborts as the claim ends. -/
def abortBusy (s : State) (i : Fin 4) : State := if genBusy s i then s.endGen i 4 0x52 1 else s

/-- Every run aborts as the claim ends. -/
def abortGens (s : State) : State := allGens.foldl abortBusy s

theorem claimEnd_eq (s : State) : s.claimEnd = (abortGens (unclaimed s)).capAbort 1 := rfl

theorem abortBusy_changes (s : State) (i : Fin 4) : Only (· ∈ [.gen i, .obj (G_STATE i), .obj (G_VALUE i), .raised]) s (abortBusy s i) :=
  .ite (fun _ => endGen_changes s i 4 0x52 1) (fun _ => .refl)

theorem abortBusy_get_ne (s : State) {j : Fin 4} (h : j ≠ i) :
    (abortBusy s j).get (G_STATE i) = s.get (G_STATE i) ∧ (abortBusy s j).get (G_VALUE i) = s.get (G_VALUE i) := by
  have hval : j.val ≠ i.val := Fin.val_ne_of_ne h
  have hout : Part.obj (G_STATE i) ∉ [Part.gen j, .obj (G_STATE j), .obj (G_VALUE j), .raised] ∧
      Part.obj (G_VALUE i) ∉ [Part.gen j, .obj (G_STATE j), .obj (G_VALUE j), .raised] := by
    simp only [List.mem_cons, Part.obj.injEq, List.not_mem_nil, reduceCtorEq, false_or, or_false, G_STATE, G_VALUE]
    omega
  exact ⟨abortBusy_changes s j (.obj _) hout.1, abortBusy_changes s j (.obj _) hout.2⟩

theorem genBusy_of_get {v : State} (h : v.get (G_STATE i) = s.get (G_STATE i)) : genBusy v i = genBusy s i := by
  rw [genBusy, genBusy, State.nat, State.nat, h]

/-- Generator i has aborted, and its value is 0. -/
def Aborted (i : Fin 4) (s : State) : Prop := s.get (G_STATE i) = 4 ∧ s.get (G_VALUE i) = 0

theorem Aborted.abortBusy (h : Aborted i s) (j : Fin 4) : Aborted i (abortBusy s j) := by
  obtain ⟨hstate, hvalue⟩ := h
  by_cases hj : j = i
  · have hidle : genBusy s i = false := by simp [genBusy, State.nat, hstate]
    rw [hj, Safety.abortBusy, hidle]
    exact ⟨hstate, hvalue⟩
  · obtain ⟨hs, hv⟩ := abortBusy_get_ne s hj
    exact ⟨hs.trans hstate, hv.trans hvalue⟩

theorem abortGens_of_busy (h : genBusy s i = true) : Aborted i (abortGens s) :=
  foldl_reaches (P := fun v => genBusy v i = true) (List.mem_finRange i) h
    (fun v j hne hv => (genBusy_of_get (abortBusy_get_ne v hne).1).trans hv)
    (fun v hv => by
      rw [abortBusy, hv]
      exact endGen_values v i 4 0x52 1)
    (fun _ j hv => hv.abortBusy j)

theorem abortGens_of_idle (h : genBusy s i = false) : (abortGens s).get (G_STATE i) = s.get (G_STATE i) := by
  refine List.foldlRecOn (motive := fun v : State => v.get (G_STATE i) = s.get (G_STATE i)) allGens abortBusy rfl (fun v hv j _ => ?_)
  by_cases hj : j = i
  · rw [hj, abortBusy, genBusy_of_get hv, h]
    exact hv
  · rw [(abortBusy_get_ne v hj).1, hv]

theorem abortGens_changes (s : State) :
    Only (· ∈ .raised :: allAxes.flatMap (fun (i : Fin 4) => [.gen i, .obj (G_STATE i), .obj (G_VALUE i)])) s (abortGens s) :=
  Only.refl.foldl (fun j v hv => hv.trans ((abortBusy_changes v j).mono (fun p hp => by
    simp only [List.mem_cons, List.mem_flatMap] at hp ⊢
    rcases hp with h | h | h | h | h
    · exact .inr ⟨j, List.mem_finRange j, .inl h⟩
    · exact .inr ⟨j, List.mem_finRange j, .inr (.inl h)⟩
    · exact .inr ⟨j, List.mem_finRange j, .inr (.inr (.inl h))⟩
    · exact .inl h
    · exact absurd h List.not_mem_nil)))

/-- The objects of the capture unit are none of a generator. -/
theorem abortGens_get (s : State) {k : Nat} (hk : 0x701000 ≤ k) : (abortGens s).get k = s.get k :=
  abortGens_changes s (.obj k) (by
    simp only [List.mem_cons, List.mem_flatMap, reduceCtorEq, Part.obj.injEq, List.not_mem_nil, or_false, false_or, not_exists, not_and]
    intro j _
    have := j.isLt
    simp only [G_STATE, G_VALUE]
    omega)

theorem capAbort_changes (s : State) (cause : Nat) :
    Only (· ∈ [.freeCtr, .cap, .obj C_STATE, .obj C_VERSION, .raised]) s (s.capAbort cause) :=
  State.capAbort_only .refl (by simp) (by simp) (by simp) (by simp) (by simp)

/-- An arm that has not completed aborts (R246, R250). -/
theorem capAbort_of_unfinished {cause : Nat} (h1 : 1 ≤ s.nat C_STATE) (h3 : s.nat C_STATE ≤ 3) :
    (s.capAbort cause).get C_STATE = 5 ∧ (s.capAbort cause).get C_VERSION = counted32 (s.get C_VERSION) 1 := by
  rw [State.capAbort, if_pos ⟨h1, h3⟩]
  refine ⟨?_, ?_⟩
  · exact (State.get_set_ne _ _ (by decide)).trans (State.get_set_self ..)
  · refine (State.get_set_self ..).trans ?_
    rw [State.get_set_ne _ _ (by decide)]
    rfl

/-- A release aborts the runs and the capture that the claim has under way. -/
theorem captureRelease_aborts (s : State) (t : Nat) (b : By) : Writes (.captureRelease t b) s (s.at_ t) b C_CLAIM 0 (fun g u =>
    u.get C_CLAIM = 0 ∧ u.get C_OWNER = 0xFFFF ∧ (∀ i : Fin 4, genBusy g i = true → u.get (G_STATE i) = 4 ∧ u.get (G_VALUE i) = 0) ∧
    (∀ i : Fin 4, genBusy g i = false → u.get (G_STATE i) = g.get (G_STATE i)) ∧
    (1 ≤ g.nat C_STATE → g.nat C_STATE ≤ 3 → u.get C_STATE = 5 ∧ u.get C_VERSION = counted32 (g.get C_VERSION) 1) ∧
    Frame (· ∈ [.obj C_CLAIM, .obj C_OWNER, .raised, .freeCtr, .cap, .obj C_STATE, .obj C_VERSION] ++
      allAxes.flatMap (fun (i : Fin 4) => [.gen i, .obj (G_STATE i), .obj (G_VALUE i)])) g u) := by
  intro hallowed
  generalize hg : judged (s.at_ t) b C_CLAIM = g
  have hexec : exec (.captureRelease t b) s = .next (answered g.claimEnd) := by
    rw [exec_captureRelease, execCaptureRelease, writeCmd_tuning flagKey_claim (.inl rfl) hallowed, effTuning_claim, if_neg (by decide), hg]
    rfl
  have hfrom : ∀ {k : Nat}, 0x700000 ≤ k → k ≠ C_STATE → k ≠ C_VERSION → (answered g.claimEnd).get k = (abortGens (unclaimed g)).get k :=
    fun hk hstate hversion => (answered_get_tuning _ hk).trans
      (capAbort_changes (abortGens (unclaimed g)) 1 (.obj _) (by simp [hstate, hversion]))
  have hkept : ∀ {k : Nat}, k ≠ C_CLAIM → k ≠ C_OWNER → (unclaimed g).get k = g.get k := fun hclaim howner => by
    rw [unclaimed, State.get_set_ne _ _ howner, State.get_set_ne _ _ hclaim]
  have hgens : ∀ c : Fin 4, 0x700000 ≤ G_STATE c ∧ G_STATE c ≠ C_STATE ∧ G_STATE c ≠ C_VERSION ∧ G_STATE c ≠ C_CLAIM ∧ G_STATE c ≠ C_OWNER ∧
    0x700000 ≤ G_VALUE c ∧ G_VALUE c ≠ C_STATE ∧ G_VALUE c ≠ C_VERSION := by decide
  refine ⟨_, hexec, result_mem_answered _, ?_, ?_, fun i hbusy => ?_, fun i hidle => ?_, fun h1 h3 => ?_, ?_⟩
  · rw [hfrom (by decide) (by decide) (by decide), abortGens_get _ (by decide), unclaimed, State.get_set_ne _ _ (by decide),
      State.get_set_self]
  · rw [hfrom (by decide) (by decide) (by decide), abortGens_get _ (by decide), unclaimed, State.get_set_self]
  · obtain ⟨h0, hs, hv, hc, ho, h0', hs', hv'⟩ := hgens i
    rw [hfrom h0 hs hv, hfrom h0' hs' hv']
    exact abortGens_of_busy ((genBusy_of_get (hkept hc ho)).trans hbusy)
  · obtain ⟨h0, hs, hv, hc, ho, -⟩ := hgens i
    rw [hfrom h0 hs hv, abortGens_of_idle ((genBusy_of_get (hkept hc ho)).trans hidle), hkept hc ho]
  · have hstate : (abortGens (unclaimed g)).nat C_STATE = g.nat C_STATE :=
      congrArg Int.toNat ((abortGens_get _ (by decide)).trans (hkept (by decide) (by decide)))
    obtain ⟨hfive, hversion⟩ := capAbort_of_unfinished (s := abortGens (unclaimed g)) (cause := 1) (by omega) (by omega)
    rw [answered_get_tuning _ (by decide), answered_get_tuning _ (by decide), claimEnd_eq, hfive, hversion, abortGens_get _ (by decide),
      hkept (by decide) (by decide)]
    exact ⟨rfl, rfl⟩
  · have hgen : ∀ c : Fin 4, ∀ p ∈ [Part.gen c, .obj (G_STATE c), .obj (G_VALUE c)],
        p ∈ [.obj C_CLAIM, .obj C_OWNER, .raised, .freeCtr, .cap, .obj C_STATE, .obj C_VERSION] ++
          allAxes.flatMap (fun (i : Fin 4) => [Part.gen i, .obj (G_STATE i), .obj (G_VALUE i)]) := fun c p hp =>
      List.mem_append_right _ (List.mem_flatMap.mpr ⟨c, List.mem_finRange c, hp⟩)
    exact Only.answered (State.claimEnd_only .refl (by simp) (by simp) (fun c => hgen c _ (by simp)) (fun c => hgen c _ (by simp))
      (fun c => hgen c _ (by simp)) (by simp) (by simp) (by simp) (by simp) (by simp))

/-! ### An arm (R249) -/

theorem flagKey_arm : flagKey C_ARM = true := by decide +kernel

/-- The unit as an arm by a session leaves it. -/
def armedBy (s : State) (sid : Nat) : State := { s.capArm with cap := { s.capArm.cap with by_ := sid } }

theorem effTuning_arm (s : State) (sid : Nat) : s.effTuning sid C_ARM 1 = armedBy s sid := by
  have hgen : genAt C_ARM = none := by decide
  simp only [State.effTuning, hgen]
  rfl

/-- An arm discards the buffer and begins a capture for its session. -/
theorem captureArm_arms (s : State) (t : Nat) (b : By) : Writes (.captureArm t b) s (s.at_ t) b C_ARM 1 (fun g u =>
    u.get C_STATE = 1 ∧ u.get C_RECORDS = 0 ∧ u.get C_TRIG_REC = 0 ∧ u.get C_TRIG_STAMP = 0 ∧ u.cap.recs = [] ∧ u.cap.by_ = b.sid ∧
    u.get C_VERSION = counted32 (g.get C_VERSION) 1 ∧
    Frame (· ∈ [.cap, .obj C_STATE, .obj C_RECORDS, .obj C_TRIG_REC, .obj C_TRIG_STAMP, .obj C_VERSION]) g u) := by
  intro hallowed
  generalize hg : judged (s.at_ t) b C_ARM = g
  have hcap : (answered (armedBy g b.sid)).cap = (armedBy g b.sid).cap := by
    rw [answered, State.settle_cap, State.emit_cap]
  have hget : ∀ {k : Nat}, 0x700000 ≤ k → (answered (armedBy g b.sid)).get k = g.capArm.get k := fun hk => answered_get_tuning _ hk
  refine ⟨answered (armedBy g b.sid), ?_, result_mem_answered _, ?_, ?_, ?_, ?_, ?_, ?_, ?_, ?_⟩
  · rw [exec_captureArm, execCaptureArm, writeCmd_tuning flagKey_arm (.inr rfl) hallowed, effTuning_arm, hg]
    rfl
  · rw [hget (by decide)]
    simp [State.capArm, State.inc, State.addCount, State.get_set]
  · rw [hget (by decide)]
    simp [State.capArm, State.inc, State.addCount, State.get_set]
  · rw [hget (by decide)]
    simp [State.capArm, State.inc, State.addCount, State.get_set]
  · rw [hget (by decide)]
    simp [State.capArm, State.inc, State.addCount, State.get_set]
  · rw [hcap]
    rfl
  · rw [hcap]
    rfl
  · rw [hget (by decide)]
    simp [State.capArm, State.inc, State.addCount, State.get_set, counted32]
    rfl
  · exact (Only.w_cap (State.capArm_only .refl (by simp) (by simp) (by simp) (by simp) (by simp) (by simp)) (by simp)).answered

/-! ### The values that a tick takes (R247) -/

/-- Parts that the reads of a tick may touch. -/
def tickReads : List Part := .sessions :: readParts 8

theorem chanReads_changes (s : State) : Only (· ∈ tickReads) s s.chanReads.2 := by
  refine State.chanReads_only .refl ?_ ?_ ?_ ?_ ?_ ?_ <;> simp [tickReads, readParts, portParts]

theorem chanRead_changes (s : State) (c : Fin 32) : Only (· ∈ tickReads) s (s.chanRead c).2 := by
  refine State.chanRead_only .refl ?_ ?_ ?_ ?_ ?_ ?_ <;> simp [tickReads, readParts, portParts]

/-- The reads count in the parameter store alone. -/
theorem get_of_tickReads {v : State} (h : Only (· ∈ tickReads) s v) {k : Nat} (hk : 0x200000 ≤ k) : v.get k = s.get k :=
  h (.obj k) (by
    simp only [tickReads, readParts, portParts, List.mem_cons, Part.obj.injEq, List.not_mem_nil, reduceCtorEq, false_or, or_false,
      ST_GRANTS, ST_BUSY, ST_MAX_WAIT]
    omega)

/-- The sources lie outside the parameter store. -/
theorem sourceValue_of_tickReads {v : State} (h : Only (· ∈ tickReads) s v) (sel : Int) : sourceValue v sel = sourceValue s sel := by
  have hsec : ∀ x, v.sec x = s.sec x := fun x => h (.sec x) (by simp [tickReads, readParts, portParts])
  have hhb : ∀ n, v.hb n = s.hb n := fun n => h (.hb n) (by simp [tickReads, readParts, portParts])
  have hax : ∀ a, v.ax a = s.ax a := fun a => h (.ax a) (by simp [tickReads, readParts, portParts])
  have hy : ∀ j, v.get (K_Y j) = s.get (K_Y j) := fun j => get_of_tickReads h (by simp only [K_Y]; omega)
  have hdc : ∀ j, v.get (S_DC_LINK j) = s.get (S_DC_LINK j) := fun j => get_of_tickReads h (by simp only [S_DC_LINK]; omega)
  have href : ∀ j, v.get (K_REF j) = s.get (K_REF j) := fun j => get_of_tickReads h (by simp only [K_REF]; omega)
  have hgen : ∀ j, v.get (G_VALUE j) = s.get (G_VALUE j) := fun j => get_of_tickReads h (by simp only [G_VALUE]; omega)
  simp only [sourceValue, hsec, hhb, hax, hy, hdc, href, hgen]

/-- A selector that is not positive names no source. -/
theorem sourceValue_of_nonpos (s : State) {sel : Int} (h : sel ≤ 0) : sourceValue s sel = 0 := by
  have hdiv : sel / 4096 ≤ 0 := by omega
  unfold sourceValue
  dsimp only
  split <;> omega

theorem sourceValue_toNat (s : State) (sel : Int) : sourceValue s (sel.toNat : Int) = sourceValue s sel := by
  rcases Int.le_total 0 sel with h | h
  · rw [Int.toNat_of_nonneg h]
  · rw [sourceValue_of_nonpos s h, Int.toNat_of_nonpos h]
    exact sourceValue_of_nonpos s (by decide)

/-- One channel takes its value in the course of a tick. -/
def takeChannel (p : Vector Int 32 × State) (c : Fin 32) : Vector Int 32 × State :=
  (p.1.set c.val (p.2.chanRead c).1 c.isLt, (p.2.chanRead c).2)

theorem chanReads_eq (s : State) : s.chanReads = (List.finRange 32).foldl takeChannel (s.cap.held, s) := rfl

theorem chanRead_of_source {v : State} {c : Fin 32} (h : Only (· ∈ tickReads) s v) (hsrc : s.nat (C_CH_SRC c) / 4096 ≠ 8) :
    (v.chanRead c).1 = sourceValue s (s.nat (C_CH_SRC c)) := by
  have hget : v.get (C_CH_SRC c) = s.get (C_CH_SRC c) := get_of_tickReads h (by simp only [C_CH_SRC]; omega)
  have hsrc' : v.nat (C_CH_SRC c) / 4096 ≠ 8 := by rwa [State.nat, hget]
  rw [State.chanRead, if_pos hsrc', sourceValue_of_tickReads h, hget, State.nat, sourceValue_toNat]

/-- A channel of a source takes its latest value. -/
theorem chanReads_of_source {c : Fin 32} (hsrc : s.nat (C_CH_SRC c) / 4096 ≠ 8) :
    s.chanReads.1.get c = sourceValue s (s.nat (C_CH_SRC c)) := by
  have hstays : ∀ (p : Vector Int 32 × State) (d : Fin 32), Only (· ∈ tickReads) s p.2 → Only (· ∈ tickReads) s (takeChannel p d).2 :=
    fun p d hp => hp.trans (chanRead_changes p.2 d)
  rw [chanReads_eq]
  refine (foldl_reaches (f := takeChannel) (P := fun p => Only (· ∈ tickReads) s p.2)
    (Q := fun p => Only (· ∈ tickReads) s p.2 ∧ p.1.get c = sourceValue s (s.nat (C_CH_SRC c))) (List.mem_finRange c) .refl
    (fun p d _ hp => hstays p d hp) (fun p hp => ⟨hstays p c hp, ?_⟩) (fun p d ⟨hp, hval⟩ => ⟨hstays p d hp, ?_⟩)).2
  · exact (vget_set_self ..).trans (chanRead_of_source hp hsrc)
  · by_cases hd : d = c
    · rw [hd]
      exact (vget_set_self ..).trans (chanRead_of_source hp hsrc)
    · exact (vget_set_ne _ _ (Ne.symm hd)).trans hval

/-! ### The stages of a tick (R247–R249) -/

/-- Channel c is set in a mask if a dictionary object feeds it. -/
def addObject (s : State) (m : BitVec 32) (c : Nat) : BitVec 32 := if s.nat (C_CH_SRC c) / 4096 = 8 then m ||| (1 <<< c) else m

/-- The enabled channels that a dictionary object feeds: a value reaches each at every tick. -/
def objChannels (s : State) : BitVec 32 := (capChannels s).foldl (addObject s) 0

/-- The capture unit stands as c. -/
def withCap (v : State) (c : Cap) : State := { v with cap := c }

@[simp] theorem withCap_cap (v : State) (c : Cap) : (withCap v c).cap = c := rfl
@[simp] theorem withCap_get (v : State) (c : Cap) (k : Nat) : (withCap v c).get k = v.get k := rfl
@[simp] theorem withCap_raised (v : State) (c : Cap) : (withCap v c).raised = v.raised := rfl
@[simp] theorem jTune_get (v : State) (detail : Nat) (g : Option (Fin 4)) (cause k : Nat) : (v.jTune detail g cause).get k = v.get k := rfl
@[simp] theorem jTune_cap (v : State) (detail : Nat) (g : Option (Fin 4)) (cause : Nat) : (v.jTune detail g cause).cap = v.cap := rfl

/-- The unit holds the values cur, with those of the channels objs arrived. -/
def holding (v : State) (cur : Vector Int 32) (objs : BitVec 32) : State :=
  withCap v { v.cap with held := cur, got := v.cap.got ||| objs }

/-- The unit holds the values of the tick. -/
def heldNow (s : State) : State := holding s.chanReads.2 s.chanReads.1 (objChannels s)

/-- The trigger takes effect. -/
def triggerNoted (v : State) : State :=
  (((withCap v { v.cap with pre := v.cap.recs.length, post := max 1 (v.nat C_DEPTH - v.nat C_PRE) }).set C_STATE 3).set
    C_TRIG_STAMP v.tbNs).jTune 0x53 none 0

/-- The trigger takes effect once, if it holds. -/
def triggerTaken (v : State) (prev cur : Vector Int 32) : State :=
  if v.nat C_STATE ≠ 3 ∧ capTrigger v prev cur then triggerNoted v else v

/-- The tick counts, and its values enter the sums. -/
def tickCounted (v : State) (cur : Vector Int 32) : State :=
  withCap v { v.cap with ticks := v.cap.ticks + 1, ticked := true,
                         sum := Vector.ofFn (fun c : Fin 32 => v.cap.sum.get c + cur.get c) }

/-- Every C_DECIM-th tick writes a record. -/
def recordTaken (v : State) (cur : Vector Int 32) : State := if v.nat C_DECIM ≤ v.cap.ticks then v.capRecord cur else v

/-- The last record behind the trigger completes the capture. -/
def tickEnd (v : State) : State := if v.nat C_STATE = 3 ∧ v.cap.post = 0 then v.capComplete else v.capWaiting

theorem capTick_eq (s : State) : s.capTick =
    if s.tb % ns (s.nat C_PERIOD) ≠ 0 then s
    else if (heldNow s).nat C_STATE < 1 ∨ 3 < (heldNow s).nat C_STATE then heldNow s
    else
      tickEnd (recordTaken (tickCounted (triggerTaken (heldNow s).capWaiting s.cap.held s.chanReads.1) s.chanReads.1) s.chanReads.1) := by
  unfold State.capTick heldNow
  generalize s.chanReads = p
  obtain ⟨cur, v⟩ := p
  rfl

theorem holding_changes (v : State) (cur : Vector Int 32) (objs : BitVec 32) : Only (· = .cap) v (holding v cur objs) :=
  Only.w_cap .refl rfl

theorem heldNow_cap (s : State) : (heldNow s).cap = { s.cap with held := s.chanReads.1, got := s.cap.got ||| objChannels s } := by
  have hcap : s.chanReads.2.cap = s.cap := chanReads_changes s .cap (by simp [tickReads, readParts, portParts])
  rw [heldNow, holding, withCap_cap, hcap]

theorem heldNow_changes (s : State) : Only (· ∈ .cap :: tickReads) s (heldNow s) :=
  ((chanReads_changes s).mono (fun _ => List.mem_cons_of_mem _)).trans
    ((holding_changes _ _ _).mono (fun _ h => h ▸ List.mem_cons_self))

theorem heldNow_get (s : State) {k : Nat} (hk : 0x200000 ≤ k) : (heldNow s).get k = s.get k :=
  (holding_changes _ _ _ (.obj k) (by simp)).trans (get_of_tickReads (chanReads_changes s) hk)

theorem heldNow_nat (s : State) {k : Nat} (hk : 0x200000 ≤ k) : (heldNow s).nat k = s.nat k := congrArg Int.toNat (heldNow_get s hk)

theorem heldNow_tbNs (s : State) : (heldNow s).tbNs = s.tbNs := by
  obtain ⟨hnow, hoff, -⟩ := heldNow_changes s .clock (by simp [tickReads, readParts, portParts])
  rw [State.tbNs, State.tb, hnow, hoff]
  rfl

theorem heldNow_gen (s : State) (g : Fin 4) : (heldNow s).gen g = s.gen g :=
  heldNow_changes s (.gen g) (by simp [tickReads, readParts, portParts])

theorem heldNow_raised (s : State) : (heldNow s).raised = s.raised := heldNow_changes s .raised (by simp [tickReads, readParts, portParts])

/-- The trigger is judged by nothing that a tick takes in. -/
theorem capTrigger_heldNow (s : State) (prev cur : Vector Int 32) : capTrigger (heldNow s) prev cur = capTrigger s prev cur := by
  have hnat : ∀ k ∈ [C_TRIG_CH, C_TRIG_SRC, C_TRIG_COND, C_STATE, C_TRIG_TIME], (heldNow s).nat k = s.nat k := fun k hk =>
    heldNow_nat s (by
      have hall : ∀ j ∈ [C_TRIG_CH, C_TRIG_SRC, C_TRIG_COND, C_STATE, C_TRIG_TIME], 0x200000 ≤ j := by decide
      exact hall k hk)
  simp only [List.forall_mem_cons] at hnat
  obtain ⟨hch, hsrc, hcond, hstate, htime, -⟩ := hnat
  have hlevel : (heldNow s).get C_TRIG_LEVEL = s.get C_TRIG_LEVEL := heldNow_get s (by decide)
  simp only [capTrigger, hch, hsrc, hcond, hstate, htime, hlevel, heldNow_cap, heldNow_tbNs, heldNow_gen]

/-! ### Frames and held values of the stages -/

theorem capWaiting_cap (v : State) : v.capWaiting.cap = v.cap := State.capWaiting_only (P := (· = .obj C_STATE)) .refl rfl .cap (by simp)

theorem tickCounted_held (v : State) (cur : Vector Int 32) : (tickCounted v cur).cap.held = v.cap.held := by
  rw [tickCounted, withCap_cap]

theorem triggerTaken_held (v : State) (prev cur : Vector Int 32) : (triggerTaken v prev cur).cap.held = v.cap.held := by
  rw [triggerTaken]
  split <;> rfl

theorem recordTaken_held (v : State) (cur : Vector Int 32) : (recordTaken v cur).cap.held = v.cap.held := by
  rw [recordTaken]
  split <;> rfl

theorem tickEnd_held (v : State) : (tickEnd v).cap.held = v.cap.held := by
  rw [tickEnd]
  split
  · rfl
  · rw [capWaiting_cap]

/-- Each tick holds the values it has taken. -/
theorem capTick_held (hdue : s.tb % ns (s.nat C_PERIOD) = 0) : s.capTick.cap.held = s.chanReads.1 := by
  rw [capTick_eq, if_neg (not_not_intro hdue)]
  split
  · rw [heldNow_cap]
  · rw [tickEnd_held, recordTaken_held, tickCounted_held, triggerTaken_held, capWaiting_cap, heldNow_cap]

/-- Without a capture under way, a tick holds the values alone. -/
theorem capTick_of_idle (hdue : s.tb % ns (s.nat C_PERIOD) = 0) (hidle : s.nat C_STATE = 0 ∨ 4 ≤ s.nat C_STATE) :
    s.capTick = heldNow s := by
  rw [capTick_eq, if_neg (not_not_intro hdue), if_pos]
  rw [heldNow_nat s (by decide)]
  omega

/-- A tick past the wait for pre-trigger records. -/
theorem capTick_of_waited (hdue : s.tb % ns (s.nat C_PERIOD) = 0) (hstate : s.nat C_STATE = 2 ∨ s.nat C_STATE = 3) :
    s.capTick =
      tickEnd (recordTaken (tickCounted (triggerTaken (heldNow s) s.cap.held s.chanReads.1) s.chanReads.1) s.chanReads.1) := by
  have hheld : (heldNow s).nat C_STATE = s.nat C_STATE := heldNow_nat s (by decide)
  have hwaits : (heldNow s).capWaiting = heldNow s := if_neg (by omega)
  rw [capTick_eq, if_neg (not_not_intro hdue), if_neg (by omega), hwaits]

/-! ### A record (R248) -/

/-- The record of the values that have arrived, as the unit writes it. -/
def recordOf (v : State) (cur : Vector Int 32) : List Int :=
  (((capChannels v).filter (fun c => v.cap.got.getLsbD c)).foldl (fun m c => m + 2 ^ c) 0 : Nat) ::
    (capChannels v).map (fun c =>
      let i : Fin 32 := ⟨c % 32, Nat.mod_lt _ (by decide)⟩
      if v.nat C_DECIM_MODE = 1 then v.cap.sum.get i / v.cap.ticks else cur.get i)

/-- The unit with a record more. -/
def recordedCap (v : State) (cur : Vector Int 32) : Cap :=
  let recs := recordOf v cur :: v.cap.recs
  { v.cap with recs := if v.nat C_STATE = 3 then recs else recs.take (v.nat C_PRE), got := 0, sum := Vector.replicate 32 0, ticks := 0,
               post := if v.nat C_STATE = 3 then v.cap.post - 1 else v.cap.post }

theorem capRecord_eq (v : State) (cur : Vector Int 32) : v.capRecord cur =
    (withCap v (recordedCap v cur)).set C_RECORDS (recordedCap v cur).recs.length := rfl

theorem lt_of_mem_capChannels {c : Nat} (h : c ∈ capChannels s) : c < 32 := List.mem_range.mp (List.mem_filter.mp h).1

/-- The bits that a list of object channels sets. -/
theorem getLsbD_foldl_addObject (s : State) {c : Nat} (hc : c < 32) (l : List Nat) (m : BitVec 32) :
    (l.foldl (addObject s) m).getLsbD c =
      (m.getLsbD c || decide (c ∈ l ∧ s.nat (C_CH_SRC c) / 4096 = 8)) := by
  induction l generalizing m with
  | nil => simp
  | cons d l ih =>
    rw [List.foldl_cons, ih, addObject]
    have hbit : ((1 <<< d : Nat) : BitVec 32).getLsbD c = decide (d = c) := by
      rw [BitVec.natCast_eq_ofNat, BitVec.getLsbD_ofNat, Nat.one_shiftLeft, Nat.testBit_two_pow, decide_eq_true hc, Bool.true_and]
    by_cases hobj : s.nat (C_CH_SRC d) / 4096 = 8
    · rw [if_pos hobj, BitVec.getLsbD_or, hbit, Bool.or_assoc]
      by_cases hd : d = c
      · simp [← hd, hobj]
      · simp [hd, Ne.symm hd]
    · rw [if_neg hobj]
      by_cases hd : c = d
      · simp [hd, hobj]
      · simp [hd]

theorem getLsbD_objChannels {c : Nat} (h : c ∈ capChannels s) : (objChannels s).getLsbD c = decide (s.nat (C_CH_SRC c) / 4096 = 8) := by
  rw [objChannels, getLsbD_foldl_addObject s (lt_of_mem_capChannels h)]
  simp [h]

theorem capChannels_heldNow (s : State) : capChannels (heldNow s) = capChannels s := by
  rw [capChannels, heldNow_nat s (by decide), capChannels]

theorem tickCounted_get (v : State) (cur : Vector Int 32) (k : Nat) : (tickCounted v cur).get k = v.get k := by
  rw [tickCounted, withCap_get]

theorem tickCounted_nat (v : State) (cur : Vector Int 32) (k : Nat) : (tickCounted v cur).nat k = v.nat k :=
  congrArg Int.toNat (tickCounted_get v cur k)

theorem tickCounted_cap (v : State) (cur : Vector Int 32) : (tickCounted v cur).cap =
    { v.cap with ticks := v.cap.ticks + 1, ticked := true, sum := Vector.ofFn (fun c : Fin 32 => v.cap.sum.get c + cur.get c) } := by
  rw [tickCounted, withCap_cap]

theorem tickCounted_raised (v : State) (cur : Vector Int 32) : (tickCounted v cur).raised = v.raised := by
  rw [tickCounted, withCap_raised]

theorem vget_ofFn {α : Type} {n : Nat} (f : Fin n → α) (i : Fin n) : (Vector.ofFn f).get i = f i := Vector.getElem_ofFn i.isLt

/-- The record of a tick is written of its own values and those before it since the last. -/
theorem recordOf_tick (s : State) : recordOf (tickCounted (heldNow s) s.chanReads.1) s.chanReads.1 = captureRecord s s.chanReads.1 := by
  have hcap := tickCounted_cap (heldNow s) s.chanReads.1
  have hch : capChannels (tickCounted (heldNow s) s.chanReads.1) = capChannels s := by
    rw [capChannels, tickCounted_nat, ← capChannels, capChannels_heldNow]
  have hmode : (tickCounted (heldNow s) s.chanReads.1).nat C_DECIM_MODE = s.nat C_DECIM_MODE := by
    rw [tickCounted_nat, heldNow_nat s (by decide)]
  have hgot : ∀ c ∈ capChannels s, (s.cap.got ||| objChannels s).getLsbD c =
      (s.cap.got.getLsbD c || decide (s.nat (C_CH_SRC c) / 4096 = 8)) := fun c hc => by
    rw [BitVec.getLsbD_or, getLsbD_objChannels hc]
  simp only [recordOf, captureRecord, hch, hmode, hcap, heldNow_cap, vget_ofFn, List.filter_congr hgot]


/-! ### A tick that writes a record -/

/-- The state of a tick that has written its record, untriggered. -/
def recordedTick (s : State) : State := (tickCounted (heldNow s) s.chanReads.1).capRecord s.chanReads.1

theorem recordedTick_get (s : State) {k : Nat} (hk : 0x200000 ≤ k) (hne : k ≠ C_RECORDS) : (recordedTick s).get k = s.get k := by
  rw [recordedTick, capRecord_eq, State.get_set_ne _ _ hne, withCap_get, tickCounted_get, heldNow_get s hk]

theorem recordedTick_state (s : State) : (recordedTick s).nat C_STATE = s.nat C_STATE :=
  congrArg Int.toNat (recordedTick_get s (by decide) (by decide))

theorem recordedTick_raised (s : State) : (recordedTick s).raised = s.raised := by
  rw [recordedTick, capRecord_eq, State.set_raised, withCap_raised, tickCounted_raised, heldNow_raised]

theorem recordedTick_records (s : State) : (recordedTick s).get C_RECORDS = (recordedTick s).cap.recs.length := by
  rw [recordedTick, capRecord_eq, State.get_set_self, State.set_cap, withCap_cap]

theorem recordedTick_cap (s : State) : (recordedTick s).cap =
    { s.cap with
        held := s.chanReads.1
        got := 0
        sum := Vector.replicate 32 0
        ticks := 0
        ticked := true
        recs := if s.nat C_STATE = 3 then captureRecord s s.chanReads.1 :: s.cap.recs
          else (captureRecord s s.chanReads.1 :: s.cap.recs).take (s.nat C_PRE)
        post := if s.nat C_STATE = 3 then s.cap.post - 1 else s.cap.post } := by
  have hstate : (tickCounted (heldNow s) s.chanReads.1).nat C_STATE = s.nat C_STATE := by
    rw [tickCounted_nat, heldNow_nat s (by decide)]
  have hpre : (tickCounted (heldNow s) s.chanReads.1).nat C_PRE = s.nat C_PRE := by
    rw [tickCounted_nat, heldNow_nat s (by decide)]
  rw [recordedTick, capRecord_eq, State.set_cap, withCap_cap, recordedCap, recordOf_tick, hstate, hpre, tickCounted_cap, heldNow_cap]

/-- A record is due at every C_DECIM-th tick. -/
theorem recordTaken_of_due (hdecim : s.nat C_DECIM ≤ s.cap.ticks + 1) :
    recordTaken (tickCounted (heldNow s) s.chanReads.1) s.chanReads.1 = recordedTick s := by
  refine if_pos ?_
  rw [tickCounted_nat, heldNow_nat s (by decide), tickCounted_cap, heldNow_cap]
  exact hdecim

/-! ### The end of a tick (R249, R250) -/

theorem capWaiting_of_waited {v : State} (h : v.nat C_STATE ≠ 1) : v.capWaiting = v := if_neg (fun h1 => h h1.1)

theorem tickEnd_of_open {v : State} (h1 : v.nat C_STATE ≠ 1) (h3 : v.nat C_STATE = 3 → v.cap.post ≠ 0) : tickEnd v = v := by
  rw [tickEnd, if_neg (fun h => h3 h.1 h.2), capWaiting_of_waited h1]

theorem capComplete_eq (v : State) : v.capComplete =
    ((((withCap v { v.cap with rot := 0 }).set C_STATE 4).set C_TRIG_REC v.cap.pre).inc C_VERSION).jTune 0x54 none 0 := rfl

theorem capComplete_values (v : State) :
    v.capComplete.get C_STATE = 4 ∧ v.capComplete.get C_TRIG_REC = v.cap.pre ∧
    v.capComplete.get C_VERSION = counted32 (v.get C_VERSION) 1 ∧ v.capComplete.get C_RECORDS = v.get C_RECORDS ∧
    v.capComplete.cap = { v.cap with rot := 0 } ∧ Raises v v.capComplete [(1, islCapture, 0x54)] := by
  refine ⟨?_, ?_, ?_, ?_, rfl, raises_journal ..⟩
  · simp [capComplete_eq, State.inc, State.addCount, State.get_set]
  · simp [capComplete_eq, State.inc, State.addCount, State.get_set]
  · simp [capComplete_eq, State.inc, State.addCount, State.get_set, counted32]
  · simp [capComplete_eq, State.inc, State.addCount, State.get_set]

/-- A tick behind the trigger writes its record, and the last one completes the capture. -/
theorem capTick_of_recording (hdue : s.tb % ns (s.nat C_PERIOD) = 0) (hstate : s.nat C_STATE = 3)
    (hdecim : s.nat C_DECIM ≤ s.cap.ticks + 1) : s.capTick = tickEnd (recordedTick s) := by
  have hheld : (heldNow s).nat C_STATE = 3 := (heldNow_nat s (by decide)).trans hstate
  have htaken : triggerTaken (heldNow s) s.cap.held s.chanReads.1 = heldNow s := if_neg (fun h => h.1 hheld)
  rw [capTick_of_waited hdue (.inr hstate), htaken, recordTaken_of_due hdecim]

/-- A tick before the trigger writes its record, of which the oldest beyond C_PRE go. -/
theorem capTick_of_waiting (hdue : s.tb % ns (s.nat C_PERIOD) = 0) (hstate : s.nat C_STATE = 2)
    (htrig : capTrigger s s.cap.held s.chanReads.1 = false) (hdecim : s.nat C_DECIM ≤ s.cap.ticks + 1) : s.capTick = recordedTick s := by
  have htaken : triggerTaken (heldNow s) s.cap.held s.chanReads.1 = heldNow s := by
    refine if_neg (fun h => ?_)
    rw [capTrigger_heldNow, htrig] at h
    exact absurd h.2 Bool.false_ne_true
  have hrecorded := (recordedTick_state s).trans hstate
  rw [capTick_of_waited hdue (.inl hstate), htaken, recordTaken_of_due hdecim, tickEnd_of_open (by omega) (by omega)]

/-! ### A tick at which the trigger holds (R249) -/

theorem triggerNoted_get (v : State) {k : Nat} (hstate : k ≠ C_STATE) (hstamp : k ≠ C_TRIG_STAMP) : (triggerNoted v).get k = v.get k :=
  (State.get_set_ne _ _ hstamp).trans (State.get_set_ne _ _ hstate)

theorem triggerNoted_values (v : State) :
    (triggerNoted v).get C_STATE = 3 ∧ (triggerNoted v).get C_TRIG_STAMP = v.tbNs ∧
    (triggerNoted v).cap = { v.cap with pre := v.cap.recs.length, post := max 1 (v.nat C_DEPTH - v.nat C_PRE) } ∧
    Raises v (triggerNoted v) [(1, islCapture, 0x53)] :=
  ⟨(State.get_set_ne _ _ (by decide)).trans (State.get_set_self ..), State.get_set_self .., rfl, raises_journal ..⟩

theorem capTick_of_trigger (hdue : s.tb % ns (s.nat C_PERIOD) = 0) (hstate : s.nat C_STATE = 2)
    (htrig : capTrigger s s.cap.held s.chanReads.1 = true) (hdecim : s.cap.ticks + 1 < s.nat C_DECIM) :
    s.capTick = tickCounted (triggerNoted (heldNow s)) s.chanReads.1 := by
  obtain ⟨hthree, -, hcap, -⟩ := triggerNoted_values (heldNow s)
  have hheld : (heldNow s).nat C_STATE = 2 := (heldNow_nat s (by decide)).trans hstate
  have htaken : triggerTaken (heldNow s) s.cap.held s.chanReads.1 = triggerNoted (heldNow s) :=
    if_pos ⟨by omega, (capTrigger_heldNow s _ _).trans htrig⟩
  have hnone : recordTaken (tickCounted (triggerNoted (heldNow s)) s.chanReads.1) s.chanReads.1 =
      tickCounted (triggerNoted (heldNow s)) s.chanReads.1 := by
    refine if_neg ?_
    rw [tickCounted_nat, tickCounted_cap, hcap, heldNow_cap, State.nat, triggerNoted_get _ (by decide) (by decide), ← State.nat,
      heldNow_nat s (by decide)]
    exact Nat.not_le.mpr hdecim
  have hopen : (tickCounted (triggerNoted (heldNow s)) s.chanReads.1).nat C_STATE = 3 := by
    rw [tickCounted_nat, State.nat, hthree]
    rfl
  rw [capTick_of_waited hdue (.inl hstate), htaken, hnone, tickEnd_of_open (by omega)]
  intro _
  rw [tickCounted_cap, hcap]
  exact Nat.ne_of_gt (Nat.lt_of_lt_of_le Nat.one_pos (Nat.le_max_left ..))

/-! ### CAPTURE_TICK -/

theorem exec_captureTick_of_on (t : Nat) (hOn : On s islCapture) : exec (.captureTick t) s = .next (s.at_ t).capTick.settle := by
  rw [exec_captureTick, execCaptureTick, runOn_on (s := s.at_ t) hOn]

theorem settle_get_tuning (v : State) {k : Nat} (hk : 0x700000 ≤ k) : v.settle.get k = v.get k :=
  State.settle_get _ (shownKey_of (.inr (by omega)))

theorem Raises.settle {l : List (Nat × Nat × Nat)} {v : State} (h : Raises s v l) : Raises s v.settle l := by
  rwa [Raises, State.settle_raised]

/-- What a tick may touch. -/
def tickParts : List Part :=
  [.cap, .obj C_STATE, .obj C_RECORDS, .obj C_TRIG_REC, .obj C_TRIG_STAMP, .obj C_VERSION, .raised, .sessions] ++ readParts 8

theorem capTick_changes (s : State) : Only (· ∈ tickParts) s s.capTick := by
  refine State.capTick_only .refl ?_ ?_ ?_ ?_ ?_ ?_ ?_ ?_ ?_ ?_ ?_ ?_ ?_ <;> simp [tickParts, readParts, portParts]

/-- Each tick holds the values of its channels; without a capture under way it does nothing else. -/
theorem captureTick_holds (t : Nat) (hOn : On s islCapture) (hdue : (s.at_ t).tb % ns (s.nat C_PERIOD) = 0) :
    Yields (.captureTick t) s (fun u =>
      u.cap.held = (s.at_ t).chanReads.1 ∧
      (∀ c : Fin 32, s.nat (C_CH_SRC c) / 4096 ≠ 8 → u.cap.held.get c = sourceValue (s.at_ t) (s.nat (C_CH_SRC c))) ∧
      (s.nat C_STATE = 0 ∨ 4 ≤ s.nat C_STATE → Frame (· ∈ .cap :: tickReads) s u ∧ u.cap.recs = s.cap.recs) ∧
      Frame (· ∈ tickParts) s u) := by
  have hheld : (s.at_ t).capTick.settle.cap.held = (s.at_ t).chanReads.1 := by
    rw [State.settle_cap]
    exact capTick_held (s := s.at_ t) hdue
  refine ⟨_, exec_captureTick_of_on t hOn, hheld, fun c hsrc => ?_, fun hidle => ?_, ?_⟩
  · rw [hheld]
    exact chanReads_of_source (s := s.at_ t) hsrc
  · rw [capTick_of_idle (s := s.at_ t) hdue hidle, State.settle_cap, heldNow_cap]
    exact ⟨(Only.begins.trans ((heldNow_changes (s.at_ t)).mono (fun _ => .inl))).ends, rfl⟩
  · exact (Only.begins.trans ((capTick_changes (s.at_ t)).mono (fun _ => .inl))).ends

/-- A recording tick adds its record; the last one completes the capture (R248–R250). -/
theorem captureTick_records (t : Nat) (hOn : On s islCapture) (hdue : (s.at_ t).tb % ns (s.nat C_PERIOD) = 0) (hstate : s.nat C_STATE = 3)
    (hdecim : s.nat C_DECIM ≤ s.cap.ticks + 1) :
    Yields (.captureTick t) s (fun u =>
      u.cap.recs = captureRecord (s.at_ t) (s.at_ t).chanReads.1 :: s.cap.recs ∧
      u.get C_RECORDS = (s.cap.recs.length + 1 : Nat) ∧ u.cap.ticks = 0 ∧
      (if s.cap.post ≤ 1 then u.get C_STATE = 4 ∧ u.get C_TRIG_REC = s.cap.pre ∧
        u.get C_VERSION = counted32 (s.get C_VERSION) 1 ∧ Raises s u [(1, islCapture, 0x54)]
      else u.get C_STATE = 3 ∧ u.cap.post = s.cap.post - 1)) := by
  have hexec := exec_captureTick_of_on t hOn
  rw [capTick_of_recording (s := s.at_ t) hdue hstate hdecim] at hexec
  have hopen : (recordedTick (s.at_ t)).nat C_STATE = 3 := (recordedTick_state _).trans hstate
  have hcap := recordedTick_cap (s.at_ t)
  rw [if_pos (c := (s.at_ t).nat C_STATE = 3) hstate, if_pos (c := (s.at_ t).nat C_STATE = 3) hstate] at hcap
  have hrecords : (recordedTick (s.at_ t)).get C_RECORDS = (s.cap.recs.length + 1 : Nat) := by
    rw [recordedTick_records, hcap]
    rfl
  by_cases hlast : s.cap.post ≤ 1
  · have hpost : (recordedTick (s.at_ t)).cap.post = 0 := by
      rw [hcap]
      exact Nat.sub_eq_zero_of_le hlast
    have hend : tickEnd (recordedTick (s.at_ t)) = (recordedTick (s.at_ t)).capComplete := if_pos ⟨hopen, hpost⟩
    obtain ⟨hfour, hpre, hversion, hkept, hcomplete, hraises⟩ := capComplete_values (recordedTick (s.at_ t))
    rw [hend] at hexec
    refine ⟨_, hexec, ?_, ?_, ?_, ?_⟩
    · rw [State.settle_cap, hcomplete, hcap]
      rfl
    · rw [settle_get_tuning _ (by decide), hkept, hrecords]
    · rw [State.settle_cap, hcomplete, hcap]
    · rw [if_pos hlast, settle_get_tuning _ (by decide), settle_get_tuning _ (by decide), settle_get_tuning _ (by decide)]
      refine ⟨hfour, ?_, ?_, ((raises_nil (recordedTick_raised (s.at_ t))).trans hraises).settle⟩
      · rw [hpre, hcap]
        rfl
      · rw [hversion, recordedTick_get _ (by decide) (by decide)]
        rfl
  · have hend : tickEnd (recordedTick (s.at_ t)) = recordedTick (s.at_ t) := tickEnd_of_open (by omega) (fun _ => by
      rw [hcap]
      exact Nat.sub_ne_zero_of_lt (Nat.not_le.mp hlast))
    rw [hend] at hexec
    refine ⟨_, hexec, ?_, ?_, ?_, ?_⟩
    · rw [State.settle_cap, hcap]
      rfl
    · rw [settle_get_tuning _ (by decide), hrecords]
    · rw [State.settle_cap, hcap]
    · rw [if_neg hlast, settle_get_tuning _ (by decide), State.settle_cap, hcap]
      refine ⟨?_, rfl⟩
      rw [State.nat] at hopen
      omega

/-- The trigger is stamped, and the records held before it are counted (R249). -/
theorem captureTick_triggers (t : Nat) (hOn : On s islCapture) (hdue : (s.at_ t).tb % ns (s.nat C_PERIOD) = 0) (hstate : s.nat C_STATE = 2)
    (htrig : capTrigger (s.at_ t) s.cap.held (s.at_ t).chanReads.1 = true) (hdecim : s.cap.ticks + 1 < s.nat C_DECIM) :
    Yields (.captureTick t) s (fun u =>
      u.get C_STATE = 3 ∧ u.nat C_TRIG_STAMP = (s.at_ t).tbNs ∧ u.cap.pre = s.cap.recs.length ∧
      u.cap.post = max 1 (s.nat C_DEPTH - s.nat C_PRE) ∧ Raises s u [(1, islCapture, 0x53)]) := by
  have hexec := exec_captureTick_of_on t hOn
  rw [capTick_of_trigger (s := s.at_ t) hdue hstate htrig hdecim] at hexec
  obtain ⟨hthree, hstamp, hcap, hraises⟩ := triggerNoted_values (heldNow (s.at_ t))
  have hcounted := tickCounted_cap (triggerNoted (heldNow (s.at_ t))) (s.at_ t).chanReads.1
  refine ⟨_, hexec, ?_, ?_, ?_, ?_, ?_⟩
  · rw [settle_get_tuning _ (by decide), tickCounted_get, hthree]
  · rw [State.nat, settle_get_tuning _ (by decide), tickCounted_get, hstamp, heldNow_tbNs, Int.toNat_natCast]
  · rw [State.settle_cap, hcounted, hcap, heldNow_cap]
    rfl
  · rw [State.settle_cap, hcounted, hcap, heldNow_nat _ (by decide), heldNow_nat _ (by decide)]
    rfl
  · rw [Raises, State.settle_raised, tickCounted_raised]
    exact (raises_nil (s := s) (heldNow_raised (s.at_ t))).trans hraises

/-- A tick that waits for the trigger keeps no more than C_PRE records (R249). -/
theorem captureTick_waits (t : Nat) (hOn : On s islCapture) (hdue : (s.at_ t).tb % ns (s.nat C_PERIOD) = 0) (hstate : s.nat C_STATE = 2)
    (htrig : capTrigger (s.at_ t) s.cap.held (s.at_ t).chanReads.1 = false) (hdecim : s.nat C_DECIM ≤ s.cap.ticks + 1) :
    Yields (.captureTick t) s (fun u =>
      u.get C_STATE = 2 ∧ u.cap.recs = (captureRecord (s.at_ t) (s.at_ t).chanReads.1 :: s.cap.recs).take (s.nat C_PRE) ∧
      u.get C_RECORDS = u.cap.recs.length) := by
  have hexec := exec_captureTick_of_on t hOn
  rw [capTick_of_waiting (s := s.at_ t) hdue hstate htrig hdecim] at hexec
  refine ⟨_, hexec, ?_, ?_, ?_⟩
  · rw [settle_get_tuning _ (by decide), recordedTick_get _ (by decide) (by decide), State.atTime_get]
    rw [State.nat] at hstate
    omega
  · rw [State.settle_cap, recordedTick_cap, if_neg (by rw [State.atTime_nat]; omega)]
    rfl
  · rw [settle_get_tuning _ (by decide), recordedTick_records, State.settle_cap]

/-! ### CAPTURE_DATA_READ (R250) -/

theorem fieldAt_length_le (bs : Bytes) (off n : Nat) : (fieldAt bs off n).length ≤ n := List.length_take_le ..

theorem find_captureData : (Catalog.find C_DATA).any (fun r => decide (r.acc ≠ .wo) && r.ty.long) = true := by decide +kernel

theorem content_captureData (s : State) (sid : Nat) :
    (s.content sid C_DATA).1 = fieldAt s.capBytes.1 (s.nat C_READ_OFFSET) 1024 := by
  have hbytes : Only (· = .freeCtr) s s.capBytes.2 := State.capBytes_only .refl rfl
  have hoffset : s.capBytes.2.nat C_READ_OFFSET = s.nat C_READ_OFFSET := congrArg Int.toNat (hbytes (.obj _) (by simp))
  rw [← hoffset]
  unfold State.content
  rfl

/-- A read of the buffer that passes its checks and stays within the quota answers its bytes. -/
theorem readObj_captureData {sid rq : Nat} (hcode : readCode s sid C_DATA = some 0) (hnew : oldValue s C_DATA = none)
    (hreach : ∀ r, Catalog.find C_DATA = some r → reach s C_DATA r ≠ .atReset)
    (hquota : ∀ n, s.session sid = some n → capUsed s n + 1024 ≤ s.nat (SS_Q_CAPTURE n.profile)) :
    ∃ v, s.readObj sid rq C_DATA = (some 0, fieldAt s.capBytes.1 (s.nat C_READ_OFFSET) 1024, v) := by
  have hfind := find_captureData
  rw [← content_captureData s sid]
  have hlen : (s.content sid C_DATA).1.length ≤ 1024 := by
    rw [content_captureData]
    exact fieldAt_length_le ..
  unfold State.readObj
  cases hr : Catalog.find C_DATA with
  | none => simp [hr] at hfind
  | some r =>
    simp only [hr, Option.any_some, Bool.and_eq_true, decide_eq_true_eq] at hfind
    obtain ⟨hacc, hlong⟩ := hfind
    simp only [hcode, if_neg hacc, if_neg (hreach r hr), hlong, hnew, if_true, Option.getD_none]
    cases hn : s.session sid with
    | none => exact ⟨_, rfl⟩
    | some n =>
      have hroom := hquota n hn
      simp only
      rw [if_neg (by omega)]
      exact ⟨_, rfl⟩

theorem readObj_changes (s : State) (sid rq k : Nat) : Only (· ∈ .sessions :: readParts rq) s (s.readObj sid rq k).2.2 := by
  refine State.readObj_only .refl ?_ ?_ ?_ ?_ ?_ ?_ <;> simp [readParts, portParts]

theorem served_of_readCode {sid k c : Nat} (h : readCode s sid k = some c) : served s sid k = true := by
  by_contra hserved
  rw [readCode, Bool.eq_false_iff.mpr hserved] at h
  exact absurd h (by simp)

theorem countRefused_zero (s : State) (sid : Nat) : s.countRefused sid 0 = s := if_neg (by decide)

/-- A request that finds a token is run in the state that has paid it. -/
theorem charged_of_token {b : By} {head : Nat} {k : State → Option Nat × Bytes × State} {bs : Bytes} {v : State}
    (htoken : (s.takeToken b.sid).1 ≠ .refused) (hk : k (paid s b) = (some 0, bs, v)) :
    s.charged b.sid head k = v.emit (.result 0 bs) := by
  have hpaid : (s.takeToken b.sid).2 = paid s b := rfl
  simp only [State.charged, if_neg htoken, hpaid, hk, Option.getD_some, countRefused_zero]
  rfl

/-- A read of C_DATA within the quota answers the buffer from C_READ_OFFSET on. -/
theorem captureDataRead_answers (t : Nat) (b : By) (hcode : readCode (s.at_ t) b.sid C_DATA = some 0)
    (htoken : ((s.at_ t).takeToken b.sid).1 ≠ .refused) (hpaid : readCode (paid (s.at_ t) b) b.sid C_DATA = some 0)
    (hnew : oldValue (paid (s.at_ t) b) C_DATA = none)
    (hreach : ∀ r, Catalog.find C_DATA = some r → reach (paid (s.at_ t) b) C_DATA r ≠ .atReset)
    (hquota : ∀ n, (paid (s.at_ t) b).session b.sid = some n →
      capUsed (paid (s.at_ t) b) n + 1024 ≤ s.nat (SS_Q_CAPTURE n.profile)) :
    Yields (.captureDataRead t b) s (fun u =>
      .result 0 (fieldAt (paid (s.at_ t) b).capBytes.1 (s.nat C_READ_OFFSET) 1024) ∈ u.outs ∧
      Frame (· ∈ .sessions :: readParts b.rq) (paid (s.at_ t) b) u) := by
  have hpays : Only (· ∈ [.sessions, .best, .bestAt, .obj SS_COUNT, .obj SS_GUAR_SUM, .obj SS_ROUTES]) (s.at_ t) (paid (s.at_ t) b) :=
    State.takeToken_only .refl (by simp) (by simp) (by simp) (by simp) (by simp) (by simp)
  have hkept : ∀ {k : Nat}, 0x120704 ≤ k → (paid (s.at_ t) b).nat k = s.nat k := fun {k} hk =>
    congrArg Int.toNat (hpays (.obj k) (by
      simp only [List.mem_cons, Part.obj.injEq, List.not_mem_nil, reduceCtorEq, false_or, or_false, SS_COUNT, SS_GUAR_SUM, SS_ROUTES]
      omega))
  obtain ⟨v, hread⟩ := readObj_captureData (rq := b.rq) hpaid hnew hreach (fun n hn => by
    rw [hkept (by simp only [SS_Q_CAPTURE]; omega)]
    exact hquota n hn)
  rw [hkept (by decide)] at hread
  have hkey : ∀ d : Nat, (d * 16777216 + C_DATA) % 16777216 = C_DATA := fun d => Nat.mul_add_mod_of_lt (by decide)
  have hexec : exec (.captureDataRead t b) s =
      .next (v.emit (.result 0 (fieldAt (paid (s.at_ t) b).capBytes.1 (s.nat C_READ_OFFSET) 1024))).settle := by
    rw [exec_captureDataRead, execCaptureDataRead, served_of_readCode hcode]
    refine congrArg done ((if_neg (by decide)).trans (charged_of_token htoken ?_))
    simp only [State.runRecord, hkey, hread]
  have hchanges := readObj_changes (paid (s.at_ t) b) b.sid b.rq C_DATA
  rw [hread] at hchanges
  refine ⟨_, hexec, ?_, ((hchanges.mono (fun _ => .inl)).emit (.inr (by simp [Safety.ends]))).ends⟩
  rw [State.settle_outs]
  exact List.mem_append_right _ List.mem_cons_self

/-- Settles O28: the reads of a tick touch the parameter store alone, so its sources, its trigger and its record are those of the state
in which the tick comes. -/
theorem captureCommands : Obligations.CaptureCommands :=
  ⟨captureClaim_wakes, captureRelease_aborts, captureArm_arms, fun _ t hOn hdue => captureTick_holds t hOn hdue,
    fun _ t hOn hdue hstate hdecim => captureTick_records t hOn hdue hstate hdecim,
    fun _ t hOn hdue hstate htrig hdecim => captureTick_triggers t hOn hdue hstate htrig hdecim,
    fun _ t hOn hdue hstate htrig hdecim => captureTick_waits t hOn hdue hstate htrig hdecim,
    fun _ t b hcode htoken hpaid _ _ hnew hreach hquota => captureDataRead_answers t b hcode htoken hpaid hnew hreach hquota⟩

end Sys2Proof.Safety

/-! SUPPORT. A written local word with a reserved bit: the write is accepted, and the object takes the word with its reserved bits
cleared (R557), so it does not end as its statement says. -/

namespace Sys2Proof.Safety
open Sys2Proof.Machine Sys2Proof.Machine.Obj

/-! ### The local word (R263, R557) -/

/-- The bits of a local word that have a meaning, [12:0] (R263). -/
def localBits : Nat := 0x1FFF

/-- A written local word has no effect beside its value in the object, whatever the axis. -/
theorem effect_localWord (s : State) (b : By) (st dm : Nat) (bs : Bytes) (v : Int) (a : Fin 4) :
    s.effect b st dm (SF_REQ_LOCAL a) bs v = s.set (SF_REQ_LOCAL a) v := by
  fin_cases a <;> rfl

/-- An accepted write of the local word leaves its defined bits in the object (R263, R557). -/
theorem localWordWrite_takesDefinedBits {s : State} {t : Nat} {b : By} {a : Fin 4} {w : BitVec 16}
    (h : allowed (s.at_ t) b (SF_REQ_LOCAL a) w.toNat = true) :
    Yields (.localWordWrite t b a w) s (fun u => u.nat (SF_REQ_LOCAL a) = w.toNat &&& localBits) := by
  have hkeys : ∀ a : Fin 4, poleKey (SF_REQ_LOCAL a) = false ∧ bitsKey (SF_REQ_LOCAL a) 2 localBits = true ∧
      keySlotAt (SF_REQ_LOCAL a) = none ∧ shownKey (SF_REQ_LOCAL a) = false := by decide +kernel
  obtain ⟨hpole, hbits, hslot, hshown⟩ := hkeys a
  have hexec : exec (.localWordWrite t b a w) s =
      .next (((judged (s.at_ t) b (SF_REQ_LOCAL a)).set (SF_REQ_LOCAL a) (w.toNat &&& localBits : Nat)).emit (.result 0 [])).settle := by
    rw [exec_localWordWrite, execLocalWordWrite, writeCmd_bits hpole hbits w.isLt (by decide) h, effect_localWord,
      afterKey_none hslot, done]
  refine ⟨_, hexec, ?_⟩
  dsimp only
  rw [State.settle_nat _ hshown, State.emit_nat, State.nat_set, if_pos rfl, Int.toNat_natCast]

/-- A local word with bit 13 set alone, which is reserved (R263). -/
def reservedWord : BitVec 16 := 0x2000

/-- A write of it passes every check of R321 (R557): here that of the firmware, an Operator, for axis 1. -/
theorem reservedWord_allowed : allowed ((atDefaults []).at_ 0) byFirmware (SF_REQ_LOCAL (1 : Fin 4)) reservedWord.toNat = true := by
  decide +kernel

/-- Refutes O29: a written local word with a reserved bit is accepted and its reserved bits are cleared (R557), so SF_REQ_LOCAL reads 0
after a write of 0x2000, while the statement has it read the word as written. -/
theorem not_safetyCommands : ¬ Obligations.SafetyCommands := by
  intro h
  obtain ⟨-, -, -, -, -, -, -, -, hlocal⟩ := h
  obtain ⟨u, hexec, -, hkept, -⟩ := hlocal (atDefaults []) 0 byFirmware 1 reservedWord reservedWord_allowed
  obtain ⟨v, hexec', hcleared⟩ := localWordWrite_takesDefinedBits reservedWord_allowed
  cases hexec.symm.trans hexec'
  exact absurd (hkept.symm.trans hcleared) (by decide)

end Sys2Proof.Safety
